-- ==== Sys2Proof/Word.lean ====
section
/-! DEFINITION. The smallest units: bytes, bit fields of a number, two's complement, little-endian byte strings (R9). -/
namespace Sys2Proof

/-- A byte (R9). -/
abbrev Byte := BitVec 8

/-- The bits [lo + w - 1 : lo] of a number (R9). -/
def bits (v lo w : Nat) : Nat := (v >>> lo) % 2 ^ w

/-- Bit i of a number. -/
def bitOf (v i : Nat) : Bool := v.testBit i

/-- A w-bit pattern read as two's complement (R12). -/
def toSigned (w v : Nat) : Int := if v < 2 ^ (w - 1) then (v : Int) else (v : Int) - (2 ^ w : Nat)

/-- The w-bit two's-complement pattern of an integer (R12). -/
def ofSigned (w : Nat) (i : Int) : Nat := (i % ((2 ^ w : Nat) : Int)).toNat

/-- A truth value as one bit. -/
def b2n (b : Bool) : Nat := if b then 1 else 0

/-- The n low bytes of a number, least significant first (R9). -/
def leBytes : Nat → Nat → List Byte
  | 0, _ => []
  | n + 1, v => BitVec.ofNat 8 v :: leBytes n (v / 256)

/-- The number that a little-endian byte string spells (R9). -/
def leNat : List Byte → Nat
  | [] => 0
  | b :: t => b.toNat + 256 * leNat t

/-- The number that a big-endian byte string spells (RFC 8017 octet strings, R437). -/
def beNat (l : List Byte) : Nat := l.foldl (fun a b => 256 * a + b.toNat) 0

/-- The n bytes from offset o of a byte string; bytes beyond its end read as zero. -/
def slice (l : List Byte) (o n : Nat) : List Byte :=
  let t := (l.drop o).take n
  t ++ List.replicate (n - t.length) 0

/-- The little-endian number of n bytes at offset o of a byte string. -/
def leAt (l : List Byte) (o n : Nat) : Nat := leNat ((l.drop o).take n)

/-- Every byte of the string is zero. -/
def allZero (l : List Byte) : Bool := l.all (· == 0)

/-- Quotient rounded up. -/
def ceilDiv (a b : Nat) : Nat := (a + b - 1) / b

/-- The next multiple of 64 at or above a number. -/
def ceil64 (n : Nat) : Nat := 64 * ceilDiv n 64

end Sys2Proof
end

