-- ==== Sys2Proof/Syntax.lean ====
section
/-! DEFINITION. The commands that the device takes: one constructor for each row of the spec's table of operations and
events. Where the outcome of an event is not the device's own choice (when it comes, what a link carries, what a sensor
reads), the command carries it; an operand with a default may be left out, and stands then for the ordinary case. -/
namespace Sys2Proof

/-- A loom number (R20). -/
abbrev LoomNo := Fin 144
/-- A stack number (R18). -/
abbrev StackNo := Fin 12
/-- A fabric port (R34). -/
abbrev PortNo := Fin 6
/-- An Ethernet port (R34). -/
abbrev EthNo := Fin 18
/-- A NAND channel (R34). -/
abbrev ChanNo := Fin 16
/-- A bolt (R328). -/
abbrev BoltNo := Fin 64
/-- A residency slot (R328). -/
abbrev SlotNo := Fin 64

/-- Who asks for an access (R33, R256, R508): a host core, Selvedge, an engine of a loom (its UNIT of R233), the collective engine, or a peer
device (its chip, and whether the packet came on the control virtual channel). -/
inductive Requester where
  | host
  | selvedge
  | loomEngine (n : LoomNo) (unit : Nat)
  | collective
  | peer (chip : Nat) (control : Bool)
  deriving DecidableEq, Repr

/-- An access to the local address space (R31, R534): requester, direction, address, length in bytes of a read, bytes of a
write, tenant, whether a write's data is marked poisoned, and whether a read is an instruction fetch of a host core. -/
structure Access where
  req : Requester
  write : Bool
  addr : Nat
  len : Nat
  data : List Byte
  tenant : Nat
  poison : Bool
  fetch : Bool := false
  deriving DecidableEq, Repr

/-- What the second read of a corrected word shows, that it was corrected in the merge of a partial write, or that it cannot be
corrected (R257, R259). -/
inductive EccKind where
  | transient
  | lasting
  | merged
  | uncorrectable
  deriving DecidableEq, Repr

/-- A scratchpad word in error: its byte address and how the error classifies. -/
structure SpadEv where
  addr : Nat
  kind : EccKind
  deriving DecidableEq, Repr

/-- One access of a Draft engine to the scratchpad in a Draft cycle (R251): its port, by the bit of PORTS, its address, its bytes and
its direction; `data` is what a write lays down, where another write of the same cycle covers bytes of it (R252). -/
structure PortAccess where
  port : Fin 7
  addr : Nat
  len : Nat
  write : Bool
  data : List Byte := []
  deriving DecidableEq, Repr

/-- Memory events during an operation: by Draft cycle, the words in error that the engines' reads meet (R257), and the accesses that
fall due together (R252). -/
structure CycleEvs where
  ecc : List (List SpadEv) := []
  cycles : List (List PortAccess) := []
  deriving DecidableEq, Repr

/-- An HBM sector in error, by a local address in it, and how the error classifies (R342). -/
structure HbmEv where
  addr : Nat
  kind : EccKind
  deriving DecidableEq, Repr

/-- What a sealing step made for one of its streams (R310, R313, R322): the accepted tokens in order. -/
structure SealOut where
  stream : Nat
  tokens : List Nat
  deriving DecidableEq, Repr

/-- A datagram of the management port and the header of the message in it (R450): whom it comes from and goes to, MAGIC, ARCH_LEVEL,
RESP, whether a reserved bit is 1, LEN, SEQ and SESSION. OP is the command's own. -/
structure MgmtHdr where
  src : BitVec 128
  dst : BitVec 128
  udp : BitVec 16
  magic : BitVec 32
  level : BitVec 4
  resp : Bool
  reserved : Bool
  len : Nat
  seq : Nat
  session : List Byte
  /-- A reserved OP, or HELLO's, in the place of the OP of the row (R450); none: the row's. -/
  badOp : Option (BitVec 8) := none
  deriving DecidableEq, Repr

/-- Where a Selvedge command comes from (R450, R461): SLV_CMD, or a CMD message with its OP and arguments. A reserved OP may come in the
place of any command's. -/
inductive CmdSrc where
  | regs
  | port (hdr : MgmtHdr) (op : Nat) (args : List Nat)
  deriving DecidableEq, Repr

/-- Why Selvedge benches a unit (R466): a command, or SPD_STATUS.BENCH_REQ of a loom. -/
inductive BenchWhy where
  | command (src : CmdSrc)
  | request (n : LoomNo)
  deriving DecidableEq, Repr

/-- A sensor sample (R433): a temperature in 1/16 °C as 16 bits, a rail in mV, or a VDD_CORE current in A. -/
inductive Sample where
  | temp (i : Fin 76) (deg : BitVec 16)
  | rail (r : Fin 16) (mv : Nat)
  | icore (k : Fin 3) (amps : Nat)
  deriving DecidableEq, Repr

/-- What training finds on a NAND channel (R358): 16 KiB units in a block, blocks, page size in KiB,
targets, the rate in units of 100 MT/s, and bad blocks. -/
structure ChanTrain where
  chan : ChanNo
  blkUnits : Nat
  blocks : Nat
  pageKib : Nat
  targets : Nat
  mts : Nat
  bad : List Nat
  deriving DecidableEq, Repr

/-- The commands, in the order of the spec's table. -/
inductive Instr where
  /-- REGISTER_WRITE (R535): A write to registers that have no row of their own updates RW fields, clears W1C bits written 1 and ignores reserved and RO bits, byte by byte. -/
  | registerWrite (req : Requester) (addr : Nat) (data : List Byte)
  /-- LOCAL_ACCESS (R534): An access to the local address space is decoded byte by byte, performed where OK, and completes with the first non-OK decode status. -/
  | localAccess (a : Access) (deferred : Nat := 0) (ecc : List SpadEv := [])
  /-- LEDGER_GRANT (R38): The ledger decides the request at the head of the arrival order and grants it whole when it fits the free credits under the budget. -/
  | ledgerGrant (waited : Nat) (cycles : Nat := 0)
  /-- HOLD_RESUME (R241): When the activity that caused a hold or slip completes, the loom's schedule resumes in the next cycle. -/
  | holdResume (n : LoomNo) (cycles : Nat)
  /-- SLACK_EXPIRE (R242): When a ledger wait, WAIT or GCHECK pause outlasts its declared slack, the loom enters a hold of cause LEDGER or REMOTE. -/
  | slackExpire (n : LoomNo) (cycles : Nat := 0)
  /-- PAUSE_BUDGET_EXPIRE (R242): A WAIT or GCHECK pause ends when its BUDGET or 96 cycles have passed and its event or verdict is ready. -/
  | pauseBudgetExpire (n : LoomNo) (cycles : Nat)
  /-- ACC_VIEW_WRITE (R56): A write through the accumulator view merges the written bytes into the 8-byte view value, saturates it to ±(2^39 − 1) and stores it without setting SAT. -/
  | accViewWrite (n : LoomNo) (off : Nat) (data : List Byte) (req : Requester := .host) (tenant : Nat := 0)
  /-- ACC_WIN_WRITE (R103): A write to ACC_WIN sets a row's window exponent of a physical set between two loom cycles. -/
  | accWinWrite (n : LoomNo) (set : Fin 2) (row : Fin 512) (value : Nat)
  /-- ACC_CNT_CLR (R102): Writing 1 to ACC_CTL.CNT_CLR clears ACC_CNT_SAT and ACC_CNT_ZERO. -/
  | accCntClr (n : LoomNo)
  /-- ARRAY_SUM (R79): An ARRAY word with REDUCE SUM runs one row cycle per activation row and pass, adding aligned block sums into the active accumulator set. -/
  | arraySum (n : LoomNo) (evs : CycleEvs)
  /-- ARRAY_MAX (R97): An ARRAY word with REDUCE MAX keeps the largest aligned term and its lowest K index per accumulator. -/
  | arrayMax (n : LoomNo) (evs : CycleEvs := {})
  /-- ARRAY_MIN (R97): An ARRAY word with REDUCE MIN keeps the smallest aligned term and its lowest K index per accumulator. -/
  | arrayMin (n : LoomNo) (evs : CycleEvs := {})
  /-- ARRAY_RESULT_LAND (R89): The result of a row cycle lands in the accumulator ARR_LAT cycles after it started, and IN_FLIGHT falls when none remain. -/
  | arrayResultLand (n : LoomNo)
  /-- TILE_BARRIER (R119): The tile barrier falls at the later of the tile length and the budget, idling, slipping or holding for the excess. -/
  | tileBarrier (n : LoomNo)
  /-- WINLOAD (R234): WINLOAD reads 512 window exponents from the scratchpad in 4 cycles and writes them to the named set, adjusted by the guard in REPLAY and FALLBACK. -/
  | winload (n : LoomNo) (evs : CycleEvs := {})
  /-- SWAP (R91): SWAP exchanges the active and shadow accumulator sets, or faults with SWAP_EARLY if results or a drain are in flight. -/
  | swap (n : LoomNo)
  /-- DRAIN (R92): DRAIN converts rows of the shadow set to FP32, optionally scales, writes them in the named format and optionally zeroes them. -/
  | drain (n : LoomNo) (evs : CycleEvs)
  /-- DRAIN_DONE (R94): A drain ends after DRAIN_LAT plus c × DROWS cycles and DRAIN_BUSY falls. -/
  | drainDone (n : LoomNo)
  /-- TLOAD (R114): TLOAD checks the tile header and loads the tile into a weight buffer over exactly DECODE_CYCLES cycles. -/
  | tload (n : LoomNo) (evs : CycleEvs := {})
  /-- TLOAD_DONE (R114): At the end of the last load cycle the weight buffer becomes valid. -/
  | tloadDone (n : LoomNo)
  /-- TBLLOAD (R153): TBLLOAD copies a 128-byte code table into a table slot over 8 cycles, checking it, or faults if the slot is busy. -/
  | tblload (n : LoomNo) (evs : CycleEvs := {})
  /-- TBLLOAD_DONE (R131): At the end of a table load the slot becomes valid or stays not valid with the refusal status in DMA_TBL_STS. -/
  | tblloadDone (n : LoomNo)
  /-- LOAD (R129): LOAD reads a tensor descriptor and moves its units into the scratchpad, decoding coded units and staging KV pages. -/
  | load (n : LoomNo) (evs : CycleEvs)
  /-- STORE (R155): STORE writes units from the scratchpad, choosing each tile's form and coding units when permitted, in a fixed time. -/
  | store (n : LoomNo) (evs : CycleEvs := {})
  /-- DMA_DONE (R155): A DMA load or store ends at its fixed duration. -/
  | dmaDone (n : LoomNo)
  /-- SCORE (R163): SCORE checks the page descriptors, forms scores, their maximum and the log-sum for each query row. -/
  | score (n : LoomNo) (evs : CycleEvs := {})
  /-- PV (R171): PV converts scores to LOG8 probabilities and adds probability-weighted V terms and the mass SUMP. -/
  | pv (n : LoomNo) (evs : CycleEvs := {})
  /-- ADRAIN (R172): ADRAIN divides each output by its probability mass, writes the result and LSE, and clears the attention state. -/
  | adrain (n : LoomNo) (evs : CycleEvs := {})
  /-- ATT_PHASE_DONE (R175): An attention phase ends at its fixed duration and sets SCORED or PV_DONE. -/
  | attPhaseDone (n : LoomNo)
  /-- COMBINE (R174): COMBINE merges 2 to 16 partial attention results by their LSE weights. -/
  | combine (n : LoomNo) (evs : CycleEvs := {})
  /-- DOT (R177): DOT forms BF16 or FP32 matrix products with 16 partial sums per output combined pairwise. -/
  | dot (n : LoomNo) (evs : CycleEvs := {})
  /-- NORM_RMS (R179): NORM in RMS mode scales each row by the reciprocal root mean square and the gain. -/
  | normRms (n : LoomNo) (evs : CycleEvs := {})
  /-- NORM_LAYER (R179): NORM in layer mode subtracts the mean, scales by the reciprocal deviation, the gain and the bias. -/
  | normLayer (n : LoomNo) (evs : CycleEvs := {})
  /-- EMBED (R180): EMBED reads embedding rows by token ID and scales them, writing a poisoned zero row for an out-of-range ID. -/
  | embed (n : LoomNo) (evs : CycleEvs := {})
  /-- ELEM_ADD (R178): ELEM with FUNC ADD adds two vectors elementwise. -/
  | elemAdd (n : LoomNo) (evs : CycleEvs := {})
  /-- ELEM_MUL (R178): ELEM with FUNC MUL multiplies two vectors elementwise. -/
  | elemMul (n : LoomNo) (evs : CycleEvs := {})
  /-- ELEM_FMA (R178): ELEM with FUNC FMA forms a fused multiply-add elementwise. -/
  | elemFma (n : LoomNo) (evs : CycleEvs := {})
  /-- ELEM_DIV (R178): ELEM with FUNC DIV divides elementwise, correctly rounded. -/
  | elemDiv (n : LoomNo) (evs : CycleEvs := {})
  /-- ELEM_RECIP (R178): ELEM with FUNC RECIP forms reciprocals within 1 ulp. -/
  | elemRecip (n : LoomNo) (evs : CycleEvs := {})
  /-- ELEM_RSQRT (R178): ELEM with FUNC RSQRT forms reciprocal square roots within 1 ulp. -/
  | elemRsqrt (n : LoomNo) (evs : CycleEvs := {})
  /-- ELEM_EXP2 (R178): ELEM with FUNC EXP2 forms powers of two within 2 ulp. -/
  | elemExp2 (n : LoomNo) (evs : CycleEvs := {})
  /-- ELEM_LOG2 (R178): ELEM with FUNC LOG2 forms base-2 logarithms within 2 ulp. -/
  | elemLog2 (n : LoomNo) (evs : CycleEvs := {})
  /-- BRZ_OP_DONE (R176): A Bronze unit operation ends at its fixed duration. -/
  | brzOpDone (n : LoomNo)
  /-- GBEGIN (R188): GBEGIN opens a guarded span with a layer tag and threshold set, or faults with NEST. -/
  | gbegin (n : LoomNo)
  /-- GCHECK (R190): GCHECK waits for the span's work to complete, evaluates the loom's trip vote and sends it to the guard group. -/
  | gcheck (n : LoomNo)
  /-- GCHECK_VERDICT (R195): When every vote has arrived, the group verdict moves the guard mode and either completes the span or restarts it at GBEGIN. -/
  | gcheckVerdict (n : LoomNo)
  /-- GRD_CTL_WRITE (R206): A write to GRD_CTL or GRD_THR takes effect at the next GBEGIN, and CNT_CLR clears the GRD_TOT registers. -/
  | grdCtlWrite (n : LoomNo) (addr : Nat) (data : List Byte)
  /-- TDOT (R215): A Bobbin TDOT streams stochastic bits of activations against ternary weights and writes estimated outputs. -/
  | tdot (n : LoomNo) (evs : CycleEvs := {})
  /-- PRED (R218): A Bobbin PRED runs two TDOT stages through an FP4 intermediate and writes a MASK of predicted-active neurons. -/
  | pred (n : LoomNo) (evs : CycleEvs := {})
  /-- SDOT (R216): A Bobbin SDOT estimates one dot product per row from ANDed streams of two operands. -/
  | sdot (n : LoomNo) (evs : CycleEvs := {})
  /-- BOB_DONE (R224): A Bobbin operation ends at its fixed duration and BUSY falls. -/
  | bobDone (n : LoomNo)
  /-- RUN_START (R231): Writing LOOM_CTL.RUN 1 on a stopped loom checks the Draft header and starts the sequencer at ENTRY, or faults with HEADER. -/
  | runStart (n : LoomNo)
  /-- RUN_STOP (R231): Writing LOOM_CTL.RUN 0 stops the sequencer after its next END. -/
  | runStop (n : LoomNo)
  /-- LOOM_CNT_CLR (R261): Writing 1 to LOOM_CTL.CNT_CLR clears LOOM_HOLD_CNT and LOOM_HOLD_CYC. -/
  | loomCntClr (n : LoomNo)
  /-- DRAFT_STORE_WRITE (R232): A write to the Draft store is performed while the loom is stopped and discarded with DENIED while it runs. -/
  | draftStoreWrite (n : LoomNo) (req : Requester) (off : Nat) (data : List Byte) (tenant : Nat := 0)
  /-- NOP (R234): NOP issues and does nothing. -/
  | nop (n : LoomNo)
  /-- STEP (R237): STEP idles the sequencer until the serving controller launches the next step. -/
  | step (n : LoomNo)
  /-- STEP_LAUNCH (R237): A launch reaching a loom at STEP clears its per-step counters and guard summary and latches the step number. -/
  | stepLaunch (n : LoomNo)
  /-- END (R237): END pauses issue until the step's operations have completed and its writes are acknowledged. -/
  | endStep (n : LoomNo)
  /-- END_REPORT (R237): When END's pause ends, the loom reports the step, latches LOOM_STEP_ACTUAL, resets the current queue half and continues at ENTRY. -/
  | endReport (n : LoomNo) (cycles : Nat)
  /-- LOOP (R238): LOOP starts a loop body run for its iteration count, or faults beyond depth 4 or with count 0. -/
  | loop (n : LoomNo)
  /-- ENDLOOP (R238): ENDLOOP repeats the body or leaves the loop. -/
  | endloop (n : LoomNo)
  /-- SKIPZ (R238): SKIPZ continues at its target when the named queue's or count register's tally total is zero. -/
  | skipz (n : LoomNo)
  /-- WAIT_TALLY (R282): A WAIT of class TALLY pauses until the current half of a queue has every tally and every landed record. -/
  | waitTally (n : LoomNo)
  /-- WAIT_COLL (R397): A WAIT of class COLL joins a collective, giving the engine the loom's source segment, and pauses until the result is written. -/
  | waitColl (n : LoomNo)
  /-- WAIT_WRITES (R279): A WAIT of class WRITES pauses until every write the loom issued is acknowledged. -/
  | waitWrites (n : LoomNo)
  /-- TILE (R236): TILE opens a tile that lasts BUDGET cycles after its credits are granted. -/
  | tile (n : LoomNo)
  /-- REPAY (R246): REPAY pauses issue for the unslipped part of the chain's outlier slack and empties the pool. -/
  | repay (n : LoomNo)
  /-- PEER_FAULT_STOP (R248): A loom whose bolt peer faulted sets PEER_FAULT and stops at its next WAIT, GCHECK or END. -/
  | peerFaultStop (n : LoomNo)
  /-- SCRUB_LINE (R260): In a cycle when a bank is idle the scrubber reads its next line, correcting and classifying errors without a hold. -/
  | scrubLine (n : LoomNo) (bank : Fin 48) (evs : List SpadEv)
  /-- NC_INBOUND_SERVE (R255): The NC port performs a waiting inbound access in a cycle when its banks are free, checking it against the inbound windows. -/
  | ncInboundServe (n : LoomNo) (deferred : Nat) (ecc : List SpadEv := [])
  /-- ROUTE (R276): ROUTE selects each token's top experts, computes gates and decides keeps, drops and slots by quota. -/
  | route (n : LoomNo) (evs : CycleEvs := {})
  /-- SCATTER (R279): SCATTER writes kept tokens as records to every replica's queue, claims overflow slots and zero-fills dropped return slots. -/
  | scatter (n : LoomNo) (evs : CycleEvs := {})
  /-- TALLY (R280): TALLY sends a token tally to every replica of every expert of a map range. -/
  | tally (n : LoomNo) (evs : CycleEvs := {})
  /-- RETURN (R284): RETURN writes expert output rows back to their sources, clears the records and sends return tallies. -/
  | shtReturn (n : LoomNo) (evs : CycleEvs := {})
  /-- MASKSET (R286): MASKSET turns predictor masks into panel KEEP and RUN counts and selects audited panels. -/
  | maskset (n : LoomNo) (evs : CycleEvs := {})
  /-- AUDIT (R288): AUDIT counts predictor misses in an audited panel and closes the audit window when it is full. -/
  | audit (n : LoomNo) (evs : CycleEvs := {})
  /-- EXIT (R289): EXIT exits confident rows, appending fill entries, marking later KV slots pending and zeroing the rows. -/
  | exit (n : LoomNo) (evs : CycleEvs := {})
  /-- FILL (R293): FILL writes back-filled K and V into pending KV slots and marks them valid, or counts stale entries. -/
  | fill (n : LoomNo) (evs : CycleEvs := {})
  /-- SHT_OP_DONE (R294): A Shuttle operation ends within its bound and BUSY falls. -/
  | shtOpDone (n : LoomNo)
  /-- RECORD_LANDING (R281): A token record or return row arriving at a Shuttle is accepted and counted in LANDED, or discarded and recorded. -/
  | recordLanding (n : LoomNo) (deferred : Nat := 0) (ecc : List SpadEv := [])
  /-- TALLY_MSG (R282): A received tally adds its COUNT to TSUM and TCNT of its half, or is discarded and counted. -/
  | tallyMsg (n : LoomNo)
  /-- OVF_CLAIM (R278): An overflow claim at the first replica increments the half's counter and grants a slot or refuses. -/
  | ovfClaim (n : LoomNo)
  /-- OVF_GRANT (R278): A claim reply makes the choice kept in the granted slot or dropped and counted in SHT_CNT_OVF_FULL. -/
  | ovfGrant (n : LoomNo)
  /-- ADMIT (R308): An ADMIT request is checked, priced, and either refused or admitted with a Stream Table entry, pages and a promise. -/
  | admitRq
  /-- CANCEL (R320): A CANCEL request records a cancel that takes effect at the stream's next step boundary. -/
  | cancel
  /-- EVICT (R324): An EVICT request empties a slot with no streams that is not loading. -/
  | evict
  /-- BOLT_OPEN (R307): A BOLT request with OPEN 1 opens a bolt and recomputes STRETCH, or is refused. -/
  | boltOpen
  /-- BOLT_CLOSE (R307): A BOLT request with OPEN 0 closes a bolt and recomputes STRETCH, or is refused. -/
  | boltClose
  /-- VARIANT_LOAD_DONE (R323): When the variant copy completes the slot becomes RESIDENT and its streams enter prefill. -/
  | variantLoadDone (i : SlotNo)
  /-- VARIANT_LOAD_FAIL (R323): A load that fails in its tier aborts its waiting streams and leaves the slot EMPTY. -/
  | variantLoadFail (i : SlotNo)
  /-- SVC_ALLOW_WRITE (R304): A write to an allowance register or SVC_OVERHEAD makes the SVC recompute TW_NS and TD_NS for every valid slot. -/
  | svcAllowWrite (addr : Nat) (data : List Byte)
  /-- SVC_FLOOR_MHZ_WRITE (R305): A write of 900 to 1,850 to SVC_FLOOR_MHZ sets the floor clock and triggers recomputation; others are ignored. -/
  | svcFloorMhzWrite (value : Nat)
  /-- SVC_RQ_SIZE_WRITE (R329): A write to SVC_RQ_SIZE that is not a power of two in range sets SVC_ERR.RQ_BAD and stops processing. -/
  | svcRqSizeWrite (value : Nat)
  /-- SVC_CNT_CLR (R329): Writing 1 to SVC_CTL.CNT_CLR clears the SVC_CNT registers. -/
  | svcCntClr
  /-- STEP_FREEZE (R310): The SVC freezes a bolt's next batch and launches every loom of its step group with one step number. -/
  | stepFreeze (b : BoltNo)
  /-- STEP_SEAL (R310): When every loom has reported END, the SVC delivers tokens, charges tenants, checks due times, reads the fill list and writes records. -/
  | stepSeal (b : BoltNo) (outs : List SealOut) (poisoned : List Nat)
  /-- STEP_TIMEOUT (R315): A step that outlasts SVC_STEP_TIMEOUT quarters of its priced time is aborted with cause STALL. -/
  | stepTimeout (b : BoltNo)
  /-- TOKEN_REFILL (R321): Each time SVC_TIME passes a whole millisecond every tenant's bucket LEVEL rises by RATE up to DEPTH. -/
  | tokenRefill
  /-- REGION_WRITE (R332): HBM_RGN_CMD with OP WRITE checks the staged entry and commits it to the region table or refuses it with a status. -/
  | regionWrite (idx : Fin 4096)
  /-- REGION_CLEAR (R332): HBM_RGN_CMD with OP CLEAR invalidates a region entry or refuses. -/
  | regionClear (idx : Fin 4096)
  /-- HBM_ACCESS (R333): An access to HBM is checked against the region table and served through the memory-side cache under its hint. -/
  | hbmAccess (a : Access) (ecc : List HbmEv)
  /-- CACHE_FLUSH (R339): Writing 1 to MSC_CTL.FLUSH starts writing back and invalidating every line of the stack. -/
  | cacheFlush (k : StackNo)
  /-- CACHE_FLUSH_DONE (R339): When the flush completes MSC_STATUS.FLUSH_BUSY falls. -/
  | cacheFlushDone (k : StackNo)
  /-- HBM_LOOP_WRITE (R343): A write to HBM_PHY_CTL.LOOP selects near- or far-end loopback if the stack is benched or untrained. -/
  | hbmLoopWrite (k : StackNo) (value : Nat)
  /-- KEY_LOAD (R346): SEC_KEY_CMD with OP LOAD loads the XTS key pair into a slot, or reports WEAK. -/
  | keyLoad (slot : Fin 1024)
  /-- KEY_ZERO (R346): SEC_KEY_CMD with OP ZERO clears a key slot. -/
  | keyZero (slot : Fin 1024)
  /-- CREATE (R349): The FTL command CREATE creates an object for a tenant with a given capacity. -/
  | create
  /-- WRITE (R349): The FTL command WRITE writes bytes from HBM to an object, journalling its map changes. -/
  | write (fails : List Nat)
  /-- READ (R349): The FTL command READ reads bytes of an object into HBM, retrying and poisoning undecodable codewords. -/
  | read (uncorr : List Nat) (retried : Nat)
  /-- READIMG (R352): The FTL command READIMG walks a model image and places its units into their slots. -/
  | readimg (uncorr : List Nat) (retried : Nat)
  /-- DELETE (R349): The FTL command DELETE deletes an object after every earlier command on it. -/
  | delete
  /-- STAT (R349): The FTL command STAT returns an object's written length. -/
  | stat
  /-- READ_REFRESH (R356): A block reaching FTL_RD_THR reads is refreshed by relocating its valid units. -/
  | readRefresh (block : Nat) (fails : List Nat := [])
  /-- WEAR_LEVEL (R356): The FTL relocates cold data when erase counts differ by more than FTL_WL_DELTA. -/
  | wearLevel (fails : List Nat := [])
  /-- LEND (R349): The NBT command LEND offers a tenant-0 region to a peer and sends OFFER. -/
  | lend
  /-- ACCEPT (R349): The NBT command ACCEPT accepts an offered lease for a tenant and sends ACCEPT. -/
  | accept
  /-- DECLINE (R349): The NBT command DECLINE declines an offered lease. -/
  | decline
  /-- RECLAIM (R349): The NBT command RECLAIM reclaims a lent lease with a deadline. -/
  | reclaim
  /-- WRITEBACK (R354): The NBT command WRITEBACK clears and copies the dirty sub-pages of a lease range. -/
  | writeback
  /-- CLEAN (R349): The NBT command CLEAN clears dirty bits without copying. -/
  | clean
  /-- RELEASE (R354): The NBT command RELEASE returns a lease, or completes NO_LEASE while dirty bits remain. -/
  | release
  /-- COPYIMG (R352): The NBT command COPYIMG places a model image held at a fabric address into a region. -/
  | copyimg
  /-- TIER_RING_SIZE_WRITE (R361): A write of an invalid ring size to FTL or NBT sets RING_BAD and stops processing. -/
  | tierRingSizeWrite (nbt : Bool) (value : Nat)
  /-- LEASE_OFFER (R353): A received OFFER makes the lease OFFERED. -/
  | leaseOffer
  /-- LEASE_ACCEPT (R353): A received ACCEPT sets LENT, PEER_EN and PEER_CHIP on the region and makes the lease ACTIVE. -/
  | leaseAccept
  /-- LEASE_DECLINE (R353): A received DECLINE frees the lease. -/
  | leaseDecline
  /-- LEASE_RECLAIM (R353): A received RECLAIM makes the lease RECLAIMING and denies further writes to it. -/
  | leaseReclaim
  /-- LEASE_RELEASE (R353): A received RELEASE clears LENT and PEER_EN and frees the lease. -/
  | leaseRelease
  /-- LEASE_REVOKE (R355): A received REVOKE makes the lease LOST at the borrower, recording and notifying. -/
  | leaseRevoke
  /-- LEASE_KEEPALIVE (R353): A received KEEPALIVE restarts the lease's keepalive-miss count. -/
  | leaseKeepalive
  /-- KEEPALIVE_SEND (R353): Every KA_US µs each side sends KEEPALIVE for each ACTIVE or RECLAIMING lease. -/
  | keepaliveSend
  /-- RECLAIM_DEADLINE (R355): When a reclaim deadline passes without RELEASE the lender clears PEER_EN and sends REVOKE. -/
  | reclaimDeadline (i : Fin 256)
  /-- KEEPALIVE_MISS (R355): After KA_MISS periods without KEEPALIVE a lease becomes LOST at the borrower or freed at the lender. -/
  | keepaliveMiss (lender : Bool) (i : Fin 256)
  /-- LINK_TRAINED (R384): A port whose lanes train, FEC locks and flits align moves from TRAINING to NEGOTIATE. -/
  | linkTrained (p : PortNo)
  /-- TRAIN_FAIL (R384): A training attempt that fails after 500 ms sets FAB_P_ERR.TRAIN_FAIL and training repeats. -/
  | trainFail (p : PortNo)
  /-- LOSS_OF_SIGNAL (R384): Loss of signal moves a port to TRAINING and routes to ALT. -/
  | lossOfSignal (p : PortNo)
  /-- RETRAIN (R384): Writing FAB_P_CTL.RETRAIN moves a port to TRAINING. -/
  | retrain (p : PortNo)
  /-- PORT_DISABLE_WRITE (R384): A write to FAB_P_CTL.DISABLE holds the port DISABLED or releases it. -/
  | portDisableWrite (p : PortNo) (value : Bool)
  /-- CAP_SEND (R385): Every 10 µs in NEGOTIATE the port sends its capability word in a CAP message. -/
  | capSend (p : PortNo)
  /-- CAP (R386): A received CAP is checked and the port moves to AUTH with the common level and features, or to QUARANTINE. -/
  | cap (p : PortNo)
  /-- NEGOTIATE_TIMEOUT (R384): No CAP within 10 ms returns the port to TRAINING. -/
  | negotiateTimeout (p : PortNo)
  /-- AUTH_CHAL (R387): A received AUTH_CHAL nonce makes the port send its AUTH_PROOF. -/
  | authChal (p : PortNo)
  /-- AUTH_PROOF (R387): A received AUTH_PROOF is verified and the port sends AUTH_RESULT. -/
  | authProof (p : PortNo)
  /-- AUTH_RESULT (R387): A received AUTH_RESULT moves the port to UP when both sides passed, or to QUARANTINE. -/
  | authResult (p : PortNo)
  /-- AUTH_TIMEOUT (R387): AUTH not completed within 2 s sends the port to QUARANTINE with cause AUTH_TIMEOUT. -/
  | authTimeout (p : PortNo)
  /-- FLIT_RECEIVE (R389): A received flit is checked, accepted in sequence or discarded with a NAK, and its ACK and credit return are applied. -/
  | flitReceive (p : PortNo) (flit : List Byte) (fecCorr : Nat) (fecBad : Bool)
  /-- NAK (R390): A received NAK replays every flit from ACK + 1 and counts the retry, taking the port DOWN past the limit. -/
  | nak (p : PortNo) (ack : Nat)
  /-- PACKET_FORWARD (R379): A packet whose header has arrived goes out its routed port once that virtual channel holds credit for all its flits. -/
  | packetForward (src : Fin 7) (vc : Fin 8)
  /-- PACKET_WRITE (R374): A WRITE packet reaching its destination is performed at ADDR and answered with WRACK if asked. -/
  | packetWrite
  /-- PACKET_READ (R374): A READ packet reaching its destination is performed and answered with READRESP. -/
  | packetRead
  /-- FETCH_ADD (R374): An ATOMIC packet with opcode FETCH_ADD adds atomically and returns the old value. -/
  | fetchAdd
  /-- MASKED (R374): An ATOMIC packet with opcode MASKED writes the masked bits atomically and returns the old value. -/
  | masked
  /-- READRESP (R374): A received READRESP completes the waiting read with its data and status. -/
  | readresp
  /-- WRACK (R374): A received WRACK completes the waiting write with its status. -/
  | wrack
  /-- ATOMRESP (R374): A received ATOMRESP completes the waiting atomic with its old value. -/
  | atomresp
  /-- REQUEST_TIMEOUT (R391): A request with no response within FAB_REQ_TIMEOUT completes with TIMEOUT, counted and recorded. -/
  | requestTimeout (tag : Fin 65536)
  /-- SYNC_SEND (R394): Every PERIOD_US a non-master device sends SYNC to its parent with T1. -/
  | syncSend
  /-- SYNC (R394): A received SYNC is answered with SYNC_RESP carrying T1, T2 and T3. -/
  | sync
  /-- SYNC_RESP (R394): A received SYNC_RESP gives offset and delay, and the device corrects FAB_EPOCH and its rate. -/
  | syncResp
  /-- REFCLK_LOSS (R395): Loss of REFCLK_RACK switches the epoch to the internal oscillator, sets REFCLK_LOST and records it. -/
  | refclkLoss
  /-- COLL (R397): A received COLL message is combined toward the root or written down to local participants, completing their WAITs. -/
  | coll
  /-- HOSTMSG (R406): A received HOSTMSG is written to the host mailbox ring, or dropped with FULL when the ring is full. -/
  | hostmsg
  /-- ETH_PACKET (R405): A received ETH packet leaves the named Ethernet port as a frame with a new FCS. -/
  | ethPacket
  /-- ETH_FRAME_RX (R405): A received Ethernet frame is tunnelled, dropped, or written to the receive ring with a timestamp. -/
  | ethFrameRx (e : EthNo) (frame : List Byte) (fecCorr : Nat) (fecBad : Nat)
  /-- ETH_FRAME_TX (R404): A posted transmit descriptor sends its frame and is marked DONE. -/
  | ethFrameTx (e : EthNo)
  /-- FAB_CNT_CLR (R407): Writing 1 to FAB_CTL.CNT_CLR clears the FAB_CNT registers. -/
  | fabCntClr
  /-- CARD_LOAD_FULL (R424): Writing CRD_CTL.LOAD with KIND FULL starts a full Card image load after its preconditions. -/
  | cardLoadFull (req : Requester)
  /-- CARD_LOAD_FUNCTION (R425): Writing CRD_CTL.LOAD with KIND FUNCTION starts a load replacing the masked bolts. -/
  | cardLoadFunction (req : Requester)
  /-- CARD_COMMIT (R427): When the image passes every check its tables commit whole, or the load is refused with a status and record. -/
  | cardCommit (flashBad : Bool)
  /-- LOCKSTEP_MISMATCH (R431): A lockstep mismatch sets SLV_ERR.LOCKSTEP and causes a Selvedge reset. -/
  | lockstepMismatch
  /-- WATCHDOG_EXPIRE (R432): An unserviced watchdog causes a Selvedge reset, and the third in 60 s enters recovery. -/
  | watchdogExpire
  /-- SENSOR_SAMPLE (R433): Selvedge samples die, stack, rail and current sensors at their periods. -/
  | sensorSample (x : Sample)
  /-- RAIL_FAULT (R526): A rail out of range for three consecutive samples writes a FATAL record and powers down every rail. -/
  | railFault (r : Fin 16)
  /-- PMB_ALERT (R528): A regulator alert makes Selvedge read its status and treat a reported fault as a rail fault. -/
  | pmbAlert (r : Fin 16) (fault : Bool)
  /-- COLD_RESET (R498): RESET_N low or rising supplies reset everything, sample straps and RECOVERY_N, and start the ROM. -/
  | coldReset (straps : BitVec 15) (recovery : Bool) (clock : Bool := true)
  /-- POWER_ON_DETECT (R526): VIN_AON below 1.62 V causes a cold reset whatever RESET_N. -/
  | powerOnDetect (straps : BitVec 15) (recovery : Bool) (clock : Bool := true)
  /-- BOOT_VERIFY (R441): Boot stage 2 verifies the Ingot and starts it, or enters recovery. -/
  | bootVerify
  /-- BOOT_RAILS (R524): Boot stage 3 applies the bench map and sequences the rail groups, starting the ledger and Temper. -/
  | bootRails (ok : Bool)
  /-- BOOT_HBM (R441): Boot stage 4 trains the unbenched stacks, benching any that fail. -/
  | bootHbm (fails : Nat)
  /-- BOOT_PHY (R441): Boot stage 5 calibrates the fabric and management lanes, benching failed ports. -/
  | bootPhy (fails : Nat)
  /-- BOOT_NAND (R441): Boot stage 6 trains the unbenched NAND channels. -/
  | bootNand (chans : List ChanTrain)
  /-- BOOT_CARD (R442): Boot stage 7 loads the boot Card image from CARD_A or CARD_B, or sets NO_CARD. -/
  | bootCard (flashBad : Nat)
  /-- BOOT_HOST (R443): Boot stage 8 copies and measures the host loader and releases the host cores. -/
  | bootHost (ok : Bool)
  /-- BOOT_RUN (R441): Boot stage 9 begins management and governor duties. -/
  | bootRun
  /-- HELLO (R452): In recovery the ROM sends HELLO to ff02::1 every second. -/
  | hello
  /-- LOG_READ (R450): A LOG_READ message returns log records from a given SEQ. -/
  | logRead (hdr : MgmtHdr) (first : Nat) (count : Nat)
  /-- SENSORS (R450): A SENSORS message returns the sensor values. -/
  | sensors (hdr : MgmtHdr)
  /-- ASSAY_GET (R460): An ASSAY_GET message returns part of the signed report for its nonce, producing it if new. -/
  | assayGet (hdr : MgmtHdr) (nonce : List Byte) (off : Nat)
  /-- AUTH (R451): An AUTH message exchange verifies an OPERATOR chain and signatures and opens a session. -/
  | auth (hdr : MgmtHdr) (proof : List Byte)
  /-- DATA (R450): A DATA message writes up to 1,024 bytes into the stage buffer. -/
  | data (hdr : MgmtHdr) (off : Nat) (gap : BitVec 32) (data : List Byte)
  /-- END_RECOVERY (R452): An END message checks the stage buffer and commits a passing Ingot, then a Selvedge reset. -/
  | endRecovery (hdr : MgmtHdr) (len : Nat) (flashBad : Bool)
  /-- SESSION_TIMEOUT (R451): A management session ends after 300 s without a request. -/
  | sessionTimeout
  /-- MGMT_LINK_FALLBACK (R450): After 1 s without link at 25 Gb/s the management port falls back to 10GBASE-R. -/
  | mgmtLinkFallback
  /-- STAGE (R444): The STAGE command fills the stage buffer and checks the Ingot in it. -/
  | stage (src : CmdSrc)
  /-- COMMIT (R445): The COMMIT command writes the staged Ingot to the INGOT area and verifies it. -/
  | commit (src : CmdSrc)
  /-- FUSE_ADVANCE (R447): The FUSE_ADVANCE command burns a security-version counter forward. -/
  | fuseAdvance (src : CmdSrc)
  /-- CARD_PERSIST (R448): The CARD_PERSIST command writes the active Card image to a boot-flash area as the boot image. -/
  | cardPersist (src : CmdSrc)
  /-- ASSAY (R460): The ASSAY command writes a signed attestation report for SLV_NONCE to HBM. -/
  | assay (src : CmdSrc)
  /-- TEST (R463): The TEST command drains its scope and runs a self-test on a unit. -/
  | test (src : CmdSrc)
  /-- TEST_START (R464): When the drained scope becomes idle the test runs and its result is recorded, benching on FAIL. -/
  | testStart (fail : Option (Nat × Nat))
  /-- TEST_DRAIN_TIMEOUT (R464): A scope not idle after 10 s completes the test BUSY and reopens the bolts. -/
  | testDrainTimeout
  /-- BENCH (R467): The BENCH command, or any bench cause, records the unit, takes it out of service and persists the bench map. -/
  | bench (why : BenchWhy)
  /-- UNBENCH (R467): The UNBENCH command clears the unit's bench bit for the next cold reset. -/
  | unbench (src : CmdSrc)
  /-- SELF_RESET (R461): The SELF_RESET command completes OK and then causes a Selvedge reset. -/
  | selfReset (src : CmdSrc)
  /-- PROVISION (R461): The PROVISION command burns the owner roots and sets LIFECYCLE OWNED. -/
  | provision (src : CmdSrc)
  /-- ERROR_RECORD_DELIVER (R509): An error record reaching Selvedge is logged and copied to the error ring when severe enough. -/
  | errorRecordDeliver
  /-- LOG_SUPPRESS_WINDOW (R455): At the end of each second with excess records Selvedge writes a SUPPRESSED record. -/
  | logSuppressWindow
  /-- LOG_PERSIST (R456): Log records are persisted to the LOG area within 10 ms or 1 s by severity. -/
  | logPersist
  /-- LOG_FLUSH (R468): Writing 1 to SLV_CTL.LOG_FLUSH persists every record now. -/
  | logFlush
  /-- TEMPER_PERIOD (R480): Every 1 ms Temper classifies each die, steps its clock cap and budget cut, sets LDG_BUDGET and the host-core clock. -/
  | temperPeriod
  /-- DVFS_FREQ (R473): PWR_DVFS_CMD with KIND FREQ changes a loom's clock or is refused with a status. -/
  | dvfsFreq (loom : Nat) (value : Nat)
  /-- DVFS_VOLT (R473): PWR_DVFS_CMD with KIND VOLT changes a loom's voltage row or is refused with a status. -/
  | dvfsVolt (loom : Nat) (value : Nat)
  /-- DVFS_APPLY (R474): A pending higher clock or voltage applies at the loom's next moment holding no credits. -/
  | dvfsApply (n : LoomNo)
  /-- VOLT_SLEW_DONE (R474): A voltage slew at 10 mV/µs completes and SLEWING falls. -/
  | voltSlewDone (n : LoomNo)
  /-- LDG_BUDGET_MIN_WRITE (R478): A write to LDG_BUDGET_MIN sets the minimum and recomputes the effective minimum and pool floor. -/
  | ldgBudgetMinWrite (value : Nat)
  /-- LDG_CNT_CLR (R493): Writing 1 to LDG_CTL.CNT_CLR clears LDG_CNT_GRANT and LDG_CNT_WAIT. -/
  | ldgCntClr
  /-- DOMAIN_QUIET_EXPIRE (R486): A domain idle for its quiet time with no vote enters ENTERING. -/
  | domainQuietExpire (d : Fin 164)
  /-- DOMAIN_SAVE_DONE (R486): When save or flush completes the domain enters LOW, waking at once if a wake was held. -/
  | domainSaveDone (d : Fin 164)
  /-- DOMAIN_WAKE_DONE (R486): When supply and clocks are stable the domain returns to ON. -/
  | domainWakeDone (d : Fin 164)
  /-- SWVOTES_WRITE (R486): A write to PWR_DOM SWVOTES sets the software vote bits that hold a domain on. -/
  | swvotesWrite (d : Fin 164) (value : Nat)
  /-- STANDBY (R488): Writing PWR_CTL.STANDBY enters standby when its conditions hold, or sets STBY_REFUSED. -/
  | standby
  /-- WAKE_PATTERN (R490): A detected wake pattern wakes the device from standby, or only counts outside standby. -/
  | wakePattern (p : PortNo)
  /-- ETH_SIGNAL_DETECT (R489): Signal detect on an enabled ETH port's lanes wakes the device from standby. -/
  | ethSignalDetect (e : EthNo)
  /-- MGMT_WAKE (R489): A wake pattern or link-up on the management port wakes the device from standby. -/
  | mgmtWake
  /-- BROWN_OUT (R492): A standby draw above 400 mA for 10 µs causes a Selvedge reset, and the third in 60 s wakes the device. -/
  | brownOut
  /-- WAKE_TX (R490): Writing PWR_WAKE_TX sends the wake pattern on every lane of each named port that is not UP. -/
  | wakeTx (ports : Nat)
  /-- WARM_RESET (R499): SLV_RST_CTL with KIND WARM stops engines, flushes caches, resets every domain but always-on and reruns stages 4 to 9. -/
  | warmReset
  /-- FUNCTION_RESET (R501): SLV_RST_CTL with KIND FUNCTION loom-resets the masked bolts, reloads their Drafts and frees their KV pools. -/
  | functionReset
  /-- LOOM_RESET (R502): SLV_RST_CTL with KIND LOOM, or the SVC, resets one loom's engines, zeroes its queues and returns its credits. -/
  | loomReset (n : LoomNo)
  /-- SLV_COMMAND_DONE (R461): A Selvedge command such as COMMIT or CARD_PERSIST finishes some time after it began, SLV_CMD_STS.BUSY falls with its status and notification source 2 asserts. -/
  | slvCommandDone (flashBad : Bool)
  /-- TIER_COMMAND_DONE (R348): An FTL or NBT command that took time completes, writing STATUS and then DONE into its ring entry. -/
  | tierCommandDone (nbt : Bool)
  /-- ETH_LINK_UP (R403): An enabled Ethernet port finishes auto-negotiation and training, locks its FEC and sets ETH_STATUS.LINK. -/
  | ethLinkUp (e : EthNo)
  /-- ETH_LINK_LOSS (R403): An Ethernet port loses its link and clears ETH_STATUS.LINK and FEC_LOCK. -/
  | ethLinkLoss (e : EthNo)
  /-- ETH_CTL_WRITE (R487): A write to ETH_CTL.EN enables or disables an Ethernet port, turning its port domain ON or OFF and starting or stopping link bring-up. -/
  | ethCtlWrite (e : EthNo) (value : Nat)
  /-- REFCLK_RESTORE (R395): REFCLK_RACK returns after a loss, and the epoch counter leaves the internal oscillator. -/
  | refclkRestore
  /-- TEST_ACCESS_PORT (R531): TCK, TMS, TDI and TRST_N drive the IEEE 1149.1 test access port through its instructions and boundary scan. -/
  | testAccessPort (trst : Bool) (tms : Bool) (tdi : Bool) (pins : Nat)
  /-- GARBAGE_COLLECTION (R356): The FTL relocates valid units and erases blocks to reclaim space, using its 7 % reserve. -/
  | garbageCollection (fails : List Nat := [])
  deriving DecidableEq, Repr

end Sys2Proof
end

