-- ==== Sys2Proof/Decode.lean ====
section
/-! DEFINITION. The commands that the table spells as words. The device is a block: no row of the table gives its command bits, so no word
spells one. -/
namespace Sys2Proof

/-- The command that a word spells by the table's bits: none, since the table gives none of its rows any bits. -/
def decodeTableWord (_nbits _w : Nat) : Option Instr := none

end Sys2Proof
end

