-- ==== Sys2Proof/Config.lean ====
section
/-! DEFINITION. What an implementation fixes and the spec leaves open, as constants without a body. -/
namespace Sys2Proof

/-- IAL-1 mode: the scratchpad address that an ARRAY block names for its partial sums (R99). The spec gives the block no
field for it, so it is free (log 12). -/
opaque Config.ial1Psum : List Byte → Nat

/-- IAL-1 mode: the window exponent that an ARRAY block names (R99), free for the same reason (log 12). -/
opaque Config.ial1Window : List Byte → Nat

/-- The Bronze unit's reciprocal of an FP32 bit pattern: any result within 1 unit in the last place (R178, log 13). -/
opaque Config.recip : BitVec 32 → BitVec 32

/-- The Bronze unit's reciprocal square root, within 1 unit in the last place (R178, log 13). -/
opaque Config.rsqrt : BitVec 32 → BitVec 32

/-- The Bronze unit's power of two, within 2 units in the last place (R178, log 13). -/
opaque Config.exp2 : BitVec 32 → BitVec 32

/-- The Bronze unit's base-2 logarithm, within 2 units in the last place (R178, log 13). -/
opaque Config.log2 : BitVec 32 → BitVec 32

/-- Operand formats that R240 gives no field for: true FP32, false BF16. Index 0 the input of NORM, 1 its gain and bias,
2 the operands of ELEM, 3 the partial results that COMBINE reads (log 14). -/
opaque Config.operandFp32 : Nat → Bool

/-- Free values, one for each number: what the spec leaves open and no operand fixes. State.freeCount counts those taken. -/
opaque Config.freeValue : Nat → BitVec 256

/-- Where an expert queue of another device lies: QBASE, CAP, RSZ_64 and OVF_N of queue q of loom m of chip c. The source's tables
do not hold them (R271, log 30). -/
opaque Config.remoteQueue : Nat → Nat → Nat → BitVec 24 × BitVec 12 × BitVec 16 × BitVec 12

/-- The head width that EXIT takes its pages to have, as the exponent of 64 × 2^k: its block names none (R265, R289, log 31). -/
opaque Config.exitWidth : List Byte → Fin 3

/-- The bytes of hidden state of an entry of the fill list that a FILL block names: the block names neither H nor FMT (R265, R292,
log 31). -/
opaque Config.fillHidden : List Byte → Nat

/-- The rack of a chip's sync parent is another one (R394): the spec gives the device no register for it (log 46). -/
opaque Config.otherRack : Nat → Nat → Bool

/-- The FAB_SYNC_RATE that a device across racks steers to, from the rate in force and the offset (R394, log 46). -/
opaque Config.syncSteer : BitVec 32 → Int → BitVec 32

/-- The SUM of two IDX elements of an ALLREDUCE, which R398 does not give: the DTYPE and the two elements (log 47). -/
opaque Config.idxSum : Nat → BitVec 64 → BitVec 64 → BitVec 64

/-- One less than the accesses that a loom's inbound FIFO holds (R26): the spec gives no depth (log 112). -/
opaque Config.inboundDepth : Nat

/-- One less than what a divisor that is 0 stands for, where the spec gives 0 no meaning: 0 PCHUNK, 1 and 2 the swap bandwidths of
flash and neighbours, 3 the size of an event ring, 4 the size of an output ring (log 58). -/
opaque Config.zeroDivisor : Nat → BitVec 32

/-- The scale code of a block that a quantising STORE writes while its block leaves MAXDER at 0: the parameter block, whose slots name no
E, and the number of the scale byte (R192, R240, log 122). -/
opaque Config.storeExponent : List Byte → Nat → BitVec 8

/-- The entry of the FTL's map that a logical unit has in the map's region (R356, log 139). -/
opaque Config.mapSlot : Nat → Nat

/-- What the entry of a logical unit in the FTL's map holds: the unit, the block and the page in it (R356, log 139). -/
opaque Config.mapEntry : Nat → Nat → Nat → BitVec 32

/-- One less than the packets of a class from its links that a device's endpoint buffers hold (R402): the spec gives no depth (log 140). -/
opaque Config.endpointDepth : Nat → Nat

/-- Where the region of the host-core platform holds the APLIC domain, the interrupt file of a core's IMSIC, mtime, and a core's mtimecmp:
R35 gives the region no layout (log 101). -/
opaque Config.aplicAt : Nat
opaque Config.imsicAt : Nat → Nat
opaque Config.mtimeAt : Nat
opaque Config.mtimecmpAt : Nat → Nat

/-- What the APLIC's MSI address registers read as, and the rate of mtime in Hz (R35, log 101). -/
opaque Config.msiAddr : Nat → BitVec 32
opaque Config.timebase : Nat

/-- Whether cell 96 + i of the boundary-scan chain is the management lane's (R520, R531): the spec gives the lands of rows 9 to 24 no columns
of their own (log 20). -/
opaque Config.mgmtCell : Nat → Bool

/-- The RSA signature of a digest under the device's identity keys, as they unwrap (R457, R458, log 20). -/
opaque Config.rsaSign : List Byte → List Byte → List Byte

/-- The SLH-DSA signature of a digest under the device's identity keys, as they unwrap (R457, R458, log 20). -/
opaque Config.slhSign : List Byte → List Byte → List Byte

/-- The bytes of the 256 KiB ROM (R431). -/
opaque Config.rom : Nat → Byte

end Sys2Proof
end

