-- ==== Sys2Proof/Machine/Fields.lean ====
section
/-! DEFINITION. Sparse tables in one canonical form, register fields as entries of such a table (R10, R11), and the
constant tables that read-only registers show (R20, R166, R170, R162, R208, R475). -/
namespace Sys2Proof.Machine

/-- What a sparse table holds at a key; `d` stands at every key that is not listed. -/
def tget {β : Type} (d : β) : List (Nat × β) → Nat → β
  | [], _ => d
  | (k, v) :: t, a => if k = a then v else tget d t a

/-- Take a key out of a sparse table. -/
def tdel {β : Type} : List (Nat × β) → Nat → List (Nat × β)
  | [], _ => []
  | (k, v) :: t, a => if k = a then tdel t a else (k, v) :: tdel t a

/-- Put an entry at its place in ascending order of keys. -/
def tins {β : Type} (a : Nat) (v : β) : List (Nat × β) → List (Nat × β)
  | [] => [(a, v)]
  | (k, w) :: t => if a < k then (a, v) :: (k, w) :: t
                   else if a = k then (a, v) :: t
                   else (k, w) :: tins a v t

/-- Store at a key; storing what an unlisted key holds takes the entry out, so that equal tables are equal lists. -/
def tput {β : Type} [DecidableEq β] (d : β) (m : List (Nat × β)) (a : Nat) (v : β) : List (Nat × β) :=
  if v = d then tdel m a else tins a v m

/-- Keys strictly rising. -/
def tsorted {β : Type} : List (Nat × β) → Bool
  | [] => true
  | (k, _) :: t => (t.all fun e => decide (k < e.1)) && tsorted t

/-- The canonical form: keys strictly rising and no entry equal to what an unlisted key holds. -/
def twf {β : Type} [DecidableEq β] (d : β) (m : List (Nat × β)) : Bool :=
  tsorted m && m.all fun e => decide (e.2 ≠ d)

/-- A register field: its bit address in the local address space (eight times the byte address of its register, plus
its lowest bit), its width, and what it holds after cold reset (the Reset column, R11). -/
structure Fld where
  key : Nat
  width : Nat
  reset : Nat
  deriving DecidableEq, Repr

/-- Register access types (R10). -/
inductive Acc where
  | rw | ro | w1c | rws | wo
  deriving DecidableEq, Repr

/-- One row of a register table: its name, the byte address of its first instance, the distance between instances and
their number, the distance between the entries of an array and their number, its size in bytes, and its fields. -/
structure RegShape where
  name : String
  base : Nat
  istride : Nat
  icount : Nat
  stride : Nat
  count : Nat
  bytes : Nat
  flds : Nat → Nat → List (Fld × Acc)

/-- The kind of loom n (R20): 0 Warp, 1 Weft. -/
def kindOf (n : Nat) : Nat := if n % 72 < 48 then 0 else 1

/-- The loom die of loom n (R20). -/
def dieOf (n : Nat) : Nat := n / 72

/-- The base of loom n's window (R27). -/
def lwin (n : Nat) : Nat := 0x80000000 + 0x1000000 * n

/-- The array integers of the FP4 codes (R42); code 0x8 reads as zero (R43). -/
def fp4Int (c : Nat) : Int :=
  [0, 1, 2, 3, 4, 6, 8, 12, 0, -1, -2, -3, -4, -6, -8, -12].getD (c % 16) 0

/-- The 64 entries of CORR (R166). -/
def corrTable : List Nat :=
  [124, 116, 109, 102, 95, 89, 83, 78, 72, 67, 62, 58, 54, 50, 46, 43,
   40, 37, 34, 31, 29, 27, 25, 23, 21, 19, 18, 16, 15, 14, 13, 12] ++
  [11, 10, 9, 8, 8, 7, 6, 6, 5, 5, 5, 4, 4, 4, 3, 3,
   3, 3, 2, 2, 2, 2, 2, 2, 1, 1, 1, 1, 1, 1, 1, 1]

/-- ATT_CORR word w: four entries of CORR, one to a byte (R185). -/
def corrWord (w : Nat) : Nat :=
  corrTable.getD (4 * w) 0 + 256 * corrTable.getD (4 * w + 1) 0 + 65536 * corrTable.getD (4 * w + 2) 0
    + 16777216 * corrTable.getD (4 * w + 3) 0

/-- FRACQ (R170). -/
def fracq (j : Nat) : Nat := [32768, 30048, 27554, 25268, 23170, 21247, 19484, 17867].getD j 0

/-- The product table entry of codes a and b (R162). -/
def ptEntry (a b : Nat) : Int := fp4Int a * fp4Int b

/-- An entry of PT as ATT_PT shows it: an int8, with 144 and -144 shown as 0x7F and 0x81 (R185). -/
def ptByte (e : Nat) : Nat :=
  let p := ptEntry (e % 16) (e / 16)
  ofSigned 8 (if p > 127 then 127 else if p < -127 then -127 else p)

/-- ATT_PT word w (R185). -/
def ptWord (w : Nat) : Nat :=
  ptByte (4 * w) + 256 * ptByte (4 * w + 1) + 65536 * ptByte (4 * w + 2) + 16777216 * ptByte (4 * w + 3)

/-- The 64 hard-wired feedback polynomials (R208): the primitive polynomials of degree 32 over GF(2) in ascending
order of POLY, the first 64. DEDUCED (log 5): worked out from the rule's definition. -/
def bobPolyTable : List Nat :=
  [0xAF, 0xC5, 0xF5, 0x125, 0x173, 0x175, 0x20D, 0x229, 0x25B, 0x29D, 0x2D9, 0x33F, 0x34D, 0x3E7, 0x41F, 0x599] ++
  [0x693, 0x6E1, 0x6EB, 0x725, 0x731, 0x77F, 0x7AD, 0x7BF, 0x7D3, 0x825, 0x829, 0x82F, 0x8CB, 0x8D5, 0x8F1, 0x9A9] ++
  [0x9E7, 0xA17, 0xA4D, 0xA99, 0xB6D, 0xB83, 0xBD9, 0xBE3, 0xC1B, 0xC1D, 0xC53, 0xC71, 0xCC5, 0xCDB, 0xCED, 0xD5D] ++
  [0xD61, 0xD79, 0xDAD, 0xE79, 0xE91, 0xECD, 0xF39, 0xF6F, 0xF87, 0xFA9, 0xFB1, 0x100D, 0x107F, 0x10A1, 0x111B, 0x11C3]

/-- POLY of generator g (R208). -/
def bobPoly (g : Nat) : Nat := bobPolyTable.getD g 0

/-- LDG_COST entry 2b + k: the credits of LMODE bit b on loom kind k (R475, R493). -/
def ldgCost (i : Nat) : Nat := [28, 16, 30, 17, 12, 14, 6, 6, 8, 8, 3, 3].getD i 0

end Sys2Proof.Machine
end

