-- ==== Sys2Proof/Machine/Numeric.lean ====
section
/-! DEFINITION. Number formats (chapter 2): exact dyadic values, BF16 and FP32 (R53, R54), E8M0 blocks (R45, R46), the
quantisers (R47 to R49), LOG8 (R51, R52), the 40-bit accumulator (R55 to R57) and ternary packing (R58, R59). -/
namespace Sys2Proof.Machine

/-- A value as an engine reads it (R53): canonical NaN, a signed infinity, or the exact value ± m × 2^e. -/
inductive FVal where
  | nan
  | inf (neg : Bool)
  | fin (neg : Bool) (m : Nat) (e : Int)
  deriving DecidableEq, Repr

/-- Number of significant bits. -/
def bitLen (n : Nat) : Nat := if n = 0 then 0 else Nat.log2 n + 1

/-- Positive powers of two with a negative exponent read as 1. -/
def pow2 (k : Int) : Nat := 2 ^ k.toNat

/-- m × 2^k compared with n. -/
def cmpDy (m : Nat) (k : Int) (n : Nat) : Ordering :=
  if 0 ≤ k then compare (m * pow2 k) n else compare m (n * pow2 (-k))

/-- m × 2^a compared with n × 2^b. -/
def cmpDy2 (m : Nat) (a : Int) (n : Nat) (b : Int) : Ordering := cmpDy m (a - b) n

/-- n × 2^k truncated toward minus infinity (R79). -/
def shiftFloor (n : Int) (k : Int) : Int :=
  if 0 ≤ k then n * (pow2 k : Int) else n.fdiv (pow2 (-k) : Int)

/-- m × 2^k rounded to the nearest natural, ties to even. -/
def rheDy (m : Nat) (k : Int) : Nat :=
  if 0 ≤ k then m * pow2 k
  else
    let d := pow2 (-k)
    let q := m / d
    let r := m % d
    if 2 * r > d || (2 * r == d && q % 2 == 1) then q + 1 else q

/-- n / d rounded to the nearest integer, ties to even; d is positive. -/
def rheDiv (n : Int) (d : Nat) : Int :=
  let q := n.fdiv d
  let r := (n - q * d).toNat
  if 2 * r > d || (2 * r == d && q % 2 == 1) then q + 1 else q

/-- FP32 bits of a value (R53). -/
def signBit (neg : Bool) : Nat := if neg then 0x80000000 else 0

/-- The FP32 value of 32 bits; subnormals read as zero of their sign (R53). -/
def f32Val (b : Nat) : FVal :=
  let neg := bitOf b 31
  let e := bits b 23 8
  let m := bits b 0 23
  if e = 0 then .fin neg 0 0
  else if e = 255 then (if m = 0 then .inf neg else .nan)
  else .fin neg (2 ^ 23 + m) ((e : Int) - 150)

/-- The BF16 value of 16 bits (R53). -/
def bf16Val (b : Nat) : FVal := f32Val (b % 65536 * 65536)

/-- Round an exact magnitude to p significant bits, nearest even; the result is (q, e) with value q × 2^e. -/
def roundSig (p : Nat) (m : Nat) (e : Int) : Nat × Int :=
  let l := bitLen m
  if l ≤ p then (m, e) else (rheDy m (-((l - p : Nat) : Int)), e + ((l - p : Nat) : Int))

/-- FP32 bits of ± m × 2^e, rounded under R54: nearest even, overflow to infinity, a magnitude below 2^-126 after
rounding to zero. -/
def roundF32 (neg : Bool) (m : Nat) (e : Int) : Nat :=
  if m = 0 then signBit neg
  else
    let (q, f) := roundSig 24 m e
    let l := bitLen q
    let x : Int := f + (l : Int) - 1
    if x > 127 then signBit neg + 0x7F800000
    else if x < -126 then signBit neg
    else signBit neg + (x + 127).toNat * 2 ^ 23 + (if l ≤ 24 then q * 2 ^ (24 - l) else q / 2 ^ (l - 24)) % 2 ^ 23

/-- BF16 bits of ± m × 2^e, rounded once under R54. -/
def roundBf16 (neg : Bool) (m : Nat) (e : Int) : Nat :=
  if m = 0 then signBit neg / 65536
  else
    let (q, f) := roundSig 8 m e
    let l := bitLen q
    let x : Int := f + (l : Int) - 1
    if x > 127 then (signBit neg + 0x7F800000) / 65536
    else if x < -126 then signBit neg / 65536
    else signBit neg / 65536 + (x + 127).toNat * 2 ^ 7 + (if l ≤ 8 then q * 2 ^ (8 - l) else q / 2 ^ (l - 8)) % 2 ^ 7

/-- The canonical FP32 NaN (R53). -/
def nan32 : Nat := 0x7FC00000

/-- The FP32 bits of a value, rounded under R54. -/
def f32Of : FVal → Nat
  | .nan => nan32
  | .inf neg => signBit neg + 0x7F800000
  | .fin neg m e => roundF32 neg m e

/-- The BF16 bits of a value, rounded under R54. -/
def bf16Of : FVal → Nat
  | .nan => 0x7FC0
  | .inf neg => (signBit neg + 0x7F800000) / 65536
  | .fin neg m e => roundBf16 neg m e

/-- Conversion from FP32 to BF16 (R54). -/
def f32ToBf16 (b : Nat) : Nat := bf16Of (f32Val b)

/-- The exact value of a signed integer times 2^e. -/
def intVal (n : Int) (e : Int) : FVal := .fin (decide (n < 0)) n.natAbs e

/-- ± m × 2^e as a signed integer over 2^f, exact for f ≤ e. -/
def scaled (neg : Bool) (m : Nat) (e f : Int) : Int :=
  let a : Int := (m * pow2 (e - f) : Nat)
  if neg then -a else a

/-- Exact sum of two values (R54); an exact zero from operands of unlike sign is +0. -/
def addVal : FVal → FVal → FVal
  | .nan, _ => .nan
  | _, .nan => .nan
  | .inf a, .inf b => if a = b then .inf a else .nan
  | .inf a, _ => .inf a
  | _, .inf b => .inf b
  | .fin a m e, .fin b n f =>
    if m = 0 && n = 0 then .fin (a && b) 0 0
    else if m = 0 then .fin b n f
    else if n = 0 then .fin a m e
    else
      let g := min e f
      intVal (scaled a m e g + scaled b n f g) g

/-- Exact product of two values (R54). -/
def mulVal : FVal → FVal → FVal
  | .nan, _ => .nan
  | _, .nan => .nan
  | .inf a, .inf b => .inf (a != b)
  | .inf a, .fin b n _ => if n = 0 then .nan else .inf (a != b)
  | .fin a m _, .inf b => if m = 0 then .nan else .inf (a != b)
  | .fin a m e, .fin b n f => .fin (a != b) (m * n) (e + f)

/-- Negation. -/
def negVal : FVal → FVal
  | .nan => .nan
  | .inf a => .inf (!a)
  | .fin a m e => .fin (!a) m e

/-- Quotient of two values with its first 64 or more significant bits and a sticky bit, so that one rounding of it is the
correctly rounded quotient (R178). -/
def divVal : FVal → FVal → FVal
  | .nan, _ => .nan
  | _, .nan => .nan
  | .inf _, .inf _ => .nan
  | .inf a, .fin b _ _ => .inf (a != b)
  | .fin a _ _, .inf b => .fin (a != b) 0 0
  | .fin a m e, .fin b n f =>
    if n = 0 then (if m = 0 then .nan else .inf (a != b))
    else
      let k := 64 + bitLen n
      let q := m * 2 ^ k / n
      let s := if q * n = m * 2 ^ k then 0 else 1
      .fin (a != b) (2 * q + s) (e - f - (k : Int) - 1)

/-- FP32 operations on bits, each rounded once (R54). -/
def fadd (a b : Nat) : Nat := f32Of (addVal (f32Val a) (f32Val b))
def fsub (a b : Nat) : Nat := f32Of (addVal (f32Val a) (negVal (f32Val b)))
def fmul (a b : Nat) : Nat := f32Of (mulVal (f32Val a) (f32Val b))
def fdiv32 (a b : Nat) : Nat := f32Of (divVal (f32Val a) (f32Val b))
def ffma (a b c : Nat) : Nat := f32Of (addVal (mulVal (f32Val a) (f32Val b)) (f32Val c))

/-- FP32 bits are NaN. -/
def isNan32 (b : Nat) : Bool := bits b 23 8 == 255 && bits b 0 23 != 0
/-- FP32 bits are infinite. -/
def isInf32 (b : Nat) : Bool := bits b 23 8 == 255 && bits b 0 23 == 0

/-- A number that orders FP32 bits as R268 does: -0 equals +0, subnormals are zeros, and NaN lies below every number. -/
def f32Key (b : Nat) : Int :=
  match f32Val b with
  | .nan => -(2 : Int) ^ 40
  | .inf neg => if neg then -(2 : Int) ^ 33 else (2 : Int) ^ 33
  | .fin neg m _ => if m = 0 then 0 else if neg then -((b % 2 ^ 31 : Nat) : Int) else ((b % 2 ^ 31 : Nat) : Int)

/-! Block formats (R41, R42, R44, R47 to R49). -/

/-- The array integer of an INT4 code (R42). -/
def int4Int (c : Nat) : Int := toSigned 4 (c % 16)

/-- The largest magnitude of a format as c × 2^y (R47): FP4 6, INT4 3.5, INT8 127/32. -/
def fmtMax (fmt : Nat) : Nat × Int := if fmt = 1 then (3, 1) else if fmt = 2 then (7, -1) else (127, -5)

/-- The larger of two magnitudes. -/
def maxMag (a b : Nat × Int) : Nat × Int := if cmpDy2 a.1 a.2 b.1 b.2 == .lt then b else a

/-- The maximum-derived exponent of a block with largest magnitude amax = m × 2^x (R47). -/
def maxDerivedE (fmt : Nat) (amax : Nat × Int) : Nat :=
  if amax.1 = 0 then 0
  else
    let (c, y) := fmtMax fmt
    let e0 : Int := amax.2 + (Nat.log2 amax.1 : Int) - y - (Nat.log2 c : Int)
    let e := if cmpDy2 amax.1 amax.2 c (y + e0) == .gt then e0 + 1 else e0
    (max (-127) (min 127 e) + 127).toNat

/-- A quantised element: its code, and whether it counts as saturated or as zeroed (R48, R49). -/
structure QElem where
  code : Nat
  sat : Bool
  zero : Bool
  deriving DecidableEq, Repr

/-- The index of the FP4 magnitude nearest to 2|y| = m × 2^k, ties to the even index (R48). -/
def fp4Index (m : Nat) (k : Int) : Nat :=
  let lt (b : Nat) : Bool := cmpDy m (k + 1) b == .gt      -- 2|y| > b / 2
  let le (b : Nat) : Bool := cmpDy m (k + 1) b != .lt      -- 2|y| ≥ b / 2
  if lt 20 then 7 else if le 14 then 6 else if lt 10 then 5 else if le 7 then 4
  else if lt 5 then 3 else if le 3 then 2 else if lt 1 then 1 else 0

/-- Quantise one value to FP4 under exponent E (R48, R49). -/
def quantFp4 (E : Nat) : FVal → QElem
  | .nan => ⟨0, true, false⟩
  | .inf neg => ⟨if neg then 0xF else 0x7, true, false⟩
  | .fin neg m e =>
    let k : Int := e + 128 - (E : Int)
    if m = 0 then ⟨0, false, false⟩
    else if cmpDy m k 12 == .gt then ⟨if neg then 0xF else 0x7, true, false⟩
    else
      let c := fp4Index m k
      if c = 0 then ⟨0, false, true⟩ else ⟨if neg then 8 + c else c, false, false⟩

/-- Quantise to a two's-complement integer of w bits with `f` extra fraction bits under exponent E (R48, R49). -/
def quantInt (w : Nat) (f : Int) (E : Nat) : FVal → QElem
  | .nan => ⟨0, true, false⟩
  | .inf neg => ⟨if neg then 2 ^ (w - 1) else 2 ^ (w - 1) - 1, true, false⟩
  | .fin neg m e =>
    let a := rheDy m (e + f + 127 - (E : Int))
    let q : Int := if neg then -(a : Int) else a
    let hi : Int := 2 ^ (w - 1) - 1
    if q > hi then ⟨ofSigned w hi, true, false⟩
    else if q < -hi - 1 then ⟨ofSigned w (-hi - 1), true, false⟩
    else ⟨ofSigned w q, false, q == 0 && m != 0⟩

/-- Quantise one value to format fmt (R48): 1 FP4, 2 INT4, 3 INT8. -/
def quantElem (fmt E : Nat) (v : FVal) : QElem :=
  if fmt = 1 then quantFp4 E v else if fmt = 2 then quantInt 4 1 E v else quantInt 8 5 E v

/-! The accumulator (R55 to R57). -/

/-- The bound of an accumulator (R55). -/
def accMax : Int := 2 ^ 39 - 1

/-- Saturate to the accumulator range; the flag says that the value left it (R55, R79). -/
def satAcc (v : Int) : Int × Bool :=
  if v > accMax then (accMax, true) else if v < -accMax then (-accMax, true) else (v, false)

/-- The exact value A × 2^W (R55, R57). -/
def accVal (a w : Int) : FVal := intVal a w

/-- An aligned term and whether it counts as zeroed (R79): S × 2^s truncated toward minus infinity. -/
def alignTerm (S s : Int) : Int × Bool :=
  let x := shiftFloor S s
  (x, decide (s < 0) && decide (S ≠ 0) && (decide (x = 0) || decide (x = -1)))

/-! Ternary packing (R58, R59). -/

/-- The five trits of a packed byte, lowest index first (R58). -/
def unpack5 (b : Nat) : List Int :=
  [1, 3, 9, 27, 81].map fun p => ((b / p % 3 : Nat) : Int) - 1

/-- The byte of up to five trits; missing trits are zero trits (R58, R60). -/
def pack5 (t : List Int) : Nat :=
  let d (i : Nat) : Nat := (t.getD i 0 + 1).toNat
  d 0 + 3 * d 1 + 9 * d 2 + 27 * d 3 + 81 * d 4

/-- The n first trits of a packed byte string (R58, R60). -/
def unpackTrits (n : Nat) (l : List Byte) : List Int := (l.flatMap fun b => unpack5 b.toNat).take n

/-- A packed byte string of a list of trits, on fuel (R58, R60). -/
def packTrits : Nat → List Int → List Byte
  | 0, _ => []
  | n + 1, t => if t.isEmpty then [] else BitVec.ofNat 8 (pack5 (t.take 5)) :: packTrits n (t.drop 5)

/-- Cut a list into n pieces of k elements. -/
def chunks {α : Type} (k : Nat) : Nat → List α → List (List α)
  | 0, _ => []
  | n + 1, l => l.take k :: chunks k n (l.drop k)

/-- The nibbles of a byte string, low nibble first (R62). -/
def nibbles (l : List Byte) : List Nat := l.flatMap fun b => [b.toNat % 16, b.toNat / 16]

/-- Pack 4-bit codes, even index in the low nibble (R62). -/
def packNibbles : List Nat → List Byte
  | [] => []
  | [a] => [BitVec.ofNat 8 a]
  | a :: b :: t => BitVec.ofNat 8 (a % 16 + 16 * (b % 16)) :: packNibbles t

/-- The 64-bit view value of an accumulator (R56). -/
def viewOf (a : Int) : Nat := ofSigned 64 a

/-- The LOG8 magnitude field of a log2-domain value ℓ = n / 2^f ≤ 0 given as -8ℓ = n / d rounded (R52, R169). -/
def log8Field (num : Int) (den : Nat) : Nat := (max 0 (rheDiv num den)).toNat

end Sys2Proof.Machine
end

