-- ==== Sys2Proof/Machine/RegsFabric.lean ====
section
/-! DEFINITION. The named register fields of fabric (R407 with R381 and R396), its ports (R408) and the Ethernet blocks (R409).
Each field is written from its row of the spec's register table: where it lies, how wide it is, what it holds after cold reset. -/
namespace Sys2Proof.Machine

/-- R407 FAB_ID [3:0] ARCH_LEVEL RO. Architecture level (R8) -/
def FAB_ID_ARCH_LEVEL : Fld := ⟨8 * (0x6000000) + 0, 4, 0x2⟩

/-- R407 FAB_ID [21:8] CHIP RO. R366 Reset: Straps. -/
def FAB_ID_CHIP : Fld := ⟨8 * (0x6000000) + 8, 14, 0⟩

/-- R407 FAB_ID [22:22] STRAP_BAD RO. R367 -/
def FAB_ID_STRAP_BAD : Fld := ⟨8 * (0x6000000) + 22, 1, 0⟩

/-- R407 FAB_CTL [0:0] EN RO. Routing enabled by the loader -/
def FAB_CTL_EN : Fld := ⟨8 * (0x6000008) + 0, 1, 0⟩

/-- R407 FAB_CTL [1:1] CNT_CLR WO. Writing 1 clears the FAB_CNT registers -/
def FAB_CTL_CNT_CLR : Fld := ⟨8 * (0x6000008) + 1, 1, 0⟩

/-- R407 FAB_DIMS [3:0] DX_M1 RO. R367 -/
def FAB_DIMS_DX_M1 : Fld := ⟨8 * (0x6000010) + 0, 4, 0⟩

/-- R407 FAB_DIMS [8:4] DY_M1 RO.  -/
def FAB_DIMS_DY_M1 : Fld := ⟨8 * (0x6000010) + 4, 5, 0⟩

/-- R407 FAB_DIMS [13:9] DZ_M1 RO.  -/
def FAB_DIMS_DZ_M1 : Fld := ⟨8 * (0x6000010) + 9, 5, 0⟩

/-- R407 FAB_BLOCK [3:0] X0 RO. Block origin (R382) -/
def FAB_BLOCK_X0 : Fld := ⟨8 * (0x6000018) + 0, 4, 0⟩

/-- R407 FAB_BLOCK [8:4] Y0 RO.  -/
def FAB_BLOCK_Y0 : Fld := ⟨8 * (0x6000018) + 4, 5, 0⟩

/-- R407 FAB_BLOCK [13:9] Z0 RO.  -/
def FAB_BLOCK_Z0 : Fld := ⟨8 * (0x6000018) + 9, 5, 0⟩

/-- R407 FAB_BLOCK [17:14] XN_M1 RO. Block extent − 1 -/
def FAB_BLOCK_XN_M1 : Fld := ⟨8 * (0x6000018) + 14, 4, 0⟩

/-- R407 FAB_BLOCK [22:18] YN_M1 RO.  -/
def FAB_BLOCK_YN_M1 : Fld := ⟨8 * (0x6000018) + 18, 5, 0⟩

/-- R407 FAB_BLOCK [27:23] ZN_M1 RO.  -/
def FAB_BLOCK_ZN_M1 : Fld := ⟨8 * (0x6000018) + 23, 5, 0⟩

/-- R407 FAB_VC_WEIGHT [3:0] SCATTER RW. R379; 0 reads as 1 -/
def FAB_VC_WEIGHT_SCATTER : Fld := ⟨8 * (0x6000020) + 0, 4, 0x4⟩

/-- R407 FAB_VC_WEIGHT [7:4] BULK RW.  -/
def FAB_VC_WEIGHT_BULK : Fld := ⟨8 * (0x6000020) + 4, 4, 0x2⟩

/-- R407 FAB_VC_WEIGHT [11:8] TIER RW.  -/
def FAB_VC_WEIGHT_TIER : Fld := ⟨8 * (0x6000020) + 8, 4, 0x1⟩

/-- R407 FAB_REQ_TIMEOUT [23:0] US RW. R391; 0 reads as 1 -/
def FAB_REQ_TIMEOUT_US : Fld := ⟨8 * (0x6000028) + 0, 24, 0x000064⟩

/-- R407 FAB_EPOCH [63:0] T RO. R393, units of 0.2 ns -/
def FAB_EPOCH_T : Fld := ⟨8 * (0x6000030) + 0, 64, 0⟩

/-- R407 FAB_SYNC_CTL [2:0] PARENT RO. R394 -/
def FAB_SYNC_CTL_PARENT : Fld := ⟨8 * (0x6000038) + 0, 3, 0x7⟩

/-- R407 FAB_SYNC_CTL [5:3] ALT_PARENT RO.  -/
def FAB_SYNC_CTL_ALT_PARENT : Fld := ⟨8 * (0x6000038) + 3, 3, 0x7⟩

/-- R407 FAB_SYNC_CTL [31:16] PERIOD_US RW. Exchange period; 0 reads as 1 -/
def FAB_SYNC_CTL_PERIOD_US : Fld := ⟨8 * (0x6000038) + 16, 16, 0x03E8⟩

/-- R407 FAB_SYNC_STS [0:0] LOCKED RO. R395 -/
def FAB_SYNC_STS_LOCKED : Fld := ⟨8 * (0x6000040) + 0, 1, 0⟩

/-- R407 FAB_SYNC_STS [1:1] HOLDOVER RO.  -/
def FAB_SYNC_STS_HOLDOVER : Fld := ⟨8 * (0x6000040) + 1, 1, 0⟩

/-- R407 FAB_SYNC_STS [2:2] REFCLK_LOST RO.  -/
def FAB_SYNC_STS_REFCLK_LOST : Fld := ⟨8 * (0x6000040) + 2, 1, 0⟩

/-- R407 FAB_SYNC_OFFSET [31:0] OFF RO. Last offset, signed, 0.2 ns -/
def FAB_SYNC_OFFSET_OFF : Fld := ⟨8 * (0x6000048) + 0, 32, 0⟩

/-- R407 FAB_SYNC_DELAY [31:0] DELAY RO. Last delay, 0.2 ns -/
def FAB_SYNC_DELAY_DELAY : Fld := ⟨8 * (0x600004C) + 0, 32, 0⟩

/-- R407 FAB_SYNC_RATE [31:0] PPB RO. Rate correction, signed -/
def FAB_SYNC_RATE_PPB : Fld := ⟨8 * (0x6000050) + 0, 32, 0⟩

/-- R407 FAB_CNT_UNROUTABLE [63:0] N RO. R382; wraps -/
def FAB_CNT_UNROUTABLE_N : Fld := ⟨8 * (0x6000058) + 0, 64, 0⟩

/-- R407 FAB_CNT_TIMEOUT [63:0] N RO. R391; wraps -/
def FAB_CNT_TIMEOUT_N : Fld := ⟨8 * (0x6000060) + 0, 64, 0⟩

/-- R407 FAB_CNT_MBX_DROP [63:0] N RO. R406; wraps -/
def FAB_CNT_MBX_DROP_N : Fld := ⟨8 * (0x6000068) + 0, 64, 0⟩

/-- R407 FAB_CNT_COLL_STALE [63:0] N RO. R400; wraps -/
def FAB_CNT_COLL_STALE_N : Fld := ⟨8 * (0x6000070) + 0, 64, 0⟩

/-- R407 FAB_ERR [0:0] UNROUTABLE W1C. R382 -/
def FAB_ERR_UNROUTABLE : Fld := ⟨8 * (0x6000078) + 0, 1, 0⟩

/-- R407 FAB_ERR [1:1] TIMEOUT W1C. R391 -/
def FAB_ERR_TIMEOUT : Fld := ⟨8 * (0x6000078) + 1, 1, 0⟩

/-- R407 FAB_ERR [2:2] COLL_TRUNC W1C. R399 -/
def FAB_ERR_COLL_TRUNC : Fld := ⟨8 * (0x6000078) + 2, 1, 0⟩

/-- R407 FAB_ERR [3:3] COLL_NAN W1C. R398 -/
def FAB_ERR_COLL_NAN : Fld := ⟨8 * (0x6000078) + 3, 1, 0⟩

/-- R407 FAB_ERR [4:4] REFCLK W1C. R395 -/
def FAB_ERR_REFCLK : Fld := ⟨8 * (0x6000078) + 4, 1, 0⟩

/-- R407 FAB_ERR [5:5] STRAP W1C. Strap parity or position failure (R367) -/
def FAB_ERR_STRAP : Fld := ⟨8 * (0x6000078) + 5, 1, 0⟩

/-- R407 FAB_MBX_BASE [63:0] ADDR RW. Mailbox ring, 4 KiB aligned -/
def FAB_MBX_BASE_ADDR : Fld := ⟨8 * (0x6000080) + 0, 64, 0⟩

/-- R407 FAB_MBX_SIZE [12:0] ENTRIES RW. Power of two, 16–4,096; other values disable the ring -/
def FAB_MBX_SIZE_ENTRIES : Fld := ⟨8 * (0x6000088) + 0, 13, 0⟩

/-- R407 FAB_MBX_HEAD [11:0] HEAD RW. Next entry the runtime reads -/
def FAB_MBX_HEAD_HEAD : Fld := ⟨8 * (0x600008C) + 0, 12, 0⟩

/-- R407 FAB_MBX_TAIL [11:0] TAIL RO. Next entry the device writes -/
def FAB_MBX_TAIL_TAIL : Fld := ⟨8 * (0x6000090) + 0, 12, 0⟩

/-- R407 FAB_ETH_FWD [47:0] MAC RO. R405, i = 0–255 -/
def FAB_ETH_FWD_MAC (i : Nat) : Fld := ⟨8 * (0x6000800 + 16 * i) + 0, 48, 0⟩

/-- R407 FAB_ETH_FWD [61:48] CHIP RO. Tunnel target -/
def FAB_ETH_FWD_CHIP (i : Nat) : Fld := ⟨8 * (0x6000800 + 16 * i) + 48, 14, 0⟩

/-- R407 FAB_ETH_FWD [68:64] ETHPORT RO. Target port e -/
def FAB_ETH_FWD_ETHPORT (i : Nat) : Fld := ⟨8 * (0x6000800 + 16 * i) + 64, 5, 0⟩

/-- R407 FAB_ETH_FWD [69:69] VALID RO. Entry in use -/
def FAB_ETH_FWD_VALID (i : Nat) : Fld := ⟨8 * (0x6000800 + 16 * i) + 69, 1, 0⟩

/-- R407 FAB_ETH_FWD [70:70] LOCAL RO. Deliver to the receive ring -/
def FAB_ETH_FWD_LOCAL (i : Nat) : Fld := ⟨8 * (0x6000800 + 16 * i) + 70, 1, 0⟩

/-- R407/R381 FAB_RT [2:0] PORT0 RO. class 0 -/
def FAB_RT_PORT0 (i : Nat) : Fld := ⟨8 * (0x6010000 + 4 * i) + 0, 3, 0⟩

/-- R407/R381 FAB_RT [3:3] SUB0 RO. class 0 -/
def FAB_RT_SUB0 (i : Nat) : Fld := ⟨8 * (0x6010000 + 4 * i) + 3, 1, 0⟩

/-- R407/R381 FAB_RT [6:4] ALT0 RO. class 0 -/
def FAB_RT_ALT0 (i : Nat) : Fld := ⟨8 * (0x6010000 + 4 * i) + 4, 3, 0⟩

/-- R407/R381 FAB_RT [7:7] ALT_SUB0 RO. class 0 -/
def FAB_RT_ALT_SUB0 (i : Nat) : Fld := ⟨8 * (0x6010000 + 4 * i) + 7, 1, 0⟩

/-- R407/R381 FAB_RT [10:8] PORT1 RO. class 1 -/
def FAB_RT_PORT1 (i : Nat) : Fld := ⟨8 * (0x6010000 + 4 * i) + 8, 3, 0⟩

/-- R407/R381 FAB_RT [11:11] SUB1 RO. class 1 -/
def FAB_RT_SUB1 (i : Nat) : Fld := ⟨8 * (0x6010000 + 4 * i) + 11, 1, 0⟩

/-- R407/R381 FAB_RT [14:12] ALT1 RO. class 1 -/
def FAB_RT_ALT1 (i : Nat) : Fld := ⟨8 * (0x6010000 + 4 * i) + 12, 3, 0⟩

/-- R407/R381 FAB_RT [15:15] ALT_SUB1 RO. class 1 -/
def FAB_RT_ALT_SUB1 (i : Nat) : Fld := ⟨8 * (0x6010000 + 4 * i) + 15, 1, 0⟩

/-- R407/R381 FAB_RT [18:16] PORT2 RO. class 2 -/
def FAB_RT_PORT2 (i : Nat) : Fld := ⟨8 * (0x6010000 + 4 * i) + 16, 3, 0⟩

/-- R407/R381 FAB_RT [19:19] SUB2 RO. class 2 -/
def FAB_RT_SUB2 (i : Nat) : Fld := ⟨8 * (0x6010000 + 4 * i) + 19, 1, 0⟩

/-- R407/R381 FAB_RT [22:20] ALT2 RO. class 2 -/
def FAB_RT_ALT2 (i : Nat) : Fld := ⟨8 * (0x6010000 + 4 * i) + 20, 3, 0⟩

/-- R407/R381 FAB_RT [23:23] ALT_SUB2 RO. class 2 -/
def FAB_RT_ALT_SUB2 (i : Nat) : Fld := ⟨8 * (0x6010000 + 4 * i) + 23, 1, 0⟩

/-- R407/R381 FAB_RT [26:24] PORT3 RO. class 3 -/
def FAB_RT_PORT3 (i : Nat) : Fld := ⟨8 * (0x6010000 + 4 * i) + 24, 3, 0⟩

/-- R407/R381 FAB_RT [27:27] SUB3 RO. class 3 -/
def FAB_RT_SUB3 (i : Nat) : Fld := ⟨8 * (0x6010000 + 4 * i) + 27, 1, 0⟩

/-- R407/R381 FAB_RT [30:28] ALT3 RO. class 3 -/
def FAB_RT_ALT3 (i : Nat) : Fld := ⟨8 * (0x6010000 + 4 * i) + 28, 3, 0⟩

/-- R407/R381 FAB_RT [31:31] ALT_SUB3 RO. class 3 -/
def FAB_RT_ALT_SUB3 (i : Nat) : Fld := ⟨8 * (0x6010000 + 4 * i) + 31, 1, 0⟩

/-- R407/R396 FAB_COLL [3:0] ARCH_LEVEL RO. 2 -/
def FAB_COLL_ARCH_LEVEL (i : Nat) : Fld := ⟨8 * (0x6020000 + 64 * i) + 0, 4, 0⟩

/-- R407/R396 FAB_COLL [4:4] VALID RO. Entry in use -/
def FAB_COLL_VALID (i : Nat) : Fld := ⟨8 * (0x6020000 + 64 * i) + 4, 1, 0⟩

/-- R407/R396 FAB_COLL [6:5] OP RO. 0 ALLREDUCE, 1 ALLGATHER, 2 ALLTOALL; 3 reserved -/
def FAB_COLL_OP (i : Nat) : Fld := ⟨8 * (0x6020000 + 64 * i) + 5, 2, 0⟩

/-- R407/R396 FAB_COLL [8:7] RED RO. 0 SUM, 1 MAX, 2 MIN; 3 reserved -/
def FAB_COLL_RED (i : Nat) : Fld := ⟨8 * (0x6020000 + 64 * i) + 7, 2, 0⟩

/-- R407/R396 FAB_COLL [11:9] DTYPE RO. 0 INT40 (8-byte, R56 form), 1 FP32, 2 BF16, 3 I32_IDX, 4 FP32_IDX; 5–7 reserved -/
def FAB_COLL_DTYPE (i : Nat) : Fld := ⟨8 * (0x6020000 + 64 * i) + 9, 3, 0⟩

/-- R407/R396 FAB_COLL [13:12] CLASS RO. SCATTER or BULK -/
def FAB_COLL_CLASS (i : Nat) : Fld := ⟨8 * (0x6020000 + 64 * i) + 12, 2, 0⟩

/-- R407/R396 FAB_COLL [47:32] NPART RO. Participants in the whole collective, 1–65,535 -/
def FAB_COLL_NPART (i : Nat) : Fld := ⟨8 * (0x6020000 + 64 * i) + 32, 16, 0⟩

/-- R407/R396 FAB_COLL [50:48] PARENT RO. Port toward the root; 7: this device is the root -/
def FAB_COLL_PARENT (i : Nat) : Fld := ⟨8 * (0x6020000 + 64 * i) + 48, 3, 0⟩

/-- R407/R396 FAB_COLL [61:56] CHILDREN RO. Bit p: port p leads to a child -/
def FAB_COLL_CHILDREN (i : Nat) : Fld := ⟨8 * (0x6020000 + 64 * i) + 56, 6, 0⟩

/-- R407/R396 FAB_COLL [207:64] LOOMS RO. 144-bit mask of this device's participant looms -/
def FAB_COLL_LOOMS (i : Nat) : Fld := ⟨8 * (0x6020000 + 64 * i) + 64, 144, 0⟩

/-- R407/R396 FAB_COLL [223:208] PART0 RO. Index of the first local participant; the local participants take consecutive indices in ascending
loom number -/
def FAB_COLL_PART0 (i : Nat) : Fld := ⟨8 * (0x6020000 + 64 * i) + 208, 16, 0⟩

/-- R407/R396 FAB_COLL [255:224] SRC_OFF RO. Scratchpad address of each participant's source -/
def FAB_COLL_SRC_OFF (i : Nat) : Fld := ⟨8 * (0x6020000 + 64 * i) + 224, 32, 0⟩

/-- R407/R396 FAB_COLL [287:256] DST_OFF RO. Scratchpad address of each participant's result -/
def FAB_COLL_DST_OFF (i : Nat) : Fld := ⟨8 * (0x6020000 + 64 * i) + 256, 32, 0⟩

/-- R407/R396 FAB_COLL [319:288] LEN RO. Source bytes when LEN_MODE is 0 -/
def FAB_COLL_LEN (i : Nat) : Fld := ⟨8 * (0x6020000 + 64 * i) + 288, 32, 0⟩

/-- R407/R396 FAB_COLL [321:320] LEN_MODE RO. 0 fixed LEN; 1 SHT_CREG[CREG] × UNIT; 2 the TSUM of queue CREG × UNIT (R282); 3 reserved. Each
local participant reads its own loom's register or queue -/
def FAB_COLL_LEN_MODE (i : Nat) : Fld := ⟨8 * (0x6020000 + 64 * i) + 320, 2, 0⟩

/-- R407/R396 FAB_COLL [335:328] CREG RO. Count register 0–31 for LEN_MODE 1; queue 0–223 for LEN_MODE 2; zero for LEN_MODE 0 -/
def FAB_COLL_CREG (i : Nat) : Fld := ⟨8 * (0x6020000 + 64 * i) + 328, 8, 0⟩

/-- R407/R396 FAB_COLL [383:352] UNIT RO. Bytes per counted item -/
def FAB_COLL_UNIT (i : Nat) : Fld := ⟨8 * (0x6020000 + 64 * i) + 352, 32, 0⟩

/-- R407/R396 FAB_COLL [415:384] MAXLEN RO. Result area in bytes -/
def FAB_COLL_MAXLEN (i : Nat) : Fld := ⟨8 * (0x6020000 + 64 * i) + 384, 32, 0⟩

/-- R408 FAB_P_ID [3:0] ARCH_LEVEL RO. Architecture level (R8) -/
def FAB_P_ID_ARCH_LEVEL (p : Nat) : Fld := ⟨8 * (0x6100000 + 0x100000 * p) + 0, 4, 0x2⟩

/-- R408 FAB_P_ID [6:4] PORT RO. Port number Reset: p. -/
def FAB_P_ID_PORT (p : Nat) : Fld := ⟨8 * (0x6100000 + 0x100000 * p) + 4, 3, p⟩

/-- R408 FAB_P_ID [8:7] PERS RO. 0 unused, 1 FABRIC, 2 ETH (R369) -/
def FAB_P_ID_PERS (p : Nat) : Fld := ⟨8 * (0x6100000 + 0x100000 * p) + 7, 2, 0⟩

/-- R408 FAB_P_CTL [0:0] RETRAIN WO. Writing 1 moves the port to TRAINING -/
def FAB_P_CTL_RETRAIN (p : Nat) : Fld := ⟨8 * (0x6100008 + 0x100000 * p) + 0, 1, 0⟩

/-- R408 FAB_P_CTL [1:1] DISABLE RW. Holds the port DISABLED -/
def FAB_P_CTL_DISABLE (p : Nat) : Fld := ⟨8 * (0x6100008 + 0x100000 * p) + 1, 1, 0⟩

/-- R408 FAB_P_STATE [2:0] STATE RO. R384 -/
def FAB_P_STATE_STATE (p : Nat) : Fld := ⟨8 * (0x6100010 + 0x100000 * p) + 0, 3, 0⟩

/-- R408 FAB_P_STATE [7:4] QCAUSE RO. R386, R387, R388 -/
def FAB_P_STATE_QCAUSE (p : Nat) : Fld := ⟨8 * (0x6100010 + 0x100000 * p) + 4, 4, 0⟩

/-- R408 FAB_P_STATE [11:8] LEVEL RO. Common level -/
def FAB_P_STATE_LEVEL (p : Nat) : Fld := ⟨8 * (0x6100010 + 0x100000 * p) + 8, 4, 0⟩

/-- R408 FAB_P_CAP_PEER [127:0] CAP RO. Peer capability word -/
def FAB_P_CAP_PEER_CAP (p : Nat) : Fld := ⟨8 * (0x6100018 + 0x100000 * p) + 0, 128, 0⟩

/-- R408 FAB_P_FEAT [63:0] FEATURES RO. Common features -/
def FAB_P_FEAT_FEATURES (p : Nat) : Fld := ⟨8 * (0x6100028 + 0x100000 * p) + 0, 64, 0⟩

/-- R408 FAB_P_RETRY_THR [15:0] THR RW. R390 -/
def FAB_P_RETRY_THR_THR (p : Nat) : Fld := ⟨8 * (0x6100030 + 0x100000 * p) + 0, 16, 0x0100⟩

/-- R408 FAB_P_RETRY_THR [31:16] WIN_MS RW. Window; 0 reads as 1 -/
def FAB_P_RETRY_THR_WIN_MS (p : Nat) : Fld := ⟨8 * (0x6100030 + 0x100000 * p) + 16, 16, 0x000A⟩

/-- R408 FAB_P_MAL_THR [15:0] THR RW. R388 -/
def FAB_P_MAL_THR_THR (p : Nat) : Fld := ⟨8 * (0x6100034 + 0x100000 * p) + 0, 16, 0x0010⟩

/-- R408 FAB_P_MAL_THR [31:16] WIN_MS RW. Window; 0 reads as 1 -/
def FAB_P_MAL_THR_WIN_MS (p : Nat) : Fld := ⟨8 * (0x6100034 + 0x100000 * p) + 16, 16, 0x03E8⟩

/-- R408 FAB_P_CNT_FEC_CORR [63:0] N RO. R389; wraps -/
def FAB_P_CNT_FEC_CORR_N (p : Nat) : Fld := ⟨8 * (0x6100038 + 0x100000 * p) + 0, 64, 0⟩

/-- R408 FAB_P_CNT_FEC_UNCORR [63:0] N RO. R389; wraps -/
def FAB_P_CNT_FEC_UNCORR_N (p : Nat) : Fld := ⟨8 * (0x6100040 + 0x100000 * p) + 0, 64, 0⟩

/-- R408 FAB_P_CNT_CRC [63:0] N RO. R389; wraps -/
def FAB_P_CNT_CRC_N (p : Nat) : Fld := ⟨8 * (0x6100048 + 0x100000 * p) + 0, 64, 0⟩

/-- R408 FAB_P_CNT_RETRY [63:0] N RO. R390; wraps -/
def FAB_P_CNT_RETRY_N (p : Nat) : Fld := ⟨8 * (0x6100050 + 0x100000 * p) + 0, 64, 0⟩

/-- R408 FAB_P_RETRY_NS [63:0] NS RO. R390; wraps -/
def FAB_P_RETRY_NS_NS (p : Nat) : Fld := ⟨8 * (0x6100058 + 0x100000 * p) + 0, 64, 0⟩

/-- R408 FAB_P_CNT_DOWN [31:0] N RO. Entries to DOWN; holds -/
def FAB_P_CNT_DOWN_N (p : Nat) : Fld := ⟨8 * (0x6100060 + 0x100000 * p) + 0, 32, 0⟩

/-- R408 FAB_P_CNT_MAL [63:0] N RO. R377; wraps -/
def FAB_P_CNT_MAL_N (p i : Nat) : Fld := ⟨8 * (0x6100068 + 0x100000 * p + 8 * i) + 0, 64, 0⟩

/-- R408 FAB_P_CNT_QDROP [63:0] N RO. R388; wraps -/
def FAB_P_CNT_QDROP_N (p : Nat) : Fld := ⟨8 * (0x6100098 + 0x100000 * p) + 0, 64, 0⟩

/-- R408 FAB_P_CNT_TXFLIT [63:0] N RO. DATA flits sent; wraps -/
def FAB_P_CNT_TXFLIT_N (p : Nat) : Fld := ⟨8 * (0x61000A0 + 0x100000 * p) + 0, 64, 0⟩

/-- R408 FAB_P_CNT_RXFLIT [63:0] N RO. DATA flits accepted; wraps -/
def FAB_P_CNT_RXFLIT_N (p : Nat) : Fld := ⟨8 * (0x61000A8 + 0x100000 * p) + 0, 64, 0⟩

/-- R408 FAB_P_ERR [0:0] DOWN W1C. R390 -/
def FAB_P_ERR_DOWN (p : Nat) : Fld := ⟨8 * (0x61000B0 + 0x100000 * p) + 0, 1, 0⟩

/-- R408 FAB_P_ERR [1:1] QUARANTINE W1C. R388 -/
def FAB_P_ERR_QUARANTINE (p : Nat) : Fld := ⟨8 * (0x61000B0 + 0x100000 * p) + 1, 1, 0⟩

/-- R408 FAB_P_ERR [2:2] TRAIN_FAIL W1C. R384 -/
def FAB_P_ERR_TRAIN_FAIL (p : Nat) : Fld := ⟨8 * (0x61000B0 + 0x100000 * p) + 2, 1, 0⟩

/-- R409 ETH_ID [3:0] ARCH_LEVEL RO. Architecture level (R8) -/
def ETH_ID_ARCH_LEVEL (e : Nat) : Fld := ⟨8 * (0x7000000 + 0x10000 * e) + 0, 4, 0x2⟩

/-- R409 ETH_ID [8:4] PORT RO. Port number Reset: e. -/
def ETH_ID_PORT (e : Nat) : Fld := ⟨8 * (0x7000000 + 0x10000 * e) + 4, 5, e⟩

/-- R409 ETH_CTL [0:0] EN RW. Port enabled -/
def ETH_CTL_EN (e : Nat) : Fld := ⟨8 * (0x7000008 + 0x10000 * e) + 0, 1, 0⟩

/-- R409 ETH_CTL [2:1] PMD RW. 0 KR4, 1 CR4, 2 chip-to-module; 3 reads as 0 -/
def ETH_CTL_PMD (e : Nat) : Fld := ⟨8 * (0x7000008 + 0x10000 * e) + 1, 2, 0⟩

/-- R409 ETH_CTL [3:3] AN RW. Clause 73 auto-negotiation -/
def ETH_CTL_AN (e : Nat) : Fld := ⟨8 * (0x7000008 + 0x10000 * e) + 3, 1, 1⟩

/-- R409 ETH_CTL [4:4] PFC_EN RW. R403 -/
def ETH_CTL_PFC_EN (e : Nat) : Fld := ⟨8 * (0x7000008 + 0x10000 * e) + 4, 1, 0⟩

/-- R409 ETH_CTL [29:16] MAXFRAME RW. 64–9,216; other values read as 1,518 -/
def ETH_CTL_MAXFRAME (e : Nat) : Fld := ⟨8 * (0x7000008 + 0x10000 * e) + 16, 14, 0x05EE⟩

/-- R409 ETH_STATUS [0:0] LINK RO. Link up -/
def ETH_STATUS_LINK (e : Nat) : Fld := ⟨8 * (0x7000010 + 0x10000 * e) + 0, 1, 0⟩

/-- R409 ETH_STATUS [1:1] FEC_LOCK RO. FEC locked -/
def ETH_STATUS_FEC_LOCK (e : Nat) : Fld := ⟨8 * (0x7000010 + 0x10000 * e) + 1, 1, 0⟩

/-- R409 ETH_STATUS [2:2] AN_DONE RO. Auto-negotiation complete -/
def ETH_STATUS_AN_DONE (e : Nat) : Fld := ⟨8 * (0x7000010 + 0x10000 * e) + 2, 1, 0⟩

/-- R409 ETH_STATUS [3:3] DISABLED RO. Port runs the fabric personality -/
def ETH_STATUS_DISABLED (e : Nat) : Fld := ⟨8 * (0x7000010 + 0x10000 * e) + 3, 1, 0⟩

/-- R409 ETH_MAC [47:0] MAC RW. Station address -/
def ETH_MAC_MAC (e : Nat) : Fld := ⟨8 * (0x7000018 + 0x10000 * e) + 0, 48, 0⟩

/-- R409 ETH_TX_BASE [63:0] ADDR RW. Transmit ring, 32-byte aligned -/
def ETH_TX_BASE_ADDR (e : Nat) : Fld := ⟨8 * (0x7000020 + 0x10000 * e) + 0, 64, 0⟩

/-- R409 ETH_TX_RING [15:0] TAIL RW. Next descriptor the runtime fills -/
def ETH_TX_RING_TAIL (e : Nat) : Fld := ⟨8 * (0x7000028 + 0x10000 * e) + 0, 16, 0⟩

/-- R409 ETH_TX_RING [31:16] HEAD RO. Next descriptor the device sends -/
def ETH_TX_RING_HEAD (e : Nat) : Fld := ⟨8 * (0x7000028 + 0x10000 * e) + 16, 16, 0⟩

/-- R409 ETH_TX_RING [47:32] SIZE RW. Power of two, 64–32,768; other values stop the ring -/
def ETH_TX_RING_SIZE (e : Nat) : Fld := ⟨8 * (0x7000028 + 0x10000 * e) + 32, 16, 0⟩

/-- R409 ETH_RX_BASE [63:0] ADDR RW. Receive ring, 32-byte aligned -/
def ETH_RX_BASE_ADDR (e : Nat) : Fld := ⟨8 * (0x7000030 + 0x10000 * e) + 0, 64, 0⟩

/-- R409 ETH_RX_RING [15:0] TAIL RO. Next descriptor the device fills -/
def ETH_RX_RING_TAIL (e : Nat) : Fld := ⟨8 * (0x7000038 + 0x10000 * e) + 0, 16, 0⟩

/-- R409 ETH_RX_RING [31:16] HEAD RW. Next descriptor the runtime reads -/
def ETH_RX_RING_HEAD (e : Nat) : Fld := ⟨8 * (0x7000038 + 0x10000 * e) + 16, 16, 0⟩

/-- R409 ETH_RX_RING [47:32] SIZE RW. As ETH_TX_RING -/
def ETH_RX_RING_SIZE (e : Nat) : Fld := ⟨8 * (0x7000038 + 0x10000 * e) + 32, 16, 0⟩

/-- R409 ETH_CNT_RX_FRAMES [63:0] N RO. Frames received; wraps -/
def ETH_CNT_RX_FRAMES_N (e : Nat) : Fld := ⟨8 * (0x7000040 + 0x10000 * e) + 0, 64, 0⟩

/-- R409 ETH_CNT_TX_FRAMES [63:0] N RO. Frames sent; wraps -/
def ETH_CNT_TX_FRAMES_N (e : Nat) : Fld := ⟨8 * (0x7000048 + 0x10000 * e) + 0, 64, 0⟩

/-- R409 ETH_CNT_RX_FCS [63:0] N RO. Bad FCS; wraps -/
def ETH_CNT_RX_FCS_N (e : Nat) : Fld := ⟨8 * (0x7000050 + 0x10000 * e) + 0, 64, 0⟩

/-- R409 ETH_CNT_RX_DROP [63:0] N RO. R404; wraps -/
def ETH_CNT_RX_DROP_N (e : Nat) : Fld := ⟨8 * (0x7000058 + 0x10000 * e) + 0, 64, 0⟩

/-- R409 ETH_CNT_RX_PAUSE [63:0] N RO. PAUSE frames discarded; wraps -/
def ETH_CNT_RX_PAUSE_N (e : Nat) : Fld := ⟨8 * (0x7000060 + 0x10000 * e) + 0, 64, 0⟩

/-- R409 ETH_CNT_FEC_CORR [63:0] N RO. Codewords corrected; wraps -/
def ETH_CNT_FEC_CORR_N (e : Nat) : Fld := ⟨8 * (0x7000068 + 0x10000 * e) + 0, 64, 0⟩

/-- R409 ETH_CNT_FEC_UNCORR [63:0] N RO. Codewords uncorrectable; wraps -/
def ETH_CNT_FEC_UNCORR_N (e : Nat) : Fld := ⟨8 * (0x7000070 + 0x10000 * e) + 0, 64, 0⟩

/-- R409 ETH_CNT_TUN_TX [63:0] N RO. Frames tunnelled (R405); wraps -/
def ETH_CNT_TUN_TX_N (e : Nat) : Fld := ⟨8 * (0x7000078 + 0x10000 * e) + 0, 64, 0⟩

/-- R409 ETH_CNT_TUN_DROP [63:0] N RO. R405; wraps -/
def ETH_CNT_TUN_DROP_N (e : Nat) : Fld := ⟨8 * (0x7000080 + 0x10000 * e) + 0, 64, 0⟩

end Sys2Proof.Machine
end

