-- ==== Sys2Proof/Machine/RegsHub.lean ====
section
/-! DEFINITION. The named register fields of serving controller (R326 to R329), HBM and its region and quota tables (R331, R347, R359), cache (R360), neighbour tier (R361, R362), flash tier (R361, R363).
Each field is written from its row of the spec's register table: where it lies, how wide it is, what it holds after cold reset. -/
namespace Sys2Proof.Machine

/-- R329 SVC_ID [3:0] ARCH_LEVEL RO. Architecture level (R8) -/
def SVC_ID_ARCH_LEVEL : Fld := ⟨8 * (0x1000000) + 0, 4, 0x2⟩

/-- R329 SVC_ID [15:8] SLOTS RO. Slots -/
def SVC_ID_SLOTS : Fld := ⟨8 * (0x1000000) + 8, 8, 0x40⟩

/-- R329 SVC_ID [23:16] BOLTS RO. Bolts -/
def SVC_ID_BOLTS : Fld := ⟨8 * (0x1000000) + 16, 8, 0x40⟩

/-- R329 SVC_CTL [0:0] ADMIT_EN RW. 0: every ADMIT is answered REQ_INVALID -/
def SVC_CTL_ADMIT_EN : Fld := ⟨8 * (0x1000008) + 0, 1, 0⟩

/-- R329 SVC_CTL [1:1] CNT_CLR WO. Writing 1 clears the SVC_CNT registers -/
def SVC_CTL_CNT_CLR : Fld := ⟨8 * (0x1000008) + 1, 1, 0⟩

/-- R329 SVC_STATUS [14:0] STREAMS RO. Valid streams -/
def SVC_STATUS_STREAMS : Fld := ⟨8 * (0x1000010) + 0, 15, 0⟩

/-- R329 SVC_TIME [63:0] NS RO. Device time in ns, from the step epoch of "The fabric: torus, links and Ethernet personality" -/
def SVC_TIME_NS : Fld := ⟨8 * (0x1000018) + 0, 64, 0⟩

/-- R329 SVC_ALLOW_ECC [15:0] HOLDS RW. R304 -/
def SVC_ALLOW_ECC_HOLDS : Fld := ⟨8 * (0x1000020) + 0, 16, 0x0040⟩

/-- R329 SVC_ALLOW_REPLAY [7:0] FRACTION RW. Units of 1/256 -/
def SVC_ALLOW_REPLAY_FRACTION : Fld := ⟨8 * (0x1000024) + 0, 8, 0x20⟩

/-- R329 SVC_ALLOW_LINK [31:0] NS RW. Link-retry allowance per step -/
def SVC_ALLOW_LINK_NS : Fld := ⟨8 * (0x1000028) + 0, 32, 0x000007D0⟩

/-- R329 SVC_FLOOR_MHZ [11:0] MHZ RW. R305 -/
def SVC_FLOOR_MHZ_MHZ : Fld := ⟨8 * (0x100002C) + 0, 12, 0x5DC⟩

/-- R329 SVC_OVERHEAD [31:0] NS RW. Launch and seal time per step -/
def SVC_OVERHEAD_NS : Fld := ⟨8 * (0x1000030) + 0, 32, 0x00000FA0⟩

/-- R329 SVC_SWAP_BW [15:0] FLASH RW. 0.1 GB/s units -/
def SVC_SWAP_BW_FLASH : Fld := ⟨8 * (0x1000034) + 0, 16, 0x0190⟩

/-- R329 SVC_SWAP_BW [31:16] NBR RW. 0.1 GB/s units -/
def SVC_SWAP_BW_NBR : Fld := ⟨8 * (0x1000034) + 16, 16, 0x07D0⟩

/-- R329 SVC_LOAD_FIXED [31:0] NS RW. R308 -/
def SVC_LOAD_FIXED_NS : Fld := ⟨8 * (0x1000038) + 0, 32, 0x001E8480⟩

/-- R329 SVC_SPEC_COOL [15:0] STEPS RW. R322 -/
def SVC_SPEC_COOL_STEPS : Fld := ⟨8 * (0x100003C) + 0, 16, 0x0100⟩

/-- R329 SVC_STEP_TIMEOUT [7:0] QUARTERS RW. R315; 0 reads as 4 -/
def SVC_STEP_TIMEOUT_QUARTERS : Fld := ⟨8 * (0x1000040) + 0, 8, 0x10⟩

/-- R329 SVC_RQ_BASE [63:0] ADDR RW. Local address of the request ring, 128-byte aligned -/
def SVC_RQ_BASE_ADDR : Fld := ⟨8 * (0x1000048) + 0, 64, 0⟩

/-- R329 SVC_RQ_SIZE [16:0] ENTRIES RW. Power of two, 64–65,536; other values set SVC_ERR.RQ_BAD and stop processing -/
def SVC_RQ_SIZE_ENTRIES : Fld := ⟨8 * (0x1000050) + 0, 17, 0⟩

/-- R329 SVC_RQ_TAIL [15:0] TAIL RW. Next entry the runtime will write, modulo ENTRIES -/
def SVC_RQ_TAIL_TAIL : Fld := ⟨8 * (0x1000054) + 0, 16, 0⟩

/-- R329 SVC_RQ_HEAD [15:0] HEAD RO. Next entry the SVC will process -/
def SVC_RQ_HEAD_HEAD : Fld := ⟨8 * (0x1000058) + 0, 16, 0⟩

/-- R329 SVC_CNT_ADMIT [63:0] N RO. Admissions; wraps -/
def SVC_CNT_ADMIT_N : Fld := ⟨8 * (0x1000060) + 0, 64, 0⟩

/-- R329 SVC_CNT_REFUSE [63:0] N RO. Refused ADMITs; wraps -/
def SVC_CNT_REFUSE_N : Fld := ⟨8 * (0x1000068) + 0, 64, 0⟩

/-- R329 SVC_CNT_COMPLETE [63:0] N RO. COMPLETE records; wraps -/
def SVC_CNT_COMPLETE_N : Fld := ⟨8 * (0x1000070) + 0, 64, 0⟩

/-- R329 SVC_CNT_CANCEL [63:0] N RO. CANCELLED records; wraps -/
def SVC_CNT_CANCEL_N : Fld := ⟨8 * (0x1000078) + 0, 64, 0⟩

/-- R329 SVC_CNT_ABORT [63:0] N RO. Aborted steps; wraps -/
def SVC_CNT_ABORT_N : Fld := ⟨8 * (0x1000080) + 0, 64, 0⟩

/-- R329 SVC_CNT_OVERRUN [63:0] N RO. Overrun records; wraps -/
def SVC_CNT_OVERRUN_N : Fld := ⟨8 * (0x1000088) + 0, 64, 0⟩

/-- R329 SVC_CNT_SWAP [63:0] N RO. Swaps completed; wraps -/
def SVC_CNT_SWAP_N : Fld := ⟨8 * (0x1000090) + 0, 64, 0⟩

/-- R329 SVC_CNT_STEPS [63:0] N RO. Steps sealed; wraps -/
def SVC_CNT_STEPS_N : Fld := ⟨8 * (0x1000098) + 0, 64, 0⟩

/-- R329 SVC_REFUSE_LAST [7:0] STATUS RO. Status of the last refused request -/
def SVC_REFUSE_LAST_STATUS : Fld := ⟨8 * (0x10000A0) + 0, 8, 0⟩

/-- R329 SVC_REFUSE_LAST [31:16] INDEX RO. Its ring index -/
def SVC_REFUSE_LAST_INDEX : Fld := ⟨8 * (0x10000A0) + 16, 16, 0⟩

/-- R329 SVC_ERR [0:0] RQ_BAD W1C. Ring parameters invalid (R325, R329) -/
def SVC_ERR_RQ_BAD : Fld := ⟨8 * (0x10000A8) + 0, 1, 0⟩

/-- R329 SVC_ERR [1:1] UNATTRIBUTED W1C. R317 -/
def SVC_ERR_UNATTRIBUTED : Fld := ⟨8 * (0x10000A8) + 1, 1, 0⟩

/-- R329 SVC_ERR [2:2] ABORT W1C. A step was aborted (R315) -/
def SVC_ERR_ABORT : Fld := ⟨8 * (0x10000A8) + 2, 1, 0⟩

/-- R329 SVC_CNT_CAUSE [63:0] N RO. Overrun records with CAUSE c, c = 1–15; wraps -/
def SVC_CNT_CAUSE_N (i : Nat) : Fld := ⟨8 * (0x1000100 + 8 * i) + 0, 64, 0⟩

/-- R359 HBM_ID [3:0] ARCH_LEVEL RO. Architecture level (R8) -/
def HBM_ID_ARCH_LEVEL (s : Nat) : Fld := ⟨8 * (0x2000000 + 0x100000 * s) + 0, 4, 0x2⟩

/-- R359 HBM_ID [7:4] STACK RO. Stack number Reset: s. -/
def HBM_ID_STACK (s : Nat) : Fld := ⟨8 * (0x2000000 + 0x100000 * s) + 4, 4, s⟩

/-- R359 HBM_ID [15:8] CHANNELS RO. Channels -/
def HBM_ID_CHANNELS (s : Nat) : Fld := ⟨8 * (0x2000000 + 0x100000 * s) + 8, 8, 0x20⟩

/-- R359 HBM_ID [23:16] SIZE_GIB RO. Data capacity -/
def HBM_ID_SIZE_GIB (s : Nat) : Fld := ⟨8 * (0x2000000 + 0x100000 * s) + 16, 8, 0x48⟩

/-- R359 HBM_STATUS [0:0] TRAINED RO. Stack trained at 10 Gb/s -/
def HBM_STATUS_TRAINED (s : Nat) : Fld := ⟨8 * (0x2000010 + 0x100000 * s) + 0, 1, 0⟩

/-- R359 HBM_STATUS [1:1] BENCHED RO. Stack benched -/
def HBM_STATUS_BENCHED (s : Nat) : Fld := ⟨8 * (0x2000010 + 0x100000 * s) + 1, 1, 0⟩

/-- R359 HBM_STATUS [2:2] REFRESH_2X RO. Halved refresh interval (R340) -/
def HBM_STATUS_REFRESH_2X (s : Nat) : Fld := ⟨8 * (0x2000010 + 0x100000 * s) + 2, 1, 0⟩

/-- R359 HBM_PHY_CTL [1:0] LOOP RW. R343; 3 is ignored -/
def HBM_PHY_CTL_LOOP (s : Nat) : Fld := ⟨8 * (0x2000018 + 0x100000 * s) + 0, 2, 0⟩

/-- R359 HBM_TEMP [7:0] DEG_C RO. Stack sensor, signed °C -/
def HBM_TEMP_DEG_C (s : Nat) : Fld := ⟨8 * (0x2000020 + 0x100000 * s) + 0, 8, 0⟩

/-- R359 HBM_CNT_CORR [63:0] CORR RO. R342; wraps -/
def HBM_CNT_CORR_CORR (s : Nat) : Fld := ⟨8 * (0x2000028 + 0x100000 * s) + 0, 64, 0⟩

/-- R359 HBM_CNT_TRANSIENT [63:0] TRANSIENT RO. R342; wraps -/
def HBM_CNT_TRANSIENT_TRANSIENT (s : Nat) : Fld := ⟨8 * (0x2000030 + 0x100000 * s) + 0, 64, 0⟩

/-- R359 HBM_CNT_LASTING [63:0] LASTING RO. R342; wraps -/
def HBM_CNT_LASTING_LASTING (s : Nat) : Fld := ⟨8 * (0x2000038 + 0x100000 * s) + 0, 64, 0⟩

/-- R359 HBM_CNT_UNCORR [63:0] UNCORR RO. R342; wraps -/
def HBM_CNT_UNCORR_UNCORR (s : Nat) : Fld := ⟨8 * (0x2000040 + 0x100000 * s) + 0, 64, 0⟩

/-- R359 HBM_ERR_ADDR [63:0] ADDR RO. Local address of the last lasting or uncorrectable sector -/
def HBM_ERR_ADDR_ADDR (s : Nat) : Fld := ⟨8 * (0x2000048 + 0x100000 * s) + 0, 64, 0⟩

/-- R359 HBM_ERR [0:0] UNCORR W1C. R342 -/
def HBM_ERR_UNCORR (s : Nat) : Fld := ⟨8 * (0x2000050 + 0x100000 * s) + 0, 1, 0⟩

/-- R359 HBM_ERR [1:1] LASTING W1C. R342 -/
def HBM_ERR_LASTING (s : Nat) : Fld := ⟨8 * (0x2000050 + 0x100000 * s) + 1, 1, 0⟩

/-- R359 HBM_ERR [2:2] TRAIN_FAIL W1C. Training failed; stack benched -/
def HBM_ERR_TRAIN_FAIL (s : Nat) : Fld := ⟨8 * (0x2000050 + 0x100000 * s) + 2, 1, 0⟩

/-- R359 HBM_CNT_POISON [63:0] POISON RO. Reads of sectors stored poisoned (R342); wraps -/
def HBM_CNT_POISON_POISON (s : Nat) : Fld := ⟨8 * (0x2000058 + 0x100000 * s) + 0, 64, 0⟩

/-- HBM_RGN_STAGE.ENTRY[127:0], RW (R359): the staged entry, whole. -/
def HBM_RGN_STAGE_ENTRY : Fld := ⟨8 * (0x2080000) + 0, 128, 0⟩

/-- R359 HBM_RGN_CMD [11:0] INDEX WO. Entry index -/
def HBM_RGN_CMD_INDEX : Fld := ⟨8 * (0x2080010) + 0, 12, 0⟩

/-- R359 HBM_RGN_CMD [12:12] OP WO. 0 WRITE, 1 CLEAR -/
def HBM_RGN_CMD_OP : Fld := ⟨8 * (0x2080010) + 12, 1, 0⟩

/-- R359 HBM_RGN_STS [3:0] STS RO. R332 -/
def HBM_RGN_STS_STS : Fld := ⟨8 * (0x2080018) + 0, 4, 0⟩

/-- R359 HBM_RGN_STS [15:4] INDEX RO. Index of that command -/
def HBM_RGN_STS_INDEX : Fld := ⟨8 * (0x2080018) + 4, 12, 0⟩

/-- R359/R331 HBM_RGN [3:0] ARCH_LEVEL RO. 2 -/
def HBM_RGN_ARCH_LEVEL (i : Nat) : Fld := ⟨8 * (0x2090000 + 16 * i) + 0, 4, 0⟩

/-- R359/R331 HBM_RGN [4:4] VALID RO. Entry in use -/
def HBM_RGN_VALID (i : Nat) : Fld := ⟨8 * (0x2090000 + 16 * i) + 4, 1, 0⟩

/-- R359/R331 HBM_RGN [6:5] HINT RO. 0 STREAM, 1 KEEP, 2 DISCARD; 3 refused -/
def HBM_RGN_HINT (i : Nat) : Fld := ⟨8 * (0x2090000 + 16 * i) + 5, 2, 0⟩

/-- R359/R331 HBM_RGN [7:7] PROT RO. Contents encrypted under "Protected regions and key slots" -/
def HBM_RGN_PROT (i : Nat) : Fld := ⟨8 * (0x2090000 + 16 * i) + 7, 1, 0⟩

/-- R359/R331 HBM_RGN [8:8] ANY RO. Any tenant may access; 0: only TENANT and tenant 0 -/
def HBM_RGN_ANY (i : Nat) : Fld := ⟨8 * (0x2090000 + 16 * i) + 8, 1, 0⟩

/-- R359/R331 HBM_RGN [9:9] PEER_EN RO. Peer devices may access (neighbour tier) -/
def HBM_RGN_PEER_EN (i : Nat) : Fld := ⟨8 * (0x2090000 + 16 * i) + 9, 1, 0⟩

/-- R359/R331 HBM_RGN [10:10] FIXED RO. Written by the Card image loader -/
def HBM_RGN_FIXED (i : Nat) : Fld := ⟨8 * (0x2090000 + 16 * i) + 10, 1, 0⟩

/-- R359/R331 HBM_RGN [11:11] LENT RO. Lent to a peer; set and cleared by the NBT -/
def HBM_RGN_LENT (i : Nat) : Fld := ⟨8 * (0x2090000 + 16 * i) + 11, 1, 0⟩

/-- R359/R331 HBM_RGN [25:16] TENANT RO. Owning tenant -/
def HBM_RGN_TENANT (i : Nat) : Fld := ⟨8 * (0x2090000 + 16 * i) + 16, 10, 0⟩

/-- R359/R331 HBM_RGN [39:26] PEER_CHIP RO. The one peer chip ID admitted when PEER_EN is 1 -/
def HBM_RGN_PEER_CHIP (i : Nat) : Fld := ⟨8 * (0x2090000 + 16 * i) + 26, 14, 0⟩

/-- R359/R331 HBM_RGN [63:40] BASE_64K RO. Region base: offset from HBM_BASE in 64 KiB units -/
def HBM_RGN_BASE_64K (i : Nat) : Fld := ⟨8 * (0x2090000 + 16 * i) + 40, 24, 0⟩

/-- R359/R331 HBM_RGN [87:64] SIZE_64K RO. Region size in 64 KiB units, at least 1 -/
def HBM_RGN_SIZE_64K (i : Nat) : Fld := ⟨8 * (0x2090000 + 16 * i) + 64, 24, 0⟩

/-- R359/R331 HBM_RGN [119:88] TWEAK_BASE RO. XTS tweak of the region's first 256 bytes -/
def HBM_RGN_TWEAK_BASE (i : Nat) : Fld := ⟨8 * (0x2090000 + 16 * i) + 88, 32, 0⟩

/-- R359/R347 HBM_TQ [3:0] ARCH_LEVEL RO. 2 -/
def HBM_TQ_ARCH_LEVEL (i : Nat) : Fld := ⟨8 * (0x20A0000 + 32 * i) + 0, 4, 0⟩

/-- R359/R347 HBM_TQ [7:4] KEEP_WAYS RO. Cache ways per set that the tenant may keep, 0–12 (R337) -/
def HBM_TQ_KEEP_WAYS (i : Nat) : Fld := ⟨8 * (0x20A0000 + 32 * i) + 4, 4, 0⟩

/-- R359/R347 HBM_TQ [63:32] HBM_QUOTA RO. KiB -/
def HBM_TQ_HBM_QUOTA (i : Nat) : Fld := ⟨8 * (0x20A0000 + 32 * i) + 32, 32, 0⟩

/-- R359/R347 HBM_TQ [95:64] HBM_USED RO. KiB: SIZE of the tenant's valid regions with ANY at 0, plus its reserved KV page slots (R63, R314) -/
def HBM_TQ_HBM_USED (i : Nat) : Fld := ⟨8 * (0x20A0000 + 32 * i) + 64, 32, 0⟩

/-- R359/R347 HBM_TQ [127:96] NBT_QUOTA RO. 64 KiB pages borrowed -/
def HBM_TQ_NBT_QUOTA (i : Nat) : Fld := ⟨8 * (0x20A0000 + 32 * i) + 96, 32, 0⟩

/-- R359/R347 HBM_TQ [159:128] NBT_USED RO. Pages in the tenant's ACTIVE and RECLAIMING leases -/
def HBM_TQ_NBT_USED (i : Nat) : Fld := ⟨8 * (0x20A0000 + 32 * i) + 128, 32, 0⟩

/-- R359/R347 HBM_TQ [191:160] FLASH_QUOTA RO. 64 KiB units -/
def HBM_TQ_FLASH_QUOTA (i : Nat) : Fld := ⟨8 * (0x20A0000 + 32 * i) + 160, 32, 0⟩

/-- R359/R347 HBM_TQ [223:192] FLASH_USED RO. Units written to the tenant's objects -/
def HBM_TQ_FLASH_USED (i : Nat) : Fld := ⟨8 * (0x20A0000 + 32 * i) + 192, 32, 0⟩

/-- R360 MSC_ID [3:0] ARCH_LEVEL RO. Architecture level (R8) -/
def MSC_ID_ARCH_LEVEL (s : Nat) : Fld := ⟨8 * (0x3000000 + 0x100000 * s) + 0, 4, 0x2⟩

/-- R360 MSC_ID [7:4] STACK RO. Stack number Reset: s. -/
def MSC_ID_STACK (s : Nat) : Fld := ⟨8 * (0x3000000 + 0x100000 * s) + 4, 4, s⟩

/-- R360 MSC_ID [15:8] WAYS RO. Ways -/
def MSC_ID_WAYS (s : Nat) : Fld := ⟨8 * (0x3000000 + 0x100000 * s) + 8, 8, 0x10⟩

/-- R360 MSC_ID [29:16] SETS RO. Sets -/
def MSC_ID_SETS (s : Nat) : Fld := ⟨8 * (0x3000000 + 0x100000 * s) + 16, 14, 0x2000⟩

/-- R360 MSC_CTL [1:0] DEF_HINT RW. Hint outside any region (R333); 3 reads as 0 -/
def MSC_CTL_DEF_HINT (s : Nat) : Fld := ⟨8 * (0x3000008 + 0x100000 * s) + 0, 2, 0⟩

/-- R360 MSC_CTL [2:2] FLUSH WO. R339 -/
def MSC_CTL_FLUSH (s : Nat) : Fld := ⟨8 * (0x3000008 + 0x100000 * s) + 2, 1, 0⟩

/-- R360 MSC_STATUS [0:0] FLUSH_BUSY RO. R339 -/
def MSC_STATUS_FLUSH_BUSY (s : Nat) : Fld := ⟨8 * (0x3000010 + 0x100000 * s) + 0, 1, 0⟩

/-- R360 MSC_CNT_HIT [63:0] HIT RO. Hits; wraps -/
def MSC_CNT_HIT_HIT (s : Nat) : Fld := ⟨8 * (0x3000018 + 0x100000 * s) + 0, 64, 0⟩

/-- R360 MSC_CNT_MISS [63:0] MISS RO. Misses; wraps -/
def MSC_CNT_MISS_MISS (s : Nat) : Fld := ⟨8 * (0x3000020 + 0x100000 * s) + 0, 64, 0⟩

/-- R360 MSC_CNT_DISCARD [63:0] DISCARD RO. Dirty lines discarded (R336); wraps -/
def MSC_CNT_DISCARD_DISCARD (s : Nat) : Fld := ⟨8 * (0x3000028 + 0x100000 * s) + 0, 64, 0⟩

/-- R360 MSC_CNT_WB [63:0] WB RO. Lines written back; wraps -/
def MSC_CNT_WB_WB (s : Nat) : Fld := ⟨8 * (0x3000030 + 0x100000 * s) + 0, 64, 0⟩

/-- R360 MSC_CNT_OVERQ [63:0] OVERQ RO. KEEP allocations left unmarked (R337); wraps -/
def MSC_CNT_OVERQ_OVERQ (s : Nat) : Fld := ⟨8 * (0x3000038 + 0x100000 * s) + 0, 64, 0⟩

/-- R360 MSC_KEPT [17:0] LINES RO. KEEP lines of tenant t in this stack, t = 0–1,023 -/
def MSC_KEPT_LINES (s i : Nat) : Fld := ⟨8 * (0x3000100 + 0x100000 * s + 4 * i) + 0, 18, 0⟩

/-- R361 NBT_ID [3:0] ARCH_LEVEL RO. Architecture level (R8) -/
def NBT_ID_ARCH_LEVEL : Fld := ⟨8 * (0x4000000) + 0, 4, 0x2⟩

/-- R361 NBT_ID [16:8] UNITS RO. Leases per side, or NAND channels Reset: 0x100 NBT, 0x010 FTL. -/
def NBT_ID_UNITS : Fld := ⟨8 * (0x4000000) + 8, 9, 0x100⟩

/-- R361 FTL_ID [3:0] ARCH_LEVEL RO. Architecture level (R8) -/
def FTL_ID_ARCH_LEVEL : Fld := ⟨8 * (0x5000000) + 0, 4, 0x2⟩

/-- R361 FTL_ID [16:8] UNITS RO. Leases per side, or NAND channels Reset: 0x100 NBT, 0x010 FTL. -/
def FTL_ID_UNITS : Fld := ⟨8 * (0x5000000) + 8, 9, 0x10⟩

/-- R361 NBT_RING_BASE [63:0] ADDR RW. Local address of the ring, 64-byte aligned -/
def NBT_RING_BASE_ADDR : Fld := ⟨8 * (0x4000010) + 0, 64, 0⟩

/-- R361 FTL_RING_BASE [63:0] ADDR RW. Local address of the ring, 64-byte aligned -/
def FTL_RING_BASE_ADDR : Fld := ⟨8 * (0x5000010) + 0, 64, 0⟩

/-- R361 NBT_RING_SIZE [16:0] ENTRIES RW. Power of two, 64–65,536; other values set RING_BAD and stop processing -/
def NBT_RING_SIZE_ENTRIES : Fld := ⟨8 * (0x4000018) + 0, 17, 0⟩

/-- R361 FTL_RING_SIZE [16:0] ENTRIES RW. Power of two, 64–65,536; other values set RING_BAD and stop processing -/
def FTL_RING_SIZE_ENTRIES : Fld := ⟨8 * (0x5000018) + 0, 17, 0⟩

/-- R361 NBT_RING_TAIL [15:0] TAIL RW. Next entry the runtime will write -/
def NBT_RING_TAIL_TAIL : Fld := ⟨8 * (0x400001C) + 0, 16, 0⟩

/-- R361 FTL_RING_TAIL [15:0] TAIL RW. Next entry the runtime will write -/
def FTL_RING_TAIL_TAIL : Fld := ⟨8 * (0x500001C) + 0, 16, 0⟩

/-- R361 NBT_RING_HEAD [15:0] HEAD RO. Next entry the engine will process -/
def NBT_RING_HEAD_HEAD : Fld := ⟨8 * (0x4000020) + 0, 16, 0⟩

/-- R361 FTL_RING_HEAD [15:0] HEAD RO. Next entry the engine will process -/
def FTL_RING_HEAD_HEAD : Fld := ⟨8 * (0x5000020) + 0, 16, 0⟩

/-- R362 NBT_CTL [15:0] KA_US RW. Keepalive period, µs; 0 reads as 1 -/
def NBT_CTL_KA_US : Fld := ⟨8 * (0x4000008) + 0, 16, 0x0064⟩

/-- R362 NBT_CTL [19:16] KA_MISS RW. Missed periods before LOST; 0 reads as 1 -/
def NBT_CTL_KA_MISS : Fld := ⟨8 * (0x4000008) + 16, 4, 0x3⟩

/-- R362 NBT_CNT_DIRTY [63:0] SET RO. Dirty bits set (R354); wraps -/
def NBT_CNT_DIRTY_SET : Fld := ⟨8 * (0x4000028) + 0, 64, 0⟩

/-- R362 NBT_CNT_WB [63:0] BYTES RO. Bytes written back; wraps -/
def NBT_CNT_WB_BYTES : Fld := ⟨8 * (0x4000030) + 0, 64, 0⟩

/-- R362 NBT_CNT_LOST [63:0] LOST RO. Leases lost; wraps -/
def NBT_CNT_LOST_LOST : Fld := ⟨8 * (0x4000038) + 0, 64, 0⟩

/-- R362 NBT_ERR [0:0] LOST W1C. R355 -/
def NBT_ERR_LOST : Fld := ⟨8 * (0x4000040) + 0, 1, 0⟩

/-- R362 NBT_ERR [1:1] RING_BAD W1C. R361 -/
def NBT_ERR_RING_BAD : Fld := ⟨8 * (0x4000040) + 1, 1, 0⟩

/-- R362/R362 NBT_BORROW [3:0] LEVEL RO.  -/
def NBT_BORROW_LEVEL (i : Nat) : Fld := ⟨8 * (0x4001000 + 32 * i) + 0, 4, 0⟩

/-- R362/R362 NBT_BORROW [6:4] STATE RO. 0 FREE, 1 OFFERED, 2 ACTIVE, 3 RECLAIMING, 4 LOST -/
def NBT_BORROW_STATE (i : Nat) : Fld := ⟨8 * (0x4001000 + 32 * i) + 4, 3, 0⟩

/-- R362/R362 NBT_BORROW [21:8] PEER RO. peer chip -/
def NBT_BORROW_PEER (i : Nat) : Fld := ⟨8 * (0x4001000 + 32 * i) + 8, 14, 0⟩

/-- R362/R362 NBT_BORROW [47:32] LEASE RO.  -/
def NBT_BORROW_LEASE (i : Nat) : Fld := ⟨8 * (0x4001000 + 32 * i) + 32, 16, 0⟩

/-- R362/R362 NBT_BORROW [57:48] TENANT RO.  -/
def NBT_BORROW_TENANT (i : Nat) : Fld := ⟨8 * (0x4001000 + 32 * i) + 48, 10, 0⟩

/-- R362/R362 NBT_BORROW [127:64] BASE RO.  -/
def NBT_BORROW_BASE (i : Nat) : Fld := ⟨8 * (0x4001000 + 32 * i) + 64, 64, 0⟩

/-- R362/R362 NBT_BORROW [159:128] PAGES RO.  -/
def NBT_BORROW_PAGES (i : Nat) : Fld := ⟨8 * (0x4001000 + 32 * i) + 128, 32, 0⟩

/-- R362/R362 NBT_BORROW [191:160] LEFT_US RO. us left to the deadline -/
def NBT_BORROW_LEFT_US (i : Nat) : Fld := ⟨8 * (0x4001000 + 32 * i) + 160, 32, 0⟩

/-- R362/R362 NBT_BORROW [255:192] BITMAP RO. dirty bitmap address -/
def NBT_BORROW_BITMAP (i : Nat) : Fld := ⟨8 * (0x4001000 + 32 * i) + 192, 64, 0⟩

/-- R362/R362 NBT_LEND [3:0] LEVEL RO.  -/
def NBT_LEND_LEVEL (i : Nat) : Fld := ⟨8 * (0x4003000 + 32 * i) + 0, 4, 0⟩

/-- R362/R362 NBT_LEND [6:4] STATE RO. 0 FREE, 1 OFFERED, 2 ACTIVE, 3 RECLAIMING, 4 LOST -/
def NBT_LEND_STATE (i : Nat) : Fld := ⟨8 * (0x4003000 + 32 * i) + 4, 3, 0⟩

/-- R362/R362 NBT_LEND [21:8] PEER RO. peer chip -/
def NBT_LEND_PEER (i : Nat) : Fld := ⟨8 * (0x4003000 + 32 * i) + 8, 14, 0⟩

/-- R362/R362 NBT_LEND [47:32] LEASE RO.  -/
def NBT_LEND_LEASE (i : Nat) : Fld := ⟨8 * (0x4003000 + 32 * i) + 32, 16, 0⟩

/-- R362/R362 NBT_LEND [57:48] TENANT RO.  -/
def NBT_LEND_TENANT (i : Nat) : Fld := ⟨8 * (0x4003000 + 32 * i) + 48, 10, 0⟩

/-- R362/R362 NBT_LEND [127:64] BASE RO.  -/
def NBT_LEND_BASE (i : Nat) : Fld := ⟨8 * (0x4003000 + 32 * i) + 64, 64, 0⟩

/-- R362/R362 NBT_LEND [159:128] PAGES RO.  -/
def NBT_LEND_PAGES (i : Nat) : Fld := ⟨8 * (0x4003000 + 32 * i) + 128, 32, 0⟩

/-- R362/R362 NBT_LEND [191:160] LEFT_US RO. us left to the deadline -/
def NBT_LEND_LEFT_US (i : Nat) : Fld := ⟨8 * (0x4003000 + 32 * i) + 160, 32, 0⟩

/-- R362/R362 NBT_LEND [255:192] BITMAP RO. dirty bitmap address -/
def NBT_LEND_BITMAP (i : Nat) : Fld := ⟨8 * (0x4003000 + 32 * i) + 192, 64, 0⟩

/-- R363 FTL_CTL [0:0] EN RW. Ring processing enabled -/
def FTL_CTL_EN : Fld := ⟨8 * (0x5000008) + 0, 1, 0⟩

/-- R363 FTL_CTL [11:8] RETRY_MAX RW. R357 -/
def FTL_CTL_RETRY_MAX : Fld := ⟨8 * (0x5000008) + 8, 4, 0x8⟩

/-- R363 FTL_CAP_RAW [31:0] UNITS RO. Trained raw capacity, 64 KiB units -/
def FTL_CAP_RAW_UNITS : Fld := ⟨8 * (0x5000028) + 0, 32, 0⟩

/-- R363 FTL_CAP_USABLE [31:0] UNITS RO. R356 -/
def FTL_CAP_USABLE_UNITS : Fld := ⟨8 * (0x500002C) + 0, 32, 0⟩

/-- R363 FTL_CAP_FREE [31:0] UNITS RO. Unwritten usable capacity -/
def FTL_CAP_FREE_UNITS : Fld := ⟨8 * (0x5000030) + 0, 32, 0⟩

/-- R363 FTL_RD_THR [31:0] READS RW. R356 -/
def FTL_RD_THR_READS : Fld := ⟨8 * (0x5000038) + 0, 32, 0x000186A0⟩

/-- R363 FTL_WL_DELTA [15:0] ERASES RW. R356 -/
def FTL_WL_DELTA_ERASES : Fld := ⟨8 * (0x500003C) + 0, 16, 0x00C8⟩

/-- R363 FTL_CNT_RETIRED [63:0] BLOCKS RO. Blocks retired; holds -/
def FTL_CNT_RETIRED_BLOCKS : Fld := ⟨8 * (0x5000040) + 0, 64, 0⟩

/-- R363 FTL_CNT_REFRESH [63:0] BLOCKS RO. Read-disturb refreshes; wraps -/
def FTL_CNT_REFRESH_BLOCKS : Fld := ⟨8 * (0x5000048) + 0, 64, 0⟩

/-- R363 FTL_CNT_UNCORR [63:0] CW RO. R357; wraps -/
def FTL_CNT_UNCORR_CW : Fld := ⟨8 * (0x5000050) + 0, 64, 0⟩

/-- R363 FTL_CNT_RETRY [63:0] READS RO. Retried reads; wraps -/
def FTL_CNT_RETRY_READS : Fld := ⟨8 * (0x5000058) + 0, 64, 0⟩

/-- R363 FTL_ERR [0:0] UNCORR W1C. R357 -/
def FTL_ERR_UNCORR : Fld := ⟨8 * (0x5000060) + 0, 1, 0⟩

/-- R363 FTL_ERR [1:1] RING_BAD W1C. R361 -/
def FTL_ERR_RING_BAD : Fld := ⟨8 * (0x5000060) + 1, 1, 0⟩

/-- R363 FTL_ERR [2:2] RETIRE W1C. A block was retired -/
def FTL_ERR_RETIRE : Fld := ⟨8 * (0x5000060) + 2, 1, 0⟩

/-- R363 FTL_CH_ID [3:0] ARCH_LEVEL RO. Architecture level (R8) -/
def FTL_CH_ID_ARCH_LEVEL (c : Nat) : Fld := ⟨8 * (0x5010000 + 0x10000 * c) + 0, 4, 0x2⟩

/-- R363 FTL_CH_ID [7:4] CHANNEL RO. Channel number Reset: c. -/
def FTL_CH_ID_CHANNEL (c : Nat) : Fld := ⟨8 * (0x5010000 + 0x10000 * c) + 4, 4, c⟩

/-- R363 FTL_CH_ID [10:8] TARGETS RO. Targets identified, 0–4 -/
def FTL_CH_ID_TARGETS (c : Nat) : Fld := ⟨8 * (0x5010000 + 0x10000 * c) + 8, 3, 0⟩

/-- R363 FTL_CH_STATUS [0:0] TRAINED RO. R358 -/
def FTL_CH_STATUS_TRAINED (c : Nat) : Fld := ⟨8 * (0x5010010 + 0x10000 * c) + 0, 1, 0⟩

/-- R363 FTL_CH_STATUS [15:4] MTS_100 RO. Trained rate, units of 100 MT/s -/
def FTL_CH_STATUS_MTS_100 (c : Nat) : Fld := ⟨8 * (0x5010010 + 0x10000 * c) + 4, 12, 0⟩

/-- R363 FTL_CH_CNT_READ [63:0] N RO. Page reads; wraps -/
def FTL_CH_CNT_READ_N (c : Nat) : Fld := ⟨8 * (0x5010018 + 0x10000 * c) + 0, 64, 0⟩

/-- R363 FTL_CH_CNT_PROG [63:0] N RO. Page programs; wraps -/
def FTL_CH_CNT_PROG_N (c : Nat) : Fld := ⟨8 * (0x5010020 + 0x10000 * c) + 0, 64, 0⟩

/-- R363 FTL_CH_CNT_ERASE [63:0] N RO. Block erases; wraps -/
def FTL_CH_CNT_ERASE_N (c : Nat) : Fld := ⟨8 * (0x5010028 + 0x10000 * c) + 0, 64, 0⟩

/-- R326 STR [3:0] ARCH_LEVEL RO. 2 -/
def STR_ARCH_LEVEL (i : Nat) : Fld := ⟨8 * (0x1100000 + 128 * i) + 0, 4, 2⟩

/-- R326 STR [6:4] STATE RO. 0 FREE, 1 WAIT (load or prefill queue), 2 PREFILL, 3 DECODE -/
def STR_STATE (i : Nat) : Fld := ⟨8 * (0x1100000 + 128 * i) + 4, 3, 0⟩

/-- R326 STR [7:7] CANCEL_REQ RO. Cancel recorded -/
def STR_CANCEL_REQ (i : Nat) : Fld := ⟨8 * (0x1100000 + 128 * i) + 7, 1, 0⟩

/-- R326 STR [17:8] TENANT RO. Tenant -/
def STR_TENANT (i : Nat) : Fld := ⟨8 * (0x1100000 + 128 * i) + 8, 10, 0⟩

/-- R326 STR [23:18] SLOT RO. Slot -/
def STR_SLOT (i : Nat) : Fld := ⟨8 * (0x1100000 + 128 * i) + 18, 6, 0⟩

/-- R326 STR [24:24] SPEC_OFF RO. Drafting disabled at some time -/
def STR_SPEC_OFF (i : Nat) : Fld := ⟨8 * (0x1100000 + 128 * i) + 24, 1, 0⟩

/-- R326 STR [25:25] OVERRUN RO. An overrun record was written -/
def STR_OVERRUN (i : Nat) : Fld := ⟨8 * (0x1100000 + 128 * i) + 25, 1, 0⟩

/-- R326 STR [35:32] K RO. Current draft length -/
def STR_K (i : Nat) : Fld := ⟨8 * (0x1100000 + 128 * i) + 32, 4, 0⟩

/-- R326 STR [40:36] REJ_RUN RO. Consecutive full rejections, 0–15 -/
def STR_REJ_RUN (i : Nat) : Fld := ⟨8 * (0x1100000 + 128 * i) + 36, 5, 0⟩

/-- R326 STR [127:64] TAG RO. From the request -/
def STR_TAG (i : Nat) : Fld := ⟨8 * (0x1100000 + 128 * i) + 64, 64, 0⟩

/-- R326 STR [159:128] PROMPT_LEN RO. P -/
def STR_PROMPT_LEN (i : Nat) : Fld := ⟨8 * (0x1100000 + 128 * i) + 128, 32, 0⟩

/-- R326 STR [191:160] MAX_NEW RO. From the request -/
def STR_MAX_NEW (i : Nat) : Fld := ⟨8 * (0x1100000 + 128 * i) + 160, 32, 0⟩

/-- R326 STR [223:192] PREFILLED RO. Prompt tokens sealed -/
def STR_PREFILLED (i : Nat) : Fld := ⟨8 * (0x1100000 + 128 * i) + 192, 32, 0⟩

/-- R326 STR [255:224] DELIVERED RO. Output tokens sealed -/
def STR_DELIVERED (i : Nat) : Fld := ⟨8 * (0x1100000 + 128 * i) + 224, 32, 0⟩

/-- R326 STR [287:256] TTFT_NS RO. Promise -/
def STR_TTFT_NS (i : Nat) : Fld := ⟨8 * (0x1100000 + 128 * i) + 256, 32, 0⟩

/-- R326 STR [319:288] ITL_NS RO. Promise -/
def STR_ITL_NS (i : Nat) : Fld := ⟨8 * (0x1100000 + 128 * i) + 288, 32, 0⟩

/-- R326 STR [383:320] ADMIT_TIME RO. SVC_TIME at admission -/
def STR_ADMIT_TIME (i : Nat) : Fld := ⟨8 * (0x1100000 + 128 * i) + 320, 64, 0⟩

/-- R326 STR [447:384] DUE RO. Due time of the next token -/
def STR_DUE (i : Nat) : Fld := ⟨8 * (0x1100000 + 128 * i) + 384, 64, 0⟩

/-- R326 STR [456:448] ROW RO. First decode row -/
def STR_ROW (i : Nat) : Fld := ⟨8 * (0x1100000 + 128 * i) + 448, 9, 0⟩

/-- R326 STR [479:464] COOL RO. Steps left with drafting disabled -/
def STR_COOL (i : Nat) : Fld := ⟨8 * (0x1100000 + 128 * i) + 464, 16, 0⟩

/-- R326 STR [511:480] REJECTED RO. Draft tokens rejected -/
def STR_REJECTED (i : Nat) : Fld := ⟨8 * (0x1100000 + 128 * i) + 480, 32, 0⟩

/-- R326 STR [575:512] OUT_BASE RO. From the request -/
def STR_OUT_BASE (i : Nat) : Fld := ⟨8 * (0x1100000 + 128 * i) + 512, 64, 0⟩

/-- R326 STR [607:576] OUT_SIZE RO. From the request -/
def STR_OUT_SIZE (i : Nat) : Fld := ⟨8 * (0x1100000 + 128 * i) + 576, 32, 0⟩

/-- R326 STR [639:608] KV_PAGES RO. Pages reserved -/
def STR_KV_PAGES (i : Nat) : Fld := ⟨8 * (0x1100000 + 128 * i) + 608, 32, 0⟩

/-- R326 STR [703:640] KV_MAP RO. Fabric address of the stream's page map -/
def STR_KV_MAP (i : Nat) : Fld := ⟨8 * (0x1100000 + 128 * i) + 640, 64, 0⟩

/-- R326 STR [767:704] PROMPT RO. From the request -/
def STR_PROMPT (i : Nat) : Fld := ⟨8 * (0x1100000 + 128 * i) + 704, 64, 0⟩

/-- R326 STR [799:768] OVERRUNS RO. Overrun records written -/
def STR_OVERRUNS (i : Nat) : Fld := ⟨8 * (0x1100000 + 128 * i) + 768, 32, 0⟩

/-- R327 TEN [3:0] ARCH_LEVEL RO. 2 -/
def TEN_ARCH_LEVEL (i : Nat) : Fld := ⟨8 * (0x1040000 + 64 * i) + 0, 4, 2⟩

/-- R327 TEN [4:4] VALID RO. Tenant configured -/
def TEN_VALID (i : Nat) : Fld := ⟨8 * (0x1040000 + 64 * i) + 4, 1, 0⟩

/-- R327 TEN [55:32] RATE RO. Tokens added per 1 ms -/
def TEN_RATE (i : Nat) : Fld := ⟨8 * (0x1040000 + 64 * i) + 32, 24, 0⟩

/-- R327 TEN [95:64] DEPTH RO. Bucket limit -/
def TEN_DEPTH (i : Nat) : Fld := ⟨8 * (0x1040000 + 64 * i) + 64, 32, 0⟩

/-- R327 TEN [127:96] LEVEL RO. Bucket level, signed; DEPTH after image load -/
def TEN_LEVEL (i : Nat) : Fld := ⟨8 * (0x1040000 + 64 * i) + 96, 32, 0⟩

/-- R327 TEN [142:128] MAX_STREAMS RO. Stream limit, 0–16,384 -/
def TEN_MAX_STREAMS (i : Nat) : Fld := ⟨8 * (0x1040000 + 64 * i) + 128, 15, 0⟩

/-- R327 TEN [158:144] ACTIVE RO. Valid streams -/
def TEN_ACTIVE (i : Nat) : Fld := ⟨8 * (0x1040000 + 64 * i) + 144, 15, 0⟩

/-- R327 TEN [255:192] MODELS RO. Bit i: slot i permitted -/
def TEN_MODELS (i : Nat) : Fld := ⟨8 * (0x1040000 + 64 * i) + 192, 64, 0⟩

/-- R327 TEN [319:256] EV_BASE RO. Fabric address of the event ring -/
def TEN_EV_BASE (i : Nat) : Fld := ⟨8 * (0x1040000 + 64 * i) + 256, 64, 0⟩

/-- R327 TEN [351:320] EV_SIZE RO. Ring entries, at least 1 -/
def TEN_EV_SIZE (i : Nat) : Fld := ⟨8 * (0x1040000 + 64 * i) + 320, 32, 0⟩

/-- R327 TEN [383:352] EV_SEQ RO. Next SEQ -/
def TEN_EV_SEQ (i : Nat) : Fld := ⟨8 * (0x1040000 + 64 * i) + 352, 32, 0⟩

/-- R328 RES [3:0] ARCH_LEVEL RO. 2 -/
def RES_ARCH_LEVEL (i : Nat) : Fld := ⟨8 * (0x1020000 + 64 * i) + 0, 4, 2⟩

/-- R328 RES [4:4] VALID RO. Slot bound -/
def RES_VALID (i : Nat) : Fld := ⟨8 * (0x1020000 + 64 * i) + 4, 1, 0⟩

/-- R328 RES [6:5] STATE RO. 0 EMPTY, 1 LOADING, 2 RESIDENT -/
def RES_STATE (i : Nat) : Fld := ⟨8 * (0x1020000 + 64 * i) + 5, 2, 0⟩

/-- R328 RES [7:7] SPEC RO. Speculative slot -/
def RES_SPEC (i : Nat) : Fld := ⟨8 * (0x1020000 + 64 * i) + 7, 1, 0⟩

/-- R328 RES [13:8] DRAFT_SLOT RO. Draft slot -/
def RES_DRAFT_SLOT (i : Nat) : Fld := ⟨8 * (0x1020000 + 64 * i) + 8, 6, 0⟩

/-- R328 RES [19:14] WBOLT RO. Warp bolt -/
def RES_WBOLT (i : Nat) : Fld := ⟨8 * (0x1020000 + 64 * i) + 14, 6, 0⟩

/-- R328 RES [25:20] DBOLT RO. Weft bolt -/
def RES_DBOLT (i : Nat) : Fld := ⟨8 * (0x1020000 + 64 * i) + 20, 6, 0⟩

/-- R328 RES [46:32] STREAMS RO. Valid streams -/
def RES_STREAMS (i : Nat) : Fld := ⟨8 * (0x1020000 + 64 * i) + 32, 15, 0⟩

/-- R328 RES [127:64] VARIANT_ID RO. Current variant -/
def RES_VARIANT_ID (i : Nat) : Fld := ⟨8 * (0x1020000 + 64 * i) + 64, 64, 0⟩

/-- R328 RES [191:128] PROFILE RO. Fabric address of the profile -/
def RES_PROFILE (i : Nat) : Fld := ⟨8 * (0x1020000 + 64 * i) + 128, 64, 0⟩

/-- R328 RES [255:192] REGION RO. Local HBM address of the weights -/
def RES_REGION (i : Nat) : Fld := ⟨8 * (0x1020000 + 64 * i) + 192, 64, 0⟩

/-- R328 RES [319:256] REGION_SIZE RO. Bytes -/
def RES_REGION_SIZE (i : Nat) : Fld := ⟨8 * (0x1020000 + 64 * i) + 256, 64, 0⟩

/-- R328 RES [351:320] LOAD_LEFT RO. ns of load remaining -/
def RES_LOAD_LEFT (i : Nat) : Fld := ⟨8 * (0x1020000 + 64 * i) + 320, 32, 0⟩

/-- R328 RES [383:352] TW_NS RO. R304 -/
def RES_TW_NS (i : Nat) : Fld := ⟨8 * (0x1020000 + 64 * i) + 352, 32, 0⟩

/-- R328 RES [415:384] TD_NS RO. R304 -/
def RES_TD_NS (i : Nat) : Fld := ⟨8 * (0x1020000 + 64 * i) + 384, 32, 0⟩

/-- R328 RES [447:416] BACKLOG RO. Prompt tokens not frozen -/
def RES_BACKLOG (i : Nat) : Fld := ⟨8 * (0x1020000 + 64 * i) + 416, 32, 0⟩

/-- R328 BLT [3:0] ARCH_LEVEL RO. 2 -/
def BLT_ARCH_LEVEL (i : Nat) : Fld := ⟨8 * (0x1010000 + 32 * i) + 0, 4, 2⟩

/-- R328 BLT [4:4] KIND RO. 0 Warp, 1 Weft -/
def BLT_KIND (i : Nat) : Fld := ⟨8 * (0x1010000 + 32 * i) + 4, 1, 0⟩

/-- R328 BLT [6:5] STATE RO. 0 CLOSED, 1 OPEN, 2 DRAINING, 3 DOWN -/
def BLT_STATE (i : Nat) : Fld := ⟨8 * (0x1010000 + 32 * i) + 5, 2, 0⟩

/-- R328 BLT [7:7] IN_STEP RO. A step is frozen and not sealed -/
def BLT_IN_STEP (i : Nat) : Fld := ⟨8 * (0x1010000 + 32 * i) + 7, 1, 0⟩

/-- R328 BLT [15:8] LOOMS RO. Looms in the bolt -/
def BLT_LOOMS (i : Nat) : Fld := ⟨8 * (0x1010000 + 32 * i) + 8, 8, 0⟩

/-- R328 BLT [21:16] STEP_SLOT RO. Slot of the current step -/
def BLT_STEP_SLOT (i : Nat) : Fld := ⟨8 * (0x1010000 + 32 * i) + 16, 6, 0⟩

/-- R328 BLT [28:22] SLOTS_BOUND RO. Slots bound, 0–64 -/
def BLT_SLOTS_BOUND (i : Nat) : Fld := ⟨8 * (0x1010000 + 32 * i) + 22, 7, 0⟩

/-- R328 BLT [63:32] STEP RO. Last launched step number -/
def BLT_STEP (i : Nat) : Fld := ⟨8 * (0x1010000 + 32 * i) + 32, 32, 0⟩

/-- R328 BLT [95:64] STRETCH RO. R306 -/
def BLT_STRETCH (i : Nat) : Fld := ⟨8 * (0x1010000 + 32 * i) + 64, 32, 0⟩

/-- R328 BLT [105:96] ROWS_USED RO. Decode rows in use -/
def BLT_ROWS_USED (i : Nat) : Fld := ⟨8 * (0x1010000 + 32 * i) + 96, 10, 0⟩

/-- R328 BLT [159:128] KV_FREE RO. Pages free in the pool -/
def BLT_KV_FREE (i : Nat) : Fld := ⟨8 * (0x1010000 + 32 * i) + 128, 32, 0⟩

/-- R328 BLT [191:160] LAG RO. Largest lag of the last step (R244), signed -/
def BLT_LAG (i : Nat) : Fld := ⟨8 * (0x1010000 + 32 * i) + 160, 32, 0⟩

end Sys2Proof.Machine
end

