-- ==== Sys2Proof/Machine/RegsLoom.lean ====
section
/-! DEFINITION. The named register fields of the ten register blocks of a loom window (R28, R101, R102, R156, R185, R186, R205, R227, R261, R262, R295 with the table entries of R271 to R273).
Each field is written from its row of the spec's register table: where it lies, how wide it is, what it holds after cold reset. -/
namespace Sys2Proof.Machine

/-- R101 ARR_ID [3:0] ARCH_LEVEL RO. Architecture level (R8) -/
def ARR_ID_ARCH_LEVEL (n : Nat) : Fld := ⟨8 * (0x80F10000 + 0x1000000 * n) + 0, 4, 0x2⟩

/-- R101 ARR_ID [4:4] KIND RO. 0: Warp loom, 1: Weft loom Reset: Per R20. -/
def ARR_ID_KIND (n : Nat) : Fld := ⟨8 * (0x80F10000 + 0x1000000 * n) + 4, 1, kindOf n⟩

/-- R101 ARR_ID [10:8] BLOCK_GROUPS RO. G Reset: 4 Warp, 2 Weft. -/
def ARR_ID_BLOCK_GROUPS (n : Nat) : Fld := ⟨8 * (0x80F10000 + 0x1000000 * n) + 8, 3, if kindOf n = 0 then 4 else 2⟩

/-- R101 ARR_ID [25:16] COLUMNS RO. 512 -/
def ARR_ID_COLUMNS (n : Nat) : Fld := ⟨8 * (0x80F10000 + 0x1000000 * n) + 16, 10, 0x200⟩

/-- R101 ARR_STATUS [0:0] BUSY RO. A row cycle is under way or in flight -/
def ARR_STATUS_BUSY (n : Nat) : Fld := ⟨8 * (0x80F10010 + 0x1000000 * n) + 0, 1, 0⟩

/-- R101 ARR_STATUS [1:1] WBUF RO. Buffer of the current or last operation -/
def ARR_STATUS_WBUF (n : Nat) : Fld := ⟨8 * (0x80F10010 + 0x1000000 * n) + 1, 1, 0⟩

/-- R101 ARR_STATUS [2:2] WBUF0_VALID RO. Buffer 0 holds a loaded tile -/
def ARR_STATUS_WBUF0_VALID (n : Nat) : Fld := ⟨8 * (0x80F10010 + 0x1000000 * n) + 2, 1, 0⟩

/-- R101 ARR_STATUS [3:3] WBUF1_VALID RO. Buffer 1 holds a loaded tile -/
def ARR_STATUS_WBUF1_VALID (n : Nat) : Fld := ⟨8 * (0x80F10010 + 0x1000000 * n) + 3, 1, 0⟩

/-- R101 ARR_STATUS [5:4] REDUCE RO. 0 SUM, 1 MAX, 2 MIN -/
def ARR_STATUS_REDUCE (n : Nat) : Fld := ⟨8 * (0x80F10010 + 0x1000000 * n) + 4, 2, 0⟩

/-- R101 ARR_STATUS [6:6] MODE8 RO. Current operation is INT8 -/
def ARR_STATUS_MODE8 (n : Nat) : Fld := ⟨8 * (0x80F10010 + 0x1000000 * n) + 6, 1, 0⟩

/-- R101 ARR_CNT_TILES [63:0] TILES RO. Array operations completed; wraps -/
def ARR_CNT_TILES_TILES (n : Nat) : Fld := ⟨8 * (0x80F10018 + 0x1000000 * n) + 0, 64, 0⟩

/-- R101 ARR_CNT_ROWCYC [63:0] ROWCYC RO. Row cycles performed, both passes counted; wraps -/
def ARR_CNT_ROWCYC_ROWCYC (n : Nat) : Fld := ⟨8 * (0x80F10020 + 0x1000000 * n) + 0, 64, 0⟩

/-- R101 ARR_CNT_MAC [63:0] MAC RO. Multiply-accumulates with a nonzero weight; wraps -/
def ARR_CNT_MAC_MAC (n : Nat) : Fld := ⟨8 * (0x80F10028 + 0x1000000 * n) + 0, 64, 0⟩

/-- R101 ARR_ERR [0:0] FMT_REFUSED W1C. Draft fault: refused FMT or FMT/REDUCE pair (R74) -/
def ARR_ERR_FMT_REFUSED (n : Nat) : Fld := ⟨8 * (0x80F10030 + 0x1000000 * n) + 0, 1, 0⟩

/-- R101 ARR_ERR [1:1] WBUF_EMPTY W1C. Draft fault: operation on an unloaded buffer (R74) -/
def ARR_ERR_WBUF_EMPTY (n : Nat) : Fld := ⟨8 * (0x80F10030 + 0x1000000 * n) + 1, 1, 0⟩

/-- R101 ARR_ERR [2:2] SCALE_NAN W1C. A block with scale code 0xFF was read (R77) -/
def ARR_ERR_SCALE_NAN (n : Nat) : Fld := ⟨8 * (0x80F10030 + 0x1000000 * n) + 2, 1, 0⟩

/-- R102 ACC_ID [3:0] ARCH_LEVEL RO. Architecture level (R8) -/
def ACC_ID_ARCH_LEVEL (n : Nat) : Fld := ⟨8 * (0x80F20000 + 0x1000000 * n) + 0, 4, 0x2⟩

/-- R102 ACC_ID [17:8] ROWS RO. Rows per set -/
def ACC_ID_ROWS (n : Nat) : Fld := ⟨8 * (0x80F20000 + 0x1000000 * n) + 8, 10, 0x200⟩

/-- R102 ACC_ID [19:18] SETS RO. Accumulator sets -/
def ACC_ID_SETS (n : Nat) : Fld := ⟨8 * (0x80F20000 + 0x1000000 * n) + 18, 2, 2⟩

/-- R102 ACC_CTL [0:0] VIEW_SET RW. Physical set shown by the accumulator view -/
def ACC_CTL_VIEW_SET (n : Nat) : Fld := ⟨8 * (0x80F20008 + 0x1000000 * n) + 0, 1, 0⟩

/-- R102 ACC_CTL [1:1] CNT_CLR WO. Writing 1 clears ACC_CNT_SAT and ACC_CNT_ZERO -/
def ACC_CTL_CNT_CLR (n : Nat) : Fld := ⟨8 * (0x80F20008 + 0x1000000 * n) + 1, 1, 0⟩

/-- R102 ACC_STATUS [0:0] ACTIVE_SET RO. Physical set that is active -/
def ACC_STATUS_ACTIVE_SET (n : Nat) : Fld := ⟨8 * (0x80F20010 + 0x1000000 * n) + 0, 1, 0⟩

/-- R102 ACC_STATUS [1:1] DRAIN_BUSY RO. A drain is under way (R94) -/
def ACC_STATUS_DRAIN_BUSY (n : Nat) : Fld := ⟨8 * (0x80F20010 + 0x1000000 * n) + 1, 1, 0⟩

/-- R102 ACC_STATUS [2:2] IN_FLIGHT RO. Array results are not yet landed (R89) -/
def ACC_STATUS_IN_FLIGHT (n : Nat) : Fld := ⟨8 * (0x80F20010 + 0x1000000 * n) + 2, 1, 0⟩

/-- R102 ACC_STATUS [3:3] COMPAT RO. Bound Draft runs in IAL-1 mode (R99) -/
def ACC_STATUS_COMPAT (n : Nat) : Fld := ⟨8 * (0x80F20010 + 0x1000000 * n) + 3, 1, 0⟩

/-- R102 ACC_STATUS [8:8] SAT_ANY W1C. An update of either set saturated -/
def ACC_STATUS_SAT_ANY (n : Nat) : Fld := ⟨8 * (0x80F20010 + 0x1000000 * n) + 8, 1, 0⟩

/-- R102 ACC_CNT_SAT [63:0] SAT RO. Saturated updates under R81 and R97; holds at 2^64 − 1 -/
def ACC_CNT_SAT_SAT (n : Nat) : Fld := ⟨8 * (0x80F20020 + 0x1000000 * n) + 0, 64, 0⟩

/-- R102 ACC_CNT_ZERO [63:0] ZERO RO. Zeroed block sums and terms under R81 and R97; holds at 2^64 − 1 -/
def ACC_CNT_ZERO_ZERO (n : Nat) : Fld := ⟨8 * (0x80F20028 + 0x1000000 * n) + 0, 64, 0⟩

/-- R102 ACC_ERR [0:0] SWAP_EARLY W1C. Draft fault: swap refused (R91) -/
def ACC_ERR_SWAP_EARLY (n : Nat) : Fld := ⟨8 * (0x80F20030 + 0x1000000 * n) + 0, 1, 0⟩

/-- R102 ACC_ERR [1:1] ROW_RANGE W1C. Draft fault: ROWS or DROWS is 0, or ROW0 + ROWS or DROW0 + DROWS exceeds 512 (R74, R92) -/
def ACC_ERR_ROW_RANGE (n : Nat) : Fld := ⟨8 * (0x80F20030 + 0x1000000 * n) + 1, 1, 0⟩

/-- R102 ACC_ERR [2:2] PSUM_RANGE W1C. Draft fault: IAL-1 partial row outside the scratchpad (R99) -/
def ACC_ERR_PSUM_RANGE (n : Nat) : Fld := ⟨8 * (0x80F20030 + 0x1000000 * n) + 2, 1, 0⟩

/-- R102 ACC_WIN0 [8:0] WIN RW. Window exponent W, signed, of physical set 0 row r, r = 0–511 -/
def ACC_WIN0_WIN (n i : Nat) : Fld := ⟨8 * (0x80F21000 + 0x1000000 * n + 4 * i) + 0, 9, 0⟩

/-- R102 ACC_WIN1 [8:0] WIN RW. As above for physical set 1 -/
def ACC_WIN1_WIN (n i : Nat) : Fld := ⟨8 * (0x80F21800 + 0x1000000 * n + 4 * i) + 0, 9, 0⟩

/-- R102 ACC_SAT_ROWS0 [31:0] SAT W1C. Bit j: row 32i + j of physical set 0 has saturated, i = 0–15. Clearing a bit leaves the row's poison
mark unchanged (R512) -/
def ACC_SAT_ROWS0_SAT (n i : Nat) : Fld := ⟨8 * (0x80F22000 + 0x1000000 * n + 4 * i) + 0, 32, 0⟩

/-- R102 ACC_SAT_ROWS1 [31:0] SAT W1C. As above for physical set 1 -/
def ACC_SAT_ROWS1_SAT (n i : Nat) : Fld := ⟨8 * (0x80F22040 + 0x1000000 * n + 4 * i) + 0, 32, 0⟩

/-- R156 DMA_ID [3:0] ARCH_LEVEL RO. Architecture level (R8) -/
def DMA_ID_ARCH_LEVEL (n : Nat) : Fld := ⟨8 * (0x80F40000 + 0x1000000 * n) + 0, 4, 0x2⟩

/-- R156 DMA_ID [15:8] LANES RO. Lanes per expander -/
def DMA_ID_LANES (n : Nat) : Fld := ⟨8 * (0x80F40000 + 0x1000000 * n) + 8, 8, 0x40⟩

/-- R156 DMA_ID [19:16] TBL_SLOTS RO. Table slots -/
def DMA_ID_TBL_SLOTS (n : Nat) : Fld := ⟨8 * (0x80F40000 + 0x1000000 * n) + 16, 4, 0x4⟩

/-- R156 DMA_STATUS [0:0] TILE_BUSY RO. An array-port load is under way -/
def DMA_STATUS_TILE_BUSY (n : Nat) : Fld := ⟨8 * (0x80F40010 + 0x1000000 * n) + 0, 1, 0⟩

/-- R156 DMA_STATUS [1:1] STREAM_BUSY RO. The stream expander is decoding -/
def DMA_STATUS_STREAM_BUSY (n : Nat) : Fld := ⟨8 * (0x80F40010 + 0x1000000 * n) + 1, 1, 0⟩

/-- R156 DMA_STATUS [2:2] STORE_BUSY RO. A store is under way -/
def DMA_STATUS_STORE_BUSY (n : Nat) : Fld := ⟨8 * (0x80F40010 + 0x1000000 * n) + 2, 1, 0⟩

/-- R156 DMA_STATUS [7:4] TBL_VALID RO. Bit s: slot s is valid -/
def DMA_STATUS_TBL_VALID (n : Nat) : Fld := ⟨8 * (0x80F40010 + 0x1000000 * n) + 4, 4, 0⟩

/-- R156 DMA_LOAD_STS [3:0] STS RO. Status of the last array-port load (R108) -/
def DMA_LOAD_STS_STS (n : Nat) : Fld := ⟨8 * (0x80F40018 + 0x1000000 * n) + 0, 4, 0⟩

/-- R156 DMA_LOAD_STS [4:4] WBUF RO. Buffer named by that load -/
def DMA_LOAD_STS_WBUF (n : Nat) : Fld := ⟨8 * (0x80F40018 + 0x1000000 * n) + 4, 1, 0⟩

/-- R156 DMA_LOAD_STS [7:5] FORM RO. FORM field of that header -/
def DMA_LOAD_STS_FORM (n : Nat) : Fld := ⟨8 * (0x80F40018 + 0x1000000 * n) + 5, 3, 0⟩

/-- R156 DMA_LOAD_STS [15:8] DECODE_CYCLES RO. From that header -/
def DMA_LOAD_STS_DECODE_CYCLES (n : Nat) : Fld := ⟨8 * (0x80F40018 + 0x1000000 * n) + 8, 8, 0⟩

/-- R156 DMA_TBL_STS [15:0] STS RO. Bits [4s+3:4s]: status of the last load of slot s (R131) -/
def DMA_TBL_STS_STS (n : Nat) : Fld := ⟨8 * (0x80F40020 + 0x1000000 * n) + 0, 16, 0⟩

/-- R156 DMA_CNT_CODED [63:0] CODED RO. Units stored coded; wraps -/
def DMA_CNT_CODED_CODED (n : Nat) : Fld := ⟨8 * (0x80F40028 + 0x1000000 * n) + 0, 64, 0⟩

/-- R156 DMA_CNT_FB_SIZE [63:0] FB_SIZE RO. Units with coding permitted stored plain as uncodable or not smaller; wraps -/
def DMA_CNT_FB_SIZE_FB_SIZE (n : Nat) : Fld := ⟨8 * (0x80F40030 + 0x1000000 * n) + 0, 64, 0⟩

/-- R156 DMA_CNT_FB_CYCLES [63:0] FB_CYCLES RO. Units stored plain because decoding would be slower; wraps -/
def DMA_CNT_FB_CYCLES_FB_CYCLES (n : Nat) : Fld := ⟨8 * (0x80F40038 + 0x1000000 * n) + 0, 64, 0⟩

/-- R156 DMA_CNT_SAVED [63:0] SAVED RO. Bytes saved by coded stores; wraps -/
def DMA_CNT_SAVED_SAVED (n : Nat) : Fld := ⟨8 * (0x80F40040 + 0x1000000 * n) + 0, 64, 0⟩

/-- R156 DMA_CNT_REFUSED [63:0] REFUSED RO. Tile loads refused under R108, units refused under R148 and KV pages refused at staging under
R149; wraps -/
def DMA_CNT_REFUSED_REFUSED (n : Nat) : Fld := ⟨8 * (0x80F40048 + 0x1000000 * n) + 0, 64, 0⟩

/-- R156 DMA_ERR [0:0] TBL_BUSY W1C. Draft fault: table load into a busy slot (R153) -/
def DMA_ERR_TBL_BUSY (n : Nat) : Fld := ⟨8 * (0x80F40050 + 0x1000000 * n) + 0, 1, 0⟩

/-- R156 DMA_ERR [1:1] TBL_INVALID W1C. Draft fault: a LOAD or STORE with CODE_OK set named a slot that is not valid (R131) -/
def DMA_ERR_TBL_INVALID (n : Nat) : Fld := ⟨8 * (0x80F40050 + 0x1000000 * n) + 1, 1, 0⟩

/-- R156 DMA_ERR [2:2] CODED_WRITE W1C. Slot write to a coded KV page refused (R147) -/
def DMA_ERR_CODED_WRITE (n : Nat) : Fld := ⟨8 * (0x80F40050 + 0x1000000 * n) + 2, 1, 0⟩

/-- R156 DMA_ERR [3:3] UNIT_REFUSED W1C. Chunk or FP4 unit refused (R148), or KV page descriptor refused at staging (R149) -/
def DMA_ERR_UNIT_REFUSED (n : Nat) : Fld := ⟨8 * (0x80F40050 + 0x1000000 * n) + 3, 1, 0⟩

/-- R156 DMA_ERR [4:4] DESC W1C. Draft fault: the tensor descriptor of a LOAD or STORE refused (R154) -/
def DMA_ERR_DESC (n : Nat) : Fld := ⟨8 * (0x80F40050 + 0x1000000 * n) + 4, 1, 0⟩

/-- R156 DMA_TBL_INFO [15:0] TAG RO. TAG of the table in slot s, s = 0–3 -/
def DMA_TBL_INFO_TAG (n i : Nat) : Fld := ⟨8 * (0x80F40100 + 0x1000000 * n + 8 * i) + 0, 16, 0⟩

/-- R156 DMA_TBL_INFO [17:16] ALPHABET RO. ALPHABET of that table -/
def DMA_TBL_INFO_ALPHABET (n i : Nat) : Fld := ⟨8 * (0x80F40100 + 0x1000000 * n + 8 * i) + 16, 2, 0⟩

/-- R185 ATT_ID [3:0] ARCH_LEVEL RO. Architecture level (R8) -/
def ATT_ID_ARCH_LEVEL (n : Nat) : Fld := ⟨8 * (0x80F50000 + 0x1000000 * n) + 0, 4, 0x2⟩

/-- R185 ATT_ID [19:8] RATE_64 RO. RATE / 64 Reset: 0x080 Warp, 0x100 Weft. -/
def ATT_ID_RATE_64 (n : Nat) : Fld := ⟨8 * (0x80F50000 + 0x1000000 * n) + 8, 12, if kindOf n = 0 then 0x80 else 0x100⟩

/-- R185 ATT_STATUS [0:0] BUSY RO. A phase is under way -/
def ATT_STATUS_BUSY (n : Nat) : Fld := ⟨8 * (0x80F50010 + 0x1000000 * n) + 0, 1, 0⟩

/-- R185 ATT_STATUS [1:1] PHASE RO. 0 SCORE, 1 PV -/
def ATT_STATUS_PHASE (n : Nat) : Fld := ⟨8 * (0x80F50010 + 0x1000000 * n) + 1, 1, 0⟩

/-- R185 ATT_STATUS [2:2] SCORED RO. SCORE results await PV -/
def ATT_STATUS_SCORED (n : Nat) : Fld := ⟨8 * (0x80F50010 + 0x1000000 * n) + 2, 1, 0⟩

/-- R185 ATT_STATUS [3:3] PV_DONE RO. PV results await ADRAIN -/
def ATT_STATUS_PV_DONE (n : Nat) : Fld := ⟨8 * (0x80F50010 + 0x1000000 * n) + 3, 1, 0⟩

/-- R185 ATT_STS [3:0] STS RO. Status of the last attention operation: the page checks of its SCORE (R160), or PAGE_POISON for a poisoned
plane word found in SCORE or PV (R161) -/
def ATT_STS_STS (n : Nat) : Fld := ⟨8 * (0x80F50018 + 0x1000000 * n) + 0, 4, 0⟩

/-- R185 ATT_STS [9:4] PAGE RO. List index of the first failed page -/
def ATT_STS_PAGE (n : Nat) : Fld := ⟨8 * (0x80F50018 + 0x1000000 * n) + 4, 6, 0⟩

/-- R185 ATT_CNT_OPS [63:0] OPS RO. Attention operations drained; wraps -/
def ATT_CNT_OPS_OPS (n : Nat) : Fld := ⟨8 * (0x80F50020 + 0x1000000 * n) + 0, 64, 0⟩

/-- R185 ATT_CNT_EXCL [63:0] EXCL RO. Excluded slot-row pairs (R164); wraps -/
def ATT_CNT_EXCL_EXCL (n : Nat) : Fld := ⟨8 * (0x80F50028 + 0x1000000 * n) + 0, 64, 0⟩

/-- R185 ATT_CNT_PZERO [63:0] PZERO RO. Zeroed probabilities (R169); wraps -/
def ATT_CNT_PZERO_PZERO (n : Nat) : Fld := ⟨8 * (0x80F50030 + 0x1000000 * n) + 0, 64, 0⟩

/-- R185 ATT_CNT_REFUSED [63:0] REFUSED RO. Operations failed under R161; wraps -/
def ATT_CNT_REFUSED_REFUSED (n : Nat) : Fld := ⟨8 * (0x80F50038 + 0x1000000 * n) + 0, 64, 0⟩

/-- R185 ATT_ERR [0:0] SHAPE W1C. Draft fault (R159) -/
def ATT_ERR_SHAPE (n : Nat) : Fld := ⟨8 * (0x80F50040 + 0x1000000 * n) + 0, 1, 0⟩

/-- R185 ATT_ERR [1:1] SCALE_BAD W1C. Draft fault (R159) -/
def ATT_ERR_SCALE_BAD (n : Nat) : Fld := ⟨8 * (0x80F50040 + 0x1000000 * n) + 1, 1, 0⟩

/-- R185 ATT_ERR [2:2] ORDER W1C. Draft fault (R159) -/
def ATT_ERR_ORDER (n : Nat) : Fld := ⟨8 * (0x80F50040 + 0x1000000 * n) + 2, 1, 0⟩

/-- R185 ATT_CORR [31:0] CORR RO. Bits [8b+7:8b] hold CORR[4w + b], w = 0–15 Reset: Per R166. -/
def ATT_CORR_CORR (n i : Nat) : Fld := ⟨8 * (0x80F50100 + 0x1000000 * n + 4 * i) + 0, 32, corrWord i⟩

/-- R185 ATT_FRACQ [15:0] FRACQ RO. FRACQ[j], j = 0–7 Reset: Per R170. -/
def ATT_FRACQ_FRACQ (n i : Nat) : Fld := ⟨8 * (0x80F50140 + 0x1000000 * n + 4 * i) + 0, 16, fracq i⟩

/-- R185 ATT_PT [31:0] PT RO. Bits [8b+7:8b] hold entry 4w + b as int8 — see the note below, w = 0–63 Reset: Per R162. -/
def ATT_PT_PT (n i : Nat) : Fld := ⟨8 * (0x80F50200 + 0x1000000 * n + 4 * i) + 0, 32, ptWord i⟩

/-- R186 BRZ_ID [3:0] ARCH_LEVEL RO. Architecture level (R8) -/
def BRZ_ID_ARCH_LEVEL (n : Nat) : Fld := ⟨8 * (0x80F60000 + 0x1000000 * n) + 0, 4, 0x2⟩

/-- R186 BRZ_ID [15:4] FMA_BF16 RO. BF16 FMA per loom cycle -/
def BRZ_ID_FMA_BF16 (n : Nat) : Fld := ⟨8 * (0x80F60000 + 0x1000000 * n) + 4, 12, 0x100⟩

/-- R186 BRZ_ID [27:16] FMA_FP32 RO. FP32 FMA per loom cycle -/
def BRZ_ID_FMA_FP32 (n : Nat) : Fld := ⟨8 * (0x80F60000 + 0x1000000 * n) + 16, 12, 0x040⟩

/-- R186 BRZ_STATUS [0:0] BUSY RO. An operation is under way -/
def BRZ_STATUS_BUSY (n : Nat) : Fld := ⟨8 * (0x80F60010 + 0x1000000 * n) + 0, 1, 0⟩

/-- R186 BRZ_STATUS [3:1] OP RO. 0 idle, 1 DRAIN, 2 ADRAIN, 3 DOT, 4 NORM, 5 EMBED, 6 COMBINE, 7 ELEM -/
def BRZ_STATUS_OP (n : Nat) : Fld := ⟨8 * (0x80F60010 + 0x1000000 * n) + 1, 3, 0⟩

/-- R186 BRZ_STATUS [4:4] OUTLIER RO. Outlier alignment under way (R183) -/
def BRZ_STATUS_OUTLIER (n : Nat) : Fld := ⟨8 * (0x80F60010 + 0x1000000 * n) + 4, 1, 0⟩

/-- R186 BRZ_CNT_OPS [63:0] OPS RO. Operations completed; wraps -/
def BRZ_CNT_OPS_OPS (n : Nat) : Fld := ⟨8 * (0x80F60018 + 0x1000000 * n) + 0, 64, 0⟩

/-- R186 BRZ_CNT_NAN [63:0] NAN RO. NaN results written; wraps -/
def BRZ_CNT_NAN_NAN (n : Nat) : Fld := ⟨8 * (0x80F60020 + 0x1000000 * n) + 0, 64, 0⟩

/-- R186 BRZ_CNT_INF [63:0] INF RO. Inf results written; wraps -/
def BRZ_CNT_INF_INF (n : Nat) : Fld := ⟨8 * (0x80F60028 + 0x1000000 * n) + 0, 64, 0⟩

/-- R186 BRZ_CNT_OUTLIER [63:0] OUTLIER RO. Outlier entries applied; wraps -/
def BRZ_CNT_OUTLIER_OUTLIER (n : Nat) : Fld := ⟨8 * (0x80F60030 + 0x1000000 * n) + 0, 64, 0⟩

/-- R186 BRZ_CNT_EMBED_OOR [63:0] OOR RO. Out-of-range token IDs (R180); wraps -/
def BRZ_CNT_EMBED_OOR_OOR (n : Nat) : Fld := ⟨8 * (0x80F60038 + 0x1000000 * n) + 0, 64, 0⟩

/-- R186 BRZ_ERR [0:0] EMBED_OOR W1C. A token ID was out of range -/
def BRZ_ERR_EMBED_OOR (n : Nat) : Fld := ⟨8 * (0x80F60040 + 0x1000000 * n) + 0, 1, 0⟩

/-- R205 GRD_ID [3:0] ARCH_LEVEL RO. Architecture level (R8) -/
def GRD_ID_ARCH_LEVEL (n : Nat) : Fld := ⟨8 * (0x80F80000 + 0x1000000 * n) + 0, 4, 0x2⟩

/-- R205 GRD_ID [10:8] TSETS RO. Threshold sets -/
def GRD_ID_TSETS (n : Nat) : Fld := ⟨8 * (0x80F80000 + 0x1000000 * n) + 8, 3, 0x4⟩

/-- R205 GRD_CTL [0:0] EN RW. Trips enabled (R194) -/
def GRD_CTL_EN (n : Nat) : Fld := ⟨8 * (0x80F80008 + 0x1000000 * n) + 0, 1, 1⟩

/-- R205 GRD_CTL [4:1] WIN_RAISE RW. Window raise after a CSAT trip (R197) -/
def GRD_CTL_WIN_RAISE (n : Nat) : Fld := ⟨8 * (0x80F80008 + 0x1000000 * n) + 1, 4, 0x2⟩

/-- R205 GRD_CTL [8:5] WIN_LOWER RW. Window lowering after a CZERO-only trip (R197) -/
def GRD_CTL_WIN_LOWER (n : Nat) : Fld := ⟨8 * (0x80F80008 + 0x1000000 * n) + 5, 4, 0x2⟩

/-- R205 GRD_CTL [9:9] RECIPE_ON_REPLAY RW. Flag recipe on replay (R204) -/
def GRD_CTL_RECIPE_ON_REPLAY (n : Nat) : Fld := ⟨8 * (0x80F80008 + 0x1000000 * n) + 9, 1, 0⟩

/-- R205 GRD_CTL [10:10] CNT_CLR WO. Writing 1 clears the GRD_TOT registers -/
def GRD_CTL_CNT_CLR (n : Nat) : Fld := ⟨8 * (0x80F80008 + 0x1000000 * n) + 10, 1, 0⟩

/-- R205 GRD_STATUS [1:0] MODE RO. 0 NORMAL, 1 REPLAY, 2 FALLBACK; 3 never -/
def GRD_STATUS_MODE (n : Nat) : Fld := ⟨8 * (0x80F80010 + 0x1000000 * n) + 0, 2, 0⟩

/-- R205 GRD_STATUS [2:2] SPAN_OPEN RO. A span is open -/
def GRD_STATUS_SPAN_OPEN (n : Nat) : Fld := ⟨8 * (0x80F80010 + 0x1000000 * n) + 2, 1, 0⟩

/-- R205 GRD_STATUS [10:3] LAYER RO. Layer tag of the open or last span -/
def GRD_STATUS_LAYER (n : Nat) : Fld := ⟨8 * (0x80F80010 + 0x1000000 * n) + 3, 8, 0⟩

/-- R205 GRD_STATUS [12:11] TSET RO. Threshold set of that span -/
def GRD_STATUS_TSET (n : Nat) : Fld := ⟨8 * (0x80F80010 + 0x1000000 * n) + 11, 2, 0⟩

/-- R205 GRD_RECIPE [0:0] FLAG W1C. Recipe change requested (R204) -/
def GRD_RECIPE_FLAG (n : Nat) : Fld := ⟨8 * (0x80F80018 + 0x1000000 * n) + 0, 1, 0⟩

/-- R205 GRD_THR [15:0] THR_ASAT RW. ASAT threshold, units of 2^(−16), t = 0–3 -/
def GRD_THR_THR_ASAT (n i : Nat) : Fld := ⟨8 * (0x80F80020 + 0x1000000 * n + 8 * i) + 0, 16, 0x0002⟩

/-- R205 GRD_THR [31:16] THR_AZERO RW. AZERO threshold -/
def GRD_THR_THR_AZERO (n i : Nat) : Fld := ⟨8 * (0x80F80020 + 0x1000000 * n + 8 * i) + 16, 16, 0x0800⟩

/-- R205 GRD_THR [47:32] THR_CSAT RW. CSAT threshold -/
def GRD_THR_THR_CSAT (n i : Nat) : Fld := ⟨8 * (0x80F80020 + 0x1000000 * n + 8 * i) + 32, 16, 0x0000⟩

/-- R205 GRD_THR [63:48] THR_CZERO RW. CZERO threshold -/
def GRD_THR_THR_CZERO (n i : Nat) : Fld := ⟨8 * (0x80F80020 + 0x1000000 * n + 8 * i) + 48, 16, 0x2000⟩

/-- R205 GRD_CNT_ASAT [31:0] ASAT RO. Current pass (R192); holds at 2^32 − 1 -/
def GRD_CNT_ASAT_ASAT (n : Nat) : Fld := ⟨8 * (0x80F80040 + 0x1000000 * n) + 0, 32, 0⟩

/-- R205 GRD_CNT_AZERO [31:0] AZERO RO. As above -/
def GRD_CNT_AZERO_AZERO (n : Nat) : Fld := ⟨8 * (0x80F80044 + 0x1000000 * n) + 0, 32, 0⟩

/-- R205 GRD_CNT_AVALS [31:0] AVALS RO. As above -/
def GRD_CNT_AVALS_AVALS (n : Nat) : Fld := ⟨8 * (0x80F80048 + 0x1000000 * n) + 0, 32, 0⟩

/-- R205 GRD_CNT_CSAT [31:0] CSAT RO. As above -/
def GRD_CNT_CSAT_CSAT (n : Nat) : Fld := ⟨8 * (0x80F8004C + 0x1000000 * n) + 0, 32, 0⟩

/-- R205 GRD_CNT_CZERO [31:0] CZERO RO. As above -/
def GRD_CNT_CZERO_CZERO (n : Nat) : Fld := ⟨8 * (0x80F80050 + 0x1000000 * n) + 0, 32, 0⟩

/-- R205 GRD_CNT_CTERMS [31:0] CTERMS RO. As above -/
def GRD_CNT_CTERMS_CTERMS (n : Nat) : Fld := ⟨8 * (0x80F80054 + 0x1000000 * n) + 0, 32, 0⟩

/-- R205 GRD_LAST [31:0] LAST RO. Counters of the last checked pass, in the order of 0x0040–0x0054, i = 0–5 -/
def GRD_LAST_LAST (n i : Nat) : Fld := ⟨8 * (0x80F80060 + 0x1000000 * n + 4 * i) + 0, 32, 0⟩

/-- R205 GRD_LAST_VOTE [3:0] TESTS RO. Tests tripped on this loom at the last GCHECK: bit 0 ASAT, 1 AZERO, 2 CSAT, 3 CZERO -/
def GRD_LAST_VOTE_TESTS (n : Nat) : Fld := ⟨8 * (0x80F80078 + 0x1000000 * n) + 0, 4, 0⟩

/-- R205 GRD_LAST_VOTE [4:4] VERDICT RO. Group verdict at the last GCHECK -/
def GRD_LAST_VOTE_VERDICT (n : Nat) : Fld := ⟨8 * (0x80F80078 + 0x1000000 * n) + 4, 1, 0⟩

/-- R205 GRD_STEP_CNT [15:0] CHECKED RO. Spans completed this step, each counted once whatever its number of passes; the passes of the step
are CHECKED + REPLAYED + FELL_BACK -/
def GRD_STEP_CNT_CHECKED (n : Nat) : Fld := ⟨8 * (0x80F80080 + 0x1000000 * n) + 0, 16, 0⟩

/-- R205 GRD_STEP_CNT [31:16] REPLAYED RO. Restarts into REPLAY this step -/
def GRD_STEP_CNT_REPLAYED (n : Nat) : Fld := ⟨8 * (0x80F80080 + 0x1000000 * n) + 16, 16, 0⟩

/-- R205 GRD_STEP_CNT [47:32] FELL_BACK RO. Restarts into FALLBACK this step -/
def GRD_STEP_CNT_FELL_BACK (n : Nat) : Fld := ⟨8 * (0x80F80080 + 0x1000000 * n) + 32, 16, 0⟩

/-- R205 GRD_TOT_TRIPS [63:0] TRIPS RO. Verdicts of 1; wraps -/
def GRD_TOT_TRIPS_TRIPS (n : Nat) : Fld := ⟨8 * (0x80F80088 + 0x1000000 * n) + 0, 64, 0⟩

/-- R205 GRD_TOT_REPLAYS [63:0] REPLAYS RO. Restarts into REPLAY; wraps -/
def GRD_TOT_REPLAYS_REPLAYS (n : Nat) : Fld := ⟨8 * (0x80F80090 + 0x1000000 * n) + 0, 64, 0⟩

/-- R205 GRD_TOT_FALLBACKS [63:0] FALLBACKS RO. Restarts into FALLBACK; wraps -/
def GRD_TOT_FALLBACKS_FALLBACKS (n : Nat) : Fld := ⟨8 * (0x80F80098 + 0x1000000 * n) + 0, 64, 0⟩

/-- R205 GRD_TOT_ASAT [63:0] ASAT RO. ASAT over all passes and unguarded operations; wraps -/
def GRD_TOT_ASAT_ASAT (n : Nat) : Fld := ⟨8 * (0x80F800A0 + 0x1000000 * n) + 0, 64, 0⟩

/-- R205 GRD_TOT_CSAT [63:0] CSAT RO. CSAT likewise; wraps -/
def GRD_TOT_CSAT_CSAT (n : Nat) : Fld := ⟨8 * (0x80F800A8 + 0x1000000 * n) + 0, 64, 0⟩

/-- R205 GRD_ERR [0:0] NEST W1C. Draft fault (R189) -/
def GRD_ERR_NEST (n : Nat) : Fld := ⟨8 * (0x80F800B0 + 0x1000000 * n) + 0, 1, 0⟩

/-- R205 GRD_ERR [1:1] NONE W1C. Draft fault (R189) -/
def GRD_ERR_NONE (n : Nat) : Fld := ⟨8 * (0x80F800B0 + 0x1000000 * n) + 1, 1, 0⟩

/-- R205 GRD_ERR [2:2] XFER W1C. Draft fault (R189) -/
def GRD_ERR_XFER (n : Nat) : Fld := ⟨8 * (0x80F800B0 + 0x1000000 * n) + 2, 1, 0⟩

/-- R205 GRD_STEP_REPLAY [31:0] MAP RO. Bit j: layer tag 32i + j restarted into REPLAY this step, i = 0–7 -/
def GRD_STEP_REPLAY_MAP (n i : Nat) : Fld := ⟨8 * (0x80F80100 + 0x1000000 * n + 4 * i) + 0, 32, 0⟩

/-- R205 GRD_STEP_FALLBACK [31:0] MAP RO. As above for FALLBACK -/
def GRD_STEP_FALLBACK_MAP (n i : Nat) : Fld := ⟨8 * (0x80F80120 + 0x1000000 * n + 4 * i) + 0, 32, 0⟩

/-- R205 GRD_RECIPE_LAYERS [31:0] MAP W1C. Bit j: layer tag 32i + j flagged (R204) -/
def GRD_RECIPE_LAYERS_MAP (n i : Nat) : Fld := ⟨8 * (0x80F80140 + 0x1000000 * n + 4 * i) + 0, 32, 0⟩

/-- R227 BOB_ID [3:0] ARCH_LEVEL RO. Architecture level (R8) -/
def BOB_ID_ARCH_LEVEL (n : Nat) : Fld := ⟨8 * (0x80F70000 + 0x1000000 * n) + 0, 4, 0x2⟩

/-- R227 BOB_ID [20:8] LANES RO. Stream lanes -/
def BOB_ID_LANES (n : Nat) : Fld := ⟨8 * (0x80F70000 + 0x1000000 * n) + 8, 13, 0x1000⟩

/-- R227 BOB_ID [27:21] GENS RO. Generators -/
def BOB_ID_GENS (n : Nat) : Fld := ⟨8 * (0x80F70000 + 0x1000000 * n) + 21, 7, 0x40⟩

/-- R227 BOB_STATUS [0:0] BUSY RO. An operation is under way -/
def BOB_STATUS_BUSY (n : Nat) : Fld := ⟨8 * (0x80F70010 + 0x1000000 * n) + 0, 1, 0⟩

/-- R227 BOB_STATUS [2:1] OP RO. 0 TDOT, 1 PRED, 2 SDOT -/
def BOB_STATUS_OP (n : Nat) : Fld := ⟨8 * (0x80F70010 + 0x1000000 * n) + 1, 2, 0⟩

/-- R227 BOB_STATUS [3:3] STAGE2 RO. PRED is in stage 2 -/
def BOB_STATUS_STAGE2 (n : Nat) : Fld := ⟨8 * (0x80F70010 + 0x1000000 * n) + 3, 1, 0⟩

/-- R227 BOB_STS [3:0] STS RO. Status of the last operation (R222) -/
def BOB_STS_STS (n : Nat) : Fld := ⟨8 * (0x80F70018 + 0x1000000 * n) + 0, 4, 0⟩

/-- R227 BOB_CNT_OPS [63:0] OPS RO. Operations completed; wraps -/
def BOB_CNT_OPS_OPS (n : Nat) : Fld := ⟨8 * (0x80F70020 + 0x1000000 * n) + 0, 64, 0⟩

/-- R227 BOB_CNT_CORR [63:0] CORR RO. CORRELATED refusals; wraps -/
def BOB_CNT_CORR_CORR (n : Nat) : Fld := ⟨8 * (0x80F70028 + 0x1000000 * n) + 0, 64, 0⟩

/-- R227 BOB_CNT_SAT [63:0] SAT RO. Saturated BACC updates; wraps -/
def BOB_CNT_SAT_SAT (n : Nat) : Fld := ⟨8 * (0x80F70030 + 0x1000000 * n) + 0, 64, 0⟩

/-- R227 BOB_CNT_STREAM [63:0] STREAM RO. Streaming cycles (R211); wraps -/
def BOB_CNT_STREAM_STREAM (n : Nat) : Fld := ⟨8 * (0x80F70038 + 0x1000000 * n) + 0, 64, 0⟩

/-- R227 BOB_ERR [0:0] BUSY W1C. Draft fault: issued while busy (R207) -/
def BOB_ERR_BUSY (n : Nat) : Fld := ⟨8 * (0x80F70040 + 0x1000000 * n) + 0, 1, 0⟩

/-- R227 BOB_ERR [1:1] DESC W1C. Draft fault: descriptor refused (R222) -/
def BOB_ERR_DESC (n : Nat) : Fld := ⟨8 * (0x80F70040 + 0x1000000 * n) + 1, 1, 0⟩

/-- R227 BOB_ERR [2:2] CORRELATED W1C. Operation refused (R217) -/
def BOB_ERR_CORRELATED (n : Nat) : Fld := ⟨8 * (0x80F70040 + 0x1000000 * n) + 2, 1, 0⟩

/-- R227 BOB_ERR [3:3] POISON W1C. Poisoned operand read (R223) -/
def BOB_ERR_POISON (n : Nat) : Fld := ⟨8 * (0x80F70040 + 0x1000000 * n) + 3, 1, 0⟩

/-- R227 BOB_ERR [4:4] SCALE_NAN W1C. A block with scale code 0xFF was read (R213) -/
def BOB_ERR_SCALE_NAN (n : Nat) : Fld := ⟨8 * (0x80F70040 + 0x1000000 * n) + 4, 1, 0⟩

/-- R227 BOB_POLY [31:0] POLY RO. Feedback polynomial of generator g, g = 0–63 Reset: Per R208. -/
def BOB_POLY_POLY (n i : Nat) : Fld := ⟨8 * (0x80F70100 + 0x1000000 * n + 4 * i) + 0, 32, bobPoly i⟩

/-- R227 BOB_STATE [31:0] STATE RO. Current state of generator g -/
def BOB_STATE_STATE (n i : Nat) : Fld := ⟨8 * (0x80F70200 + 0x1000000 * n + 4 * i) + 0, 32, 0⟩

/-- R261 LOOM_ID [3:0] ARCH_LEVEL RO. Architecture level (R8) -/
def LOOM_ID_ARCH_LEVEL (n : Nat) : Fld := ⟨8 * (0x80F00000 + 0x1000000 * n) + 0, 4, 0x2⟩

/-- R261 LOOM_ID [4:4] KIND RO. 0 Warp, 1 Weft Reset: Per R20. -/
def LOOM_ID_KIND (n : Nat) : Fld := ⟨8 * (0x80F00000 + 0x1000000 * n) + 4, 1, kindOf n⟩

/-- R261 LOOM_ID [15:8] LOOM RO. Loom number Reset: n. -/
def LOOM_ID_LOOM (n : Nat) : Fld := ⟨8 * (0x80F00000 + 0x1000000 * n) + 8, 8, n⟩

/-- R261 LOOM_CTL [0:0] RUN RW. R231 -/
def LOOM_CTL_RUN (n : Nat) : Fld := ⟨8 * (0x80F00008 + 0x1000000 * n) + 0, 1, 0⟩

/-- R261 LOOM_CTL [1:1] CNT_CLR WO. Writing 1 clears LOOM_HOLD_CNT and LOOM_HOLD_CYC -/
def LOOM_CTL_CNT_CLR (n : Nat) : Fld := ⟨8 * (0x80F00008 + 0x1000000 * n) + 1, 1, 0⟩

/-- R261 LOOM_STATUS [0:0] RUN RO. Sequencer running -/
def LOOM_STATUS_RUN (n : Nat) : Fld := ⟨8 * (0x80F00010 + 0x1000000 * n) + 0, 1, 0⟩

/-- R261 LOOM_STATUS [1:1] IN_STEP RO. Between launch and END -/
def LOOM_STATUS_IN_STEP (n : Nat) : Fld := ⟨8 * (0x80F00010 + 0x1000000 * n) + 1, 1, 0⟩

/-- R261 LOOM_STATUS [2:2] HOLD RO. Hold under way -/
def LOOM_STATUS_HOLD (n : Nat) : Fld := ⟨8 * (0x80F00010 + 0x1000000 * n) + 2, 1, 0⟩

/-- R261 LOOM_STATUS [5:3] HOLD_CAUSE RO. Cause c of that hold -/
def LOOM_STATUS_HOLD_CAUSE (n : Nat) : Fld := ⟨8 * (0x80F00010 + 0x1000000 * n) + 3, 3, 0⟩

/-- R261 LOOM_STATUS [6:6] SLIP RO. Slip under way (R246) -/
def LOOM_STATUS_SLIP (n : Nat) : Fld := ⟨8 * (0x80F00010 + 0x1000000 * n) + 6, 1, 0⟩

/-- R261 LOOM_STATUS [7:7] FAULT RO. Draft fault (R248) -/
def LOOM_STATUS_FAULT (n : Nat) : Fld := ⟨8 * (0x80F00010 + 0x1000000 * n) + 7, 1, 0⟩

/-- R261 LOOM_STATUS [8:8] PEER_FAULT RO. Stopped by a fault elsewhere in the bolt -/
def LOOM_STATUS_PEER_FAULT (n : Nat) : Fld := ⟨8 * (0x80F00010 + 0x1000000 * n) + 8, 1, 0⟩

/-- R261 LOOM_STATUS [9:9] BENCHED RO. Loom is benched -/
def LOOM_STATUS_BENCHED (n : Nat) : Fld := ⟨8 * (0x80F00010 + 0x1000000 * n) + 9, 1, 0⟩

/-- R261 LOOM_PC [15:0] PC RO. Index of the last issued word -/
def LOOM_PC_PC (n : Nat) : Fld := ⟨8 * (0x80F00018 + 0x1000000 * n) + 0, 16, 0⟩

/-- R261 LOOM_FAULT [15:0] PC RO. Faulting word -/
def LOOM_FAULT_PC (n : Nat) : Fld := ⟨8 * (0x80F00020 + 0x1000000 * n) + 0, 16, 0⟩

/-- R261 LOOM_FAULT [19:16] UNIT RO. Its UNIT -/
def LOOM_FAULT_UNIT (n : Nat) : Fld := ⟨8 * (0x80F00020 + 0x1000000 * n) + 16, 4, 0⟩

/-- R261 LOOM_FAULT [27:20] CAUSE RO. R249 -/
def LOOM_FAULT_CAUSE (n : Nat) : Fld := ⟨8 * (0x80F00020 + 0x1000000 * n) + 20, 8, 0⟩

/-- R261 LOOM_STEP [31:0] STEP RO. Step number latched by STEP -/
def LOOM_STEP_STEP (n : Nat) : Fld := ⟨8 * (0x80F00028 + 0x1000000 * n) + 0, 32, 0⟩

/-- R261 LOOM_STEP_ACTUAL [63:0] CYCLES RO. R244 -/
def LOOM_STEP_ACTUAL_CYCLES (n : Nat) : Fld := ⟨8 * (0x80F00030 + 0x1000000 * n) + 0, 64, 0⟩

/-- R261 LOOM_SLIP [31:0] CYCLES RO. Cycles slipped this step -/
def LOOM_SLIP_CYCLES (n : Nat) : Fld := ⟨8 * (0x80F00038 + 0x1000000 * n) + 0, 32, 0⟩

/-- R261 LOOM_HOLD_CNT [63:0] EVENTS RO. Holds of cause c; wraps -/
def LOOM_HOLD_CNT_EVENTS (n i : Nat) : Fld := ⟨8 * (0x80F00040 + 0x1000000 * n + 8 * i) + 0, 64, 0⟩

/-- R261 LOOM_HOLD_CYC [63:0] CYCLES RO. Hold cycles of cause c; wraps -/
def LOOM_HOLD_CYC_CYCLES (n i : Nat) : Fld := ⟨8 * (0x80F00068 + 0x1000000 * n + 8 * i) + 0, 64, 0⟩

/-- R261 LOOM_STEP_HOLD [31:0] CYCLES RO. Hold cycles of cause c this step -/
def LOOM_STEP_HOLD_CYCLES (n i : Nat) : Fld := ⟨8 * (0x80F00090 + 0x1000000 * n + 8 * i) + 0, 32, 0⟩

/-- R261 LOOM_STEP_HOLD [63:32] EVENTS RO. Holds of cause c this step -/
def LOOM_STEP_HOLD_EVENTS (n i : Nat) : Fld := ⟨8 * (0x80F00090 + 0x1000000 * n + 8 * i) + 32, 32, 0⟩

/-- R262 SPD_ID [3:0] ARCH_LEVEL RO. Architecture level (R8) -/
def SPD_ID_ARCH_LEVEL (n : Nat) : Fld := ⟨8 * (0x80F30000 + 0x1000000 * n) + 0, 4, 0x2⟩

/-- R262 SPD_ID [15:8] BANKS RO. Banks Reset: 32 Warp, 48 Weft. -/
def SPD_ID_BANKS (n : Nat) : Fld := ⟨8 * (0x80F30000 + 0x1000000 * n) + 8, 8, if kindOf n = 0 then 32 else 48⟩

/-- R262 SPD_STATUS [0:0] BENCH_REQ RO. R258 -/
def SPD_STATUS_BENCH_REQ (n : Nat) : Fld := ⟨8 * (0x80F30010 + 0x1000000 * n) + 0, 1, 0⟩

/-- R262 SPD_CNT_CONFLICT [63:0] EXTRA RO. R253; wraps -/
def SPD_CNT_CONFLICT_EXTRA (n : Nat) : Fld := ⟨8 * (0x80F30018 + 0x1000000 * n) + 0, 64, 0⟩

/-- R262 SPD_CONFLICT_LAST [5:0] BANK RO. Lowest conflicting bank -/
def SPD_CONFLICT_LAST_BANK (n : Nat) : Fld := ⟨8 * (0x80F30020 + 0x1000000 * n) + 0, 6, 0⟩

/-- R262 SPD_CONFLICT_LAST [14:8] PORTS RO. Ports involved, bits as in R251 -/
def SPD_CONFLICT_LAST_PORTS (n : Nat) : Fld := ⟨8 * (0x80F30020 + 0x1000000 * n) + 8, 7, 0⟩

/-- R262 SPD_CONFLICT_LAST [31:16] PC RO. Word index current at the conflict -/
def SPD_CONFLICT_LAST_PC (n : Nat) : Fld := ⟨8 * (0x80F30020 + 0x1000000 * n) + 16, 16, 0⟩

/-- R262 SPD_CNT_CORR [63:0] CORR RO. Corrected words; wraps -/
def SPD_CNT_CORR_CORR (n : Nat) : Fld := ⟨8 * (0x80F30028 + 0x1000000 * n) + 0, 64, 0⟩

/-- R262 SPD_CNT_TRANSIENT [63:0] TRANSIENT RO. R257; wraps -/
def SPD_CNT_TRANSIENT_TRANSIENT (n : Nat) : Fld := ⟨8 * (0x80F30030 + 0x1000000 * n) + 0, 64, 0⟩

/-- R262 SPD_CNT_LASTING [63:0] LASTING RO. R257; wraps -/
def SPD_CNT_LASTING_LASTING (n : Nat) : Fld := ⟨8 * (0x80F30038 + 0x1000000 * n) + 0, 64, 0⟩

/-- R262 SPD_CNT_UNCORR [63:0] UNCORR RO. R259; wraps -/
def SPD_CNT_UNCORR_UNCORR (n : Nat) : Fld := ⟨8 * (0x80F30040 + 0x1000000 * n) + 0, 64, 0⟩

/-- R262 SPD_CNT_POISON [63:0] POISON RO. R259; wraps -/
def SPD_CNT_POISON_POISON (n : Nat) : Fld := ⟨8 * (0x80F30048 + 0x1000000 * n) + 0, 64, 0⟩

/-- R262 SPD_CNT_NC_DEFER [63:0] DEFER RO. R255; wraps -/
def SPD_CNT_NC_DEFER_DEFER (n : Nat) : Fld := ⟨8 * (0x80F30050 + 0x1000000 * n) + 0, 64, 0⟩

/-- R262 SPD_SCRUB_CTL [0:0] EN RW. R260 -/
def SPD_SCRUB_CTL_EN (n : Nat) : Fld := ⟨8 * (0x80F30058 + 0x1000000 * n) + 0, 1, 1⟩

/-- R262 SPD_CNT_SCRUB_PASS [63:0] PASSES RO. Full scrub passes; wraps -/
def SPD_CNT_SCRUB_PASS_PASSES (n : Nat) : Fld := ⟨8 * (0x80F30060 + 0x1000000 * n) + 0, 64, 0⟩

/-- R262 SPD_LAST_THR [15:0] THR RW. R258 -/
def SPD_LAST_THR_THR (n : Nat) : Fld := ⟨8 * (0x80F30068 + 0x1000000 * n) + 0, 16, 0x0010⟩

/-- R262 SPD_ERR [0:0] CONFLICT W1C. R253 -/
def SPD_ERR_CONFLICT (n : Nat) : Fld := ⟨8 * (0x80F30070 + 0x1000000 * n) + 0, 1, 0⟩

/-- R262 SPD_ERR [1:1] UNCORR W1C. R259 -/
def SPD_ERR_UNCORR (n : Nat) : Fld := ⟨8 * (0x80F30070 + 0x1000000 * n) + 1, 1, 0⟩

/-- R262 SPD_ERR [2:2] LASTING W1C. R257 -/
def SPD_ERR_LASTING (n : Nat) : Fld := ⟨8 * (0x80F30070 + 0x1000000 * n) + 2, 1, 0⟩

/-- R262 SPD_ERR [3:3] INWIN_DENY W1C. R256 -/
def SPD_ERR_INWIN_DENY (n : Nat) : Fld := ⟨8 * (0x80F30070 + 0x1000000 * n) + 3, 1, 0⟩

/-- R262 SPD_ERR_ADDR [23:0] ADDR RO. Scratchpad address of the last uncorrectable or lasting error -/
def SPD_ERR_ADDR_ADDR (n : Nat) : Fld := ⟨8 * (0x80F30078 + 0x1000000 * n) + 0, 24, 0⟩

/-- R262 SPD_BANK_LASTING [15:0] COUNT RO. Lasting count of bank b (R258) -/
def SPD_BANK_LASTING_COUNT (n i : Nat) : Fld := ⟨8 * (0x80F30100 + 0x1000000 * n + 4 * i) + 0, 16, 0⟩

/-- R262 SPD_INWIN [11:0] BASE_4K RO. Window base / 4 KiB within the loom window, w = 0–7 -/
def SPD_INWIN_BASE_4K (n i : Nat) : Fld := ⟨8 * (0x80F30200 + 0x1000000 * n + 8 * i) + 0, 12, 0⟩

/-- R262 SPD_INWIN [23:12] SIZE_4K RO. Size / 4 KiB; 0 disables the window -/
def SPD_INWIN_SIZE_4K (n i : Nat) : Fld := ⟨8 * (0x80F30200 + 0x1000000 * n + 8 * i) + 12, 12, 0⟩

/-- R262 SPD_INWIN [24:24] RD RO. Reads permitted -/
def SPD_INWIN_RD (n i : Nat) : Fld := ⟨8 * (0x80F30200 + 0x1000000 * n + 8 * i) + 24, 1, 0⟩

/-- R262 SPD_INWIN [25:25] WR RO. Writes permitted -/
def SPD_INWIN_WR (n i : Nat) : Fld := ⟨8 * (0x80F30200 + 0x1000000 * n + 8 * i) + 25, 1, 0⟩

/-- R262 SPD_INWIN [27:26] SRC RO. Source class (R256); 3 matches nothing -/
def SPD_INWIN_SRC (n i : Nat) : Fld := ⟨8 * (0x80F30200 + 0x1000000 * n + 8 * i) + 26, 2, 0⟩

/-- R262 SPD_INWIN [41:32] TENANT RO. Required tenant -/
def SPD_INWIN_TENANT (n i : Nat) : Fld := ⟨8 * (0x80F30200 + 0x1000000 * n + 8 * i) + 32, 10, 0⟩

/-- R262 SPD_INWIN [42:42] ANY_TENANT RO. Any tenant accepted -/
def SPD_INWIN_ANY_TENANT (n i : Nat) : Fld := ⟨8 * (0x80F30200 + 0x1000000 * n + 8 * i) + 42, 1, 0⟩

/-- R295 SHT_ID [3:0] ARCH_LEVEL RO. Architecture level (R8) -/
def SHT_ID_ARCH_LEVEL (n : Nat) : Fld := ⟨8 * (0x80F90000 + 0x1000000 * n) + 0, 4, 0x2⟩

/-- R295 SHT_ID [15:8] QUEUES RO. Queues -/
def SHT_ID_QUEUES (n : Nat) : Fld := ⟨8 * (0x80F90000 + 0x1000000 * n) + 8, 8, 0xE0⟩

/-- R295 SHT_ID [23:16] CREGS RO. Count registers -/
def SHT_ID_CREGS (n : Nat) : Fld := ⟨8 * (0x80F90000 + 0x1000000 * n) + 16, 8, 0x20⟩

/-- R295 SHT_AUD_CTL [3:0] AUD_LOG2DIV RW. Audit divisor 2^value, 4–10; other values read as 10 -/
def SHT_AUD_CTL_AUD_LOG2DIV (n : Nat) : Fld := ⟨8 * (0x80F90008 + 0x1000000 * n) + 0, 4, 0x6⟩

/-- R295 SHT_AUD_CTL [31:16] AUD_THR RW. Miss-rate threshold, units of 2^(−16) -/
def SHT_AUD_CTL_AUD_THR (n : Nat) : Fld := ⟨8 * (0x80F90008 + 0x1000000 * n) + 16, 16, 0x0200⟩

/-- R295 SHT_AUD_WIN [31:0] PAIRS RW. Audit window; 0 disables the flag -/
def SHT_AUD_WIN_PAIRS (n : Nat) : Fld := ⟨8 * (0x80F90010 + 0x1000000 * n) + 0, 32, 0x00100000⟩

/-- R295 SHT_STATUS [0:0] BUSY RO. An operation is under way -/
def SHT_STATUS_BUSY (n : Nat) : Fld := ⟨8 * (0x80F90018 + 0x1000000 * n) + 0, 1, 0⟩

/-- R295 SHT_STATUS [3:1] OP RO. OP of that operation -/
def SHT_STATUS_OP (n : Nat) : Fld := ⟨8 * (0x80F90018 + 0x1000000 * n) + 1, 3, 0⟩

/-- R295 SHT_CNT_ROUTED [63:0] ROUTED RO. Choices kept; wraps -/
def SHT_CNT_ROUTED_ROUTED (n : Nat) : Fld := ⟨8 * (0x80F90028 + 0x1000000 * n) + 0, 64, 0⟩

/-- R295 SHT_CNT_DROPPED [63:0] DROPPED RO. Choices dropped by quota; wraps -/
def SHT_CNT_DROPPED_DROPPED (n : Nat) : Fld := ⟨8 * (0x80F90030 + 0x1000000 * n) + 0, 64, 0⟩

/-- R295 SHT_CNT_OVF_CLAIM [63:0] CLAIMED RO. Overflow claims granted; wraps -/
def SHT_CNT_OVF_CLAIM_CLAIMED (n : Nat) : Fld := ⟨8 * (0x80F90038 + 0x1000000 * n) + 0, 64, 0⟩

/-- R295 SHT_CNT_OVF_FULL [63:0] FULL RO. Overflow claims refused; wraps -/
def SHT_CNT_OVF_FULL_FULL (n : Nat) : Fld := ⟨8 * (0x80F90040 + 0x1000000 * n) + 0, 64, 0⟩

/-- R295 SHT_CNT_NAN [63:0] NAN RO. NaN scores (R268); wraps -/
def SHT_CNT_NAN_NAN (n : Nat) : Fld := ⟨8 * (0x80F90048 + 0x1000000 * n) + 0, 64, 0⟩

/-- R295 SHT_CNT_LANDED [63:0] LANDED RO. Records and return rows accepted; wraps -/
def SHT_CNT_LANDED_LANDED (n : Nat) : Fld := ⟨8 * (0x80F90050 + 0x1000000 * n) + 0, 64, 0⟩

/-- R295 SHT_CNT_LAND_BAD [63:0] BAD RO. Landings discarded (R281); wraps -/
def SHT_CNT_LAND_BAD_BAD (n : Nat) : Fld := ⟨8 * (0x80F90058 + 0x1000000 * n) + 0, 64, 0⟩

/-- R295 SHT_CNT_TALLY_BAD [63:0] BAD RO. Tallies discarded (R282); wraps -/
def SHT_CNT_TALLY_BAD_BAD (n : Nat) : Fld := ⟨8 * (0x80F90060 + 0x1000000 * n) + 0, 64, 0⟩

/-- R295 SHT_CNT_EXIT [63:0] EXITS RO. Rows exited; wraps -/
def SHT_CNT_EXIT_EXITS (n : Nat) : Fld := ⟨8 * (0x80F90068 + 0x1000000 * n) + 0, 64, 0⟩

/-- R295 SHT_CNT_EXIT_FULL [63:0] FULL RO. Exits refused, fill list full; wraps -/
def SHT_CNT_EXIT_FULL_FULL (n : Nat) : Fld := ⟨8 * (0x80F90070 + 0x1000000 * n) + 0, 64, 0⟩

/-- R295 SHT_CNT_FILL_STALE [63:0] STALE RO. Fill writes discarded (R293); wraps -/
def SHT_CNT_FILL_STALE_STALE (n : Nat) : Fld := ⟨8 * (0x80F90078 + 0x1000000 * n) + 0, 64, 0⟩

/-- R295 SHT_AUD_PAIRS [31:0] PAIRS RO. Audited pairs in the current window -/
def SHT_AUD_PAIRS_PAIRS (n : Nat) : Fld := ⟨8 * (0x80F900C0 + 0x1000000 * n) + 0, 32, 0⟩

/-- R295 SHT_AUD_MISS [31:0] MISS RO. Misses in the current window -/
def SHT_AUD_MISS_MISS (n : Nat) : Fld := ⟨8 * (0x80F900C4 + 0x1000000 * n) + 0, 32, 0⟩

/-- R295 SHT_AUD_LAST [31:0] PAIRS RO. Pairs of the last full window -/
def SHT_AUD_LAST_PAIRS (n : Nat) : Fld := ⟨8 * (0x80F900C8 + 0x1000000 * n) + 0, 32, 0⟩

/-- R295 SHT_AUD_LAST [63:32] MISS RO. Misses of the last full window -/
def SHT_AUD_LAST_MISS (n : Nat) : Fld := ⟨8 * (0x80F900C8 + 0x1000000 * n) + 32, 32, 0⟩

/-- R295 SHT_FLAGS [0:0] PRED W1C. Predictor miss rate above threshold (R288) -/
def SHT_FLAGS_PRED (n : Nat) : Fld := ⟨8 * (0x80F900E0 + 0x1000000 * n) + 0, 1, 0⟩

/-- R295 SHT_FLAGS [1:1] NAN_SCORE W1C. A router score was NaN (R268) -/
def SHT_FLAGS_NAN_SCORE (n : Nat) : Fld := ⟨8 * (0x80F900E0 + 0x1000000 * n) + 1, 1, 0⟩

/-- R295 SHT_ERR [0:0] RANGE W1C. Draft fault: parameter out of range (R266) -/
def SHT_ERR_RANGE (n : Nat) : Fld := ⟨8 * (0x80F900E8 + 0x1000000 * n) + 0, 1, 0⟩

/-- R295 SHT_ERR [1:1] LAND W1C. Landing discarded (R281) -/
def SHT_ERR_LAND (n : Nat) : Fld := ⟨8 * (0x80F900E8 + 0x1000000 * n) + 1, 1, 0⟩

/-- R295 SHT_ERR [2:2] TALLY W1C. Tally discarded (R282) -/
def SHT_ERR_TALLY (n : Nat) : Fld := ⟨8 * (0x80F900E8 + 0x1000000 * n) + 2, 1, 0⟩

/-- R295 SHT_CREG [15:0] COUNT RO. Count register i, read by SKIPZ as queue 224 + i, i = 0–31 -/
def SHT_CREG_COUNT (n i : Nat) : Fld := ⟨8 * (0x80F90100 + 0x1000000 * n + 4 * i) + 0, 16, 0⟩

/-- R295 SHT_EXM [31:0] EXM RO. Bit j: row 32w + j exited this step, w = 0–15 -/
def SHT_EXM_EXM (n i : Nat) : Fld := ⟨8 * (0x80F90180 + 0x1000000 * n + 4 * i) + 0, 32, 0⟩

/-- R295 SHT_QSTATE [11:0] LANDED RO. Half S & 1 of queue q, q = 0–223 -/
def SHT_QSTATE_LANDED (n i : Nat) : Fld := ⟨8 * (0x80F90200 + 0x1000000 * n + 8 * i) + 0, 12, 0⟩

/-- R295 SHT_QSTATE [31:16] TSUM RO. Sum of accepted COUNTs -/
def SHT_QSTATE_TSUM (n i : Nat) : Fld := ⟨8 * (0x80F90200 + 0x1000000 * n + 8 * i) + 16, 16, 0⟩

/-- R295 SHT_QSTATE [38:32] TCNT RO. Tallies accepted -/
def SHT_QSTATE_TCNT (n i : Nat) : Fld := ⟨8 * (0x80F90200 + 0x1000000 * n + 8 * i) + 32, 7, 0⟩

/-- R295 SHT_QSTATE [39:39] DONE RO. WAIT TALLY condition met -/
def SHT_QSTATE_DONE (n i : Nat) : Fld := ⟨8 * (0x80F90200 + 0x1000000 * n + 8 * i) + 39, 1, 0⟩

/-- R295 SHT_QSTATE [51:40] OVF_CNT RO. Overflow counter -/
def SHT_QSTATE_OVF_CNT (n i : Nat) : Fld := ⟨8 * (0x80F90200 + 0x1000000 * n + 8 * i) + 40, 12, 0⟩

/-- R295/R272 SHT_QUEUE [23:0] QBASE RO. Scratchpad address of the queue, 64-byte aligned -/
def SHT_QUEUE_QBASE (n i : Nat) : Fld := ⟨8 * (0x80F91000 + 0x1000000 * n + 16 * i) + 0, 24, 0⟩

/-- R295/R272 SHT_QUEUE [43:32] CAP RO. Slots per half, 0–4,095; zero for a return queue -/
def SHT_QUEUE_CAP (n i : Nat) : Fld := ⟨8 * (0x80F91000 + 0x1000000 * n + 16 * i) + 32, 12, 0⟩

/-- R295/R272 SHT_QUEUE [54:48] NSRC RO. Declared sources, 1–64 -/
def SHT_QUEUE_NSRC (n i : Nat) : Fld := ⟨8 * (0x80F91000 + 0x1000000 * n + 16 * i) + 48, 7, 0⟩

/-- R295/R272 SHT_QUEUE [74:64] SRC_BASE RO. Source table index of source 0 -/
def SHT_QUEUE_SRC_BASE (n i : Nat) : Fld := ⟨8 * (0x80F91000 + 0x1000000 * n + 16 * i) + 64, 11, 0⟩

/-- R295/R272 SHT_QUEUE [75:75] VALID RO. Entry in use -/
def SHT_QUEUE_VALID (n i : Nat) : Fld := ⟨8 * (0x80F91000 + 0x1000000 * n + 16 * i) + 75, 1, 0⟩

/-- R295/R272 SHT_QUEUE [91:80] OVF0 RO. First slot of the shared overflow region -/
def SHT_QUEUE_OVF0 (n i : Nat) : Fld := ⟨8 * (0x80F91000 + 0x1000000 * n + 16 * i) + 80, 12, 0⟩

/-- R295/R272 SHT_QUEUE [103:92] OVF_N RO. Slots in the overflow region; 0: none -/
def SHT_QUEUE_OVF_N (n i : Nat) : Fld := ⟨8 * (0x80F91000 + 0x1000000 * n + 16 * i) + 92, 12, 0⟩

/-- R295/R272 SHT_QUEUE [119:104] RSZ_64 RO. Record size in units of 64 bytes -/
def SHT_QUEUE_RSZ_64 (n i : Nat) : Fld := ⟨8 * (0x80F91000 + 0x1000000 * n + 16 * i) + 104, 16, 0⟩

/-- R295/R271 SHT_EMAP [13:0] CHIP RO. Chip ID of the expert's looms -/
def SHT_EMAP_CHIP (n i : Nat) : Fld := ⟨8 * (0x80F94000 + 0x1000000 * n + 8 * i) + 0, 14, 0⟩

/-- R295/R271 SHT_EMAP [21:14] LOOM RO. First replica loom -/
def SHT_EMAP_LOOM (n i : Nat) : Fld := ⟨8 * (0x80F94000 + 0x1000000 * n + 8 * i) + 14, 8, 0⟩

/-- R295/R271 SHT_EMAP [29:22] QUEUE RO. Queue number on each replica, 0–223 -/
def SHT_EMAP_QUEUE (n i : Nat) : Fld := ⟨8 * (0x80F94000 + 0x1000000 * n + 8 * i) + 22, 8, 0⟩

/-- R295/R271 SHT_EMAP [32:30] REPL_M1 RO. Replicas − 1; replicas are looms LOOM to LOOM + REPL_M1 -/
def SHT_EMAP_REPL_M1 (n i : Nat) : Fld := ⟨8 * (0x80F94000 + 0x1000000 * n + 8 * i) + 30, 3, 0⟩

/-- R295/R271 SHT_EMAP [38:33] SRC RO. This source's index among the queue's declared sources -/
def SHT_EMAP_SRC (n i : Nat) : Fld := ⟨8 * (0x80F94000 + 0x1000000 * n + 8 * i) + 33, 6, 0⟩

/-- R295/R271 SHT_EMAP [50:39] SLOT0 RO. First slot of this source's quota range -/
def SHT_EMAP_SLOT0 (n i : Nat) : Fld := ⟨8 * (0x80F94000 + 0x1000000 * n + 8 * i) + 39, 12, 0⟩

/-- R295/R271 SHT_EMAP [62:51] QUOTA RO. Slots in this source's range, 0–4,095 -/
def SHT_EMAP_QUOTA (n i : Nat) : Fld := ⟨8 * (0x80F94000 + 0x1000000 * n + 8 * i) + 51, 12, 0⟩

/-- R295/R271 SHT_EMAP [63:63] VALID RO. Entry in use -/
def SHT_EMAP_VALID (n i : Nat) : Fld := ⟨8 * (0x80F94000 + 0x1000000 * n + 8 * i) + 63, 1, 0⟩

/-- R295/R273 SHT_SRC [13:0] CHIP RO. Chip ID of the source loom -/
def SHT_SRC_CHIP (n i : Nat) : Fld := ⟨8 * (0x80F98000 + 0x1000000 * n + 16 * i) + 0, 14, 0⟩

/-- R295/R273 SHT_SRC [21:14] LOOM RO. Source loom -/
def SHT_SRC_LOOM (n i : Nat) : Fld := ⟨8 * (0x80F98000 + 0x1000000 * n + 16 * i) + 14, 8, 0⟩

/-- R295/R273 SHT_SRC [29:22] RQUEUE RO. The source's return queue -/
def SHT_SRC_RQUEUE (n i : Nat) : Fld := ⟨8 * (0x80F98000 + 0x1000000 * n + 16 * i) + 22, 8, 0⟩

/-- R295/R273 SHT_SRC [35:30] RSRC RO. This replica's index among the return queue's sources -/
def SHT_SRC_RSRC (n i : Nat) : Fld := ⟨8 * (0x80F98000 + 0x1000000 * n + 16 * i) + 30, 6, 0⟩

/-- R295/R273 SHT_SRC [87:64] RET_BASE RO. Scratchpad address of the source's return area -/
def SHT_SRC_RET_BASE (n i : Nat) : Fld := ⟨8 * (0x80F98000 + 0x1000000 * n + 16 * i) + 64, 24, 0⟩

/-- R295/R273 SHT_SRC [103:88] RET_STRIDE_64 RO. Return slot stride in units of 64 bytes -/
def SHT_SRC_RET_STRIDE_64 (n i : Nat) : Fld := ⟨8 * (0x80F98000 + 0x1000000 * n + 16 * i) + 88, 16, 0⟩

/-- R295/R273 SHT_SRC [115:104] SLOT0 RO. As in the source's map entry -/
def SHT_SRC_SLOT0 (n i : Nat) : Fld := ⟨8 * (0x80F98000 + 0x1000000 * n + 16 * i) + 104, 12, 0⟩

/-- R295/R273 SHT_SRC [127:116] QUOTA RO. As in the source's map entry -/
def SHT_SRC_QUOTA (n i : Nat) : Fld := ⟨8 * (0x80F98000 + 0x1000000 * n + 16 * i) + 116, 12, 0⟩

end Sys2Proof.Machine
end

