-- ==== Sys2Proof/Machine/RegsMgmt.lean ====
section
/-! DEFINITION. The named register fields of Selvedge (R468, R516), security engine (R364, R469), power (R495), ledger (R493), Temper (R494), Card loader (R429).
Each field is written from its row of the spec's register table: where it lies, how wide it is, what it holds after cold reset. -/
namespace Sys2Proof.Machine

/-- R364 SEC_KEY_DATA [511:0] KEYS WO. Key 1 and key 2 (R346) -/
def SEC_KEY_DATA_KEYS : Fld := ⟨8 * (0x100100) + 0, 512, 0⟩

/-- R364 SEC_KEY_CMD [9:0] SLOT WO. Key slot -/
def SEC_KEY_CMD_SLOT : Fld := ⟨8 * (0x100140) + 0, 10, 0⟩

/-- R364 SEC_KEY_CMD [17:16] OP WO. 1 LOAD, 2 ZERO; 0 and 3 ignored -/
def SEC_KEY_CMD_OP : Fld := ⟨8 * (0x100140) + 16, 2, 0⟩

/-- R364 SEC_KEY_STS [3:0] STS RO. R346 -/
def SEC_KEY_STS_STS : Fld := ⟨8 * (0x100148) + 0, 4, 0⟩

/-- R364 SEC_KEY_VALID [31:0] MAP RO. Bit j: slot 32i + j holds a key, i = 0–31 -/
def SEC_KEY_VALID_MAP (i : Nat) : Fld := ⟨8 * (0x100200 + 4 * i) + 0, 32, 0⟩

/-- R429 CRD_ID [3:0] ARCH_LEVEL RO. Architecture level (R8) -/
def CRD_ID_ARCH_LEVEL : Fld := ⟨8 * (0x300000) + 0, 4, 0x2⟩

/-- R429 CRD_ID [7:4] FORMAT RO. Image format (R412) -/
def CRD_ID_FORMAT : Fld := ⟨8 * (0x300000) + 4, 4, 0x1⟩

/-- R429 CRD_ID [15:8] MAX_MIB RO. Largest image, MiB -/
def CRD_ID_MAX_MIB : Fld := ⟨8 * (0x300000) + 8, 8, 0x10⟩

/-- R429 CRD_CTL [0:0] LOAD WO. Writing 1 starts a load (R424) -/
def CRD_CTL_LOAD : Fld := ⟨8 * (0x300008) + 0, 1, 0⟩

/-- R429 CRD_CTL [1:1] KIND RW. 0 FULL, 1 FUNCTION -/
def CRD_CTL_KIND : Fld := ⟨8 * (0x300008) + 1, 1, 0⟩

/-- R429 CRD_CTL [2:2] SRC_FLASH RW. 1: read the image from boot flash; honoured only from Selvedge (R424) -/
def CRD_CTL_SRC_FLASH : Fld := ⟨8 * (0x300008) + 2, 1, 0⟩

/-- R429 CRD_CTL [3:3] AREA RW. Boot-flash area when SRC_FLASH is 1: 0 CARD_A, 1 CARD_B -/
def CRD_CTL_AREA : Fld := ⟨8 * (0x300008) + 3, 1, 0⟩

/-- R429 CRD_SRC [63:0] ADDR RW. Local HBM address of the image, 64-byte aligned; unused when SRC_FLASH is 1 -/
def CRD_SRC_ADDR : Fld := ⟨8 * (0x300010) + 0, 64, 0⟩

/-- R429 CRD_FUNC_BOLTS [63:0] MASK RW. Bit b: bolt b is in scope (R425) -/
def CRD_FUNC_BOLTS_MASK : Fld := ⟨8 * (0x300018) + 0, 64, 0⟩

/-- R429 CRD_STATUS [0:0] BUSY RO. A load is under way -/
def CRD_STATUS_BUSY : Fld := ⟨8 * (0x300020) + 0, 1, 0⟩

/-- R429 CRD_STATUS [1:1] LOADED RO. An image is in force -/
def CRD_STATUS_LOADED : Fld := ⟨8 * (0x300020) + 1, 1, 0⟩

/-- R429 CRD_STATUS [2:2] OPEN_DEFER RO. R428; cleared by the next load -/
def CRD_STATUS_OPEN_DEFER : Fld := ⟨8 * (0x300020) + 2, 1, 0⟩

/-- R429 CRD_LOAD_STS [4:0] STS RO. R426 -/
def CRD_LOAD_STS_STS : Fld := ⟨8 * (0x300028) + 0, 5, 0⟩

/-- R429 CRD_LOAD_STS [15:8] SECT RO. Section type of the failure -/
def CRD_LOAD_STS_SECT : Fld := ⟨8 * (0x300028) + 8, 8, 0⟩

/-- R429 CRD_LOAD_STS [31:16] INDEX RO. Entry index of the failure, saturating at 0xFFFF -/
def CRD_LOAD_STS_INDEX : Fld := ⟨8 * (0x300028) + 16, 16, 0⟩

/-- R429 CRD_ACTIVE_ID [63:0] ID RO. IMAGE_ID in force -/
def CRD_ACTIVE_ID_ID : Fld := ⟨8 * (0x300030) + 0, 64, 0⟩

/-- R429 CRD_ACTIVE_SVN [31:0] SVN RO. IMG_SVN in force -/
def CRD_ACTIVE_SVN_SVN : Fld := ⟨8 * (0x300038) + 0, 32, 0⟩

/-- R429 CRD_CNT_LOADS [63:0] N RO. Loads committed; wraps -/
def CRD_CNT_LOADS_N : Fld := ⟨8 * (0x300040) + 0, 64, 0⟩

/-- R429 CRD_CNT_REFUSED [63:0] N RO. Loads refused; wraps -/
def CRD_CNT_REFUSED_N : Fld := ⟨8 * (0x300048) + 0, 64, 0⟩

/-- R429 CRD_ACTIVE_DIGEST [63:0] DIGEST RO. M of the image in force (R416), i = 0–5, word 0 first -/
def CRD_ACTIVE_DIGEST_DIGEST (i : Nat) : Fld := ⟨8 * (0x300100 + 8 * i) + 0, 64, 0⟩

/-- R468 SLV_ID [3:0] ARCH_LEVEL RO. Architecture level (R8) -/
def SLV_ID_ARCH_LEVEL : Fld := ⟨8 * (0x0) + 0, 4, 0x2⟩

/-- R468 SLV_ID [15:8] SRAM_MIB RO. SRAM size -/
def SLV_ID_SRAM_MIB : Fld := ⟨8 * (0x0) + 8, 8, 0x10⟩

/-- R468 SLV_CTL [0:0] LOG_HALF RW. Half of the log ring shown in the window -/
def SLV_CTL_LOG_HALF : Fld := ⟨8 * (0x8) + 0, 1, 0⟩

/-- R468 SLV_CTL [1:1] LOG_FLUSH WO. Writing 1 persists every record now (R456) -/
def SLV_CTL_LOG_FLUSH : Fld := ⟨8 * (0x8) + 1, 1, 0⟩

/-- R468 SLV_STATUS [3:0] STAGE RO. R441 -/
def SLV_STATUS_STAGE : Fld := ⟨8 * (0x10) + 0, 4, 0⟩

/-- R468 SLV_STATUS [4:4] RECOVERED RO. This boot followed a recovery commit -/
def SLV_STATUS_RECOVERED : Fld := ⟨8 * (0x10) + 4, 1, 0⟩

/-- R468 SLV_STATUS [5:5] CARD_AREA RO. Boot image from 0 CARD_A, 1 CARD_B -/
def SLV_STATUS_CARD_AREA : Fld := ⟨8 * (0x10) + 5, 1, 0⟩

/-- R468 SLV_STATUS [6:6] NO_CARD RO. R442 -/
def SLV_STATUS_NO_CARD : Fld := ⟨8 * (0x10) + 6, 1, 0⟩

/-- R468 SLV_STATUS [7:7] SESSION RO. A management session is open -/
def SLV_STATUS_SESSION : Fld := ⟨8 * (0x10) + 7, 1, 0⟩

/-- R468 SLV_BOOT_CNT [31:0] N RO. Boot count Reset: Flash. -/
def SLV_BOOT_CNT_N : Fld := ⟨8 * (0x18) + 0, 32, 0⟩

/-- R468 SLV_INGOT_VER [63:0] VERSION RO. Running Ingot Reset: Flash. -/
def SLV_INGOT_VER_VERSION : Fld := ⟨8 * (0x20) + 0, 64, 0⟩

/-- R468 SLV_INGOT_SVN [31:0] SVN RO. Running Ingot Reset: Flash. -/
def SLV_INGOT_SVN_SVN : Fld := ⟨8 * (0x28) + 0, 32, 0⟩

/-- R468 SLV_CMD [7:0] OP WO. R461 -/
def SLV_CMD_OP : Fld := ⟨8 * (0x30) + 0, 8, 0⟩

/-- R468 SLV_CMD_STS [0:0] BUSY RO. A command is under way -/
def SLV_CMD_STS_BUSY : Fld := ⟨8 * (0x38) + 0, 1, 0⟩

/-- R468 SLV_CMD_STS [15:8] STATUS RO. R462 -/
def SLV_CMD_STS_STATUS : Fld := ⟨8 * (0x38) + 8, 8, 0⟩

/-- R468 SLV_CMD_STS [23:16] OP RO. Command of that status -/
def SLV_CMD_STS_OP : Fld := ⟨8 * (0x38) + 16, 8, 0⟩

/-- R468 SLV_CMD_ARG [63:0] ARG RW. ARG0–ARG3, i = 0–3 -/
def SLV_CMD_ARG_ARG (i : Nat) : Fld := ⟨8 * (0x40 + 8 * i) + 0, 64, 0⟩

/-- R468 SLV_NONCE [63:0] NONCE RW. Assay nonce, word 0 first, i = 0–3 -/
def SLV_NONCE_NONCE (i : Nat) : Fld := ⟨8 * (0x60 + 8 * i) + 0, 64, 0⟩

/-- R468 SLV_LOG_HEAD [31:0] SEQ RO. SEQ of the next record Reset: Flash. -/
def SLV_LOG_HEAD_SEQ : Fld := ⟨8 * (0x80) + 0, 32, 0⟩

/-- R468 SLV_LOG_PERSIST [31:0] SEQ RO. Every record below this SEQ is persisted Reset: Flash. -/
def SLV_LOG_PERSIST_SEQ : Fld := ⟨8 * (0x84) + 0, 32, 0⟩

/-- R468 SLV_LOG_LOST [31:0] N RO. Records lost this boot; holds -/
def SLV_LOG_LOST_N : Fld := ⟨8 * (0x88) + 0, 32, 0⟩

/-- R468 SLV_LAG_CTL [31:0] THR RW. R466 -/
def SLV_LAG_CTL_THR : Fld := ⟨8 * (0x90) + 0, 32, 0x00010000⟩

/-- R468 SLV_LAG_CTL [39:32] WIN RW. Steps, 1–255; 0 reads as 1 -/
def SLV_LAG_CTL_WIN : Fld := ⟨8 * (0x90) + 32, 8, 0x40⟩

/-- R468 SLV_LAG_CTL [47:40] COUNT RW. Values above WIN read as WIN; 0 disables the rule -/
def SLV_LAG_CTL_COUNT : Fld := ⟨8 * (0x90) + 40, 8, 0x08⟩

/-- R468 SLV_TEST_STS [7:0] STATUS RO. Last TEST result -/
def SLV_TEST_STS_STATUS : Fld := ⟨8 * (0x98) + 0, 8, 0⟩

/-- R468 SLV_TEST_STS [15:8] TEST RO. Test -/
def SLV_TEST_STS_TEST : Fld := ⟨8 * (0x98) + 8, 8, 0⟩

/-- R468 SLV_TEST_STS [31:16] UNIT RO. Unit -/
def SLV_TEST_STS_UNIT : Fld := ⟨8 * (0x98) + 16, 16, 0⟩

/-- R468 SLV_ERR [0:0] CMD_LOST W1C. R461 -/
def SLV_ERR_CMD_LOST : Fld := ⟨8 * (0xA0) + 0, 1, 0⟩

/-- R468 SLV_ERR [1:1] LOCKSTEP W1C. R431 -/
def SLV_ERR_LOCKSTEP : Fld := ⟨8 * (0xA0) + 1, 1, 0⟩

/-- R468 SLV_ERR [2:2] IDENTITY W1C. R457 -/
def SLV_ERR_IDENTITY : Fld := ⟨8 * (0xA0) + 2, 1, 0⟩

/-- R468 SLV_BENCH_LOOM [31:0] MAP RO. Bit j: loom 32i + j benched, i = 0–4; word 4 uses bits [15:0] Reset: Flash. -/
def SLV_BENCH_LOOM_MAP (i : Nat) : Fld := ⟨8 * (0x100 + 4 * i) + 0, 32, 0⟩

/-- R468 SLV_BENCH_UNIT [11:0] STACK RO. Bit s: stack s benched Reset: Flash. -/
def SLV_BENCH_UNIT_STACK : Fld := ⟨8 * (0x118) + 0, 12, 0⟩

/-- R468 SLV_BENCH_UNIT [21:16] PORT RO. Bit p: port p benched Reset: Flash. -/
def SLV_BENCH_UNIT_PORT : Fld := ⟨8 * (0x118) + 16, 6, 0⟩

/-- R468 SLV_BENCH_CH [15:0] CHANNEL RO. Bit c: channel c benched Reset: Flash. -/
def SLV_BENCH_CH_CHANNEL : Fld := ⟨8 * (0x11C) + 0, 16, 0⟩

/-- R468 SLV_TEMP [15:0] DEG RO. Signed, 1/16 °C, i = 0–75 (R433) -/
def SLV_TEMP_DEG (i : Nat) : Fld := ⟨8 * (0x200 + 4 * i) + 0, 16, 0⟩

/-- R468 SLV_RAIL [15:0] MV RO. Rail voltage in mV, r = 0–15 -/
def SLV_RAIL_MV (i : Nat) : Fld := ⟨8 * (0x400 + 4 * i) + 0, 16, 0⟩

/-- R468 SLV_ICORE [15:0] A RO. VDD_CORE current in A: k = 0 L0, 1 L1, 2 hub -/
def SLV_ICORE_A (i : Nat) : Fld := ⟨8 * (0x480 + 4 * i) + 0, 16, 0⟩

/-- R469 SEC_ID [3:0] ARCH_LEVEL RO. Architecture level (R8) -/
def SEC_ID_ARCH_LEVEL : Fld := ⟨8 * (0x100000) + 0, 4, 0x2⟩

/-- R469 SEC_ID [18:8] SLOTS RO. Key slots -/
def SEC_ID_SLOTS : Fld := ⟨8 * (0x100000) + 8, 11, 0x400⟩

/-- R469 SEC_LIFECYCLE [1:0] STATE RO. 1 PROVISION, 2 OWNED Reset: Fuses. -/
def SEC_LIFECYCLE_STATE : Fld := ⟨8 * (0x100008) + 0, 2, 1⟩

/-- R469 SEC_SERIAL [63:0] SERIAL RO. Chip serial Reset: Fuses. -/
def SEC_SERIAL_SERIAL : Fld := ⟨8 * (0x100010) + 0, 64, 0⟩

/-- R469 SEC_FUSE_CNT [7:0] INGOT_SVN RO. Counter values (R436) Reset: Fuses. -/
def SEC_FUSE_CNT_INGOT_SVN : Fld := ⟨8 * (0x100018) + 0, 8, 0⟩

/-- R469 SEC_FUSE_CNT [15:8] CARD_SVN RO.  Reset: Fuses. -/
def SEC_FUSE_CNT_CARD_SVN : Fld := ⟨8 * (0x100018) + 8, 8, 0⟩

/-- R469 SEC_FUSE_CNT [23:16] KEY_SVN_MIO RO.  Reset: Fuses. -/
def SEC_FUSE_CNT_KEY_SVN_MIO : Fld := ⟨8 * (0x100018) + 16, 8, 0⟩

/-- R469 SEC_FUSE_CNT [31:24] KEY_SVN_OWN RO.  Reset: Fuses. -/
def SEC_FUSE_CNT_KEY_SVN_OWN : Fld := ⟨8 * (0x100018) + 24, 8, 0⟩

/-- R469 SEC_CNT_VERIFY [63:0] N RO. Verifications; wraps -/
def SEC_CNT_VERIFY_N : Fld := ⟨8 * (0x100020) + 0, 64, 0⟩

/-- R469 SEC_CNT_VFAIL [63:0] N RO. Verifications refused; wraps -/
def SEC_CNT_VFAIL_N : Fld := ⟨8 * (0x100028) + 0, 64, 0⟩

/-- R469 SEC_CNT_SIGN [63:0] N RO. Signature pairs made; wraps -/
def SEC_CNT_SIGN_N : Fld := ⟨8 * (0x100030) + 0, 64, 0⟩

/-- R469 SEC_SIGN_QUEUE [3:0] PENDING RO. Signature pairs queued (R460) -/
def SEC_SIGN_QUEUE_PENDING : Fld := ⟨8 * (0x100038) + 0, 4, 0⟩

/-- R469 SEC_ROOT [383:0] DIGEST RO. k = 0 MIO_RSA_ROOT, 1 MIO_SLH_FW, 2 MIO_SLH_ID, 3 OWN_RSA_ROOT, 4 OWN_SLH Reset: Fuses. -/
def SEC_ROOT_DIGEST (i : Nat) : Fld := ⟨8 * (0x100400 + 64 * i) + 0, 384, 0⟩

/-- R493 LDG_ID [3:0] ARCH_LEVEL RO. Architecture level (R8) -/
def LDG_ID_ARCH_LEVEL : Fld := ⟨8 * (0x210000) + 0, 4, 0x2⟩

/-- R493 LDG_ID [20:8] TOTAL RO. 6,400 credits -/
def LDG_ID_TOTAL : Fld := ⟨8 * (0x210000) + 8, 13, 0x1900⟩

/-- R493 LDG_CTL [0:0] CNT_CLR WO. Writing 1 clears LDG_CNT_GRANT and LDG_CNT_WAIT -/
def LDG_CTL_CNT_CLR : Fld := ⟨8 * (0x210008) + 0, 1, 0⟩

/-- R493 LDG_STATUS [12:0] OUTSTANDING RO. Credits granted and not returned -/
def LDG_STATUS_OUTSTANDING : Fld := ⟨8 * (0x210010) + 0, 13, 0⟩

/-- R493 LDG_STATUS [28:16] FREE RO. Pool less outstanding -/
def LDG_STATUS_FREE : Fld := ⟨8 * (0x210010) + 16, 13, 0⟩

/-- R493 LDG_BUDGET [12:0] BUDGET RO. Set by Temper (R480) -/
def LDG_BUDGET_BUDGET : Fld := ⟨8 * (0x210018) + 0, 13, 0x1900⟩

/-- R493 LDG_BUDGET_MIN [12:0] MIN RW. R478 -/
def LDG_BUDGET_MIN_MIN : Fld := ⟨8 * (0x21001C) + 0, 13, 0x12C0⟩

/-- R493 LDG_BUDGET_MIN [28:16] EFFECTIVE RO. Effective minimum -/
def LDG_BUDGET_MIN_EFFECTIVE : Fld := ⟨8 * (0x21001C) + 16, 13, 0x12C0⟩

/-- R493 LDG_RESERVE [12:0] RESERVE RO. From the Card image (R418) -/
def LDG_RESERVE_RESERVE : Fld := ⟨8 * (0x210020) + 0, 13, 0⟩

/-- R493 LDG_POOL_FLOOR [12:0] POOL RO. R478 -/
def LDG_POOL_FLOOR_POOL : Fld := ⟨8 * (0x210024) + 0, 13, 0⟩

/-- R493 LDG_HEAD [7:0] LOOM RO. Loom at the head of the order -/
def LDG_HEAD_LOOM : Fld := ⟨8 * (0x210028) + 0, 8, 0⟩

/-- R493 LDG_HEAD [8:8] VALID RO. A request waits -/
def LDG_HEAD_VALID : Fld := ⟨8 * (0x210028) + 8, 1, 0⟩

/-- R493 LDG_HEAD [21:9] REQ RO. Its credits -/
def LDG_HEAD_REQ : Fld := ⟨8 * (0x210028) + 9, 13, 0⟩

/-- R493 LDG_CNT_GRANT [63:0] N RO. Grants of nonzero requests; a request of 0 credits, granted at once under R476, is not counted; wraps -/
def LDG_CNT_GRANT_N : Fld := ⟨8 * (0x210030) + 0, 64, 0⟩

/-- R493 LDG_CNT_WAIT [63:0] N RO. NoC cycles with a request waiting; wraps -/
def LDG_CNT_WAIT_N : Fld := ⟨8 * (0x210038) + 0, 64, 0⟩

/-- R493 LDG_ERR [0:0] OVERSIZE W1C. R477 -/
def LDG_ERR_OVERSIZE : Fld := ⟨8 * (0x210040) + 0, 1, 0⟩

/-- R493 LDG_COST [7:0] CREDITS RO. LMODE bit b, k = 0 Warp, 1 Weft Reset: Per R475. -/
def LDG_COST_CREDITS (i : Nat) : Fld := ⟨8 * (0x210100 + 4 * i) + 0, 8, ldgCost i⟩

/-- R493 LDG_CREDIT [12:0] HELD RO. Credits held by loom n -/
def LDG_CREDIT_HELD (i : Nat) : Fld := ⟨8 * (0x210200 + 4 * i) + 0, 13, 0⟩

/-- R494 TMP_ID [3:0] ARCH_LEVEL RO. Architecture level (R8) -/
def TMP_ID_ARCH_LEVEL : Fld := ⟨8 * (0x220000) + 0, 4, 0x2⟩

/-- R494 TMP_CTL [0:0] EN RW. 0: Temper holds every CAP and CUT; R483 still acts -/
def TMP_CTL_EN : Fld := ⟨8 * (0x220008) + 0, 1, 1⟩

/-- R494 TMP_THR [7:0] DIE_HI RW. °C (R479) -/
def TMP_THR_DIE_HI : Fld := ⟨8 * (0x220010) + 0, 8, 0x64⟩

/-- R494 TMP_THR [15:8] HBM_HI RW. °C -/
def TMP_THR_HBM_HI : Fld := ⟨8 * (0x220010) + 8, 8, 0x5F⟩

/-- R494 TMP_THR [19:16] HYST RW. °C -/
def TMP_THR_HYST : Fld := ⟨8 * (0x220010) + 16, 4, 0x5⟩

/-- R494 TMP_STEP [7:0] STEP_MHZ RW. MHz, a multiple of 25; others read as 50 -/
def TMP_STEP_STEP_MHZ : Fld := ⟨8 * (0x220018) + 0, 8, 0x32⟩

/-- R494 TMP_STEP [19:8] STEP_CR RW. Credits -/
def TMP_STEP_STEP_CR : Fld := ⟨8 * (0x220018) + 8, 12, 0x0A0⟩

/-- R494 TMP_STEP [31:24] EMERG_MS RW. Periods; 0 reads as 1 -/
def TMP_STEP_EMERG_MS : Fld := ⟨8 * (0x220018) + 24, 8, 0x0A⟩

/-- R494 TMP_ICORE_LIM [11:0] A RW. R479 -/
def TMP_ICORE_LIM_A : Fld := ⟨8 * (0x22001C) + 0, 12, 0x640⟩

/-- R494 TMP_DIE [11:0] CAP RO. CAP[d], d = 0 L0, 1 L1 -/
def TMP_DIE_CAP (i : Nat) : Fld := ⟨8 * (0x220020 + 8 * i) + 0, 12, 0x73A⟩

/-- R494 TMP_DIE [24:12] CUT RO. CUT[d] -/
def TMP_DIE_CUT (i : Nat) : Fld := ⟨8 * (0x220020 + 8 * i) + 12, 13, 0⟩

/-- R494 TMP_DIE [25:25] HOT RO. Last classification -/
def TMP_DIE_HOT (i : Nat) : Fld := ⟨8 * (0x220020 + 8 * i) + 25, 1, 0⟩

/-- R494 TMP_DIE [26:26] BELOW_FLOOR RO. R481 -/
def TMP_DIE_BELOW_FLOOR (i : Nat) : Fld := ⟨8 * (0x220020 + 8 * i) + 26, 1, 0⟩

/-- R494 TMP_DIE [27:27] TRIP RO. R483 -/
def TMP_DIE_TRIP (i : Nat) : Fld := ⟨8 * (0x220020 + 8 * i) + 27, 1, 0⟩

/-- R494 TMP_CORE_CAP [11:0] MHZ RO. R482 -/
def TMP_CORE_CAP_MHZ : Fld := ⟨8 * (0x220030) + 0, 12, 0xBB8⟩

/-- R494 TMP_FLOOR [11:0] MHZ RO. F in use -/
def TMP_FLOOR_MHZ : Fld := ⟨8 * (0x220038) + 0, 12, 0x5DC⟩

/-- R494 TMP_CNT_BELOW_MS [63:0] N RO. R481; wraps -/
def TMP_CNT_BELOW_MS_N : Fld := ⟨8 * (0x220040) + 0, 64, 0⟩

/-- R494 TMP_CNT_TRIP [31:0] N RO. R483; holds -/
def TMP_CNT_TRIP_N : Fld := ⟨8 * (0x220048) + 0, 32, 0⟩

/-- R494 TMP_ERR [0:0] BELOW_FLOOR W1C. R481 -/
def TMP_ERR_BELOW_FLOOR : Fld := ⟨8 * (0x220050) + 0, 1, 0⟩

/-- R494 TMP_ERR [1:1] TRIP W1C. R483 -/
def TMP_ERR_TRIP : Fld := ⟨8 * (0x220050) + 1, 1, 0⟩

/-- R495 PWR_ID [3:0] ARCH_LEVEL RO. Architecture level (R8) -/
def PWR_ID_ARCH_LEVEL : Fld := ⟨8 * (0x200000) + 0, 4, 0x2⟩

/-- R495 PWR_CTL [0:0] STANDBY WO. R488 -/
def PWR_CTL_STANDBY : Fld := ⟨8 * (0x200008) + 0, 1, 0⟩

/-- R495 PWR_CTL [1:1] POLICY RO. 0 TIMER, 1 VOTE (R418) -/
def PWR_CTL_POLICY : Fld := ⟨8 * (0x200008) + 1, 1, 0⟩

/-- R495 PWR_IDLE_US [31:0] US RO. From the Card image -/
def PWR_IDLE_US_US : Fld := ⟨8 * (0x20000C) + 0, 32, 0⟩

/-- R495 PWR_STATUS [2:0] WAKE_SRC RO. R489; 0: none since cold reset -/
def PWR_STATUS_WAKE_SRC : Fld := ⟨8 * (0x200010) + 0, 3, 0⟩

/-- R495 PWR_DVFS_CMD [7:0] LOOM WO. Loom -/
def PWR_DVFS_CMD_LOOM : Fld := ⟨8 * (0x200018) + 0, 8, 0⟩

/-- R495 PWR_DVFS_CMD [8:8] KIND WO. 0 FREQ, 1 VOLT -/
def PWR_DVFS_CMD_KIND : Fld := ⟨8 * (0x200018) + 8, 1, 0⟩

/-- R495 PWR_DVFS_CMD [23:12] VALUE WO. MHz or row -/
def PWR_DVFS_CMD_VALUE : Fld := ⟨8 * (0x200018) + 12, 12, 0⟩

/-- R495 PWR_DVFS_STS [2:0] STS RO. R473 -/
def PWR_DVFS_STS_STS : Fld := ⟨8 * (0x20001C) + 0, 3, 0⟩

/-- R495 PWR_DVFS_STS [15:8] LOOM RO. Loom of that command -/
def PWR_DVFS_STS_LOOM : Fld := ⟨8 * (0x20001C) + 8, 8, 0⟩

/-- R495 PWR_WAKE_TX [5:0] PORTS WO. R490 -/
def PWR_WAKE_TX_PORTS : Fld := ⟨8 * (0x200020) + 0, 6, 0⟩

/-- R495 PWR_CNT_WAKE [63:0] N RO. Wake patterns received; wraps -/
def PWR_CNT_WAKE_N : Fld := ⟨8 * (0x200028) + 0, 64, 0⟩

/-- R495 PWR_CNT_BROWNOUT [31:0] N RO. R492; holds -/
def PWR_CNT_BROWNOUT_N : Fld := ⟨8 * (0x200030) + 0, 32, 0⟩

/-- R495 PWR_ERR [0:0] STBY_REFUSED W1C. R488 -/
def PWR_ERR_STBY_REFUSED : Fld := ⟨8 * (0x200038) + 0, 1, 0⟩

/-- R495 PWR_ERR [1:1] BROWNOUT W1C. R492 -/
def PWR_ERR_BROWNOUT : Fld := ⟨8 * (0x200038) + 1, 1, 0⟩

/-- R495 PWR_DOM [2:0] STATE RO. 0 OFF, 1 LOW, 2 WAKING, 3 ON, 4 ENTERING; d = 0–163 -/
def PWR_DOM_STATE (i : Nat) : Fld := ⟨8 * (0x200100 + 4 * i) + 0, 3, 0⟩

/-- R495 PWR_DOM [23:16] HWVOTES RO. Vote bits 0–7 (R486) -/
def PWR_DOM_HWVOTES (i : Nat) : Fld := ⟨8 * (0x200100 + 4 * i) + 16, 8, 0⟩

/-- R495 PWR_DOM [31:24] SWVOTES RW. Vote bits 8–15 -/
def PWR_DOM_SWVOTES (i : Nat) : Fld := ⟨8 * (0x200100 + 4 * i) + 24, 8, 0⟩

/-- R495 PWR_LOOM_OPP [11:0] F_MHZ RO. Clock of loom n -/
def PWR_LOOM_OPP_F_MHZ (i : Nat) : Fld := ⟨8 * (0x200400 + 4 * i) + 0, 12, 0x384⟩

/-- R495 PWR_LOOM_OPP [14:12] ROW RO. Row -/
def PWR_LOOM_OPP_ROW (i : Nat) : Fld := ⟨8 * (0x200400 + 4 * i) + 12, 3, 0⟩

/-- R495 PWR_LOOM_OPP [15:15] SLEWING RO. Voltage slewing -/
def PWR_LOOM_OPP_SLEWING (i : Nat) : Fld := ⟨8 * (0x200400 + 4 * i) + 15, 1, 0⟩

/-- R495 PWR_LOOM_OPP [27:16] PEND_MHZ RO. Pending clock -/
def PWR_LOOM_OPP_PEND_MHZ (i : Nat) : Fld := ⟨8 * (0x200400 + 4 * i) + 16, 12, 0⟩

/-- R495 PWR_LOOM_OPP [28:28] PEND RO. A command waits (R474) -/
def PWR_LOOM_OPP_PEND (i : Nat) : Fld := ⟨8 * (0x200400 + 4 * i) + 28, 1, 0⟩

/-- R516 SLV_RST_CTL [1:0] KIND WO. 1 WARM, 2 FUNCTION, 3 LOOM; 0 ignored -/
def SLV_RST_CTL_KIND : Fld := ⟨8 * (0x500) + 0, 2, 0⟩

/-- R516 SLV_RST_CTL [15:8] LOOM WO. Loom of a LOOM reset -/
def SLV_RST_CTL_LOOM : Fld := ⟨8 * (0x500) + 8, 8, 0⟩

/-- R516 SLV_RST_BOLTS [63:0] MASK RW. Bit b: bolt b in a FUNCTION reset -/
def SLV_RST_BOLTS_MASK : Fld := ⟨8 * (0x508) + 0, 64, 0⟩

/-- R516 SLV_RST_STS [0:0] BUSY RO. A reset is under way -/
def SLV_RST_STS_BUSY : Fld := ⟨8 * (0x510) + 0, 1, 0⟩

/-- R516 SLV_RST_STS [3:1] LAST RWS. Last reset since cold: 0 none, 1 warm, 2 function, 3 loom, 4 Selvedge -/
def SLV_RST_STS_LAST : Fld := ⟨8 * (0x510) + 1, 3, 0⟩

/-- R516 SLV_RST_STS [7:4] STATUS RO. 0 OK, 1 STATE, 2 IN_PROGRESS (R501, R504) -/
def SLV_RST_STS_STATUS : Fld := ⟨8 * (0x510) + 4, 4, 0⟩

/-- R516 SLV_RST_STS [23:8] WARM_CNT RWS. Warm resets since cold reset; holds -/
def SLV_RST_STS_WARM_CNT : Fld := ⟨8 * (0x510) + 8, 16, 0⟩

/-- R516 SLV_ERQ_BASE [63:0] ADDR RW. Local address of the ring, 64-byte aligned -/
def SLV_ERQ_BASE_ADDR : Fld := ⟨8 * (0x520) + 0, 64, 0⟩

/-- R516 SLV_ERQ_SIZE [13:0] ENTRIES RW. Power of two, 64–8,192; other values disable the ring -/
def SLV_ERQ_SIZE_ENTRIES : Fld := ⟨8 * (0x528) + 0, 14, 0⟩

/-- R516 SLV_ERQ_HEAD [12:0] HEAD RW. Next entry the runtime reads -/
def SLV_ERQ_HEAD_HEAD : Fld := ⟨8 * (0x52C) + 0, 13, 0⟩

/-- R516 SLV_ERQ_TAIL [12:0] TAIL RO. Next entry Selvedge writes -/
def SLV_ERQ_TAIL_TAIL : Fld := ⟨8 * (0x530) + 0, 13, 0⟩

/-- R516 SLV_ERQ_CTL [2:0] MIN_SEV RW. Lowest SEV copied (R515) -/
def SLV_ERQ_CTL_MIN_SEV : Fld := ⟨8 * (0x534) + 0, 3, 0x2⟩

/-- R516 SLV_ERQ_DROP [31:0] N RWS. R515; holds -/
def SLV_ERQ_DROP_N : Fld := ⟨8 * (0x538) + 0, 32, 0⟩

end Sys2Proof.Machine
end

