-- ==== Sys2Proof/Machine/RegMap.lean ====
section
/-! DEFINITION. The register map (R28, R34): every register of every block with its place, its size in bytes, and its
fields with their access types (R10). A byte at a place that no row covers holds no register (R535). -/
namespace Sys2Proof.Machine

/-- Registers of the loom blocks, part 0. -/
def regMapLoom0 : List RegShape := [
  ⟨"ARR_ID", 0x80F10000, 0x1000000, 144, 0, 1, 4, fun n _ => [(ARR_ID_ARCH_LEVEL n, .ro), (ARR_ID_KIND n, .ro), (ARR_ID_BLOCK_GROUPS n, .ro), (ARR_ID_COLUMNS n, .ro)]⟩,
  ⟨"ARR_STATUS", 0x80F10010, 0x1000000, 144, 0, 1, 4, fun n _ => [(ARR_STATUS_BUSY n, .ro), (ARR_STATUS_WBUF n, .ro), (ARR_STATUS_WBUF0_VALID n, .ro), (ARR_STATUS_WBUF1_VALID n, .ro),
      (ARR_STATUS_REDUCE n, .ro), (ARR_STATUS_MODE8 n, .ro)]⟩,
  ⟨"ARR_CNT_TILES", 0x80F10018, 0x1000000, 144, 0, 1, 8, fun n _ => [(ARR_CNT_TILES_TILES n, .ro)]⟩,
  ⟨"ARR_CNT_ROWCYC", 0x80F10020, 0x1000000, 144, 0, 1, 8, fun n _ => [(ARR_CNT_ROWCYC_ROWCYC n, .ro)]⟩,
  ⟨"ARR_CNT_MAC", 0x80F10028, 0x1000000, 144, 0, 1, 8, fun n _ => [(ARR_CNT_MAC_MAC n, .ro)]⟩,
  ⟨"ARR_ERR", 0x80F10030, 0x1000000, 144, 0, 1, 4, fun n _ => [(ARR_ERR_FMT_REFUSED n, .w1c), (ARR_ERR_WBUF_EMPTY n, .w1c), (ARR_ERR_SCALE_NAN n, .w1c)]⟩,
  ⟨"ACC_ID", 0x80F20000, 0x1000000, 144, 0, 1, 4, fun n _ => [(ACC_ID_ARCH_LEVEL n, .ro), (ACC_ID_ROWS n, .ro), (ACC_ID_SETS n, .ro)]⟩,
  ⟨"ACC_CTL", 0x80F20008, 0x1000000, 144, 0, 1, 4, fun n _ => [(ACC_CTL_VIEW_SET n, .rw), (ACC_CTL_CNT_CLR n, .wo)]⟩,
  ⟨"ACC_STATUS", 0x80F20010, 0x1000000, 144, 0, 1, 4, fun n _ => [(ACC_STATUS_ACTIVE_SET n, .ro), (ACC_STATUS_DRAIN_BUSY n, .ro), (ACC_STATUS_IN_FLIGHT n, .ro), (ACC_STATUS_COMPAT n, .ro),
      (ACC_STATUS_SAT_ANY n, .w1c)]⟩,
  ⟨"ACC_CNT_SAT", 0x80F20020, 0x1000000, 144, 0, 1, 8, fun n _ => [(ACC_CNT_SAT_SAT n, .ro)]⟩,
  ⟨"ACC_CNT_ZERO", 0x80F20028, 0x1000000, 144, 0, 1, 8, fun n _ => [(ACC_CNT_ZERO_ZERO n, .ro)]⟩,
  ⟨"ACC_ERR", 0x80F20030, 0x1000000, 144, 0, 1, 4, fun n _ => [(ACC_ERR_SWAP_EARLY n, .w1c), (ACC_ERR_ROW_RANGE n, .w1c), (ACC_ERR_PSUM_RANGE n, .w1c)]⟩,
  ⟨"ACC_WIN0", 0x80F21000, 0x1000000, 144, 4, 512, 4, fun n i => [(ACC_WIN0_WIN n i, .rw)]⟩,
  ⟨"ACC_WIN1", 0x80F21800, 0x1000000, 144, 4, 512, 4, fun n i => [(ACC_WIN1_WIN n i, .rw)]⟩,
  ⟨"ACC_SAT_ROWS0", 0x80F22000, 0x1000000, 144, 4, 16, 4, fun n i => [(ACC_SAT_ROWS0_SAT n i, .w1c)]⟩,
  ⟨"ACC_SAT_ROWS1", 0x80F22040, 0x1000000, 144, 4, 16, 4, fun n i => [(ACC_SAT_ROWS1_SAT n i, .w1c)]⟩,
  ⟨"DMA_ID", 0x80F40000, 0x1000000, 144, 0, 1, 4, fun n _ => [(DMA_ID_ARCH_LEVEL n, .ro), (DMA_ID_LANES n, .ro), (DMA_ID_TBL_SLOTS n, .ro)]⟩,
  ⟨"DMA_STATUS", 0x80F40010, 0x1000000, 144, 0, 1, 4, fun n _ => [(DMA_STATUS_TILE_BUSY n, .ro), (DMA_STATUS_STREAM_BUSY n, .ro), (DMA_STATUS_STORE_BUSY n, .ro), (DMA_STATUS_TBL_VALID n, .ro)]⟩,
  ⟨"DMA_LOAD_STS", 0x80F40018, 0x1000000, 144, 0, 1, 4, fun n _ => [(DMA_LOAD_STS_STS n, .ro), (DMA_LOAD_STS_WBUF n, .ro), (DMA_LOAD_STS_FORM n, .ro), (DMA_LOAD_STS_DECODE_CYCLES n, .ro)]⟩,
  ⟨"DMA_TBL_STS", 0x80F40020, 0x1000000, 144, 0, 1, 4, fun n _ => [(DMA_TBL_STS_STS n, .ro)]⟩,
  ⟨"DMA_CNT_CODED", 0x80F40028, 0x1000000, 144, 0, 1, 8, fun n _ => [(DMA_CNT_CODED_CODED n, .ro)]⟩,
  ⟨"DMA_CNT_FB_SIZE", 0x80F40030, 0x1000000, 144, 0, 1, 8, fun n _ => [(DMA_CNT_FB_SIZE_FB_SIZE n, .ro)]⟩,
  ⟨"DMA_CNT_FB_CYCLES", 0x80F40038, 0x1000000, 144, 0, 1, 8, fun n _ => [(DMA_CNT_FB_CYCLES_FB_CYCLES n, .ro)]⟩,
  ⟨"DMA_CNT_SAVED", 0x80F40040, 0x1000000, 144, 0, 1, 8, fun n _ => [(DMA_CNT_SAVED_SAVED n, .ro)]⟩,
  ⟨"DMA_CNT_REFUSED", 0x80F40048, 0x1000000, 144, 0, 1, 8, fun n _ => [(DMA_CNT_REFUSED_REFUSED n, .ro)]⟩]

/-- Registers of the loom blocks, part 1. -/
def regMapLoom1 : List RegShape := [
  ⟨"DMA_ERR", 0x80F40050, 0x1000000, 144, 0, 1, 4, fun n _ => [(DMA_ERR_TBL_BUSY n, .w1c), (DMA_ERR_TBL_INVALID n, .w1c), (DMA_ERR_CODED_WRITE n, .w1c), (DMA_ERR_UNIT_REFUSED n, .w1c),
      (DMA_ERR_DESC n, .w1c)]⟩,
  ⟨"DMA_TBL_INFO", 0x80F40100, 0x1000000, 144, 8, 4, 4, fun n i => [(DMA_TBL_INFO_TAG n i, .ro), (DMA_TBL_INFO_ALPHABET n i, .ro)]⟩,
  ⟨"ATT_ID", 0x80F50000, 0x1000000, 144, 0, 1, 4, fun n _ => [(ATT_ID_ARCH_LEVEL n, .ro), (ATT_ID_RATE_64 n, .ro)]⟩,
  ⟨"ATT_STATUS", 0x80F50010, 0x1000000, 144, 0, 1, 4, fun n _ => [(ATT_STATUS_BUSY n, .ro), (ATT_STATUS_PHASE n, .ro), (ATT_STATUS_SCORED n, .ro), (ATT_STATUS_PV_DONE n, .ro)]⟩,
  ⟨"ATT_STS", 0x80F50018, 0x1000000, 144, 0, 1, 4, fun n _ => [(ATT_STS_STS n, .ro), (ATT_STS_PAGE n, .ro)]⟩,
  ⟨"ATT_CNT_OPS", 0x80F50020, 0x1000000, 144, 0, 1, 8, fun n _ => [(ATT_CNT_OPS_OPS n, .ro)]⟩,
  ⟨"ATT_CNT_EXCL", 0x80F50028, 0x1000000, 144, 0, 1, 8, fun n _ => [(ATT_CNT_EXCL_EXCL n, .ro)]⟩,
  ⟨"ATT_CNT_PZERO", 0x80F50030, 0x1000000, 144, 0, 1, 8, fun n _ => [(ATT_CNT_PZERO_PZERO n, .ro)]⟩,
  ⟨"ATT_CNT_REFUSED", 0x80F50038, 0x1000000, 144, 0, 1, 8, fun n _ => [(ATT_CNT_REFUSED_REFUSED n, .ro)]⟩,
  ⟨"ATT_ERR", 0x80F50040, 0x1000000, 144, 0, 1, 4, fun n _ => [(ATT_ERR_SHAPE n, .w1c), (ATT_ERR_SCALE_BAD n, .w1c), (ATT_ERR_ORDER n, .w1c)]⟩,
  ⟨"ATT_CORR", 0x80F50100, 0x1000000, 144, 4, 16, 4, fun n i => [(ATT_CORR_CORR n i, .ro)]⟩,
  ⟨"ATT_FRACQ", 0x80F50140, 0x1000000, 144, 4, 8, 4, fun n i => [(ATT_FRACQ_FRACQ n i, .ro)]⟩,
  ⟨"ATT_PT", 0x80F50200, 0x1000000, 144, 4, 64, 4, fun n i => [(ATT_PT_PT n i, .ro)]⟩,
  ⟨"BRZ_ID", 0x80F60000, 0x1000000, 144, 0, 1, 4, fun n _ => [(BRZ_ID_ARCH_LEVEL n, .ro), (BRZ_ID_FMA_BF16 n, .ro), (BRZ_ID_FMA_FP32 n, .ro)]⟩,
  ⟨"BRZ_STATUS", 0x80F60010, 0x1000000, 144, 0, 1, 4, fun n _ => [(BRZ_STATUS_BUSY n, .ro), (BRZ_STATUS_OP n, .ro), (BRZ_STATUS_OUTLIER n, .ro)]⟩,
  ⟨"BRZ_CNT_OPS", 0x80F60018, 0x1000000, 144, 0, 1, 8, fun n _ => [(BRZ_CNT_OPS_OPS n, .ro)]⟩,
  ⟨"BRZ_CNT_NAN", 0x80F60020, 0x1000000, 144, 0, 1, 8, fun n _ => [(BRZ_CNT_NAN_NAN n, .ro)]⟩,
  ⟨"BRZ_CNT_INF", 0x80F60028, 0x1000000, 144, 0, 1, 8, fun n _ => [(BRZ_CNT_INF_INF n, .ro)]⟩,
  ⟨"BRZ_CNT_OUTLIER", 0x80F60030, 0x1000000, 144, 0, 1, 8, fun n _ => [(BRZ_CNT_OUTLIER_OUTLIER n, .ro)]⟩,
  ⟨"BRZ_CNT_EMBED_OOR", 0x80F60038, 0x1000000, 144, 0, 1, 8, fun n _ => [(BRZ_CNT_EMBED_OOR_OOR n, .ro)]⟩,
  ⟨"BRZ_ERR", 0x80F60040, 0x1000000, 144, 0, 1, 4, fun n _ => [(BRZ_ERR_EMBED_OOR n, .w1c)]⟩,
  ⟨"GRD_ID", 0x80F80000, 0x1000000, 144, 0, 1, 4, fun n _ => [(GRD_ID_ARCH_LEVEL n, .ro), (GRD_ID_TSETS n, .ro)]⟩,
  ⟨"GRD_CTL", 0x80F80008, 0x1000000, 144, 0, 1, 4, fun n _ => [(GRD_CTL_EN n, .rw), (GRD_CTL_WIN_RAISE n, .rw), (GRD_CTL_WIN_LOWER n, .rw), (GRD_CTL_RECIPE_ON_REPLAY n, .rw),
      (GRD_CTL_CNT_CLR n, .wo)]⟩,
  ⟨"GRD_STATUS", 0x80F80010, 0x1000000, 144, 0, 1, 4, fun n _ => [(GRD_STATUS_MODE n, .ro), (GRD_STATUS_SPAN_OPEN n, .ro), (GRD_STATUS_LAYER n, .ro), (GRD_STATUS_TSET n, .ro)]⟩,
  ⟨"GRD_RECIPE", 0x80F80018, 0x1000000, 144, 0, 1, 4, fun n _ => [(GRD_RECIPE_FLAG n, .w1c)]⟩]

/-- Registers of the loom blocks, part 2. -/
def regMapLoom2 : List RegShape := [
  ⟨"GRD_THR", 0x80F80020, 0x1000000, 144, 8, 4, 8, fun n i => [(GRD_THR_THR_ASAT n i, .rw), (GRD_THR_THR_AZERO n i, .rw), (GRD_THR_THR_CSAT n i, .rw), (GRD_THR_THR_CZERO n i, .rw)]⟩,
  ⟨"GRD_CNT_ASAT", 0x80F80040, 0x1000000, 144, 0, 1, 4, fun n _ => [(GRD_CNT_ASAT_ASAT n, .ro)]⟩,
  ⟨"GRD_CNT_AZERO", 0x80F80044, 0x1000000, 144, 0, 1, 4, fun n _ => [(GRD_CNT_AZERO_AZERO n, .ro)]⟩,
  ⟨"GRD_CNT_AVALS", 0x80F80048, 0x1000000, 144, 0, 1, 4, fun n _ => [(GRD_CNT_AVALS_AVALS n, .ro)]⟩,
  ⟨"GRD_CNT_CSAT", 0x80F8004C, 0x1000000, 144, 0, 1, 4, fun n _ => [(GRD_CNT_CSAT_CSAT n, .ro)]⟩,
  ⟨"GRD_CNT_CZERO", 0x80F80050, 0x1000000, 144, 0, 1, 4, fun n _ => [(GRD_CNT_CZERO_CZERO n, .ro)]⟩,
  ⟨"GRD_CNT_CTERMS", 0x80F80054, 0x1000000, 144, 0, 1, 4, fun n _ => [(GRD_CNT_CTERMS_CTERMS n, .ro)]⟩,
  ⟨"GRD_LAST", 0x80F80060, 0x1000000, 144, 4, 6, 4, fun n i => [(GRD_LAST_LAST n i, .ro)]⟩,
  ⟨"GRD_LAST_VOTE", 0x80F80078, 0x1000000, 144, 0, 1, 4, fun n _ => [(GRD_LAST_VOTE_TESTS n, .ro), (GRD_LAST_VOTE_VERDICT n, .ro)]⟩,
  ⟨"GRD_STEP_CNT", 0x80F80080, 0x1000000, 144, 0, 1, 8, fun n _ => [(GRD_STEP_CNT_CHECKED n, .ro), (GRD_STEP_CNT_REPLAYED n, .ro), (GRD_STEP_CNT_FELL_BACK n, .ro)]⟩,
  ⟨"GRD_TOT_TRIPS", 0x80F80088, 0x1000000, 144, 0, 1, 8, fun n _ => [(GRD_TOT_TRIPS_TRIPS n, .ro)]⟩,
  ⟨"GRD_TOT_REPLAYS", 0x80F80090, 0x1000000, 144, 0, 1, 8, fun n _ => [(GRD_TOT_REPLAYS_REPLAYS n, .ro)]⟩,
  ⟨"GRD_TOT_FALLBACKS", 0x80F80098, 0x1000000, 144, 0, 1, 8, fun n _ => [(GRD_TOT_FALLBACKS_FALLBACKS n, .ro)]⟩,
  ⟨"GRD_TOT_ASAT", 0x80F800A0, 0x1000000, 144, 0, 1, 8, fun n _ => [(GRD_TOT_ASAT_ASAT n, .ro)]⟩,
  ⟨"GRD_TOT_CSAT", 0x80F800A8, 0x1000000, 144, 0, 1, 8, fun n _ => [(GRD_TOT_CSAT_CSAT n, .ro)]⟩,
  ⟨"GRD_ERR", 0x80F800B0, 0x1000000, 144, 0, 1, 4, fun n _ => [(GRD_ERR_NEST n, .w1c), (GRD_ERR_NONE n, .w1c), (GRD_ERR_XFER n, .w1c)]⟩,
  ⟨"GRD_STEP_REPLAY", 0x80F80100, 0x1000000, 144, 4, 8, 4, fun n i => [(GRD_STEP_REPLAY_MAP n i, .ro)]⟩,
  ⟨"GRD_STEP_FALLBACK", 0x80F80120, 0x1000000, 144, 4, 8, 4, fun n i => [(GRD_STEP_FALLBACK_MAP n i, .ro)]⟩,
  ⟨"GRD_RECIPE_LAYERS", 0x80F80140, 0x1000000, 144, 4, 8, 4, fun n i => [(GRD_RECIPE_LAYERS_MAP n i, .w1c)]⟩,
  ⟨"BOB_ID", 0x80F70000, 0x1000000, 144, 0, 1, 4, fun n _ => [(BOB_ID_ARCH_LEVEL n, .ro), (BOB_ID_LANES n, .ro), (BOB_ID_GENS n, .ro)]⟩,
  ⟨"BOB_STATUS", 0x80F70010, 0x1000000, 144, 0, 1, 4, fun n _ => [(BOB_STATUS_BUSY n, .ro), (BOB_STATUS_OP n, .ro), (BOB_STATUS_STAGE2 n, .ro)]⟩,
  ⟨"BOB_STS", 0x80F70018, 0x1000000, 144, 0, 1, 4, fun n _ => [(BOB_STS_STS n, .ro)]⟩,
  ⟨"BOB_CNT_OPS", 0x80F70020, 0x1000000, 144, 0, 1, 8, fun n _ => [(BOB_CNT_OPS_OPS n, .ro)]⟩,
  ⟨"BOB_CNT_CORR", 0x80F70028, 0x1000000, 144, 0, 1, 8, fun n _ => [(BOB_CNT_CORR_CORR n, .ro)]⟩,
  ⟨"BOB_CNT_SAT", 0x80F70030, 0x1000000, 144, 0, 1, 8, fun n _ => [(BOB_CNT_SAT_SAT n, .ro)]⟩]

/-- Registers of the loom blocks, part 3. -/
def regMapLoom3 : List RegShape := [
  ⟨"BOB_CNT_STREAM", 0x80F70038, 0x1000000, 144, 0, 1, 8, fun n _ => [(BOB_CNT_STREAM_STREAM n, .ro)]⟩,
  ⟨"BOB_ERR", 0x80F70040, 0x1000000, 144, 0, 1, 4, fun n _ => [(BOB_ERR_BUSY n, .w1c), (BOB_ERR_DESC n, .w1c), (BOB_ERR_CORRELATED n, .w1c), (BOB_ERR_POISON n, .w1c),
      (BOB_ERR_SCALE_NAN n, .w1c)]⟩,
  ⟨"BOB_POLY", 0x80F70100, 0x1000000, 144, 4, 64, 4, fun n i => [(BOB_POLY_POLY n i, .ro)]⟩,
  ⟨"BOB_STATE", 0x80F70200, 0x1000000, 144, 4, 64, 4, fun n i => [(BOB_STATE_STATE n i, .ro)]⟩,
  ⟨"LOOM_ID", 0x80F00000, 0x1000000, 144, 0, 1, 4, fun n _ => [(LOOM_ID_ARCH_LEVEL n, .ro), (LOOM_ID_KIND n, .ro), (LOOM_ID_LOOM n, .ro)]⟩,
  ⟨"LOOM_CTL", 0x80F00008, 0x1000000, 144, 0, 1, 4, fun n _ => [(LOOM_CTL_RUN n, .rw), (LOOM_CTL_CNT_CLR n, .wo)]⟩,
  ⟨"LOOM_STATUS", 0x80F00010, 0x1000000, 144, 0, 1, 4, fun n _ => [(LOOM_STATUS_RUN n, .ro), (LOOM_STATUS_IN_STEP n, .ro), (LOOM_STATUS_HOLD n, .ro), (LOOM_STATUS_HOLD_CAUSE n, .ro),
      (LOOM_STATUS_SLIP n, .ro), (LOOM_STATUS_FAULT n, .ro), (LOOM_STATUS_PEER_FAULT n, .ro), (LOOM_STATUS_BENCHED n, .ro)]⟩,
  ⟨"LOOM_PC", 0x80F00018, 0x1000000, 144, 0, 1, 4, fun n _ => [(LOOM_PC_PC n, .ro)]⟩,
  ⟨"LOOM_FAULT", 0x80F00020, 0x1000000, 144, 0, 1, 4, fun n _ => [(LOOM_FAULT_PC n, .ro), (LOOM_FAULT_UNIT n, .ro), (LOOM_FAULT_CAUSE n, .ro)]⟩,
  ⟨"LOOM_STEP", 0x80F00028, 0x1000000, 144, 0, 1, 4, fun n _ => [(LOOM_STEP_STEP n, .ro)]⟩,
  ⟨"LOOM_STEP_ACTUAL", 0x80F00030, 0x1000000, 144, 0, 1, 8, fun n _ => [(LOOM_STEP_ACTUAL_CYCLES n, .ro)]⟩,
  ⟨"LOOM_SLIP", 0x80F00038, 0x1000000, 144, 0, 1, 4, fun n _ => [(LOOM_SLIP_CYCLES n, .ro)]⟩,
  ⟨"LOOM_HOLD_CNT", 0x80F00040, 0x1000000, 144, 8, 5, 8, fun n i => [(LOOM_HOLD_CNT_EVENTS n i, .ro)]⟩,
  ⟨"LOOM_HOLD_CYC", 0x80F00068, 0x1000000, 144, 8, 5, 8, fun n i => [(LOOM_HOLD_CYC_CYCLES n i, .ro)]⟩,
  ⟨"LOOM_STEP_HOLD", 0x80F00090, 0x1000000, 144, 8, 5, 8, fun n i => [(LOOM_STEP_HOLD_CYCLES n i, .ro), (LOOM_STEP_HOLD_EVENTS n i, .ro)]⟩,
  ⟨"SPD_ID", 0x80F30000, 0x1000000, 144, 0, 1, 4, fun n _ => [(SPD_ID_ARCH_LEVEL n, .ro), (SPD_ID_BANKS n, .ro)]⟩,
  ⟨"SPD_STATUS", 0x80F30010, 0x1000000, 144, 0, 1, 4, fun n _ => [(SPD_STATUS_BENCH_REQ n, .ro)]⟩,
  ⟨"SPD_CNT_CONFLICT", 0x80F30018, 0x1000000, 144, 0, 1, 8, fun n _ => [(SPD_CNT_CONFLICT_EXTRA n, .ro)]⟩,
  ⟨"SPD_CONFLICT_LAST", 0x80F30020, 0x1000000, 144, 0, 1, 4, fun n _ => [(SPD_CONFLICT_LAST_BANK n, .ro), (SPD_CONFLICT_LAST_PORTS n, .ro), (SPD_CONFLICT_LAST_PC n, .ro)]⟩,
  ⟨"SPD_CNT_CORR", 0x80F30028, 0x1000000, 144, 0, 1, 8, fun n _ => [(SPD_CNT_CORR_CORR n, .ro)]⟩,
  ⟨"SPD_CNT_TRANSIENT", 0x80F30030, 0x1000000, 144, 0, 1, 8, fun n _ => [(SPD_CNT_TRANSIENT_TRANSIENT n, .ro)]⟩,
  ⟨"SPD_CNT_LASTING", 0x80F30038, 0x1000000, 144, 0, 1, 8, fun n _ => [(SPD_CNT_LASTING_LASTING n, .ro)]⟩,
  ⟨"SPD_CNT_UNCORR", 0x80F30040, 0x1000000, 144, 0, 1, 8, fun n _ => [(SPD_CNT_UNCORR_UNCORR n, .ro)]⟩,
  ⟨"SPD_CNT_POISON", 0x80F30048, 0x1000000, 144, 0, 1, 8, fun n _ => [(SPD_CNT_POISON_POISON n, .ro)]⟩,
  ⟨"SPD_CNT_NC_DEFER", 0x80F30050, 0x1000000, 144, 0, 1, 8, fun n _ => [(SPD_CNT_NC_DEFER_DEFER n, .ro)]⟩]

/-- Registers of the loom blocks, part 4. -/
def regMapLoom4 : List RegShape := [
  ⟨"SPD_SCRUB_CTL", 0x80F30058, 0x1000000, 144, 0, 1, 4, fun n _ => [(SPD_SCRUB_CTL_EN n, .rw)]⟩,
  ⟨"SPD_CNT_SCRUB_PASS", 0x80F30060, 0x1000000, 144, 0, 1, 8, fun n _ => [(SPD_CNT_SCRUB_PASS_PASSES n, .ro)]⟩,
  ⟨"SPD_LAST_THR", 0x80F30068, 0x1000000, 144, 0, 1, 4, fun n _ => [(SPD_LAST_THR_THR n, .rw)]⟩,
  ⟨"SPD_ERR", 0x80F30070, 0x1000000, 144, 0, 1, 4, fun n _ => [(SPD_ERR_CONFLICT n, .w1c), (SPD_ERR_UNCORR n, .w1c), (SPD_ERR_LASTING n, .w1c), (SPD_ERR_INWIN_DENY n, .w1c)]⟩,
  ⟨"SPD_ERR_ADDR", 0x80F30078, 0x1000000, 144, 0, 1, 4, fun n _ => [(SPD_ERR_ADDR_ADDR n, .ro)]⟩,
  ⟨"SPD_BANK_LASTING", 0x80F30100, 0x1000000, 144, 4, 48, 4, fun n i => [(SPD_BANK_LASTING_COUNT n i, .ro)]⟩,
  ⟨"SPD_INWIN", 0x80F30200, 0x1000000, 144, 8, 8, 8, fun n i => [(SPD_INWIN_BASE_4K n i, .ro), (SPD_INWIN_SIZE_4K n i, .ro), (SPD_INWIN_RD n i, .ro), (SPD_INWIN_WR n i, .ro),
      (SPD_INWIN_SRC n i, .ro), (SPD_INWIN_TENANT n i, .ro), (SPD_INWIN_ANY_TENANT n i, .ro)]⟩,
  ⟨"SHT_ID", 0x80F90000, 0x1000000, 144, 0, 1, 4, fun n _ => [(SHT_ID_ARCH_LEVEL n, .ro), (SHT_ID_QUEUES n, .ro), (SHT_ID_CREGS n, .ro)]⟩,
  ⟨"SHT_AUD_CTL", 0x80F90008, 0x1000000, 144, 0, 1, 4, fun n _ => [(SHT_AUD_CTL_AUD_LOG2DIV n, .rw), (SHT_AUD_CTL_AUD_THR n, .rw)]⟩,
  ⟨"SHT_AUD_WIN", 0x80F90010, 0x1000000, 144, 0, 1, 4, fun n _ => [(SHT_AUD_WIN_PAIRS n, .rw)]⟩,
  ⟨"SHT_STATUS", 0x80F90018, 0x1000000, 144, 0, 1, 4, fun n _ => [(SHT_STATUS_BUSY n, .ro), (SHT_STATUS_OP n, .ro)]⟩,
  ⟨"SHT_CNT_ROUTED", 0x80F90028, 0x1000000, 144, 0, 1, 8, fun n _ => [(SHT_CNT_ROUTED_ROUTED n, .ro)]⟩,
  ⟨"SHT_CNT_DROPPED", 0x80F90030, 0x1000000, 144, 0, 1, 8, fun n _ => [(SHT_CNT_DROPPED_DROPPED n, .ro)]⟩,
  ⟨"SHT_CNT_OVF_CLAIM", 0x80F90038, 0x1000000, 144, 0, 1, 8, fun n _ => [(SHT_CNT_OVF_CLAIM_CLAIMED n, .ro)]⟩,
  ⟨"SHT_CNT_OVF_FULL", 0x80F90040, 0x1000000, 144, 0, 1, 8, fun n _ => [(SHT_CNT_OVF_FULL_FULL n, .ro)]⟩,
  ⟨"SHT_CNT_NAN", 0x80F90048, 0x1000000, 144, 0, 1, 8, fun n _ => [(SHT_CNT_NAN_NAN n, .ro)]⟩,
  ⟨"SHT_CNT_LANDED", 0x80F90050, 0x1000000, 144, 0, 1, 8, fun n _ => [(SHT_CNT_LANDED_LANDED n, .ro)]⟩,
  ⟨"SHT_CNT_LAND_BAD", 0x80F90058, 0x1000000, 144, 0, 1, 8, fun n _ => [(SHT_CNT_LAND_BAD_BAD n, .ro)]⟩,
  ⟨"SHT_CNT_TALLY_BAD", 0x80F90060, 0x1000000, 144, 0, 1, 8, fun n _ => [(SHT_CNT_TALLY_BAD_BAD n, .ro)]⟩,
  ⟨"SHT_CNT_EXIT", 0x80F90068, 0x1000000, 144, 0, 1, 8, fun n _ => [(SHT_CNT_EXIT_EXITS n, .ro)]⟩,
  ⟨"SHT_CNT_EXIT_FULL", 0x80F90070, 0x1000000, 144, 0, 1, 8, fun n _ => [(SHT_CNT_EXIT_FULL_FULL n, .ro)]⟩,
  ⟨"SHT_CNT_FILL_STALE", 0x80F90078, 0x1000000, 144, 0, 1, 8, fun n _ => [(SHT_CNT_FILL_STALE_STALE n, .ro)]⟩,
  ⟨"SHT_AUD_PAIRS", 0x80F900C0, 0x1000000, 144, 0, 1, 4, fun n _ => [(SHT_AUD_PAIRS_PAIRS n, .ro)]⟩,
  ⟨"SHT_AUD_MISS", 0x80F900C4, 0x1000000, 144, 0, 1, 4, fun n _ => [(SHT_AUD_MISS_MISS n, .ro)]⟩,
  ⟨"SHT_AUD_LAST", 0x80F900C8, 0x1000000, 144, 0, 1, 8, fun n _ => [(SHT_AUD_LAST_PAIRS n, .ro), (SHT_AUD_LAST_MISS n, .ro)]⟩]

/-- Registers of the loom blocks, part 5. -/
def regMapLoom5 : List RegShape := [
  ⟨"SHT_FLAGS", 0x80F900E0, 0x1000000, 144, 0, 1, 4, fun n _ => [(SHT_FLAGS_PRED n, .w1c), (SHT_FLAGS_NAN_SCORE n, .w1c)]⟩,
  ⟨"SHT_ERR", 0x80F900E8, 0x1000000, 144, 0, 1, 4, fun n _ => [(SHT_ERR_RANGE n, .w1c), (SHT_ERR_LAND n, .w1c), (SHT_ERR_TALLY n, .w1c)]⟩,
  ⟨"SHT_CREG", 0x80F90100, 0x1000000, 144, 4, 32, 4, fun n i => [(SHT_CREG_COUNT n i, .ro)]⟩,
  ⟨"SHT_EXM", 0x80F90180, 0x1000000, 144, 4, 16, 4, fun n i => [(SHT_EXM_EXM n i, .ro)]⟩,
  ⟨"SHT_QSTATE", 0x80F90200, 0x1000000, 144, 8, 224, 8, fun n i => [(SHT_QSTATE_LANDED n i, .ro), (SHT_QSTATE_TSUM n i, .ro), (SHT_QSTATE_TCNT n i, .ro), (SHT_QSTATE_DONE n i, .ro),
      (SHT_QSTATE_OVF_CNT n i, .ro)]⟩,
  ⟨"SHT_QUEUE", 0x80F91000, 0x1000000, 144, 16, 224, 16, fun n i => [(SHT_QUEUE_QBASE n i, .ro), (SHT_QUEUE_CAP n i, .ro), (SHT_QUEUE_NSRC n i, .ro), (SHT_QUEUE_SRC_BASE n i, .ro),
      (SHT_QUEUE_VALID n i, .ro), (SHT_QUEUE_OVF0 n i, .ro), (SHT_QUEUE_OVF_N n i, .ro), (SHT_QUEUE_RSZ_64 n i, .ro)]⟩,
  ⟨"SHT_EMAP", 0x80F94000, 0x1000000, 144, 8, 2048, 8, fun n i => [(SHT_EMAP_CHIP n i, .ro), (SHT_EMAP_LOOM n i, .ro), (SHT_EMAP_QUEUE n i, .ro), (SHT_EMAP_REPL_M1 n i, .ro),
      (SHT_EMAP_SRC n i, .ro), (SHT_EMAP_SLOT0 n i, .ro), (SHT_EMAP_QUOTA n i, .ro), (SHT_EMAP_VALID n i, .ro)]⟩,
  ⟨"SHT_SRC", 0x80F98000, 0x1000000, 144, 16, 2048, 16, fun n i => [(SHT_SRC_CHIP n i, .ro), (SHT_SRC_LOOM n i, .ro), (SHT_SRC_RQUEUE n i, .ro), (SHT_SRC_RSRC n i, .ro),
      (SHT_SRC_RET_BASE n i, .ro), (SHT_SRC_RET_STRIDE_64 n i, .ro), (SHT_SRC_SLOT0 n i, .ro), (SHT_SRC_QUOTA n i, .ro)]⟩]

/-- Registers of the hub blocks, part 0. -/
def regMapHub0 : List RegShape := [
  ⟨"SVC_ID", 0x1000000, 0x0, 1, 0, 1, 4, fun _ _ => [(SVC_ID_ARCH_LEVEL, .ro), (SVC_ID_SLOTS, .ro), (SVC_ID_BOLTS, .ro)]⟩,
  ⟨"SVC_CTL", 0x1000008, 0x0, 1, 0, 1, 4, fun _ _ => [(SVC_CTL_ADMIT_EN, .rw), (SVC_CTL_CNT_CLR, .wo)]⟩,
  ⟨"SVC_STATUS", 0x1000010, 0x0, 1, 0, 1, 4, fun _ _ => [(SVC_STATUS_STREAMS, .ro)]⟩,
  ⟨"SVC_TIME", 0x1000018, 0x0, 1, 0, 1, 8, fun _ _ => [(SVC_TIME_NS, .ro)]⟩,
  ⟨"SVC_ALLOW_ECC", 0x1000020, 0x0, 1, 0, 1, 4, fun _ _ => [(SVC_ALLOW_ECC_HOLDS, .rw)]⟩,
  ⟨"SVC_ALLOW_REPLAY", 0x1000024, 0x0, 1, 0, 1, 4, fun _ _ => [(SVC_ALLOW_REPLAY_FRACTION, .rw)]⟩,
  ⟨"SVC_ALLOW_LINK", 0x1000028, 0x0, 1, 0, 1, 4, fun _ _ => [(SVC_ALLOW_LINK_NS, .rw)]⟩,
  ⟨"SVC_FLOOR_MHZ", 0x100002C, 0x0, 1, 0, 1, 4, fun _ _ => [(SVC_FLOOR_MHZ_MHZ, .rw)]⟩,
  ⟨"SVC_OVERHEAD", 0x1000030, 0x0, 1, 0, 1, 4, fun _ _ => [(SVC_OVERHEAD_NS, .rw)]⟩,
  ⟨"SVC_SWAP_BW", 0x1000034, 0x0, 1, 0, 1, 4, fun _ _ => [(SVC_SWAP_BW_FLASH, .rw), (SVC_SWAP_BW_NBR, .rw)]⟩,
  ⟨"SVC_LOAD_FIXED", 0x1000038, 0x0, 1, 0, 1, 4, fun _ _ => [(SVC_LOAD_FIXED_NS, .rw)]⟩,
  ⟨"SVC_SPEC_COOL", 0x100003C, 0x0, 1, 0, 1, 4, fun _ _ => [(SVC_SPEC_COOL_STEPS, .rw)]⟩,
  ⟨"SVC_STEP_TIMEOUT", 0x1000040, 0x0, 1, 0, 1, 4, fun _ _ => [(SVC_STEP_TIMEOUT_QUARTERS, .rw)]⟩,
  ⟨"SVC_RQ_BASE", 0x1000048, 0x0, 1, 0, 1, 8, fun _ _ => [(SVC_RQ_BASE_ADDR, .rw)]⟩,
  ⟨"SVC_RQ_SIZE", 0x1000050, 0x0, 1, 0, 1, 4, fun _ _ => [(SVC_RQ_SIZE_ENTRIES, .rw)]⟩,
  ⟨"SVC_RQ_TAIL", 0x1000054, 0x0, 1, 0, 1, 4, fun _ _ => [(SVC_RQ_TAIL_TAIL, .rw)]⟩,
  ⟨"SVC_RQ_HEAD", 0x1000058, 0x0, 1, 0, 1, 4, fun _ _ => [(SVC_RQ_HEAD_HEAD, .ro)]⟩,
  ⟨"SVC_CNT_ADMIT", 0x1000060, 0x0, 1, 0, 1, 8, fun _ _ => [(SVC_CNT_ADMIT_N, .ro)]⟩,
  ⟨"SVC_CNT_REFUSE", 0x1000068, 0x0, 1, 0, 1, 8, fun _ _ => [(SVC_CNT_REFUSE_N, .ro)]⟩,
  ⟨"SVC_CNT_COMPLETE", 0x1000070, 0x0, 1, 0, 1, 8, fun _ _ => [(SVC_CNT_COMPLETE_N, .ro)]⟩,
  ⟨"SVC_CNT_CANCEL", 0x1000078, 0x0, 1, 0, 1, 8, fun _ _ => [(SVC_CNT_CANCEL_N, .ro)]⟩,
  ⟨"SVC_CNT_ABORT", 0x1000080, 0x0, 1, 0, 1, 8, fun _ _ => [(SVC_CNT_ABORT_N, .ro)]⟩,
  ⟨"SVC_CNT_OVERRUN", 0x1000088, 0x0, 1, 0, 1, 8, fun _ _ => [(SVC_CNT_OVERRUN_N, .ro)]⟩,
  ⟨"SVC_CNT_SWAP", 0x1000090, 0x0, 1, 0, 1, 8, fun _ _ => [(SVC_CNT_SWAP_N, .ro)]⟩,
  ⟨"SVC_CNT_STEPS", 0x1000098, 0x0, 1, 0, 1, 8, fun _ _ => [(SVC_CNT_STEPS_N, .ro)]⟩]

/-- Registers of the hub blocks, part 1. -/
def regMapHub1 : List RegShape := [
  ⟨"SVC_REFUSE_LAST", 0x10000A0, 0x0, 1, 0, 1, 4, fun _ _ => [(SVC_REFUSE_LAST_STATUS, .ro), (SVC_REFUSE_LAST_INDEX, .ro)]⟩,
  ⟨"SVC_ERR", 0x10000A8, 0x0, 1, 0, 1, 4, fun _ _ => [(SVC_ERR_RQ_BAD, .w1c), (SVC_ERR_UNATTRIBUTED, .w1c), (SVC_ERR_ABORT, .w1c)]⟩,
  ⟨"SVC_CNT_CAUSE", 0x1000100, 0x0, 1, 8, 16, 8, fun _ i => [(SVC_CNT_CAUSE_N i, .ro)]⟩,
  ⟨"HBM_ID", 0x2000000, 0x100000, 12, 0, 1, 4, fun s _ => [(HBM_ID_ARCH_LEVEL s, .ro), (HBM_ID_STACK s, .ro), (HBM_ID_CHANNELS s, .ro), (HBM_ID_SIZE_GIB s, .ro)]⟩,
  ⟨"HBM_STATUS", 0x2000010, 0x100000, 12, 0, 1, 4, fun s _ => [(HBM_STATUS_TRAINED s, .ro), (HBM_STATUS_BENCHED s, .ro), (HBM_STATUS_REFRESH_2X s, .ro)]⟩,
  ⟨"HBM_PHY_CTL", 0x2000018, 0x100000, 12, 0, 1, 4, fun s _ => [(HBM_PHY_CTL_LOOP s, .rw)]⟩,
  ⟨"HBM_TEMP", 0x2000020, 0x100000, 12, 0, 1, 4, fun s _ => [(HBM_TEMP_DEG_C s, .ro)]⟩,
  ⟨"HBM_CNT_CORR", 0x2000028, 0x100000, 12, 0, 1, 8, fun s _ => [(HBM_CNT_CORR_CORR s, .ro)]⟩,
  ⟨"HBM_CNT_TRANSIENT", 0x2000030, 0x100000, 12, 0, 1, 8, fun s _ => [(HBM_CNT_TRANSIENT_TRANSIENT s, .ro)]⟩,
  ⟨"HBM_CNT_LASTING", 0x2000038, 0x100000, 12, 0, 1, 8, fun s _ => [(HBM_CNT_LASTING_LASTING s, .ro)]⟩,
  ⟨"HBM_CNT_UNCORR", 0x2000040, 0x100000, 12, 0, 1, 8, fun s _ => [(HBM_CNT_UNCORR_UNCORR s, .ro)]⟩,
  ⟨"HBM_ERR_ADDR", 0x2000048, 0x100000, 12, 0, 1, 8, fun s _ => [(HBM_ERR_ADDR_ADDR s, .ro)]⟩,
  ⟨"HBM_ERR", 0x2000050, 0x100000, 12, 0, 1, 4, fun s _ => [(HBM_ERR_UNCORR s, .w1c), (HBM_ERR_LASTING s, .w1c), (HBM_ERR_TRAIN_FAIL s, .w1c)]⟩,
  ⟨"HBM_CNT_POISON", 0x2000058, 0x100000, 12, 0, 1, 8, fun s _ => [(HBM_CNT_POISON_POISON s, .ro)]⟩,
  ⟨"HBM_RGN_STAGE", 0x2080000, 0x0, 1, 0, 1, 16, fun _ _ => [(HBM_RGN_STAGE_ENTRY, .rw)]⟩,
  ⟨"HBM_RGN_CMD", 0x2080010, 0x0, 1, 0, 1, 4, fun _ _ => [(HBM_RGN_CMD_INDEX, .wo), (HBM_RGN_CMD_OP, .wo)]⟩,
  ⟨"HBM_RGN_STS", 0x2080018, 0x0, 1, 0, 1, 4, fun _ _ => [(HBM_RGN_STS_STS, .ro), (HBM_RGN_STS_INDEX, .ro)]⟩,
  ⟨"HBM_RGN", 0x2090000, 0x0, 1, 16, 4096, 16, fun _ i => [(HBM_RGN_ARCH_LEVEL i, .ro), (HBM_RGN_VALID i, .ro), (HBM_RGN_HINT i, .ro), (HBM_RGN_PROT i, .ro),
      (HBM_RGN_ANY i, .ro), (HBM_RGN_PEER_EN i, .ro), (HBM_RGN_FIXED i, .ro), (HBM_RGN_LENT i, .ro),
      (HBM_RGN_TENANT i, .ro), (HBM_RGN_PEER_CHIP i, .ro), (HBM_RGN_BASE_64K i, .ro), (HBM_RGN_SIZE_64K i, .ro),
      (HBM_RGN_TWEAK_BASE i, .ro)]⟩,
  ⟨"HBM_TQ", 0x20A0000, 0x0, 1, 32, 1024, 32, fun _ i => [(HBM_TQ_ARCH_LEVEL i, .ro), (HBM_TQ_KEEP_WAYS i, .ro), (HBM_TQ_HBM_QUOTA i, .ro), (HBM_TQ_HBM_USED i, .ro),
      (HBM_TQ_NBT_QUOTA i, .ro), (HBM_TQ_NBT_USED i, .ro), (HBM_TQ_FLASH_QUOTA i, .ro), (HBM_TQ_FLASH_USED i, .ro)]⟩,
  ⟨"MSC_ID", 0x3000000, 0x100000, 12, 0, 1, 4, fun s _ => [(MSC_ID_ARCH_LEVEL s, .ro), (MSC_ID_STACK s, .ro), (MSC_ID_WAYS s, .ro), (MSC_ID_SETS s, .ro)]⟩,
  ⟨"MSC_CTL", 0x3000008, 0x100000, 12, 0, 1, 4, fun s _ => [(MSC_CTL_DEF_HINT s, .rw), (MSC_CTL_FLUSH s, .wo)]⟩,
  ⟨"MSC_STATUS", 0x3000010, 0x100000, 12, 0, 1, 4, fun s _ => [(MSC_STATUS_FLUSH_BUSY s, .ro)]⟩,
  ⟨"MSC_CNT_HIT", 0x3000018, 0x100000, 12, 0, 1, 8, fun s _ => [(MSC_CNT_HIT_HIT s, .ro)]⟩,
  ⟨"MSC_CNT_MISS", 0x3000020, 0x100000, 12, 0, 1, 8, fun s _ => [(MSC_CNT_MISS_MISS s, .ro)]⟩,
  ⟨"MSC_CNT_DISCARD", 0x3000028, 0x100000, 12, 0, 1, 8, fun s _ => [(MSC_CNT_DISCARD_DISCARD s, .ro)]⟩]

/-- Registers of the hub blocks, part 2. -/
def regMapHub2 : List RegShape := [
  ⟨"MSC_CNT_WB", 0x3000030, 0x100000, 12, 0, 1, 8, fun s _ => [(MSC_CNT_WB_WB s, .ro)]⟩,
  ⟨"MSC_CNT_OVERQ", 0x3000038, 0x100000, 12, 0, 1, 8, fun s _ => [(MSC_CNT_OVERQ_OVERQ s, .ro)]⟩,
  ⟨"MSC_KEPT", 0x3000100, 0x100000, 12, 4, 1024, 4, fun s i => [(MSC_KEPT_LINES s i, .ro)]⟩,
  ⟨"NBT_ID", 0x4000000, 0x0, 1, 0, 1, 4, fun _ _ => [(NBT_ID_ARCH_LEVEL, .ro), (NBT_ID_UNITS, .ro)]⟩,
  ⟨"FTL_ID", 0x5000000, 0x0, 1, 0, 1, 4, fun _ _ => [(FTL_ID_ARCH_LEVEL, .ro), (FTL_ID_UNITS, .ro)]⟩,
  ⟨"NBT_RING_BASE", 0x4000010, 0x0, 1, 0, 1, 8, fun _ _ => [(NBT_RING_BASE_ADDR, .rw)]⟩,
  ⟨"FTL_RING_BASE", 0x5000010, 0x0, 1, 0, 1, 8, fun _ _ => [(FTL_RING_BASE_ADDR, .rw)]⟩,
  ⟨"NBT_RING_SIZE", 0x4000018, 0x0, 1, 0, 1, 4, fun _ _ => [(NBT_RING_SIZE_ENTRIES, .rw)]⟩,
  ⟨"FTL_RING_SIZE", 0x5000018, 0x0, 1, 0, 1, 4, fun _ _ => [(FTL_RING_SIZE_ENTRIES, .rw)]⟩,
  ⟨"NBT_RING_TAIL", 0x400001C, 0x0, 1, 0, 1, 4, fun _ _ => [(NBT_RING_TAIL_TAIL, .rw)]⟩,
  ⟨"FTL_RING_TAIL", 0x500001C, 0x0, 1, 0, 1, 4, fun _ _ => [(FTL_RING_TAIL_TAIL, .rw)]⟩,
  ⟨"NBT_RING_HEAD", 0x4000020, 0x0, 1, 0, 1, 4, fun _ _ => [(NBT_RING_HEAD_HEAD, .ro)]⟩,
  ⟨"FTL_RING_HEAD", 0x5000020, 0x0, 1, 0, 1, 4, fun _ _ => [(FTL_RING_HEAD_HEAD, .ro)]⟩,
  ⟨"NBT_CTL", 0x4000008, 0x0, 1, 0, 1, 4, fun _ _ => [(NBT_CTL_KA_US, .rw), (NBT_CTL_KA_MISS, .rw)]⟩,
  ⟨"NBT_CNT_DIRTY", 0x4000028, 0x0, 1, 0, 1, 8, fun _ _ => [(NBT_CNT_DIRTY_SET, .ro)]⟩,
  ⟨"NBT_CNT_WB", 0x4000030, 0x0, 1, 0, 1, 8, fun _ _ => [(NBT_CNT_WB_BYTES, .ro)]⟩,
  ⟨"NBT_CNT_LOST", 0x4000038, 0x0, 1, 0, 1, 8, fun _ _ => [(NBT_CNT_LOST_LOST, .ro)]⟩,
  ⟨"NBT_ERR", 0x4000040, 0x0, 1, 0, 1, 4, fun _ _ => [(NBT_ERR_LOST, .w1c), (NBT_ERR_RING_BAD, .w1c)]⟩,
  ⟨"NBT_BORROW", 0x4001000, 0x0, 1, 32, 256, 32, fun _ i => [(NBT_BORROW_LEVEL i, .ro), (NBT_BORROW_STATE i, .ro), (NBT_BORROW_PEER i, .ro), (NBT_BORROW_LEASE i, .ro),
      (NBT_BORROW_TENANT i, .ro), (NBT_BORROW_BASE i, .ro), (NBT_BORROW_PAGES i, .ro), (NBT_BORROW_LEFT_US i, .ro),
      (NBT_BORROW_BITMAP i, .ro)]⟩,
  ⟨"NBT_LEND", 0x4003000, 0x0, 1, 32, 256, 32, fun _ i => [(NBT_LEND_LEVEL i, .ro), (NBT_LEND_STATE i, .ro), (NBT_LEND_PEER i, .ro), (NBT_LEND_LEASE i, .ro),
      (NBT_LEND_TENANT i, .ro), (NBT_LEND_BASE i, .ro), (NBT_LEND_PAGES i, .ro), (NBT_LEND_LEFT_US i, .ro),
      (NBT_LEND_BITMAP i, .ro)]⟩,
  ⟨"FTL_CTL", 0x5000008, 0x0, 1, 0, 1, 4, fun _ _ => [(FTL_CTL_EN, .rw), (FTL_CTL_RETRY_MAX, .rw)]⟩,
  ⟨"FTL_CAP_RAW", 0x5000028, 0x0, 1, 0, 1, 4, fun _ _ => [(FTL_CAP_RAW_UNITS, .ro)]⟩,
  ⟨"FTL_CAP_USABLE", 0x500002C, 0x0, 1, 0, 1, 4, fun _ _ => [(FTL_CAP_USABLE_UNITS, .ro)]⟩,
  ⟨"FTL_CAP_FREE", 0x5000030, 0x0, 1, 0, 1, 4, fun _ _ => [(FTL_CAP_FREE_UNITS, .ro)]⟩,
  ⟨"FTL_RD_THR", 0x5000038, 0x0, 1, 0, 1, 4, fun _ _ => [(FTL_RD_THR_READS, .rw)]⟩]

/-- Registers of the hub blocks, part 3. -/
def regMapHub3 : List RegShape := [
  ⟨"FTL_WL_DELTA", 0x500003C, 0x0, 1, 0, 1, 4, fun _ _ => [(FTL_WL_DELTA_ERASES, .rw)]⟩,
  ⟨"FTL_CNT_RETIRED", 0x5000040, 0x0, 1, 0, 1, 8, fun _ _ => [(FTL_CNT_RETIRED_BLOCKS, .ro)]⟩,
  ⟨"FTL_CNT_REFRESH", 0x5000048, 0x0, 1, 0, 1, 8, fun _ _ => [(FTL_CNT_REFRESH_BLOCKS, .ro)]⟩,
  ⟨"FTL_CNT_UNCORR", 0x5000050, 0x0, 1, 0, 1, 8, fun _ _ => [(FTL_CNT_UNCORR_CW, .ro)]⟩,
  ⟨"FTL_CNT_RETRY", 0x5000058, 0x0, 1, 0, 1, 8, fun _ _ => [(FTL_CNT_RETRY_READS, .ro)]⟩,
  ⟨"FTL_ERR", 0x5000060, 0x0, 1, 0, 1, 4, fun _ _ => [(FTL_ERR_UNCORR, .w1c), (FTL_ERR_RING_BAD, .w1c), (FTL_ERR_RETIRE, .w1c)]⟩,
  ⟨"FTL_CH_ID", 0x5010000, 0x10000, 16, 0, 1, 4, fun c _ => [(FTL_CH_ID_ARCH_LEVEL c, .ro), (FTL_CH_ID_CHANNEL c, .ro), (FTL_CH_ID_TARGETS c, .ro)]⟩,
  ⟨"FTL_CH_STATUS", 0x5010010, 0x10000, 16, 0, 1, 4, fun c _ => [(FTL_CH_STATUS_TRAINED c, .ro), (FTL_CH_STATUS_MTS_100 c, .ro)]⟩,
  ⟨"FTL_CH_CNT_READ", 0x5010018, 0x10000, 16, 0, 1, 8, fun c _ => [(FTL_CH_CNT_READ_N c, .ro)]⟩,
  ⟨"FTL_CH_CNT_PROG", 0x5010020, 0x10000, 16, 0, 1, 8, fun c _ => [(FTL_CH_CNT_PROG_N c, .ro)]⟩,
  ⟨"FTL_CH_CNT_ERASE", 0x5010028, 0x10000, 16, 0, 1, 8, fun c _ => [(FTL_CH_CNT_ERASE_N c, .ro)]⟩,
  ⟨"STR", 0x1100000, 0x0, 1, 128, 16384, 128, fun _ i => [(STR_ARCH_LEVEL i, .ro), (STR_STATE i, .ro), (STR_CANCEL_REQ i, .ro), (STR_TENANT i, .ro),
      (STR_SLOT i, .ro), (STR_SPEC_OFF i, .ro), (STR_OVERRUN i, .ro), (STR_K i, .ro),
      (STR_REJ_RUN i, .ro), (STR_TAG i, .ro), (STR_PROMPT_LEN i, .ro), (STR_MAX_NEW i, .ro),
      (STR_PREFILLED i, .ro), (STR_DELIVERED i, .ro), (STR_TTFT_NS i, .ro), (STR_ITL_NS i, .ro),
      (STR_ADMIT_TIME i, .ro), (STR_DUE i, .ro), (STR_ROW i, .ro), (STR_COOL i, .ro),
      (STR_REJECTED i, .ro), (STR_OUT_BASE i, .ro), (STR_OUT_SIZE i, .ro), (STR_KV_PAGES i, .ro),
      (STR_KV_MAP i, .ro), (STR_PROMPT i, .ro), (STR_OVERRUNS i, .ro)]⟩,
  ⟨"TEN", 0x1040000, 0x0, 1, 64, 1024, 64, fun _ i => [(TEN_ARCH_LEVEL i, .ro), (TEN_VALID i, .ro), (TEN_RATE i, .ro), (TEN_DEPTH i, .ro),
      (TEN_LEVEL i, .ro), (TEN_MAX_STREAMS i, .ro), (TEN_ACTIVE i, .ro), (TEN_MODELS i, .ro),
      (TEN_EV_BASE i, .ro), (TEN_EV_SIZE i, .ro), (TEN_EV_SEQ i, .ro)]⟩,
  ⟨"RES", 0x1020000, 0x0, 1, 64, 64, 64, fun _ i => [(RES_ARCH_LEVEL i, .ro), (RES_VALID i, .ro), (RES_STATE i, .ro), (RES_SPEC i, .ro),
      (RES_DRAFT_SLOT i, .ro), (RES_WBOLT i, .ro), (RES_DBOLT i, .ro), (RES_STREAMS i, .ro),
      (RES_VARIANT_ID i, .ro), (RES_PROFILE i, .ro), (RES_REGION i, .ro), (RES_REGION_SIZE i, .ro),
      (RES_LOAD_LEFT i, .ro), (RES_TW_NS i, .ro), (RES_TD_NS i, .ro), (RES_BACKLOG i, .ro)]⟩,
  ⟨"BLT", 0x1010000, 0x0, 1, 32, 64, 32, fun _ i => [(BLT_ARCH_LEVEL i, .ro), (BLT_KIND i, .ro), (BLT_STATE i, .ro), (BLT_IN_STEP i, .ro),
      (BLT_LOOMS i, .ro), (BLT_STEP_SLOT i, .ro), (BLT_SLOTS_BOUND i, .ro), (BLT_STEP i, .ro),
      (BLT_STRETCH i, .ro), (BLT_ROWS_USED i, .ro), (BLT_KV_FREE i, .ro), (BLT_LAG i, .ro)]⟩]

/-- Registers of the fabric blocks, part 0. -/
def regMapFabric0 : List RegShape := [
  ⟨"FAB_ID", 0x6000000, 0x0, 1, 0, 1, 4, fun _ _ => [(FAB_ID_ARCH_LEVEL, .ro), (FAB_ID_CHIP, .ro), (FAB_ID_STRAP_BAD, .ro)]⟩,
  ⟨"FAB_CTL", 0x6000008, 0x0, 1, 0, 1, 4, fun _ _ => [(FAB_CTL_EN, .ro), (FAB_CTL_CNT_CLR, .wo)]⟩,
  ⟨"FAB_DIMS", 0x6000010, 0x0, 1, 0, 1, 4, fun _ _ => [(FAB_DIMS_DX_M1, .ro), (FAB_DIMS_DY_M1, .ro), (FAB_DIMS_DZ_M1, .ro)]⟩,
  ⟨"FAB_BLOCK", 0x6000018, 0x0, 1, 0, 1, 4, fun _ _ => [(FAB_BLOCK_X0, .ro), (FAB_BLOCK_Y0, .ro), (FAB_BLOCK_Z0, .ro), (FAB_BLOCK_XN_M1, .ro),
      (FAB_BLOCK_YN_M1, .ro), (FAB_BLOCK_ZN_M1, .ro)]⟩,
  ⟨"FAB_VC_WEIGHT", 0x6000020, 0x0, 1, 0, 1, 4, fun _ _ => [(FAB_VC_WEIGHT_SCATTER, .rw), (FAB_VC_WEIGHT_BULK, .rw), (FAB_VC_WEIGHT_TIER, .rw)]⟩,
  ⟨"FAB_REQ_TIMEOUT", 0x6000028, 0x0, 1, 0, 1, 4, fun _ _ => [(FAB_REQ_TIMEOUT_US, .rw)]⟩,
  ⟨"FAB_EPOCH", 0x6000030, 0x0, 1, 0, 1, 8, fun _ _ => [(FAB_EPOCH_T, .ro)]⟩,
  ⟨"FAB_SYNC_CTL", 0x6000038, 0x0, 1, 0, 1, 4, fun _ _ => [(FAB_SYNC_CTL_PARENT, .ro), (FAB_SYNC_CTL_ALT_PARENT, .ro), (FAB_SYNC_CTL_PERIOD_US, .rw)]⟩,
  ⟨"FAB_SYNC_STS", 0x6000040, 0x0, 1, 0, 1, 4, fun _ _ => [(FAB_SYNC_STS_LOCKED, .ro), (FAB_SYNC_STS_HOLDOVER, .ro), (FAB_SYNC_STS_REFCLK_LOST, .ro)]⟩,
  ⟨"FAB_SYNC_OFFSET", 0x6000048, 0x0, 1, 0, 1, 4, fun _ _ => [(FAB_SYNC_OFFSET_OFF, .ro)]⟩,
  ⟨"FAB_SYNC_DELAY", 0x600004C, 0x0, 1, 0, 1, 4, fun _ _ => [(FAB_SYNC_DELAY_DELAY, .ro)]⟩,
  ⟨"FAB_SYNC_RATE", 0x6000050, 0x0, 1, 0, 1, 4, fun _ _ => [(FAB_SYNC_RATE_PPB, .ro)]⟩,
  ⟨"FAB_CNT_UNROUTABLE", 0x6000058, 0x0, 1, 0, 1, 8, fun _ _ => [(FAB_CNT_UNROUTABLE_N, .ro)]⟩,
  ⟨"FAB_CNT_TIMEOUT", 0x6000060, 0x0, 1, 0, 1, 8, fun _ _ => [(FAB_CNT_TIMEOUT_N, .ro)]⟩,
  ⟨"FAB_CNT_MBX_DROP", 0x6000068, 0x0, 1, 0, 1, 8, fun _ _ => [(FAB_CNT_MBX_DROP_N, .ro)]⟩,
  ⟨"FAB_CNT_COLL_STALE", 0x6000070, 0x0, 1, 0, 1, 8, fun _ _ => [(FAB_CNT_COLL_STALE_N, .ro)]⟩,
  ⟨"FAB_ERR", 0x6000078, 0x0, 1, 0, 1, 4, fun _ _ => [(FAB_ERR_UNROUTABLE, .w1c), (FAB_ERR_TIMEOUT, .w1c), (FAB_ERR_COLL_TRUNC, .w1c), (FAB_ERR_COLL_NAN, .w1c),
      (FAB_ERR_REFCLK, .w1c), (FAB_ERR_STRAP, .w1c)]⟩,
  ⟨"FAB_MBX_BASE", 0x6000080, 0x0, 1, 0, 1, 8, fun _ _ => [(FAB_MBX_BASE_ADDR, .rw)]⟩,
  ⟨"FAB_MBX_SIZE", 0x6000088, 0x0, 1, 0, 1, 4, fun _ _ => [(FAB_MBX_SIZE_ENTRIES, .rw)]⟩,
  ⟨"FAB_MBX_HEAD", 0x600008C, 0x0, 1, 0, 1, 4, fun _ _ => [(FAB_MBX_HEAD_HEAD, .rw)]⟩,
  ⟨"FAB_MBX_TAIL", 0x6000090, 0x0, 1, 0, 1, 4, fun _ _ => [(FAB_MBX_TAIL_TAIL, .ro)]⟩,
  ⟨"FAB_ETH_FWD", 0x6000800, 0x0, 1, 16, 256, 16, fun _ i => [(FAB_ETH_FWD_MAC i, .ro), (FAB_ETH_FWD_CHIP i, .ro), (FAB_ETH_FWD_ETHPORT i, .ro), (FAB_ETH_FWD_VALID i, .ro),
      (FAB_ETH_FWD_LOCAL i, .ro)]⟩,
  ⟨"FAB_RT", 0x6010000, 0x0, 1, 4, 16384, 4, fun _ i => [(FAB_RT_PORT0 i, .ro), (FAB_RT_SUB0 i, .ro), (FAB_RT_ALT0 i, .ro), (FAB_RT_ALT_SUB0 i, .ro),
      (FAB_RT_PORT1 i, .ro), (FAB_RT_SUB1 i, .ro), (FAB_RT_ALT1 i, .ro), (FAB_RT_ALT_SUB1 i, .ro),
      (FAB_RT_PORT2 i, .ro), (FAB_RT_SUB2 i, .ro), (FAB_RT_ALT2 i, .ro), (FAB_RT_ALT_SUB2 i, .ro),
      (FAB_RT_PORT3 i, .ro), (FAB_RT_SUB3 i, .ro), (FAB_RT_ALT3 i, .ro), (FAB_RT_ALT_SUB3 i, .ro)]⟩,
  ⟨"FAB_COLL", 0x6020000, 0x0, 1, 64, 256, 64, fun _ i => [(FAB_COLL_ARCH_LEVEL i, .ro), (FAB_COLL_VALID i, .ro), (FAB_COLL_OP i, .ro), (FAB_COLL_RED i, .ro),
      (FAB_COLL_DTYPE i, .ro), (FAB_COLL_CLASS i, .ro), (FAB_COLL_NPART i, .ro), (FAB_COLL_PARENT i, .ro),
      (FAB_COLL_CHILDREN i, .ro), (FAB_COLL_LOOMS i, .ro), (FAB_COLL_PART0 i, .ro), (FAB_COLL_SRC_OFF i, .ro),
      (FAB_COLL_DST_OFF i, .ro), (FAB_COLL_LEN i, .ro), (FAB_COLL_LEN_MODE i, .ro), (FAB_COLL_CREG i, .ro),
      (FAB_COLL_UNIT i, .ro), (FAB_COLL_MAXLEN i, .ro)]⟩,
  ⟨"FAB_P_ID", 0x6100000, 0x100000, 6, 0, 1, 4, fun p _ => [(FAB_P_ID_ARCH_LEVEL p, .ro), (FAB_P_ID_PORT p, .ro), (FAB_P_ID_PERS p, .ro)]⟩]

/-- Registers of the fabric blocks, part 1. -/
def regMapFabric1 : List RegShape := [
  ⟨"FAB_P_CTL", 0x6100008, 0x100000, 6, 0, 1, 4, fun p _ => [(FAB_P_CTL_RETRAIN p, .wo), (FAB_P_CTL_DISABLE p, .rw)]⟩,
  ⟨"FAB_P_STATE", 0x6100010, 0x100000, 6, 0, 1, 4, fun p _ => [(FAB_P_STATE_STATE p, .ro), (FAB_P_STATE_QCAUSE p, .ro), (FAB_P_STATE_LEVEL p, .ro)]⟩,
  ⟨"FAB_P_CAP_PEER", 0x6100018, 0x100000, 6, 0, 1, 16, fun p _ => [(FAB_P_CAP_PEER_CAP p, .ro)]⟩,
  ⟨"FAB_P_FEAT", 0x6100028, 0x100000, 6, 0, 1, 8, fun p _ => [(FAB_P_FEAT_FEATURES p, .ro)]⟩,
  ⟨"FAB_P_RETRY_THR", 0x6100030, 0x100000, 6, 0, 1, 4, fun p _ => [(FAB_P_RETRY_THR_THR p, .rw), (FAB_P_RETRY_THR_WIN_MS p, .rw)]⟩,
  ⟨"FAB_P_MAL_THR", 0x6100034, 0x100000, 6, 0, 1, 4, fun p _ => [(FAB_P_MAL_THR_THR p, .rw), (FAB_P_MAL_THR_WIN_MS p, .rw)]⟩,
  ⟨"FAB_P_CNT_FEC_CORR", 0x6100038, 0x100000, 6, 0, 1, 8, fun p _ => [(FAB_P_CNT_FEC_CORR_N p, .ro)]⟩,
  ⟨"FAB_P_CNT_FEC_UNCORR", 0x6100040, 0x100000, 6, 0, 1, 8, fun p _ => [(FAB_P_CNT_FEC_UNCORR_N p, .ro)]⟩,
  ⟨"FAB_P_CNT_CRC", 0x6100048, 0x100000, 6, 0, 1, 8, fun p _ => [(FAB_P_CNT_CRC_N p, .ro)]⟩,
  ⟨"FAB_P_CNT_RETRY", 0x6100050, 0x100000, 6, 0, 1, 8, fun p _ => [(FAB_P_CNT_RETRY_N p, .ro)]⟩,
  ⟨"FAB_P_RETRY_NS", 0x6100058, 0x100000, 6, 0, 1, 8, fun p _ => [(FAB_P_RETRY_NS_NS p, .ro)]⟩,
  ⟨"FAB_P_CNT_DOWN", 0x6100060, 0x100000, 6, 0, 1, 4, fun p _ => [(FAB_P_CNT_DOWN_N p, .ro)]⟩,
  ⟨"FAB_P_CNT_MAL", 0x6100068, 0x100000, 6, 8, 6, 8, fun p i => [(FAB_P_CNT_MAL_N p i, .ro)]⟩,
  ⟨"FAB_P_CNT_QDROP", 0x6100098, 0x100000, 6, 0, 1, 8, fun p _ => [(FAB_P_CNT_QDROP_N p, .ro)]⟩,
  ⟨"FAB_P_CNT_TXFLIT", 0x61000A0, 0x100000, 6, 0, 1, 8, fun p _ => [(FAB_P_CNT_TXFLIT_N p, .ro)]⟩,
  ⟨"FAB_P_CNT_RXFLIT", 0x61000A8, 0x100000, 6, 0, 1, 8, fun p _ => [(FAB_P_CNT_RXFLIT_N p, .ro)]⟩,
  ⟨"FAB_P_ERR", 0x61000B0, 0x100000, 6, 0, 1, 4, fun p _ => [(FAB_P_ERR_DOWN p, .w1c), (FAB_P_ERR_QUARANTINE p, .w1c), (FAB_P_ERR_TRAIN_FAIL p, .w1c)]⟩,
  ⟨"ETH_ID", 0x7000000, 0x10000, 18, 0, 1, 4, fun e _ => [(ETH_ID_ARCH_LEVEL e, .ro), (ETH_ID_PORT e, .ro)]⟩,
  ⟨"ETH_CTL", 0x7000008, 0x10000, 18, 0, 1, 4, fun e _ => [(ETH_CTL_EN e, .rw), (ETH_CTL_PMD e, .rw), (ETH_CTL_AN e, .rw), (ETH_CTL_PFC_EN e, .rw),
      (ETH_CTL_MAXFRAME e, .rw)]⟩,
  ⟨"ETH_STATUS", 0x7000010, 0x10000, 18, 0, 1, 4, fun e _ => [(ETH_STATUS_LINK e, .ro), (ETH_STATUS_FEC_LOCK e, .ro), (ETH_STATUS_AN_DONE e, .ro), (ETH_STATUS_DISABLED e, .ro)]⟩,
  ⟨"ETH_MAC", 0x7000018, 0x10000, 18, 0, 1, 8, fun e _ => [(ETH_MAC_MAC e, .rw)]⟩,
  ⟨"ETH_TX_BASE", 0x7000020, 0x10000, 18, 0, 1, 8, fun e _ => [(ETH_TX_BASE_ADDR e, .rw)]⟩,
  ⟨"ETH_TX_RING", 0x7000028, 0x10000, 18, 0, 1, 8, fun e _ => [(ETH_TX_RING_TAIL e, .rw), (ETH_TX_RING_HEAD e, .ro), (ETH_TX_RING_SIZE e, .rw)]⟩,
  ⟨"ETH_RX_BASE", 0x7000030, 0x10000, 18, 0, 1, 8, fun e _ => [(ETH_RX_BASE_ADDR e, .rw)]⟩,
  ⟨"ETH_RX_RING", 0x7000038, 0x10000, 18, 0, 1, 8, fun e _ => [(ETH_RX_RING_TAIL e, .ro), (ETH_RX_RING_HEAD e, .rw), (ETH_RX_RING_SIZE e, .rw)]⟩]

/-- Registers of the fabric blocks, part 2. -/
def regMapFabric2 : List RegShape := [
  ⟨"ETH_CNT_RX_FRAMES", 0x7000040, 0x10000, 18, 0, 1, 8, fun e _ => [(ETH_CNT_RX_FRAMES_N e, .ro)]⟩,
  ⟨"ETH_CNT_TX_FRAMES", 0x7000048, 0x10000, 18, 0, 1, 8, fun e _ => [(ETH_CNT_TX_FRAMES_N e, .ro)]⟩,
  ⟨"ETH_CNT_RX_FCS", 0x7000050, 0x10000, 18, 0, 1, 8, fun e _ => [(ETH_CNT_RX_FCS_N e, .ro)]⟩,
  ⟨"ETH_CNT_RX_DROP", 0x7000058, 0x10000, 18, 0, 1, 8, fun e _ => [(ETH_CNT_RX_DROP_N e, .ro)]⟩,
  ⟨"ETH_CNT_RX_PAUSE", 0x7000060, 0x10000, 18, 0, 1, 8, fun e _ => [(ETH_CNT_RX_PAUSE_N e, .ro)]⟩,
  ⟨"ETH_CNT_FEC_CORR", 0x7000068, 0x10000, 18, 0, 1, 8, fun e _ => [(ETH_CNT_FEC_CORR_N e, .ro)]⟩,
  ⟨"ETH_CNT_FEC_UNCORR", 0x7000070, 0x10000, 18, 0, 1, 8, fun e _ => [(ETH_CNT_FEC_UNCORR_N e, .ro)]⟩,
  ⟨"ETH_CNT_TUN_TX", 0x7000078, 0x10000, 18, 0, 1, 8, fun e _ => [(ETH_CNT_TUN_TX_N e, .ro)]⟩,
  ⟨"ETH_CNT_TUN_DROP", 0x7000080, 0x10000, 18, 0, 1, 8, fun e _ => [(ETH_CNT_TUN_DROP_N e, .ro)]⟩]

/-- Registers of the mgmt blocks, part 0. -/
def regMapMgmt0 : List RegShape := [
  ⟨"SEC_KEY_DATA", 0x100100, 0x0, 1, 0, 1, 64, fun _ _ => [(SEC_KEY_DATA_KEYS, .wo)]⟩,
  ⟨"SEC_KEY_CMD", 0x100140, 0x0, 1, 0, 1, 4, fun _ _ => [(SEC_KEY_CMD_SLOT, .wo), (SEC_KEY_CMD_OP, .wo)]⟩,
  ⟨"SEC_KEY_STS", 0x100148, 0x0, 1, 0, 1, 4, fun _ _ => [(SEC_KEY_STS_STS, .ro)]⟩,
  ⟨"SEC_KEY_VALID", 0x100200, 0x0, 1, 4, 32, 4, fun _ i => [(SEC_KEY_VALID_MAP i, .ro)]⟩,
  ⟨"CRD_ID", 0x300000, 0x0, 1, 0, 1, 4, fun _ _ => [(CRD_ID_ARCH_LEVEL, .ro), (CRD_ID_FORMAT, .ro), (CRD_ID_MAX_MIB, .ro)]⟩,
  ⟨"CRD_CTL", 0x300008, 0x0, 1, 0, 1, 4, fun _ _ => [(CRD_CTL_LOAD, .wo), (CRD_CTL_KIND, .rw), (CRD_CTL_SRC_FLASH, .rw), (CRD_CTL_AREA, .rw)]⟩,
  ⟨"CRD_SRC", 0x300010, 0x0, 1, 0, 1, 8, fun _ _ => [(CRD_SRC_ADDR, .rw)]⟩,
  ⟨"CRD_FUNC_BOLTS", 0x300018, 0x0, 1, 0, 1, 8, fun _ _ => [(CRD_FUNC_BOLTS_MASK, .rw)]⟩,
  ⟨"CRD_STATUS", 0x300020, 0x0, 1, 0, 1, 4, fun _ _ => [(CRD_STATUS_BUSY, .ro), (CRD_STATUS_LOADED, .ro), (CRD_STATUS_OPEN_DEFER, .ro)]⟩,
  ⟨"CRD_LOAD_STS", 0x300028, 0x0, 1, 0, 1, 4, fun _ _ => [(CRD_LOAD_STS_STS, .ro), (CRD_LOAD_STS_SECT, .ro), (CRD_LOAD_STS_INDEX, .ro)]⟩,
  ⟨"CRD_ACTIVE_ID", 0x300030, 0x0, 1, 0, 1, 8, fun _ _ => [(CRD_ACTIVE_ID_ID, .ro)]⟩,
  ⟨"CRD_ACTIVE_SVN", 0x300038, 0x0, 1, 0, 1, 4, fun _ _ => [(CRD_ACTIVE_SVN_SVN, .ro)]⟩,
  ⟨"CRD_CNT_LOADS", 0x300040, 0x0, 1, 0, 1, 8, fun _ _ => [(CRD_CNT_LOADS_N, .ro)]⟩,
  ⟨"CRD_CNT_REFUSED", 0x300048, 0x0, 1, 0, 1, 8, fun _ _ => [(CRD_CNT_REFUSED_N, .ro)]⟩,
  ⟨"CRD_ACTIVE_DIGEST", 0x300100, 0x0, 1, 8, 6, 8, fun _ i => [(CRD_ACTIVE_DIGEST_DIGEST i, .ro)]⟩,
  ⟨"SLV_ID", 0x0, 0x0, 1, 0, 1, 4, fun _ _ => [(SLV_ID_ARCH_LEVEL, .ro), (SLV_ID_SRAM_MIB, .ro)]⟩,
  ⟨"SLV_CTL", 0x8, 0x0, 1, 0, 1, 4, fun _ _ => [(SLV_CTL_LOG_HALF, .rw), (SLV_CTL_LOG_FLUSH, .wo)]⟩,
  ⟨"SLV_STATUS", 0x10, 0x0, 1, 0, 1, 4, fun _ _ => [(SLV_STATUS_STAGE, .ro), (SLV_STATUS_RECOVERED, .ro), (SLV_STATUS_CARD_AREA, .ro), (SLV_STATUS_NO_CARD, .ro),
      (SLV_STATUS_SESSION, .ro)]⟩,
  ⟨"SLV_BOOT_CNT", 0x18, 0x0, 1, 0, 1, 4, fun _ _ => [(SLV_BOOT_CNT_N, .ro)]⟩,
  ⟨"SLV_INGOT_VER", 0x20, 0x0, 1, 0, 1, 8, fun _ _ => [(SLV_INGOT_VER_VERSION, .ro)]⟩,
  ⟨"SLV_INGOT_SVN", 0x28, 0x0, 1, 0, 1, 4, fun _ _ => [(SLV_INGOT_SVN_SVN, .ro)]⟩,
  ⟨"SLV_CMD", 0x30, 0x0, 1, 0, 1, 4, fun _ _ => [(SLV_CMD_OP, .wo)]⟩,
  ⟨"SLV_CMD_STS", 0x38, 0x0, 1, 0, 1, 4, fun _ _ => [(SLV_CMD_STS_BUSY, .ro), (SLV_CMD_STS_STATUS, .ro), (SLV_CMD_STS_OP, .ro)]⟩,
  ⟨"SLV_CMD_ARG", 0x40, 0x0, 1, 8, 4, 8, fun _ i => [(SLV_CMD_ARG_ARG i, .rw)]⟩,
  ⟨"SLV_NONCE", 0x60, 0x0, 1, 8, 4, 8, fun _ i => [(SLV_NONCE_NONCE i, .rw)]⟩]

/-- Registers of the mgmt blocks, part 1. -/
def regMapMgmt1 : List RegShape := [
  ⟨"SLV_LOG_HEAD", 0x80, 0x0, 1, 0, 1, 4, fun _ _ => [(SLV_LOG_HEAD_SEQ, .ro)]⟩,
  ⟨"SLV_LOG_PERSIST", 0x84, 0x0, 1, 0, 1, 4, fun _ _ => [(SLV_LOG_PERSIST_SEQ, .ro)]⟩,
  ⟨"SLV_LOG_LOST", 0x88, 0x0, 1, 0, 1, 4, fun _ _ => [(SLV_LOG_LOST_N, .ro)]⟩,
  ⟨"SLV_LAG_CTL", 0x90, 0x0, 1, 0, 1, 8, fun _ _ => [(SLV_LAG_CTL_THR, .rw), (SLV_LAG_CTL_WIN, .rw), (SLV_LAG_CTL_COUNT, .rw)]⟩,
  ⟨"SLV_TEST_STS", 0x98, 0x0, 1, 0, 1, 4, fun _ _ => [(SLV_TEST_STS_STATUS, .ro), (SLV_TEST_STS_TEST, .ro), (SLV_TEST_STS_UNIT, .ro)]⟩,
  ⟨"SLV_ERR", 0xA0, 0x0, 1, 0, 1, 4, fun _ _ => [(SLV_ERR_CMD_LOST, .w1c), (SLV_ERR_LOCKSTEP, .w1c), (SLV_ERR_IDENTITY, .w1c)]⟩,
  ⟨"SLV_BENCH_LOOM", 0x100, 0x0, 1, 4, 5, 4, fun _ i => [(SLV_BENCH_LOOM_MAP i, .ro)]⟩,
  ⟨"SLV_BENCH_UNIT", 0x118, 0x0, 1, 0, 1, 4, fun _ _ => [(SLV_BENCH_UNIT_STACK, .ro), (SLV_BENCH_UNIT_PORT, .ro)]⟩,
  ⟨"SLV_BENCH_CH", 0x11C, 0x0, 1, 0, 1, 4, fun _ _ => [(SLV_BENCH_CH_CHANNEL, .ro)]⟩,
  ⟨"SLV_TEMP", 0x200, 0x0, 1, 4, 76, 4, fun _ i => [(SLV_TEMP_DEG i, .ro)]⟩,
  ⟨"SLV_RAIL", 0x400, 0x0, 1, 4, 16, 4, fun _ i => [(SLV_RAIL_MV i, .ro)]⟩,
  ⟨"SLV_ICORE", 0x480, 0x0, 1, 4, 3, 4, fun _ i => [(SLV_ICORE_A i, .ro)]⟩,
  ⟨"SEC_ID", 0x100000, 0x0, 1, 0, 1, 4, fun _ _ => [(SEC_ID_ARCH_LEVEL, .ro), (SEC_ID_SLOTS, .ro)]⟩,
  ⟨"SEC_LIFECYCLE", 0x100008, 0x0, 1, 0, 1, 4, fun _ _ => [(SEC_LIFECYCLE_STATE, .ro)]⟩,
  ⟨"SEC_SERIAL", 0x100010, 0x0, 1, 0, 1, 8, fun _ _ => [(SEC_SERIAL_SERIAL, .ro)]⟩,
  ⟨"SEC_FUSE_CNT", 0x100018, 0x0, 1, 0, 1, 4, fun _ _ => [(SEC_FUSE_CNT_INGOT_SVN, .ro), (SEC_FUSE_CNT_CARD_SVN, .ro), (SEC_FUSE_CNT_KEY_SVN_MIO, .ro), (SEC_FUSE_CNT_KEY_SVN_OWN, .ro)]⟩,
  ⟨"SEC_CNT_VERIFY", 0x100020, 0x0, 1, 0, 1, 8, fun _ _ => [(SEC_CNT_VERIFY_N, .ro)]⟩,
  ⟨"SEC_CNT_VFAIL", 0x100028, 0x0, 1, 0, 1, 8, fun _ _ => [(SEC_CNT_VFAIL_N, .ro)]⟩,
  ⟨"SEC_CNT_SIGN", 0x100030, 0x0, 1, 0, 1, 8, fun _ _ => [(SEC_CNT_SIGN_N, .ro)]⟩,
  ⟨"SEC_SIGN_QUEUE", 0x100038, 0x0, 1, 0, 1, 4, fun _ _ => [(SEC_SIGN_QUEUE_PENDING, .ro)]⟩,
  ⟨"SEC_ROOT", 0x100400, 0x0, 1, 64, 5, 48, fun _ i => [(SEC_ROOT_DIGEST i, .ro)]⟩,
  ⟨"LDG_ID", 0x210000, 0x0, 1, 0, 1, 4, fun _ _ => [(LDG_ID_ARCH_LEVEL, .ro), (LDG_ID_TOTAL, .ro)]⟩,
  ⟨"LDG_CTL", 0x210008, 0x0, 1, 0, 1, 4, fun _ _ => [(LDG_CTL_CNT_CLR, .wo)]⟩,
  ⟨"LDG_STATUS", 0x210010, 0x0, 1, 0, 1, 4, fun _ _ => [(LDG_STATUS_OUTSTANDING, .ro), (LDG_STATUS_FREE, .ro)]⟩,
  ⟨"LDG_BUDGET", 0x210018, 0x0, 1, 0, 1, 4, fun _ _ => [(LDG_BUDGET_BUDGET, .ro)]⟩]

/-- Registers of the mgmt blocks, part 2. -/
def regMapMgmt2 : List RegShape := [
  ⟨"LDG_BUDGET_MIN", 0x21001C, 0x0, 1, 0, 1, 4, fun _ _ => [(LDG_BUDGET_MIN_MIN, .rw), (LDG_BUDGET_MIN_EFFECTIVE, .ro)]⟩,
  ⟨"LDG_RESERVE", 0x210020, 0x0, 1, 0, 1, 4, fun _ _ => [(LDG_RESERVE_RESERVE, .ro)]⟩,
  ⟨"LDG_POOL_FLOOR", 0x210024, 0x0, 1, 0, 1, 4, fun _ _ => [(LDG_POOL_FLOOR_POOL, .ro)]⟩,
  ⟨"LDG_HEAD", 0x210028, 0x0, 1, 0, 1, 4, fun _ _ => [(LDG_HEAD_LOOM, .ro), (LDG_HEAD_VALID, .ro), (LDG_HEAD_REQ, .ro)]⟩,
  ⟨"LDG_CNT_GRANT", 0x210030, 0x0, 1, 0, 1, 8, fun _ _ => [(LDG_CNT_GRANT_N, .ro)]⟩,
  ⟨"LDG_CNT_WAIT", 0x210038, 0x0, 1, 0, 1, 8, fun _ _ => [(LDG_CNT_WAIT_N, .ro)]⟩,
  ⟨"LDG_ERR", 0x210040, 0x0, 1, 0, 1, 4, fun _ _ => [(LDG_ERR_OVERSIZE, .w1c)]⟩,
  ⟨"LDG_COST", 0x210100, 0x0, 1, 4, 12, 4, fun _ i => [(LDG_COST_CREDITS i, .ro)]⟩,
  ⟨"LDG_CREDIT", 0x210200, 0x0, 1, 4, 144, 4, fun _ i => [(LDG_CREDIT_HELD i, .ro)]⟩,
  ⟨"TMP_ID", 0x220000, 0x0, 1, 0, 1, 4, fun _ _ => [(TMP_ID_ARCH_LEVEL, .ro)]⟩,
  ⟨"TMP_CTL", 0x220008, 0x0, 1, 0, 1, 4, fun _ _ => [(TMP_CTL_EN, .rw)]⟩,
  ⟨"TMP_THR", 0x220010, 0x0, 1, 0, 1, 4, fun _ _ => [(TMP_THR_DIE_HI, .rw), (TMP_THR_HBM_HI, .rw), (TMP_THR_HYST, .rw)]⟩,
  ⟨"TMP_STEP", 0x220018, 0x0, 1, 0, 1, 4, fun _ _ => [(TMP_STEP_STEP_MHZ, .rw), (TMP_STEP_STEP_CR, .rw), (TMP_STEP_EMERG_MS, .rw)]⟩,
  ⟨"TMP_ICORE_LIM", 0x22001C, 0x0, 1, 0, 1, 4, fun _ _ => [(TMP_ICORE_LIM_A, .rw)]⟩,
  ⟨"TMP_DIE", 0x220020, 0x0, 1, 8, 2, 4, fun _ i => [(TMP_DIE_CAP i, .ro), (TMP_DIE_CUT i, .ro), (TMP_DIE_HOT i, .ro), (TMP_DIE_BELOW_FLOOR i, .ro),
      (TMP_DIE_TRIP i, .ro)]⟩,
  ⟨"TMP_CORE_CAP", 0x220030, 0x0, 1, 0, 1, 4, fun _ _ => [(TMP_CORE_CAP_MHZ, .ro)]⟩,
  ⟨"TMP_FLOOR", 0x220038, 0x0, 1, 0, 1, 4, fun _ _ => [(TMP_FLOOR_MHZ, .ro)]⟩,
  ⟨"TMP_CNT_BELOW_MS", 0x220040, 0x0, 1, 0, 1, 8, fun _ _ => [(TMP_CNT_BELOW_MS_N, .ro)]⟩,
  ⟨"TMP_CNT_TRIP", 0x220048, 0x0, 1, 0, 1, 4, fun _ _ => [(TMP_CNT_TRIP_N, .ro)]⟩,
  ⟨"TMP_ERR", 0x220050, 0x0, 1, 0, 1, 4, fun _ _ => [(TMP_ERR_BELOW_FLOOR, .w1c), (TMP_ERR_TRIP, .w1c)]⟩,
  ⟨"PWR_ID", 0x200000, 0x0, 1, 0, 1, 4, fun _ _ => [(PWR_ID_ARCH_LEVEL, .ro)]⟩,
  ⟨"PWR_CTL", 0x200008, 0x0, 1, 0, 1, 4, fun _ _ => [(PWR_CTL_STANDBY, .wo), (PWR_CTL_POLICY, .ro)]⟩,
  ⟨"PWR_IDLE_US", 0x20000C, 0x0, 1, 0, 1, 4, fun _ _ => [(PWR_IDLE_US_US, .ro)]⟩,
  ⟨"PWR_STATUS", 0x200010, 0x0, 1, 0, 1, 4, fun _ _ => [(PWR_STATUS_WAKE_SRC, .ro)]⟩,
  ⟨"PWR_DVFS_CMD", 0x200018, 0x0, 1, 0, 1, 4, fun _ _ => [(PWR_DVFS_CMD_LOOM, .wo), (PWR_DVFS_CMD_KIND, .wo), (PWR_DVFS_CMD_VALUE, .wo)]⟩]

/-- Registers of the mgmt blocks, part 3. -/
def regMapMgmt3 : List RegShape := [
  ⟨"PWR_DVFS_STS", 0x20001C, 0x0, 1, 0, 1, 4, fun _ _ => [(PWR_DVFS_STS_STS, .ro), (PWR_DVFS_STS_LOOM, .ro)]⟩,
  ⟨"PWR_WAKE_TX", 0x200020, 0x0, 1, 0, 1, 4, fun _ _ => [(PWR_WAKE_TX_PORTS, .wo)]⟩,
  ⟨"PWR_CNT_WAKE", 0x200028, 0x0, 1, 0, 1, 8, fun _ _ => [(PWR_CNT_WAKE_N, .ro)]⟩,
  ⟨"PWR_CNT_BROWNOUT", 0x200030, 0x0, 1, 0, 1, 4, fun _ _ => [(PWR_CNT_BROWNOUT_N, .ro)]⟩,
  ⟨"PWR_ERR", 0x200038, 0x0, 1, 0, 1, 4, fun _ _ => [(PWR_ERR_STBY_REFUSED, .w1c), (PWR_ERR_BROWNOUT, .w1c)]⟩,
  ⟨"PWR_DOM", 0x200100, 0x0, 1, 4, 164, 4, fun _ i => [(PWR_DOM_STATE i, .ro), (PWR_DOM_HWVOTES i, .ro), (PWR_DOM_SWVOTES i, .rw)]⟩,
  ⟨"PWR_LOOM_OPP", 0x200400, 0x0, 1, 4, 144, 4, fun _ i => [(PWR_LOOM_OPP_F_MHZ i, .ro), (PWR_LOOM_OPP_ROW i, .ro), (PWR_LOOM_OPP_SLEWING i, .ro), (PWR_LOOM_OPP_PEND_MHZ i, .ro),
      (PWR_LOOM_OPP_PEND i, .ro)]⟩,
  ⟨"SLV_RST_CTL", 0x500, 0x0, 1, 0, 1, 4, fun _ _ => [(SLV_RST_CTL_KIND, .wo), (SLV_RST_CTL_LOOM, .wo)]⟩,
  ⟨"SLV_RST_BOLTS", 0x508, 0x0, 1, 0, 1, 8, fun _ _ => [(SLV_RST_BOLTS_MASK, .rw)]⟩,
  ⟨"SLV_RST_STS", 0x510, 0x0, 1, 0, 1, 4, fun _ _ => [(SLV_RST_STS_BUSY, .ro), (SLV_RST_STS_LAST, .rws), (SLV_RST_STS_STATUS, .ro), (SLV_RST_STS_WARM_CNT, .rws)]⟩,
  ⟨"SLV_ERQ_BASE", 0x520, 0x0, 1, 0, 1, 8, fun _ _ => [(SLV_ERQ_BASE_ADDR, .rw)]⟩,
  ⟨"SLV_ERQ_SIZE", 0x528, 0x0, 1, 0, 1, 4, fun _ _ => [(SLV_ERQ_SIZE_ENTRIES, .rw)]⟩,
  ⟨"SLV_ERQ_HEAD", 0x52C, 0x0, 1, 0, 1, 4, fun _ _ => [(SLV_ERQ_HEAD_HEAD, .rw)]⟩,
  ⟨"SLV_ERQ_TAIL", 0x530, 0x0, 1, 0, 1, 4, fun _ _ => [(SLV_ERQ_TAIL_TAIL, .ro)]⟩,
  ⟨"SLV_ERQ_CTL", 0x534, 0x0, 1, 0, 1, 4, fun _ _ => [(SLV_ERQ_CTL_MIN_SEV, .rw)]⟩,
  ⟨"SLV_ERQ_DROP", 0x538, 0x0, 1, 0, 1, 4, fun _ _ => [(SLV_ERQ_DROP_N, .rws)]⟩]

/-- Every register the spec gives a place. -/
def regMap : List RegShape :=
  regMapLoom0 ++ regMapLoom1 ++ regMapLoom2 ++ regMapLoom3 ++ regMapLoom4 ++ regMapLoom5 ++ regMapHub0 ++ regMapHub1 ++ regMapHub2 ++ regMapHub3 ++ regMapFabric0 ++ regMapFabric1 ++ regMapFabric2 ++ regMapMgmt0 ++ regMapMgmt1 ++ regMapMgmt2 ++ regMapMgmt3

end Sys2Proof.Machine
end

