-- ==== Sys2Proof/Machine/State.lean ====
section
/-! DEFINITION. The state of the device as plain data, and the state after cold reset (R11, R498). -/
namespace Sys2Proof.Machine

/-- Why the machine stops with a fault. No rule of the spec stops the device: every fault the spec describes (a Draft
fault, a denied access, a port that goes down) is state. The model raises none of these. -/
inductive Fault where
  /-- Raised by nothing: kept so that the type is inhabited. Safe, since no run reaches it. -/
  | none
  deriving DecidableEq, Repr

/-- Why a command has no meaning. -/
inductive Refusal where
  /-- Raised by an arm of Dispatch.lean for a command that is not modelled yet. Safe: the run stops. -/
  | notModelled (mnemonic : String)
  deriving DecidableEq, Repr

/-! ### Errors -/

/-- An error record that waits in its block for delivery, and an entry of the log (R453, R505 to R508). -/
structure ErrRec where
  src : Nat
  inst : Nat
  code : Nat
  sev : Nat
  cls : Nat := 0
  addr : Option Nat := none
  fabric : Bool := false
  step : Nat := 0
  tenant : Nat := 0
  count : Nat := 0
  detail : List Nat := []
  deriving DecidableEq, Repr

/-! ### The Current Ledger -/

/-- A request in the ledger's arrival order (R38): the loom, the credits, the priority class of its bolt, and whether it has arrived in
the present ledger cycle. -/
structure LdgReq where
  loom : Nat
  credits : Nat
  prio : Nat
  fresh : Bool
  deriving DecidableEq, Repr

/-! ### Bus -/

/-- What the last access to the local address space answered (R31, R534, R512): its status, its bytes, and whether the
response is marked poisoned. -/
structure Response where
  status : Nat := 0
  data : List Byte := []
  poison : Bool := false
  deriving DecidableEq, Repr

/-! ### A loom -/

/-- What a word that pauses issue waits for (R245). REPAY's pause has a known length and needs no entry. -/
inductive PauseKind where
  /-- ARRAY or TILE until the ledger's grant. -/
  | grant
  /-- WAIT of class TALLY on a queue (R282). -/
  | tally (q : Nat)
  /-- WAIT of class COLL on a collective (R397); `done` when the result has been written. -/
  | coll (c : Nat) (done : Bool)
  /-- WAIT of class WRITES (R279). -/
  | writes
  /-- GCHECK (R190): the tests that tripped, once the vote has been sent, and once the verdict has come whether the span restarts. -/
  | gcheck (vote : Option Nat) (done : Option Bool)
  /-- END (R237). -/
  | endStep
  deriving DecidableEq, Repr

/-- A pause of the sequencer (R242, R245): what it waits for, the word's BUDGET and SLACK, and whether the slack has run
out, so that the wait is a hold. -/
structure Pause where
  kind : PauseKind
  budget : Nat
  slack : Nat
  expired : Bool
  deriving DecidableEq, Repr

/-- The open tile (R236): its LMODE, the credits it holds, whether the grant has come, its BUDGET and SLACK, its layer,
and whether an ARRAY word opened it. -/
structure Tile where
  lmode : Nat
  credits : Nat
  granted : Bool
  budget : Nat
  slack : Nat
  layer : Nat
  array : Bool
  /-- The tile's excess over BUDGET plus SLACK has been dealt with (R246). -/
  checked : Bool
  deriving DecidableEq, Repr

/-- A hold that has fallen due (R241): its cause c (R261) and its length where the event fixes it. -/
structure Hold where
  cause : Nat
  cycles : Option Nat
  deriving DecidableEq, Repr

/-- The sequencer (R231 to R249): the state that its registers do not show. -/
structure Seq where
  /-- Index of the next word. -/
  next : Nat := 0
  /-- Open loops, innermost first: index of the first body word, iterations left. -/
  loops : List (Nat × Nat) := []
  /-- Units named by the words issued in this cycle (R235). -/
  issued : List Nat := []
  /-- The pause under way. -/
  pause : Option Pause := none
  /-- The hold under way and those that have fallen due behind it (R241). -/
  holds : List Hold := []
  /-- Cycles of the slip under way; 0: none (R246). -/
  slip : Nat := 0
  /-- The sequencer idles at a STEP word (R237). -/
  atStep : Bool := false
  /-- A launch that has reached the loom and not yet been taken (R237). -/
  launch : Option Nat := none
  /-- RUN was written 0; the sequencer stops after the next END (R231). -/
  stopReq : Bool := false
  /-- Loom cycles since the launch (R244). -/
  cycles : Nat := 0
  /-- A conflict hold of this step has been recorded (R253). -/
  confSeen : Bool := false
  /-- The outlier pool and the cycles slipped since the chain's CHAIN_FIRST (R246). -/
  pool : Nat := 0
  slipped : Nat := 0
  /-- The open tile. -/
  tile : Option Tile := none
  /-- The loom has reported the END of its step, and the serving controller has not sealed it (R237, R310). -/
  reported : Bool := false
  /-- Writes issued and not yet acknowledged (R237, R279). -/
  writesOut : Nat := 0
  /-- The loom cycle of the step in which the accumulator unit ends its window load (R234, R235). -/
  accFree : Nat := 0
  /-- Loom cycle at which the Bobbin's last PRED begins its second stage (R224, R227). -/
  stage2 : Nat := 0
  deriving DecidableEq, Repr

/-- A weight buffer with a tile (R70, R106): the trits by block group and column, the sparse form's C (0: dense), its X,
the load cycles, and whether a word of the tile was poisoned. -/
structure WBuf where
  trits : List (List (List Int))
  sparseC : Nat
  x : Nat
  load : Nat
  poison : Bool
  deriving DecidableEq, Repr

/-- One cycle of the array that has started and not yet landed (R79, R97, R183). -/
inductive ArrItem where
  /-- A row cycle: the row's number in the operation, the pass (0 ONE, 1 HIGH, 2 LOW), the lane integers by block group,
  the scale codes, and whether an operand word was poisoned. -/
  | row (r : Nat) (pass : Nat) (lanes : List (List Int)) (scales : List Nat) (poison : Bool)
  /-- A MAX or MIN cycle of one block group. -/
  | sel (r : Nat) (group : Nat) (lanes : List Int) (scale : Nat) (poison : Bool)
  /-- An outlier cycle: the row, the K index within the tile, the BF16 value, and whether a word of its list was
  poisoned (R181 to R183). -/
  | outlier (r : Nat) (k : Nat) (value : Nat) (poison : Bool)
  deriving DecidableEq, Repr

/-- An array operation (R73, R239). -/
structure ArrOp where
  fmt : Nat
  reduce : Nat
  init : Bool
  wbuf : Nat
  rows : Nat
  row0 : Nat
  kbase : Nat
  actE : Nat
  actS : Nat
  eStride : Nat
  sStride : Nat
  olEn : Bool
  osegs : Nat
  okbase : Nat
  olist : Nat
  olStride : Nat
  chainFirst : Bool
  oslack : Nat
  /-- IAL-1 mode: the scratchpad base of the partial sums and the window (R99). -/
  psum : Nat
  window : Int
  /-- Nonzeros of a group that each step of a sparse tile takes; 0: all of them (R115, R124). -/
  keep : Nat
  /-- The array time without outlier cycles (R88, R98, R99, R115). -/
  tArr : Nat
  /-- Outlier cycles of the tile, known when it starts (R183). -/
  eT : Nat
  /-- The weight buffer as it stood when the tile started. -/
  buf : WBuf
  /-- Cycles not yet landed, in the order in which they started. -/
  items : List ArrItem
  /-- The tile barrier has fallen. -/
  barrier : Bool
  /-- A guarded span was open when the word issued (R188). -/
  span : Bool
  /-- Words that the operation's reads found uncorrectable (R259). -/
  found : List Nat
  deriving DecidableEq, Repr

/-- The array and the accumulator memory (chapter 3). -/
structure Arr where
  bufs : List (Option WBuf) := [none, none]
  /-- Operations with cycles in flight, oldest first; the last one opened the open tile. -/
  ops : List ArrOp := []
  /-- Accumulator rows by set × 512 + row; a row is 512 integers (R55, R96). -/
  acc : List (Nat × List Int) := []
  /-- Poison marks of rows, by the same key (R512). -/
  marks : List (Nat × Nat) := []
  /-- Reduction of the last update of a row, by the same key: 0 SUM, 1 MAX, 2 MIN (R96, R98). -/
  kinds : List (Nat × Nat) := []
  deriving DecidableEq, Repr

/-- A code table (R130): the lengths and symbols of its 64 entries, its escape entry, alphabet and tag. -/
structure CodeTable where
  alphabet : Nat
  esc : Option Nat
  tag : Nat
  lens : List Nat
  vals : List Nat
  deriving DecidableEq, Repr

/-- The loom DMA (chapter 5): its table slots and what is under way. -/
structure Dma where
  tables : List (Option CodeTable) := [none, none, none, none]
  /-- An array-port load: the buffer, what it will hold, the table slot it names. -/
  tload : Option (Nat × Option WBuf × Nat) := none
  /-- A table load: the slot, the status, and the table. -/
  tbl : Option (Nat × Nat × Option CodeTable) := none
  /-- A LOAD (1) or STORE (2) under way and the table slot it names. -/
  op : Option (Nat × Option Nat) := none
  deriving DecidableEq, Repr

/-- Parameters that SCORE latches (R158). -/
structure AttParams where
  qrows : Nat
  qgrp : Nat
  dh : Nat
  pages : Nat
  npages : Nat
  tenant : Nat
  layer : Nat
  kvHead : Nat
  causal : Bool
  qpos0 : Nat
  deriving DecidableEq, Repr

/-- The attention unit (chapter 6): per row, the scores in slot order (none: excluded), the maximum and log-sum (none:
minus infinity), the outputs, the mass, and whether the query row was poisoned. -/
structure Att where
  params : Option AttParams := none
  scores : List (List (Option Int)) := []
  m : List (Option Int) := []
  l : List (Option Int) := []
  o : List (List Int) := []
  sump : List Nat := []
  rowPoison : List Bool := []
  /-- The window of O (R171, R197). -/
  owin : Int := 0
  deriving DecidableEq, Repr

/-- The precision guard (chapter 7): the word index of the span's GBEGIN with the loop stack there, the settings that
GBEGIN took (R206), and the window adjustments of the span's passes, oldest first (R197). -/
structure Grd where
  gbegin : Nat := 0
  gloops : List (Nat × Nat) := []
  en : Bool := true
  raise : Nat := 2
  lower : Nat := 2
  recipeOnReplay : Bool := false
  thr : List Nat := [2, 0x800, 0, 0x2000]
  adj : List Int := []
  /-- CNT_CLR was written 1 while a span was open: the totals clear at the next GBEGIN (R206). -/
  clr : Bool := false
  /-- Units whose last operation was issued in the open span (R190). -/
  units : List Nat := []
  deriving DecidableEq, Repr

/-- The Bobbin (chapter 8): BACC, the intermediate buffer's codes and scales, and whether an operation runs. -/
structure Bob where
  bacc : List (List Int) := []
  ibuf : List (List Nat × List Nat) := []
  deriving DecidableEq, Repr

/-- One half of a Shuttle queue (R282): records landed, tally sum, tallies, sources that have tallied, the overflow
counter, the overflow slots granted with their source, the slots that hold a record with its header bytes. -/
structure QHalf where
  landed : Nat := 0
  tsum : Nat := 0
  tcnt : Nat := 0
  tallied : List Nat := []
  ovf : Nat := 0
  granted : List (Nat × Nat) := []
  slots : List Nat := []
  deriving DecidableEq, Repr

/-- A claim that a source has sent and not yet had answered (R278): its number 8 t + j, the map entry, the gate, the row's stream,
the record's element and scale bytes with their poison, and the return slot to clear if it is refused. -/
structure Claim where
  choice : Nat
  mapEntry : Nat
  gate : Nat
  stream : Nat
  body : List Byte
  poison : Bool
  zeroAt : Nat
  zeroLen : Nat
  deriving DecidableEq, Repr

/-- A return row or a token record of which packets are to come (R281, R284, R373; log 33): the device that sends it, its queue, source and
half, where the next packet lies, and whether it lands. -/
structure RetRow where
  chip : Nat
  q : Nat
  src : Nat
  half : Nat
  next : Nat
  ok : Bool
  deriving DecidableEq, Repr

/-- The Shuttle (chapter 10): queue halves by queue × 2 + half, claims waiting for their reply, and records sent in the
step by map entry (R280). -/
structure Sht where
  halves : List (Nat × QHalf) := []
  claims : List Claim := []
  sent : List (Nat × Nat) := []
  sentOvf : List (Nat × Nat) := []
  /-- By route list base, the choices that the last ROUTE to it marked OVF, as 8 t + j, in the order of its candidates (R276, R278). -/
  ovfOrder : List (Nat × List Nat) := []
  /-- Fill lists that EXIT has written in the step, with HSZ (R292). -/
  lists : List (Nat × Nat) := []
  /-- Return rows and records of other devices of which a further packet is to come (R281). -/
  rows : List RetRow := []
  deriving DecidableEq, Repr

/-- What an inbound access or message to a loom is (R255, R275, R278, R281). -/
inductive InKind where
  | write
  | read
  /-- An atomic of the opcode of R374. -/
  | atomic (op : Nat)
  /-- A write of the collective engine's result, and whether it is the last, at which the WAIT on that collective ends (R33, R397). -/
  | result (c : Nat) (last : Bool)
  /-- The collective engine's read of a participant's source segment for a step (R33, R397). -/
  | source (c step : Nat)
  /-- A token record for a queue (R274). -/
  | record (q : Nat)
  /-- A return row for a queue, with its step and the sender's source index (R284). -/
  | retRow (q : Nat) (step : Nat) (src : Nat)
  /-- A tally; its 16 bytes are the data (R275). -/
  | tally
  /-- An overflow claim: queue, half, source index, the choice's number, replicas, and the source's chip and loom (R278). -/
  | claim (q : Nat) (half : Nat) (src : Nat) (choice : Nat) (repl : Nat) (chip : Nat) (loom : Nat)
  /-- The answer to a claim: the choice's number, and the slot or 0xFFFF (R278). -/
  | grant (choice : Nat) (slot : Nat)
  deriving DecidableEq, Repr

/-- An access or message that waits in a loom's inbound FIFO (R26): offset within the window, length, bytes with poison,
tenant, requester, the packet's class; a peer's transaction tag is kept for its answer. -/
structure Inbound where
  kind : InKind
  off : Nat
  len : Nat
  data : List Byte
  poison : Bool
  tenant : Nat
  req : Requester
  tag : Option Nat
  cls : Nat := 0
  /-- An instruction fetch of a host core (R513). -/
  fetch : Bool := false
  deriving DecidableEq, Repr

/-- What a read that crosses the fabric or another loom's port brings back (R31, R376). -/
structure ReadRes where
  status : Nat
  data : List Byte
  poison : Bool
  deriving DecidableEq, Repr

/-- An operation that waits for reads of other looms or devices: its UNIT and OP, ARG, its block's bytes, what has come so
far, and whether a read is under way. -/
structure Pend where
  unit : Nat
  op : Nat
  arg : Nat
  block : List Byte
  got : List ReadRes
  waiting : Bool
  /-- A guarded span was open when the word issued, and the guard's mode then (R188, R196). -/
  span : Bool := false
  mode : Nat := 0
  deriving DecidableEq, Repr

/-- The scratchpad's own state (R258, R260): the last four lasting addresses of each bank, the lines that the
scrubber has read of each bank, the inbound FIFO, and the words that the operation at work has found uncorrectable and does not
also count as poisoned (R259). -/
structure Spd where
  lasting : List (Nat × List Nat) := []
  scrub : List (Nat × Nat) := []
  fifo : List Inbound := []
  fresh : List Nat := []
  deriving DecidableEq, Repr

/-- The state of a loom that its registers and its scratchpad do not hold. -/
structure Loom where
  seq : Seq := {}
  arr : Arr := {}
  dma : Dma := {}
  att : Att := {}
  grd : Grd := {}
  bob : Bob := {}
  sht : Sht := {}
  spd : Spd := {}
  /-- Operations that wait for reads from outside the loom. -/
  pend : List Pend := []
  deriving DecidableEq, Repr

/-- A loom after cold reset (R104, R157, R187, R206, R228, R263, R296). -/
def Loom.reset : Loom := {}

/-! ### The serving controller (R297 to R330) -/

/-- An entry of the fill list that the serving controller reads at a seal (R291, R293, R310). -/
structure FillEntry where
  stream : Nat
  xlayer : Nat
  head : Nat
  pos : Nat
  deriving DecidableEq, Repr

/-- The batch of a bolt's frozen step (R310 to R312): the bolt, its slot, the streams with the prompt tokens that each has in the
step (0: a decode stream), the back-fill rows, the time of the launch, and FAB_P_RETRY_NS of the ports then (R392). -/
structure StepPlan where
  bolt : Nat
  slot : Option Nat
  items : List (Nat × Nat)
  fills : List FillEntry
  start : Nat
  retry0 : List Nat
  /-- A loom of the bolt has run below the floor clock in the step (R317, R481). -/
  slow : Bool := false
  deriving DecidableEq, Repr

/-- A load that waits or runs (R308, R323): the slot, its tier (0 flash, 1 neighbour), the descriptor's STORED_LEN and source, the
time that it takes alone, and the time by which it was promised to end. -/
structure SlotLoad where
  slot : Nat
  tier : Nat
  len : Nat
  src : Nat
  ns : Nat
  due : Nat
  deriving DecidableEq, Repr

/-- The serving controller's own state. -/
structure Svc where
  /-- Profiles by slot, as the loader copied them (R298, R421). -/
  profiles : List (Nat × List Byte) := []
  /-- Frozen steps. -/
  plans : List StepPlan := []
  /-- By bolt, one more than the slot that its last decode step served (R312). -/
  turn : List (Nat × Nat) := []
  /-- Bolts whose next step number leaves one out, after an abort (R503). -/
  skip : List Nat := []
  /-- Causes that occurred (R317): bolt, time, mask by cause. -/
  causes : List (Nat × Nat × Nat) := []
  /-- Streams in the order of their last admission (R311). -/
  order : List Nat := []
  /-- Due point before the next token, by stream (R317). -/
  prevDue : List (Nat × Nat) := []
  /-- Back-fill entries that wait, oldest first (R293, R312). -/
  fills : List FillEntry := []
  /-- Loads, in admission order. -/
  loads : List SlotLoad := []
  /-- By loom, which of its last steps were late, latest first (R466). -/
  lag : List (Nat × List Bool) := []
  /-- By loom, the largest RTY of a packet that landed on it, or on the collective engine for one of its collectives, since the last launch (R392). -/
  rty : List (Nat × Nat) := []
  /-- Whole milliseconds of SVC_TIME for which the buckets have been filled (R321). -/
  refilled : Nat := 0
  deriving DecidableEq, Repr
/-! ### Memory-side cache and key slots (R335, R346) -/

/-- A line of the memory-side cache (R335): its local address, the tenant that allocated it, its KEEP mark and dirty bit, its
256 bytes as the DRAM holds them, and which of its four sectors are poisoned. A set lists its most recent line first. -/
structure CLine where
  line : Nat
  tenant : Nat
  keep : Bool
  dirty : Bool
  data : List Byte
  mask : Nat
  deriving DecidableEq, Repr

/-! ### The tiers (R348 to R363) -/

/-- A tier command under way, or a swap of the serving controller (R323): the entry's 64 bytes, its local address (0: a swap), what
its reads from other devices have brought, its writes without an answer and the first that failed, and its status and result once
its data has moved. -/
structure TierOp where
  cmd : List Byte
  entry : Nat
  uncorr : List Nat := []
  retried : Nat := 0
  fails : List Nat := []
  got : List ReadRes := []
  waiting : Bool := false
  writesOut : Nat := 0
  wbad : Nat := 0
  /-- Of a WRITEBACK, the first sub-page of the lease that it has still to look at, and the sub-pages that it has copied (R354). -/
  next : Nat := 0
  moved : Nat := 0
  done : Option (Nat × Nat) := none
  deriving DecidableEq, Repr

/-- An object of the flash tier (R349): its ID, tenant, capacity and written length. -/
structure FlashObj where
  id : Nat
  tenant : Nat
  cap : Nat
  len : Nat
  deriving DecidableEq, Repr

/-- The geometry of a trained NAND channel (R358): 16 KiB units in a block, blocks, page size in KiB, targets, and bad blocks. -/
structure FlashChan where
  blkUnits : Nat
  blocks : Nat
  pageKib : Nat
  targets : Nat
  bad : List Nat
  deriving DecidableEq, Repr

/-- An erase block of NAND: units programmed since its last erase, reads since then, erases, and whether it is retired. -/
structure FlashBlk where
  prog : Nat := 0
  reads : Nat := 0
  erases : Nat := 0
  bad : Bool := false
  deriving DecidableEq, Repr

/-- The two tier engines, the NAND and the leases' own state. -/
structure Tiers where
  /-- Commands under way: 0 of the FTL, 1 of the NBT, 2 + i the load of slot i. -/
  ops : List (Nat × TierOp) := []
  objs : List FlashObj := []
  chans : List (Nat × FlashChan) := []
  /-- Blocks by channel × 2^32 + block. -/
  blks : List (Nat × FlashBlk) := []
  /-- The FTL's map: object × 2^64 + unit to block + 1. -/
  map : List (Nat × Nat) := []
  /-- Stored bytes and poisoned 64-byte granules, by object × 2^64 + offset. -/
  data : List Host.Cell := []
  pois : List (Nat × Nat) := []
  /-- LEND commands that wait for the peer's answer: lease entry and ring entry address. -/
  lends : List (Nat × Nat) := []
  /-- Keepalive periods missed, by borrowed lease and by 256 + lent lease. -/
  missed : List (Nat × Nat) := []
  /-- FAB_EPOCH at which a lease's deadline falls, by the same numbers. -/
  due : List (Nat × Nat) := []
  /-- Codewords that the image walk at work has read (R357). -/
  seen : List Nat := []
  deriving DecidableEq, Repr

/-! ### The fabric (R366 to R402) -/

/-- A packet (R373): the header's fields and the payload. A READ's `len` is the length that it asks for. -/
structure Packet where
  level : Nat := 2
  ptype : Nat
  cls : Nat
  ackreq : Bool := false
  poison : Bool := false
  status : Nat := 0
  len : Nat := 0
  dst : Nat
  src : Nat
  addr : Nat := 0
  tenant : Nat := 0
  tag : Nat := 0
  msgtype : Nat := 0
  hops : Nat := 0
  rty : Nat := 0
  payload : List Byte := []
  deriving DecidableEq, Repr

/-- A DATA flit in a port's retry buffer (R372, R389). -/
structure TxFlit where
  seq : Nat
  vc : Nat
  sop : Bool
  eop : Bool
  vlen : Nat
  data : List Byte
  deriving DecidableEq, Repr

/-- A flit that a port has put on its link (R371, R372): its FTYPE, the fields of a DATA flit, the ACK, the virtual channel and the flits of
the credit that it returns, and the link's level. -/
structure WireFlit where
  ftype : Nat
  flit : TxFlit
  ack : Nat
  credit : Option (Nat × Nat)
  level : Nat
  deriving DecidableEq, Repr

/-- A packet that is still arriving on a virtual channel: its bytes so far, its flits, the retry delay that its SOP flit met,
when that flit arrived, the reason for which it is malformed already (R377), and the port and virtual channel on which it is already
going out (R379). -/
structure RxPart where
  data : List Byte := []
  flits : Nat := 0
  rty : Nat := 0
  start : Nat := 0
  bad : Option Nat := none
  cut : Option (Nat × Nat) := none
  deriving DecidableEq, Repr

/-- A fabric port (R378 to R390): the state that its registers do not show. -/
structure PortSt where
  /-- SEQ of the next DATA flit to send. -/
  txSeq : Nat := 0
  /-- Flits sent and not yet acknowledged, oldest first. -/
  retry : List TxFlit := []
  /-- Credits held, by virtual channel. -/
  credits : List Nat := List.replicate 8 0
  /-- Flits of a packet still to come that is already going out, by virtual channel: their credits are taken (R379). -/
  cutLeft : List (Nat × Nat) := []
  /-- The flits that the port has put on the link since the link started, oldest first (R371, R372). -/
  wire : List WireFlit := []
  /-- Credits that the peer holds, by virtual channel (R378). -/
  peerCr : List Nat := List.replicate 8 0
  /-- Packets of the port's own that wait for credits or for room in the retry buffer. -/
  txq : List Packet := []
  /-- The SEQ that the last NAK asked for, how often it has been replayed, and when the NAK came. -/
  replay : Option (Nat × Nat × Nat) := none
  /-- FAB_EPOCH at the retries and at the malformed packets in their windows. -/
  retryTimes : List Nat := []
  malTimes : List Nat := []
  /-- SEQ of the next DATA flit to accept. -/
  rxSeq : Nat := 0
  /-- When the NAK under way was sent, and the last SEQ discarded since. -/
  nak : Option (Nat × Nat) := none
  /-- The replay that arrives: its last SEQ and its delay in units of 64 ns (R392). -/
  replayTo : Option (Nat × Nat) := none
  /-- Packets arriving, by virtual channel. -/
  rx : List (Nat × RxPart) := []
  /-- Flits sent in the round of the weighted round-robin: SCATTER, BULK, TIER (R379). -/
  round : List Nat := [0, 0, 0]
  /-- By output virtual channel, one more than the input that was served last (R379). -/
  served : List (Nat × Nat) := []
  /-- Authentication (R387): this side's nonce, the peer's, the proof received so far, and the two results. -/
  nonce : List Byte := []
  peerNonce : Option (List Byte) := none
  proof : List Byte := []
  passed : Option Bool := none
  peerPassed : Option Bool := none
  deriving DecidableEq, Repr

/-- A packet in an input buffer: the port it came by (6: the device itself), its virtual channel, its flits, when its first
flit arrived, and how many packets had come before it over links (R402). -/
structure InPkt where
  port : Nat
  vc : Nat
  flits : Nat
  start : Nat
  pkt : Packet
  no : Nat := 0
  deriving DecidableEq, Repr

/-- Who waits for a response (R391). -/
inductive ReqBy where
  /-- An operation of a unit of a loom that reads. -/
  | loomRead (n : Nat) (unit : Nat)
  /-- A write of a loom. -/
  | loomWrite (n : Nat)
  /-- A read of a tier engine: 0 FTL, 1 NBT, 2 + i the load of slot i. -/
  | tierRead (e : Nat)
  /-- A write of a tier engine. -/
  | tierWrite (e : Nat)
  deriving DecidableEq, Repr

/-- A request that waits for its response (R391): its TAG, who made it, whether it reads, and its address. -/
structure Req where
  tag : Nat
  by_ : ReqBy
  read : Bool
  addr : Nat
  tenant : Nat
  deriving DecidableEq, Repr

/-- The partial results of one direction of a collective in one step: bytes by participant or child, with what has come. -/
structure CollPart where
  /-- The participant's index, or 65536 + port for a child's partial result. -/
  from_ : Nat
  total : Nat
  data : List Byte
  poison : Bool
  last : Bool
  deriving DecidableEq, Repr

/-- One step of a collective (R397, R400): what has been contributed, and the looms that have joined and wait. -/
structure CollStep where
  step : Nat
  parts : List CollPart := []
  joined : List Nat := []
  sentUp : Bool := false
  deriving DecidableEq, Repr

/-- The fabric router and its endpoint. -/
structure Fab where
  ports : List (Nat × PortSt) := []
  /-- Packets that wait to be forwarded. -/
  inq : List InPkt := []
  /-- Packets that have reached this device and wait to be acted on (R402). -/
  inbox : List InPkt := []
  /-- Packets that have come over links. -/
  arrived : Nat := 0
  /-- Requests that wait for their responses. -/
  reqs : List Req := []
  tagNext : Nat := 0
  /-- Collectives under way, by collective. -/
  colls : List (Nat × List CollStep) := []
  /-- Units of FAB_EPOCH still to omit, the rate correction's remainder, and the exchanges made (R393 to R395). -/
  slew : Nat := 0
  rateAcc : Int := 0
  exchanges : Nat := 0
  /-- FAB_EPOCH counts: the first exchange since cold reset has ended, or a Card image has made this device the master (R394, R410). -/
  counting : Bool := false
  /-- The last frame that left an Ethernet port, with its FCS (R403). -/
  frameOut : Option (Nat × List Byte) := none
  deriving DecidableEq, Repr


/-! ### The Card image loader (R424) -/

/-- A load under way: FULL, FUNCTION with the mask of its bolts, and where the image lies: HBM, or a boot-flash area. -/
structure CardLoad where
  full : Bool
  mask : Nat
  addr : Nat
  flash : Option Nat
  deriving DecidableEq, Repr

/-! ### Selvedge (R431 to R470) -/

/-- The state record in force (R435). -/
structure StateRec where
  seq : Nat := 0
  bootCnt : Nat := 0
  copying : Bool := false
  digest : List Byte := []
  cardSeqA : Nat := 0
  cardSeqB : Nat := 0
  loomMap : Nat := 0
  stackMap : Nat := 0
  portMap : Nat := 0
  chanMap : Nat := 0
  deriving DecidableEq, Repr

/-- A command that Selvedge performs (R461): its OP, ARG0 to ARG3, and the header of the CMD message that brought it. -/
structure SlvCmd where
  op : Nat
  args : List Nat
  hdr : Option MgmtHdr
  deriving DecidableEq, Repr

/-- A TEST that drains its scope (R464): unit, test, the looms of the scope, and the bolts that Selvedge made DRAINING. -/
structure TestRun where
  unit : Nat
  test : Nat
  looms : List Nat
  bolts : List Nat
  deriving DecidableEq, Repr

/-- A message that left by the management port (R450). -/
structure MgmtMsg where
  /-- IPv6 addresses (R450, R452). -/
  src : Nat
  dst : Nat
  resp : Bool
  op : Nat
  seq : Nat
  status : Nat
  session : List Byte
  body : List Byte
  deriving DecidableEq, Repr

/-- What a signature pair is for (R460): the AUTH_PROOF of a port for the peer's nonce, the report of ASSAY_GET for a nonce, or the
ASSAY command. -/
inductive SignJob where
  | proof (port : Nat) (nonce : List Byte)
  | report (nonce : List Byte)
  | command
  deriving DecidableEq, Repr

/-- Selvedge's own state. -/
structure Mgmt where
  /-- The log SRAM: 64-byte records by ring index (R453). -/
  log : List (Nat × List Byte) := []
  /-- Time since RESET_N, in the units of FAB_EPOCH (R454). -/
  upTime : Nat := 0
  /-- Records of this second by SRC, INSTANCE and CODE (R455). -/
  rate : List ((Nat × Nat × Nat) × Nat) := []
  /-- Records lost and not yet reported: how many, and the first SEQ (R455). -/
  lost : Nat × Nat := (0, 0)
  /-- Boot flash by offset; an unlisted byte is erased (R434). -/
  flash : List Host.Cell := []
  /-- Next record of the LOG area (R456). -/
  logPos : Nat := 0
  /-- The state record in force, and the place of the STATE ring that the next one takes (R435). -/
  record : StateRec := {}
  recPos : Nat := 0
  /-- Fuses that no register shows: MAC_BASE and DEVICE_KEK (R436). -/
  macBase : Nat := 0
  kek : Nat := 0
  /-- The 8 MiB of SRAM that hold the running Ingot (R431, R441). -/
  sram : List Host.Cell := []
  /-- The stage buffer, and the length of the image in it that passed its checks (R444). -/
  stage : List Host.Cell := []
  staged : Option Nat := none
  /-- The Ingot that runs and the Ingot of the last cold reset, by their M (R446, R499). -/
  ingot : List Byte := []
  coldIngot : List Byte := []
  /-- The HOST_LOADER measurement (R443). -/
  loader : List Byte := []
  /-- The command under way, and the image or report that it has made. -/
  cmd : Option SlvCmd := none
  test : Option TestRun := none
  /-- The open session, and the nonce that AUTH sent (R451). -/
  session : Option (List Byte) := none
  challenge : Option (List Byte) := none
  /-- Recovery (R452): its REASON and the STATUS of the refusal. -/
  recovery : Option (Nat × Nat) := none
  /-- RECOVERY_N was low at cold reset. -/
  forced : Bool := false
  /-- The commit that this boot follows was made in recovery (R468). -/
  recovered : Bool := false
  /-- The boot stage that runs next; 0: none (R441). -/
  nextStage : Nat := 2
  /-- Where boot goes on once the Ingot has been verified: 3, 9 (it repeats no stage), or 0 (standby) (R432, R492). -/
  resume : Nat := 3
  /-- The HOST_LOADER segment of the Ingot of the last cold reset: DEST and bytes (R443, R446). -/
  hostSeg : Nat × List Byte := (0, [])
  /-- Times since RESET_N of the last watchdog events and brown-outs (R432, R492). -/
  dogs : List Nat := []
  brownouts : List Nat := []
  /-- The Assay report of a nonce (R458, R460). -/
  assay : Option (List Byte × List Byte) := none
  /-- Signature pairs that wait, and the pair under way with the time at which it is made (R460). -/
  signs : List SignJob := []
  signing : Option (SignJob × Nat) := none
  /-- The nonce whose report is being produced, and the ASSAY_GETs that wait for it, each with its offset (R460). -/
  making : Option (List Byte × List (MgmtHdr × Nat)) := none
  /-- The image that a CARD_PERSIST has read and is writing (R448, R504), or the digests that a PROVISION has read (R461). -/
  persisting : List Byte := []
  /-- The messages that have left by the management port, oldest first (R450). -/
  sent : List MgmtMsg := []
  /-- The management port runs 10GBASE-R (R450). -/
  slow : Bool := false
  /-- Ports and channels out of service, by bit (R467). -/
  outPorts : Nat := 0
  outChans : Nat := 0
  /-- Notification sources 2 and 4 (R514): BUSY has fallen and its status has not been read. -/
  cmdUnread : Bool := false
  cardUnread : Bool := false
  deriving DecidableEq, Repr

/-! ### Power, pins and the test access port (R471 to R496, R517 to R532) -/

/-- What the power blocks and the package hold beside their registers. -/
structure Power where
  /-- Periods at the limit, by die (R480). -/
  lim : List (Nat × Nat) := []
  /-- Domains with a wake held while ENTERING (R486). -/
  held : List Nat := []
  standby : Bool := false
  /-- Ethernet ports that were enabled when standby was entered (R489). -/
  ethAwake : List Nat := []
  /-- Ports that had the fabric personality then. -/
  fabAwake : List Nat := []
  /-- Rails that are enabled, by bit (R521, R524), and samples in a row out of range (R526). -/
  rails : Nat := 1
  railBad : List (Nat × Nat) := []
  /-- REFCLK_RACK is absent (R395, R527). -/
  rackLost : Bool := false
  /-- XSPI_RESET_N is high (R528). -/
  xspiReset : Bool := true
  /-- PWR_MAIN_EN is held low until cold reset (R526, R528). -/
  locked : Bool := false
  /-- PWR_MAIN_EN is high; THERMTRIP_N is driven low (R528). -/
  mainEn : Bool := false
  thermtrip : Bool := false
  /-- The host cores run (R443). -/
  cores : Bool := false
  /-- Ports on which the wake pattern was last sent (R490). -/
  wakeSent : List Nat := []
  deriving DecidableEq, Repr

/-- The IEEE 1149.1 test access port (R531): the controller's state, the instruction register, the shift registers, and the boundary
cells' update stage. -/
structure Tap where
  state : Nat := 0
  ir : Nat := 0xFF
  irShift : Nat := 0
  bypass : Bool := false
  /-- 717 cells, land i of the chain in place i. The spec gives them no reset value (log 3). -/
  shift : List Bool := List.replicate 717 false
  update : List Bool := List.replicate 717 false
  tdo : Bool := false
  /-- The AC test signal of IEEE 1149.6 (log 20). -/
  ac : Bool := false
  deriving DecidableEq, Repr

/-- The host-core platform (R35): the APLIC domain, the pending bits of the cores' IMSIC files, and the machine timer (log 101). -/
structure Plat where
  /-- domaincfg.IE. -/
  ie : Bool := false
  /-- Source modes of sourcecfg, enable and pending bits, and target registers, by source. -/
  mode : List (Nat × Nat) := []
  enabled : List (Nat × Nat) := []
  waits : List (Nat × Nat) := []
  target : List (Nat × Nat) := []
  /-- Sources whose rectified input was high when the domain last looked. -/
  high : List (Nat × Nat) := []
  /-- eip of the cores, by core × 2,048 + identity. -/
  eip : List (Nat × Nat) := []
  /-- mtime less the time that its clock has counted since RESET_N, modulo 2^64; mtimecmp by core. -/
  timeOff : Nat := 0
  timecmp : List (Nat × Nat) := []
  deriving DecidableEq, Repr

/-- The precise exception of a host core's access (R513), with the address. -/
inductive CoreExc where
  | loadAccessFault (addr : Nat)
  | instructionAccessFault (addr : Nat)
  deriving DecidableEq, Repr

/-- A write of the device's own that waits for the stacks to wake (R486). -/
structure Post where
  req : Requester
  tenant : Nat
  raw : Bool
  addr : Nat
  data : List Byte
  pois : List Bool
  deriving DecidableEq, Repr

/-! ### The whole device -/

/-- The state of the device. Register fields are entries of `flds` by bit address (an unlisted field holds its reset
value); memory is by local address (an unlisted byte reads zero). -/
structure State where
  /-- Register fields that do not hold their reset value (R10, R11). -/
  flds : List (Nat × Nat) := []
  /-- HBM as its DRAM holds it, scratchpads and Draft stores, by local address (R27, R28). -/
  mem : List Host.Cell := []
  /-- Poisoned granules by address: 8-byte scratchpad words and 64-byte HBM sectors (R259, R511). -/
  poison : List (Nat × Nat) := []
  /-- The looms. -/
  looms : List (Nat × Loom) := []
  /-- The ledger's requests in arrival order (R38). -/
  ledger : List LdgReq := []
  /-- Voltage rows that are pending or being slewed to, by loom, as row + 1 (R474). -/
  voltTo : List (Nat × Nat) := []
  /-- Sets of the memory-side caches by stack × 8,192 + set (R335). -/
  cache : List (Nat × List CLine) := []
  /-- XTS key pairs by key slot (R346). -/
  keys : List (Nat × Nat) := []
  /-- Error records waiting in their blocks, oldest first (R509). -/
  errs : List ErrRec := []
  /-- Records counted beyond four waiting, by block and code (R509). -/
  errDropped : List (ErrRec × Nat) := []
  /-- The sections of the active Card image by type (R414); none in force: empty. -/
  card : List (Nat × List Byte) := []
  /-- The fabric. -/
  fab : Fab := {}
  /-- The tier engines, the NAND and the leases. -/
  tiers : Tiers := {}
  /-- The serving controller. -/
  svc : Svc := {}
  /-- The Card image load under way. -/
  crd : Option CardLoad := none
  /-- Selvedge. -/
  mgmt : Mgmt := {}
  power : Power := {}
  tap : Tap := {}
  /-- Until when priority-based flow control pauses an Ethernet port's priorities, by port × 8 + priority (R403). -/
  pfc : List (Nat × Nat) := []
  /-- Accesses that wait for a domain to wake (R486). -/
  held : List Access := []
  /-- The device's own writes, and commands whose work reads HBM, that wait for the stacks to wake (R486). `stalled`: the command under way
  has met them asleep; it reads false between commands. -/
  posts : List Post := []
  waiting : List Instr := []
  stalled : Bool := false
  /-- The host-core platform (R35). -/
  plat : Plat := {}
  /-- The exception that the last read of a host core has raised (R513). -/
  coreExc : Option CoreExc := none
  /-- The answer to the last access. -/
  resp : Response := {}
  /-- How many free values the model has taken: the model's own field, not the spec's. -/
  freeCount : Nat := 0
  /-- Commands that wait, first in, first out. -/
  pending : List Instr := []
  deriving DecidableEq, Repr

/-- The device right after cold reset (R498). -/
def State.reset : State := {}

end Sys2Proof.Machine
end

