-- ==== Sys2Proof/Machine/Ops.lean ====
section
/-! DEFINITION. The named operations over the state: register fields, memory with its poison marks, loom state, free
values and error records. -/
namespace Sys2Proof.Machine

/-! ### Register fields (R10, R11) -/

/-- A register field's value, of the field's width. -/
def State.get (s : State) (f : Fld) : Nat := tget f.reset s.flds f.key % 2 ^ f.width

/-- Give a register field a value, cut to its width. -/
def State.set (s : State) (f : Fld) (v : Nat) : State :=
  { s with flds := tput f.reset s.flds f.key (v % 2 ^ f.width) }

/-- A one-bit field as a truth value. -/
def State.is (s : State) (f : Fld) : Bool := s.get f != 0

/-- Advance a wrapping counter. -/
def State.add (s : State) (f : Fld) (k : Nat) : State := s.set f (s.get f + k)

/-- Advance a counter that holds at its maximum. -/
def State.addHold (s : State) (f : Fld) (k : Nat) : State := s.set f (min (2 ^ f.width - 1) (s.get f + k))

/-- Give a field its reset value. -/
def State.clear (s : State) (f : Fld) : State := s.set f f.reset

/-- Give every field of a list its reset value. -/
def State.clearAll (s : State) (l : List Fld) : State := l.foldl State.clear s

/-- Set bit j of a map of 32-bit words. -/
def State.setMapBit (s : State) (w : Nat → Fld) (j : Nat) : State := s.set (w (j / 32)) (s.get (w (j / 32)) ||| 2 ^ (j % 32))

/-! ### Free values -/

/-- The next free value, cut to w bits. -/
def State.freeBits (s : State) (w : Nat) : Nat := (Config.freeValue s.freeCount).toNat % 2 ^ w

/-- Count a free value as taken. -/
def State.takeFree (s : State) : State := { s with freeCount := s.freeCount + 1 }

/-! ### Loom state -/

/-- The state of loom n. -/
def State.lm (s : State) (n : Nat) : Loom := tget Loom.reset s.looms n

/-- Change the state of loom n. -/
def State.setLm (s : State) (n : Nat) (l : Loom) : State := { s with looms := tput Loom.reset s.looms n l }

/-- Change the sequencer state of loom n. -/
def State.modSeq (s : State) (n : Nat) (f : Seq → Seq) : State := s.setLm n { s.lm n with seq := f (s.lm n).seq }
/-- Change the array state of loom n. -/
def State.modArr (s : State) (n : Nat) (f : Arr → Arr) : State := s.setLm n { s.lm n with arr := f (s.lm n).arr }
/-- Change the DMA state of loom n. -/
def State.modDma (s : State) (n : Nat) (f : Dma → Dma) : State := s.setLm n { s.lm n with dma := f (s.lm n).dma }
/-- Change the attention state of loom n. -/
def State.modAtt (s : State) (n : Nat) (f : Att → Att) : State := s.setLm n { s.lm n with att := f (s.lm n).att }
/-- Change the guard state of loom n. -/
def State.modGrd (s : State) (n : Nat) (f : Grd → Grd) : State := s.setLm n { s.lm n with grd := f (s.lm n).grd }
/-- Change the Bobbin state of loom n. -/
def State.modBob (s : State) (n : Nat) (f : Bob → Bob) : State := s.setLm n { s.lm n with bob := f (s.lm n).bob }
/-- Change the Shuttle state of loom n. -/
def State.modSht (s : State) (n : Nat) (f : Sht → Sht) : State := s.setLm n { s.lm n with sht := f (s.lm n).sht }
/-- Change the waiting operations of loom n. -/
def State.modPend (s : State) (n : Nat) (f : List Pend → List Pend) : State := s.setLm n { s.lm n with pend := f (s.lm n).pend }
/-- Change the scratchpad's own state of loom n. -/
def State.modSpd (s : State) (n : Nat) (f : Spd → Spd) : State := s.setLm n { s.lm n with spd := f (s.lm n).spd }

/-- Change the tiers' state. -/
def State.modTiers (s : State) (f : Tiers → Tiers) : State := { s with tiers := f s.tiers }
/-- Change the command that tier engine e performs. -/
def State.modTierOp (s : State) (e : Nat) (f : TierOp → TierOp) : State :=
  s.modTiers fun t => { t with ops := t.ops.map fun x => if x.1 = e then (x.1, f x.2) else x }

/-! ### Memory -/

/-- The base of HBM (R27). -/
def hbmBase : Nat := 0x10000000000

/-- Size of the granule that carries one poison mark at an address: an HBM sector or a scratchpad word (R511). -/
def granule (a : Nat) : Nat := if hbmBase ≤ a then 64 else 8

/-- One byte of memory by local address. -/
def State.byteAt (s : State) (a : Nat) : Byte := tget 0 s.mem a

/-- n bytes of memory from a local address. -/
def State.bytesAt (s : State) (a n : Nat) : List Byte := (List.range n).map fun i => s.byteAt (a + i)

/-- Store bytes from a local address. -/
def putBytes (m : List Host.Cell) : Nat → List Byte → List Host.Cell
  | _, [] => m
  | a, b :: t => putBytes (tput 0 m a b) (a + 1) t

/-- A granule that overlaps [a, a + n) is poisoned. -/
def State.poisoned (s : State) (a n : Nat) : Bool :=
  s.poison.any fun e => decide (e.1 < a + n) && decide (a < e.1 + granule e.1)

/-- How many granules that overlap [a, a + n) are poisoned. -/
def State.poisonCount (s : State) (a n : Nat) : Nat :=
  (s.poison.filter fun e => decide (e.1 < a + n) && decide (a < e.1 + granule e.1)).length

/-- The poison marks after a write to [a, a + n): every granule touched is marked when the data is poisoned; a granule
written whole with clean data loses its mark; one written in part keeps it (R259, R511). -/
def markRange (m : List (Nat × Nat)) (a n : Nat) (p : Bool) : List (Nat × Nat) :=
  let g := granule a
  if n = 0 then m
  else
    (List.range ((a + n - 1) / g - a / g + 1)).foldl (fun m i =>
      let k := (a / g + i) * g
      if p then tput 0 m k 1
      else if a ≤ k && k + g ≤ a + n then tput 0 m k 0 else m) m

/-- Write bytes with their poison to memory. -/
def State.memWrite (s : State) (a : Nat) (l : List Byte) (p : Bool) : State :=
  { s with mem := putBytes s.mem a l, poison := markRange s.poison a l.length p }

/-! ### Scratchpads (R250, R259, R533) -/

/-- The size of loom n's scratchpad (R28, R533). -/
def spadSize (n : Nat) : Nat := if kindOf n = 0 then 0x800000 else 0xC00000

/-- G, the block groups of loom n's array (R69). -/
def groups (n : Nat) : Nat := if kindOf n = 0 then 4 else 2

/-- K of loom n's tiles (R60). -/
def tileK (n : Nat) : Nat := 32 * groups n

/-- L_W of loom n (R70). -/
def loadCycles (n : Nat) : Nat := if kindOf n = 0 then 52 else 26

/-- n bytes of a scratchpad; bytes beyond it read as zero (R533). -/
def State.spRead (s : State) (n a len : Nat) : List Byte :=
  (List.range len).map fun i => if a + i < spadSize n then s.byteAt (lwin n + a + i) else 0

/-- A word of the range is poisoned. -/
def State.spPoisoned (s : State) (n a len : Nat) : Bool := s.poisoned (lwin n + a) (min len (spadSize n - a))

/-- Write bytes to a scratchpad; bytes beyond it are discarded (R533). -/
def State.spWrite (s : State) (n a : Nat) (l : List Byte) (p : Bool) : State :=
  s.memWrite (lwin n + a) (l.take (spadSize n - a)) p

/-- Poisoned words of a scratchpad range, without those that the operation at work has itself found uncorrectable (R259). -/
def State.spPoisonCount (s : State) (n a len : Nat) : Nat :=
  let m := min len (spadSize n - a)
  s.poisonCount (lwin n + a) m - ((s.lm n).spd.fresh.filter fun w => decide (w < a + m) && decide (a < w + 8)).length

/-- Count the poisoned words that an engine's reads of these ranges meet (R259). -/
def State.countPoison (s : State) (n : Nat) (ranges : List (Nat × Nat)) : State :=
  s.add (SPD_CNT_POISON_POISON n) ((ranges.map fun r => s.spPoisonCount n r.1 r.2).foldl (· + ·) 0)

/-- Every range lies inside loom n's scratchpad (R533). -/
def inSpad (n : Nat) (ranges : List (Nat × Nat)) : Bool := ranges.all fun r => decide (r.1 + r.2 ≤ spadSize n)

/-- The range that r rows of len bytes at a stride reach. -/
def rowsRange (base stride rows len : Nat) : Nat × Nat :=
  if rows = 0 || len = 0 then (base, 0) else (base, (rows - 1) * stride + len)

/-- The ranges that r rows of len bytes at a stride read, row by row (R259). -/
def rowReads (base stride rows len : Nat) : List (Nat × Nat) := (List.range rows).map fun r => (base + r * stride, len)

/-! ### Error records (R505 to R509) -/

/-- SEV of a CLASS (R507). -/
def sevOf (cls : Nat) : Nat := [2, 3, 2, 3, 3, 1, 4].getD cls 0

/-- The same event as far as merging goes: SRC, INSTANCE, CODE and ADDR (R509). -/
def sameEvent (a b : ErrRec) : Bool := a.src == b.src && a.inst == b.inst && a.code == b.code && a.addr == b.addr

/-- Count one more record that a block could not hold, by SRC, INSTANCE and CODE (R509). -/
def bumpDropped (l : List (ErrRec × Nat)) (r : ErrRec) : List (ErrRec × Nat) :=
  match l with
  | [] => [({ src := r.src, inst := r.inst, code := r.code, sev := 1 }, 1)]
  | (e, k) :: t => if e.src == r.src && e.inst == r.inst && e.code == r.code then (e, k + 1) :: t else (e, k) :: bumpDropped t r

/-- Merge into the waiting record of the same event, advancing its COUNT, which holds at 255 (R505, R509). -/
def mergeRec (l : List ErrRec) (r : ErrRec) : List ErrRec :=
  l.map fun e => if sameEvent e r then { e with count := min 255 (e.count + 1) } else e

/-- A block writes an error record: it merges, waits, or is counted beyond four (R509). -/
def State.report (s : State) (r : ErrRec) : State :=
  if s.errs.any fun e => sameEvent e r then { s with errs := mergeRec s.errs r }
  else if 4 ≤ (s.errs.filter fun e => e.src == r.src && e.inst == r.inst).length
  then { s with errDropped := bumpDropped s.errDropped r }
  else { s with errs := s.errs ++ [r] }

/-- An error record with its class's severity. -/
def mkRec (src inst code cls : Nat) (addr : Option Nat) (step tenant : Nat) (detail : List Nat) : ErrRec :=
  { src, inst, code, sev := sevOf cls, cls, addr, step, tenant, detail }

/-- Two little-endian bytes of a number. -/
def le16 (v : Nat) : List Nat := [v % 256, v / 256 % 256]
/-- Four little-endian bytes of a number. -/
def le32 (v : Nat) : List Nat := le16 v ++ le16 (v / 65536)

/-- This device's chip ID (R366). -/
def State.chip (s : State) : Nat := s.get FAB_ID_CHIP

/-- The requester that a packet stands for. -/
def Packet.requester (k : Packet) : Requester := .peer k.src (k.cls == 0)

/-- DETAIL of a decode record (R508): the requester's chip, its kind, its loom and UNIT. The collective engine, for which the
rule gives no kind, is written as a loom engine of loom 0xFF (log 21). -/
def State.reqDetail (s : State) (r : Requester) : List Nat :=
  match r with
  | .host => le16 s.chip ++ [0, 0, 0]
  | .selvedge => le16 s.chip ++ [1, 0, 0]
  | .loomEngine n u => le16 s.chip ++ [2, n.val, u]
  | .collective => le16 s.chip ++ [2, 0xFF, 0]
  | .peer c _ => le16 c ++ [3, 0, 0]

/-- A structure that block `src` of loom n may not act on (R6, R7) and that has no status path of its own is recorded. DESIGN CHOICE
(log 115): the code is that of a refused descriptor, 0x0201, which is R160's value too. -/
def State.refuseStruct (s : State) (src n : Nat) (a : Nat) (fabric : Bool) : State :=
  s.report { mkRec src n 0x201 2 (some a) (s.get (LOOM_STEP_STEP n)) 0 [] with fabric }

/-- An engine reads ranges whose addresses come from data (R259, R533): poisoned words are counted, and an access beyond the
scratchpad is recorded as UNMAPPED. -/
def State.dataReads (s : State) (n unit : Nat) (ranges : List (Nat × Nat)) : State :=
  (ranges.filter fun r => decide (r.2 ≠ 0) && decide (spadSize n < r.1 + r.2)).foldl (fun s r =>
    s.report (mkRec 0 n 0x301 2 (some (lwin n + max r.1 (spadSize n))) (s.get (LOOM_STEP_STEP n)) 0 (le16 s.chip ++ [2, n, unit])))
    (s.countPoison n ranges)

/-! ### Bolts (R22, R419) -/

/-- The BOLTS entry of bolt b in the Card image in force; all zero with no image. -/
def State.boltEntry (s : State) (b : Nat) : List Byte := slice (tget [] s.card 3) (64 * b) 64

/-- Bolt b is defined. -/
def State.boltValid (s : State) (b : Nat) : Bool := bitOf (leAt (s.boltEntry b) 0 4) 4

/-- Loom n belongs to bolt b. -/
def State.inBolt (s : State) (b n : Nat) : Bool := s.boltValid b && bitOf (leAt (s.boltEntry b) 8 18) n

/-- The bolt of loom n. -/
def State.boltOf (s : State) (n : Nat) : Option Nat := (List.range 64).find? fun b => s.inBolt b n

/-- The looms of bolt b in ascending order. -/
def State.boltLooms (s : State) (b : Nat) : List Nat := (List.range 144).filter fun n => s.inBolt b n

/-- The looms that act with loom n: its bolt's, or itself alone. -/
def State.groupOf (s : State) (n : Nat) : List Nat :=
  match s.boltOf n with
  | some b => s.boltLooms b
  | none => [n]

/-- The latched step number of loom n (R237). -/
def State.stepOf (s : State) (n : Nat) : Nat := s.get (LOOM_STEP_STEP n)

/-! ### Answers and domains (R31, R486) -/

/-- Answer an access: the status, bytes and poison mark of the response (R31, R512). -/
def State.answer (s : State) (status : Nat) (data : List Byte) (poison : Bool) : State := { s with resp := ⟨status, data, poison⟩ }

/-- A wake event for domain d: from LOW it moves to WAKING; in ENTERING it is held. -/
def State.wakeOne (s : State) (d : Nat) : State :=
  match s.get (PWR_DOM_STATE d) with
  | 1 => s.set (PWR_DOM_STATE d) 2
  | 4 => { s with power := { s.power with held := d :: s.power.held.filter fun x => x != d } }
  | _ => s

/-- A wake event for domain d; the twelve stacks wake together (R485). -/
def State.wakeDomain (s : State) (d : Nat) : State :=
  if 144 ≤ d && d < 156 then (List.range 12).foldl (fun s k => s.wakeOne (144 + k)) s else s.wakeOne d

/-- Domain d is LOW, WAKING or ENTERING: a requester waits (R486). -/
def State.asleep (s : State) (d : Nat) : Bool :=
  s.get (PWR_DOM_STATE d) == 1 || s.get (PWR_DOM_STATE d) == 2 || s.get (PWR_DOM_STATE d) == 4

/-- The stacks, which sleep together (R485), are not all awake. -/
def State.stacksAsleep (s : State) : Bool := (List.range 12).any fun k => s.asleep (144 + k)

end Sys2Proof.Machine
end

