-- ==== Sys2Proof/Machine/Sequencer.lean ====
section
/-! DEFINITION. What every Draft word shares: reading words from the Draft store, the checks at issue, Draft faults, holds and
pauses, and requests to the Current Ledger (R36 to R39, R229 to R249, R475 to R478). -/
namespace Sys2Proof.Machine

/-! ### Draft words (R229, R230, R233) -/

/-- Local address of a Draft store offset (R28, R229). -/
def draftAddr (n off : Nat) : Nat := lwin n + 0xE00000 + off

/-- A field of len bytes of the Draft store. -/
def State.draftNat (s : State) (n off len : Nat) : Nat := leNat (s.bytesAt (draftAddr n off) len)

/-- WORDS and ENTRY of the Draft header (R230). -/
def State.draftWords (s : State) (n : Nat) : Nat := bits (s.draftNat n 0 4) 16 16
def State.draftEntry (s : State) (n : Nat) : Nat := bits (s.draftNat n 4 4) 0 16

/-- A Draft word (R233). -/
structure DWord where
  delta : Nat
  unit : Nat
  op : Nat
  rsv : Nat
  budget : Nat
  slack : Nat
  lmode : Nat
  layer : Nat
  arg : Nat
  deriving DecidableEq, Repr

/-- The fields of a 128-bit Draft word (R233). -/
def wordOf (v : Nat) : DWord :=
  { delta := bits v 0 16, unit := bits v 16 4, op := bits v 20 6, rsv := bits v 26 6 + bits v 80 16,
    budget := bits v 32 16, slack := bits v 48 16, lmode := bits v 64 8, layer := bits v 72 8, arg := bits v 96 32 }

/-- Word i of loom n's Draft (R229). -/
def State.draftWord (s : State) (n i : Nat) : DWord := wordOf (s.draftNat n (0x40 + 16 * i) 16)

/-- What R234 gives an operation: the ARG bits it uses, and whether it uses BUDGET and SLACK. None: no such operation. -/
def opShape (unit op arg : Nat) : Option (Nat × Bool × Bool) :=
  match unit with
  | 0 => match op with
    | 0 | 1 | 2 | 4 => some (0, false, false)
    | 3 => some (0xFFFF, false, false)
    | 5 => some (0xFFFFFF, false, false)
    | 6 => if arg % 16 = 2 then some (0xF, true, true) else if arg % 16 ≤ 1 then some (0xFF0F, true, true) else none
    | 7 => some (0, true, true)
    | 8 => some (0xFFFFFFFF, false, false)
    | _ => none
  | 1 => if op = 0 then some (0xFFFFFFFF, true, true) else none
  | 2 => if op = 0 then some (0x1FFFFFF, false, false) else if op = 1 then some (0, false, false) else none
  | 3 => if op ≤ 3 then some (0xFFFFFFFF, false, false) else none
  | 4 => if op ≤ 1 then some (0xFFFFFFFF, false, false) else none
  | 5 => if op ≤ 6 then some (0xFFFFFFFF, false, false) else none
  | 6 => if op = 0 then some (0xFFFFFFFF, false, false) else none
  | 7 => if op = 0 then some (3, false, false) else if op = 1 then some (0, false, true) else none
  | 8 => if op ≤ 7 then some (0xFFFFFFFF, false, false) else none
  | _ => none

/-- A reserved or unused field of the word is nonzero (R234). -/
def wordBad (w : DWord) (sh : Nat × Bool × Bool) : Bool :=
  w.rsv != 0 || (w.arg &&& sh.1) != w.arg || (!sh.2.1 && w.budget != 0) || (!sh.2.2 && w.slack != 0)

/-! ### Busy units and idleness (R235, R237) -/

/-- The array still runs an operation whose barrier has not fallen (R235). -/
def State.arrBusy (s : State) (n : Nat) : Bool := (s.lm n).arr.ops.any fun o => !o.barrier && !o.items.isEmpty

/-- The DMA unit still performs an operation (R235). -/
def State.dmaBusy (s : State) (n : Nat) : Bool :=
  (s.lm n).dma.tload.isSome || (s.lm n).dma.tbl.isSome || (s.lm n).dma.op.isSome

/-- A unit of R233 still performs its previous operation (R235). -/
def State.unitBusy (s : State) (n u : Nat) : Bool :=
  match u with
  | 1 => s.arrBusy n
  | 3 => s.dmaBusy n
  | 4 => s.is (ATT_STATUS_BUSY n)
  | 5 => s.is (BRZ_STATUS_BUSY n)
  | 6 => s.is (BOB_STATUS_BUSY n)
  | 8 => s.is (SHT_STATUS_BUSY n)
  | _ => false

/-- No engine of the loom runs an operation, and no result is in flight (R190, R237). -/
def State.opsIdle (s : State) (n : Nat) : Bool :=
  (s.lm n).arr.ops.isEmpty && !s.dmaBusy n && !s.is (ATT_STATUS_BUSY n) && !s.is (BRZ_STATUS_BUSY n)
    && !s.is (BOB_STATUS_BUSY n) && !s.is (SHT_STATUS_BUSY n)

/-- The loom has done what GCHECK waits for before its vote (R190): nothing is in flight, no drain runs, and every operation that was
issued in the span has completed. -/
def State.spanIdle (s : State) (n : Nat) : Bool :=
  !s.is (ACC_STATUS_IN_FLIGHT n) && !s.is (ACC_STATUS_DRAIN_BUSY n)
    && (s.lm n).arr.ops.all (fun o => !o.span) && (s.lm n).grd.units.all fun u => u == 1 || !s.unitBusy n u

/-- A hold or a slip stops the loom (R241). -/
def State.frozen (s : State) (n : Nat) : Bool := !(s.lm n).seq.holds.isEmpty || (s.lm n).seq.slip != 0

/-- The cause of the hold under way, 8 for a slip, 9 for none. -/
def State.holdCause (s : State) (n : Nat) : Nat :=
  if (s.lm n).seq.slip != 0 then 8 else match (s.lm n).seq.holds with | h :: _ => h.cause | [] => 9

/-- The engines other than the array stand still (R241). -/
def State.still (s : State) (n : Nat) : Bool := s.frozen n

/-- The array stands still: it completes its tile in a SPARSE hold or a slip (R241). -/
def State.arrStill (s : State) (n : Nat) : Bool := s.frozen n && s.holdCause n != 2 && s.holdCause n != 8

/-! ### The Current Ledger (R36 to R39, R475 to R477) -/

/-- CSCALE of a voltage row (R471). -/
def cscale (row : Nat) : Nat := [113, 144, 178, 214, 235, 256, 286, 305].getD row 305

/-- The row that prices a request of loom n (R476). -/
def State.priceRow (s : State) (n : Nat) : Nat := max (s.get (PWR_LOOM_OPP_ROW n)) (tget 0 s.voltTo n - 1)

/-- The cost of the set LMODE bits on loom kind k (R475). -/
def lmodeCost (lmode k : Nat) : Nat :=
  ((List.range 6).map fun b => if bitOf lmode b then ldgCost (2 * b + k) else 0).foldl (· + ·) 0

/-- The size of a tile request (R476). -/
def State.requestSize (s : State) (n lmode : Nat) : Nat :=
  ceilDiv (lmodeCost lmode (kindOf n) * cscale (s.priceRow n)) 256

/-- FREE: the pool less what is outstanding (R493). -/
def State.poolFree (s : State) : Nat :=
  s.get LDG_BUDGET_BUDGET - s.get LDG_RESERVE_RESERVE - s.get LDG_STATUS_OUTSTANDING

/-- LDG_STATUS.FREE and LDG_HEAD follow the ledger's state (R493). -/
def State.ledgerShow (s : State) : State :=
  let s := s.set LDG_STATUS_FREE s.poolFree
  match s.ledger with
  | [] => ((s.set LDG_HEAD_VALID 0).set LDG_HEAD_LOOM 0).set LDG_HEAD_REQ 0
  | r :: _ => ((s.set LDG_HEAD_VALID 1).set LDG_HEAD_LOOM r.loom).set LDG_HEAD_REQ r.credits

/-- Hand credits to loom n. -/
def State.takeCredits (s : State) (n k : Nat) : State :=
  ((s.add (LDG_CREDIT_HELD n) k).add LDG_STATUS_OUTSTANDING k).ledgerShow

/-- The loom returns every credit it holds (R37). -/
def State.returnCredits (s : State) (n : Nat) : State :=
  let h := s.get (LDG_CREDIT_HELD n)
  ((s.set LDG_STATUS_OUTSTANDING (s.get LDG_STATUS_OUTSTANDING - h)).set (LDG_CREDIT_HELD n) 0).ledgerShow

/-- The open tile ends: its credits go back and no tile is open (R37, R236). -/
def State.closeTile (s : State) (n : Nat) : State := (s.returnCredits n).modSeq n fun q => { q with tile := none }

/-! ### Draft faults (R248, R249) -/

/-- A stopped loom whose engines have finished returns the open tile's credits (R248). -/
def State.settle (s : State) (n : Nat) : State :=
  if s.is (LOOM_STATUS_FAULT n) && (s.lm n).seq.tile.isSome && s.opsIdle n then s.closeTile n else s

/-- A Draft fault on word pc of loom n (R248): the sequencer stops, LOOM_FAULT and FAULT are set, an error record is written,
and every other loom of the bolt sets PEER_FAULT. -/
def State.draftFault (s : State) (n pc unit cause : Nat) : State :=
  let s := s.modSeq n fun q => { q with pause := none, atStep := false, launch := none, stopReq := false }
  let s := s.report (mkRec 0 n (0x200 + cause) 3 none (s.stepOf n) 0 (le16 pc ++ [unit]))
  let s := ((s.groupOf n).filter (· != n)).foldl (fun s m => s.set (LOOM_STATUS_PEER_FAULT m) 1) s
  (((((s.set (LOOM_FAULT_PC n) pc).set (LOOM_FAULT_UNIT n) unit).set (LOOM_FAULT_CAUSE n) cause).set
    (LOOM_STATUS_RUN n) 0).set (LOOM_STATUS_FAULT n) 1).settle n

/-- A Draft fault on the next word (R248). -/
def State.wordFault (s : State) (n unit cause : Nat) : State := s.draftFault n (s.lm n).seq.next unit cause

/-- A Draft fault with cause ENGINE that sets the unit's own error bit (R249). -/
def State.engineFault (s : State) (n unit : Nat) (bit : Fld) : State := (s.set bit 1).wordFault n unit 4

/-! ### Holds (R241, R244) -/

/-- Count the event of the hold that begins and show it in LOOM_STATUS (R244, R261). -/
def State.showHold (s : State) (n : Nat) : State :=
  match (s.lm n).seq.holds with
  | [] => s.set (LOOM_STATUS_HOLD n) 0
  | h :: _ =>
    let s := (s.add (LOOM_HOLD_CNT_EVENTS n h.cause) 1).add (LOOM_STEP_HOLD_EVENTS n h.cause) 1
    (s.set (LOOM_STATUS_HOLD n) 1).set (LOOM_STATUS_HOLD_CAUSE n) h.cause

/-- A hold falls due: it begins, or it waits for the one under way to end (R241). -/
def State.addHolds (s : State) (n : Nat) (l : List Hold) : State :=
  if l.isEmpty then s
  else if s.frozen n then s.modSeq n fun q => { q with holds := q.holds ++ l }
  else (s.modSeq n fun q => { q with holds := l }).showHold n

/-- A slip of k cycles, then the holds that remain (R246). -/
def State.addSlip (s : State) (n k : Nat) : State :=
  if k = 0 then s
  else
    let s := s.modSeq n fun q => { q with slip := k, slipped := q.slipped + k, pool := q.pool - k }
    (s.add (LOOM_SLIP_CYCLES n) k).set (LOOM_STATUS_SLIP n) 1

/-- Loom cycles pass in the step (R244). -/
def State.tickLoom (s : State) (n k : Nat) : State := s.modSeq n fun q => { q with cycles := q.cycles + k }

/-! ### Memory events of an operation (R252, R253, R257 to R259) -/

/-- Bank of a scratchpad address (R250). -/
def bankOf (a : Nat) : Nat := 4 * (a / 0x100000) + a / 64 % 4

/-- DETAIL of a scratchpad record (R508). -/
def spadDetail (a : Nat) : List Nat := [bankOf a, 0] ++ le16 (a / 256 % 4096) ++ [a / 8 % 8]

/-- A corrected word is counted, and classified by its second read (R257, R258). -/
def State.eccLasting (s : State) (n a : Nat) : State :=
  let b := bankOf a
  let known := tget [] (s.lm n).spd.lasting b
  let s := (s.add (SPD_CNT_LASTING_LASTING n) 1).report (mkRec 3 n 0x102 0 (some (lwin n + a)) (s.stepOf n) 0 (spadDetail a))
  let s := (s.set (SPD_ERR_LASTING n) 1).set (SPD_ERR_ADDR_ADDR n) a
  if known.contains a then s
  else
    let s := s.modSpd n fun p => { p with lasting := tput [] p.lasting b (a :: known.take 3) }
    let s := s.addHold (SPD_BANK_LASTING_COUNT n b) 1
    if s.get (SPD_BANK_LASTING_COUNT n b) > s.get (SPD_LAST_THR_THR n) then s.set (SPD_STATUS_BENCH_REQ n) 1 else s

/-- A scratchpad word in error (R257, R259). A word that is poisoned already has the syndrome of a poisoned word and is no new
error. -/
def State.eccEvent (s : State) (n : Nat) (e : SpadEv) : State :=
  let a := e.addr / 8 * 8
  if tget 0 s.poison (lwin n + a) != 0 then s
  else match e.kind with
    | .transient => (s.add (SPD_CNT_CORR_CORR n) 1).add (SPD_CNT_TRANSIENT_TRANSIENT n) 1
    | .lasting => (s.add (SPD_CNT_CORR_CORR n) 1).eccLasting n a
    | .merged => s.add (SPD_CNT_CORR_CORR n) 1
    | .uncorrectable =>
      let s := { s with poison := tput 0 s.poison (lwin n + a) 1 }
      let s := s.modSpd n fun p => { p with fresh := a :: p.fresh }
      let s := (s.add (SPD_CNT_UNCORR_UNCORR n) 1).report (mkRec 3 n 0x101 1 (some (lwin n + a)) (s.stepOf n) 0 (spadDetail a))
      (s.set (SPD_ERR_UNCORR n) 1).set (SPD_ERR_ADDR_ADDR n) a

/-- Words in error that an access meets. -/
def State.eccEvents (s : State) (n : Nat) (l : List SpadEv) : State := l.foldl (fun s e => s.eccEvent n e) s

/-- The words found uncorrectable are now poisoned words like any other (R259). -/
def State.eccSeen (s : State) (n : Nat) : State := s.modSpd n fun p => { p with fresh := [] }

/-- The hold of a Draft cycle with a word that its reads corrected (R257, R259). -/
def eccHold (l : List SpadEv) : List Hold :=
  if l.any fun e => e.kind == .transient || e.kind == .lasting then [⟨0, some 3⟩] else []

/-- The banks that an access touches: those of the lines it covers (R251). -/
def banksOf (a : PortAccess) : List Nat :=
  (List.range ((a.addr + a.len - 1) / 64 - a.addr / 64 + 1)).map fun i => bankOf (64 * (a.addr / 64 + i))

/-- k of a bank: the accesses of one Draft cycle that touch it (R252). -/
def bankLoad (l : List PortAccess) (b : Nat) : Nat := l.countP fun a => (banksOf a).contains b

/-- The banks that serve a Draft cycle over more than one loom cycle, ascending (R252). -/
def conflictBanks (l : List PortAccess) : List Nat := (List.range 48).filter fun b => decide (2 ≤ bankLoad l b)

/-- The accesses of a Draft cycle beyond the first of each bank (R253). -/
def extraAccesses (l : List PortAccess) : Nat := ((conflictBanks l).map fun b => bankLoad l b - 1).sum

/-- The largest k - 1 over all banks (R252). -/
def conflictCycles (l : List PortAccess) : Nat := ((conflictBanks l).map fun b => bankLoad l b - 1).foldl max 0

/-- The ports with an access to a conflicting bank, by bit (R251, R253). -/
def conflictPorts (l : List PortAccess) : Nat :=
  (l.filter fun a => (conflictBanks l).any (banksOf a).contains).foldl (fun m a => m ||| 2 ^ a.port.val) 0

/-- The hold of a Draft cycle with a bank conflict (R252). -/
def conflictHold (l : List PortAccess) : List Hold :=
  if (conflictBanks l).isEmpty then [] else [⟨1, some (conflictCycles l)⟩]

/-- The accesses of the engines in one Draft cycle: a bank conflict is counted, shown and, the first of a step, recorded (R252, R253).
The word of the conflict is the last one issued. -/
def State.conflict (s : State) (n : Nat) (l : List PortAccess) : State :=
  match conflictBanks l with
  | [] => s
  | b :: _ =>
    let s := s.add (SPD_CNT_CONFLICT_EXTRA n) (extraAccesses l)
    let s := if (s.lm n).seq.confSeen then s
      else (s.modSeq n fun q => { q with confSeen := true }).report (mkRec 3 n 0x100 5 none (s.stepOf n) 0 [])
    (((s.set (SPD_ERR_CONFLICT n) 1).set (SPD_CONFLICT_LAST_BANK n) b).set (SPD_CONFLICT_LAST_PORTS n) (conflictPorts l)).set
      (SPD_CONFLICT_LAST_PC n) (s.get (LOOM_PC_PC n))

/-- The holds that an operation's memory events cause, cycle by cycle (R252, R257). -/
def evHolds (ev : CycleEvs) : List Hold := ev.ecc.flatMap eccHold ++ ev.cycles.flatMap conflictHold

/-- The unit whose accesses a port carries has an operation under way (R251): AW carries tile loads, AR the array's rows and partial sums
and the window loads, AT attention, BZ the Bronze unit, DM the loom DMA's own moves and table loads, SH the Shuttle, BB the Bobbin. -/
def State.portActive (s : State) (n : Nat) (p : Fin 7) : Bool :=
  match p with
  | 0 => (s.lm n).dma.tload.isSome
  | 1 => s.arrBusy n || decide ((s.lm n).seq.cycles < (s.lm n).seq.accFree)
  | 2 => s.unitBusy n 4
  | 3 => s.unitBusy n 5
  | 4 => (s.lm n).dma.op.isSome || (s.lm n).dma.tbl.isSome
  | 5 => s.unitBusy n 8
  | 6 => s.unitBusy n 6

/-- Another write of the cycle, of a port that comes later, covers byte x (R252). -/
def laterWrite (l : List PortAccess) (p : Fin 7) (x : Nat) : Bool :=
  l.any fun b => b.write && decide (p < b.port) && decide (b.addr ≤ x) && decide (x < b.addr + b.len)

/-- The write `a` of a cycle stands in the bytes where it meets a write of a later port (R252). -/
def State.landFirst (s : State) (n : Nat) (l : List PortAccess) (a : PortAccess) : State :=
  (List.range a.data.length).foldl (fun s i =>
    if laterWrite l a.port (a.addr + i) then s.spWrite n (a.addr + i) ((a.data.drop i).take 1) (s.spPoisoned n (a.addr + i) 1) else s) s

/-- The writes of one Draft cycle land (R252): where two cover the same byte, that of the port that comes first in R251 lands last. -/
def State.landTogether (s : State) (n : Nat) (l : List PortAccess) : State :=
  ((List.range 7).reverse.flatMap fun p => l.filter fun a => a.write && a.port.val == p).foldl (fun s a => s.landFirst n l a) s

/-- The accesses of a Draft cycle that the engines at work make (R251): those of a port whose unit has nothing under way are none. -/
def State.engineAccesses (s : State) (n : Nat) (l : List PortAccess) : List PortAccess := l.filter fun a => s.portActive n a.port

/-- An operation with its memory events (R252 to R259): the words in error are found before the operation reads, so that it takes an
uncorrectable word poisoned; where the word issues, the accesses of the engines then at work land, their conflicts count and the holds
fall due. A word that does not issue meets none. -/
def State.withEvents (s : State) (n : Nat) (ev : CycleEvs) (f : State → State) : State :=
  if ((f s).lm n).seq.next = (s.lm n).seq.next then f s
  else
    let t := (f (s.eccEvents n ev.ecc.flatten)).eccSeen n
    if (t.lm n).seq.next = (s.lm n).seq.next then t
    else
      let cycles := ev.cycles.map (t.engineAccesses n)
      (cycles.foldl (fun t l => (t.landTogether n l).conflict n l) t).addHolds n (evHolds { ev with cycles })

/-! ### Issue (R234 to R236) -/

/-- LMODE bit that covers a unit (R236). -/
def lmodeBit (u : Nat) : Option Nat :=
  match u with
  | 3 => some 3 | 4 => some 2 | 5 => some 4 | 6 => some 5 | 8 => some 3 | _ => none

/-- The word opens a tile (R236). -/
def opensTile (w : DWord) : Bool := (w.unit == 1 && w.op == 0) || (w.unit == 0 && w.op == 7)

/-- The word breaks the tile rule (R236). -/
def State.tileBroken (s : State) (n : Nat) (w : DWord) : Bool :=
  if opensTile w then
    (s.lm n).seq.tile.isSome
      || [3, 4, 5, 6, 8].any fun u => s.unitBusy n u && !bitOf w.lmode ((lmodeBit u).getD 0)
  else match lmodeBit w.unit with
    | none => false
    | some b => match (s.lm n).seq.tile with
      | none => true
      | some t => !bitOf t.lmode b

/-- The sequencer can issue a word now: it runs, it does not pause or idle at STEP, and nothing holds it. -/
def State.canIssue (s : State) (n : Nat) : Bool :=
  s.is (LOOM_STATUS_RUN n) && !s.is (LOOM_STATUS_FAULT n) && !s.is (LOOM_STATUS_BENCHED n)
    && (s.lm n).seq.pause.isNone && !(s.lm n).seq.atStep && !s.frozen n

/-- Why the next word cannot issue as the named operation, or the word. -/
inductive Fetched where
  /-- The sequencer issues nothing now, or its next word names another operation. -/
  | idle
  /-- The word is a Draft fault with this cause (R249). -/
  | bad (unit cause : Nat)
  /-- The word issues. -/
  | ok (w : DWord)
  deriving DecidableEq, Repr

/-- The next word of loom n, checked as an operation `op` of `unit` (R234 to R238). -/
def State.fetchWord (s : State) (n unit op : Nat) : Fetched :=
  let q := (s.lm n).seq
  if !s.canIssue n then .idle
  else if s.draftWords n ≤ q.next then .bad 0 9
  else
    let w := s.draftWord n q.next
    match opShape w.unit w.op w.arg with
    | none => .bad w.unit 2
    | some sh =>
      if w.unit != unit || w.op != op then .idle
      else if wordBad w sh || (opensTile w && w.lmode / 64 != 0) then .bad unit 3
      else if (w.delta == 0 && q.issued.contains unit) || s.unitBusy n unit || (unit == 2 && decide (q.cycles + w.delta < q.accFree)) then
        .bad unit 5
      else if s.tileBroken n w then .bad unit 6
      else .ok w

/-- A unit's operation issues in the open span, or outside it (R190). -/
def State.spanUnit (s : State) (n u : Nat) : State :=
  s.modGrd n fun g => { g with units := g.units.filter (· != u) ++ (if s.is (GRD_STATUS_SPAN_OPEN n) then [u] else []) }

/-- The word issues (R235): LOOM_PC names it, the next word follows, and its DELTA has passed. -/
def State.advance (s : State) (n : Nat) (w : DWord) : State :=
  let pc := (s.lm n).seq.next
  ((s.spanUnit n w.unit).modSeq n fun q => { q with next := pc + 1, cycles := q.cycles + w.delta,
                                                    issued := if w.delta = 0 then w.unit :: q.issued else [w.unit] }).set (LOOM_PC_PC n) pc

/-- The next word is a table load into a slot that a DMA operation in flight names (R153). -/
def State.tblBusy (s : State) (n : Nat) : Bool :=
  let t := leAt (s.bytesAt (draftAddr n (s.draftWord n (s.lm n).seq.next).arg) 64) 4 4
  let d := (s.lm n).dma
  (match d.tload with | some x => x.2.2 == t | none => false) || (match d.tbl with | some x => x.1 == t | none => false)
    || (match d.op with | some x => x.2 == some t | none => false)

/-- The unit's own error bit for a word that finds it busy: the Bobbin's, and the DMA's for a table load (R153, R207, R235). -/
def State.busyBit (s : State) (n unit op cause : Nat) : State :=
  if cause != 5 then s
  else if unit = 6 then s.set (BOB_ERR_BUSY n) 1
  else if unit = 3 && op = 3 && s.tblBusy n then s.set (DMA_ERR_TBL_BUSY n) 1
  else s

/-- Issue the next word as operation `op` of `unit`: nothing, a Draft fault, or what `k` makes of the word, which is given
the state before the issue. -/
def State.issue (s : State) (n unit op : Nat) (k : DWord → State) : State :=
  match s.fetchWord n unit op with
  | .idle => s
  | .bad u c =>
    (s.busyBit n u op c).draftFault n (s.lm n).seq.next u c
  | .ok w => k w

/-! ### Parameter blocks (R240) -/

/-- A parameter block's ARG is misplaced (R229, R240). -/
def State.blockMisplaced (s : State) (n arg : Nat) : Bool :=
  arg % 64 != 0 || decide (arg < 0x40 + 16 * s.draftWords n) || decide (0x100000 < arg + 64)

/-- The 64 bytes of a parameter block. -/
def State.blockBytes (s : State) (n arg : Nat) : List Byte := s.bytesAt (draftAddr n arg) 64

/-- The header word and the fifteen slots of a parameter block (R240). -/
structure Block where
  hdr : Nat
  slots : List Nat
  deriving DecidableEq, Repr

/-- A parameter block of 64 bytes (R240). -/
def blockOf (l : List Byte) : Block :=
  { hdr := leAt l 0 4, slots := (List.range 15).map fun i => leAt l (4 + 4 * i) 4 }

/-- Slot i of a block. -/
def Block.slot (b : Block) (i : Nat) : Nat := b.slots.getD i 0

/-- The block is refused under R6, R7, R41 and R240: its level, a header bit that does not serve this word (`used` are those
that do), a reserved format, or an unused slot (from `nslots` on) that is not zero. -/
def blockBad (b : Block) (used nslots : Nat) : Bool :=
  b.hdr % 16 != 2 || (b.hdr &&& (used ||| 0xF)) != b.hdr || decide (7 < bits b.hdr 4 4) || (b.slots.drop nslots).any (· != 0)

/-- A word that pauses issue (R245). -/
def State.beginPause (s : State) (n : Nat) (k : PauseKind) (budget slack : Nat) : State :=
  s.modSeq n fun q => { q with pause := some ⟨k, budget, slack, false⟩ }

/-- The pause ends after k cycles, and its end is the word's issue point (R235): no unit has issued in that cycle, unless the pause took
none. -/
def State.endPause (s : State) (n k : Nat) : State :=
  s.modSeq n fun q => { q with pause := none, issued := if k = 0 then q.issued else [] }

/-- The sequencer stops (R231, R248). -/
def State.stopSeq (s : State) (n : Nat) : State :=
  (s.modSeq n fun q => { q with pause := none, atStep := false, launch := none, stopReq := false }).set (LOOM_STATUS_RUN n) 0

end Sys2Proof.Machine
end

