-- ==== Sys2Proof/Machine/Flags.lean ====
section
/-! DEFINITION. The precision guard's counters, votes and window adjustments (chapter 7). -/
namespace Sys2Proof.Machine

/-- What an operation adds to the guard's counters (R192). -/
structure Counts where
  asat : Nat := 0
  azero : Nat := 0
  avals : Nat := 0
  csat : Nat := 0
  czero : Nat := 0
  cterms : Nat := 0
  deriving DecidableEq, Repr

/-- Sum of two counts. -/
def addCounts (a b : Counts) : Counts :=
  ⟨a.asat + b.asat, a.azero + b.azero, a.avals + b.avals, a.csat + b.csat, a.czero + b.czero, a.cterms + b.cterms⟩

/-- Sum of a list of counts. -/
def sumCounts (l : List Counts) : Counts := l.foldl addCounts {}

/-- Counts of a block read with scale code 0xFF (R46, R192). -/
def nanBlock : Counts := { asat := 32, avals := 32 }

/-- Feed the guard of loom n (R192): the span's counters, which hold at their maximum, or, for an operation outside any span, the
totals (R188). -/
def State.guardAdd (s : State) (n : Nat) (span : Bool) (c : Counts) : State :=
  if span then
    (((((s.addHold (GRD_CNT_ASAT_ASAT n) c.asat).addHold (GRD_CNT_AZERO_AZERO n) c.azero).addHold
      (GRD_CNT_AVALS_AVALS n) c.avals).addHold (GRD_CNT_CSAT_CSAT n) c.csat).addHold
      (GRD_CNT_CZERO_CZERO n) c.czero).addHold (GRD_CNT_CTERMS_CTERMS n) c.cterms
  else (s.add (GRD_TOT_ASAT_ASAT n) c.asat).add (GRD_TOT_CSAT_CSAT n) c.csat

/-- Feed the guard with the counts of an operation that issues now. -/
def State.guardCount (s : State) (n : Nat) (c : Counts) : State := s.guardAdd n (s.is (GRD_STATUS_SPAN_OPEN n)) c

/-- The six counters of the current pass, in the order of GRD_LAST (R205). -/
def State.guardNow (s : State) (n : Nat) : List Nat :=
  [s.get (GRD_CNT_ASAT_ASAT n), s.get (GRD_CNT_AZERO_AZERO n), s.get (GRD_CNT_AVALS_AVALS n),
   s.get (GRD_CNT_CSAT_CSAT n), s.get (GRD_CNT_CZERO_CZERO n), s.get (GRD_CNT_CTERMS_CTERMS n)]

/-- Clear the counters of the pass (R193). -/
def State.guardZero (s : State) (n : Nat) : State :=
  s.clearAll [GRD_CNT_ASAT_ASAT n, GRD_CNT_AZERO_AZERO n, GRD_CNT_AVALS_AVALS n, GRD_CNT_CSAT_CSAT n,
    GRD_CNT_CZERO_CZERO n, GRD_CNT_CTERMS_CTERMS n]

/-- One test of R194: a threshold of 0xFFFF disables it. -/
def tripTest (thr num den : Nat) : Bool := thr != 0xFFFF && decide (num * 65536 > thr * den)

/-- The tests that trip, as GRD_LAST_VOTE.TESTS (R194, R205). -/
def tripTests (thr : List Nat) (c : List Nat) : Nat :=
  b2n (tripTest (thr.getD 0 0) (c.getD 0 0) (c.getD 2 0)) + 2 * b2n (tripTest (thr.getD 1 0) (c.getD 1 0) (c.getD 2 0))
    + 4 * b2n (tripTest (thr.getD 2 0) (c.getD 3 0) (c.getD 5 0)) + 8 * b2n (tripTest (thr.getD 3 0) (c.getD 4 0) (c.getD 5 0))

/-- The guard of loom n is in FALLBACK (R198). -/
def State.inFallback (s : State) (n : Nat) : Bool := s.get (GRD_STATUS_MODE n) == 2

/-- The guard of loom n is in REPLAY or FALLBACK (R196, R197). -/
def State.inRepair (s : State) (n : Nat) : Bool := s.get (GRD_STATUS_MODE n) != 0

/-- Clamp a window exponent (R197). -/
def clampWin (w : Int) : Int := max (-256) (min 255 w)

/-- A window exponent that the span loads, with the adjustments of its passes, each clamped as it is carried (R197). -/
def State.adjustWin (s : State) (n : Nat) (w : Int) : Int :=
  if s.inRepair n then (s.lm n).grd.adj.foldl (fun w a => clampWin (w + a)) w else w

/-- The window exponent of a row of a physical set (R78, R103). -/
def State.window (s : State) (n set row : Nat) : Int :=
  toSigned 9 (s.get (if set = 0 then ACC_WIN0_WIN n row else ACC_WIN1_WIN n row))

/-- Set the SAT bit of a row of a physical set (R81, R102). -/
def State.setSat (s : State) (n set row : Nat) : State :=
  s.setMapBit (if set = 0 then ACC_SAT_ROWS0_SAT n else ACC_SAT_ROWS1_SAT n) row

/-- Clear the SAT bit of a row of a physical set. -/
def State.clearSat (s : State) (n set row : Nat) : State :=
  let f := if set = 0 then ACC_SAT_ROWS0_SAT n (row / 32) else ACC_SAT_ROWS1_SAT n (row / 32)
  let v := s.get f
  if bitOf v (row % 32) then s.set f (v - 2 ^ (row % 32)) else s

/-- The active accumulator set (R91). -/
def State.activeSet (s : State) (n : Nat) : Nat := s.get (ACC_STATUS_ACTIVE_SET n)

end Sys2Proof.Machine
end

