-- ==== Sys2Proof/Machine/Array.lean ====
section
/-! DEFINITION. The ternary array and the accumulator memory (chapters 2 to 4, R181 to R183): array operations, their
landings, the tile barrier, window loads, swaps, and accesses to the accumulator view. -/
namespace Sys2Proof.Machine

/-! ### Arithmetic (R75 to R82, R97) -/

/-- A block sum (R76). -/
def blockSum (a w : List Int) : Int := (List.zipWith (· * ·) a w).foldl (· + ·) 0

/-- The first k nonzero weights of a group; the others read as zero (R124). -/
def keepNonzero : Nat → List Int → List Int
  | _, [] => []
  | 0, l => l.map fun _ => 0
  | k + 1, 0 :: t => 0 :: keepNonzero (k + 1) t
  | k + 1, w :: t => w :: keepNonzero k t

/-- The weights of a group that a step takes (R115, R124). -/
def takenWeights (keep : Nat) (w : List Int) : List Int := if keep = 0 then w else keepNonzero keep w

/-- Lane integers of a block of K/G elements (R75): pass 0 is ONE, 1 HIGH, 2 LOW. -/
def laneInts (fmt pass : Nat) (l : List Byte) : List Int :=
  if fmt = 1 then (nibbles l).map fp4Int
  else if fmt = 2 then (nibbles l).map int4Int
  else if pass = 1 then l.map fun b => (toSigned 8 b.toNat).fdiv 16
  else l.map fun b => ((b.toNat % 16 : Nat) : Int)

/-- The shift of a block sum (R78, R86). -/
def blockShift (E : Nat) (W : Int) (pass : Nat) : Int := (E : Int) - 127 - 1 - W - (if pass = 2 then 4 else 0)

/-- One accumulator after a row cycle (R79): its value, whether it saturated. -/
def accUpdate (a : Int) (terms : List Int) : Int × Bool := satAcc (a + terms.foldl (· + ·) 0)

/-- A row of accumulators after a row cycle of R79: `ts` holds for each column the aligned sums of its block groups with
their zeroed marks. -/
def rowUpdate (row : List Int) (ts : List (List (Int × Bool))) : List (Int × Bool) :=
  List.zipWith (fun a t => accUpdate a (t.map Prod.fst)) row ts

/-- The aligned block sums of every column in one block group; a block with scale code 0xFF gives zeros (R77, R79). -/
def groupTerms (keep : Nat) (lanes : List Int) (E : Nat) (W : Int) (pass : Nat) (cols : List (List Int)) : List (Int × Bool) :=
  if E = 255 then cols.map fun _ => (0, false)
  else cols.map fun w => alignTerm (blockSum lanes (takenWeights keep w)) (blockShift E W pass)

/-- Turn lists by block group into lists by column. -/
def byColumn {α : Type} : List (List α) → List (List α)
  | [] => List.replicate 512 []
  | g :: t => List.zipWith List.cons g (byColumn t)

/-- The counts of one row cycle (R192). -/
def rowCounts (scales : List Nat) (ts : List (List (Int × Bool))) (new : List (Int × Bool)) : Counts :=
  let nan := (scales.filter (· == 255)).length
  { asat := 32 * nan, avals := 32 * nan, csat := (new.filter (·.2)).length,
    czero := (ts.flatten.filter (·.2)).length, cterms := ts.flatten.length }

/-- V and I of a MAX or MIN accumulator (R96). -/
def selV (a : Int) : Int := a.fdiv 65536
def selI (a : Int) : Nat := (a % 65536).toNat
/-- The accumulator of V and I (R96). -/
def selPack (v : Int) (i : Nat) : Int := v * 65536 + (i : Int)

/-- The initial accumulator of a reduction (R73, R96). -/
def initAcc (reduce : Nat) : Int :=
  if reduce = 0 then 0 else if reduce = 1 then selPack (-(2 ^ 23 - 1)) 0xFFFF else selPack (2 ^ 23 - 1) 0xFFFF

/-- One candidate of MAX or MIN (R97): the accumulator after it, whether it saturated, whether it counts as zeroed. -/
def selStep (reduce : Nat) (kbase : Nat) (a x0 : Int) (s : Int) (k : Nat) : Int × Bool × Bool :=
  let (y, z) := alignTerm x0 s
  let sat := decide (y > 2 ^ 23 - 1) || decide (y < -(2 ^ 23 - 1))
  let x := max (-(2 ^ 23 - 1)) (min (2 ^ 23 - 1) y)
  let i := (kbase + k) % 65536
  let better := if reduce = 1 then decide (x > selV a) else decide (x < selV a)
  (if better || (decide (x = selV a) && decide (i < selI a)) then selPack x i else a, sat, z)

/-- One column of a MAX or MIN cycle: the elements of a block group in ascending position (R97). -/
def selColumn (reduce kbase : Nat) (s : Int) : Nat → List Int → List Int → Int → Counts → Int × Counts
  | k, a :: ta, w :: tw, acc, c =>
    if w = 0 then selColumn reduce kbase s (k + 1) ta tw acc c
    else
      let (acc', sat, z) := selStep reduce kbase acc (w * a) s k
      selColumn reduce kbase s (k + 1) ta tw acc'
        (addCounts c { csat := b2n sat, czero := b2n z, cterms := 1 })
  | _, _, _, acc, c => (acc, c)

/-- An outlier value aligned to a window (R182): the integer, whether it counts as saturated, as zeroed; none: skipped. -/
def outlierInt (v : Nat) (W : Int) : Option (Int × Bool × Bool) :=
  let e := bits v 7 8
  let m := bits v 0 7
  let neg := bitOf v 15
  if e = 0 then none
  else if e = 255 then (if m = 0 then some (if neg then -accMax else accMax, true, false) else some (0, true, false))
  else
    let x : Int := ((128 + m : Nat) : Int)
    let (y, z) := alignTerm (if neg then -x else x) ((e : Int) - 134 - W)
    some (y, false, z)

/-! ### Accumulator rows -/

/-- Key of a row of a physical set. -/
def rowKey (set row : Nat) : Nat := set * 512 + row

/-- The 512 accumulators of a row (R55). -/
def State.accRow (s : State) (n set row : Nat) : List Int := tget (List.replicate 512 0) (s.lm n).arr.acc (rowKey set row)

/-- Store a row of accumulators. -/
def State.putRow (s : State) (n set row : Nat) (r : List Int) : State :=
  s.modArr n fun a => { a with acc := tput (List.replicate 512 0) a.acc (rowKey set row) r }

/-- Mark a row poisoned, or clear its mark (R512). -/
def State.markRow (s : State) (n set row : Nat) (p : Bool) : State :=
  s.modArr n fun a => { a with marks := tput 0 a.marks (rowKey set row) (b2n p) }

/-- A row carries the poison mark (R512). -/
def State.rowMarked (s : State) (n set row : Nat) : Bool := tget 0 (s.lm n).arr.marks (rowKey set row) != 0

/-- Note the reduction of a row. -/
def State.noteKind (s : State) (n set row k : Nat) : State :=
  s.modArr n fun a => { a with kinds := tput 0 a.kinds (rowKey set row) k }

/-! ### Issue (R73, R74, R181, R239) -/

/-- The array operation of a parameter block (R239); it has started nothing yet. -/
def arrOpOf (l : List Byte) : ArrOp :=
  let h := leAt l 0 4
  { fmt := bits h 4 4, reduce := bits h 8 2, init := bitOf h 10, wbuf := bits h 11 1,
    rows := bits (leAt l 4 4) 0 10, row0 := bits (leAt l 4 4) 16 9, kbase := leAt l 8 2,
    actE := leAt l 16 4, actS := leAt l 20 4, eStride := 64 * leAt l 24 2, sStride := 64 * leAt l 26 2,
    olEn := bitOf h 12, osegs := bits h 13 3 + 1, okbase := leAt l 12 4, olist := leAt l 28 4, olStride := leAt l 32 2,
    chainFirst := bitOf h 16, oslack := leAt l 36 4,
    psum := Config.ial1Psum l % 2 ^ 24, window := toSigned 9 (Config.ial1Window l % 512),
    keep := 0, tArr := 0, eT := 0, buf := ⟨[], 0, 0, 0, false⟩, items := [], barrier := false, span := false, found := [] }

/-- The block is refused (R6, R7, R239): level, reserved fields, an OSLACK where none belongs, an operand misaligned for the
layout, or OL_STRIDE not a multiple of 64. -/
def arrBlockBad (n : Nat) (l : List Byte) : Bool :=
  let h := leAt l 0 4
  let w := leAt l 4 4
  let o := arrOpOf l
  let nb := if o.fmt = 3 then tileK n else tileK n / 2
  h % 16 != 2 || bits h 17 15 != 0 || bits w 10 6 != 0 || bits w 25 7 != 0 || leAt l 10 2 != 0 || leAt l 34 2 != 0
    || !allZero (l.drop 40) || (!o.chainFirst && o.oslack != 0) || o.olStride % 64 != 0
    || o.actE % nb != 0 || o.actS % groups n != 0

/-- Element bytes that one activation row of the tile takes in the format that runs. -/
def rowBytes (n fmt : Nat) : Nat := if fmt = 3 then tileK n else tileK n / 2

/-- The format that the operation runs in: INT8 for a SUM of FP4 or INT4 in FALLBACK (R198). -/
def State.runFmt (s : State) (n : Nat) (o : ArrOp) : Nat :=
  if s.inFallback n && o.reduce = 0 && (o.fmt = 1 || o.fmt = 2) then 3 else o.fmt

/-- The scratchpad ranges that the operation reads or writes (R533). -/
def State.arrRanges (s : State) (n : Nat) (o : ArrOp) : List (Nat × Nat) :=
  [rowsRange o.actE o.eStride o.rows (rowBytes n (s.runFmt n o)), rowsRange o.actS o.sStride o.rows (groups n)]
    ++ (if o.olEn then [rowsRange o.olist o.olStride o.rows (576 * o.osegs)] else [])

/-- The bound Draft runs in IAL-1 mode (R99). -/
def State.compat (s : State) (n : Nat) : Bool := s.is (ACC_STATUS_COMPAT n)

/-- Passes of an operation (R87, R98). -/
def State.passes (s : State) (n : Nat) (o : ArrOp) : Nat :=
  if o.reduce != 0 then groups n else if s.runFmt n o = 3 then 2 else 1

/-- The operation names a row range, a format or a buffer that R74 refuses. -/
def rowsBad (o : ArrOp) : Bool := o.rows == 0 || decide (512 < o.row0 + o.rows)
def State.fmtBad (s : State) (n : Nat) (o : ArrOp) : Bool :=
  !(o.fmt == 1 || o.fmt == 2 || o.fmt == 3) || o.reduce == 3
    || (o.reduce != 0 && (o.fmt == 3 || o.olEn || s.compat n))
def State.bufEmpty (s : State) (n : Nat) (o : ArrOp) : Bool := ((s.lm n).arr.bufs.getD o.wbuf none).isNone

/-- A partial row of IAL-1 mode lies outside the scratchpad (R99). -/
def State.psumBad (s : State) (n : Nat) (o : ArrOp) : Bool :=
  s.compat n && !inSpad n [(o.psum + o.row0 * 4096, o.rows * 4096)]

/-! ### Starting an operation (R87, R183) -/

/-- The bytes of a row's elements and scales, with the lanes and scale codes of each pass (R62, R75, R86). -/
def State.rowItems (s : State) (n : Nat) (o : ArrOp) (fmt r : Nat) : List ArrItem :=
  let nb := rowBytes n fmt
  let g := groups n
  let el := s.spRead n (o.actE + r * o.eStride) nb
  let sc := (s.spRead n (o.actS + r * o.sStride) g).map BitVec.toNat
  let p := s.spPoisoned n (o.actE + r * o.eStride) nb || s.spPoisoned n (o.actS + r * o.sStride) g
  let blocks := chunks (nb / g) g el
  if o.reduce != 0 then
    (List.range g).map fun b => .sel r b (laneInts fmt 0 (blocks.getD b [])) (sc.getD b 0) p
  else if fmt = 3 then
    [.row r 1 (blocks.map (laneInts 3 1)) sc p, .row r 2 (blocks.map (laneInts 3 2)) sc p]
  else [.row r 0 (blocks.map (laneInts fmt 0)) sc p]

/-- An outlier list that R6 or R7 refuses, by its header or by a reserved bit of an entry. -/
def outListBad (l : List Byte) : Bool :=
  let h := leAt l 0 8
  h % 16 != 2 || bits h 4 4 != 0 || bits h 47 17 != 0 || !allZero ((l.take 64).drop 12)
    || (List.range (min 128 (bits h 8 8))).any fun i => bits (leAt l (64 + 4 * i) 4) 14 2 != 0

/-- The outlier cycles of one list (R67, R183); a refused one gives none. DESIGN CHOICE (log 111): a COUNT above 128, which the rule does not
allow and for which it says nothing, counts as 128. -/
def listItems (K okbase r : Nat) (p : Bool) (l : List Byte) : List ArrItem :=
  let h := leAt l 0 8
  let base := leAt l 8 4
  let k := min 128 (bits h 8 8)
  if outListBad l then []
  else (List.range k).filterMap fun i =>
    let e := leAt l (64 + 4 * i) 4
    let idx := base + bits e 0 14
    if okbase ≤ idx && idx < okbase + K then some (.outlier r (idx - okbase) (bits e 16 16) p) else none

/-- The outlier cycles of the tile, rows ascending and entries in list order (R183). -/
def State.outlierItems (s : State) (n : Nat) (o : ArrOp) : List ArrItem :=
  if !o.olEn then []
  else (List.range o.rows).flatMap fun r => (List.range o.osegs).flatMap fun g =>
    let a := o.olist + r * o.olStride + 576 * g
    listItems (tileK n) o.okbase r (s.spPoisoned n a 576) (s.spRead n a 576)

/-- The outlier lists of the tile that R6 or R7 refuses are recorded, but for those of which a word is poisoned (log 115). -/
def State.outlierRefused (s : State) (n : Nat) (o : ArrOp) : State :=
  if !o.olEn then s
  else (List.range o.rows).foldl (fun s r => (List.range o.osegs).foldl (fun s g =>
    let a := o.olist + r * o.olStride + 576 * g
    if s.spPoisoned n a 576 || !outListBad (s.spRead n a 576) then s else s.refuseStruct 1 n (lwin n + a) false) s) s

/-- A sparse tile runs in step mode (R115, R116). -/
def stepMode (b : WBuf) (rows p : Nat) : Bool :=
  b.sparseC != 0 && decide (p * (ceilDiv rows (32 / b.sparseC) * (1 + b.x)) < p * rows)

/-- The array time of the operation without outlier cycles (R88, R98, R99, R115). -/
def State.arrTime (s : State) (n : Nat) (o : ArrOp) (b : WBuf) : Nat :=
  if s.compat n then (if s.runFmt n o = 3 then 34 else 33) * o.rows
  else
    let p := s.passes n o
    if o.reduce = 0 && stepMode b o.rows p then p * (ceilDiv o.rows (32 / b.sparseC) * (1 + b.x)) else p * o.rows

/-- The operation with its cycles in flight: the operands are read as the tile starts. -/
def State.startOp (s : State) (n : Nat) (o : ArrOp) : ArrOp :=
  let b := ((s.lm n).arr.bufs.getD o.wbuf none).getD ⟨[], 0, 0, 0, false⟩
  let fmt := s.runFmt n o
  let ol := s.outlierItems n o
  { o with
    fmt := fmt
    buf := b
    keep := if o.reduce = 0 && !s.compat n && stepMode b o.rows (s.passes n o) then b.sparseC * (1 + b.x) else 0
    tArr := s.arrTime n o b
    eT := ol.length
    items := ((List.range o.rows).flatMap fun r => s.rowItems n o fmt r) ++ ol }

/-- Replace the newest operation of the array. -/
def mapLast {α : Type} (f : α → α) : List α → List α
  | [] => []
  | [a] => [f a]
  | a :: t => a :: mapLast f t

/-- What the operation reads as it starts (R259): its rows' elements and scales, and its outlier lists, not what lies between them. -/
def State.arrReads (s : State) (n : Nat) (o : ArrOp) : List (Nat × Nat) :=
  rowReads o.actE o.eStride o.rows (rowBytes n (s.runFmt n o)) ++ rowReads o.actS o.sStride o.rows (groups n)
    ++ (if o.olEn then rowReads o.olist o.olStride o.rows (576 * o.osegs) else [])

/-- The tile starts after a pause of k cycles, and an array operation's cycles begin (R37, R242). -/
def State.startTile (s : State) (n k : Nat) : State :=
  let s := (s.endPause n k).modSeq n fun q => { q with tile := q.tile.map fun t => { t with granted := true } }
  match (s.lm n).seq.tile with
  | some t =>
    if t.array then
      match (s.lm n).arr.ops.getLast? with
      | some o =>
        let o' := s.startOp n o
        let s := (((s.modSpd n fun p => { p with fresh := o.found }).countPoison n (s.arrReads n o)).eccSeen n).outlierRefused n o
        let s := s.modArr n fun a => { a with ops := mapLast (fun _ => o') a.ops }
        let s := if o'.eT = 0 then s else s.set (BRZ_STATUS_OUTLIER n) 1
        ((((s.set (ARR_STATUS_BUSY n) 1).set (ARR_STATUS_WBUF n) o.wbuf).set (ARR_STATUS_REDUCE n) o.reduce).set
          (ARR_STATUS_MODE8 n) (b2n (o'.fmt == 3))).set (ACC_STATUS_IN_FLIGHT n) 1
      | none => s
    else s
  | none => s

/-! ### Requests (R37, R476, R477) -/

/-- The order of two requests of one ledger cycle: the bolt's priority class, of which 0 is served first, then the loom (R38, R419). -/
def LdgReq.before (a b : LdgReq) : Bool := decide (a.prio < b.prio) || (a.prio == b.prio && decide (a.loom < b.loom))

/-- A request joins the order of arrival: behind every request of an earlier ledger cycle, and among those of its own cycle at its place
(R38). -/
def joinLedger (r : LdgReq) : List LdgReq → List LdgReq
  | [] => [r]
  | h :: t => if h.fresh && r.before h then r :: h :: t else h :: joinLedger r t

/-- The priority class of loom n: its bolt's. DESIGN CHOICE (log 110): a loom in no bolt, which the spec gives no class and which runs no
Draft (R22), takes class 3. -/
def State.ledgerClass (s : State) (n : Nat) : Nat :=
  match s.boltOf n with
  | some b => bits (leAt (s.boltEntry b) 0 4) 8 2
  | none => 3

/-- A tile-opening word requests its credits: a request of 0 is granted at once, one that the ledger refuses is a Draft fault,
and any other waits in the order of arrival (R37, R38, R476, R477). `s0` is the state before the word. -/
def State.requestTile (s0 s : State) (n : Nat) (w : DWord) : State :=
  let c := s0.requestSize n w.lmode
  if c > s0.get LDG_BUDGET_MIN_EFFECTIVE - s0.get LDG_RESERVE_RESERVE then s0.engineFault n w.unit LDG_ERR_OVERSIZE
  else
    let s := s.modSeq n fun q => { q with tile := some ⟨w.lmode, c, false, w.budget, w.slack, w.layer, w.unit == 1, false⟩ }
    if c = 0 then s.startTile n 0
    else
      let s := s.beginPause n .grant 0 w.slack
      ({ s with ledger := joinLedger ⟨n, c, s.ledgerClass n, true⟩ s.ledger } : State).ledgerShow

/-- An ARRAY word with the named reduction (R73, R74, R239). -/
def State.arrayIssue (s : State) (n reduce : Nat) : State :=
  s.issue n 1 0 fun w =>
    let l := s.blockBytes n w.arg
    let o := arrOpOf l
    if s.blockMisplaced n w.arg || arrBlockBad n l then s.wordFault n 1 3
    else if o.reduce != reduce && o.reduce != 3 then s
    else if rowsBad o || s.fmtBad n o || s.bufEmpty n o || s.psumBad n o then
      let s := if rowsBad o then s.set (ACC_ERR_ROW_RANGE n) 1 else s
      let s := if s.fmtBad n o then s.set (ARR_ERR_FMT_REFUSED n) 1 else s
      let s := if s.bufEmpty n o then s.set (ARR_ERR_WBUF_EMPTY n) 1 else s
      let s := if s.psumBad n o then s.set (ACC_ERR_PSUM_RANGE n) 1 else s
      s.wordFault n 1 4
    else if !inSpad n (s.arrRanges n o) then s.wordFault n 1 3
    else
      let t := s.advance n w
      let o := { o with span := s.is (GRD_STATUS_SPAN_OPEN n), found := (s.lm n).spd.fresh }
      let t := t.modArr n fun a => { a with ops := a.ops ++ [o] }
      let t := if o.chainFirst then t.modSeq n fun q => { q with pool := o.oslack, slipped := 0 } else t
      s.requestTile t n w

/-! ### Landing (R79, R89, R97, R183) -/

/-- The row that an item addresses. -/
def itemRow : ArrItem → Nat
  | .row r _ _ _ _ => r
  | .sel r _ _ _ _ => r
  | .outlier r _ _ _ => r

/-- The item is the operation's first update of its row (R73). -/
def firstOfRow : ArrItem → Bool
  | .row _ p _ _ _ => p ≤ 1
  | .sel _ g _ _ _ => g == 0
  | .outlier _ _ _ _ => false

/-- An operand of the item was poisoned. -/
def itemPoison : ArrItem → Bool
  | .row _ _ _ _ p => p
  | .sel _ _ _ _ p => p
  | .outlier _ _ _ p => p

/-- What one cycle does to a row of accumulators: the row after it, the guard's counts, the updates that saturated (R81), whether a
scale code 0xFF was read, and the multiply-accumulates with a nonzero weight. -/
structure RowUpd where
  row : List Int
  counts : Counts
  sats : Nat
  nan : Bool
  mac : Nat

/-- A row cycle, a MAX or MIN cycle or an outlier cycle on a row of accumulators (R79, R97, R183). A block of a MAX or MIN cycle with
scale code 0xFF reads as zeros (R46). The conversion of a non-finite outlier entry counts in CSAT and is no saturated update; an entry
that is zero still takes its cycle (R182, R192). -/
def itemUpdate (o : ArrOp) (b : WBuf) (W : Int) (row : List Int) : ArrItem → RowUpd
  | .row _ pass lanes scales _ =>
    let ts := byColumn ((List.range lanes.length).map fun g =>
      groupTerms o.keep (lanes.getD g []) (scales.getD g 0) W pass (b.trits.getD g []))
    let new := rowUpdate row ts
    { row := new.map Prod.fst, counts := rowCounts scales ts new, sats := (new.filter (·.2)).length, nan := scales.contains 255
      mac := (b.trits.flatten.map fun w => (takenWeights o.keep w).countP (· != 0)).foldl (· + ·) 0 }
  | .sel _ g lanes scale _ =>
    let cols := b.trits.getD g []
    let nan := scale == 255
    let lanes := if nan then lanes.map fun _ => 0 else lanes
    let rs := List.zipWith (fun a w => selColumn o.reduce o.kbase (blockShift scale W 0) (32 * g) lanes w a {}) row cols
    let c := sumCounts (rs.map Prod.snd)
    { row := rs.map Prod.fst, counts := if nan then addCounts nanBlock c else c, sats := c.csat, nan
      mac := (cols.map fun w => w.countP (· != 0)).foldl (· + ·) 0 }
  | .outlier _ k v _ =>
    match outlierInt v W with
    | none => { row, counts := { cterms := 512 }, sats := 0, nan := false, mac := 0 }
    | some (x, sat, z) =>
      let ws := (b.trits.getD (k / 32) []).map fun w => w.getD (k % 32) 0
      let new := List.zipWith (fun a w => satAcc (a + w * x)) row ws
      let k := (new.filter (·.2)).length
      { row := new.map Prod.fst, counts := { csat := b2n sat + k, czero := b2n z, cterms := 512 }, sats := k, nan := false
        mac := ws.countP (· != 0) }

/-- The partial sums of a row of IAL-1 mode (R99). -/
def State.psumRow (s : State) (n a : Nat) : List Int :=
  (chunks 8 512 (s.spRead n a 4096)).map fun l => toSigned 64 (leNat l)

/-- One item lands in the accumulator memory (R79, R89), or in the scratchpad in IAL-1 mode (R99). The guard counts nothing for a
poisoned value (R512). -/
def State.landItem (s : State) (n : Nat) (o : ArrOp) (it : ArrItem) : State :=
  let b := o.buf
  let row := o.row0 + itemRow it
  let set := s.activeSet n
  let start := o.init && firstOfRow it
  let poison := itemPoison it || b.poison
  let u :=
    if s.compat n then
      itemUpdate o b o.window (if start then List.replicate 512 0 else s.psumRow n (o.psum + row * 4096)) it
    else itemUpdate o b (s.window n set row) (if start then List.replicate 512 (initAcc o.reduce) else s.accRow n set row) it
  let s := if s.compat n && !start then s.countPoison n [(o.psum + row * 4096, 4096)] else s
  let held := s.compat n && !start && s.spPoisoned n (o.psum + row * 4096) 4096
  let s :=
    if s.compat n then
      s.spWrite n (o.psum + row * 4096) (u.row.flatMap fun a => leBytes 8 (viewOf a))
        (poison || held)
    else
      let s := if start then (s.clearSat n set row).markRow n set row false else s
      let s := (s.putRow n set row u.row).noteKind n set row o.reduce
      let s := if poison then s.markRow n set row true else s
      if u.sats = 0 then s else s.setSat n set row
  let s := if u.sats = 0 then s else s.set (ACC_STATUS_SAT_ANY n) 1
  let s := if u.nan then s.set (ARR_ERR_SCALE_NAN n) 1 else s
  let s := if poison || held then s else s.guardAdd n o.span u.counts
  let s := match it with
    | .outlier _ _ v _ => if (outlierInt v 0).isSome then s.add (BRZ_CNT_OUTLIER_OUTLIER n) 1 else s
    | _ => s.add (ARR_CNT_ROWCYC_ROWCYC n) 1
  ((s.addHold (ACC_CNT_SAT_SAT n) u.sats).addHold (ACC_CNT_ZERO_ZERO n) u.counts.czero).add (ARR_CNT_MAC_MAC n) u.mac

/-- The status bits of the array follow what is in flight (R89, R101): MODE8 names the format of the current operation. -/
def State.arrShow (s : State) (n : Nat) : State :=
  let busy := (s.lm n).arr.ops.any fun o => !o.items.isEmpty
  let ol := (s.lm n).arr.ops.any fun o => o.items.any fun i => match i with | .outlier .. => true | _ => false
  let s := ((s.set (BRZ_STATUS_OUTLIER n) (b2n ol)).set (ARR_STATUS_BUSY n) (b2n busy)).set (ACC_STATUS_IN_FLIGHT n) (b2n busy)
  if busy then s else s.set (ARR_STATUS_MODE8 n) 0

/-- An operation is finished when nothing of it is in flight and its barrier has fallen. -/
def opDone (o : ArrOp) : Bool := o.items.isEmpty && o.barrier

/-- The oldest operation with a cycle in flight loses that cycle; an operation that is finished leaves (R89). -/
def dropFirstItem : List ArrOp → List ArrOp
  | [] => []
  | o :: t =>
    match o.items with
    | [] => o :: dropFirstItem t
    | _ :: rest => let o' := { o with items := rest }; if opDone o' then t else o' :: t

/-- ARRAY_RESULT_LAND (R89): the oldest cycle in flight lands; the last one of an operation completes it. -/
def execArrayResultLand (n : LoomNo) (s : State) : Host.Outcome State Fault Refusal :=
  .next <|
    if s.arrStill n then s
    else match (s.lm n).arr.ops.find? fun o => !o.items.isEmpty with
      | none => s
      | some o => match o.items with
        | [] => s
        | it :: rest =>
          let s := s.landItem n o it
          let s := s.modArr n fun a => { a with ops := dropFirstItem a.ops }
          let s := if rest.isEmpty then s.add (ARR_CNT_TILES_TILES n) 1 else s
          (s.arrShow n).settle n

/-- ARRAY_SUM (R79): issue of an ARRAY word with REDUCE SUM. -/
def execArraySum (n : LoomNo) (evs : CycleEvs) (s : State) : Host.Outcome State Fault Refusal :=
  .next <| s.withEvents n evs fun s => s.arrayIssue n 0

/-- ARRAY_MAX (R97): issue of an ARRAY word with REDUCE MAX. -/
def execArrayMax (n : LoomNo) (s : State) (evs : CycleEvs := {}) : Host.Outcome State Fault Refusal :=
  .next <| s.withEvents n evs fun s => s.arrayIssue n 1

/-- ARRAY_MIN (R97): issue of an ARRAY word with REDUCE MIN. -/
def execArrayMin (n : LoomNo) (s : State) (evs : CycleEvs := {}) : Host.Outcome State Fault Refusal :=
  .next <| s.withEvents n evs fun s => s.arrayIssue n 2

/-! ### The tile barrier (R37, R119, R121, R246) -/

/-- T_tile of the array operation that opened the tile (R119, R183). -/
def tileLength (o : ArrOp) : Nat := max (o.tArr + o.eT) o.buf.load

/-- The barrier falls: the array operation no longer holds the tile, and the credits go back (R37). -/
def State.fallBarrier (s : State) (n : Nat) : State :=
  (s.modArr n fun a => { a with ops := (a.ops.map fun o => { o with barrier := true }).filter fun o => !opDone o }).closeTile n

/-- TILE_BARRIER (R119): the barrier of the open tile falls; an excess over BUDGET plus SLACK first slips from the pool by at
most the outlier cycles, and the rest holds with cause SPARSE (R121, R246). -/
def execTileBarrier (n : LoomNo) (s : State) : Host.Outcome State Fault Refusal :=
  .next <|
    if s.frozen n then s
    else match (s.lm n).seq.tile with
      | none => s
      | some t =>
        if !t.granted then s
        else
          let o := if t.array then (s.lm n).arr.ops.getLast? else none
          let e := match o with | some o => tileLength o - (t.budget + t.slack) | none => 0
          if t.checked || e = 0 then s.fallBarrier n
          else
            let k := min e (min ((o.map ArrOp.eT).getD 0) (s.lm n).seq.pool)
            let s := s.modSeq n fun q => { q with tile := q.tile.map fun t => { t with checked := true } }
            (s.addSlip n k).addHolds n (if e = k then [] else [⟨2, some (e - k)⟩])

/-! ### Windows, swaps and view accesses (R56, R91, R95, R103, R234) -/

/-- WINLOAD (R234): 512 window exponents from the scratchpad to the named set, adjusted by the guard (R197), in 4 loom cycles. -/
def execWinload (n : LoomNo) (s : State) (evs : CycleEvs := {}) : Host.Outcome State Fault Refusal :=
  .next <| s.withEvents n evs fun s => s.issue n 2 0 fun w =>
    let a := 64 * bits w.arg 0 24
    if !inSpad n [(a, 1024)] then s.wordFault n 2 3
    else
      let set := if bitOf w.arg 24 then 1 - s.activeSet n else s.activeSet n
      let l := s.spRead n a 1024
      let t := ((s.advance n w).countPoison n [(a, 1024)]).modSeq n fun q => { q with accFree := q.cycles + 4 }
      (List.range 512).foldl (fun t r =>
        let v := s.adjustWin n (toSigned 9 (leAt l (2 * r) 2 % 512))
        t.set (if set = 0 then ACC_WIN0_WIN n r else ACC_WIN1_WIN n r) (ofSigned 9 v)) t

/-- SWAP (R91): the sets exchange, or a Draft fault with SWAP_EARLY. DESIGN CHOICE (log 129): in IAL-1 mode, where R99 gives no shadow set
and does not speak of SWAP, ACTIVE_SET changes too. -/
def execSwap (n : LoomNo) (s : State) : Host.Outcome State Fault Refusal :=
  .next <| s.issue n 2 1 fun w =>
    if s.is (ACC_STATUS_IN_FLIGHT n) || s.is (ACC_STATUS_DRAIN_BUSY n) || s.is (ARR_STATUS_BUSY n)
    then s.engineFault n 2 (ACC_ERR_SWAP_EARLY n)
    else (s.advance n w).set (ACC_STATUS_ACTIVE_SET n) (1 - s.activeSet n)

/-- The bytes of an 8-byte view value with some bytes written over (R56). -/
def mergeBytes (old : List Byte) (o : Nat) (new : List Byte) : List Byte :=
  old.take o ++ new ++ old.drop (o + new.length)

/-- Write bytes of the accumulator view from offset off, one accumulator at a time (R56). -/
def State.viewWrite (s : State) (n off : Nat) (l : List Byte) : State :=
  let set := s.get (ACC_CTL_VIEW_SET n)
  if l.isEmpty then s
  else
    let first := off / 8
    (List.range ((off + l.length - 1) / 8 - first + 1)).foldl (fun s i =>
      let k := first + i
      let lo := max (8 * k) off
      let hi := min (8 * k + 8) (off + l.length)
      let row := k / 512
      let r := s.accRow n set row
      let old := leBytes 8 (viewOf (r.getD (k % 512) 0))
      let v := toSigned 64 (leNat (mergeBytes old (lo - 8 * k) ((l.drop (lo - off)).take (hi - lo))))
      s.putRow n set row (r.set (k % 512) (satAcc v).1)) s

/-- Bytes of the accumulator view (R56). -/
def State.viewRead (s : State) (n off len : Nat) : List Byte :=
  let set := s.get (ACC_CTL_VIEW_SET n)
  (List.range len).map fun i =>
    let a := off + i
    (leBytes 8 (viewOf ((s.accRow n set (a / 4096)).getD (a / 8 % 512) 0))).getD (a % 8) 0

/-- A row that the view range touches is marked poisoned (R512). -/
def State.viewPoisoned (s : State) (n off len : Nat) : Bool :=
  if len = 0 then false
  else (List.range ((off + len - 1) / 4096 - off / 4096 + 1)).any fun i => s.rowMarked n (s.get (ACC_CTL_VIEW_SET n)) (off / 4096 + i)

/-- ACC_WIN_WRITE (R103): a window exponent of a physical set. -/
def execAccWinWrite (n : LoomNo) (set : Fin 2) (row : Fin 512) (value : Nat) (s : State) : Host.Outcome State Fault Refusal :=
  .next (s.set (if set.val = 0 then ACC_WIN0_WIN n row else ACC_WIN1_WIN n row) value)

/-- ACC_CNT_CLR (R102): the saturation and zeroed counts clear. -/
def execAccCntClr (n : LoomNo) (s : State) : Host.Outcome State Fault Refusal :=
  .next ((s.set (ACC_CNT_SAT_SAT n) 0).set (ACC_CNT_ZERO_ZERO n) 0)

end Sys2Proof.Machine
end

