-- ==== Sys2Proof/Machine/Draft.lean ====
section
/-! DEFINITION. The sequencer's own operations, holds and pauses, ledger grants, the Draft store and the scrubber
(R38, R229 to R249, R258 to R261, R282). -/
namespace Sys2Proof.Machine

/-! ### Starting and stopping (R230 to R232) -/

/-- The Draft header is refused at RUN (R230, R231). -/
def State.headerBad (s : State) (n : Nat) : Bool :=
  let h := s.draftNat n 0 4
  h % 16 != 2 || bits h 4 1 != kindOf n || bits h 6 10 != 0 || bits h 16 16 == 0 || decide (65532 < bits h 16 16)
    || s.draftNat n 6 2 != 0 || !decide (s.draftEntry n < s.draftWords n)
    || !allZero (s.bytesAt (draftAddr n 24) 40)

/-- The sequencer of a stopped loom starts under R231; a loom that has faulted, or stopped for a peer's fault, waits for a
loom reset (R248), a benched loom stays stopped, and a loom in no bolt runs no Draft (R22). -/
def State.startLoom (s : State) (n : Nat) : State :=
  if s.is (LOOM_STATUS_RUN n) || s.is (LOOM_STATUS_FAULT n) || s.is (LOOM_STATUS_PEER_FAULT n) || s.is (LOOM_STATUS_BENCHED n)
      || (s.boltOf n).isNone
  then s.modSeq n fun q => { q with stopReq := false }
  else if s.headerBad n then s.draftFault n 0 0 1
  else
    let s := s.modSeq n fun q =>
      { q with next := s.draftEntry n, loops := [], issued := [], pause := none, atStep := false, launch := none, stopReq := false }
    (s.set (ACC_STATUS_COMPAT n) (bits (s.draftNat n 0 4) 5 1)).set (LOOM_STATUS_RUN n) 1

/-- RUN_START (R231): LOOM_CTL.RUN written 1. A loom that is asleep wakes, and the write waits (R486). -/
def execRunStart (n : LoomNo) (s : State) : Host.Outcome State Fault Refusal :=
  .next <|
    if s.asleep n then
      let a : Access := { req := .host, write := true, addr := lwin n + 0xF00008, len := 1, data := [1], tenant := 0, poison := false }
      { s.wakeDomain n with held := s.held ++ [a] }
    else (s.startLoom n).set (LOOM_CTL_RUN n) 1

/-- RUN_STOP (R231): LOOM_CTL.RUN written 0; the sequencer stops after its next END. -/
def execRunStop (n : LoomNo) (s : State) : Host.Outcome State Fault Refusal :=
  .next ((s.modSeq n fun q => { q with stopReq := s.is (LOOM_STATUS_RUN n) }).set (LOOM_CTL_RUN n) 0)

/-- LOOM_CNT_CLR (R261): LOOM_HOLD_CNT and LOOM_HOLD_CYC clear. -/
def execLoomCntClr (n : LoomNo) (s : State) : Host.Outcome State Fault Refusal :=
  .next (s.clearAll ((List.range 5).map (LOOM_HOLD_CNT_EVENTS n) ++ (List.range 5).map (LOOM_HOLD_CYC_CYCLES n)))

/-! ### Sequencer operations (R234, R237, R238) -/

/-- NOP (R234). -/
def execNop (n : LoomNo) (s : State) : Host.Outcome State Fault Refusal := .next <| s.issue n 0 0 fun w => s.advance n w

/-- STEP (R237): the sequencer idles until the launch of the next step. -/
def execStep (n : LoomNo) (s : State) : Host.Outcome State Fault Refusal :=
  .next <| s.issue n 0 1 fun w => (s.advance n w).modSeq n fun q => { q with atStep := true }

/-- The registers that a launch clears (R199, R237, R289). -/
def stepFields (n : Nat) : List Fld :=
  (List.range 5).map (LOOM_STEP_HOLD_CYCLES n) ++ (List.range 5).map (LOOM_STEP_HOLD_EVENTS n)
    ++ (List.range 8).map (GRD_STEP_REPLAY_MAP n) ++ (List.range 8).map (GRD_STEP_FALLBACK_MAP n)
    ++ (List.range 16).map (SHT_EXM_EXM n)
    ++ [LOOM_SLIP_CYCLES n, GRD_STEP_CNT_CHECKED n, GRD_STEP_CNT_REPLAYED n, GRD_STEP_CNT_FELL_BACK n]

/-- STEP_LAUNCH (R237): a launch that has reached a loom at STEP starts the step. -/
def execStepLaunch (n : LoomNo) (s : State) : Host.Outcome State Fault Refusal :=
  .next <|
    match (s.lm n).seq.launch with
    | none => s
    | some k =>
      if !(s.lm n).seq.atStep || !s.is (LOOM_STATUS_RUN n) || s.frozen n || s.asleep n then s
      else
        let s := s.modSeq n fun q =>
          { q with atStep := false, launch := none, cycles := 0, accFree := 0, stage2 := 0, confSeen := false, issued := [], reported := false }
        let s := (s.modSht n fun h => { h with sent := [], sentOvf := [], lists := [] }).clearAll (stepFields n)
        (s.set (LOOM_STEP_STEP n) k).set (LOOM_STATUS_IN_STEP n) 1

/-- END (R237): issue pauses until the step's operations have completed and its writes are acknowledged; a loom whose peer
faulted stops instead (R248). -/
def execEndStep (n : LoomNo) (s : State) : Host.Outcome State Fault Refusal :=
  .next <| s.issue n 0 2 fun w =>
    if s.is (LOOM_STATUS_PEER_FAULT n) then s.stopSeq n else (s.advance n w).beginPause n .endStep 0 0

/-- The current half of a queue: S & 1 (R282). -/
def State.halfOf (s : State) (n q step : Nat) : QHalf := tget {} (s.lm n).sht.halves (2 * q + step % 2)

/-- Change a half of a queue. -/
def State.modHalf (s : State) (n q step : Nat) (f : QHalf → QHalf) : State :=
  s.modSht n fun h => { h with halves := tput {} h.halves (2 * q + step % 2) (f (tget {} h.halves (2 * q + step % 2))) }

/-- The state and the overflow counter of half S & 1 of every queue reset (R282). -/
def State.resetHalves (s : State) (n step : Nat) : State :=
  s.modSht n fun h => { h with halves := h.halves.filter fun e => e.1 % 2 != step % 2 }

/-- END_REPORT (R237): END's pause ends, no sooner than a window load (R234); the step is reported, LOOM_STEP_ACTUAL latched, the queue halves
reset, and the Draft continues at ENTRY, or stops where RUN was written 0 (R231). -/
def execEndReport (n : LoomNo) (cycles : Nat) (s : State) : Host.Outcome State Fault Refusal :=
  .next <|
    match (s.lm n).seq.pause with
    | some ⟨.endStep, _, _, _⟩ =>
      if !s.opsIdle n || (s.lm n).seq.writesOut != 0 || s.frozen n then s
      else
        let q := (s.lm n).seq
        let total := max (q.cycles + cycles) q.accFree
        let inStep := s.is (LOOM_STATUS_IN_STEP n)
        let stop := q.stopReq
        let s := (s.endPause n (total - q.cycles)).modSeq n fun q =>
          { q with next := s.draftEntry n, loops := [], reported := inStep, stopReq := false, cycles := total, issued := q.issued.filter (· != 0) }
        let s := s.resetHalves n (s.stepOf n)
        let s := if stop then s.set (LOOM_STATUS_RUN n) 0 else s
        (s.set (LOOM_STEP_ACTUAL_CYCLES n) total).set (LOOM_STATUS_IN_STEP n) 0
    | _ => s

/-- LOOP (R238). -/
def execLoop (n : LoomNo) (s : State) : Host.Outcome State Fault Refusal :=
  .next <| s.issue n 0 3 fun w =>
    if w.arg = 0 || 4 ≤ (s.lm n).seq.loops.length then s.wordFault n 0 7
    else (s.advance n w).modSeq n fun q => { q with loops := (q.next, w.arg) :: q.loops }

/-- ENDLOOP (R238). -/
def execEndloop (n : LoomNo) (s : State) : Host.Outcome State Fault Refusal :=
  .next <| s.issue n 0 4 fun w =>
    match (s.lm n).seq.loops with
    | [] => s.wordFault n 0 7
    | (first, k) :: outer =>
      (s.advance n w).modSeq n fun q =>
        if 1 < k then { q with next := first, loops := (first, k - 1) :: outer } else { q with loops := outer }

/-- Loop depth after the words [i, i + k), counted from d; none where it falls below the start (R238). -/
def State.depthAfter (s : State) (n : Nat) : Nat → Nat → Nat → Option Nat
  | 0, _, d => some d
  | k + 1, i, d =>
    let w := s.draftWord n i
    if w.unit = 0 && w.op = 3 then s.depthAfter n k (i + 1) (d + 1)
    else if w.unit = 0 && w.op = 4 then (if d = 0 then none else s.depthAfter n k (i + 1) (d - 1))
    else s.depthAfter n k (i + 1) d

/-- The tally total that SKIPZ reads: a count register from 224 on, else TSUM of the current half (R238, R282, R286). -/
def State.tallyTotal (s : State) (n q : Nat) : Nat :=
  if 224 ≤ q then s.get (SHT_CREG_COUNT n (q - 224)) else (s.halfOf n q (s.stepOf n)).tsum

/-- SKIPZ (R238). -/
def execSkipz (n : LoomNo) (s : State) : Host.Outcome State Fault Refusal :=
  .next <| s.issue n 0 5 fun w =>
    let pc := (s.lm n).seq.next
    let target := w.arg % 65536
    if target ≤ pc || s.draftWords n ≤ target || s.depthAfter n (target - pc - 1) (pc + 1) 0 != some 0 then s.wordFault n 0 8
    else if s.tallyTotal n (bits w.arg 16 8) = 0 then (s.advance n w).modSeq n fun q => { q with next := target }
    else s.advance n w

/-- A Shuttle scatter, tally wait or collective inside a span is a Draft fault (R189). -/
def State.xferFault (s : State) (n unit : Nat) : State := s.engineFault n unit (GRD_ERR_XFER n)

/-- WAIT_TALLY (R282). -/
def execWaitTally (n : LoomNo) (s : State) : Host.Outcome State Fault Refusal :=
  .next <| s.issue n 0 6 fun w =>
    if w.arg % 16 != 0 then s
    else if s.is (GRD_STATUS_SPAN_OPEN n) then s.xferFault n 0
    else if s.is (LOOM_STATUS_PEER_FAULT n) then s.stopSeq n
    else (s.advance n w).beginPause n (.tally (bits w.arg 8 8)) w.budget w.slack

/-- WAIT_WRITES (R279). -/
def execWaitWrites (n : LoomNo) (s : State) : Host.Outcome State Fault Refusal :=
  .next <| s.issue n 0 6 fun w =>
    if w.arg % 16 != 2 then s
    else if s.is (LOOM_STATUS_PEER_FAULT n) then s.stopSeq n
    else (s.advance n w).beginPause n .writes w.budget w.slack

/-- TILE (R236): a tile opens that lasts BUDGET cycles after its grant. -/
def execTile (n : LoomNo) (s : State) : Host.Outcome State Fault Refusal :=
  .next <| s.issue n 0 7 fun w => s.requestTile (s.advance n w) n w

/-- REPAY (R246): issue pauses for what the chain has not slipped of its slack, and the pool empties. -/
def execRepay (n : LoomNo) (s : State) : Host.Outcome State Fault Refusal :=
  .next <| s.issue n 0 8 fun w =>
    let k := w.arg - (s.lm n).seq.slipped
    (s.advance n w).modSeq n fun q =>
      { q with pool := 0, cycles := q.cycles + k, issued := if k = 0 then q.issued else [] }

/-- The next word is a WAIT, a GCHECK or an END (R248). -/
def State.atWait (s : State) (n : Nat) : Bool :=
  let w := s.draftWord n (s.lm n).seq.next
  s.canIssue n && decide ((s.lm n).seq.next < s.draftWords n)
    && ((w.unit == 0 && (w.op == 6 || w.op == 2)) || (w.unit == 7 && w.op == 1))

/-- The loom pauses in a WAIT, a GCHECK or an END. -/
def State.inWait (s : State) (n : Nat) : Bool :=
  match (s.lm n).seq.pause with
  | some p => p.kind != .grant
  | none => false

/-- PEER_FAULT_STOP (R248): a loom whose bolt peer faulted sets PEER_FAULT and stops at its WAIT, GCHECK or END. -/
def execPeerFaultStop (n : LoomNo) (s : State) : Host.Outcome State Fault Refusal :=
  .next <|
    if !s.is (LOOM_STATUS_PEER_FAULT n) && !((s.groupOf n).any fun m => m != n.val && s.is (LOOM_STATUS_FAULT m)) then s
    else
      let t := if s.is (LOOM_STATUS_RUN n) && (s.inWait n || s.atWait n) then
          ((s.stopSeq n).modSeq n fun q => { q with holds := [] }).set (LOOM_STATUS_HOLD n) 0
        else s
      t.set (LOOM_STATUS_PEER_FAULT n) 1

/-! ### Pauses and holds (R241, R242, R245) -/

/-- A WAIT TALLY on queue q is complete: TCNT equals NSRC and LANDED equals TSUM in the current half (R282); on a count
register it completes at once (R295). -/
def State.tallyDone (s : State) (n q : Nat) : Bool :=
  224 ≤ q ||
    (let h := s.halfOf n q (s.stepOf n)
     h.tcnt == s.get (SHT_QUEUE_NSRC n q) && h.landed == h.tsum)

/-- What a pause waits for has come (R242, R245). -/
def State.pauseReady (s : State) (n : Nat) (p : Pause) : Bool :=
  match p.kind with
  | .grant => match (s.lm n).seq.tile with | some t => t.granted | none => true
  | .tally q => s.tallyDone n q
  | .coll _ d => d
  | .writes => (s.lm n).seq.writesOut == 0
  | .gcheck _ d => d.isSome
  | .endStep => false

/-- The sequencer goes on after a pause: at the span's GBEGIN, 32 cycles later, where GCHECK's verdict restarts it (R195), and
else at the next word; a tile whose grant came starts. The pause took k cycles. -/
def State.resumePause (s : State) (n : Nat) (p : Pause) (k : Nat) : State :=
  match p.kind with
  | .gcheck _ (some true) =>
    (s.endPause n k).modSeq n fun q =>
      { q with next := (s.lm n).grd.gbegin, loops := (s.lm n).grd.gloops, cycles := q.cycles + 32 }
  | .grant => s.startTile n k
  | _ => s.endPause n k

/-- The cause of the hold that a pause becomes (R242). -/
def pauseCause (k : PauseKind) : Nat := match k with | .grant => 3 | _ => 4

/-- The cycles of the schedule that a pause takes before its slack: a WAIT's BUDGET, or the 96 of a GCHECK (R190, R242). -/
def Pause.base (p : Pause) : Nat := match p.kind with | .gcheck _ _ => 96 | _ => p.budget

/-- SLACK_EXPIRE (R242): a grant, WAIT or GCHECK pause has outlasted its BUDGET and SLACK, and the loom holds. A loom at GCHECK that has not
voted yet waits for its own operations, which is no wait for another's vote and no hold (R190); `cycles` is how long it has paused, where
that is more. -/
def execSlackExpire (n : LoomNo) (s : State) (cycles : Nat := 0) : Host.Outcome State Fault Refusal :=
  .next <|
    match (s.lm n).seq.pause with
    | none => s
    | some p =>
      if p.kind = .endStep || p.kind = .gcheck none none || p.expired || s.frozen n || s.pauseReady n p then s
      else
        let paused := match p.kind with | .gcheck _ _ => max cycles (p.base + p.slack) | _ => p.base + p.slack
        let s := (s.modSeq n fun q => { q with pause := some { p with expired := true } }).tickLoom n paused
        s.addHolds n [⟨pauseCause p.kind, none⟩]

/-- PAUSE_BUDGET_EXPIRE (R242): a WAIT or GCHECK pause whose event is ready ends once its BUDGET, or 96 cycles, have passed. `cycles` is
how long the loom paused; a WAIT that outlasts its slack has become a hold and does not end here. -/
def execPauseBudgetExpire (n : LoomNo) (cycles : Nat) (s : State) : Host.Outcome State Fault Refusal :=
  .next <|
    match (s.lm n).seq.pause with
    | none => s
    | some p =>
      if p.kind = .endStep || p.kind = .grant || p.expired || s.frozen n || !s.pauseReady n p then s
      else
        let k := match p.kind with | .gcheck _ _ => max p.base cycles | _ => min (max p.base cycles) (p.base + p.slack)
        (s.tickLoom n k).resumePause n p k

/-- The activity that caused the hold under way has completed (R241). -/
def State.holdOver (s : State) (n : Nat) (h : Hold) : Bool :=
  match h.cycles with
  | some _ => true
  | none => match (s.lm n).seq.pause with
    | some p => s.pauseReady n p
    | none => true

/-- HOLD_RESUME (R241): the hold or slip under way ends; the next one due begins, or the schedule resumes. The cycles of a hold
whose length the event does not fix come with the command (R244). -/
def execHoldResume (n : LoomNo) (cycles : Nat) (s : State) : Host.Outcome State Fault Refusal :=
  .next <|
    let q := (s.lm n).seq
    if q.slip != 0 then
      let s := s.modSeq n fun q => { q with cycles := q.cycles + q.slip, accFree := q.accFree + q.slip, stage2 := q.stage2 + q.slip, slip := 0 }
      (s.showHold n).set (LOOM_STATUS_SLIP n) 0
    else match q.holds with
      | [] => s
      | h :: rest =>
        if !s.holdOver n h then s
        else
          let k := h.cycles.getD cycles
          let s := s.modSeq n fun q => { q with holds := rest, cycles := q.cycles + k, accFree := q.accFree + k, stage2 := q.stage2 + k }
          let s := match h.cycles, q.pause with
            | none, some p => s.resumePause n p (k + 1)
            | _, _ => s
          ((s.showHold n).add (LOOM_HOLD_CYC_CYCLES n h.cause) k).add (LOOM_STEP_HOLD_CYCLES n h.cause) k

/-- A loom whose grant has come: its tile starts, or, where the wait has become a hold, starts when the hold resumes. -/
def State.grantTile (s : State) (n waited : Nat) : State :=
  match (s.lm n).seq.pause with
  | some ⟨.grant, _, slack, expired⟩ =>
    if expired then s.modSeq n fun q => { q with tile := q.tile.map fun t => { t with granted := true } }
    else (s.tickLoom n (min waited slack)).startTile n (min waited slack)
  | _ => s

/-- LEDGER_GRANT (R38): the request at the head is granted whole when it fits the free credits, and blocks otherwise. `waited`
is how long the loom paused for it; `cycles` are the NoC cycles since the ledger's last decision in which a request waited (R493). The
decision ends the ledger cycle in which the requests that have come since the last one arrived (log 110). -/
def execLedgerGrant (waited : Nat) (s : State) (cycles : Nat := 0) : Host.Outcome State Fault Refusal :=
  .next <|
    match s.ledger with
    | [] => s
    | r :: rest =>
      let aged (l : List LdgReq) : List LdgReq := l.map fun x => { x with fresh := false }
      if r.credits ≤ s.poolFree then
        let s := ({ s with ledger := aged rest } : State).grantTile r.loom waited
        ((s.takeCredits r.loom r.credits).add LDG_CNT_WAIT_N cycles).add LDG_CNT_GRANT_N 1
      else ({ s with ledger := aged (r :: rest) } : State).add LDG_CNT_WAIT_N cycles

/-! ### The scrubber (R260) -/

/-- Full passes of the scrubber: the fewest times it has read every line of a bank. -/
def scrubPasses (n : Nat) (t : List (Nat × Nat)) : Nat :=
  ((List.range (spadSize n / 0x40000)).map fun b => tget 0 t b / 4096).foldl min (tget 0 t 0 / 4096)

/-- SCRUB_LINE (R260): the scrubber reads the bank's next line, correcting and classifying its errors without a hold. -/
def execScrubLine (n : LoomNo) (bank : Fin 48) (evs : List SpadEv) (s : State) : Host.Outcome State Fault Refusal :=
  .next <|
    if !s.is (SPD_SCRUB_CTL_EN n) || s.frozen n || spadSize n / 0x40000 ≤ bank.val then s
    else
      let t := (s.lm n).spd.scrub
      let line := tget 0 t bank % 4096
      let t' := tput 0 t bank (tget 0 t bank + 1)
      let here := evs.filter fun e => bankOf e.addr == bank.val && e.addr / 256 % 4096 == line
      let s := (s.eccEvents n here).eccSeen n
      let s := s.modSpd n fun p => { p with scrub := t' }
      if scrubPasses n t < scrubPasses n t' then s.add (SPD_CNT_SCRUB_PASS_PASSES n) 1 else s

end Sys2Proof.Machine
end

