-- ==== Sys2Proof/Machine/Crypto.lean ====
section
/-! DEFINITION. The standard algorithms that the spec names: AES-256 in XTS mode (IEEE 1619, R344), SHA-384 (R387, R437) and the
CRC-32 of IEEE 802.3 (R371, R453). PRESUMED (log 20): written from the standards. -/
namespace Sys2Proof.Machine

/-! ### AES-256 -/

/-- The AES substitution box. -/
def aesSbox : List Nat :=
  [0x63, 0x7C, 0x77, 0x7B, 0xF2, 0x6B, 0x6F, 0xC5, 0x30, 0x01, 0x67, 0x2B, 0xFE, 0xD7, 0xAB, 0x76,
   0xCA, 0x82, 0xC9, 0x7D, 0xFA, 0x59, 0x47, 0xF0, 0xAD, 0xD4, 0xA2, 0xAF, 0x9C, 0xA4, 0x72, 0xC0] ++
  [0xB7, 0xFD, 0x93, 0x26, 0x36, 0x3F, 0xF7, 0xCC, 0x34, 0xA5, 0xE5, 0xF1, 0x71, 0xD8, 0x31, 0x15,
   0x04, 0xC7, 0x23, 0xC3, 0x18, 0x96, 0x05, 0x9A, 0x07, 0x12, 0x80, 0xE2, 0xEB, 0x27, 0xB2, 0x75] ++
  [0x09, 0x83, 0x2C, 0x1A, 0x1B, 0x6E, 0x5A, 0xA0, 0x52, 0x3B, 0xD6, 0xB3, 0x29, 0xE3, 0x2F, 0x84,
   0x53, 0xD1, 0x00, 0xED, 0x20, 0xFC, 0xB1, 0x5B, 0x6A, 0xCB, 0xBE, 0x39, 0x4A, 0x4C, 0x58, 0xCF] ++
  [0xD0, 0xEF, 0xAA, 0xFB, 0x43, 0x4D, 0x33, 0x85, 0x45, 0xF9, 0x02, 0x7F, 0x50, 0x3C, 0x9F, 0xA8,
   0x51, 0xA3, 0x40, 0x8F, 0x92, 0x9D, 0x38, 0xF5, 0xBC, 0xB6, 0xDA, 0x21, 0x10, 0xFF, 0xF3, 0xD2] ++
  [0xCD, 0x0C, 0x13, 0xEC, 0x5F, 0x97, 0x44, 0x17, 0xC4, 0xA7, 0x7E, 0x3D, 0x64, 0x5D, 0x19, 0x73,
   0x60, 0x81, 0x4F, 0xDC, 0x22, 0x2A, 0x90, 0x88, 0x46, 0xEE, 0xB8, 0x14, 0xDE, 0x5E, 0x0B, 0xDB] ++
  [0xE0, 0x32, 0x3A, 0x0A, 0x49, 0x06, 0x24, 0x5C, 0xC2, 0xD3, 0xAC, 0x62, 0x91, 0x95, 0xE4, 0x79,
   0xE7, 0xC8, 0x37, 0x6D, 0x8D, 0xD5, 0x4E, 0xA9, 0x6C, 0x56, 0xF4, 0xEA, 0x65, 0x7A, 0xAE, 0x08] ++
  [0xBA, 0x78, 0x25, 0x2E, 0x1C, 0xA6, 0xB4, 0xC6, 0xE8, 0xDD, 0x74, 0x1F, 0x4B, 0xBD, 0x8B, 0x8A,
   0x70, 0x3E, 0xB5, 0x66, 0x48, 0x03, 0xF6, 0x0E, 0x61, 0x35, 0x57, 0xB9, 0x86, 0xC1, 0x1D, 0x9E] ++
  [0xE1, 0xF8, 0x98, 0x11, 0x69, 0xD9, 0x8E, 0x94, 0x9B, 0x1E, 0x87, 0xE9, 0xCE, 0x55, 0x28, 0xDF,
   0x8C, 0xA1, 0x89, 0x0D, 0xBF, 0xE6, 0x42, 0x68, 0x41, 0x99, 0x2D, 0x0F, 0xB0, 0x54, 0xBB, 0x16]

/-- Substitute a byte. -/
def aesSub (x : Nat) : Nat := aesSbox.getD (x % 256) 0

/-- The inverse substitution. -/
def aesInvSub (x : Nat) : Nat := aesSbox.idxOf (x % 256)

/-- Multiplication by x in the AES field. -/
def aesX (a : Nat) : Nat := (2 * a % 256) ^^^ (if 128 ≤ a then 0x1B else 0)

/-- Multiplication in the AES field by a constant of up to four bits. -/
def aesMul (c a : Nat) : Nat :=
  (if bitOf c 0 then a else 0) ^^^ (if bitOf c 1 then aesX a else 0) ^^^ (if bitOf c 2 then aesX (aesX a) else 0)
    ^^^ (if bitOf c 3 then aesX (aesX (aesX a)) else 0)

/-- Bytewise exclusive or. -/
def xorBytes (a b : List Nat) : List Nat := List.zipWith (· ^^^ ·) a b

/-- The next word of the key schedule from word i - 8 and word i - 1. -/
def aesNextWord (i : Nat) (old prev : List Nat) (rcon : Nat) : List Nat :=
  let t := if i % 8 = 0 then
      match prev with
      | a :: r => xorBytes ((r ++ [a]).map aesSub) [rcon, 0, 0, 0]
      | [] => []
    else if i % 8 = 4 then prev.map aesSub else prev
  xorBytes old t

/-- The key schedule on fuel: the words so far, newest first. -/
def aesExpand : Nat → Nat → Nat → List (List Nat) → List (List Nat)
  | 0, _, _, ws => ws
  | k + 1, i, rcon, ws =>
    let w := aesNextWord i (ws.getD 7 []) (ws.getD 0 []) rcon
    aesExpand k (i + 1) (if i % 8 = 0 then aesX rcon else rcon) (w :: ws)

/-- Cut a list of bytes into words of four. -/
def words4 : Nat → List Nat → List (List Nat)
  | 0, _ => []
  | k + 1, l => l.take 4 :: words4 k (l.drop 4)

/-- The fifteen round keys of a 32-byte key. -/
def aesKeys (key : List Nat) : List (List Nat) :=
  let ws := (aesExpand 52 8 1 (words4 8 key).reverse).reverse
  (List.range 15).map fun r => (((ws.drop (4 * r)).take 4).flatten)

/-- Permute the bytes of a block. -/
def aesPerm (idx : List Nat) (b : List Nat) : List Nat := idx.map fun i => b.getD i 0

/-- Mix the columns with the circulant coefficients of the first row. -/
def aesMix (c : List Nat) (b : List Nat) : List Nat :=
  (words4 4 b).flatMap fun col => (List.range 4).map fun r =>
    ((List.range 4).map fun k => aesMul (c.getD ((k + 4 - r) % 4) 0) (col.getD k 0)).foldl (· ^^^ ·) 0

/-- Source index of each byte after the rows shift. -/
def aesShift : List Nat := [0, 5, 10, 15, 4, 9, 14, 3, 8, 13, 2, 7, 12, 1, 6, 11]
/-- The inverse of the row shift. -/
def aesUnshift : List Nat := [0, 13, 10, 7, 4, 1, 14, 11, 8, 5, 2, 15, 12, 9, 6, 3]

/-- Encrypt one block. -/
def aesEnc (keys : List (List Nat)) (b : List Nat) : List Nat :=
  let s := xorBytes b (keys.getD 0 [])
  let s := (List.range 13).foldl (fun s r =>
    xorBytes (aesMix [2, 3, 1, 1] (aesPerm aesShift (s.map aesSub))) (keys.getD (r + 1) [])) s
  xorBytes (aesPerm aesShift (s.map aesSub)) (keys.getD 14 [])

/-- Decrypt one block. -/
def aesDec (keys : List (List Nat)) (b : List Nat) : List Nat :=
  let s := (aesPerm aesUnshift (xorBytes b (keys.getD 14 []))).map aesInvSub
  let s := (List.range 13).foldl (fun s r =>
    (aesPerm aesUnshift (aesMix [14, 11, 13, 9] (xorBytes s (keys.getD (13 - r) [])))).map aesInvSub) s
  xorBytes s (keys.getD 0 [])

/-! ### XTS (R344) -/

/-- Little-endian bytes of a number, as numbers. -/
def natBytes : Nat → Nat → List Nat
  | 0, _ => []
  | k + 1, v => v % 256 :: natBytes k (v / 256)

/-- The number of little-endian bytes. -/
def bytesNat : List Nat → Nat
  | [] => 0
  | b :: t => b + 256 * bytesNat t

/-! ### Key wrap (RFC 3394, R457) -/

/-- One step of the unwrapping: the register A and one block of 8 bytes. -/
def unwrapOne (keys : List (List Nat)) (t : Nat) (a r : List Nat) : List Nat × List Nat :=
  let b := aesDec keys (xorBytes a (natBytes 8 t).reverse ++ r)
  (b.take 8, b.drop 8)

/-- Round j, over the n blocks from the last to the first. -/
def unwrapRound (keys : List (List Nat)) (n j : Nat) (q : List Nat × List (List Nat)) : List Nat × List (List Nat) :=
  q.2.zipIdx.reverse.foldl (fun p x =>
    let (a, r) := unwrapOne keys (n * j + x.2 + 1) p.1 x.1
    (a, r :: p.2)) (q.1, [])

/-- What a wrapped list of bytes holds; none where its integrity check fails. -/
def aesUnwrap (key l : List Nat) : Option (List Nat) :=
  let keys := aesKeys key
  let n := l.length / 8 - 1
  let (a, rs) := (List.range 6).foldl (fun q j => unwrapRound keys n (5 - j) q)
    (l.take 8, (List.range n).map fun i => (l.drop (8 * (i + 1))).take 8)
  if a = List.replicate 8 0xA6 then some rs.flatten else none

/-- Blocks of 16 bytes under the running tweak. -/
def xtsBlocks (f : List Nat → List Nat) : Nat → Nat → List Nat → List Nat
  | 0, _, _ => []
  | k + 1, t, l =>
    let tb := natBytes 16 t
    let c := xorBytes (f (xorBytes (l.take 16) tb)) tb
    c ++ xtsBlocks f k ((2 * t % 2 ^ 128) ^^^ (if 2 ^ 127 ≤ t then 0x87 else 0)) (l.drop 16)

/-- AES-256-XTS of one data unit of 256 bytes: key 1 in bytes 0 to 31 of the pair, key 2 in bytes 32 to 63 (R346). -/
def xtsUnit (dec : Bool) (pair : Nat) (tweak : Nat) (l : List Byte) : List Byte :=
  let kb := natBytes 64 pair
  let k1 := aesKeys (kb.take 32)
  let t := bytesNat (aesEnc (aesKeys (kb.drop 32)) (natBytes 16 (tweak % 2 ^ 128)))
  (xtsBlocks (if dec then aesDec k1 else aesEnc k1) 16 t (l.map (·.toNat))).map (BitVec.ofNat 8)

/-! ### SHA-384 -/

/-- The first primes. -/
def somePrimes : List Nat := (List.range 410).filter fun n => 2 ≤ n && (List.range n).all fun d => d < 2 || n % d != 0

/-- The largest r with r ^ k ≤ x, bit by bit on fuel. -/
def rootBits (k x : Nat) : Nat → Nat → Nat
  | 0, r => r
  | b + 1, r => let t := r + 2 ^ b; rootBits k x b (if t ^ k ≤ x then t else r)

/-- The round constants: the first 64 fraction bits of the cube roots of the first eighty primes. -/
def shaK : List Nat := (somePrimes.take 80).map fun p => rootBits 3 (p * 2 ^ 192) 70 0 % 2 ^ 64

/-- The initial hash value: the first 64 fraction bits of the square roots of the ninth to sixteenth primes. -/
def sha384Init : List Nat := ((somePrimes.drop 8).take 8).map fun p => rootBits 2 (p * 2 ^ 128) 70 0 % 2 ^ 64

/-- Rotate a 64-bit word right. -/
def rotr64 (n x : Nat) : Nat := x / 2 ^ n + x % 2 ^ n * 2 ^ (64 - n)

/-- The message schedule on fuel, newest word first. -/
def shaSchedule : Nat → List Nat → List Nat
  | 0, ws => ws
  | k + 1, ws =>
    let a := ws.getD 14 0
    let b := ws.getD 1 0
    let s0 := rotr64 1 a ^^^ rotr64 8 a ^^^ (a / 2 ^ 7)
    let s1 := rotr64 19 b ^^^ rotr64 61 b ^^^ (b / 2 ^ 6)
    shaSchedule k ((ws.getD 15 0 + s0 + ws.getD 6 0 + s1) % 2 ^ 64 :: ws)

/-- One round on the eight working words. -/
def shaRound (h : List Nat) (kw : Nat) : List Nat :=
  match h with
  | [a, b, c, d, e, f, g, x] =>
    let s1 := rotr64 14 e ^^^ rotr64 18 e ^^^ rotr64 41 e
    let ch := (e &&& f) ^^^ ((2 ^ 64 - 1 - e) &&& g)
    let t1 := x + s1 + ch + kw
    let s0 := rotr64 28 a ^^^ rotr64 34 a ^^^ rotr64 39 a
    let maj := (a &&& b) ^^^ (a &&& c) ^^^ (b &&& c)
    [(t1 + s0 + maj) % 2 ^ 64, a, b, c, (d + t1) % 2 ^ 64, e, f, g]
  | _ => h

/-- Compress one block of sixteen words. -/
def shaBlock (h : List Nat) (ws : List Nat) : List Nat :=
  let sched := (shaSchedule 64 ws.reverse).reverse
  List.zipWith (fun a b => (a + b) % 2 ^ 64) h ((List.zipWith (· + ·) shaK sched).foldl shaRound h)

/-- The padded message as sixteen-word blocks. -/
def shaBlocks : Nat → List Byte → List (List Nat)
  | 0, _ => []
  | k + 1, l => ((List.range 16).map fun i => beNat ((l.drop (8 * i)).take 8)) :: shaBlocks k (l.drop 128)

/-- SHA-384 of a byte string: 48 bytes. -/
def sha384 (m : List Byte) : List Byte :=
  let n := m.length
  let k := (n + 17 + 127) / 128
  let pad := m ++ [0x80] ++ List.replicate (128 * k - n - 17) 0 ++ (leBytes 16 (8 * n)).reverse
  (((shaBlocks k pad).foldl shaBlock sha384Init).take 6).flatMap fun w => (leBytes 8 w).reverse

/-! ### CRC-32 -/

/-- One bit of the reflected CRC. -/
def crcBit : Nat → Nat → Nat
  | 0, c => c
  | k + 1, c => crcBit k (c / 2 ^^^ (if c % 2 = 1 then 0xEDB88320 else 0))

/-- CRC-32 of a byte string as IEEE 802.3 computes it. -/
def crc32 (l : List Byte) : Nat := (l.foldl (fun c b => crcBit 8 (c ^^^ b.toNat)) 0xFFFFFFFF) ^^^ 0xFFFFFFFF

end Sys2Proof.Machine
end

