-- ==== Sys2Proof/Machine/Hbm.lean ====
section
/-! DEFINITION. HBM: the region table, the memory-side cache, protected regions, sector errors, and the commands on them
(R29, R331 to R347, R359, R360, R364). -/
namespace Sys2Proof.Machine

/-! ### Addresses (R29, R335, R341) -/

/-- The first address above HBM (R27). -/
def hbmEnd : Nat := 0x1D800000000

/-- The stack of an HBM address (R29). -/
def stackOf (a : Nat) : Nat := (a - hbmBase) / 4096 % 12

/-- The stack byte address of an HBM address (R29). -/
def saddrOf (a : Nat) : Nat := (a - hbmBase) / 4096 / 12 * 4096 + (a - hbmBase) % 4096

/-- Key of the cache set of an HBM address: stack × 8,192 + set (R335). -/
def setKey (a : Nat) : Nat :=
  let x := saddrOf a
  stackOf a * 8192 + ((x / 2 ^ 8) ^^^ (x / 2 ^ 21)) % 8192

/-- Where a line lies in its stack's DRAM (R341): channel, pseudo-channel, bank, row, and the 256-byte line within the row. -/
structure DramAddr where
  ch : Nat
  pc : Nat
  col : Nat
  bank : Nat
  row : Nat
  deriving DecidableEq, Repr

/-- The DRAM address of an HBM address (R341). -/
def dramOf (a : Nat) : DramAddr :=
  let x := saddrOf a
  { ch := bits x 8 5 ^^^ bits x 20 5, pc := bits x 13 1, col := bits x 14 2, bank := bits x 16 4 ^^^ bits x 25 4, row := x / 2 ^ 20 }

/-- DETAIL of an HBM sector record (R341, R508). -/
def hbmDetail (a : Nat) : List Nat :=
  let d := dramOf a
  [d.ch, d.pc, d.bank, 0] ++ le32 d.row

/-- Cut [a, a + n) into pieces that each lie in one 256-byte line, on fuel. -/
def linePieces : Nat → Nat → Nat → List (Nat × Nat)
  | 0, _, _ => []
  | k + 1, a, n =>
    if n = 0 then []
    else
      let m := min n (256 - a % 256)
      (a, m) :: linePieces k (a + m) (n - m)

/-! ### Regions (R331, R333) -/

/-- Indices of the valid region entries, ascending. -/
def State.validRegions (s : State) : List Nat :=
  s.flds.filterMap fun e =>
    let b := (HBM_RGN_VALID 0).key
    if b ≤ e.1 && (e.1 - b) % 128 = 0 && (e.1 - b) / 128 < 4096 then some ((e.1 - b) / 128) else none

/-- The base address of region i. -/
def State.rgnBase (s : State) (i : Nat) : Nat := hbmBase + 65536 * s.get (HBM_RGN_BASE_64K i)

/-- Region i covers an address. -/
def State.rgnCovers (s : State) (i a : Nat) : Bool :=
  s.rgnBase i ≤ a && a < s.rgnBase i + 65536 * s.get (HBM_RGN_SIZE_64K i)

/-- The valid region that covers an address. -/
def State.regionAt (s : State) (a : Nat) : Option Nat := s.validRegions.find? fun i => s.rgnCovers i a

/-- The key slot that an access with a tenant uses in region i (R344). -/
def State.keySlot (s : State) (i tenant : Nat) : Nat :=
  if s.is (HBM_RGN_ANY i) then tenant else s.get (HBM_RGN_TENANT i)

/-- Key slot t holds a key (R364). -/
def State.keyValid (s : State) (t : Nat) : Bool := bitOf (s.get (SEC_KEY_VALID_MAP (t / 32))) (t % 32)

/-- How an access at an address is decided (R333, R343): its status, and the region that covers it. A raw access needs no key
(R345). -/
def State.hbmDecide (s : State) (req : Requester) (tenant : Nat) (raw : Bool) (a : Nat) : Nat × Option Nat :=
  if s.is (HBM_STATUS_BENCHED (stackOf a)) || s.get (HBM_PHY_CTL_LOOP (stackOf a)) != 0 then (2, none)
  else match s.regionAt a with
    | none => match req with
      | .peer _ _ => (3, none)
      | _ => if tenant = 0 then (0, none) else (3, none)
    | some i =>
      let admitted := match req with
        | .peer c _ => s.is (HBM_RGN_PEER_EN i) && s.get (HBM_RGN_PEER_CHIP i) == c
        | _ => tenant == 0 || tenant == s.get (HBM_RGN_TENANT i) || s.is (HBM_RGN_ANY i)
      if !admitted then (3, some i)
      else if s.is (HBM_RGN_PROT i) && !raw && !s.keyValid (s.keySlot i tenant) then (3, some i)
      else (0, some i)

/-- The hint of an access: the region's, or the default one outside any region (R333, R360). -/
def State.hintOf (s : State) (a : Nat) (rg : Option Nat) : Nat :=
  match rg with
  | some i => s.get (HBM_RGN_HINT i)
  | none => let h := s.get (MSC_CTL_DEF_HINT (stackOf a)); if h = 3 then 0 else h

/-! ### The memory-side cache (R335 to R338) -/

/-- A 256-byte line as the DRAM holds it, and which of its sectors are poisoned. -/
def State.dramLine (s : State) (l : Nat) : List Byte × Nat :=
  (s.bytesAt l 256, ((List.range 4).map fun i => if tget 0 s.poison (l + 64 * i) = 0 then 0 else 2 ^ i).sum)

/-- Store a line in DRAM with its poison. -/
def State.putDram (s : State) (l : Nat) (data : List Byte) (mask : Nat) : State :=
  { s with mem := putBytes s.mem l data
           poison := (List.range 4).foldl (fun m i => tput 0 m (l + 64 * i) (b2n (bitOf mask i))) s.poison }

/-- The cached copy of a line. -/
def State.cached (s : State) (l : Nat) : Option CLine := (tget [] s.cache (setKey l)).find? fun c => c.line == l

/-- A line's current contents, wherever they are; no access is made. -/
def State.lineNow (s : State) (l : Nat) : List Byte × Nat :=
  match s.cached l with
  | some c => (c.data, c.mask)
  | none => s.dramLine l

/-- Replace the lines of the set of an address. -/
def State.putSet (s : State) (l : Nat) (ls : List CLine) : State := { s with cache := tput [] s.cache (setKey l) ls }

/-- KEEP lines of a tenant among some lines. -/
def keepCount (t : Nat) (ls : List CLine) : Nat := ls.countP fun c => c.keep && c.tenant == t

/-- Count a KEEP line of a tenant in or out of a stack (R360). -/
def State.keptBy (s : State) (st : Nat) (c : CLine) (up : Bool) : State :=
  if !c.keep then s
  else
    let f := MSC_KEPT_LINES st (c.tenant % 1024)
    s.set f (if up then s.get f + 1 else s.get f - 1)

/-- Take a line out of the cache, writing it back where it is dirty and `wb` holds. -/
def State.dropLine (s : State) (c : CLine) (wb : Bool) : State :=
  let st := stackOf c.line
  let s := s.putSet c.line ((tget [] s.cache (setKey c.line)).filter fun x => x.line != c.line)
  let s := s.keptBy st c false
  if c.dirty && wb then (s.putDram c.line c.data c.mask).add (MSC_CNT_WB_WB st) 1 else s

/-- The victim of an allocation (R337): the least recent line that is unmarked or whose tenant is over its quota. -/
def State.victim (s : State) (ls : List CLine) : Option CLine :=
  ls.reverse.find? fun c => !c.keep || decide (s.get (HBM_TQ_KEEP_WAYS c.tenant) < keepCount c.tenant ls)

/-- Allocate a line for a tenant under KEEP (R337): it becomes the most recent of its set. -/
def State.allocLine (s : State) (l tenant : Nat) (dirty : Bool) (data : List Byte) (mask : Nat) : State :=
  let st := stackOf l
  let ls := tget [] s.cache (setKey l)
  let mark := decide (keepCount tenant ls < s.get (HBM_TQ_KEEP_WAYS tenant))
  let s := if mark then s else s.add (MSC_CNT_OVERQ_OVERQ st) 1
  let s := if ls.length < 16 then s
    else match s.victim ls with
      | some v => s.dropLine v true
      | none => match ls.getLast? with
        | some v => s.dropLine v true
        | none => s
  let c : CLine := { line := l, tenant, keep := mark, dirty, data, mask }
  (s.putSet l (c :: tget [] s.cache (setKey l))).keptBy st c true

/-- A read of a line under a hint (R336): its bytes and poison, and the cache's new state. -/
def State.cacheRead (s : State) (l tenant hint : Nat) : (List Byte × Nat) × State :=
  let st := stackOf l
  match s.cached l with
  | some c =>
    let s := s.add (MSC_CNT_HIT_HIT st) 1
    let s := if hint = 1 then s.putSet l (c :: (tget [] s.cache (setKey l)).filter fun x => x.line != l)
      else if hint = 2 then
        let s := s.dropLine c false
        if c.dirty then s.add (MSC_CNT_DISCARD_DISCARD st) 1 else s
      else s
    ((c.data, c.mask), s)
  | none =>
    let s := s.add (MSC_CNT_MISS_MISS st) 1
    let d := s.dramLine l
    (d, if hint = 1 then s.allocLine l tenant false d.1 d.2 else s)

/-- A write of a line's new contents under a hint (R336). -/
def State.cacheWrite (s : State) (l tenant hint : Nat) (data : List Byte) (mask : Nat) : State :=
  let st := stackOf l
  match s.cached l with
  | some _ =>
    (s.add (MSC_CNT_HIT_HIT st) 1).putSet l ((tget [] s.cache (setKey l)).map fun x =>
      if x.line == l then { x with dirty := true, data, mask } else x)
  | none =>
    let s := s.add (MSC_CNT_MISS_MISS st) 1
    if hint = 1 then s.allocLine l tenant true data mask else s.putDram l data mask

/-! ### Accesses (R333, R342, R344, R534) -/

/-- What a read gives: the status, the bytes, and the poison of each byte. -/
structure RdData where
  status : Nat
  data : List Byte
  pois : List Bool
  deriving DecidableEq, Repr

/-- The tweak of the unit at a line address in region i (R344). -/
def State.tweakOf (s : State) (i l : Nat) : Nat := s.get (HBM_RGN_TWEAK_BASE i) + (l - s.rgnBase i) / 256

/-- The region encrypts this access. -/
def State.protects (s : State) (rg : Option Nat) (raw : Bool) : Bool :=
  !raw && (match rg with | some i => s.is (HBM_RGN_PROT i) | none => false)

/-- Encrypt or decrypt a unit where the region protects it. -/
def State.cryptLine (s : State) (dec : Bool) (rg : Option Nat) (tenant l : Nat) (raw : Bool) (data : List Byte) : List Byte :=
  match rg with
  | some i => if s.protects rg raw then xtsUnit dec (tget 0 s.keys (s.keySlot i tenant)) (s.tweakOf i l) data else data
  | none => data

/-- Sectors of a line that [o, o + n) touches. -/
def sectorsOf (o n : Nat) : List Nat := (List.range 4).filter fun i => decide (64 * i < o + n) && decide (o < 64 * i + 64)

/-- An access wakes a stack that it meets asleep (R486). -/
def State.wakeStack (s : State) (a : Nat) : State :=
  if s.asleep (144 + stackOf a) then s.wakeDomain (144 + stackOf a) else s

/-- Read one piece of a line. A sector in `fresh` has just been found uncorrectable by this access and does not count as poisoned
(R342). -/
def State.readPiece (s : State) (req : Requester) (tenant : Nat) (raw : Bool) (a n : Nat) (fresh : List Nat := []) : RdData × State :=
  match s.hbmDecide req tenant raw a with
  | (0, rg) =>
    let s := s.wakeStack a
    let l := a - a % 256
    let ((data, mask), s) := s.cacheRead l tenant (s.hintOf a rg)
    let plain := s.cryptLine true rg tenant l raw data
    let bad := (sectorsOf (a % 256) n).countP fun i => bitOf mask i && !fresh.contains (l + 64 * i)
    (⟨0, slice plain (a % 256) n, (List.range n).map fun j => bitOf mask ((a % 256 + j) / 64)⟩,
      s.add (HBM_CNT_POISON_POISON (stackOf a)) bad)
  | (st, _) => (⟨st, List.replicate n 0, List.replicate n (st == 2)⟩, s)

/-- Write one piece of a line. -/
def State.writePiece (s : State) (req : Requester) (tenant : Nat) (raw : Bool) (a : Nat) (d : List Byte) (pois : List Bool) :
    Nat × State :=
  match s.hbmDecide req tenant raw a with
  | (0, rg) =>
    let s := s.wakeStack a
    let l := a - a % 256
    let o := a % 256
    let n := d.length
    let (old, mask) := s.lineNow l
    let plain := s.cryptLine true rg tenant l raw old
    let new := s.cryptLine false rg tenant l raw (plain.take o ++ d ++ plain.drop (o + n))
    let hit (i : Nat) : Bool := ((List.range n).zip pois).any fun e => e.2 && (o + e.1) / 64 == i
    let m := if s.protects rg raw && n < 256 then (if mask != 0 || pois.any id then 15 else 0)
      else ((List.range 4).map fun i =>
        if !(sectorsOf o n).contains i then mask &&& 2 ^ i
        else if o ≤ 64 * i && 64 * i + 64 ≤ o + n then b2n (hit i) * 2 ^ i
        else b2n (hit i || bitOf mask i) * 2 ^ i).sum
    (0, s.cacheWrite l tenant (s.hintOf a rg) new m)
  | (st, _) => (st, s)

/-- The error record of an access to HBM that did not complete with OK (R31, R333, R506, R508). -/
def State.hbmRefused (s : State) (req : Requester) (tenant a status : Nat) : State :=
  s.report (mkRec 12 (stackOf a) (0x300 + status) 2 (some a) 0 tenant (s.reqDetail req))

/-- Read [a, a + n) of HBM piece by piece: what it gives, and the address of the first piece that did not complete with OK (R534). -/
def State.hbmScan (s : State) (req : Requester) (tenant : Nat) (raw : Bool) (a n : Nat) (fresh : List Nat := []) :
    RdData × Option Nat × State :=
  let step (acc : RdData × Option Nat × State) (p : Nat × Nat) : RdData × Option Nat × State :=
    let (r, bad, s) := acc
    let (x, s) := s.readPiece req tenant raw p.1 p.2 fresh
    (⟨if r.status = 0 then x.status else r.status, r.data ++ x.data, r.pois ++ x.pois⟩,
      if bad.isSome || x.status = 0 then bad else some p.1, s)
  (linePieces (n / 256 + 2) a n).foldl step (⟨0, [], []⟩, none, s.wakeStack a)

/-- Read [a, a + n) of HBM, with one error record for the first piece that did not complete with OK (R534). -/
def State.hbmRead (s : State) (req : Requester) (tenant : Nat) (raw : Bool) (a n : Nat) (fresh : List Nat := []) : RdData × State :=
  let (r, bad, s) := s.hbmScan req tenant raw a n fresh
  (r, match bad with | some x => s.hbmRefused req tenant x r.status | none => s)

/-- Write bytes to HBM piece by piece, with the poison of each byte: the status, and the address of the first piece that did not complete
with OK (R534). -/
def State.hbmStore (s : State) (req : Requester) (tenant : Nat) (raw : Bool) (a : Nat) (d : List Byte) (pois : List Bool) :
    Nat × Option Nat × State :=
  let step (acc : Nat × Option Nat × State) (p : Nat × Nat) : Nat × Option Nat × State :=
    let (st, bad, s) := acc
    let (x, s) := s.writePiece req tenant raw p.1 ((d.drop (p.1 - a)).take p.2) ((pois.drop (p.1 - a)).take p.2)
    (if st = 0 then x else st, if bad.isSome || x = 0 then bad else some p.1, s)
  (linePieces (d.length / 256 + 2) a d.length).foldl step (0, none, s.wakeStack a)

/-- Write bytes to HBM, with one error record for the first piece that did not complete with OK (R534). -/
def State.hbmWrite (s : State) (req : Requester) (tenant : Nat) (raw : Bool) (a : Nat) (d : List Byte) (pois : List Bool) :
    Nat × State :=
  let (st, bad, s) := s.hbmStore req tenant raw a d pois
  (st, match bad with | some x => s.hbmRefused req tenant x st | none => s)

/-- A write of clean bytes, or of bytes that are all poisoned. -/
def State.hbmPut (s : State) (req : Requester) (tenant : Nat) (raw : Bool) (a : Nat) (d : List Byte) (p : Bool) : Nat × State :=
  s.hbmWrite req tenant raw a d (d.map fun _ => p)

/-! ### Where an address lies (R27, R28, R34) -/

/-- The region of a local address. -/
inductive Place where
  | hbm
  /-- A scratchpad, with the loom and the offset in its window. -/
  | spad (n off : Nat)
  /-- An accumulator view. -/
  | acc (n off : Nat)
  /-- A Draft store, with the offset in it. -/
  | draft (n off : Nat)
  /-- A loom's register blocks. -/
  | regs (n : Nat)
  | mmio
  /-- Reserved, or an unbacked scratchpad range. -/
  | none
  deriving DecidableEq, Repr

/-- The region of a local address (R27, R28). -/
def placeOf (a : Nat) : Place :=
  if a < 0x40000000 then (if a < 0xA000000 then .mmio else .none)
  else if a < 0x80000000 then .none
  else if a < 0x110000000 then
    let n := (a - 0x80000000) / 0x1000000
    let o := a % 0x1000000
    if o < 0xC00000 then (if o < spadSize n then .spad n o else .none)
    else if o < 0xE00000 then .acc n o
    else if o < 0xF00000 then .draft n (o - 0xE00000)
    else if o < 0xFA0000 then .regs n
    else .none
  else if hbmBase ≤ a && a < hbmEnd then .hbm
  else .none

/-- SRC and INSTANCE of the block that owns an address (R34, R453, R506). A range that no block owns is recorded under SLV. -/
def ownerOf (a : Nat) : Nat × Nat :=
  if 0x80000000 ≤ a && a < 0x110000000 then (0, (a - 0x80000000) / 0x1000000)
  else if hbmBase ≤ a && a < hbmEnd then (12, stackOf a)
  else if a < 0x100000 then (18, 0)
  else if a < 0x200000 then (22, 0)
  else if a < 0x210000 then (20, 0)
  else if a < 0x220000 then (19, 0)
  else if a < 0x230000 then (21, 0)
  else if 0x300000 ≤ a && a < 0x400000 then (17, 0)
  else if 0x1000000 ≤ a && a < 0x2000000 then (10, 0)
  else if 0x2000000 ≤ a && a < 0x2C00000 then (12, (a - 0x2000000) / 0x100000)
  else if 0x3000000 ≤ a && a < 0x3C00000 then (11, (a - 0x3000000) / 0x100000)
  else if 0x4000000 ≤ a && a < 0x4100000 then (13, 0)
  else if 0x5000000 ≤ a && a < 0x5010000 then (14, 0)
  else if 0x5010000 ≤ a && a < 0x5110000 then (14, 1 + (a - 0x5010000) / 0x10000)
  else if 0x6000000 ≤ a && a < 0x6100000 then (15, 0)
  else if 0x6100000 ≤ a && a < 0x6700000 then (15, 1 + (a - 0x6100000) / 0x100000)
  else if 0x7000000 ≤ a && a < 0x7120000 then (16, (a - 0x7000000) / 0x10000)
  else (18, 0)

/-- The error record of an access that did not complete with OK (R31, R506, R508). -/
def State.refusedAt (s : State) (req : Requester) (tenant a status : Nat) : State :=
  let o := ownerOf a
  s.report (mkRec o.1 o.2 (0x300 + status) 2 (some a) 0 tenant (s.reqDetail req))

/-- An address of MMIO that R34 gives to a block. -/
def mmioMapped (a : Nat) : Bool := a < 0x100000 || ownerOf a != (18, 0) || (0x8000000 ≤ a && a < 0xA000000)

/-- An address in the register blocks of a port that is benched: its own or its Ethernet ports' (R31, R467). The blocks of a benched
stack stay in reach, since R343 has HBM_PHY_CTL written there (log 95). -/
def State.portOut (s : State) (x : Nat) : Bool :=
  (0x6100000 ≤ x && x < 0x6700000 && bitOf s.mgmt.outPorts ((x - 0x6100000) / 0x100000))
    || (0x7000000 ≤ x && x < 0x7120000 && bitOf s.mgmt.outPorts ((x - 0x7000000) / 0x30000))

/-- The status of an engine's access to an address outside HBM that R33 keeps from it. DEDUCED (log 95): the order of the statuses is
UNMAPPED, BENCHED, DENIED here as for an access on the bus. -/
def State.outStatus (s : State) (x : Nat) : Nat :=
  match placeOf x with
  | .none => 1
  | .hbm => 0
  | .mmio => if !mmioMapped x then 1 else if s.portOut x then 2 else 3
  | .spad m _ | .acc m _ | .draft m _ | .regs m => if s.is (LOOM_STATUS_BENCHED m) then 2 else 3

/-- How many bytes of [a, a + n) lie below HBM, and how many in it. -/
def hbmSplit (a n : Nat) : Nat × Nat :=
  let lo := min n (hbmBase - a)
  (lo, min (n - lo) (hbmEnd - (a + lo)))

/-- The first refusal of an access of n bytes at a whose part in HBM met `mid` (R31, R534): outside HBM the device's blocks reach nothing.-/
def State.devBad (s : State) (a n : Nat) (mid : Option (Nat × Nat)) : Option (Nat × Nat) :=
  let (lo, m) := hbmSplit a n
  if lo != 0 then some (a, s.outStatus a)
  else match mid with
    | some b => some b
    | none => if m < n then some (a + m, s.outStatus (a + m)) else none

/-- The device's own writes wait: the stacks are asleep, or others wait before them (R486). -/
def State.postsWait (s : State) : Bool := s.stacksAsleep || !s.posts.isEmpty

/-- Write bytes to HBM as hbmStore does; a write that meets the stacks asleep wakes them and waits (R486), OK as yet. -/
def State.hbmPosted (s : State) (req : Requester) (tenant : Nat) (raw : Bool) (a : Nat) (d : List Byte) (pois : List Bool) :
    Nat × Option Nat × State :=
  if s.postsWait then (0, none, { s.wakeDomain 144 with posts := s.posts ++ [⟨req, tenant, raw, a, d, pois⟩] })
  else s.hbmStore req tenant raw a d pois

/-- A write to HBM of one of the device's engines, with one error record for the first piece that did not complete with OK (R486, R534). -/
def State.hbmPost (s : State) (req : Requester) (tenant : Nat) (raw : Bool) (a : Nat) (d : List Byte) (pois : List Bool) : Nat × State :=
  let (st, bad, s) := s.hbmPosted req tenant raw a d pois
  (st, match bad with | some x => s.hbmRefused req tenant x st | none => s)

/-- The writes that waited for the stacks land, in order (R486). -/
def State.servePosts (s : State) : State :=
  if s.stacksAsleep || s.posts.isEmpty then s
  else s.posts.foldl (fun s p => (s.hbmWrite p.req p.tenant p.raw p.addr p.data p.pois).2) ({ s with posts := [] } : State)

/-- The device's own reads of HBM as tenant 0: rings, buffers and records. Bytes outside HBM read as zero and are refused (R31, R534). -/
def State.devRead (s : State) (a n : Nat) : RdData × State :=
  let (lo, m) := hbmSplit a n
  let (r, bad, t) := if m = 0 then (⟨0, [], []⟩, none, s) else s.hbmScan .selvedge 0 false (a + lo) m
  match s.devBad a n (bad.map fun x => (x, r.status)) with
  | none => (r, t)
  | some (x, st) =>
    (⟨st, List.replicate lo 0 ++ r.data ++ List.replicate (n - lo - m) 0, List.replicate lo false ++ r.pois ++ List.replicate (n - lo - m) false⟩,
      t.refusedAt .selvedge 0 x st)

/-- A read of the device's own as devRead makes it, in a command that waits where it meets the stacks asleep (R486). -/
def State.devFetch (s : State) (a n : Nat) : RdData × State :=
  let (r, t) := s.devRead a n
  (r, if s.stacksAsleep && (hbmSplit a n).2 != 0 then { t with stalled := true } else t)

/-- A command whose work reads HBM: where that meets the stacks asleep, it wakes them and waits whole (R486). -/
def State.orWait (s : State) (c : Instr) (k : State → State) : State :=
  if s.stacksAsleep && (k s).stalled then { s.wakeDomain 144 with waiting := s.waiting ++ [c] } else k s

/-- The device's own writes of HBM as tenant 0; bytes outside HBM are discarded (R31, R534). -/
def State.devWrite (s : State) (a : Nat) (d : List Byte) (p : Bool) : State :=
  let (lo, m) := hbmSplit a d.length
  let l := (d.drop lo).take m
  let (st, bad, t) := if m = 0 then (0, none, s) else s.hbmPosted .selvedge 0 false (a + lo) l (l.map fun _ => p)
  match s.devBad a d.length (bad.map fun x => (x, st)) with
  | none => t
  | some (x, st) => t.refusedAt .selvedge 0 x st

/-- A sector in error that an access reads from its stack (R342): counted, classified and recorded. In the merge of a partial write
a corrected sector is only counted. -/
def State.hbmEcc (s : State) (tenant : Nat) (merge : Bool) (e : HbmEv) : State :=
  let a := e.addr / 64 * 64
  let st := stackOf a
  match e.kind with
  | .transient =>
    let s := s.add (HBM_CNT_CORR_CORR st) 1
    if merge then s else s.add (HBM_CNT_TRANSIENT_TRANSIENT st) 1
  | .lasting =>
    let s := s.add (HBM_CNT_CORR_CORR st) 1
    if merge then s
    else
      let s := (s.add (HBM_CNT_LASTING_LASTING st) 1).report (mkRec 12 st 0x101 0 (some a) 0 tenant (hbmDetail a))
      (s.set (HBM_ERR_ADDR_ADDR st) a).set (HBM_ERR_LASTING st) 1
  | .merged => s.add (HBM_CNT_CORR_CORR st) 1
  | .uncorrectable =>
    let s := { s with poison := tput 0 s.poison a 1 }
    let s := (s.add (HBM_CNT_UNCORR_UNCORR st) 1).report (mkRec 12 st 0x100 1 (some a) 0 tenant (hbmDetail a))
    (s.set (HBM_ERR_ADDR_ADDR st) a).set (HBM_ERR_UNCORR st) 1

/-- How the stack's controller reads sector x on the way of an access that reaches it (R336, R342, R344): not at all (none), as a fill or
a read (false), or to merge a partial write (true). Under KEEP a miss fills the whole line; in a protected region a write of part of a
unit merges all of it. -/
def State.sectorRead (s : State) (a : Access) (x : Nat) : Option Bool :=
  let n := if a.write then a.data.length else a.len
  let l := x - x % 256
  let lo := max a.addr l
  let hi := min (a.addr + n) (l + 256)
  let rg := s.regionAt lo
  if hi ≤ lo || (s.cached l).isSome || (s.hbmDecide a.req a.tenant false lo).1 != 0 then none
  else if s.hintOf lo rg = 1 then some false
  else if !a.write then (if x < hi && lo < x + 64 then some false else none)
  else if s.protects rg false then (if hi - lo < 256 then some true else none)
  else if x < hi && lo < x + 64 && !(lo ≤ x && x + 64 ≤ hi) then some true
  else none

/-- The error events that fall to an access, each with whether it falls in a merge: sectors that the stack reads for it and that are not
yet poisoned. -/
def State.eccHits (s : State) (a : Access) (ecc : List HbmEv) : List (HbmEv × Bool) :=
  ecc.filterMap fun e =>
    let x := e.addr / 64 * 64
    if tget 0 s.poison x = 0 then (s.sectorRead a x).map fun m => (e, m) else none

/-- What poison in a read's answer is to its requester (R513): to Selvedge a FATAL event, to a host core a precise access fault, of a load
or of an instruction fetch. An answer without poison raises none. -/
def State.readPoison (s : State) (req : Requester) (fetch : Bool) (a : Nat) (poison : Bool) : State :=
  match req with
  | .selvedge => if poison then s.report (mkRec 18 0 0x200 6 (some a) 0 0 []) else s
  | .host => { s with coreExc := if poison then some (if fetch then .instructionAccessFault a else .loadAccessFault a) else none }
  | _ => s

/-- HBM_ACCESS (R333): an access checked against the region table and served through the memory-side cache. `ecc` are the sectors
that the controller finds in error on the way, before the access takes their data (R342). One that meets the stacks asleep wakes them
and waits (R486). -/
def execHbmAccess (a : Access) (ecc : List HbmEv) (s : State) : Host.Outcome State Fault Refusal :=
  .next <|
    let n := if a.write then a.data.length else a.len
    if a.addr < hbmBase || hbmEnd < a.addr + n then s
    else if s.asleep (144 + stackOf a.addr) then { s.wakeStack a.addr with held := s.held ++ [a] }
    else
      let evs := s.eccHits a ecc
      let s := evs.foldl (fun s e => s.hbmEcc a.tenant e.2 e.1) s
      if a.write then
        let (st, s) := s.hbmPut a.req a.tenant false a.addr a.data a.poison
        { s with resp := ⟨st, [], false⟩ }
      else
        let (r, s) := s.hbmRead a.req a.tenant false a.addr n
          ((evs.filter fun e => e.1.kind == .uncorrectable).map fun e => e.1.addr / 64 * 64)
        { s.readPoison a.req a.fetch a.addr (r.pois.any id) with resp := ⟨r.status, r.data, r.pois.any id⟩ }

/-! ### Cache flush, loopback (R339, R343) -/

/-- CACHE_FLUSH (R339): MSC_CTL.FLUSH written 1. -/
def execCacheFlush (k : StackNo) (s : State) : Host.Outcome State Fault Refusal := .next (s.set (MSC_STATUS_FLUSH_BUSY k) 1)

/-- Write back every dirty line of a stack and invalidate every line. -/
def State.flushStack (s : State) (k : Nat) : State :=
  ((s.cache.filter fun e => e.1 / 8192 == k).flatMap fun e => e.2).foldl (fun s c => s.dropLine c true) s

/-- CACHE_FLUSH_DONE (R339): the flush completes. -/
def execCacheFlushDone (k : StackNo) (s : State) : Host.Outcome State Fault Refusal :=
  .next <| if s.is (MSC_STATUS_FLUSH_BUSY k) then (s.flushStack k).set (MSC_STATUS_FLUSH_BUSY k) 0 else s

/-- HBM_LOOP_WRITE (R343): 3 is ignored; 1 and 2 are ignored unless the stack is benched or untrained. -/
def execHbmLoopWrite (k : StackNo) (value : Nat) (s : State) : Host.Outcome State Fault Refusal :=
  .next <|
    let v := value % 4
    if v = 3 || (v != 0 && !s.is (HBM_STATUS_BENCHED k) && s.is (HBM_STATUS_TRAINED k)) then s
    else s.set (HBM_PHY_CTL_LOOP k) v

/-! ### Region commands (R332, R347) -/

/-- The fields of region entry i, with their places in the 128-bit entry (R331). -/
def rgnFields (i : Nat) : List (Fld × Nat) :=
  [(HBM_RGN_ARCH_LEVEL i, 0), (HBM_RGN_VALID i, 4), (HBM_RGN_HINT i, 5), (HBM_RGN_PROT i, 7), (HBM_RGN_ANY i, 8),
   (HBM_RGN_PEER_EN i, 9), (HBM_RGN_FIXED i, 10), (HBM_RGN_LENT i, 11), (HBM_RGN_TENANT i, 16), (HBM_RGN_PEER_CHIP i, 26),
   (HBM_RGN_BASE_64K i, 40), (HBM_RGN_SIZE_64K i, 64), (HBM_RGN_TWEAK_BASE i, 88)]

/-- Store a 128-bit entry in the region table. -/
def State.putRegion (s : State) (i v : Nat) : State := (rgnFields i).foldl (fun s f => s.set f.1 (bits v f.2 f.1.width)) s

/-- KiB that region i takes of its tenant's quota (R347). -/
def State.rgnKib (s : State) (i : Nat) : Nat :=
  if s.is (HBM_RGN_VALID i) && !s.is (HBM_RGN_ANY i) then 64 * s.get (HBM_RGN_SIZE_64K i) else 0

/-- KiB that a staged entry would take. -/
def stageKib (v : Nat) : Nat := if bitOf v 4 && !bitOf v 8 then 64 * bits v 64 24 else 0

/-- A tenant's HBM use once entry i no longer counts. -/
def State.usedWithout (s : State) (i t : Nat) : Nat :=
  s.get (HBM_TQ_HBM_USED t) - (if s.get (HBM_RGN_TENANT i) = t then s.rgnKib i else 0)

/-- The first status of R332 that applies to a WRITE of staged entry v at index i. -/
def State.regionStatus (s : State) (i v : Nat) : Nat :=
  let base := bits v 40 24
  let size := bits v 64 24
  let t := bits v 16 10
  if bits v 0 4 != 2 || bits v 12 4 != 0 || bits v 120 8 != 0 || bits v 5 2 = 3 || size = 0 || 0xD80000 < base + size
      || bitOf v 10 || bitOf v 11 then 1
  else if s.validRegions.any fun j => j != i && decide (s.get (HBM_RGN_BASE_64K j) < base + size)
      && decide (base < s.get (HBM_RGN_BASE_64K j) + s.get (HBM_RGN_SIZE_64K j)) then 2
  else if s.is (HBM_RGN_FIXED i) then 3
  else if s.is (HBM_RGN_LENT i) then 4
  else if t != 0 && s.get (HBM_TQ_HBM_QUOTA t) < s.usedWithout i t + stageKib v then 5
  else if bitOf v 7 && bitOf v 9 then 6
  else 0

/-- Report the outcome of a region command (R332). -/
def State.regionDone (s : State) (i st tenant : Nat) : State :=
  let s := (s.set HBM_RGN_STS_STS st).set HBM_RGN_STS_INDEX i
  if st = 0 then s else s.report (mkRec 12 0 (0x200 + st) 2 none 0 tenant [])

/-- Replace entry i and keep the tenants' HBM use (R347). -/
def State.commitRegion (s : State) (i v : Nat) : State :=
  let old := s.get (HBM_RGN_TENANT i)
  let s := s.set (HBM_TQ_HBM_USED old) (s.usedWithout i old)
  let t := bits v 16 10
  (s.putRegion i v).add (HBM_TQ_HBM_USED t) (stageKib v)

/-- REGION_WRITE (R332). -/
def execRegionWrite (idx : Fin 4096) (s : State) : Host.Outcome State Fault Refusal :=
  .next <|
    let v := s.get HBM_RGN_STAGE_ENTRY
    let st := s.regionStatus idx v
    (if st = 0 then s.commitRegion idx v else s).regionDone idx st (bits v 16 10)

/-- REGION_CLEAR (R332). -/
def execRegionClear (idx : Fin 4096) (s : State) : Host.Outcome State Fault Refusal :=
  .next <|
    let t := s.get (HBM_RGN_TENANT idx)
    let st := if s.is (HBM_RGN_FIXED idx) then 3 else if s.is (HBM_RGN_LENT idx) then 4 else 0
    (if st = 0 then s.commitRegion idx 0 else s).regionDone idx st t

/-! ### Key slots (R346) -/

/-- KEY_LOAD (R346): the pair staged in SEC_KEY_DATA goes to a slot, unless key 1 equals key 2. -/
def execKeyLoad (slot : Fin 1024) (s : State) : Host.Outcome State Fault Refusal :=
  .next <|
    let v := s.get SEC_KEY_DATA_KEYS
    if bits v 0 256 = bits v 256 256 then s.set SEC_KEY_STS_STS 1
    else
      let s := { s with keys := tput 0 s.keys slot v }
      (s.setMapBit SEC_KEY_VALID_MAP slot).set SEC_KEY_STS_STS 0

/-- Take a key out of its slot. -/
def State.zeroKey (s : State) (t : Nat) : State :=
  let f := SEC_KEY_VALID_MAP (t / 32)
  let s := { s with keys := tput 0 s.keys t 0 }
  s.set f (s.get f - if bitOf (s.get f) (t % 32) then 2 ^ (t % 32) else 0)

/-- KEY_ZERO (R346). -/
def execKeyZero (slot : Fin 1024) (s : State) : Host.Outcome State Fault Refusal :=
  .next ((s.zeroKey slot).set SEC_KEY_STS_STS 0)

end Sys2Proof.Machine
end

