-- ==== Sys2Proof/Machine/Log.lean ====
section
/-! DEFINITION. Boot flash, Selvedge's log and the error ring (R434, R435, R453 to R456, R505, R509, R515). -/
namespace Sys2Proof.Machine

/-- Change the serving controller's own state. -/
def State.modSvc (s : State) (f : Svc → Svc) : State := { s with svc := f s.svc }
/-- Change Selvedge's own state. -/
def State.modMgmt (s : State) (f : Mgmt → Mgmt) : State := { s with mgmt := f s.mgmt }
/-- Change what the power blocks hold beside their registers. -/
def State.modPower (s : State) (f : Power → Power) : State := { s with power := f s.power }

/-- SVC_TIME: FAB_EPOCH / 5 in ns (R393). -/
def State.svcTime (s : State) : Nat := s.get FAB_EPOCH_T / 5

/-- The number as bytes of an error record or an event. -/
def toBytes (l : List Nat) : List Byte := l.map (BitVec.ofNat 8)

/-! ### Boot flash (R434) -/

/-- n bytes of boot flash from an offset; erased bytes read 0xFF. -/
def State.flashBytes (s : State) (a n : Nat) : List Byte := (List.range n).map fun i => tget 0xFF s.mgmt.flash (a + i)

/-- Program bytes in cells of boot flash. -/
def flashPut (m : List Host.Cell) : Nat → List Byte → List Host.Cell
  | _, [] => m
  | a, b :: t => flashPut (tput 0xFF m a b) (a + 1) t

/-- Program bytes into boot flash. -/
def State.flashWrite (s : State) (a : Nat) (l : List Byte) : State := s.modMgmt fun m => { m with flash := flashPut m.flash a l }

/-- Erase n bytes of boot flash. -/
def State.flashErase (s : State) (a n : Nat) : State :=
  s.modMgmt fun m => { m with flash := m.flash.filter fun e => !(decide (a ≤ e.1) && decide (e.1 < a + n)) }

/-- Offsets of the areas (R434); STATE lies at 0. -/
def flashIdentity : Nat := 0x10000
def flashIngot : Nat := 0x100000
def flashCard (area : Nat) : Nat := if area = 0 then 0x900000 else 0x1900000
def flashLog : Nat := 0x2900000

/-- A state record's bytes but for its CRC-32: SEQ, the boot count, COMMIT_STATE, M, CARD_SEQ_A, CARD_SEQ_B and the bench map. R435 does
not give their places (log 126). -/
def StateRec.body (r : StateRec) : List Byte :=
  leBytes 8 r.seq ++ leBytes 4 r.bootCnt ++ leBytes 4 (b2n r.copying) ++ slice r.digest 0 48 ++ leBytes 8 r.cardSeqA ++ leBytes 8 r.cardSeqB
    ++ leBytes 18 r.loomMap ++ leBytes 2 r.stackMap ++ leBytes 1 r.portMap ++ leBytes 2 r.chanMap ++ List.replicate 149 0

/-- Read a state record back. -/
def recOf (l : List Byte) : StateRec :=
  { seq := leAt l 0 8, bootCnt := leAt l 8 4, copying := leAt l 12 4 == 1, digest := slice l 16 48, cardSeqA := leAt l 64 8
    cardSeqB := leAt l 72 8, loomMap := leAt l 80 18, stackMap := leAt l 98 2, portMap := leAt l 100 1, chanMap := leAt l 101 2 }

/-- A state record is written with the next SEQ at the next place of the ring; the next sector is erased before this one fills (R435). -/
def State.writeRec (s : State) (f : StateRec → StateRec) : State :=
  let r := { f s.mgmt.record with seq := s.mgmt.record.seq + 1 }
  let pos := s.mgmt.recPos
  let s := if pos % 16 = 15 then s.flashErase (4096 * ((pos / 16 + 1) % 16)) 4096 else s
  (s.flashWrite (256 * pos) (r.body ++ leBytes 4 (crc32 r.body))).modMgmt fun m => { m with record := r, recPos := (pos + 1) % 256 }

/-- The places of a ring of entries of n bytes in boot flash, [lo, hi), that hold a programmed byte, in ascending order. -/
def State.ringPlaces (s : State) (lo hi n : Nat) : List Nat :=
  ((s.mgmt.flash.filter fun e => decide (lo ≤ e.1) && decide (e.1 < hi)).foldl (fun l e =>
    if l.head? = some ((e.1 - lo) / n) then l else (e.1 - lo) / n :: l) []).reverse

/-- The state records with a valid CRC-32 in the STATE area, each with its place (R435). -/
def State.recRing (s : State) : List (Nat × StateRec) :=
  ((s.ringPlaces 0 0x10000 256).map fun p => (p, s.flashBytes (256 * p) 256)).filterMap fun e =>
    if crc32 (e.2.take 252) = leAt e.2 252 4 then some (e.1, recOf e.2) else none

/-- The record with the highest SEQ is in force, and the next one goes behind it (R435). -/
def State.readRec (s : State) : State :=
  let top := s.recRing.foldl (fun (b : Option (Nat × StateRec)) e => match b with
    | some x => if x.2.seq < e.2.seq then some e else b
    | none => some e) none
  s.modMgmt fun m => match top with
    | some e => { m with record := e.2, recPos := (e.1 + 1) % 256 }
    | none => { m with record := {}, recPos := 0 }

/-! ### Log records (R453, R455, R505, R515) -/

/-- The 32 DATA bytes of an error record (R505). -/
def errData (r : ErrRec) : List Byte :=
  leBytes 8 (r.addr.getD 0) ++ leBytes 4 r.step ++ leBytes 2 (r.tenant % 1024)
    ++ toBytes [r.cls % 8 + 8 * b2n r.addr.isSome + 16 * b2n r.fabric, r.count] ++ slice (toBytes r.detail) 0 16

/-- A log record of 64 bytes (R453). -/
def logBytes (sev src inst seq time code boot : Nat) (data : List Byte) : List Byte :=
  let l := toBytes [2 + 16 * sev, src] ++ leBytes 2 inst ++ leBytes 4 seq ++ leBytes 8 time ++ leBytes 2 code ++ leBytes 2 boot
    ++ leBytes 4 0 ++ slice data 0 32 ++ leBytes 4 0
  l ++ leBytes 4 (crc32 l)

/-- Entries of the error ring; other sizes disable it (R516). -/
def State.erqSize (s : State) : Nat :=
  let n := s.get SLV_ERQ_SIZE_ENTRIES
  if 64 ≤ n && n ≤ 8192 && n == 2 ^ Nat.log2 n then n else 0

/-- Copy a record into the error ring while it is not full (R515). -/
def State.toErq (s : State) (sev : Nat) (l : List Byte) : State :=
  let n := s.erqSize
  let tail := s.get SLV_ERQ_TAIL_TAIL
  if n = 0 || sev < s.get SLV_ERQ_CTL_MIN_SEV then s
  else if (tail + 1) % n = s.get SLV_ERQ_HEAD_HEAD then s.addHold SLV_ERQ_DROP_N 1
  else (s.devWrite (s.get SLV_ERQ_BASE_ADDR + 64 * tail) l false).set SLV_ERQ_TAIL_TAIL ((tail + 1) % n)

/-- Write a record into the log ring; one that overwrites a record not yet persisted loses that one (R453, R455). -/
def State.logPut (s : State) (sev src inst code : Nat) (data : List Byte) : State :=
  let seq := s.get SLV_LOG_HEAD_SEQ
  let s := if (seq + 2 ^ 32 - s.get SLV_LOG_PERSIST_SEQ) % 2 ^ 32 < 16384 then s
    else
      let first := s.get SLV_LOG_PERSIST_SEQ
      ((s.modMgmt fun m => { m with lost := (m.lost.1 + 1, if m.lost.1 = 0 then first else m.lost.2) }).addHold SLV_LOG_LOST_N 1).set
        SLV_LOG_PERSIST_SEQ (first + 1)
  let l := logBytes sev src inst seq s.svcTime code (s.get SLV_BOOT_CNT_N) data
  ((s.modMgmt fun m => { m with log := tput [] m.log (seq % 16384) l }).set SLV_LOG_HEAD_SEQ (seq + 1)).toErq sev l

/-- Count a record of a key in this second. -/
def bumpRate (k : Nat × Nat × Nat) : List ((Nat × Nat × Nat) × Nat) → List ((Nat × Nat × Nat) × Nat)
  | [] => [(k, 1)]
  | (e, n) :: t => if e = k then (e, n + 1) :: t else (e, n) :: bumpRate k t

/-- Selvedge writes a record, unless 256 with the same SRC, INSTANCE and CODE were written in this second (R455). -/
def State.logRec (s : State) (sev src inst code : Nat) (data : List Byte) : State :=
  let k := (src, inst, code)
  let n := ((s.mgmt.rate.find? fun e => e.1 == k).map Prod.snd).getD 0
  let s := s.modMgmt fun m => { m with rate := bumpRate k m.rate }
  if 256 ≤ n then s else s.logPut sev src inst code data

/-- A FATAL record that Selvedge writes itself (R457, R483, R526). -/
def State.fatal (s : State) (src inst code : Nat) : State :=
  s.logRec 4 src inst code (errData (mkRec src inst code 6 none 0 0 []))

/-- One of Selvedge's own events (R454, R506). -/
def State.slvEvent (s : State) (code sev : Nat) (data : List Nat) : State := s.logRec sev 18 0 code (toBytes data)

/-- ERROR_RECORD_DELIVER (R509): the oldest waiting record reaches Selvedge. -/
def State.deliver (s : State) : State :=
  match s.errs with
  | [] => s
  | r :: t => ({ s with errs := t } : State).logRec r.sev r.src r.inst r.code (errData r)

/-- Deliver up to k waiting records. -/
def State.deliverN (s : State) : Nat → State
  | 0 => s
  | k + 1 => s.deliver.deliverN k

/-- Every waiting record is delivered (R499). -/
def State.deliverAll (s : State) : State := s.deliverN s.errs.length

/-- ERROR_RECORD_DELIVER (R509, R515). -/
def execErrorRecordDeliver (s : State) : Host.Outcome State Fault Refusal := .next s.deliver

/-- A SUPPRESSED record (R454). -/
def State.suppressed (s : State) (src inst code count : Nat) : State :=
  s.logPut 1 18 0 0x000C (toBytes ([src, 0] ++ le16 inst ++ le16 code ++ [0, 0] ++ le32 count))

/-- LOG_SUPPRESS_WINDOW (R455, R509): the end of a second. -/
def execLogSuppressWindow (s : State) : Host.Outcome State Fault Refusal :=
  .next <|
    let over_ := s.mgmt.rate.filter fun e => decide (256 < e.2)
    let dropped := s.errDropped
    let s := ({ s with errDropped := [] } : State).modMgmt fun m => { m with rate := [] }
    let s := over_.foldl (fun s e => s.suppressed e.1.1 e.1.2.1 e.1.2.2 (e.2 - 256)) s
    dropped.foldl (fun s e => s.suppressed e.1.src e.1.inst e.1.code e.2) s

/-! ### Persisting (R449, R456) -/

/-- A COMMIT or a CARD_PERSIST writes boot flash (R449). -/
def State.flashBusy (s : State) : Bool := match s.mgmt.cmd with | some c => c.op == 2 || c.op == 4 | none => false

/-- Persist the next record: the sector after the current one is erased before that one fills (R456). -/
def State.persistOne (s : State) : State :=
  let seq := s.get SLV_LOG_PERSIST_SEQ
  let pos := s.mgmt.logPos
  let s := if pos % 1024 = 1023 then s.flashErase (flashLog + 65536 * ((pos / 1024 + 1) % 16)) 65536 else s
  let s := s.flashWrite (flashLog + 64 * pos) (tget [] s.mgmt.log (seq % 16384))
  (s.modMgmt fun m => { m with logPos := (pos + 1) % 16384 }).set SLV_LOG_PERSIST_SEQ (seq + 1)

/-- Persist k records. -/
def State.persistN (s : State) : Nat → State
  | 0 => s
  | k + 1 => s.persistOne.persistN k

/-- Every record is persisted, with a LOST record for those that were overwritten (R455, R456); flash writes of R449 delay it. -/
def State.persistAll (s : State) : State :=
  if s.flashBusy then s
  else
    let (n, first) := s.mgmt.lost
    let s := if n = 0 then s
      else (s.modMgmt fun m => { m with lost := (0, 0) }).logPut 3 18 0 0x000B (toBytes (le32 n ++ le32 first))
    s.persistN ((s.get SLV_LOG_HEAD_SEQ + 2 ^ 32 - s.get SLV_LOG_PERSIST_SEQ) % 2 ^ 32)

/-- LOG_PERSIST (R456). -/
def execLogPersist (s : State) : Host.Outcome State Fault Refusal := .next s.persistAll

/-- LOG_FLUSH (R468): SLV_CTL.LOG_FLUSH written 1. -/
def execLogFlush (s : State) : Host.Outcome State Fault Refusal := .next s.persistAll

/-! ### Reloading at boot (R453, R456) -/

/-- Records of the LOG area with a valid CRC, oldest position first. -/
def State.logArea (s : State) : List (List Byte) :=
  let pos := s.ringPlaces flashLog (flashLog + 0x100000) 64
  let pos := pos.filter (s.mgmt.logPos ≤ ·) ++ pos.filter (· < s.mgmt.logPos)
  (pos.map fun p => s.flashBytes (flashLog + 64 * p) 64).filter fun l => crc32 (l.take 60) == leAt l 60 4

/-- Gaps in a run of records: how many are missing and the first of them. -/
def logGaps : List (List Byte) → List (Nat × Nat)
  | a :: b :: t =>
    let x := leAt a 4 4 + 1
    if leAt b 4 4 = x then logGaps (b :: t) else (leAt b 4 4 - x, x) :: logGaps (b :: t)
  | _ => []

/-- The log SRAM is reloaded from the LOG area, with a LOST record for every gap (R456). -/
def State.reloadLog (s : State) : State :=
  let l := s.logArea
  let next := match l.getLast? with | some b => leAt b 4 4 + 1 | none => 0
  let s := s.modMgmt fun m => { m with log := l.foldl (fun t b => tput [] t (leAt b 4 4 % 16384) b) [] }
  let s := (s.set SLV_LOG_HEAD_SEQ next).set SLV_LOG_PERSIST_SEQ next
  (logGaps l).foldl (fun s g => s.logPut 3 18 0 0x000B (toBytes (le32 g.1 ++ le32 g.2))) s

end Sys2Proof.Machine
end

