-- ==== Sys2Proof/Machine/Fabric.lean ====
section
/-! DEFINITION. The fabric's links, packets, routing and requests (R366 to R383, R389 to R391). -/
namespace Sys2Proof.Machine

/-! ### Positions (R366 to R368) -/

/-- The coordinates that a chip ID names. -/
def coordsOf (chip : Nat) : Nat × Nat × Nat := (chip % 16, chip / 16 % 32, chip / 512 % 32)

/-- The torus extents. -/
def State.dims (s : State) : Nat × Nat × Nat :=
  (s.get FAB_DIMS_DX_M1 + 1, s.get FAB_DIMS_DY_M1 + 1, s.get FAB_DIMS_DZ_M1 + 1)

/-- The chip that port p links to (R368). -/
def State.neighbour (s : State) (p : Nat) : Nat :=
  let (x, y, z) := coordsOf s.chip
  let (dx, dy, dz) := s.dims
  let go (v d : Nat) : Nat := if p % 2 = 0 then (v + 1) % d else (v + d - 1) % d
  if p / 2 = 0 then go x dx + 16 * y + 512 * z
  else if p / 2 = 1 then x + 16 * go y dy + 512 * z
  else x + 16 * y + 512 * go z dz

/-- A chip lies inside the job block (R382). -/
def State.inBlock (s : State) (chip : Nat) : Bool :=
  let (x, y, z) := coordsOf chip
  let within (v o n : Fld) (c : Nat) : Bool := v.width ≤ 64 && s.get o ≤ c && c ≤ s.get o + s.get n
  within FAB_BLOCK_X0 FAB_BLOCK_X0 FAB_BLOCK_XN_M1 x && within FAB_BLOCK_Y0 FAB_BLOCK_Y0 FAB_BLOCK_YN_M1 y
    && within FAB_BLOCK_Z0 FAB_BLOCK_Z0 FAB_BLOCK_ZN_M1 z

/-! ### Packets as bytes (R373) -/

/-- The packet type's payload travels behind the header: not so in a READ (R374). -/
def Packet.carried (p : Packet) : Nat := if p.ptype = 1 then 0 else p.len

/-- Build a number from fields, each with its lowest bit. -/
def packFields (l : List (Nat × Nat)) : Nat := (l.map fun f => f.2 * 2 ^ f.1).sum

/-- The header and the payload (R373). -/
def Packet.bytes (p : Packet) : List Byte :=
  leBytes 32 (packFields [(0, p.level), (4, p.ptype), (8, p.cls), (10, b2n p.ackreq), (11, b2n p.poison), (12, p.status),
    (16, p.len), (32, p.dst), (48, p.src), (64, p.addr), (128, p.tenant), (144, p.tag), (160, p.msgtype), (168, p.hops),
    (176, p.rty)]) ++ p.payload

/-- Read a packet back (R373). -/
def packetOf (l : List Byte) : Packet :=
  let h := leNat (l.take 32)
  { level := bits h 0 4, ptype := bits h 4 4, cls := bits h 8 2, ackreq := bitOf h 10, poison := bitOf h 11, status := bits h 12 4,
    len := bits h 16 16, dst := bits h 32 14, src := bits h 48 14, addr := bits h 64 64, tenant := bits h 128 10,
    tag := bits h 144 16, msgtype := bits h 160 8, hops := bits h 168 8, rty := bits h 176 8, payload := l.drop 32 }

/-- The message types, each with the class that it requires (R375); 4 stands for the collective entry's own. -/
def msgClass (t : Nat) : Option Nat :=
  if t = 1 || t = 2 || t = 3 then some 1
  else if t = 0x10 || t = 0x20 || t = 0x21 || (0x40 ≤ t && t ≤ 0x43) || t = 0x50 then some 0
  else if t = 0x30 then some 4
  else none

/-- The packet type addresses memory (R374). -/
def isMemType (t : Nat) : Bool := t == 0 || t == 1 || t == 4
/-- The packet type answers a request (R374). -/
def isRespType (t : Nat) : Bool := t == 2 || t == 3 || t == 5

/-- The header is refused: its level, a reserved field, or a reserved type (R6, R7, R377). -/
def packetHeaderBad (level : Nat) (h : Nat) (p : Packet) : Bool :=
  p.level != level || bits h 46 2 != 0 || bits h 62 2 != 0 || bits h 138 6 != 0 || bits h 184 72 != 0 || 7 < p.ptype
    || (p.ptype == 6 && (msgClass p.msgtype).isNone) || (p.ptype == 4 && p.msgtype != 1 && p.msgtype != 2)
    || (p.ptype != 6 && p.ptype != 4 && p.msgtype != 0) || (!isMemType p.ptype && p.addr != 0)
    || (if isRespType p.ptype then decide (6 < p.status) else p.status != 0)

/-- The class that the packet must travel in, or 5 for any (R375, R405). -/
def State.classOf (s : State) (p : Packet) : Nat :=
  if p.ptype = 7 then 2
  else if p.ptype = 6 then
    (match msgClass p.msgtype with
     | some 4 => s.get (FAB_COLL_CLASS (leAt p.payload 0 1))
     | some c => c
     | none => 5)
  else 5

/-- A message that only neighbours exchange (R375). -/
def isLinkMsg (p : Packet) : Bool := p.ptype == 6 && 0x40 ≤ p.msgtype && p.msgtype ≤ 0x43

/-- The first reason of R377, in its order, for which a packet of these bytes that came on virtual channel vc is malformed. -/
def State.malformed (s : State) (level vc : Nat) (l : List Byte) : Option Nat :=
  let p := packetOf l
  let h := leNat (l.take 32)
  if l.length < 32 then some 1
  else if packetHeaderBad level h p then some 0
  else if 4096 < p.len || l.length != 32 + p.carried || (p.ptype == 4 && p.len != 8 * p.msgtype && !(p.msgtype == 2 && p.len == 32))
      || ((p.ptype == 3) && p.len != 0) || (p.ptype == 5 && p.len != 8) then some 1
  else if isMemType p.ptype && bits p.addr 50 14 != p.dst then some 2
  else if p.cls != vc / 2 || (s.classOf p != 5 && p.cls != s.classOf p)
      || (isLinkMsg p && (p.hops != 0 || p.dst != s.chip)) then some 3
  else if p.src = s.chip || (p.dst != s.chip && 64 ≤ p.hops + 1) then some 4
  else none

/-- The 240-byte data fields that a packet's bytes fill, with the bytes that each holds (R371, R372). -/
def dataFields (l : List Byte) : List (List Byte × Nat) :=
  (chunks 240 (ceilDiv l.length 240) l).map fun c => (slice c 0 240, c.length)

/-- The flits of a packet from a SEQ on (R371, R372). -/
def flitsOf (seq vc : Nat) (p : Packet) : List TxFlit :=
  let fs := dataFields p.bytes
  ((List.range fs.length).zip fs).map fun e =>
    { seq := (seq + e.1) % 4096, vc, sop := e.1 == 0, eop := e.1 + 1 == fs.length
      vlen := if e.1 + 1 = fs.length then e.2.2 else 0, data := e.2.1 }

/-- Flits that a packet takes. -/
def Packet.flits (p : Packet) : Nat := ceilDiv (32 + p.payload.length) 240

/-! ### Ports -/

/-- The state of port p. -/
def State.port (s : State) (p : Nat) : PortSt := tget {} s.fab.ports p

/-- Change the state of port p. -/
def State.modPort (s : State) (p : Nat) (f : PortSt → PortSt) : State :=
  { s with fab := { s.fab with ports := tput {} s.fab.ports p (f (s.port p)) } }

/-- Change the router's own state. -/
def State.modFab (s : State) (f : Fab → Fab) : State := { s with fab := f s.fab }

/-- Port p is in state k of R384. -/
def State.portIs (s : State) (p k : Nat) : Bool := s.get (FAB_P_STATE_STATE p) == k

/-- Port p is UP. -/
def State.portUp (s : State) (p : Nat) : Bool := s.portIs p 4

/-- The time since RESET_N in units of 0.2 ns, by which the device measures durations. -/
def State.now (s : State) : Nat := s.mgmt.upTime

/-- FAB_EPOCH. -/
def State.epoch (s : State) : Nat := s.get FAB_EPOCH_T

/-- Flits of the input buffer of a virtual channel (R378). -/
def vcSize (vc : Nat) : Nat := [36, 512, 512, 64].getD (vc / 2) 0

/-- Flits of a virtual channel's input buffer that the device has granted in the port's state (R378). -/
def State.granted (s : State) (p vc : Nat) : Nat := if s.portUp p || vc = 0 then vcSize vc else 0

/-- The packets that the endpoint's buffers of their classes have no room for: they lie in the input buffers of the links by which they
came (R402). DESIGN CHOICE (log 140): a buffer's depth, in packets, is free. -/
def beyondEndpoint : List InPkt → List InPkt → List InPkt
  | _, [] => []
  | seen, i :: t =>
    let k := seen.countP fun x => x.pkt.cls == i.pkt.cls
    if 6 ≤ i.port || k = 0 || k ≤ Config.endpointDepth i.pkt.cls then beyondEndpoint (if i.port < 6 then i :: seen else seen) t
    else i :: beyondEndpoint seen t

/-- Flits that lie in the input buffer of a virtual channel. -/
def State.bufUsed (s : State) (p vc : Nat) : Nat :=
  let part := tget {} (s.port p).rx vc
  ((s.fab.inq ++ beyondEndpoint [] s.fab.inbox).map fun i => if i.port = p && i.vc = vc then i.flits else 0).sum
    + (if part.cut.isSome then 0 else part.flits)

/-- Credits of a virtual channel that the peer neither holds nor uses: what the next flits return to it (R372, R378). -/
def State.owed (s : State) (p vc : Nat) : Nat := s.granted p vc - s.bufUsed p vc - (s.port p).peerCr.getD vc 0

/-- The credit return of the next flit (R372): of the lowest virtual channel that has one (DESIGN CHOICE, log 141). -/
def State.creditOut (s : State) (p : Nat) : Option (Nat × Nat) :=
  (List.range 8).findSome? fun vc => let k := min 1023 (s.owed p vc); if k = 0 then none else some (vc, k)

/-- The 256 bytes of a flit (R371, R372). -/
def WireFlit.bytes (w : WireFlit) : List Byte :=
  let f := w.flit
  let cr := w.credit.getD (0, 0)
  let h := packFields [(0, w.ftype), (2, f.vc), (5, b2n f.sop), (6, b2n f.eop), (8, f.seq), (20, w.ack), (32, cr.1),
    (35, b2n w.credit.isSome), (36, cr.2), (48, f.vlen), (56, w.level)]
  let l := leBytes 8 h ++ slice f.data 0 240 ++ List.replicate 4 0
  l ++ leBytes 4 (crc32 l)

/-- A flit leaves port p (R372): it acknowledges the last DATA flit taken in order and returns a credit where one is owed. -/
def State.wireOut (s : State) (p ftype : Nat) (f : TxFlit) : State :=
  let cr := s.creditOut p
  let level := if s.portIs p 2 then 2 else s.get (FAB_P_STATE_LEVEL p)
  s.modPort p fun t =>
    { t with wire := t.wire ++ [⟨ftype, f, (t.rxSeq + 4095) % 4096, cr, level⟩]
             peerCr := match cr with | some (vc, k) => t.peerCr.set vc (t.peerCr.getD vc 0 + k) | none => t.peerCr }

/-- An IDLE or NAK flit (R372, R389). -/
def bareFlit : TxFlit := ⟨0, 0, false, false, 0, []⟩

/-- The port's link is alive. -/
def State.linkAlive (s : State) (p : Nat) : Bool := s.portIs p 2 || s.portIs p 3 || s.portIs p 4 || s.portIs p 5

/-- An IDLE flit leaves an alive link (R372). -/
def State.idleOut (s : State) (p : Nat) : State := if s.linkAlive p then s.wireOut p 0 bareFlit else s

/-- The peer's chip ID from its capability word, or 0xFFFF (R508). -/
def State.peerChip (s : State) (p : Nat) : Nat :=
  let c := s.get (FAB_P_CAP_PEER_CAP p)
  if c = 0 then 0xFFFF else bits c 8 14

/-- The error record of a fabric port (R506, R508). -/
def State.portRecord (s : State) (p code cls : Nat) : State :=
  s.report (mkRec 15 (1 + p) code cls none 0 0 (le16 (s.peerChip p)))

/-- With neither sync port UP a device that has a parent counts in holdover (R395). -/
def State.holdover (s : State) : State :=
  let up (f : Fld) : Bool := s.get f < 6 && s.portUp (s.get f)
  s.set FAB_SYNC_STS_HOLDOVER (b2n (s.get FAB_SYNC_CTL_PARENT != 7 && !up FAB_SYNC_CTL_PARENT && !up FAB_SYNC_CTL_ALT_PARENT))

/-! ### Routing (R381 to R383, R386) -/

/-- The link of a port can carry a packet: its level and its common features (R385, R386). -/
def State.linkCarries (s : State) (p : Nat) (k : Packet) : Bool :=
  let f := s.get (FAB_P_FEAT_FEATURES p)
  (s.get (FAB_P_STATE_LEVEL p) != 1 || ((k.cls == 0 || k.cls == 2) && (k.ptype ≤ 3 || k.ptype == 6)))
    && ((k.cls != 1 && k.cls != 3) || bitOf f 0) && ((k.ptype != 4 && k.ptype != 5) || bitOf f 1)
    && (k.ptype != 6 || ((k.msgtype != 0x30 || bitOf f 2) && (k.msgtype != 0x10 || bitOf f 3)
      && ((k.msgtype != 0x20 && k.msgtype != 0x21) || bitOf f 4)))
    && (k.ptype != 7 || bitOf f 5)

/-- The four fields of byte c of a route entry (R381). -/
def routeFields (d c : Nat) : Fld × Fld × Fld × Fld :=
  match c with
  | 0 => (FAB_RT_PORT0 d, FAB_RT_SUB0 d, FAB_RT_ALT0 d, FAB_RT_ALT_SUB0 d)
  | 1 => (FAB_RT_PORT1 d, FAB_RT_SUB1 d, FAB_RT_ALT1 d, FAB_RT_ALT_SUB1 d)
  | 2 => (FAB_RT_PORT2 d, FAB_RT_SUB2 d, FAB_RT_ALT2 d, FAB_RT_ALT_SUB2 d)
  | _ => (FAB_RT_PORT3 d, FAB_RT_SUB3 d, FAB_RT_ALT3 d, FAB_RT_ALT_SUB3 d)

/-- The output port and virtual channel of a packet; none where it is refused (R382, R383, R386). -/
def State.route (s : State) (k : Packet) : Option (Nat × Nat) :=
  let (pt, sb, al, asb) := routeFields k.dst k.cls
  let out : Option (Nat × Nat) :=
    if s.get pt < 6 then
      if s.portUp (s.get pt) then some (s.get pt, s.get sb)
      else if s.get al < 6 && s.portUp (s.get al) then some (s.get al, s.get asb)
      else none
    else none
  match out with
  | none => none
  | some (p, sub) =>
    if !s.is FAB_CTL_EN || (k.cls != 0 && !(s.inBlock k.dst && s.inBlock (s.neighbour p))) || !s.linkCarries p k then none
    else some (p, 2 * k.cls + sub)

/-- A port that leaves UP discards the packets queued for it (R380, R383): those whose route it is now. -/
def State.dropQueued (s : State) (p : Nat) : State :=
  if s.portUp p then s.modFab fun f => { f with inq := f.inq.filter fun i => !((s.route i.pkt).any fun o => o.1 == p) } else s

/-- The rest of a packet that was going out as it came is given up: its credits come back, and the virtual channel is free (R379). -/
def State.cutOff (s : State) (q ovc : Nat) : State :=
  s.modPort q fun t => { t with credits := t.credits.set ovc (t.credits.getD ovc 0 + tget 0 t.cutLeft ovc), cutLeft := tput 0 t.cutLeft ovc 0 }

/-- Packets that arrive on port p and are going out already are given up (R380). -/
def State.cutAll (s : State) (p : Nat) : State :=
  (s.port p).rx.foldl (fun s e => match e.2.cut with
    | some (q, ovc) => (s.modPort p fun t => { t with rx := tput {} t.rx e.1 {} }).cutOff q ovc
    | none => s) s

/-- A port goes into a state that drops its link: everything queued for it, held in its retry buffer or arriving is lost, and its
link starts afresh (R380, R384); its power domain follows (R487). -/
def State.dropLink (s : State) (p k : Nat) : State :=
  ((((((s.dropQueued p).cutAll p).modPort p fun _ => {}).set (FAB_P_STATE_STATE p) k).set (FAB_P_STATE_QCAUSE p) 0).set (FAB_P_STATE_LEVEL p) 0).holdover

/-- QUARANTINE with its cause (R386 to R388): everything queued for the port is lost; the link keeps its sequence numbers. -/
def State.quarantine (s : State) (p cause : Nat) : State :=
  let s := ((s.dropQueued p).cutAll p).modPort p fun t => { t with retry := [], txq := [], replay := none, cutLeft := [] }
  let s := ((s.set (FAB_P_STATE_STATE p) 5).set (FAB_P_STATE_QCAUSE p) cause).holdover
  (s.set (FAB_P_ERR_QUARANTINE p) 1).portRecord p (0x200 + cause) 2

/-- PORT_DOWN (R390). -/
def State.portDown (s : State) (p : Nat) : State :=
  ((s.portRecord p 0x100 3).dropLink p 6).set (FAB_P_ERR_DOWN p) 1 |>.addHold (FAB_P_CNT_DOWN_N p) 1

/-! ### Sending on a port (R371, R372, R378, R389) -/

/-- The port has credits and room in its retry buffer for a packet, and no packet is half sent on the virtual channel (R372). -/
def State.canSend (s : State) (p vc : Nat) (k : Packet) : Bool :=
  let t := s.port p
  decide (k.flits ≤ t.credits.getD vc 0) && decide (t.retry.length + (t.cutLeft.map Prod.snd).sum + k.flits ≤ 1024)
    && tget 0 t.cutLeft vc == 0

/-- DATA flits leave port p and go into its retry buffer (R372, R389, R408). -/
def State.sendFlits (s : State) (p : Nat) (l : List TxFlit) : State :=
  let s := s.modPort p fun t => { t with txSeq := (t.txSeq + l.length) % 4096, retry := t.retry ++ l }
  (l.foldl (fun s f => s.wireOut p 1 f) s).add (FAB_P_CNT_TXFLIT_N p) l.length

/-- Send the first n flits of a packet, whose flits all take their credits now (R371, R379, R389). -/
def State.transmitPart (s : State) (p vc n : Nat) (k : Packet) : State :=
  let s := s.modPort p fun t => { t with credits := t.credits.set vc (t.credits.getD vc 0 - k.flits)
                                         cutLeft := tput 0 t.cutLeft vc (k.flits - n) }
  s.sendFlits p ((flitsOf (s.port p).txSeq vc k).take n)

/-- Send a packet's flits (R371, R379, R389). -/
def State.transmit (s : State) (p vc : Nat) (k : Packet) : State := s.transmitPart p vc k.flits k

/-- The time of sending that a SYNC or SYNC_RESP carries: T1 in its first 8 bytes, T3 in its last 8 (R394). -/
def Packet.stamped (k : Packet) (t : Nat) : Packet :=
  if k.ptype != 6 then k
  else if k.msgtype = 0x20 then { k with payload := leBytes 8 t ++ k.payload.drop 8 }
  else if k.msgtype = 0x21 then { k with payload := slice k.payload 0 16 ++ leBytes 8 t }
  else k

/-- Send what waits on the port as far as credits allow, on fuel. -/
def State.pumpN (s : State) (p : Nat) : Nat → State
  | 0 => s
  | k + 1 =>
    match (s.port p).txq with
    | [] => s
    | h :: t =>
      if s.canSend p 0 h then ((s.transmit p 0 (h.stamped s.epoch)).modPort p fun x => { x with txq := t }).pumpN p k else s

/-- Send what waits on the port as far as credits allow. -/
def State.pump (s : State) (p : Nat) : State := s.pumpN p (s.port p).txq.length

/-- Send a message to the neighbour on port p, on CONTROL sub-channel 0. -/
def State.sendOn (s : State) (p : Nat) (k : Packet) : State := (s.modPort p fun t => { t with txq := t.txq ++ [k] }).pump p

/-- A message of the device (R374, R375). -/
def State.msg (s : State) (dst cls msgtype : Nat) (body : List Byte) : Packet :=
  { ptype := 6, cls, len := body.length, dst, src := s.chip, msgtype, payload := body }

/-- A message to the neighbour on port p; a link at IAL-1 carries level 1 (R386). -/
def State.linkMsg (s : State) (p msgtype : Nat) (body : List Byte) : State :=
  s.sendOn p { s.msg (s.neighbour p) 0 msgtype body with level := if s.get (FAB_P_STATE_LEVEL p) = 1 then 1 else 2 }

/-! ### Receiving flits (R371, R372, R377, R389, R392) -/

/-- The window of a threshold register in units of 0.2 ns; 0 milliseconds read as 1 (R408). -/
def windowOf (ms : Nat) : Nat := 5000000 * max 1 ms

/-- The events of a window that ends now, with one more. -/
def pushTime (now win : Nat) (l : List Nat) : List Nat := now :: l.filter fun t => decide (now < t + win)

/-- A malformed packet (R377, R388): counted, and beyond the threshold an UP port enters QUARANTINE with cause MALFORMED. -/
def State.malPacket (s : State) (p r : Nat) : State :=
  let s := s.add (FAB_P_CNT_MAL_N p r) 1
  if !s.portUp p then s
  else
    let s := s.modPort p fun t => { t with malTimes := pushTime s.now (windowOf (s.get (FAB_P_MAL_THR_WIN_MS p))) t.malTimes }
    if s.get (FAB_P_MAL_THR_THR p) < (s.port p).malTimes.length then s.quarantine p 9 else s

/-- A message that a port which is not UP accepts (R388). -/
def State.admitted (s : State) (k : Packet) : Bool :=
  k.ptype == 6 && ((0x40 ≤ k.msgtype && k.msgtype ≤ 0x43) || k.msgtype == 0x20 || k.msgtype == 0x21) && k.hops == 0 && k.dst == s.chip

/-- A whole packet has arrived (R377, R388, R392): discarded and counted, taken in for this device, or left to be forwarded. -/
def State.packetIn (s : State) (p vc : Nat) (part : RxPart) (l : List Byte) : State :=
  let level := if (if s.portIs p 2 then (packetOf l).level else s.get (FAB_P_STATE_LEVEL p)) = 1 then 1 else 2
  let bad := match part.bad with | some 1 => some 1 | b => (s.malformed level vc l).or b
  let k := packetOf l
  let k := { k with rty := min 255 (k.rty + part.rty) }
  let i : InPkt := { port := p, vc, flits := part.flits, start := part.start, pkt := k, no := s.fab.arrived }
  let s := s.modFab fun f => { f with arrived := f.arrived + 1 }
  if s.portUp p then
    match bad with
    | some r => s.malPacket p r
    | none => if k.dst = s.chip then s.modFab fun f => { f with inbox := f.inbox ++ [i] }
              else s.modFab fun f => { f with inq := f.inq ++ [i] }
  else if s.portIs p 5 then
    if bad.isNone && s.admitted k then s.modFab fun f => { f with inbox := f.inbox ++ [i] } else s.add (FAB_P_CNT_QDROP_N p) 1
  else
    match bad with
    | some r => s.malPacket p r
    | none => if s.admitted k then s.modFab fun f => { f with inbox := f.inbox ++ [i] } else s

/-- A further flit of a packet that is going out as it comes (R379): it leaves at once, the last one that its header counts as its EOP flit.
One too many is lost; an EOP that comes early ends the packet. -/
def State.cutFlit (s : State) (q ovc : Nat) (eop : Bool) (vlen : Nat) (data : List Byte) : State :=
  let left := tget 0 (s.port q).cutLeft ovc
  if left = 0 then s
  else
    let last := eop || left == 1
    let f : TxFlit := { seq := (s.port q).txSeq, vc := ovc, sop := false, eop := last, vlen := if last then vlen else 0, data }
    let s := (s.modPort q fun t => { t with cutLeft := tput 0 t.cutLeft ovc (left - 1) }).sendFlits q [f]
    if last then s.cutOff q ovc else s

/-- A flit of a packet that is going out as it comes (R377, R379): the whole packet is no longer discarded for what is wrong with its length,
which counts when it ends. -/
def State.cutThrough (s : State) (p vc q ovc : Nat) (part : RxPart) (eop : Bool) (vlen : Nat) (data : List Byte) : State :=
  let s := s.cutFlit q ovc eop vlen data
  if !eop then s.modPort p fun t => { t with rx := tput {} t.rx vc part }
  else
    let s := s.modPort p fun t => { t with rx := tput {} t.rx vc {} }
    let l := part.data.take (240 * (part.flits - 1) + vlen)
    match part.bad.or (if l.length = 32 + (packetOf l).carried then none else some 1) with
    | some r => s.malPacket p r
    | none => s

/-- A DATA flit taken in order (R371, R372, R377, R378). -/
def State.dataFlit (s : State) (p vc : Nat) (sop eop : Bool) (vlen : Nat) (data : List Byte) (rty : Nat) : State :=
  let old := tget {} (s.port p).rx vc
  let full := s.granted p vc ≤ s.bufUsed p vc
  let s := s.modPort p fun t => { t with peerCr := t.peerCr.set vc (t.peerCr.getD vc 0 - 1) }
  let s := if sop && old.flits != 0 then s.malPacket p 1 else s
  let s := match sop, old.cut with | true, some (q, ovc) => s.cutOff q ovc | _, _ => s
  let base : RxPart := if sop then { rty, start := s.epoch } else if old.flits = 0 then { bad := some 1, start := s.epoch } else old
  let part := { base with data := base.data ++ data, flits := base.flits + 1, bad := base.bad.or (if full then some 5 else none) }
  let part := if eop && (vlen = 0 || 240 < vlen) then { part with bad := some 1 } else part
  match part.cut with
  | some (q, ovc) => s.cutThrough p vc q ovc part eop vlen data
  | none =>
  if !eop then s.modPort p fun t => { t with rx := tput {} t.rx vc part }
  else (s.modPort p fun t => { t with rx := tput {} t.rx vc {} }).packetIn p vc part (part.data.take (240 * (part.flits - 1) + vlen))

/-- The flits up to the acknowledged SEQ leave the retry buffer (R389). -/
def ackTo (ack : Nat) (l : List TxFlit) : List TxFlit :=
  if l.any fun f => f.seq == ack then (l.dropWhile fun f => f.seq != ack).drop 1 else l

/-- Apply an ACK (R389); the acknowledgement of a replayed flit ends its retry and adds its time (R390). -/
def State.takeAck (s : State) (p ack : Nat) : State :=
  let t := s.port p
  let left := ackTo ack t.retry
  match t.replay with
  | some (seq, _, since) =>
    if left.any fun f => f.seq == seq then s.modPort p fun t => { t with retry := left }
    else (s.modPort p fun t => { t with retry := left, replay := none }).add (FAB_P_RETRY_NS_NS p) ((s.now - since) / 5)
  | none => s.modPort p fun t => { t with retry := left }

/-- A NAK (R389, R390): the transmitter replays every flit after ACK and counts the retry; beyond the port's limits it goes DOWN. -/
def State.takeNak (s : State) (p ack : Nat) : State :=
  let s := s.takeAck p ack
  match (s.port p).retry with
  | [] => s
  | f :: _ =>
    let n := match (s.port p).replay with | some (seq, n, _) => if seq = f.seq then n else 0 | none => 0
    let since := match (s.port p).replay with | some (seq, _, e) => if seq = f.seq then e else s.now | none => s.now
    let s := (s.add (FAB_P_CNT_RETRY_N p) 1).modPort p fun t =>
      { t with replay := some (f.seq, n + 1, since)
               retryTimes := pushTime s.now (windowOf (s.get (FAB_P_RETRY_THR_WIN_MS p))) t.retryTimes }
    if s.portUp p && (8 ≤ n || s.get (FAB_P_RETRY_THR_THR p) < (s.port p).retryTimes.length) then s.portDown p
    else ((s.port p).retry.foldl (fun s f => s.wireOut p 1 f) s).add (FAB_P_CNT_TXFLIT_N p) (s.port p).retry.length

/-- A flit is discarded (R389): the receiver sends a NAK and waits for the replay; `seq` is the discarded flit's where it is known. -/
def State.discardFlit (s : State) (p : Nat) (seq : Option Nat) : State :=
  match (s.port p).nak with
  | none => (s.modPort p fun t => { t with nak := some (s.now, seq.getD t.rxSeq) }).wireOut p 2 bareFlit
  | some (e, last) => s.modPort p fun t => { t with nak := some (e, seq.getD last) }

/-- A DATA flit whose CRC and header pass (R389, R392): taken when its SEQ is the next one, else discarded. -/
def State.takeData (s : State) (p h : Nat) (data : List Byte) : State :=
  let t := s.port p
  let seq := bits h 8 12
  if seq != t.rxSeq then s.discardFlit p (some seq)
  else
    let rep := match t.nak with
      | some (e, last) => some (last, ceilDiv (s.now - e) 320)
      | none => t.replayTo
    let s := (s.add (FAB_P_CNT_RXFLIT_N p) 1).modPort p fun t =>
      { t with rxSeq := (seq + 1) % 4096, nak := none
               replayTo := match rep with | some (last, d) => if seq = last then none else some (last, d) | none => none }
    s.dataFlit p (2 * bits h 3 2 + bits h 2 1) (bitOf h 5) (bitOf h 6) (bits h 48 8) data (match rep with | some (_, d) => min 255 d | none => 0)

/-- A flit's link header or tail is refused (R372). -/
def State.flitRefused (s : State) (p h : Nat) (flit : List Byte) : Bool :=
  let lv := bits h 56 4
  bits h 0 2 = 3 || bitOf h 7 || bits h 46 2 != 0 || bits h 60 4 != 0 || leAt flit 248 4 != 0
    || (if s.portIs p 2 then !(lv = 1 || lv = 2) else lv != s.get (FAB_P_STATE_LEVEL p))

/-- FLIT_RECEIVE (R372, R389): a DATA flit is answered by the DATA that now can go, or by an IDLE flit. 256 bytes arrive on a port, with the
codewords that the FEC decoder corrected under them and whether one could not be corrected. -/
def execFlitReceive (p : PortNo) (flit : List Byte) (fecCorr : Nat) (fecBad : Bool) (s : State) : Host.Outcome State Fault Refusal :=
  .next <|
    if !s.linkAlive p || flit.length != 256 then s
    else
      let s := s.add (FAB_P_CNT_FEC_CORR_N p) fecCorr
      let h := leAt flit 0 8
      if fecBad then (s.add (FAB_P_CNT_FEC_UNCORR_N p) 1).discardFlit p none
      else if crc32 (flit.take 252) != leAt flit 252 4 || s.flitRefused p h flit then (s.add (FAB_P_CNT_CRC_N p) 1).discardFlit p none
      else
        let s := if bitOf h 35 then
            s.modPort p fun t => { t with credits := t.credits.set (bits h 32 3) (t.credits.getD (bits h 32 3) 0 + bits h 36 10) }
          else s
        let s := if bits h 0 2 = 2 then s.takeNak p (bits h 20 12) else s.takeAck p (bits h 20 12)
        let s := if bits h 0 2 = 1 then s.takeData p h (slice flit 8 240) else s
        let k := (s.port p).wire.length
        let s := s.pump p
        if bits h 0 2 = 1 && (s.port p).wire.length = k then s.idleOut p else s

/-- NAK (R390). -/
def execNak (p : PortNo) (ack : Nat) (s : State) : Host.Outcome State Fault Refusal :=
  .next <| if s.linkAlive p then (s.takeNak p ack).pump p else s

/-! ### Requests and responses (R374, R376, R391) -/

/-- A response to a request packet (R374): the request's class and TAG, to its source. -/
def State.respond (s : State) (k : Packet) (ptype status : Nat) (data : List Byte) (poison : Bool) : Packet :=
  { ptype, cls := k.cls, poison, status, len := data.length, dst := k.src, src := s.chip, tenant := k.tenant, tag := k.tag, payload := data }

/-- The request packet asks for a response (R373, R391, R406). -/
def wantsResponse (k : Packet) : Bool := k.ptype == 1 || k.ptype == 4 || ((k.ptype == 0 || (k.ptype == 6 && k.msgtype == 0x50)) && k.ackreq)

/-- The response of a request that was not performed (R374, R376). -/
def State.refuse (s : State) (k : Packet) (status : Nat) : Packet :=
  if k.ptype = 1 then s.respond k 2 status (List.replicate k.len 0) true
  else if k.ptype = 4 then s.respond k 5 status (List.replicate 8 0) true
  else s.respond k 3 status [] false

/-- Send a packet (R30, R402): one for this device goes to its own endpoint, any other to the router. -/
def State.send (s : State) (k : Packet) : State :=
  let i : InPkt := { port := 6, vc := 2 * k.cls, flits := 0, start := s.epoch, pkt := k }
  s.modFab fun f => if k.dst = s.chip then { f with inbox := f.inbox ++ [i] } else { f with inq := f.inq ++ [i] }

/-- A request goes out and waits for its response (R391). Its TAG is the next one, unless the packet names a TAG of its own. -/
def State.request (s : State) (by_ : ReqBy) (k : Packet) : State :=
  let tag := if k.tag = 0 then s.fab.tagNext else k.tag
  let s := s.modFab fun f =>
    { f with tagNext := (f.tagNext + 1) % 32768, reqs := f.reqs ++ [{ tag, by_, read := k.ptype == 1, addr := k.addr, tenant := k.tenant }] }
  s.send { k with tag }

/-- A waiting operation of a loom gets the answer to its read. -/
def giveRead (unit : Nat) (r : ReadRes) (l : List Pend) : List Pend :=
  l.map fun p => if p.unit = unit && p.waiting then { p with got := p.got ++ [r], waiting := false } else p

/-- A request completes (R376, R391): the engine gets its answer; a status that the fabric itself produced is recorded at the
source. -/
def State.completeReq (s : State) (tag status : Nat) (data : List Byte) (poison : Bool) : State :=
  match s.fab.reqs.find? fun r => r.tag == tag with
  | none => s
  | some r =>
    let s := s.modFab fun f => { f with reqs := f.reqs.erase r }
    let s := if status < 4 then s
      else
        let cls := if status != 5 then 2 else if r.read then 1 else 4
        s.report { mkRec 15 0 (0x400 + status) cls (some r.addr) 0 r.tenant [] with fabric := true }
    match r.by_ with
    | .loomRead n u => s.modPend n (giveRead u ⟨status, data, poison⟩)
    | .loomWrite n => s.modSeq n fun q => { q with writesOut := q.writesOut - 1 }
    | .tierRead e => s.modTierOp e fun o => { o with got := o.got ++ [⟨status, data, poison⟩], waiting := false }
    | .tierWrite e => s.modTierOp e fun o =>
        { o with writesOut := o.writesOut - 1, wbad := if o.wbad = 0 then status else o.wbad }

/-- A refusal of the router is counted (R382). -/
def State.noteUnroutable (s : State) : State := (s.add FAB_CNT_UNROUTABLE_N 1).set FAB_ERR_UNROUTABLE 1

/-- A SYNC or SYNC_RESP to the neighbour on port p (R394): the link's features have to carry it, once the peer's capability word has
given them (R386). -/
def State.syncMsg (s : State) (p msgtype : Nat) (body : List Byte) : State :=
  let q := s.get (FAB_P_STATE_QCAUSE p)
  if s.linkCarries p (s.msg (s.neighbour p) 0 msgtype body) || (1 ≤ q && q ≤ 4) then s.linkMsg p msgtype body else s.noteUnroutable

/-- UNROUTABLE (R382): a request is answered with UNREACHABLE, any other refused packet discarded. -/
def State.unroutable (s : State) (i : InPkt) : State :=
  let s := s.noteUnroutable
  if !wantsResponse i.pkt then s
  else if i.port = 6 then
    s.completeReq i.pkt.tag 4 (if i.pkt.ptype = 1 then List.replicate i.pkt.len 0 else []) (i.pkt.ptype == 1)
  else s.send (s.refuse i.pkt 4)

/-! ### Forwarding (R379) -/

/-- The whole packet at the head of an input's virtual channel: none of a port in QUARANTINE (R388), and none behind a packet for this device
that waits in the link's input buffer (R402). -/
def State.headPkt (s : State) (src vc : Nat) : Option InPkt :=
  if s.portIs src 5 then none
  else match s.fab.inq.find? fun i => i.port == src && i.vc == vc with
    | some i => if (beyondEndpoint [] s.fab.inbox).any fun w => w.port == src && w.vc == vc && decide (w.no < i.no) then none else some i
    | none => none

/-- A packet that is arriving at the head of an input's virtual channel and whose header passes: it may go out before its last flit has come
(R379). Bytes still to come stand as zeros. -/
def State.cutHead (s : State) (src vc : Nat) : Option InPkt :=
  let part := tget {} (s.port src).rx vc
  let l := slice part.data 0 (32 + (packetOf part.data).carried)
  let k := packetOf l
  let level := if s.get (FAB_P_STATE_LEVEL src) = 1 then 1 else 2
  if 6 ≤ src || !s.portUp src || part.flits = 0 || part.bad.isSome || part.cut.isSome || k.dst = s.chip || (s.malformed level vc l).isSome
      || k.flits ≤ part.flits || (s.fab.inq ++ beyondEndpoint [] s.fab.inbox).any (fun i => i.port == src && i.vc == vc) then none
  else
    some { port := src, vc, flits := part.flits, start := part.start, pkt := { k with rty := min 255 (k.rty + part.rty) } }

/-- The packet that an input's virtual channel sends next, whole or as it comes. -/
def State.nextPkt (s : State) (src vc : Nat) : Option InPkt := (s.headPkt src vc).or (s.cutHead src vc)

/-- Every head of an input that could go out now on port q: input, output virtual channel, packet. -/
def State.ready (s : State) (q : Nat) : List (Nat × Nat × InPkt) :=
  (List.range 56).filterMap fun j =>
    match s.nextPkt (j / 8) (j % 8) with
    | none => none
    | some i => match s.route i.pkt with
      | some (q', ovc) => if q' = q && s.canSend q ovc i.pkt then some (j, ovc, i) else none
      | none => none

/-- Flits that a class may send in a round (R379, R407). -/
def State.weight (s : State) (c : Nat) : Nat :=
  max 1 (s.get (match c with | 1 => FAB_VC_WEIGHT_SCATTER | 2 => FAB_VC_WEIGHT_BULK | _ => FAB_VC_WEIGHT_TIER))

/-- The round after the classes that wait have used up their shares. -/
def State.freshRound (s : State) (q : Nat) (ready : List (Nat × Nat × InPkt)) : List Nat :=
  let r := (s.port q).round
  if (List.range 3).any fun c => (ready.any fun e => e.2.1 / 2 == c + 1) && decide (r.getD c 0 < s.weight (c + 1)) then r else [0, 0, 0]

/-- Input j may send to port q on virtual channel ovc now (R379): CONTROL first, a class that has flits left in its round, and the
inputs of one virtual channel in turn. -/
def State.turn (s : State) (q j ovc : Nat) (ready : List (Nat × Nat × InPkt)) : Bool :=
  let c := ovc / 2
  let last := tget 0 (s.port q).served ovc
  let dist (x : Nat) : Nat := (x + 56 - last) % 56
  (c == 0 || (!(ready.any fun e => e.2.1 / 2 == 0) && decide ((s.freshRound q ready).getD (c - 1) 0 < s.weight c)))
    && !(ready.any fun e => e.2.1 == ovc && decide (dist e.1 < dist j))

/-- The packet as it goes on to port q (R373, R385): one hop more, unless it is the device's own, and the link's level. -/
def State.hop (s : State) (src q : Nat) (k : Packet) : Packet :=
  { k with hops := if src = 6 then 0 else k.hops + 1, level := if s.get (FAB_P_STATE_LEVEL q) = 1 then 1 else 2 }

/-- Input j has sent n flits to port q on virtual channel ovc (R379). -/
def State.hasServed (s : State) (q j ovc n : Nat) (ready : List (Nat × Nat × InPkt)) (t : State) : State :=
  let round := if ovc / 2 = 0 then (s.port q).round
    else let r := s.freshRound q ready; r.set (ovc / 2 - 1) (r.getD (ovc / 2 - 1) 0 + n)
  t.modPort q fun t => { t with round, served := tput 0 t.served ovc ((j + 1) % 56) }

/-- A packet begins to go out before its last flit has come (R379): the flits that are there leave, and the others follow as they come. -/
def State.cutStart (s : State) (src vc q ovc : Nat) (i : InPkt) : State :=
  (s.modPort src fun t => { t with rx := tput {} t.rx vc { tget {} t.rx vc with cut := some (q, ovc) } }).transmitPart q ovc i.flits
    (s.hop src q i.pkt)

/-- PACKET_FORWARD (R379, R382): the head of an input's virtual channel goes out on its route when that has credits for it and it is
its turn, or is refused. Input 6 is the device itself. -/
def execPacketForward (src : Fin 7) (vc : Fin 8) (s : State) : Host.Outcome State Fault Refusal :=
  .next <|
    let j := 8 * src.val + vc.val
    match s.headPkt src vc with
    | some i =>
      let out := s.modFab fun f => { f with inq := f.inq.erase i }
      (match s.route i.pkt with
      | none => out.unroutable i
      | some (q, ovc) =>
        if !s.canSend q ovc i.pkt || !s.turn q j ovc (s.ready q) then s
        else s.hasServed q j ovc i.pkt.flits (s.ready q) (out.transmit q ovc (s.hop src q i.pkt)))
    | none =>
      match s.cutHead src vc with
      | none => s
      | some i =>
        match s.route i.pkt with
        | none => s
        | some (q, ovc) =>
          if !s.canSend q ovc i.pkt || !s.turn q j ovc (s.ready q) then s
          else s.hasServed q j ovc i.pkt.flits (s.ready q) (s.cutStart src vc q ovc i)

/-! ### Packets for this device -/

/-- The first packet for this device that `want` names and that no earlier packet of its port and virtual channel precedes (R380). -/
def State.firstIn (s : State) (want : InPkt → Bool) : Option InPkt :=
  let rec go (seen : List (Nat × Nat)) : List InPkt → Option InPkt
    | [] => none
    | i :: t => if want i && !seen.contains (i.port, i.vc) then some i else go ((i.port, i.vc) :: seen) t
  go [] s.fab.inbox

/-- Take a packet out of the endpoint. -/
def State.takeIn (s : State) (i : InPkt) : State := s.modFab fun f => { f with inbox := f.inbox.erase i }

/-- A message of the named type that came by port p. -/
def isMsg (t : Nat) (p : Option Nat) (i : InPkt) : Bool :=
  i.pkt.ptype == 6 && i.pkt.msgtype == t && (match p with | some x => i.port == x | none => true)

/-- A response packet that answers: the request of its TAG completes, a late one is discarded (R391). -/
def State.takeResponse (s : State) (ptype : Nat) : State :=
  match s.firstIn fun i => i.pkt.ptype == ptype with
  | none => s
  | some i => (s.takeIn i).completeReq i.pkt.tag i.pkt.status i.pkt.payload i.pkt.poison

/-- READRESP (R374). -/
def execReadresp (s : State) : Host.Outcome State Fault Refusal := .next (s.takeResponse 2)

/-- WRACK (R374). -/
def execWrack (s : State) : Host.Outcome State Fault Refusal := .next (s.takeResponse 3)

/-- ATOMRESP (R374). -/
def execAtomresp (s : State) : Host.Outcome State Fault Refusal := .next (s.takeResponse 5)

/-- REQUEST_TIMEOUT (R391): no response came in time; a read completes with zeros marked poisoned. -/
def execRequestTimeout (tag : Fin 65536) (s : State) : Host.Outcome State Fault Refusal :=
  .next <|
    if s.fab.reqs.any fun r => r.tag == tag.val then
      ((s.add FAB_CNT_TIMEOUT_N 1).set FAB_ERR_TIMEOUT 1).completeReq tag 5 [] true
    else s

/-- FAB_CNT_CLR (R407). -/
def execFabCntClr (s : State) : Host.Outcome State Fault Refusal :=
  .next (s.clearAll [FAB_CNT_UNROUTABLE_N, FAB_CNT_TIMEOUT_N, FAB_CNT_MBX_DROP_N, FAB_CNT_COLL_STALE_N])

end Sys2Proof.Machine
end

