-- ==== Sys2Proof/Machine/Transfer.lean ====
section
/-! DEFINITION. Accesses by the engines of a loom to HBM, to other looms and to other devices; the inbound FIFO and the NC port;
and the engines' waiting reads (R26, R27, R28, R30 to R33, R255, R256, R354, R534). -/
namespace Sys2Proof.Machine

/-! ### Fabric addresses (R30) -/

/-- The chip and the local address of a fabric address. -/
def fabChip (a : Nat) : Nat := bits a 50 14
def fabLocal (a : Nat) : Nat := bits a 0 50

/-- Cut [a, a + n) at 4 KiB boundaries: the accesses of an engine, each at most a packet's payload (R373); on fuel. -/
def pageCuts : Nat → Nat → Nat → List (Nat × Nat)
  | 0, _, _ => []
  | k + 1, a, n =>
    if n = 0 then []
    else
      let m := min n (4096 - a % 4096)
      (a, m) :: pageCuts k (a + m) (n - m)

/-- The accesses that a transfer of n bytes at a makes. -/
def pieces (a n : Nat) : List (Nat × Nat) := pageCuts (n / 4096 + 2) a n

/-- Cut [a, a + n) into payloads of at most 4,096 bytes from its start: the packets of one record (R373); on fuel. -/
def chunkCuts : Nat → Nat → Nat → List (Nat × Nat)
  | 0, _, _ => []
  | k + 1, a, n =>
    if n = 0 then []
    else
      let m := min n 4096
      (a, m) :: chunkCuts k (a + m) (n - m)

/-- The packets of a record of n bytes at a. -/
def packetCuts (a n : Nat) : List (Nat × Nat) := chunkCuts (n / 4096 + 1) a n

/-! ### Leases of a borrower (R354) -/

/-- The lease of this device that a write to a fabric address falls in: its entry. -/
def State.leaseAt (s : State) (a : Nat) : Option Nat :=
  (List.range 256).find? fun i =>
    (s.get (NBT_BORROW_STATE i) == 2 || s.get (NBT_BORROW_STATE i) == 3) && s.get (NBT_BORROW_PEER i) == fabChip a
      && s.get (NBT_BORROW_BASE i) ≤ fabLocal a && fabLocal a < s.get (NBT_BORROW_BASE i) + 65536 * s.get (NBT_BORROW_PAGES i)

/-- Set the dirty bit of one sub-page of lease i (R354). -/
def State.markSub (s : State) (i sub : Nat) : State :=
  let a := s.get (NBT_BORROW_BITMAP i) + sub / 8
  let (r, s) := s.devRead a 1
  let b := (r.data.getD 0 0).toNat
  if bitOf b (sub % 8) then s
  else (s.devWrite a [BitVec.ofNat 8 (b ||| 2 ^ (sub % 8))] false).add NBT_CNT_DIRTY_SET 1

/-- DIRTY_MARK (R354): a write of n bytes at a fabric address inside a lease sets the bits of its sub-pages. -/
def State.dirtyMark (s : State) (i a n : Nat) : State :=
  let o := fabLocal a - s.get (NBT_BORROW_BASE i)
  (List.range ((o + n - 1) / 4096 - o / 4096 + 1)).foldl (fun s j => s.markSub i (o / 4096 + j)) s

/-- A loom engine's write to a RECLAIMING lease is DENIED at the borrower (R354). -/
def State.leaseRefused (s : State) (n unit tenant a : Nat) : State :=
  s.report { mkRec 13 0 0x303 2 (some a) 0 tenant (le16 s.chip ++ [2, n, unit]) with fabric := true }

/-! ### Inbound accesses of a loom (R26, R255, R256) -/

/-- Put an access into loom m's inbound FIFO. DESIGN CHOICE (log 112): the spec gives the FIFO no depth; Config.inboundDepth, a free value,
stands for it. The list holds the accesses of the FIFO and, behind them, those of this device's own engines and of the bus that its
back-pressure keeps at their senders (R26); a packet is not taken in while the FIFO is full (R402). -/
def State.enqueue (s : State) (m : Nat) (i : Inbound) : State := s.modSpd m fun p => { p with fifo := p.fifo ++ [i] }

/-- Loom m's inbound FIFO is full (R26). An empty one is not, whatever its depth. -/
def State.fifoFull (s : State) (m : Nat) : Bool :=
  match (s.lm m).spd.fifo with
  | [] => false
  | l => decide (Config.inboundDepth < l.length)

/-- A packet that lands on a loom, or on the collective engine for one of its collectives, counts its RTY (R392). -/
def State.noteRty (s : State) (n rty : Nat) : State :=
  { s with svc := { s.svc with rty := tput 0 s.svc.rty n (max (tget 0 s.svc.rty n) rty) } }

/-- Two looms belong to one bolt, or are the same loom. -/
def State.sameBolt (s : State) (n m : Nat) : Bool := n == m || (match s.boltOf n with | some b => s.inBolt b m | none => false)

/-- SPD_INWIN w of loom n admits an access (R256). -/
def State.inwinAdmits (s : State) (n w : Nat) (req : Requester) (tenant : Nat) (write : Bool) (off len : Nat) : Bool :=
  let base := 4096 * s.get (SPD_INWIN_BASE_4K n w)
  let size := 4096 * s.get (SPD_INWIN_SIZE_4K n w)
  let src := s.get (SPD_INWIN_SRC n w)
  size != 0 && base ≤ off && off + len ≤ base + size
    && s.is (if write then SPD_INWIN_WR n w else SPD_INWIN_RD n w)
    && (match req with
        | .loomEngine m _ => src == 1 || (src == 0 && s.sameBolt n m)
        | .peer _ _ => src == 2
        | _ => false)
    && (s.is (SPD_INWIN_ANY_TENANT n w) || s.get (SPD_INWIN_TENANT n w) == tenant)

/-- The inbound windows let an access pass (R33, R256): host cores, Selvedge and peers on the control channel as tenant 0 are not
engines, and are not checked. -/
def State.inwinOk (s : State) (n : Nat) (req : Requester) (tenant : Nat) (write : Bool) (off len : Nat) : Bool :=
  match req with
  | .host | .selvedge | .collective => true
  | .peer _ true => tenant == 0 || (List.range 8).any fun w => s.inwinAdmits n w req tenant write off len
  | _ => (List.range 8).any fun w => s.inwinAdmits n w req tenant write off len

/-- A range of loom n's scratchpad lies within the return area of source table entry e, whose slots are 4,096 (R281; log 35). -/
def State.inRetArea (s : State) (n e off len : Nat) : Bool :=
  let base := s.get (SHT_SRC_RET_BASE n e)
  base ≤ off && off + len ≤ base + 4096 * 64 * s.get (SHT_SRC_RET_STRIDE_64 n e)

/-- INWIN_DENY (R256). -/
def State.inwinDeny (s : State) (n : Nat) (req : Requester) (tenant off : Nat) : State :=
  (s.set (SPD_ERR_INWIN_DENY n) 1).refusedAt req tenant (lwin n + off) 3

/-- An inbound access has completed (R31, R374): a loom's engine, the peer or the access on the bus gets its answer. An access that
came on the bus as an engine's has a tag. -/
def State.answerInbound (s : State) (i : Inbound) (status : Nat) (data : List Byte) (poison : Bool) : State :=
  match i.req with
  | .loomEngine m u =>
    if i.tag.isSome then s.answer status (if i.kind = .read then data else []) poison
    else if i.kind = .read then s.modPend m (giveRead u ⟨status, data, poison⟩)
    else s.modSeq m fun q => { q with writesOut := q.writesOut - 1 }
  | .peer c _ =>
    match i.tag with
    | none => s
    | some tag =>
      let (t, d, p) : Nat × List Byte × Bool := match i.kind with
        | .read => (2, if status = 0 then data else List.replicate i.len 0, poison || status != 0)
        | .atomic _ => (5, if status = 0 then data else List.replicate 8 0, poison || status != 0)
        | _ => (3, [], false)
      s.send { ptype := t, cls := i.cls, poison := p, status, len := d.length, dst := c, src := s.chip, tenant := i.tenant, tag, payload := d }
  | _ => s.answer status (if i.kind = .read then data else []) poison

/-- Bytes of a loom window's scratchpad or accumulator view, with their poison. -/
def State.winRead (s : State) (n off len : Nat) : List Byte × Bool :=
  if off < 0xC00000 then (s.spRead n off len, s.spPoisoned n off len)
  else (s.viewRead n (off - 0xC00000) len, s.viewPoisoned n (off - 0xC00000) len)

/-- Write to a loom window's scratchpad or accumulator view. -/
def State.winWrite (s : State) (n off : Nat) (d : List Byte) (p : Bool) : State :=
  if off < 0xC00000 then s.spWrite n off d p else s.viewWrite n (off - 0xC00000) d

/-- The bytes that an atomic of payload d alters: 8, or for MASKED the length of its value (R374). DESIGN CHOICE (log 113): beside the
8-byte form of R374 there is one of 16 bytes, since R65 and R290 have VALID and PENDING, 8 bytes each, change in a single atomic. -/
def atomicWidth (op : Nat) (d : List Byte) : Nat := if op = 1 then 8 else d.length / 2

/-- The value that an atomic stores (R374): FETCH_ADD adds modulo 2^64, MASKED replaces the masked bits. -/
def atomicNew (op old : Nat) (d : List Byte) : Nat :=
  if op = 1 then (old + leAt d 0 8) % 2 ^ 64
  else
    let w := atomicWidth op d
    let m := leAt d w w
    (old - (old &&& m)) + (leAt d 0 w &&& m)

/-- The collective's last result write at loom n has landed: its WAIT ends (R397). -/
def State.resultIn (s : State) (n c : Nat) : State :=
  s.modSeq n fun q => match q.pause with
    | some p => if p.kind = .coll c false then { q with pause := some { p with kind := .coll c true } } else q
    | none => q

/-- Where the view that holds an offset of loom n's window ends (R28). -/
def viewEnd (n off : Nat) : Nat := if off < 0xC00000 then spadSize n else 0xE00000

/-- An inbound access of which bytes lie beyond the view in which it begins: those are UNMAPPED, or DENIED as Draft store, and recorded
(R31, R534). The status, and the state. -/
def State.beyondView (s : State) (n : Nat) (i : Inbound) (len : Nat) : Nat × State :=
  let e := viewEnd n i.off
  if i.off + len ≤ e then (0, s)
  else
    let st := s.outStatus (lwin n + e)
    (st, s.refusedAt i.req i.tenant (lwin n + e) st)

/-- Perform an inbound read, write or atomic, checked against the windows whole (R255, R256; log 99). -/
def State.performInbound (s : State) (n : Nat) (i : Inbound) : State :=
  let isRead := i.kind = .read
  if !s.inwinOk n i.req i.tenant (!isRead) i.off i.len || (match i.kind with | .atomic _ => !s.inwinOk n i.req i.tenant false i.off i.len | _ => false) then
    (s.inwinDeny n i.req i.tenant i.off).answerInbound i 3 (List.replicate i.len 0) false
  else
    let (st, s) := s.beyondView n i i.len
    match i.kind with
    | .read =>
      let (d, p) := s.winRead n i.off i.len
      let s := if i.off < 0xC00000 then s.countPoison n [(i.off, i.len)] else s
      (s.readPoison i.req i.fetch (lwin n + i.off) p).answerInbound i st d p
    | .atomic op =>
      let (d, p) := s.winRead n i.off i.len
      let q := p || i.poison
      ((if i.off < 0xC00000 then s.countPoison n [(i.off, i.len)] else s).winWrite n i.off
        (leBytes i.len (atomicNew op (leNat d) i.data)) q).answerInbound i st (d.take 8) p
    | .result c last =>
      let s := s.winWrite n i.off i.data i.poison
      if last then s.resultIn n c else s
    | _ => (s.winWrite n i.off i.data i.poison).answerInbound i st [] false

/-- The NC port can serve now (R255): no hold but one of cause REMOTE, and no slip, is under way. -/
def State.ncOpen (s : State) (n : Nat) : Bool := !s.frozen n || s.holdCause n == 4

/-- A loom's port serves the access now: nothing waits before it, and no hold or slip keeps the port closed (R255). -/
def State.portFree (s : State) (n : Nat) : Bool := s.ncOpen n && (s.lm n).spd.fifo.isEmpty

/-- Take the head of loom n's inbound FIFO. -/
def State.popFifo (s : State) (n : Nat) : State := s.modSpd n fun p => { p with fifo := p.fifo.drop 1 }

/-- An access through the NC port (R255, R257, R259): the cycles for which it was put off count, and the words in error are found before it
reads or merges. The port never causes a hold, so that a corrected word holds nothing here (R255). -/
def State.throughPort (s : State) (n deferred : Nat) (ecc : List SpadEv) (f : State → State) : State :=
  (f ((s.add (SPD_CNT_NC_DEFER_DEFER n) deferred).eccEvents n ecc)).eccSeen n

/-- The NC port takes the head of the FIFO. -/
def State.portServes (s : State) (n deferred : Nat) (ecc : List SpadEv) (f : State → State) : State :=
  (s.popFifo n).throughPort n deferred ecc f

/-! ### Writes of a loom's engines (R30 to R33, R279) -/

/-- An engine's write of one piece to this device. A piece that R33 keeps from the engine is UNMAPPED, BENCHED or DENIED, tested in that
order as on the bus (DEDUCED, log 95). -/
def State.localPut (s : State) (n unit tenant a : Nat) (kind : InKind) (d : List Byte) (p : Bool) : State :=
  let req := if h : n < 144 then Requester.loomEngine ⟨n, h⟩ unit else .selvedge
  match placeOf a with
  | .hbm => (s.hbmPost req tenant false a d (d.map fun _ => p)).2
  | .spad m off | .acc m off =>
    if s.is (LOOM_STATUS_BENCHED m) then s.refusedAt req tenant a 2
    else
      let len := match kind with | .atomic op => atomicWidth op d | _ => d.length
      (s.enqueue m { kind, off, len, data := d, poison := p, tenant, req, tag := none }).modSeq n
        fun q => { q with writesOut := q.writesOut + 1 }
  | _ => s.refusedAt req tenant a (s.outStatus a)

/-- An engine's write of one piece to another device (R354, R373, R391). `tag` is a TAG that the write must carry. -/
def State.remotePut (s : State) (n unit cls tenant a tag : Nat) (d : List Byte) (p : Bool) : State :=
  let go (s : State) : State :=
    (s.request (.loomWrite n) { ptype := 0, cls, ackreq := true, poison := p, len := d.length, dst := fabChip a, src := s.chip,
                                addr := a, tenant, tag, payload := d }).modSeq n fun q => { q with writesOut := q.writesOut + 1 }
  match s.leaseAt a with
  | none => go s
  | some i =>
    if s.get (NBT_BORROW_STATE i) = 3 then
      s.leaseRefused n unit tenant a
    else go (s.dirtyMark i a d.length)

/-- A write of a loom's engine at a fabric address (R30). -/
def State.engWrite (s : State) (n unit cls tenant a : Nat) (d : List Byte) (p : Bool) : State :=
  (pieces a d.length).foldl (fun s x =>
    let e := (d.drop (x.1 - a)).take x.2
    if fabChip x.1 = s.chip then s.localPut n unit tenant (fabLocal x.1) .write e p else s.remotePut n unit cls tenant x.1 0 e p) s

/-- The masked atomic write of VALID and PENDING, 16 bytes at a fabric address (R65, R290, R374; log 113). -/
def State.engMask (s : State) (n unit cls tenant a value mask : Nat) : State :=
  let d := leBytes 16 value ++ leBytes 16 mask
  if fabChip a = s.chip then
    let l := fabLocal a
    let req := if h : n < 144 then Requester.loomEngine ⟨n, h⟩ unit else .selvedge
    match placeOf l with
    | .hbm =>
      let (r, s) := s.hbmRead req tenant false l 16
      if r.status != 0 then s
      else (s.hbmPut req tenant false l (leBytes 16 (atomicNew 2 (leNat r.data) d)) (r.pois.any id)).2
    | _ => s.localPut n unit tenant l (.atomic 2) d false
  else
    let go (s : State) : State :=
      (s.request (.loomWrite n) { ptype := 4, cls, ackreq := true, len := 32, dst := fabChip a, src := s.chip, addr := a, tenant,
                                  msgtype := 2, payload := d }).modSeq n fun q => { q with writesOut := q.writesOut + 1 }
    match s.leaseAt a with
    | none => go s
    | some i =>
      if s.get (NBT_BORROW_STATE i) = 3 then
        s.leaseRefused n unit tenant a
      else go (s.dirtyMark i a 16)

/-! ### Reads of a loom's engines -/

/-- How a computation that reads goes on: it is done, with the answers not used up, or it needs a read from outside the loom. -/
inductive RdOut (α : Type) where
  | done (a : α) (rest : List ReadRes) (s : State)
  | need (a n : Nat)

/-- A computation over the state that reads as a loom's engine: it is given the answers that have come so far. -/
abbrev Rd (α : Type) := List ReadRes → State → RdOut α

/-- No read. -/
def rdPure {α : Type} (a : α) : Rd α := fun l s => .done a l s

/-- One computation after another. -/
def rdBind {α β : Type} (x : Rd α) (f : α → Rd β) : Rd β := fun l s =>
  match x l s with
  | .done a l s => f a l s
  | .need a n => .need a n

/-- Change the state. -/
def rdMod (f : State → State) : Rd Unit := fun l s => .done () l (f s)

/-- A value of the state. -/
def rdGet {α : Type} (f : State → α) : Rd α := fun l s => .done (f s) l s

/-- A computation for each entry of a list, in order. -/
def rdEach {α : Type} (f : α → Rd Unit) : List α → Rd Unit
  | [] => rdPure ()
  | a :: t => rdBind (f a) fun _ => rdEach f t

/-- Read one piece at a fabric address as unit `unit` of loom n. What another loom's port or another device has answered stands, whatever
has become of it since (R32). -/
def rdPiece (n unit tenant a len : Nat) : Rd RdData := fun l s =>
  let req := if h : n < 144 then Requester.loomEngine ⟨n, h⟩ unit else .selvedge
  let outside : RdOut RdData := match l with
    | [] => .need a len
    | r :: t => .done ⟨r.status, slice r.data 0 len, List.replicate len (r.poison || r.status == 5)⟩ t s
  if fabChip a = s.chip then
    let x := fabLocal a
    match placeOf x with
    | .hbm => let (r, s) := s.hbmRead req tenant false x len; .done r l s
    | p =>
      if (match p with | .spad _ _ | .acc _ _ => unit == 3 || unit == 8 | _ => false) then outside
      else
        let st := s.outStatus x
        .done ⟨st, List.replicate len 0, List.replicate len (st == 2)⟩ l (s.refusedAt req tenant x st)
  else outside

/-- Read the pieces of a range; the status is the first that is not OK. -/
def rdPieces (n unit tenant : Nat) : List (Nat × Nat) → Rd RdData
  | [] => rdPure ⟨0, [], []⟩
  | x :: t => rdBind (rdPiece n unit tenant x.1 x.2) fun r => rdBind (rdPieces n unit tenant t) fun q =>
      rdPure ⟨if r.status = 0 then q.status else r.status, r.data ++ q.data, r.pois ++ q.pois⟩

/-- Read len bytes at a fabric address (R30). -/
def rdRange (n unit tenant a len : Nat) : Rd RdData := rdPieces n unit tenant (pieces a len)

/-- Send the read that a waiting operation needs; a benched loom's port answers BENCHED at once (R31, R32). -/
def State.sendRead (s : State) (n unit cls tenant a len : Nat) : State :=
  if fabChip a = s.chip then
    let req := if h : n < 144 then Requester.loomEngine ⟨n, h⟩ unit else .selvedge
    match placeOf (fabLocal a) with
    | .spad m off | .acc m off =>
      if s.is (LOOM_STATUS_BENCHED m) then
        (s.refusedAt req tenant (fabLocal a) 2).modPend n (giveRead unit ⟨2, List.replicate len 0, true⟩)
      else s.enqueue m { kind := .read, off, len, data := [], poison := false, tenant, req, tag := none }
    | _ => s
  else s.request (.loomRead n unit) { ptype := 1, cls, len, dst := fabChip a, src := s.chip, addr := a, tenant }

/-- Run an operation as far as its reads allow: it takes effect whole, or sends its next read and waits. -/
def State.runOp (s : State) (n cls tenant : Nat) (p : Pend) (f : Rd Unit) : State :=
  let others := fun (l : List Pend) => l.filter fun x => x.unit != p.unit
  match f p.got s with
  | .done _ _ t => t.modPend n others
  | .need a len => (s.modPend n fun l => others l ++ [{ p with waiting := true }]).sendRead n p.unit cls tenant a len

/-- The operation of a unit that waits for reads. -/
def State.pendOf (s : State) (n unit : Nat) : Option Pend := (s.lm n).pend.find? fun p => p.unit == unit

end Sys2Proof.Machine
end

