-- ==== Sys2Proof/Machine/Collective.lean ====
section
/-! DEFINITION. The collective engine (R396 to R400). The layout of the 32-byte body header, which R397 does not give, and the way in which
ALLGATHER and ALLTOALL data travels through the tree are the model's own (log 48). -/
namespace Sys2Proof.Machine

/-! ### The table (R396) -/

/-- The loom takes part in collective c on this device. -/
def State.collHas (s : State) (c n : Nat) : Bool := s.is (FAB_COLL_VALID c) && bitOf (s.get (FAB_COLL_LOOMS c)) n

/-- This device's participants, ascending. -/
def State.collLooms (s : State) (c : Nat) : List Nat := (List.range 144).filter fun n => bitOf (s.get (FAB_COLL_LOOMS c)) n

/-- The ports that lead to children, ascending. -/
def State.collChildren (s : State) (c : Nat) : List Nat := (List.range 6).filter fun p => bitOf (s.get (FAB_COLL_CHILDREN c)) p

/-- This device is the root. -/
def State.collRoot (s : State) (c : Nat) : Bool := s.get (FAB_COLL_PARENT c) == 7

/-- The index of a local participant. -/
def State.collIndex (s : State) (c n : Nat) : Nat := s.get (FAB_COLL_PART0 c) + ((s.collLooms c).filter (· < n)).length

/-- The length of a loom's segment, fixed at issue (R396). -/
def State.collLen (s : State) (c n : Nat) : Nat :=
  let r := s.get (FAB_COLL_CREG c)
  match s.get (FAB_COLL_LEN_MODE c) with
  | 0 => s.get (FAB_COLL_LEN c)
  | 1 => (if r < 32 then s.get (SHT_CREG_COUNT n r) else 0) * s.get (FAB_COLL_UNIT c)
  | 2 => (if r < 224 then (s.halfOf n r (s.stepOf n)).tsum else 0) * s.get (FAB_COLL_UNIT c)
  | _ => 0

/-! ### Elements (R398) -/

/-- Bytes of an element. -/
def elemSize (dtype : Nat) : Nat := if dtype = 1 then 4 else if dtype = 2 then 2 else 8

/-- The identity for a missing element. -/
def collIdentity (dtype red : Nat) : Nat :=
  let idx := 0xFFFFFFFF * 2 ^ 32
  if red = 0 then (if dtype = 3 || dtype = 4 then idx else 0)
  else
    let low := red = 1
    match dtype with
    | 0 => if low then ofSigned 64 (1 - (2 : Int) ^ 39) else 2 ^ 39 - 1
    | 1 => if low then 0xFF800000 else 0x7F800000
    | 2 => if low then 0xFF80 else 0x7F80
    | 3 => idx + (if low then 0x80000000 else 0x7FFFFFFF)
    | _ => idx + (if low then 0xFF800000 else 0x7F800000)

/-- An element's FP32 bits, where its value is FP32 or BF16. -/
def fpBits (dtype x : Nat) : Nat := if dtype = 2 then x * 65536 else x % 2 ^ 32

/-- The value of an element for MAX and MIN; a NaN compares as minus infinity under MAX and plus infinity under MIN. -/
def collKey (dtype red x : Nat) : Int :=
  match dtype with
  | 0 => toSigned 64 x
  | 3 => toSigned 32 (x % 2 ^ 32)
  | _ => if isNan32 (fpBits dtype x) then (if red = 1 then -(2 : Int) ^ 33 else (2 : Int) ^ 33) else f32Key (fpBits dtype x)

/-- Combine two elements; a BF16 element of a SUM travels as FP32. -/
def collOne (dtype red a b : Nat) : Nat :=
  if red = 0 then
    match dtype with
    | 0 => ofSigned 64 (satAcc (toSigned 64 a + toSigned 64 b)).1
    | 1 | 2 => fadd a b
    | _ => (Config.idxSum dtype (BitVec.ofNat 64 a) (BitVec.ofNat 64 b)).toNat
  else
    let ka := collKey dtype red a
    let kb := collKey dtype red b
    if ka = kb then (if 3 ≤ dtype && b / 2 ^ 32 < a / 2 ^ 32 then b else a)
    else if decide (ka < kb) == (red == 1) then b else a

/-- The elements of a segment. -/
def elems (sz : Nat) (l : List Byte) : List Nat := (chunks sz (ceilDiv l.length sz) l).map leNat

/-- Combine two lists of elements; missing ones count as the identity. -/
def collZip (dtype red : Nat) (a b : List Nat) : List Nat :=
  let e := collIdentity dtype red
  (List.range (max a.length b.length)).map fun i => collOne dtype red (a.getD i e) (b.getD i e)

/-- Bytes of an element of a partial result: BF16 travels as FP32 in a SUM. -/
def partSize (dtype red : Nat) : Nat := if dtype = 2 && red = 0 then 4 else elemSize dtype

/-- The elements that a local participant brings. -/
def ownElems (dtype red : Nat) (l : List Byte) : List Nat :=
  let x := elems (elemSize dtype) l
  if dtype = 2 && red = 0 then x.map (· * 65536) else x

/-- Some FP32 element of a comparison is NaN (R398). -/
def collNan (dtype red : Nat) (l : List Nat) : Bool := red != 0 && (dtype == 1 || dtype == 4) && l.any fun x => isNan32 (x % 2 ^ 32)

/-! ### Messages (R397) -/

/-- The body header. Its architecture level (R5) stands with LAST in byte 16 (log 48). -/
def collHdr (c step phase part off total : Nat) (last : Bool) : List Byte :=
  leBytes 1 c ++ leBytes 1 phase ++ leBytes 2 part ++ leBytes 4 step ++ leBytes 4 off ++ leBytes 4 total ++ leBytes 16 (2 + 16 * b2n last)

/-- Send a segment to the neighbour on a port. -/
def State.collSend (s : State) (c step phase part port : Nat) (data : List Byte) (poison : Bool) : State :=
  let k := max 1 (ceilDiv data.length 4064)
  (List.range k).foldl (fun s i =>
    let d := (data.drop (4064 * i)).take 4064
    s.send { s.msg (s.neighbour port) (s.get (FAB_COLL_CLASS c)) 0x30 (collHdr c step phase part (4064 * i) data.length (i + 1 == k) ++ d) with poison }) s

/-! ### State of the engine (R397, R400) -/

/-- The engine's state for a step of a collective. -/
def State.collStep (s : State) (c step : Nat) : CollStep :=
  ((tget [] s.fab.colls c).find? fun e => e.step == step).getD { step }

/-- Change it. -/
def State.putColl (s : State) (c : Nat) (e : CollStep) : State :=
  s.modFab fun f => { f with colls := tput [] f.colls c ((tget [] f.colls c).filter (fun x => x.step != e.step) ++ [e]) }

/-- The step of the collective is over. -/
def State.dropStep (s : State) (c step : Nat) : State :=
  s.modFab fun f => { f with colls := tput [] f.colls c ((tget [] f.colls c).filter fun x => x.step != step) }

/-- Take in bytes of a segment. -/
def CollStep.take (e : CollStep) (k total off : Nat) (d : List Byte) (poison last : Bool) : CollStep :=
  let old := (e.parts.find? fun p => p.from_ == k).getD { from_ := k, total, data := [], poison := false, last := false }
  let data := slice old.data 0 (max old.data.length off)
  let new : CollPart := { from_ := k, total, data := data.take off ++ d ++ data.drop (off + d.length), poison := old.poison || poison, last := old.last || last }
  { e with parts := e.parts.filter (fun p => p.from_ != k) ++ [new] }

/-- A whole segment. -/
def CollStep.part (e : CollStep) (k : Nat) : Option CollPart := e.parts.find? fun p => p.from_ == k && p.last

/-- Keys of parts: a participant's index, a child's partial result by port, and what comes down from the root. -/
def childKey (port : Nat) : Nat := 65536 + port
def downKey (part : Nat) : Nat := 131072 + part

/-! ### Results (R397, R399) -/

/-- The writes of a result, given in pieces with their poison, at an offset, up to a length: offset, bytes and poison of each. -/
def resultPuts (dst max_ : Nat) : Nat → List (List Byte × Bool) → List (Nat × List Byte × Bool)
  | _, [] => []
  | o, x :: t =>
    let d := x.1.take (max_ - o)
    (if d.isEmpty then [] else [(dst + o, d, x.2)]) ++ resultPuts dst max_ (o + x.1.length) t

/-- The first address of a range of loom n's window that the collective engine does not reach, with its status (R31, R33, R534): the loom
is benched, or the range goes on beyond the scratchpad. -/
def State.collBad (s : State) (n off len : Nat) : Option (Nat × Nat) :=
  if len = 0 then none
  else if s.is (LOOM_STATUS_BENCHED n) then some (lwin n + off, 2)
  else if off + len ≤ spadSize n then none
  else
    let x := lwin n + max off (spadSize n)
    some (x, s.outStatus x)

/-- The record of an access of the collective engine that is not OK (R31). -/
def State.collRecord (s : State) (n off len : Nat) : State :=
  match s.collBad n off len with
  | some b => s.refusedAt .collective 0 b.1 b.2
  | none => s

/-- A write of the collective engine that reaches the loom's port: what lies in the scratchpad of a loom in service (R31, R534). -/
def State.collPuts (s : State) (n : Nat) (puts : List (Nat × List Byte × Bool)) : List (Nat × List Byte × Bool) :=
  if s.is (LOOM_STATUS_BENCHED n) then []
  else (puts.map fun x => (x.1, x.2.1.take (spadSize n - x.1), x.2.2)).filter fun x => !x.2.1.isEmpty

/-- Write a result, in pieces with their poison, at DST_OFF of loom n, up to MAXLEN, through the loom's NC port, in the order of its FIFO
(R26, R33, R255). The WAIT ends with the last write; where none reaches the port it ends at once. -/
def State.collWrite (s : State) (c n : Nat) (l : List (List Byte × Bool)) : State :=
  let puts := resultPuts (s.get (FAB_COLL_DST_OFF c)) (s.get (FAB_COLL_MAXLEN c)) 0 l
  let s := puts.foldl (fun s x => s.collRecord n x.1 x.2.1.length) s
  let puts := s.collPuts n puts
  if puts.isEmpty then s.resultIn n c
  else ((List.range puts.length).zip puts).foldl (fun s x => s.enqueue n
    { kind := .result c (x.1 + 1 == puts.length), off := x.2.1, len := x.2.2.1.length, data := x.2.2.1, poison := x.2.2.2, tenant := 0
      req := .collective, tag := none }) s

/-- The result is longer than MAXLEN (R399). -/
def State.collTrunc (s : State) (c : Nat) (l : List (List Byte × Bool)) : State :=
  if s.get (FAB_COLL_MAXLEN c) < (l.map fun x => x.1.length).sum then
    (s.set FAB_ERR_COLL_TRUNC 1).report (mkRec 15 0 0x102 4 none 0 0 [])
  else s

/-- A directory of lengths, padded to 64 bytes, and the segments, each padded (R399). -/
def collList (segs : List (List Byte × Bool)) : List (List Byte × Bool) :=
  let dir := segs.flatMap fun x => leBytes 4 x.1.length
  (slice dir 0 (ceil64 dir.length), false) :: segs.map fun x => (slice x.1 0 (ceil64 x.1.length), x.2)

/-- The segment for destination j of an ALLTOALL source of npart entries. -/
def a2aSeg (npart j : Nat) (l : List Byte) : List Byte :=
  let len (k : Nat) : Nat := leAt l (4 * k) 4
  let off := ceil64 (4 * npart) + ((List.range j).map fun k => ceil64 (len k)).sum
  slice l off (len j)

/-- The collective completes: the results are written and each participant's WAIT ends. -/
def State.collDone (s : State) (c step : Nat) (result : Nat → List (List Byte × Bool)) : State :=
  ((s.collLooms c).foldl (fun s n => (s.collWrite c n (result n)).collTrunc c (result n)) s).dropStep c step

/-- What loom n gets of an ALLGATHER or an ALLTOALL whose segments are given in index order. -/
def State.collResult (s : State) (c : Nat) (segs : List (List Byte × Bool)) (n : Nat) : List (List Byte × Bool) :=
  if s.get (FAB_COLL_OP c) = 1 then collList segs
  else collList (segs.map fun x => (a2aSeg (s.get (FAB_COLL_NPART c)) (s.collIndex c n) x.1, x.2))

/-- An ALLREDUCE whose local participants and children have all contributed goes up, or comes down from the root (R398). -/
def State.tryReduce (s : State) (c step : Nat) : State :=
  let e := s.collStep c step
  let dtype := s.get (FAB_COLL_DTYPE c)
  let red := s.get (FAB_COLL_RED c)
  let own := (s.collLooms c).map fun n => e.part (s.collIndex c n)
  let kids := (s.collChildren c).map fun p => e.part (childKey p)
  if e.sentUp || (own ++ kids).any Option.isNone then s
  else
    let own := own.filterMap id
    let kids := kids.filterMap id
    let lists := own.map (fun p => ownElems dtype red p.data) ++ kids.map fun p => elems (partSize dtype red) p.data
    let poison := (own ++ kids).any fun p => p.poison
    let r := match lists with | [] => [] | h :: t => t.foldl (collZip dtype red) h
    let s := if lists.any (collNan dtype red) then s.set FAB_ERR_COLL_NAN 1 else s
    if s.collRoot c then
      let out := if dtype = 2 && red = 0 then r.flatMap fun x => leBytes 2 (f32ToBf16 x) else r.flatMap (leBytes (elemSize dtype))
      let s := (s.collChildren c).foldl (fun s p => s.collSend c step 1 0 p out poison) s
      s.collDone c step fun _ => [(out, poison)]
    else
      (s.putColl c { e with sentUp := true }).collSend c step 0 (s.get (FAB_COLL_PART0 c)) (s.get (FAB_COLL_PARENT c))
        (r.flatMap (leBytes (partSize dtype red))) poison

/-- At the root, an ALLGATHER or ALLTOALL that has every segment goes down to every child (R397). -/
def State.tryGather (s : State) (c step : Nat) : State :=
  let e := s.collStep c step
  let phase := if s.get (FAB_COLL_OP c) = 2 then 2 else 1
  let segs := (List.range (s.get (FAB_COLL_NPART c))).map e.part
  if segs.any Option.isNone then s
  else
    let segs := (segs.filterMap id).map fun p => (p.data, p.poison)
    let s := (s.collChildren c).foldl (fun s p =>
      ((List.range segs.length).zip segs).foldl (fun s x => s.collSend c step phase x.1 p x.2.1 x.2.2) s) s
    s.collDone c step (s.collResult c segs)

/-- A local participant contributes its segment. -/
def State.contribute (s : State) (c step n : Nat) (data : List Byte) (poison : Bool) : State :=
  let i := s.collIndex c n
  let e := s.collStep c step
  let s := s.putColl c { e.take i data.length 0 data poison true with joined := e.joined ++ [n] }
  if s.get (FAB_COLL_OP c) = 0 then s.tryReduce c step
  else if s.collRoot c then s.tryGather c step
  else s.collSend c step (if s.get (FAB_COLL_OP c) = 2 then 2 else 0) i (s.get (FAB_COLL_PARENT c)) data poison

/-- The NC port serves the collective engine's read of loom n's source segment, and the loom contributes it (R33, R397); a read whose step
has ended meanwhile goes nowhere (R400). -/
def State.collServe (s : State) (n c step : Nat) (i : Inbound) : State :=
  if step != s.stepOf n || (match (s.lm n).seq.pause with | some p => p.kind != .coll c false | none => true) then s
  else
    ((s.collRecord n i.off i.len).countPoison n [(i.off, i.len)]).contribute c step n (s.spRead n i.off i.len)
      (s.spPoisoned n i.off i.len || s.is (LOOM_STATUS_BENCHED n))

/-- WAIT_COLL (R397): the loom joins, its source segment, whose length is fixed now, is read through its NC port, and it pauses until the
result. A collective of which the loom is no
participant gives it nothing to wait for until the step is aborted. -/
def execWaitColl (n : LoomNo) (s : State) : Host.Outcome State Fault Refusal :=
  .next <| s.issue n 0 6 fun w =>
    if w.arg % 16 != 1 then s
    else if s.is (GRD_STATUS_SPAN_OPEN n) then s.xferFault n 0
    else if s.is (LOOM_STATUS_PEER_FAULT n) then s.stopSeq n
    else
      let c := bits w.arg 8 8
      let t := (s.advance n w).beginPause n (.coll c false) w.budget w.slack
      if !t.collHas c n then t
      else
        t.enqueue n { kind := .source c (t.stepOf n), off := t.get (FAB_COLL_SRC_OFF c), len := t.collLen c n, data := [], poison := false
                      tenant := 0, req := .collective, tag := none }

/-! ### COLL messages (R397, R400) -/

/-- The step lies in the window of the collective: its participants' latched step, or the next one (R400). -/
def State.collFresh (s : State) (c step : Nat) : Bool :=
  match s.collLooms c with
  | [] => true
  | n :: _ => step == s.stepOf n || step == (s.stepOf n + 1) % 2 ^ 32

/-- A body header on which the engine does not act (R6, R7): its level, a phase that R397 does not name, or a reserved field (log 48). -/
def collHdrBad (l : List Byte) : Bool :=
  leAt l 16 1 % 16 != 2 || 32 ≤ leAt l 16 1 || 2 < leAt l 1 1 || !allZero (slice l 17 15) || l.length < 32

/-- COLL (R397): combined toward the root, or written down. A message whose header R6 or R7 refuses is recorded. -/
def execColl (s : State) : Host.Outcome State Fault Refusal :=
  .next <|
    match s.firstIn (isMsg 0x30 none) with
    | none => s
    | some i =>
      let s := s.takeIn i
      let l := i.pkt.payload
      let c := leAt l 0 1
      let part := leAt l 2 2
      let step := leAt l 4 4
      let off := leAt l 8 4
      let total := leAt l 12 4
      let last := bitOf (leAt l 16 1) 4
      let d := l.drop 32
      let up := bitOf (s.get (FAB_COLL_CHILDREN c)) i.port && i.port < 6
      let down := i.port == s.get (FAB_COLL_PARENT c) && !s.collRoot c
      let s := (s.collLooms c).foldl (fun s n => s.noteRty n i.pkt.rty) s
      if collHdrBad l then s.report (mkRec 15 0 0x201 2 none step 0 [])
      else if !s.is (FAB_COLL_VALID c) || !(up || down) || !s.collFresh c step then s.add FAB_CNT_COLL_STALE_N 1
      else
        let e := s.collStep c step
        let relay (s : State) (p : Nat) : State :=
          s.send { s.msg (s.neighbour p) (s.get (FAB_COLL_CLASS c)) 0x30 l with poison := i.pkt.poison, rty := i.pkt.rty }
        if s.get (FAB_COLL_OP c) = 0 then
          if up then (s.putColl c (e.take (childKey i.port) total off d i.pkt.poison last)).tryReduce c step
          else
            let e := e.take (downKey 0) total off d i.pkt.poison last
            let s := (s.collChildren c).foldl relay (s.putColl c e)
            match e.part (downKey 0) with
            | some p => s.collDone c step fun _ => [(p.data, p.poison)]
            | none => s
        else if up then
          if s.collRoot c then (s.putColl c (e.take part total off d i.pkt.poison last)).tryGather c step
          else relay s (s.get (FAB_COLL_PARENT c))
        else
          let e := e.take (downKey part) total off d i.pkt.poison last
          let s := (s.collChildren c).foldl relay (s.putColl c e)
          let segs := (List.range (s.get (FAB_COLL_NPART c))).map fun j => e.part (downKey j)
          if segs.any Option.isNone then s
          else s.collDone c step (s.collResult c ((segs.filterMap id).map fun p => (p.data, p.poison)))

end Sys2Proof.Machine
end

