-- ==== Sys2Proof/Machine/Ethernet.lean ====
section
/-! DEFINITION. The host-core mailbox and the Ethernet personality (R403 to R406, R409). -/
namespace Sys2Proof.Machine

/-! ### HOSTMSG (R406) -/

/-- Entries of the mailbox ring; other sizes disable it (R407). -/
def State.mbxSize (s : State) : Nat :=
  let n := s.get FAB_MBX_SIZE_ENTRIES
  if 16 ≤ n && n ≤ 4096 && n == 2 ^ Nat.log2 n then n else 0

/-- The 64-byte header of a mailbox entry. -/
def mbxHeader (k : Packet) : List Byte :=
  leBytes 2 k.src ++ leBytes 2 k.tenant ++ leBytes 2 k.payload.length ++ leBytes 58 2

/-- HOSTMSG (R406): written to the ring, or dropped where it is full, is disabled, or the message is too long for an entry. -/
def execHostmsg (s : State) : Host.Outcome State Fault Refusal :=
  .next <|
    match s.firstIn (isMsg 0x50 none) with
    | none => s
    | some i =>
      let s := s.takeIn i
      let n := s.mbxSize
      let tail := s.get FAB_MBX_TAIL_TAIL
      let answer (s : State) (st : Nat) : State := if i.pkt.ackreq then s.send (s.respond i.pkt 3 st [] false) else s
      if n = 0 || (tail + 1) % n = s.get FAB_MBX_HEAD_HEAD || 4032 < i.pkt.payload.length then answer (s.add FAB_CNT_MBX_DROP_N 1) 6
      else
        answer ((s.devWrite (s.get FAB_MBX_BASE_ADDR + 4096 * tail) (mbxHeader i.pkt ++ i.pkt.payload) i.pkt.poison).set
          FAB_MBX_TAIL_TAIL ((tail + 1) % n)) 0

/-! ### Ethernet ports (R403, R409) -/

/-- Ethernet port e belongs to a port with the ETH personality that is not benched (R467). -/
def State.isEth (s : State) (e : Nat) : Bool := s.get (FAB_P_ID_PERS (e / 3)) == 2 && !bitOf s.mgmt.outPorts (e / 3)

/-- Ethernet port e carries frames. -/
def State.ethUp (s : State) (e : Nat) : Bool := s.isEth e && s.is (ETH_CTL_EN e) && s.is (ETH_STATUS_LINK e)

/-- The domain of an ETH port is ON while any of its three EN bits is 1 (R487). -/
def State.ethDomain (s : State) (p : Nat) : State :=
  if s.get (FAB_P_ID_PERS p) != 2 then s
  else s.set (PWR_DOM_STATE (156 + p))
    (if !bitOf s.mgmt.outPorts p && (List.range 3).any fun k => s.is (ETH_CTL_EN (3 * p + k)) then 3 else 0)

/-- MAXFRAME of port e (R409): values other than 64 to 9,216 read as 1,518, and stay in the field as they were written. -/
def State.maxFrame (s : State) (e : Nat) : Nat :=
  let v := s.get (ETH_CTL_MAXFRAME e)
  if 64 ≤ v && v ≤ 9216 then v else 1518

/-- ETH_CTL of port e takes a value (R409). -/
def State.ethCtl (s : State) (e v : Nat) : State :=
  if s.get (FAB_P_ID_PERS (e / 3)) = 1 then s
  else
    let s := ((s.set (ETH_CTL_EN e) (bits v 0 1)).set (ETH_CTL_PMD e) (bits v 1 2)).set (ETH_CTL_AN e) (bits v 3 1)
    let s := (s.set (ETH_CTL_PFC_EN e) (bits v 4 1)).set (ETH_CTL_MAXFRAME e) (bits v 16 14)
    (if bitOf v 0 then s else s.clearAll [ETH_STATUS_LINK e, ETH_STATUS_FEC_LOCK e, ETH_STATUS_AN_DONE e]).ethDomain (e / 3)

/-- ETH_CTL_WRITE (R409). -/
def execEthCtlWrite (e : EthNo) (value : Nat) (s : State) : Host.Outcome State Fault Refusal := .next (s.ethCtl e value)

/-- ETH_LINK_UP (R403): auto-negotiation runs for KR4 and CR4 where AN asks for it. -/
def execEthLinkUp (e : EthNo) (s : State) : Host.Outcome State Fault Refusal :=
  .next <|
    if !s.isEth e || !s.is (ETH_CTL_EN e) then s
    else ((s.set (ETH_STATUS_LINK e) 1).set (ETH_STATUS_FEC_LOCK e) 1).set (ETH_STATUS_AN_DONE e)
      (b2n (s.is (ETH_CTL_AN e) && s.get (ETH_CTL_PMD e) != 2))

/-- ETH_LINK_LOSS (R403). -/
def execEthLinkLoss (e : EthNo) (s : State) : Host.Outcome State Fault Refusal :=
  .next (s.clearAll [ETH_STATUS_LINK e, ETH_STATUS_FEC_LOCK e])

/-! ### Descriptors (R404) -/

/-- A ring of this size runs. -/
def ethRingOk (n : Nat) : Bool := 64 ≤ n && n ≤ 32768 && n == 2 ^ Nat.log2 n

/-- A posted descriptor is refused under R6 or R7. -/
def descRefused (r : RdData) : Bool :=
  r.status != 0 || r.pois.any id || leAt r.data 11 1 != 2 || leAt r.data 10 1 / 8 != 0 || leAt r.data 12 4 != 0 || leAt r.data 24 8 != 0

/-- Complete a descriptor: the length, the timestamp, ARCH_LEVEL, ERR, and DONE last. -/
def State.descDone (s : State) (a len : Nat) (flags : Nat) (time : Option Nat) : State :=
  let s := s.devWrite (a + 8) (leBytes 2 len ++ [BitVec.ofNat 8 flags, 2]) false
  let s := match time with | some t => s.devWrite (a + 16) (leBytes 8 t) false | none => s
  s.devWrite (a + 10) [BitVec.ofNat 8 (flags + 1)] false

/-- Put a frame into the receive ring, past refused descriptors, on fuel. -/
def State.ethDeliver (s : State) (e : Nat) (frame : List Byte) (time : Nat) : Nat → State
  | 0 => s
  | k + 1 =>
    let n := s.get (ETH_RX_RING_SIZE e)
    let tail := s.get (ETH_RX_RING_TAIL e)
    if !ethRingOk n || (tail + 1) % n = s.get (ETH_RX_RING_HEAD e) then s.add (ETH_CNT_RX_DROP_N e) 1
    else
      let a := s.get (ETH_RX_BASE_ADDR e) + 32 * tail
      let (r, s) := s.devFetch a 32
      let flags := leAt r.data 10 1 % 4 / 2 * 2
      let s := s.set (ETH_RX_RING_TAIL e) ((tail + 1) % n)
      if descRefused r then (s.descDone a 0 (flags + 4) none).ethDeliver e frame time k
      else (s.devWrite (leAt r.data 0 8) frame false).descDone a frame.length flags (some time)

/-! ### Frames (R403 to R405) -/

/-- A frame with its FCS. -/
def withFcs (l : List Byte) : List Byte := l ++ leBytes 4 (crc32 l)

/-- EtherType of a frame and the two bytes after it. -/
def etherType (l : List Byte) : Nat := beNat (slice l 12 2)
def macOpcode (l : List Byte) : Nat := beNat (slice l 14 2)

/-- The priority of a frame: of its IEEE 802.1Q tag, else 0. -/
def framePrio (l : List Byte) : Nat := if etherType l = 0x8100 then beNat (slice l 14 2) / 8192 else 0

/-- Priority-based flow control pauses priorities: 512 bit times to a quantum, 0.64 ns at 800 Gb/s, 16 units of FAB_EPOCH to five quanta. -/
def State.pfcPause (s : State) (e : Nat) (l : List Byte) : State :=
  let en := beNat (slice l 16 2)
  { s with pfc := (List.range 8).foldl (fun m k =>
      if bitOf en k then tput 0 m (8 * e + k) (s.now + ceilDiv (16 * beNat (slice l (18 + 2 * k) 2)) 5) else m) s.pfc }

/-- Port e must not send a frame of this priority now. -/
def State.pfcPaused (s : State) (e prio : Nat) : Bool := s.is (ETH_CTL_PFC_EN e) && decide (s.now < tget 0 s.pfc (8 * e + prio))

/-- The entry of the forwarding table that a frame matches (R405). -/
def State.ethMatch (s : State) (l : List Byte) : Option Nat :=
  (List.range 256).find? fun i => s.is (FAB_ETH_FWD_VALID i) && s.get (FAB_ETH_FWD_MAC i) == leAt l 0 6

/-- A frame leaves port e (R403). -/
def State.ethSend (s : State) (e : Nat) (l : List Byte) : State :=
  (s.add (ETH_CNT_TX_FRAMES_N e) 1).modFab fun f => { f with frameOut := some (e, withFcs (slice l 0 (max 60 l.length))) }

/-- A priority-based flow control frame of IEEE 802.1Q: the station's address, the class-enable vector and the eight pause times (R403). -/
def State.pfcFrame (s : State) (e en times : Nat) : List Byte :=
  [0x01, 0x80, 0xC2, 0x00, 0x00, 0x01] ++ leBytes 6 (s.get (ETH_MAC_MAC e)) ++ [0x88, 0x08, 0x01, 0x01] ++ [0, BitVec.ofNat 8 en]
    ++ (leBytes 16 times)

/-- Port e may send a priority-based flow control frame after a frame has come (R403). DESIGN CHOICE (log 109): the spec has the device send
them where PFC_EN is 1 and says neither when nor which; whether it sends one now, its vector and its times are free. -/
def State.pfcSend (s : State) (e : Nat) : State :=
  if !s.is (ETH_CTL_PFC_EN e) then s
  else
    let v := s.freeBits 137
    if bitOf v 0 then s.takeFree.ethSend e (s.pfcFrame e (bits v 1 8) (bits v 9 128)) else s.takeFree

/-- ETH_FRAME_RX (R403, R405): a frame with its FCS arrives, with the codewords that the FEC corrected and those that it could not. -/
def execEthFrameRx (e : EthNo) (frame : List Byte) (fecCorr fecBad : Nat) (s : State) : Host.Outcome State Fault Refusal :=
  .next <| s.orWait (.ethFrameRx e frame fecCorr fecBad) fun s =>
    if !s.ethUp e then s
    else
      let s := (s.add (ETH_CNT_FEC_CORR_N e) fecCorr).add (ETH_CNT_FEC_UNCORR_N e) fecBad
      let l := frame.take (frame.length - 4)
      if frame.length < 64 || s.maxFrame e < frame.length then s
      else if leAt frame (frame.length - 4) 4 != crc32 l then s.add (ETH_CNT_RX_FCS_N e) 1
      else
        let s := s.add (ETH_CNT_RX_FRAMES_N e) 1
        if etherType l = 0x8808 && macOpcode l = 1 then s.add (ETH_CNT_RX_PAUSE_N e) 1
        else if etherType l = 0x8808 && macOpcode l = 0x101 then (if s.is (ETH_CTL_PFC_EN e) then s.pfcPause e l else s)
        else match s.ethMatch l with
          | some i =>
            if s.is (FAB_ETH_FWD_LOCAL i) then (s.ethDeliver e l s.epoch (s.get (ETH_RX_RING_SIZE e) + 1)).pfcSend e
            else if 4096 < l.length then s.add (ETH_CNT_TUN_DROP_N e) 1
            else
              (s.add (ETH_CNT_TUN_TX_N e) 1).send { ptype := 7, cls := 2, len := l.length, dst := s.get (FAB_ETH_FWD_CHIP i), src := s.chip
                                                    tag := s.get (FAB_ETH_FWD_ETHPORT i), payload := l }
          | none => (s.ethDeliver e l s.epoch (s.get (ETH_RX_RING_SIZE e) + 1)).pfcSend e

/-- ETH_FRAME_TX (R404): the next transmit descriptor; a frame that may not be sent (refused descriptor, too long, poisoned) ends with ERR. -/
def execEthFrameTx (e : EthNo) (s : State) : Host.Outcome State Fault Refusal :=
  .next <| s.orWait (.ethFrameTx e) fun s =>
    let n := s.get (ETH_TX_RING_SIZE e)
    let head := s.get (ETH_TX_RING_HEAD e)
    if !s.ethUp e || !ethRingOk n || head = s.get (ETH_TX_RING_TAIL e) % n then s
    else
      let a := s.get (ETH_TX_BASE_ADDR e) + 32 * head
      let (r, t) := s.devFetch a 32
      let flags := leAt r.data 10 1 % 4 / 2 * 2
      let t := t.set (ETH_TX_RING_HEAD e) ((head + 1) % n)
      if descRefused r then t.descDone a 0 (flags + 4) none
      else
        let len := leAt r.data 8 2
        let (f, t) := t.devFetch (leAt r.data 0 8) len
        if f.status = 0 && s.pfcPaused e (framePrio f.data) then s
        else if f.status != 0 || f.pois.any id || s.maxFrame e < len + 4 then t.descDone a len (flags + 4) (some s.epoch)
        else (t.ethSend e f.data).descDone a len flags (some s.epoch)

/-- ETH_PACKET (R405): a tunnelled frame leaves the port that its TAG names. -/
def execEthPacket (s : State) : Host.Outcome State Fault Refusal :=
  .next <|
    match s.firstIn fun i => i.pkt.ptype == 7 with
    | none => s
    | some i =>
      let e := i.pkt.tag % 32
      let l := i.pkt.payload
      if 18 ≤ e then s.takeIn i
      else if !s.ethUp e || i.pkt.poison || s.maxFrame e < l.length + 4 then (s.takeIn i).add (ETH_CNT_TUN_DROP_N e) 1
      else if s.pfcPaused e (framePrio l) then s
      else (s.takeIn i).ethSend e l

end Sys2Proof.Machine
end

