-- ==== Sys2Proof/Machine/Signatures.lean ====
section
/-! DEFINITION. Signature checks: RSASSA-PSS of RFC 8017 with SHA-384, MGF1 with SHA-384 and a 48-byte salt, and SLH-DSA-SHA2-192s of
FIPS 205 with an empty context (R416). The spec names the two standards and gives no algorithm: PRESUMED from the standards (log 20). -/
namespace Sys2Proof.Machine

/-! ### SHA-256 and SHA-512 -/

/-- SHA-512 of a byte string: 64 bytes. -/
def sha512 (m : List Byte) : List Byte :=
  let n := m.length
  let k := (n + 17 + 127) / 128
  let pad := m ++ [0x80] ++ List.replicate (128 * k - n - 17) 0 ++ (leBytes 16 (8 * n)).reverse
  let init := (somePrimes.take 8).map fun p => rootBits 2 (p * 2 ^ 128) 70 0 % 2 ^ 64
  ((shaBlocks k pad).foldl shaBlock init).flatMap fun w => (leBytes 8 w).reverse

/-- Rotate a 32-bit word right. -/
def rotr32 (n x : Nat) : Nat := x / 2 ^ n + x % 2 ^ n * 2 ^ (32 - n)

/-- The round constants of SHA-256: the first 32 fraction bits of the same cube roots. -/
def sha256K : List Nat := (shaK.take 64).map (· / 2 ^ 32)

/-- The message schedule of SHA-256 on fuel, newest word first. -/
def sha256Schedule : Nat → List Nat → List Nat
  | 0, ws => ws
  | k + 1, ws =>
    let a := ws.getD 14 0
    let b := ws.getD 1 0
    let s0 := rotr32 7 a ^^^ rotr32 18 a ^^^ (a / 2 ^ 3)
    let s1 := rotr32 17 b ^^^ rotr32 19 b ^^^ (b / 2 ^ 10)
    sha256Schedule k ((ws.getD 15 0 + s0 + ws.getD 6 0 + s1) % 2 ^ 32 :: ws)

/-- One round of SHA-256. -/
def sha256Round (h : List Nat) (kw : Nat) : List Nat :=
  match h with
  | [a, b, c, d, e, f, g, x] =>
    let s1 := rotr32 6 e ^^^ rotr32 11 e ^^^ rotr32 25 e
    let ch := (e &&& f) ^^^ ((2 ^ 32 - 1 - e) &&& g)
    let t1 := x + s1 + ch + kw
    let s0 := rotr32 2 a ^^^ rotr32 13 a ^^^ rotr32 22 a
    let maj := (a &&& b) ^^^ (a &&& c) ^^^ (b &&& c)
    [(t1 + s0 + maj) % 2 ^ 32, a, b, c, (d + t1) % 2 ^ 32, e, f, g]
  | _ => h

/-- The padded message as blocks of sixteen 32-bit words. -/
def sha256Blocks : Nat → List Byte → List (List Nat)
  | 0, _ => []
  | k + 1, l => ((List.range 16).map fun i => beNat ((l.drop (4 * i)).take 4)) :: sha256Blocks k (l.drop 64)

/-- SHA-256 of a byte string: 32 bytes. -/
def sha256 (m : List Byte) : List Byte :=
  let n := m.length
  let k := (n + 9 + 63) / 64
  let pad := m ++ [0x80] ++ List.replicate (64 * k - n - 9) 0 ++ (leBytes 8 (8 * n)).reverse
  let init := (somePrimes.take 8).map fun p => rootBits 2 (p * 2 ^ 128) 70 0 % 2 ^ 64 / 2 ^ 32
  let step (h : List Nat) (ws : List Nat) : List Nat :=
    List.zipWith (fun a b => (a + b) % 2 ^ 32) h
      ((List.zipWith (· + ·) sha256K (sha256Schedule 48 ws.reverse).reverse).foldl sha256Round h)
  ((sha256Blocks k pad).foldl step init).flatMap fun w => (leBytes 4 w).reverse

/-! ### RSASSA-PSS (RFC 8017) -/

/-- A number as n octets, most significant first. -/
def beBytes (n v : Nat) : List Byte := (leBytes n v).reverse

/-- MGF1: n octets from a seed. -/
def mgf1 (hash : List Byte → List Byte) (hlen : Nat) (seed : List Byte) (n : Nat) : List Byte :=
  ((List.range (ceilDiv n hlen)).flatMap fun c => hash (seed ++ beBytes 4 c)).take n

/-- Exclusive or of two strings of equal length. -/
def xorList (a b : List Byte) : List Byte := List.zipWith (· ^^^ ·) a b

/-- s ^ 65,537 mod n by sixteen squarings. -/
def rsaPower (s n : Nat) : Nat :=
  s * ((List.range 16).foldl (fun x _ => x * x % n) s) % n

/-- EMSA-PSS-VERIFY of a SHA-384 digest of the message with an encoded message of emBits bits. -/
def pssVerify (emBits : Nat) (digest em : List Byte) : Bool :=
  let emLen := em.length
  let db := em.take (emLen - 49)
  let h := (em.drop (emLen - 49)).take 48
  let top := 8 * emLen - emBits
  let plain := xorList db (mgf1 sha384 48 h (emLen - 49))
  let plain := match plain with | [] => [] | b :: t => BitVec.ofNat 8 (b.toNat % 2 ^ (8 - top)) :: t
  let zeros := emLen - 98
  98 ≤ emLen && em.getLast? == some 0xBC && (em.getD 0 0).toNat / 2 ^ (8 - top) == 0
    && allZero (plain.take zeros) && plain.getD zeros 0 == 1
    && sha384 (List.replicate 8 0 ++ digest ++ plain.drop (zeros + 1)) == h

/-- The signature of a digest verifies under a modulus; both are octet strings (R416, R437). -/
def rsaVerify (modulus digest sig : List Byte) : Bool :=
  let n := beNat modulus
  let s := beNat sig
  let bitsN := Nat.log2 n + 1
  let emLen := ceilDiv (bitsN - 1) 8
  n != 0 && decide (s < n) && (let m := rsaPower s n; decide (m < 2 ^ (8 * emLen)) && pssVerify (bitsN - 1) digest (beBytes emLen m))

/-! ### SLH-DSA-SHA2-192s (FIPS 205) -/

/-- An address (ADRS) in its fields: layer, tree, type and the three last words. -/
structure SlhAdrs where
  layer : Nat := 0
  tree : Nat := 0
  type : Nat := 0
  w0 : Nat := 0
  w1 : Nat := 0
  w2 : Nat := 0

/-- The compressed address of 22 octets. -/
def SlhAdrs.bytes (a : SlhAdrs) : List Byte :=
  beBytes 1 a.layer ++ beBytes 8 a.tree ++ beBytes 1 a.type ++ beBytes 4 a.w0 ++ beBytes 4 a.w1 ++ beBytes 4 a.w2

/-- F: the hash of one 24-octet string. -/
def slhF (seed : List Byte) (a : SlhAdrs) (m : List Byte) : List Byte :=
  (sha256 (seed ++ List.replicate 40 0 ++ a.bytes ++ m)).take 24

/-- H and T: the hash of longer strings. -/
def slhT (seed : List Byte) (a : SlhAdrs) (m : List Byte) : List Byte :=
  (sha512 (seed ++ List.replicate 104 0 ++ a.bytes ++ m)).take 24

/-- Numbers of b bits each from an octet string, first bits first. -/
def base2b (l : List Byte) (b k : Nat) : List Nat :=
  let v := beNat l
  (List.range k).map fun i => bits v (8 * l.length - b * (i + 1)) b

/-- Octets i × 24 to i × 24 + 23. -/
def slhPart (l : List Byte) (i : Nat) : List Byte := (l.drop (24 * i)).take 24

/-- A hash chain from step i, k steps long. -/
def slhChain (seed : List Byte) (a : SlhAdrs) : Nat → Nat → List Byte → List Byte
  | 0, _, x => x
  | k + 1, i, x => slhChain seed a k (i + 1) (slhF seed { a with w2 := i } x)

/-- The WOTS+ public key that a signature of a 24-octet message gives; the address names layer, tree and key pair. -/
def wotsPk (seed : List Byte) (a : SlhAdrs) (sig m : List Byte) : List Byte :=
  let msg := base2b m 4 48
  let csum := (msg.map (15 - ·)).sum
  let digits := msg ++ base2b (beBytes 2 (csum * 16)) 4 3
  let ends := ((List.range 51).zip digits).flatMap fun e =>
    slhChain seed { a with type := 0, w1 := e.1 } (15 - e.2) e.2 (slhPart sig e.1)
  slhT seed { a with type := 1, w1 := 0, w2 := 0 } ends

/-- Climb a Merkle tree from a leaf: k levels from height h, the authentication path in auth. -/
def slhClimb (seed : List Byte) (a : SlhAdrs) : Nat → Nat → Nat → List Byte → List Byte → List Byte
  | 0, _, _, _, x => x
  | k + 1, h, idx, auth, x =>
    let a' : SlhAdrs := { a with w1 := h + 1, w2 := idx / 2 }
    let y := if idx % 2 = 0 then x ++ slhPart auth h else slhPart auth h ++ x
    slhClimb seed a k (h + 1) (idx / 2) auth (slhT seed a' y)

/-- The root of an XMSS tree that a signature gives. -/
def xmssRoot (seed : List Byte) (layer tree idx : Nat) (sig m : List Byte) : List Byte :=
  let leaf := wotsPk seed { layer, tree, w0 := idx } (sig.take 1224) m
  slhClimb seed { layer, tree, type := 2 } 9 0 idx (sig.drop 1224) leaf

/-- The root of the hypertree: k layers from a layer on. -/
def htRoot (seed : List Byte) : Nat → Nat → Nat → Nat → List Byte → List Byte → List Byte
  | 0, _, _, _, _, m => m
  | k + 1, layer, tree, idx, sig, m =>
    htRoot seed k (layer + 1) (tree / 512) (tree % 512) (sig.drop 1440) (xmssRoot seed layer tree idx (sig.take 1440) m)

/-- The FORS public key that a signature gives. -/
def forsPk (seed : List Byte) (tree idx : Nat) (sig md : List Byte) : List Byte :=
  let roots := ((List.range 17).zip (base2b md 14 17)).flatMap fun e =>
    let part := (sig.drop (360 * e.1)).take 360
    let a : SlhAdrs := { tree, type := 3, w0 := idx }
    let leaf := slhF seed { a with w2 := 16384 * e.1 + e.2 } (part.take 24)
    slhClimb seed a 14 0 (16384 * e.1 + e.2) (part.drop 24) leaf
  slhT seed { tree, type := 4, w0 := idx } roots

/-- The signature of a message verifies under a 48-octet public key with an empty context (R416). -/
def slhVerify (pk m sig : List Byte) : Bool :=
  let seed := pk.take 24
  let root := pk.drop 24
  let m' := [0, 0] ++ m
  let r := sig.take 24
  let d := mgf1 sha512 64 (r ++ seed ++ sha512 (r ++ seed ++ root ++ m')) 39
  let tree := beNat ((d.drop 30).take 7) % 2 ^ 54
  let idx := beNat (d.drop 37) % 512
  sig.length == 16224 && pk.length == 48
    && htRoot seed 7 0 tree idx (sig.drop 6144) (forsPk seed tree idx ((sig.drop 24).take 6120) (d.take 30)) == root

end Sys2Proof.Machine
end

