-- ==== Sys2Proof/Machine/Cert.lean ====
section
/-! DEFINITION. Certificate chains, signed objects and the device's own signatures (R415, R416, R436 to R439, R457 to R460). -/
namespace Sys2Proof.Machine

/-- The usages of a chain (R436): the bit of USAGE. -/
inductive Usage where
  | ingot | card | identity | operator
  deriving DecidableEq, Repr

/-- The USAGE bit of the last certificate (R437). -/
def Usage.bit : Usage → Nat | .ingot => 1 | .card => 2 | .identity => 3 | .operator => 4

/-- LIFECYCLE is OWNED (R436). -/
def State.owned (s : State) : Bool := s.get SEC_LIFECYCLE_STATE == 2

/-- The chain roots at the owner's fuses (R436). -/
def State.ownerRoot (s : State) (u : Usage) : Bool := (u == .card || u == .operator) && s.owned

/-- A root digest of the fuses: 48 bytes (R469). -/
def State.rootDigest (s : State) (k : Nat) : List Byte := leBytes 48 (s.get (SEC_ROOT_DIGEST k))

/-- The RSA root of a usage (R436). -/
def State.rsaRoot (s : State) (u : Usage) : List Byte := s.rootDigest (if s.ownerRoot u then 3 else 0)

/-- The SLH-DSA anchor of a usage (R436). -/
def State.slhAnchor (s : State) (u : Usage) : List Byte :=
  s.rootDigest (if s.ownerRoot u then 4 else if u = .identity then 2 else 1)

/-- The KEY_SVN counter of a usage's root (R436). -/
def State.keySvn (s : State) (u : Usage) : Nat := s.get (if s.ownerRoot u then SEC_FUSE_CNT_KEY_SVN_OWN else SEC_FUSE_CNT_KEY_SVN_MIO)

/-! ### Chains (R437, R438) -/

/-- The certificates of a chain. -/
def chainCerts (c : List Byte) : List (List Byte) :=
  (List.range (leAt c 0 1 / 16)).map fun i => slice c (64 + 1152 * i) 1152

/-- The last certificate. -/
def lastCert (c : List Byte) : List Byte := ((chainCerts c).getLast?).getD []

/-- The modulus and the SLH-DSA key of a certificate. -/
def certModulus (c : List Byte) : List Byte := slice c 64 384
def certSlhPk (c : List Byte) : List Byte := slice c 448 48

/-- A certificate passes R6 and R7. -/
def certOk (c : List Byte) : Bool :=
  leAt c 0 1 == 0x12 && leAt c 1 3 / 32 == 0 && allZero (slice c 16 48) && allZero (slice c 496 272)
    && (!bitOf (leAt c 1 1) 0 || allZero (certSlhPk c))

/-- Rule 1 of R438: the header, the certificates and the endorsement pass R6 and R7, and the length matches. -/
def chainForm (c : List Byte) : Bool :=
  let n := leAt c 0 1 / 16
  let e := leAt c 1 1
  leAt c 0 1 % 16 == 2 && 1 ≤ n && n ≤ 8 && e ≤ 1 && allZero (slice c 2 14) && (e == 1 || allZero (slice c 16 48))
    && c.length == 64 + 1152 * n + 16256 * e && (chainCerts c).all certOk
    && (e == 0 || allZero (slice c (64 + 1152 * n + 16224) 32))

/-- ISSUER_SIG of each certificate verifies under the modulus of the one before it. -/
def issuedBy : List Byte → List (List Byte) → Bool
  | _, [] => true
  | by_, c :: t => rsaVerify (certModulus by_) (sha384 (c.take 768)) (slice c 768 384) && issuedBy c t

/-- A chain verifies for a usage (R438). -/
def State.chainOk (s : State) (u : Usage) (c : List Byte) : Bool :=
  let certs := chainCerts c
  let root := certs.getD 0 []
  let last := lastCert c
  let endorse := bitOf (leAt c 1 1) 0
  chainForm c && sha384 (root.take 448) == s.rsaRoot u && issuedBy root certs
    && (certs.dropLast.all fun k => bitOf (leAt k 1 1) 0) && bitOf (leAt last 1 1) u.bit
    && (certs.all fun k => decide (s.keySvn u ≤ leAt k 4 4))
    && (if endorse then
          sha384 (slice c 16 48) == s.slhAnchor u
            && slhVerify (slice c 16 48) (sha384 (last.take 768)) (slice c (64 + 1152 * certs.length) 16224)
        else sha384 (certSlhPk last) == s.slhAnchor u)

/-- The security engine verifies a signed object (R439): 0 accepted, 1 the RSA signature, 2 the SLH-DSA signature, 3 the chain. -/
def State.verdict (s : State) (u : Usage) (chain m rsa slh : List Byte) : Nat :=
  let last := lastCert chain
  if !rsaVerify (certModulus last) m rsa then 1
  else if !slhVerify (certSlhPk last) m slh then 2
  else if !s.chainOk u chain then 3
  else 0

/-- A verification, counted (R469). -/
def State.verify (s : State) (u : Usage) (chain m rsa slh : List Byte) : Nat × State :=
  let v := s.verdict u chain m rsa slh
  let s := s.add SEC_CNT_VERIFY_N 1
  (v, if v = 0 then s else s.add SEC_CNT_VFAIL_N 1)

/-! ### Trailers (R415) -/

/-- The trailer of an image whose SIG_OFF and IMG_LEN are given: CERT_LEN. -/
def certLen (img : List Byte) (sigOff : Nat) : Nat := leAt img sigOff 4

/-- The lengths of the trailer are consistent (R415). -/
def trailerOk (img : List Byte) (sigOff len : Nat) : Bool :=
  let c := certLen img sigOff
  sigOff % 64 == 0 && c % 64 == 0 && leAt img (sigOff + 4) 4 == 384 && leAt img (sigOff + 8) 4 == 16224 && len == sigOff + 16672 + c
    && img.length == len

/-- The reserved bytes of the trailer are zero. -/
def trailerClean (img : List Byte) (sigOff : Nat) : Bool := allZero (slice img (sigOff + 12) 52)

/-- Verify a signed image (R416, R439). -/
def State.verifyImage (s : State) (u : Usage) (img : List Byte) (sigOff : Nat) : Nat × State :=
  let c := certLen img sigOff
  s.verify u (slice img (sigOff + 64) c) (sha384 (img.take sigOff)) (slice img (sigOff + 64 + c) 384) (slice img (sigOff + 448 + c) 16224)

/-! ### The device's identity (R457, R460) -/

/-- The identity chain that lies in the IDENTITY area: three certificates and an endorsement. Where it and the keys lie in the area is
the model's choice (log 126). -/
def State.identityChain (s : State) : List Byte := s.flashBytes flashIdentity 19776

/-- The identity keys, unwrapped under DEVICE_KEK (R457): the RSA key pair's modulus and private exponent and the SLH-DSA private key. An
area that was never written holds none. -/
def State.identityKeys (s : State) : Option (List Byte) :=
  let l := s.flashBytes (flashIdentity + 19776) 872
  if l.all fun b => b == 0xFF then none else (aesUnwrap (natBytes 32 s.mgmt.kek) (l.map BitVec.toNat)).map toBytes

/-- The identity keys unwrap. -/
def State.identityOk (s : State) : Bool := s.identityKeys.isSome

/-- The signature pair that the security engine makes of a digest. -/
def State.signPair (s : State) (m : List Byte) : List Byte :=
  let k := s.identityKeys.getD []
  slice (Config.rsaSign k m) 0 384 ++ slice (Config.slhSign k m) 0 16224

/-- The trailer that the device makes over bytes with its identity chain (R458). -/
def State.signTrailer (s : State) (l : List Byte) : List Byte :=
  leBytes 4 19776 ++ leBytes 4 384 ++ leBytes 4 16224 ++ List.replicate 52 0 ++ s.identityChain ++ s.signPair (sha384 l)

/-- A signature pair takes 15 ms and 200 ms (R460), in the units of FAB_EPOCH. -/
def signTime : Nat := 1075000000

/-- The pair is for an AUTH_PROOF. -/
def SignJob.isProof (j : SignJob) : Bool := match j with | .proof _ _ => true | _ => false

/-- The security engine takes the next pair: AUTH_PROOFs come before Assays (R460). -/
def State.signNext (s : State) : State :=
  if s.mgmt.signing.isSome then s
  else match (s.mgmt.signs.find? SignJob.isProof).or s.mgmt.signs.head? with
    | none => s
    | some j => s.modMgmt fun m => { m with signs := m.signs.erase j, signing := some (j, m.upTime + signTime) }

/-- A pair is asked for. -/
def State.sign (s : State) (j : SignJob) : State := (s.modMgmt fun m => { m with signs := m.signs ++ [j] }).signNext

/-- The pair under way is done with. -/
def State.signDone (s : State) : State := (s.modMgmt fun m => { m with signing := none }).signNext

end Sys2Proof.Machine
end

