-- ==== Sys2Proof/Machine/Operands.lean ====
section
/-! DEFINITION. Operand forms of the Bronze unit and the quantisers: elements in BF16 and FP32, block rows with their scales
and outlier side lists, and the functions that R178 bounds (R47 to R50, R61, R62, R67, R68, R178, R196, R198, R200, R201). -/
namespace Sys2Proof.Machine

/-! ### Elements -/

/-- Bytes of an element: FP32 4, BF16 2. -/
def eltSize (fp32 : Bool) : Nat := if fp32 then 4 else 2

/-- FP32 bits of n elements of a byte string (R53): BF16 widens exactly. -/
def elts (fp32 : Bool) (n : Nat) (l : List Byte) : List Nat :=
  (chunks (eltSize fp32) n l).map fun b => if fp32 then leNat b else leNat b * 65536

/-- n elements from a scratchpad address, as FP32 bits. -/
def State.spElts (s : State) (n a : Nat) (fp32 : Bool) (k : Nat) : List Nat := elts fp32 k (s.spRead n a (k * eltSize fp32))

/-! ### Quantised rows -/

/-- What a quantiser makes of an element: quantised in its block, listed as an outlier, or an outlier beyond a full list. -/
inductive EltKind where
  | block | listed | overflow
  deriving DecidableEq, Repr

/-- A finite element x with |x| > OUT_THR is an outlier (R200). -/
def isOutlier (thr : Nat) (v : FVal) : Bool :=
  match v, bf16Val thr with
  | .fin _ m e, .fin _ n f => cmpDy2 m e n f == .gt
  | _, _ => false

/-- Sort the elements of one segment: its first 128 outliers are listed (R68, R200). `k` outliers are listed already. -/
def sortElts (thr : Option Nat) : Nat → List FVal → List (FVal × EltKind)
  | _, [] => []
  | k, v :: t =>
    match thr with
    | none => (v, .block) :: sortElts thr k t
    | some h =>
      if isOutlier h v then (if k < 128 then (v, .listed) :: sortElts thr (k + 1) t else (v, .overflow) :: sortElts thr k t)
      else (v, .block) :: sortElts thr k t

/-- The magnitude that an element gives amax (R47): listed and non-finite elements give none. -/
def eltMag : FVal × EltKind → Nat × Int
  | (.fin _ m e, .block) => (m, e)
  | (.fin _ m e, .overflow) => (m, e)
  | _ => (0, 0)

/-- A block quantised under an exponent: codes and counts (R48, R49, R68, R201). -/
def quantBlock (fmt E : Nat) (b : List (FVal × EltKind)) : List Nat × Counts :=
  let q := b.map fun (v, k) => match k with
    | .listed => ((0 : Nat), ({ avals := 1 } : Counts))
    | .block => let e := quantElem fmt E v; (e.code, { asat := b2n e.sat, azero := b2n e.zero, avals := 1 })
    | .overflow => let e := quantElem fmt E v; (e.code, { asat := 1, azero := b2n e.zero, avals := 1 })
  (q.map Prod.fst, sumCounts (q.map Prod.snd))

/-- A quantised row: element bytes, scale bytes, outlier lists by segment, counts. -/
structure QRow where
  elems : List Byte
  scales : List Byte
  lists : List (List Byte)
  counts : Counts

/-- An outlier side list (R67): `seg` is the segment's number, with its elements. -/
def sideList (seg : Nat) (l : List (FVal × EltKind)) : List Byte :=
  let items := ((List.range l.length).zip l).filter fun e => e.2.2 == .listed
  let ovf := min 65535 (l.filter fun e => e.2 == .overflow).length
  let h := 2 + 256 * items.length + 65536 * ovf + 2 ^ 32 * l.length
  let body := leBytes 8 h ++ leBytes 4 (16384 * seg) ++ List.replicate 52 0
    ++ items.flatMap fun e => leBytes 2 e.1 ++ leBytes 2 (bf16Of e.2.1)
  body ++ List.replicate (576 - body.length) 0

/-- Quantise a row (R47 to R50, R62, R67, R68): `ex` is the recipe exponent, or none for the maximum-derived one; `thr` the
outlier threshold where the operation writes lists. -/
def quantRow (fmt : Nat) (ex : Option Nat) (thr : Option Nat) (vals : List FVal) : QRow :=
  let segs := (chunks 16384 (ceilDiv vals.length 16384) vals).map (sortElts thr 0)
  let blocks := chunks 32 (ceilDiv vals.length 32) segs.flatten
  let out := blocks.map fun b =>
    let E := match ex with
      | some e => if e = 255 then 254 else e
      | none => maxDerivedE fmt ((b.map eltMag).foldl maxMag (0, 0))
    let (codes, c) := quantBlock fmt E b
    let codes := codes ++ List.replicate (32 - codes.length) 0
    (E, (if fmt = 3 then codes.map (BitVec.ofNat 8) else packNibbles codes), c)
  { elems := out.flatMap fun o => o.2.1
    scales := out.map fun o => BitVec.ofNat 8 o.1
    lists := if thr.isNone then [] else ((List.range segs.length).zip segs).map fun e => sideList e.1 e.2
    counts := sumCounts (out.map fun o => o.2.2) }

/-- The format that a quantising word writes under a mode of the guard: INT8 in FALLBACK where the block carries the fallback flag
(R198). -/
def fmtUnder (mode : Nat) (b : Block) : Nat :=
  let f := bits b.hdr 4 4
  if bitOf b.hdr 10 && mode == 2 && (f = 1 || f = 2) then 3 else f

/-- The exponent rule of a quantising word under a mode of the guard (R196): maximum-derived in REPLAY and FALLBACK or under MAXDER,
else the recipe's. -/
def expUnder (mode : Nat) (b : Block) (e : Nat) : Option Nat :=
  if mode != 0 || bitOf b.hdr 11 then none else some (e % 256)

/-- The format that a quantising word writes when it issues now (R198). -/
def State.outFmt (s : State) (n : Nat) (b : Block) : Nat := fmtUnder (s.get (GRD_STATUS_MODE n)) b

/-- The exponent rule of a quantising word that issues now (R196). -/
def State.expRule (s : State) (n : Nat) (b : Block) (e : Nat) : Option Nat := expUnder (s.get (GRD_STATUS_MODE n)) b e

/-- A guarded span is open: what an operation that issues now counts, it counts for the span (R188). -/
def State.spanOpen (s : State) (n : Nat) : Bool := s.is (GRD_STATUS_SPAN_OPEN n)

/-- Element bytes of a row of L elements in a format (R62, R92). -/
def rowLen (fmt L : Nat) : Nat :=
  if fmt = 4 then 2 * L else if fmt = 5 then 4 * L else if fmt = 3 then 32 * ceilDiv L 32 else 16 * ceilDiv L 32

/-- Where a word writes its rows: element and scale planes, outlier lists. -/
structure OutPlan where
  fmt : Nat
  ex : Option Nat
  elem : Nat
  scale : Nat
  eStride : Nat
  sStride : Nat
  thr : Option Nat
  olist : Nat
  olStride : Nat
  /-- The operation issued in an open span (R188). -/
  span : Bool

/-- The scratchpad ranges that the plan writes for `rows` rows of L elements (R533). -/
def OutPlan.ranges (p : OutPlan) (rows L : Nat) : List (Nat × Nat) :=
  [rowsRange p.elem p.eStride rows (rowLen p.fmt L)]
    ++ (if p.fmt ≤ 3 then [rowsRange p.scale p.sStride rows (ceilDiv L 32)] else [])
    ++ (if p.fmt ≤ 3 && p.thr.isSome then [rowsRange p.olist p.olStride rows (576 * ceilDiv L 16384)] else [])

/-- Count NaN and Inf results written (R178). -/
def State.countSpecial (s : State) (n : Nat) (l : List Nat) : State :=
  (s.add (BRZ_CNT_NAN_NAN n) (l.countP isNan32)).add (BRZ_CNT_INF_INF n) (l.countP isInf32)

/-- Write row r of an output (R62, R92): exact or FP32 values, in the plan's format, poisoned where an input was (R512); the
guard counts nothing for a poisoned row. -/
def State.putOut (s : State) (n : Nat) (p : OutPlan) (r : Nat) (vals : List FVal) (poison : Bool) : State :=
  let ea := p.elem + r * p.eStride
  if p.fmt = 5 then
    let l := vals.map f32Of
    (s.spWrite n ea (l.flatMap (leBytes 4)) poison).countSpecial n l
  else if p.fmt = 4 then
    let l := vals.map bf16Of
    (s.spWrite n ea (l.flatMap (leBytes 2)) poison).countSpecial n (l.map (· * 65536))
  else
    let q := quantRow p.fmt p.ex p.thr vals
    let s := (s.spWrite n ea q.elems poison).spWrite n (p.scale + r * p.sStride) q.scales poison
    let s := ((List.range q.lists.length).zip q.lists).foldl (fun s e =>
      s.spWrite n (p.olist + r * p.olStride + 576 * e.1) e.2 poison) s
    if poison then s else s.guardAdd n p.span q.counts

/-! ### Functions that R178 bounds -/

/-- Square root of a natural, rounded down, on fuel: bits from the highest. -/
def isqrtBits : Nat → Nat → Nat → Nat
  | 0, _, r => r
  | k + 1, x, r => let t := r + 2 ^ k; isqrtBits k x (if t * t ≤ x then t else r)

/-- Square root of a natural, rounded down. -/
def isqrt (x : Nat) : Nat := isqrtBits (bitLen x / 2 + 1) x 0

/-- A result within k units in the last place of ± m × 2^e: the implementation's where it is within the bound, else the
correctly rounded one (R178). A result that rounds to zero or infinity is that. -/
def withinUlp (k : Nat) (cand : Nat) (neg : Bool) (m : Nat) (e : Int) : Nat :=
  let r := roundF32 neg m e
  match f32Val r, f32Val cand with
  | .fin _ rm re, .fin cn cm ce =>
    if rm = 0 || cm = 0 || cn != neg then r
    else
      let g := min e (min re ce)
      let d := scaled false cm ce g - scaled false m e g
      if d.natAbs ≤ k * pow2 (re - g) then cand % 2 ^ 32 else r
  | _, _ => r

/-- RECIP (R178). -/
def recip32 (x : Nat) : Nat :=
  match divVal (.fin false 1 0) (f32Val x) with
  | .fin neg m e => withinUlp 1 (Config.recip (BitVec.ofNat 32 x)).toNat neg m e
  | v => f32Of v

/-- RSQRT (R178). -/
def rsqrt32 (x : Nat) : Nat :=
  match f32Val x with
  | .nan => nan32
  | .inf neg => if neg then nan32 else 0
  | .fin neg m e =>
    if m = 0 then 0x7F800000
    else if neg then nan32
    else
      -- m × 2^e with e even: 1 / sqrt = sqrt(2^200 / m) × 2^(-100 - e/2)
      let (m, e) := if e % 2 = 0 then (m, e) else (2 * m, e - 1)
      let r := isqrt (2 ^ 200 / m)
      withinUlp 1 (Config.rsqrt (BitVec.ofNat 32 x)).toNat false (2 * r + 1) (-101 - e / 2)

/-- 2^(2^-k) in units of 2^-128, k from 1, on fuel. -/
def exp2Consts : Nat → Nat → List Nat
  | 0, _ => []
  | k + 1, c => let r := isqrt (c * 2 ^ 128); r :: exp2Consts k r

/-- The product of the constants that a fraction of 64 bits selects, highest bit first, in units of 2^-128. -/
def exp2Mul (f : Nat) : List Nat → Nat → Nat → Nat
  | [], _, acc => acc
  | c :: t, k, acc => exp2Mul f t (k - 1) (if f.testBit k then acc * c / 2 ^ 128 else acc)

/-- EXP2 (R178). -/
def exp2f (x : Nat) : Nat :=
  match f32Val x with
  | .nan => nan32
  | .inf neg => if neg then 0 else 0x7F800000
  | .fin neg m e =>
    let v := shiftFloor (if neg then -(m : Int) else m) (e + 64)
    let i := v.fdiv (2 ^ 64 : Nat)
    let f := (v - i * (2 ^ 64 : Nat)).toNat
    if i > 200 then 0x7F800000
    else if i < -200 then 0
    else withinUlp 2 (Config.exp2 (BitVec.ofNat 32 x)).toNat false (exp2Mul f (exp2Consts 64 (2 * 2 ^ 128)) 63 (2 ^ 128)) (i - 128)

/-- The first k fraction bits of log2 of y / 2^256, with y / 2^256 in [1, 2), by repeated squaring. -/
def log2Bits : Nat → Nat → Nat → Nat
  | 0, _, acc => acc
  | k + 1, y, acc =>
    let z := y * y / 2 ^ 256
    if 2 ^ 257 ≤ z then log2Bits k (z / 2) (2 * acc + 1) else log2Bits k z (2 * acc)

/-- LOG2 (R178). -/
def log2f (x : Nat) : Nat :=
  match f32Val x with
  | .nan => nan32
  | .inf neg => if neg then nan32 else 0x7F800000
  | .fin neg m e =>
    if m = 0 then 0xFF800000
    else if neg then nan32
    else
      let b := Nat.log2 m
      let f := log2Bits 100 (m * 2 ^ (256 - b)) 0
      let v : Int := (e + (b : Int)) * (2 ^ 100 : Nat) + (f : Int)
      if v = 0 then 0
      else withinUlp 2 (Config.log2 (BitVec.ofNat 32 x)).toNat (decide (v < 0)) v.natAbs (-100)

/-! ### Sums in sixteen partials (R177) -/

/-- Combine values pairwise, (0, 1), (2, 3) and so on, over k levels (R177). -/
def pairSum : Nat → List Nat → List Nat
  | 0, l => l
  | k + 1, l => pairSum k (pairUp l)
where
  pairUp : List Nat → List Nat
    | a :: b :: t => fadd a b :: pairUp t
    | l => l

/-- A sum under R177: term k enters partial k mod 16 by `step`, and the partials combine over four levels. -/
def sum16 {α : Type} (step : Nat → α → Nat) (l : List α) : Nat :=
  let ps := (List.range 16).map fun j =>
    (((List.range l.length).zip l).filter fun e => e.1 % 16 == j).foldl (fun p e => step p e.2) 0
  (pairSum 4 ps).getD 0 0

/-- A dot product (R177). -/
def dot16 (a b : List Nat) : Nat := sum16 (fun p ab => ffma ab.1 ab.2 p) (a.zip b)

/-! ### Page descriptors (R64) -/

/-- A page descriptor that is refused for its level or a reserved field (R6, R7, R64). -/
def pageRefused (d : List Byte) : Bool :=
  let h := leAt d 0 8
  bits h 0 4 != 2 || bits h 4 4 != 0 || bits h 12 4 != 0 || bits h 40 8 != 0 || bits h 58 6 != 0
    || bits (leAt d 8 4) 14 18 != 0 || !allZero (slice d 36 28)

/-- A page descriptor on whose contents an engine may not act: refused, or of the DH that R64 refuses. -/
def pageUnusable (d : List Byte) : Bool := pageRefused d || bits (leAt d 0 2) 8 2 == 3

end Sys2Proof.Machine
end

