-- ==== Sys2Proof/Machine/Shuttle.lean ====
section
/-! DEFINITION. The Shuttle: routing, scatter, tallies, returns, panel masks, audits, early exit and back-fill, and what lands at
a loom (R264 to R293). -/
namespace Sys2Proof.Machine

/-! ### Issue (R264 to R267) -/

/-- A Shuttle operation is under way (R295). -/
def State.shtStart (s : State) (n op : Nat) : State := (s.set (SHT_STATUS_OP n) op).set (SHT_STATUS_BUSY n) 1

/-- A value out of its range (R266). -/
def State.shtRange (s : State) (n : Nat) : State := s.engineFault n 8 (SHT_ERR_RANGE n)

/-- Issue a Shuttle word (R264 to R266): a misplaced or refused block is a Draft fault with cause PARAM, a Shuttle transfer inside a
span one with GRD_ERR.XFER (R189, R267), a value out of range one with SHT_ERR.RANGE, and a range beyond the scratchpad one with
PARAM (R533). -/
def State.shtIssue (s : State) (n op nslots : Nat) (ok : Block → Bool) (ranges : Block → List (Nat × Nat))
    (k : DWord → Block → State) : State :=
  s.issue n 8 op fun w =>
    let b := blockOf (s.blockBytes n w.arg)
    if s.blockMisplaced n w.arg || blockBad b 0 nslots then s.wordFault n 8 3
    else if s.is (GRD_STATUS_SPAN_OPEN n) && 1 ≤ op && op ≤ 3 then s.xferFault n 8
    else if !ok b then s.shtRange n
    else if !inSpad n (ranges b) then s.wordFault n 8 3
    else k w b

/-- T or ROWS is in range (R266). -/
def rowsOk (t : Nat) : Bool := 1 ≤ t && t ≤ 512
/-- H is in range (R266). -/
def hOk (h : Nat) : Bool := 32 ≤ h && h ≤ 16384 && h % 32 == 0
/-- Map entry i of loom n may be used (R266). -/
def State.mapOk (s : State) (n i : Nat) : Bool := decide (i < 2048) && s.is (SHT_EMAP_VALID n i)
/-- Queue q of loom n may be used (R266). -/
def State.queueOk (s : State) (n q : Nat) : Bool := decide (q < 224) && s.is (SHT_QUEUE_VALID n q)
/-- The queue that map entry m of loom n names may be used on every replica (R266, R271); of another device's the implementation knows
that it is (log 30). -/
def State.targetOk (s : State) (n m : Nat) : Bool :=
  s.get (SHT_EMAP_CHIP n m) != s.chip || (List.range (s.get (SHT_EMAP_REPL_M1 n m) + 1)).all fun r =>
    decide (s.get (SHT_EMAP_LOOM n m) + r < 144) && s.queueOk (s.get (SHT_EMAP_LOOM n m) + r) (s.get (SHT_EMAP_QUEUE n m))

/-! ### Tables (R271 to R273) -/

/-- Where a queue lies: QBASE, CAP, RSZ_64 and OVF_N, of this device's looms from their tables (R272), of other devices' as the
implementation knows them (log 30). -/
def State.queueShape (s : State) (chip loom q : Nat) : Nat × Nat × Nat × Nat :=
  if chip = s.chip then
    (s.get (SHT_QUEUE_QBASE loom q), s.get (SHT_QUEUE_CAP loom q), s.get (SHT_QUEUE_RSZ_64 loom q), s.get (SHT_QUEUE_OVF_N loom q))
  else
    let r := Config.remoteQueue chip loom q
    (r.1.toNat, r.2.1.toNat, r.2.2.1.toNat, r.2.2.2.toNat)

/-- Scratchpad address of a slot of a half of a queue (R272). -/
def slotAddr (shape : Nat × Nat × Nat × Nat) (half slot : Nat) : Nat :=
  shape.1 + (half * shape.2.1 + slot) * (64 * shape.2.2.1)

/-- The fabric address of an offset in loom m's window on a chip (R27, R30). -/
def loomAddr (chip m off : Nat) : Nat := chip * 2 ^ 50 + lwin m + off

/-! ### ROUTE (R268 to R270, R276, R277) -/

/-- The k highest-ranking of the experts, highest first (R268); `l` holds index and score bits, lower indices first. -/
def topExperts : Nat → List (Nat × Nat) → List (Nat × Nat)
  | 0, _ => []
  | k + 1, l =>
    match l with
    | [] => []
    | h :: t =>
      let best := t.foldl (fun b e => if f32Key b.2 < f32Key e.2 then e else b) h
      best :: topExperts k (l.filter fun e => e.1 != best.1)

/-- LOG2E (R269). -/
def log2e : Nat := 0x3FB8AA3B

/-- The unnormalised weight of a score (R269). -/
def gateTerm (zmax z : Nat) : Nat := if f32Val z = .inf true then 0 else exp2f (fmul (fsub z zmax) log2e)

/-- A routed row: its selected experts with their scores and gates, whether a score was NaN, and whether it goes nowhere. -/
structure Routed where
  sel : List (Nat × Nat)
  gates : List Nat
  nan : Bool
  noroute : Bool

/-- Route one row of logits (R268, R269). -/
def routeRow (ksel : Nat) (all exited : Bool) (logits : List Nat) : Routed :=
  let z := logits.map fun x => if isNan32 x then 0xFF800000 else x
  let sel := topExperts ksel ((List.range z.length).zip z)
  let zmax := (sel.headD (0, 0xFF800000)).2
  let ys := sel.map fun e => gateTerm zmax e.2
  let sum := (if all then z.map (gateTerm zmax) else ys).foldl fadd 0
  { sel, gates := ys.map fun y => fdiv32 y sum, nan := logits.any isNan32
    noroute := exited || f32Val zmax == .inf true }

/-- A choice of a token: token, choice and score. -/
structure Cand where
  t : Nat
  j : Nat
  score : Nat
  deriving DecidableEq, Repr

/-- Put a candidate at its place: score descending, equal scores by ascending token (R276). -/
def insCand (c : Cand) : List Cand → List Cand
  | [] => [c]
  | h :: t => if f32Key h.score < f32Key c.score then c :: h :: t else h :: insCand c t

/-- The candidates of expert e in keep order (R276). -/
def candsOf (rows : List Routed) (e : Nat) : List Cand :=
  (((List.range rows.length).zip rows).flatMap fun r =>
    if r.2.noroute then []
    else ((List.range r.2.sel.length).zip r.2.sel).filterMap fun x => if x.2.1 = e then some ⟨r.1, x.1, x.2.2⟩ else none).foldl
      (fun l c => insCand c l) []

/-- What R276 decides for expert e: kept choices with their slots, and the dropped ones in candidate order. -/
def keepDrop (quota slot0 : Nat) (cand : List Cand) : List (Cand × Nat) × List Cand :=
  let kept := cand.take quota
  (kept.map fun c => (c, slot0 + kept.countP fun d => d.t < c.t), cand.drop quota)

/-- A route entry (R270). -/
def routeEntry (expert : Nat) (kept : Option Nat) (ovf nan noroute : Bool) (gate : Nat) : List Byte :=
  leBytes 8 (packFields [(0, expert), (8, b2n kept.isSome), (9, b2n ovf), (10, b2n nan), (11, b2n noroute),
    (16, kept.getD 0xFFFF), (32, gate)])

/-- ROUTE (R268 to R270, R276, R291). -/
def execRoute (n : LoomNo) (s : State) (evs : CycleEvs := {}) : Host.Outcome State Fault Refusal :=
  .next <| s.withEvents n evs fun s => s.shtIssue n 0 9
    (fun b => rowsOk (b.slot 0) && 1 ≤ b.slot 1 && b.slot 1 ≤ 256 && b.slot 6 + b.slot 1 ≤ 2048 && 1 ≤ b.slot 2 && b.slot 2 ≤ 8
      && b.slot 2 ≤ b.slot 1 && b.slot 3 ≤ 1 && b.slot 8 ≤ 1
      && (List.range (b.slot 1)).all fun e => s.mapOk n (b.slot 6 + e) && (b.slot 8 == 0 || s.targetOk n (b.slot 6 + e)))
    (fun b => [rowsRange (b.slot 4) (b.slot 5) (b.slot 0) (4 * b.slot 1), (b.slot 7, 64 * b.slot 0)])
    fun w b =>
      let T := b.slot 0
      let E := b.slot 1
      let exm (t : Nat) : Bool := bitOf (s.get (SHT_EXM_EXM n (t / 32))) (t % 32)
      let logits := (List.range T).map fun t => s.spElts n (b.slot 4 + t * b.slot 5) true E
      let rows := ((List.range T).zip logits).map fun r => routeRow (b.slot 2) (b.slot 3 == 1) (exm r.1) r.2
      let plans := (List.range E).map fun e =>
        let m := b.slot 6 + e
        let shape := s.queueShape (s.get (SHT_EMAP_CHIP n m)) (s.get (SHT_EMAP_LOOM n m)) (s.get (SHT_EMAP_QUEUE n m))
        (keepDrop (s.get (SHT_EMAP_QUOTA n m)) (s.get (SHT_EMAP_SLOT0 n m)) (candsOf rows e), b.slot 8 == 1 && shape.2.2.2 != 0)
      let kept := plans.flatMap fun p => p.1.1
      let spill := plans.flatMap fun p => if p.2 then p.1.2 else []
      let lost := (plans.map fun p => if p.2 then 0 else p.1.2.length).sum
      let nans := (logits.map fun l => l.countP isNan32).sum
      let u := (s.advance n w).countPoison n (rowReads (b.slot 4) (b.slot 5) T (4 * E))
      let u := ((List.range T).zip rows).foldl (fun u r =>
        let l := ((List.range 8).flatMap fun j =>
          match r.2.sel[j]? with
          | none => List.replicate 8 0
          | some x =>
            let slot := (kept.find? fun k => k.1.t == r.1 && k.1.j == j).map Prod.snd
            routeEntry x.1 slot (spill.any fun c => c.t == r.1 && c.j == j) r.2.nan r.2.noroute (r.2.gates.getD j 0))
        u.spWrite n (b.slot 7 + 64 * r.1) l (s.spPoisoned n (b.slot 4 + r.1 * b.slot 5) (4 * E))) u
      let u := ((u.add (SHT_CNT_ROUTED_ROUTED n) kept.length).add (SHT_CNT_DROPPED_DROPPED n) lost).add (SHT_CNT_NAN_NAN n) nans
      let u := if nans = 0 then u else u.set (SHT_FLAGS_NAN_SCORE n) 1
      (u.modSht n fun h => { h with ovfOrder := tput [] h.ovfOrder (b.slot 7) (spill.map fun c => 8 * c.t + c.j) }).shtStart n 0

/-! ### SCATTER (R274, R278, R279) -/

/-- RSZ of records of width H (R274). -/
def recordSize (H : Nat) : Nat := 64 + ceil64 (H / 2) + ceil64 (H / 32)

/-- The header of a token record, 64 bytes (R274). -/
def recordHeader (ovf : Bool) (choice src token step gate stream slot : Nat) : List Byte :=
  leBytes 64 (packFields [(0, 2), (4, b2n ovf), (5, choice), (8, src), (16, token), (32, step), (64, gate), (96, stream), (112, slot)])

/-- Bytes padded to a multiple of 64. -/
def pad64 (l : List Byte) : List Byte := slice l 0 (ceil64 l.length)

/-- Write a token record to a slot on every replica of a map entry (R271, R278, R279). -/
def State.sendRecord (s : State) (n m : Nat) (ovf : Bool) (choice gate stream slot : Nat) (body : List Byte) (poison : Bool) : State :=
  let chip := s.get (SHT_EMAP_CHIP n m)
  let q := s.get (SHT_EMAP_QUEUE n m)
  let step := s.stepOf n
  let l := recordHeader ovf (choice % 8) (s.get (SHT_EMAP_SRC n m)) (choice / 8) step gate stream slot ++ body
  let s := (List.range (s.get (SHT_EMAP_REPL_M1 n m) + 1)).foldl (fun s r =>
    let loom := s.get (SHT_EMAP_LOOM n m) + r
    let off := slotAddr (s.queueShape chip loom q) (step % 2) slot
    if chip = s.chip then s.localPut n 8 0 (lwin loom + off) (.record q) l poison
    else (packetCuts (loomAddr chip loom off) l.length).foldl (fun s x =>
      s.remotePut n 8 1 0 x.1 0 ((l.drop (x.1 - loomAddr chip loom off)).take x.2) poison) s) s
  s.modSht n fun h => { h with sent := tput 0 h.sent m (tget 0 h.sent m + 1)
                               sentOvf := if ovf then tput 0 h.sentOvf m (tget 0 h.sentOvf m + 1) else h.sentOvf }

/-- Zero a return slot of the loom's own, through its outbound engine (R279). -/
def State.zeroReturn (s : State) (n at_ len : Nat) : State :=
  s.engWrite n 8 1 0 (loomAddr s.chip n at_) (List.replicate len 0) false

/-- Send a claim for an overflow slot to the first replica (R278). -/
def State.sendClaim (s : State) (n : Nat) (c : Claim) : State :=
  let m := c.mapEntry
  let chip := s.get (SHT_EMAP_CHIP n m)
  let loom := s.get (SHT_EMAP_LOOM n m)
  let q := s.get (SHT_EMAP_QUEUE n m)
  let half := s.stepOf n % 2
  let src := s.get (SHT_EMAP_SRC n m)
  let repl := s.get (SHT_EMAP_REPL_M1 n m) + 1
  let s := s.modSht n fun h => { h with claims := h.claims ++ [c] }
  if chip = s.chip then
    s.enqueue loom { kind := .claim q half src c.choice repl s.chip n, off := 0, len := 0, data := [], poison := false, tenant := 0
                     req := if h : n < 144 then Requester.loomEngine ⟨n, h⟩ 8 else .selvedge, tag := none }
  else s.send (s.msg chip 1 2 (leBytes 8 (packFields [(0, q), (8, half), (16, src), (24, loom), (32, c.choice), (48, repl), (56, n)])))

/-- A row of the batch as SCATTER reads it: its elements and scales padded to lines, its stream, and whether a word was poisoned
(R274, R279, R292). -/
def State.scatterRow (s : State) (n : Nat) (b : Block) (t : Nat) : List Byte × Nat × Bool :=
  let H := b.slot 3
  let e := (b.slot 4 + t * b.slot 5, H / 2)
  let c := (b.slot 6 + t * b.slot 7, H / 32)
  let r := (b.slot 11 + 8 * t, 8)
  (pad64 (s.spRead n e.1 e.2) ++ pad64 (s.spRead n c.1 c.2), bits (leNat (s.spRead n r.1 2)) 0 14,
    [e, c, r, (b.slot 2 + 64 * t, 64)].any fun x => s.spPoisoned n x.1 x.2)

/-- SCATTER (R278, R279). -/
def execScatter (n : LoomNo) (s : State) (evs : CycleEvs := {}) : Host.Outcome State Fault Refusal :=
  .next <| s.withEvents n evs fun s =>
  let entry (b : Block) (t j : Nat) : Nat := leNat (s.spRead n (b.slot 2 + 64 * t + 8 * j) 8)
  s.shtIssue n 1 12
    (fun b => rowsOk (b.slot 0) && 1 ≤ b.slot 1 && b.slot 1 ≤ 8 && hOk (b.slot 3)
      && (List.range (b.slot 0)).all fun t => (List.range (b.slot 1)).all fun j =>
        let m := b.slot 8 + bits (entry b t j) 0 8
        !(bitOf (entry b t j) 8 || bitOf (entry b t j) 9) || (s.mapOk n m && s.targetOk n m))
    (fun b => [rowsRange (b.slot 4) (b.slot 5) (b.slot 0) (b.slot 3 / 2), rowsRange (b.slot 6) (b.slot 7) (b.slot 0) (b.slot 3 / 32),
      (b.slot 2, 64 * b.slot 0), (b.slot 11, 8 * b.slot 0), (b.slot 9, ((b.slot 0 - 1) * 8 + b.slot 1 - 1) * b.slot 10 * 64 + 2 * b.slot 3)])
    fun w b =>
      let T := b.slot 0
      let zeroAt (c : Nat) : Nat := b.slot 9 + c * b.slot 10 * 64
      let rows := (List.range T).map fun t => s.scatterRow n b t
      let choices := (List.range T).flatMap fun t => (List.range (b.slot 1)).map fun j => (t, j)
      let u := (s.advance n w).countPoison n (rowReads (b.slot 4) (b.slot 5) T (b.slot 3 / 2)
        ++ rowReads (b.slot 6) (b.slot 7) T (b.slot 3 / 32) ++ [(b.slot 2, 64 * T), (b.slot 11, 8 * T)])
      let u := choices.foldl (fun u tj =>
        let e := entry b tj.1 tj.2
        let (body, stream, p) := rows.getD tj.1 ([], 0, false)
        if bitOf e 8 then u.sendRecord n (b.slot 8 + bits e 0 8) false (8 * tj.1 + tj.2) (bits e 32 32) stream (bits e 16 16) body p
        else if bitOf e 9 then u
        else u.zeroReturn n (zeroAt (8 * tj.1 + tj.2)) (2 * b.slot 3)) u
      let marked := (choices.filter fun tj => !bitOf (entry b tj.1 tj.2) 8 && bitOf (entry b tj.1 tj.2) 9).map fun tj => 8 * tj.1 + tj.2
      let order := (tget [] (s.lm n).sht.ovfOrder (b.slot 2)).filter fun c => marked.contains c
      let u := (order ++ marked.filter fun c => !order.contains c).foldl (fun u c =>
        let e := entry b (c / 8) (c % 8)
        let (body, stream, p) := rows.getD (c / 8) ([], 0, false)
        u.sendClaim n { choice := c, mapEntry := b.slot 8 + bits e 0 8, gate := bits e 32 32, stream, body, poison := p
                        zeroAt := zeroAt c, zeroLen := 2 * b.slot 3 }) u
      u.shtStart n 1

/-! ### TALLY (R275, R280) -/

/-- A tally (R275). -/
def tallyBytes (kind src queue step count ovf : Nat) : List Byte :=
  leBytes 16 (packFields [(0, 2), (4, kind), (8, src), (16, queue), (32, step % 2 ^ 32), (64, count % 65536), (80, ovf % 65536)])

/-- Send a tally to a loom (R280, R284); a message names its loom in TAG (log 32). -/
def State.sendTally (s : State) (n chip loom : Nat) (l : List Byte) : State :=
  if chip = s.chip then
    if s.is (LOOM_STATUS_BENCHED loom) then s
    else s.enqueue loom { kind := .tally, off := 0, len := 16, data := l, poison := false, tenant := 0
                          req := if h : n < 144 then Requester.loomEngine ⟨n, h⟩ 8 else .selvedge, tag := none }
  else s.send { s.msg chip 1 1 l with tag := loom }

/-- TALLY (R280). -/
def execTally (n : LoomNo) (s : State) (evs : CycleEvs := {}) : Host.Outcome State Fault Refusal :=
  .next <| s.withEvents n evs fun s => s.shtIssue n 2 2
    (fun b => 1 ≤ b.slot 0 && b.slot 0 ≤ 256 && b.slot 1 + b.slot 0 ≤ 2048 && (List.range (b.slot 0)).all fun e => s.mapOk n (b.slot 1 + e))
    (fun _ => [])
    fun w b =>
      let u := (List.range (b.slot 0)).foldl (fun u e =>
        let m := b.slot 1 + e
        let l := tallyBytes 0 (s.get (SHT_EMAP_SRC n m)) (s.get (SHT_EMAP_QUEUE n m)) (s.stepOf n)
          (tget 0 (s.lm n).sht.sent m) (tget 0 (s.lm n).sht.sentOvf m)
        (List.range (s.get (SHT_EMAP_REPL_M1 n m) + 1)).foldl (fun u r =>
          u.sendTally n (s.get (SHT_EMAP_CHIP n m)) (s.get (SHT_EMAP_LOOM n m) + r) l) u) (s.advance n w)
      u.shtStart n 2

/-! ### RETURN (R284) -/

/-- TAG of every packet of a return row that goes to another device: its queue and the low bits of its step (log 33). -/
def retTag (q step : Nat) : Nat := 32768 + step % 128 * 256 + q % 256

/-- The length of every packet of a return row but its last; no row, a multiple of 64 bytes, ends in a packet of it (log 33). -/
def rowCut : Nat := 4095

/-- The packets of a return row of n bytes at a; on fuel. -/
def rowCuts : Nat → Nat → Nat → List (Nat × Nat)
  | 0, _, _ => []
  | k + 1, a, n => if n = 0 then [] else (a, min n rowCut) :: rowCuts k (a + min n rowCut) (n - min n rowCut)

/-- Write an output row to the return area of its source (R273, R284). -/
def State.sendReturn (s : State) (n e q off : Nat) (l : List Byte) (poison : Bool) : State :=
  let chip := s.get (SHT_SRC_CHIP n e)
  let loom := s.get (SHT_SRC_LOOM n e)
  let src := s.get (SHT_SRC_RSRC n e)
  let step := s.stepOf n
  if chip = s.chip then s.localPut n 8 0 (lwin loom + off) (.retRow q step src) l poison
  else
    let a := loomAddr chip loom off
    (rowCuts (l.length + 1) a l.length).foldl (fun s x => s.remotePut n 8 1 0 x.1 (retTag q step) ((l.drop (x.1 - a)).take x.2) poison) s

/-- RETURN (R284): every landed record's output row goes to its source, the record is zeroed, and every declared source gets its
return tally. -/
def execShtReturn (n : LoomNo) (s : State) (evs : CycleEvs := {}) : Host.Outcome State Fault Refusal :=
  .next <| s.withEvents n evs fun s => s.shtIssue n 3 5
    (fun b => s.queueOk n (b.slot 0) && b.slot 3 % 32 == 0 && b.slot 4 % 32 == 0 && b.slot 3 + b.slot 4 ≤ 16384)
    (fun b => [rowsRange (b.slot 1 + 2 * b.slot 3) (b.slot 2) (s.get (SHT_QUEUE_CAP n (b.slot 0))) (2 * b.slot 4)])
    fun w b =>
      let q := b.slot 0
      let step := s.stepOf n
      let shape := s.queueShape s.chip n q
      let base := s.get (SHT_QUEUE_SRC_BASE n q)
      let slots := (List.range shape.2.1).filter fun i => (s.halfOf n q step).slots.contains i
      let u := slots.foldl (fun u i =>
        let a := slotAddr shape (step % 2) i
        let h := leNat (s.spRead n a 16)
        let e := base + bits h 8 6
        let row := (b.slot 1 + i * b.slot 2 + 2 * b.slot 3, 2 * b.slot 4)
        let off := s.get (SHT_SRC_RET_BASE n e) + (8 * bits h 16 16 + bits h 5 3) * s.get (SHT_SRC_RET_STRIDE_64 n e) * 64 + 2 * b.slot 3
        let poison := s.spPoisoned n row.1 row.2 || s.spPoisoned n a 16
        let u := (u.countPoison n [(a, 16), row]).sendReturn n e (s.get (SHT_SRC_RQUEUE n e)) off (s.spRead n row.1 row.2) poison
        u.engWrite n 8 1 0 (loomAddr s.chip n a) (List.replicate (64 * shape.2.2.1) 0) false) (s.advance n w)
      let u := (List.range (s.get (SHT_QUEUE_NSRC n q))).foldl (fun u src =>
        let e := base + src
        let k := slots.countP fun i => bits (leNat (s.spRead n (slotAddr shape (step % 2) i) 16)) 8 6 == src
        u.sendTally n (s.get (SHT_SRC_CHIP n e)) (s.get (SHT_SRC_LOOM n e))
          (tallyBytes 1 (s.get (SHT_SRC_RSRC n e)) (s.get (SHT_SRC_RQUEUE n e)) step k 0)) u
      u.shtStart n 3

/-! ### MASKSET and AUDIT (R286, R288) -/

/-- Set bits of a byte string. -/
def popcount (l : List Byte) : Nat := (l.map fun x => (List.range 8).countP fun i => x.toNat.testBit i).sum

/-- Panel P is audited in a step (R286). -/
def audited (step layer panel logDiv : Nat) : Bool :=
  let a := (step * 0x9E3779B9 + layer * 0x85EBCA6B + panel * 0xC2B2AE35) % 2 ^ 32
  a / 65536 % 2 ^ logDiv == 0

/-- The audit divisor's logarithm (R295): values other than 4 to 10 read as 10. -/
def State.audLog (s : State) (n : Nat) : Nat :=
  let v := s.get (SHT_AUD_CTL_AUD_LOG2DIV n)
  if 4 ≤ v && v ≤ 10 then v else 10

/-- MASKSET (R286). A count of 65,536 or more does not fit its count register: its value there is free (log 34). -/
def execMaskset (n : LoomNo) (s : State) (evs : CycleEvs := {}) : Host.Outcome State Fault Refusal :=
  .next <| s.withEvents n evs fun s => s.shtIssue n 4 7
    (fun b => rowsOk (b.slot 0) && 1 ≤ b.slot 3 && b.slot 3 ≤ 16 && b.slot 5 + 2 * b.slot 3 ≤ 32)
    (fun b => [rowsRange (b.slot 1) (b.slot 2) (b.slot 0) (64 * b.slot 3)])
    fun w b =>
      let u := (s.advance n w).countPoison n (rowReads (b.slot 1) (b.slot 2) (b.slot 0) (64 * b.slot 3))
      let u := (List.range (b.slot 3)).foldl (fun u p =>
        let k := ((List.range (b.slot 0)).map fun r => popcount (s.spRead n (b.slot 1 + r * b.slot 2 + 64 * p) 64)).sum
        let keep := if k < 65536 then k else u.freeBits 16
        let u := if k < 65536 then u else u.takeFree
        let run := if k = 0 && audited (s.stepOf n) (b.slot 6) (b.slot 4 + p) (s.audLog n) then 1 else keep
        (u.set (SHT_CREG_COUNT n (b.slot 5 + 2 * p + 1)) keep).set (SHT_CREG_COUNT n (b.slot 5 + 2 * p)) run) u
      u.shtStart n 4

/-- An activation misses (R288): its magnitude is above the threshold, which has its sign, or it is NaN. -/
def auditMiss (thr act : Nat) : Bool :=
  let t := thr % 65536 * 65536
  let a := act % 32768 * 65536
  isNan32 a || (!isNan32 t && decide (f32Key t < f32Key a))

/-- Count one audited pair; a full window closes (R288). -/
def State.auditPair (s : State) (n : Nat) (miss : Bool) : State :=
  let s := (s.add (SHT_AUD_PAIRS_PAIRS n) 1).add (SHT_AUD_MISS_MISS n) (b2n miss)
  let pairs := s.get (SHT_AUD_PAIRS_PAIRS n)
  let m := s.get (SHT_AUD_MISS_MISS n)
  if s.get (SHT_AUD_WIN_PAIRS n) = 0 || pairs < s.get (SHT_AUD_WIN_PAIRS n) then s
  else
    let s := ((s.set (SHT_AUD_LAST_PAIRS n) pairs).set (SHT_AUD_LAST_MISS n) m)
    let s := (s.set (SHT_AUD_PAIRS_PAIRS n) 0).set (SHT_AUD_MISS_MISS n) 0
    if s.get (SHT_AUD_CTL_AUD_THR n) * pairs < m * 65536 then s.set (SHT_FLAGS_PRED n) 1 else s

/-- AUDIT (R288). -/
def execAudit (n : LoomNo) (s : State) (evs : CycleEvs := {}) : Host.Outcome State Fault Refusal :=
  .next <| s.withEvents n evs fun s => s.shtIssue n 5 8
    (fun b => rowsOk (b.slot 0) && b.slot 6 ≤ 31)
    (fun b => [rowsRange (b.slot 1) (b.slot 2) (b.slot 0) 1024, rowsRange (b.slot 3 + 64 * b.slot 5) (b.slot 4) (b.slot 0) 64])
    fun w b =>
      let u := s.advance n w
      let acts := s.get (SHT_CREG_COUNT n (b.slot 6)) = 1 && (b.slot 6 = 31 || s.get (SHT_CREG_COUNT n (b.slot 6 + 1)) = 0)
      let u := if !acts then u
        else
          let u := u.countPoison n (rowReads (b.slot 1) (b.slot 2) (b.slot 0) 1024
            ++ rowReads (b.slot 3 + 64 * b.slot 5) (b.slot 4) (b.slot 0) 64)
          (List.range (b.slot 0)).foldl (fun u r =>
            let mask := leNat (s.spRead n (b.slot 3 + 64 * b.slot 5 + r * b.slot 4) 64)
            let row := (chunks 2 512 (s.spRead n (b.slot 1 + r * b.slot 2) 1024)).map leNat
            ((List.range 512).zip row).foldl (fun u e => if bitOf mask e.1 then u else u.auditPair n (auditMiss (b.slot 7) e.2)) u) u
      u.shtStart n 5

/-! ### EXIT (R289, R290, R292) -/

/-- The parameters of EXIT, of FILL where they serve it (R265). -/
structure ExitPar where
  xlayer : Nat
  nl : Nat
  nkv : Nat
  head : Nat
  H : Nat
  fmt : Nat
  estr : Nat
  sstr : Nat

/-- Read LAYERS, HF and STRIDES (R265). -/
def exitPar (layers hf strides : Nat) : ExitPar :=
  { xlayer := bits layers 0 8, nl := bits layers 8 8 + 1, nkv := bits layers 16 8, head := bits layers 24 3
    H := bits hf 0 16, fmt := bits hf 16 4, estr := 64 * bits strides 0 16, sstr := 64 * bits strides 16 16 }

/-- Element bytes of a hidden row, its scale bytes, and the bytes that the fill list holds of it (R292). -/
def ExitPar.elemLen (p : ExitPar) : Nat := if p.fmt = 1 then p.H / 2 else 2 * p.H
def ExitPar.scaleLen (p : ExitPar) : Nat := if p.fmt = 1 then p.H / 32 else 0
def ExitPar.hsz (p : ExitPar) : Nat := if p.fmt = 1 then ceil64 (p.H / 2) + ceil64 (p.H / 32) else 2 * p.H

/-- The address of a page slot in PMAP (R292). -/
def pmapAt (pmap nl nkv r l h : Nat) : Nat := pmap + ((r * nl + l) * nkv + h) * 8

/-- Mark KV slot t of a page pending (R289, R290): PENDING is set and VALID cleared by one masked atomic write. On a page whose
descriptor is poisoned nothing is done, nor on one that R6 or R7 refuses, which is recorded (log 115). -/
def markPending (n dh pos : Nat) (entry : Nat) : Rd Unit :=
  rdBind (rdRange n 8 0 entry 8) fun a =>
    let slot := leNat a.data
    rdBind (rdRange n 8 0 (slot + 68 * dh) 64) fun d =>
      let first := leAt d.data 12 4
      if a.status != 0 || d.status != 0 || (a.pois ++ d.pois).any id then rdPure ()
      else if pageUnusable d.data then rdMod fun s => s.refuseStruct 9 n (slot + 68 * dh) true
      else if pos < first || first + 64 ≤ pos then rdPure ()
      else
        let m := 2 ^ (pos - first)
        rdMod fun s => s.engMask n 8 1 0 (slot + 68 * dh + 16) (m * 2 ^ 64) (m + m * 2 ^ 64)

/-- A fill list's header that R6 or R7 refuses (R292). -/
def listHdrBad (h : List Byte) : Bool := leAt h 0 1 != 2 || !allZero (slice h 1 3) || !allZero (slice h 6 58)

/-- A fill list's entry with a reserved field that is not zero (R7, R292). -/
def listEntryBad (e : List Byte) : Bool := bits (leAt e 0 2) 14 2 != 0 || bits (leAt e 3 1) 3 5 != 0 || !allZero (slice e 8 56)

/-- A fill list of loom n that R6 or R7 refuses, by its header or by an entry; entries lie `stride` bytes apart. -/
def State.listRefused (s : State) (n at_ stride : Nat) : Bool :=
  let h := s.spRead n at_ 64
  listHdrBad h || (List.range (leAt h 4 2)).any fun e => listEntryBad (s.spRead n (at_ + 64 + e * stride) 64)

/-- EXIT of one row (R289). A list whose header is refused takes no row: the row stays, and the refusal is recorded (R6; log 115). -/
def exitRow (n : Nat) (b : Block) (block : List Byte) (p : ExitPar) (r : Nat) : Rd Unit :=
  rdBind (rdGet fun s => s) fun s =>
    let conf := leNat (s.spRead n (b.slot 1 + 2 * r) 2)
    let count := leNat (s.spRead n (b.slot 9 + 4) 2)
    let yes := match bf16Val conf, bf16Val (b.slot 2) with
      | .nan, _ => false
      | _, .nan => false
      | _, _ => decide (f32Key (b.slot 2 % 65536 * 65536) ≤ f32Key (conf * 65536))
    if bitOf (s.get (SHT_EXM_EXM n (r / 32))) (r % 32) || !yes then rdPure ()
    else if listHdrBad (s.spRead n (b.slot 9) 64) then rdMod fun s => s.refuseStruct 9 n (lwin n + b.slot 9) false
    else if b.slot 10 ≤ count then rdMod fun s => s.add (SHT_CNT_EXIT_FULL_FULL n) 1
    else
      let e := (b.slot 5 + r * p.estr, p.elemLen)
      let c := (b.slot 6 + r * p.sstr, p.scaleLen)
      let row := (b.slot 8 + 8 * r, 8)
      let stream := bits (leNat (s.spRead n row.1 2)) 0 14
      let pos := leNat (s.spRead n (row.1 + 4) 4)
      let hidden := if p.fmt = 1 then pad64 (s.spRead n e.1 e.2) ++ pad64 (s.spRead n c.1 c.2) else s.spRead n e.1 e.2
      let poison := [e, c, row, (b.slot 1 + 2 * r, 2)].any fun x => s.spPoisoned n x.1 x.2
      let entry := leBytes 64 (packFields [(0, stream), (16, p.xlayer), (24, p.head), (32, pos)]) ++ hidden
      let at_ := b.slot 9 + 64 + count * (64 + p.hsz)
      let dh := 64 * 2 ^ (Config.exitWidth block).val
      let pmap := b.slot 11 + b.slot 12 * 2 ^ 32
      let marks := (List.range (p.nl - 1 - p.xlayer)).flatMap fun i =>
        (List.range p.nkv).map fun h => pmapAt pmap p.nl p.nkv r (p.xlayer + 1 + i) h
      rdBind (rdMod fun s =>
        let s := (s.setMapBit (SHT_EXM_EXM n) r).add (SHT_CNT_EXIT_EXITS n) 1
        let s := s.modSht n fun h => { h with lists := h.lists.filter (fun x => x.1 != b.slot 9) ++ [(b.slot 9, p.hsz)] }
        let s := (s.countPoison n [e, c, row]).spWrite n at_ entry poison
        s.spWrite n (b.slot 9 + 4) (leBytes 2 (count + 1)) false) fun _ =>
      rdBind (rdEach (markPending n dh pos) marks) fun _ =>
      rdMod fun s => (s.spWrite n e.1 (List.replicate e.2 0) false).spWrite n c.1 (List.replicate c.2 0) false

/-- EXIT over its rows (R289). -/
def exitRun (n : Nat) (block : List Byte) : Rd Unit :=
  let b := blockOf block
  let p := exitPar (b.slot 3) (b.slot 4) (b.slot 7)
  rdBind (rdEach (exitRow n b block p) (List.range (b.slot 0))) fun _ =>
    rdMod fun s =>
      let left := (List.range (b.slot 0)).countP fun r => !bitOf (s.get (SHT_EXM_EXM n (r / 32))) (r % 32)
      s.set (SHT_CREG_COUNT n (b.slot 13)) left

/-- LAYERS is in range for EXIT (R266). -/
def layersOk (p : ExitPar) : Bool := p.xlayer + 1 < p.nl && 1 ≤ p.nkv && p.nkv ≤ 16

/-- EXIT (R289 to R292). -/
def execExit (n : LoomNo) (s : State) (evs : CycleEvs := {}) : Host.Outcome State Fault Refusal :=
  .next <| s.withEvents n evs fun s => s.shtIssue n 6 14
    (fun b =>
      let p := exitPar (b.slot 3) (b.slot 4) (b.slot 7)
      rowsOk (b.slot 0) && layersOk p && (p.fmt == 1 || p.fmt == 4) && hOk p.H && b.slot 13 ≤ 31)
    (fun b =>
      let p := exitPar (b.slot 3) (b.slot 4) (b.slot 7)
      [(b.slot 1, 2 * b.slot 0), rowsRange (b.slot 5) p.estr (b.slot 0) p.elemLen, rowsRange (b.slot 6) p.sstr (b.slot 0) p.scaleLen,
        (b.slot 8, 8 * b.slot 0), (b.slot 9, 64 + b.slot 10 * (64 + p.hsz))])
    fun w b =>
      let block := s.blockBytes n w.arg
      let u := ((s.advance n w).countPoison n [(b.slot 1, 2 * b.slot 0)]).shtStart n 6
      u.runOp n 1 0 { unit := 8, op := 6, arg := w.arg, block, got := [], waiting := false } (exitRun n block)

/-! ### FILL (R290, R292, R293) -/

/-- FSZ (R292). -/
def fillSize (dh : Nat) : Nat := ceil64 (dh + dh / 16)

/-- FILL of one entry, layer and head (R293). -/
def fillOne (n : Nat) (b : Block) (nl nkv hsz e : Nat) (lh : Nat × Nat) : Rd Unit :=
  let dh := b.slot 2
  let at_ := b.slot 0 + 64 + e * (64 + hsz)
  let pmap := b.slot 4 + b.slot 5 * 2 ^ 32
  rdBind (rdGet fun s => s) fun s0 =>
    let stream := bits (leNat (s0.spRead n at_ 2)) 0 14
    let pos := leNat (s0.spRead n (at_ + 4) 4)
    let buf := b.slot 1 + ((e * nl + lh.1) * nkv + lh.2) * fillSize dh
    rdBind (rdRange n 8 0 (pmapAt pmap nl nkv e lh.1 lh.2) 8) fun a =>
      let slot := leNat a.data
      let desc := slot + 68 * dh
      rdBind (rdRange n 8 0 desc 64) fun d =>
        let first := leAt d.data 12 4
        let t := pos - first
        let ok := a.status = 0 && d.status = 0 && !pageUnusable d.data && bits (leAt d.data 8 4) 0 14 = stream
          && first ≤ pos && pos < first + 64 && bitOf (leAt d.data 24 8) t
        if !ok then rdMod fun s =>
          let s := if a.status = 0 && d.status = 0 && !(a.pois ++ d.pois).any id && pageUnusable d.data then s.refuseStruct 9 n desc true else s
          s.add (SHT_CNT_FILL_STALE_STALE n) 1
        else
          rdMod fun s =>
            let put (s : State) (o len dst : Nat) : State :=
              s.engWrite n 8 1 0 (slot + dst) (s0.spRead n (buf + o) len) (s0.spPoisoned n (buf + o) len)
            let s := s.dataReads n 8 [(buf, dh + dh / 16)]
            let s := put s 0 (dh / 2) (t * (dh / 2))
            let s := put s (dh / 2) (dh / 2) (32 * dh + t * (dh / 2))
            let s := put s dh (dh / 32) (64 * dh + t * (dh / 32))
            let s := put s (dh + dh / 32) (dh / 32) (66 * dh + t * (dh / 32))
            s.engMask n 8 1 0 (desc + 16) (2 ^ t) (2 ^ t + 2 ^ t * 2 ^ 64)

/-- FILL over the entries of its list (R293), each an access of its own (R533); a list that R6 or R7 refuses gives none and is recorded
(log 115). -/
def fillRun (n : Nat) (block : List Byte) : Rd Unit :=
  let b := blockOf block
  let p := exitPar (b.slot 3) 0 0
  let hsz := Config.fillHidden block % 32769
  rdBind (rdGet fun s => s) fun s =>
    if s.listRefused n (b.slot 0) (64 + hsz) then rdMod fun s => s.refuseStruct 9 n (lwin n + b.slot 0) false
    else rdEach (fun e =>
      let at_ := b.slot 0 + 64 + e * (64 + hsz)
      let xl := s.spRead n (at_ + 2) 1
      let lhs := (List.range (p.nl - 1 - leNat xl)).flatMap fun i => (List.range p.nkv).map fun h => (leNat xl + 1 + i, h)
      rdBind (rdMod fun s => s.dataReads n 8 [(at_, 64)]) fun _ => rdEach (fillOne n b p.nl p.nkv hsz e) lhs)
      (List.range (leAt (s.spRead n (b.slot 0) 64) 4 2))

/-- FILL (R290, R293). -/
def execFill (n : LoomNo) (s : State) (evs : CycleEvs := {}) : Host.Outcome State Fault Refusal :=
  .next <| s.withEvents n evs fun s => s.shtIssue n 7 6
    (fun b =>
      let p := exitPar (b.slot 3) 0 0
      (b.slot 2 == 64 || b.slot 2 == 128 || b.slot 2 == 256) && 1 ≤ p.nkv && p.nkv ≤ 16)
    (fun b => [(b.slot 0, 64)])
    fun w b =>
      let block := s.blockBytes n w.arg
      let u := ((s.advance n w).countPoison n [(b.slot 0, 64)]).shtStart n 7
      u.runOp n 1 0 { unit := 8, op := 7, arg := w.arg, block, got := [], waiting := false } (fillRun n block)

/-! ### The end of an operation -/

/-- What a waiting Shuttle operation does (R289, R293). -/
def shtRun (n : Nat) (p : Pend) : Rd Unit := if p.op = 6 then exitRun n p.block else fillRun n p.block

/-- SHT_OP_DONE (R264): the operation ends; one that waits for a read goes on when its answer has come, and SCATTER ends once every
claim is answered (R280). -/
def execShtOpDone (n : LoomNo) (s : State) : Host.Outcome State Fault Refusal :=
  .next <|
    if !s.is (SHT_STATUS_BUSY n) || s.still n then s
    else
      let t := match s.pendOf n 8 with
        | some p => if p.waiting then s else s.runOp n 1 0 p (shtRun n p)
        | none => s
      if (t.pendOf n 8).isSome || !(t.lm n).sht.claims.isEmpty then t
      else ((t.set (SHT_STATUS_OP n) 0).set (SHT_STATUS_BUSY n) 0).settle n

/-! ### Landings (R281, R282) -/

/-- STEP is S or S + 1 (R281, R282). -/
def State.stepNear (s : State) (n step : Nat) : Bool := step == s.stepOf n || step == (s.stepOf n + 1) % 2 ^ 32

/-- Source s of a queue holds a slot of a half: in its range, or granted to it (R281). -/
def State.slotOwned (s : State) (n q step src slot : Nat) (ovf : Bool) : Bool :=
  let e := s.get (SHT_QUEUE_SRC_BASE n q) + src
  (s.get (SHT_SRC_SLOT0 n e) ≤ slot && slot < s.get (SHT_SRC_SLOT0 n e) + s.get (SHT_SRC_QUOTA n e))
    || (ovf && (s.halfOf n q step).granted.any fun g => g == (slot, src))

/-- The header of a token record is refused (R6, R7, R274). -/
def recordRefused (d : List Byte) : Bool :=
  let h := leNat (d.take 16)
  h % 16 != 2 || bits h 14 2 != 0 || bits h 110 2 != 0 || !allZero (slice d 16 48)

/-- A token record may land (R281); its half's step and its slot. -/
def State.recordOk (s : State) (n q off : Nat) (d : List Byte) : Option (Nat × Nat) :=
  let h := leNat (d.take 16)
  let step := bits h 32 32
  let slot := bits h 112 16
  let src := bits h 8 6
  if s.queueOk n q && !recordRefused d && src < s.get (SHT_QUEUE_NSRC n q) && s.stepNear n step
      && s.slotOwned n q step src slot (bitOf h 4) && off == slotAddr (s.queueShape s.chip n q) (step % 2) slot
  then some (step, slot) else none

/-- A return row may land (R281): it lies within the return area of the return queue's source. -/
def State.retOk (s : State) (n q step src off len : Nat) : Bool :=
  s.queueOk n q && src < s.get (SHT_QUEUE_NSRC n q) && s.stepNear n step && s.inRetArea n (s.get (SHT_QUEUE_SRC_BASE n q) + src) off len

/-- A landing is discarded (R281). -/
def State.landBad (s : State) (n off : Nat) : State :=
  ((s.add (SHT_CNT_LAND_BAD_BAD n) 1).set (SHT_ERR_LAND n) 1).report (mkRec 9 n 0x101 2 (some (lwin n + off)) (s.stepOf n) 0 [])

/-- A record or a return row is accepted (R281, R282). -/
def State.landOk (s : State) (n q step : Nat) (slot : Option Nat) (i : Inbound) : State :=
  ((s.winWrite n i.off i.data i.poison).modHalf n q step fun h =>
    { h with landed := h.landed + 1
             slots := match slot with | some k => if h.slots.contains k then h.slots else h.slots ++ [k] | none => h.slots }).add
    (SHT_CNT_LANDED_LANDED n) 1

/-- The slot of queue q, with its half, in which a record's further packet lies: none where the offset is the slot's own. -/
def State.insideSlot (s : State) (n q off : Nat) : Option (Nat × Nat) :=
  let shape := s.queueShape s.chip n q
  let size := 64 * shape.2.2.1
  let o := off - shape.1
  if size = 0 || shape.2.1 = 0 || o % size = 0 then none else some (o / size / shape.2.1, o / size % shape.2.1)

/-- The device that an inbound access comes from. -/
def State.sender (s : State) (i : Inbound) : Nat := match i.req with | .peer c _ => c | _ => s.chip

/-- The record under way of a device and a queue whose next packet lies at an offset (R373). -/
def RetRow.restOf (r : RetRow) (chip q off : Nat) : Bool := r.chip == chip && r.q == q && r.next == off

/-- A record of which a further packet is to come, or no longer is (R373): every packet but the last holds 4,096 bytes, and the next
lies inside the slot. -/
def State.expectRest (s : State) (n q src half : Nat) (i : Inbound) (ok : Bool) : State :=
  let next := i.off + i.len
  s.modSht n fun h => { h with
    rows := h.rows.filter (fun r => !r.restOf (s.sender i) q i.off) ++
      if i.len = 4096 && (s.insideSlot n q next).isSome then [{ chip := s.sender i, q, src, half, next, ok }] else [] }

/-- A further packet of a record of another device (R373): it lands with the record that it goes on with, and is discarded with it; one that
goes on with none is discarded (R281; log 104). -/
def State.landRest (s : State) (n q : Nat) (i : Inbound) : State :=
  match (s.lm n).sht.rows.find? fun r => r.restOf (s.sender i) q i.off with
  | none => s.landBad n i.off
  | some r => (if r.ok then s.winWrite n i.off i.data i.poison else s).expectRest n q r.src r.half i r.ok

/-- A token record, or a further packet of one, lands or is discarded (R281). -/
def State.landRecord (s : State) (n q : Nat) (i : Inbound) : State :=
  match s.insideSlot n q i.off with
  | some _ => s.landRest n q i
  | none => match s.recordOk n q i.off i.data with
    | some (step, slot) => (s.landOk n q step (some slot) i).expectRest n q (bits (leNat (i.data.take 16)) 8 6) (step % 2) i true
    | none => (s.landBad n i.off).expectRest n q 0 0 i false

/-- The packet of a return row goes on with a row under way (log 33). -/
def RetRow.goesOn (r : RetRow) (chip q step src off : Nat) : Bool :=
  r.chip == chip && r.q == q && r.src == src && r.half == step % 2 && r.next == off

/-- A packet of a return row lands or is discarded (R281, R284): the row counts at its first packet, and every further one must lie in
the return area too, of a row not discarded already (log 33). -/
def State.landRow (s : State) (n q step src : Nat) (i : Inbound) : State :=
  let chip := s.sender i
  let fits := s.retOk n q step src i.off i.len
  let row := (s.lm n).sht.rows.find? fun r => r.goesOn chip q step src i.off
  let t := match row with
    | none => if fits then s.landOk n q step none i else s.landBad n i.off
    | some r => if !r.ok then s else if fits then s.winWrite n i.off i.data i.poison else s.landBad n i.off
  t.modSht n fun h => { h with
    rows := h.rows.filter (fun r => !r.goesOn chip q step src i.off) ++
      if i.len = rowCut then
        [{ chip, q, src, half := step % 2, next := i.off + i.len, ok := fits && match row with | some r => r.ok | none => true }]
      else [] }

/-- What the Shuttle takes from the NC port lands by `f` if the window lets its sender in (R256, R281); bytes beyond the scratchpad are
discarded and recorded (R534). -/
def State.landIf (s : State) (n : Nat) (i : Inbound) (f : State → State) : State :=
  if s.inwinOk n i.req i.tenant true i.off i.len then
    let (st, s) := s.beyondView n i i.len
    (f s).answerInbound i st [] false
  else (s.inwinDeny n i.req i.tenant i.off).answerInbound i 3 [] false

/-- RECORD_LANDING (R255, R281): the record or return row at the head of the FIFO is checked and lands, or is discarded; `deferred` are
the cycles for which the port put it off, `ecc` the words in error that it meets. -/
def execRecordLanding (n : LoomNo) (s : State) (deferred : Nat := 0) (ecc : List SpadEv := []) : Host.Outcome State Fault Refusal :=
  .next <|
    if !s.ncOpen n then s
    else match (s.lm n).spd.fifo with
      | [] => s
      | i :: _ => match i.kind with
        | .record q => s.portServes n deferred ecc fun t => t.landIf n i fun t => t.landRecord n q i
        | .retRow q step src => s.portServes n deferred ecc fun t => t.landIf n i fun t => t.landRow n q step src i
        | _ => s

/-! ### Messages to a Shuttle (R275, R278, R282) -/

/-- Judge a tally (R282). -/
def State.takeTally (s : State) (n : Nat) (l : List Byte) : State :=
  let v := leNat (l.take 16)
  let kind := bits v 4 4
  let src := bits v 8 6
  let q := bits v 16 8
  let step := bits v 32 32
  let count := bits v 64 16
  let half := s.halfOf n q step
  let e := s.get (SHT_QUEUE_SRC_BASE n q) + src
  let bad := v % 16 != 2 || 1 < kind || bits v 14 2 != 0 || bits v 24 8 != 0 || bits v 96 32 != 0 || !s.queueOk n q
    || decide (s.get (SHT_QUEUE_NSRC n q) ≤ src) || !s.stepNear n step || half.tallied.contains src
    || (kind == 0 && decide (s.get (SHT_SRC_QUOTA n e) + (half.granted.countP fun g => g.2 == src) < count))
  if bad then (s.set (SHT_ERR_TALLY n) 1).add (SHT_CNT_TALLY_BAD_BAD n) 1
  else s.modHalf n q step fun h => { h with tsum := h.tsum + count, tcnt := h.tcnt + 1, tallied := h.tallied ++ [src] }

/-- The first message packet of a type for loom n joins the loom's FIFO, behind what is there, if the FIFO has room (R24, R26, R280); at a
benched loom it is lost (R31). -/
def State.shtPacket (s : State) (n msgtype : Nat) (loomOf : Packet → Nat) (kindOf : Packet → InKind) : State :=
  match s.firstIn fun i => isMsg msgtype none i && loomOf i.pkt == n with
  | none => s
  | some i =>
    let k := i.pkt
    if s.is (LOOM_STATUS_BENCHED n) then s.takeIn i
    else if s.fifoFull n then s
    else ((s.takeIn i).noteRty n k.rty).enqueue n
      { kind := kindOf k, off := 0, len := k.payload.length, data := k.payload, poison := k.poison, tenant := k.tenant, req := k.requester
        tag := none, cls := k.cls }

/-- A message leaves the head of loom n's FIFO when the port is open and `f` takes its kind. -/
def State.takeHead (s : State) (n : Nat) (f : Inbound → Option (State → State)) : State :=
  if !s.ncOpen n then s
  else match (s.lm n).spd.fifo with
    | [] => s
    | i :: _ => match f i with
      | some g => g (s.popFifo n)
      | none => s

/-- TALLY_MSG (R26, R282): a tally that has reached the device joins the FIFO, and one at its head is judged while the port is open. -/
def execTallyMsg (n : LoomNo) (s : State) : Host.Outcome State Fault Refusal :=
  .next <| (s.shtPacket n 1 (fun k => k.tag % 256) fun _ => .tally).takeHead n fun i =>
    if i.kind = .tally then some fun s => s.takeTally n i.data else none

/-- Answer a claim (R278): the counter of the half advances, and a slot is granted while it was below OVF_N. -/
def State.takeClaim (s : State) (n q half src choice repl chip loom : Nat) : State :=
  let k := (s.halfOf n q half).ovf
  let ok := s.queueOk n q && decide (k < s.get (SHT_QUEUE_OVF_N n q))
  let slot := if ok then s.get (SHT_QUEUE_OVF0 n q) + k else 0xFFFF
  let s := s.modHalf n q half fun h => { h with ovf := min 4095 (h.ovf + 1) }
  let s := if ok then
      (List.range repl).foldl (fun s r => s.modHalf (n + r) q half fun h => { h with granted := h.granted ++ [(slot, src)] }) s
    else s
  if chip = s.chip then
    s.enqueue loom { kind := .grant choice slot, off := 0, len := 0, data := [], poison := false, tenant := 0
                     req := if h : n < 144 then Requester.loomEngine ⟨n, h⟩ 8 else .selvedge, tag := none }
  else s.send (s.msg chip 1 3 (leBytes 8 (packFields [(0, slot), (16, choice), (32, loom)])))

/-- What a claim packet is to the Shuttle (R278; log 32). -/
def claimKind (k : Packet) : InKind :=
  let v := leNat (k.payload.take 8)
  .claim (bits v 0 8) (bits v 8 1) (bits v 16 6) (bits v 32 16) (bits v 48 8 % 9) k.src (bits v 56 8)

/-- OVF_CLAIM (R24, R278): a claim joins the FIFO, and claims are answered in the order in which they arrived, whoever sent them. -/
def execOvfClaim (n : LoomNo) (s : State) : Host.Outcome State Fault Refusal :=
  .next <| (s.shtPacket n 2 (fun k => leAt k.payload 3 1) claimKind).takeHead n fun i =>
    match i.kind with
    | .claim q half src choice repl chip loom => some fun s => s.takeClaim n q half src choice repl chip loom
    | _ => none

/-- The answer to a claim (R278): the record goes to the granted slot on every replica, or the choice is dropped. -/
def State.takeGrant (s : State) (n choice slot : Nat) : State :=
  match (s.lm n).sht.claims.find? fun c => c.choice == choice with
  | none => s
  | some c =>
    let s := s.modSht n fun h => { h with claims := h.claims.erase c }
    if slot = 0xFFFF then (s.add (SHT_CNT_OVF_FULL_FULL n) 1).zeroReturn n c.zeroAt c.zeroLen
    else ((s.add (SHT_CNT_OVF_CLAIM_CLAIMED n) 1).add (SHT_CNT_ROUTED_ROUTED n) 1).sendRecord n c.mapEntry true c.choice c.gate
      c.stream slot c.body c.poison

/-- OVF_GRANT (R26, R278): the answer to a claim joins the FIFO, and the one at its head is taken while the port is open. -/
def execOvfGrant (n : LoomNo) (s : State) : Host.Outcome State Fault Refusal :=
  .next <| (s.shtPacket n 3 (fun k => leAt k.payload 4 1) fun k => .grant (leAt k.payload 2 2) (leAt k.payload 0 2)).takeHead n fun i =>
    match i.kind with
    | .grant choice slot => some fun s => s.takeGrant n choice slot
    | _ => none

end Sys2Proof.Machine
end

