-- ==== Sys2Proof/Machine/LoomReset.lean ====
section
/-! DEFINITION. A loom reset, and taking a loom out of service (R467, R502). -/
namespace Sys2Proof.Machine

/-- The register fields that a loom reset clears (R502). -/
def loomResetFields (n : Nat) : List Fld :=
  [LOOM_STATUS_RUN n, LOOM_STATUS_IN_STEP n, LOOM_STATUS_HOLD n, LOOM_STATUS_HOLD_CAUSE n, LOOM_STATUS_SLIP n, LOOM_STATUS_FAULT n,
   LOOM_STATUS_PEER_FAULT n, LOOM_PC_PC n, LOOM_FAULT_PC n, LOOM_FAULT_UNIT n, LOOM_FAULT_CAUSE n, LOOM_STEP_STEP n,
   LOOM_STEP_ACTUAL_CYCLES n, LOOM_SLIP_CYCLES n,
   ARR_STATUS_BUSY n, ARR_STATUS_MODE8 n, ARR_STATUS_WBUF0_VALID n, ARR_STATUS_WBUF1_VALID n,
   ACC_STATUS_ACTIVE_SET n, ACC_STATUS_DRAIN_BUSY n, ACC_STATUS_IN_FLIGHT n, ACC_STATUS_SAT_ANY n,
   DMA_STATUS_TILE_BUSY n, DMA_STATUS_STREAM_BUSY n, DMA_STATUS_STORE_BUSY n, DMA_STATUS_TBL_VALID n, DMA_LOAD_STS_STS n,
   DMA_LOAD_STS_WBUF n, DMA_LOAD_STS_FORM n, DMA_LOAD_STS_DECODE_CYCLES n, DMA_TBL_STS_STS n,
   ATT_STATUS_BUSY n, ATT_STATUS_PHASE n, ATT_STATUS_SCORED n, ATT_STATUS_PV_DONE n, ATT_STS_STS n, ATT_STS_PAGE n,
   BRZ_STATUS_BUSY n, BRZ_STATUS_OP n, BRZ_STATUS_OUTLIER n, BOB_STATUS_BUSY n, BOB_STATUS_OP n, BOB_STATUS_STAGE2 n, BOB_STS_STS n,
   GRD_STATUS_MODE n, GRD_STATUS_SPAN_OPEN n, GRD_CNT_ASAT_ASAT n, GRD_CNT_AZERO_AZERO n, GRD_CNT_AVALS_AVALS n,
   GRD_CNT_CSAT_CSAT n, GRD_CNT_CZERO_CZERO n, GRD_CNT_CTERMS_CTERMS n, GRD_LAST_VOTE_TESTS n, GRD_LAST_VOTE_VERDICT n,
   GRD_STEP_CNT_CHECKED n, GRD_STEP_CNT_REPLAYED n, GRD_STEP_CNT_FELL_BACK n, SHT_STATUS_BUSY n, SHT_STATUS_OP n]
    ++ (List.range 5).map (LOOM_STEP_HOLD_CYCLES n) ++ (List.range 5).map (LOOM_STEP_HOLD_EVENTS n)
    ++ (List.range 16).map (ACC_SAT_ROWS0_SAT n) ++ (List.range 16).map (ACC_SAT_ROWS1_SAT n)
    ++ (List.range 6).map (GRD_LAST_LAST n) ++ (List.range 8).map (GRD_STEP_REPLAY_MAP n) ++ (List.range 8).map (GRD_STEP_FALLBACK_MAP n)
    ++ (List.range 16).map (SHT_EXM_EXM n) ++ (List.range 32).map (SHT_CREG_COUNT n)
    ++ (List.range 64).map (BOB_STATE_STATE n)

/-- Zeros over both halves of every valid queue of loom n (R272, R427, R502). -/
def State.zeroQueues (s : State) (n : Nat) : State :=
  ((List.range 224).filter fun q => s.is (SHT_QUEUE_VALID n q)).foldl (fun s q =>
    s.spWrite n (s.get (SHT_QUEUE_QBASE n q))
      (List.replicate (128 * s.get (SHT_QUEUE_CAP n q) * s.get (SHT_QUEUE_RSZ_64 n q)) 0) false) s

/-- What loom n waits for from outside no longer has a taker: its reads in other looms' FIFOs and over the fabric, and its
ledger request. -/
def State.forgetWaits (s : State) (n : Nat) : State :=
  let mine (i : Inbound) : Bool := i.kind == .read && (match i.req with | .loomEngine m _ => m.val == n | _ => false)
  let s := (s.looms.map Prod.fst).foldl (fun s m => s.modSpd m fun p => { p with fifo := p.fifo.filter fun i => !mine i }) s
  let s : State := { s with ledger := s.ledger.filter fun r => r.loom != n }
  (s.modFab fun f => { f with reqs := f.reqs.filter fun r => match r.by_ with | .loomRead m _ => m != n | _ => true }).ledgerShow

/-- The engines of loom n stop and hold no credits (R467, R502); accesses in its inbound FIFO stay. -/
def State.haltLoom (s : State) (n : Nat) : State :=
  ((s.forgetWaits n).returnCredits n).setLm n
    { spd := (s.lm n).spd, dma := { tables := (s.lm n).dma.tables }, grd := { clr := (s.lm n).grd.clr }
      seq := { next := (s.lm n).seq.next, writesOut := (s.lm n).seq.writesOut } }

/-- The actions of a loom reset (R502), without the start that follows. -/
def State.clearLoom (s : State) (n : Nat) : State :=
  let s := s.forgetWaits n
  let s := (s.returnCredits n).setLm n
    { spd := (s.lm n).spd, seq := { writesOut := (s.lm n).seq.writesOut }, grd := { clr := (s.lm n).grd.clr } }
  (s.clearAll (loomResetFields n)).zeroQueues n

/-- A loom reset (R502); a loom whose LOOM_CTL.RUN is 1 then starts under R231, unless it is benched and off (R467). -/
def State.loomReset (s : State) (n : Nat) : State :=
  let s := s.clearLoom n
  if s.is (LOOM_CTL_RUN n) && !s.is (LOOM_STATUS_BENCHED n) then s.startLoom n else s

/-- A unit as the 16-bit ARG0 value of R461. -/
def unitOf (kind index : Nat) : Nat := kind + 256 * index

/-- The BENCH record (R454). -/
def State.benchRecord (s : State) (kind index cause : Nat) : State :=
  s.slvEvent 0x0006 2 (le16 (unitOf kind index) ++ [cause])

/-- A loom goes out of service (R467): it stops, returns its credits and is powered off. -/
def State.benchLoomUnit (s : State) (n cause : Nat) : State :=
  let s := s.setMapBit SLV_BENCH_LOOM_MAP n
  let s := (s.haltLoom n).clearAll [LOOM_STATUS_RUN n, LOOM_STATUS_HOLD n, LOOM_STATUS_SLIP n]
  let s := ((s.set (LOOM_STATUS_BENCHED n) 1).set (PWR_DOM_STATE n) 0).benchRecord 0 n cause
  s.writeRec fun r => { r with loomMap := r.loomMap ||| 2 ^ n }

end Sys2Proof.Machine
end

