-- ==== Sys2Proof/Machine/RegAccess.lean ====
section
/-! DEFINITION. Register accesses byte by byte over the register map (R10, R535). -/
namespace Sys2Proof.Machine

/-- Where an address lies in a row of the register map: instance, entry, byte within the register. -/
def rowHit (r : RegShape) (a : Nat) : Option (Nat × Nat × Nat) :=
  if a < r.base then none
  else
    let d := a - r.base
    let n := if r.istride = 0 then 0 else d / r.istride
    let d := d - n * r.istride
    let i := if r.stride = 0 then 0 else d / r.stride
    let b := d - i * r.stride
    if n < r.icount && i < r.count && b < r.bytes then some (n, i, b) else none

/-- The register that holds a byte of the address space, with its fields. -/
structure RegHit where
  shape : RegShape
  inst : Nat
  idx : Nat
  byte : Nat

/-- Look a byte address up in the register map. -/
def findIn (l : List RegShape) (a : Nat) : Option RegHit :=
  match l with
  | [] => none
  | r :: t => match rowHit r a with
    | some (n, i, b) => some ⟨r, n, i, b⟩
    | none => findIn t a

/-- The register at a byte address. -/
def findReg (a : Nat) : Option RegHit := findIn regMap a

/-- The fields of the register that was hit. -/
def RegHit.fields (h : RegHit) : List (Fld × Acc) := h.shape.flds h.inst h.idx

/-- The name of the register at a byte address; empty where no register lies. -/
def regName (a : Nat) : String := match findReg a with | some h => h.shape.name | none => ""

/-- The bits of a field that byte address a carries: the offset of the byte in the field (which may be negative), as the
pair of the field's low bit within the byte and the byte's first bit within the field. -/
def fieldByte (f : Fld) (a : Nat) : Option (Nat × Nat × Nat) :=
  let lo := max f.key (8 * a)
  let hi := min (f.key + f.width) (8 * a + 8)
  if lo < hi then some (lo - 8 * a, lo - f.key, hi - lo) else none

/-- A byte of a register as it reads (R10): WO fields and reserved bits read as zero. -/
def State.regByte (s : State) (a : Nat) : Byte :=
  match findReg a with
  | none => 0
  | some h => BitVec.ofNat 8 <| h.fields.foldl (fun v fa =>
      match fa.2, fieldByte fa.1 a with
      | .wo, _ => v
      | _, some (inByte, inFld, w) => v + bits (s.get fa.1) inFld w * 2 ^ inByte
      | _, none => v) 0

/-- Replace w bits of a number at bit lo. -/
def putBits (v lo w x : Nat) : Nat := v - bits v lo w * 2 ^ lo + x % 2 ^ w * 2 ^ lo

/-- A field after a byte is written at address a (R10, R535). -/
def State.writeField (s : State) (a : Nat) (b : Byte) (fa : Fld × Acc) : State :=
  match fieldByte fa.1 a with
  | none => s
  | some (inByte, inFld, w) =>
    let x := bits b.toNat inByte w
    let v := s.get fa.1
    match fa.2 with
    | .rw | .rws => s.set fa.1 (putBits v inFld w x)
    | .w1c => s.set fa.1 (putBits v inFld w (bits v inFld w - (bits v inFld w &&& x)))
    | .ro | .wo => s

/-- A byte written to a register (R10, R535); one that falls at no register is ignored. -/
def State.regPutByte (s : State) (a : Nat) (b : Byte) : State :=
  match findReg a with
  | none => s
  | some h => h.fields.foldl (fun s fa => s.writeField a b fa) s

/-- Bytes written to registers in ascending address order (R535). -/
def State.regPut (s : State) (a : Nat) : List Byte → State
  | [] => s
  | b :: t => (s.regPutByte a b).regPut (a + 1) t

end Sys2Proof.Machine
end

