-- ==== Sys2Proof/Machine/Codec.lean ====
section
/-! DEFINITION. Tile headers and forms, code tables, and the compressor and expanders of the loom DMA (R105 to R114, R123, R124,
R130 to R146, R152). -/
namespace Sys2Proof.Machine

/-! ### Code tables (R130 to R132) -/

/-- Bytes of a table's LEN and VALUE fields. -/
def tableLens (l : List Byte) : List Nat := nibbles (slice l 4 32)
def tableVals (l : List Byte) : List Nat := (slice l 36 64).map (·.toNat)

/-- Largest symbol of an alphabet (R134). -/
def alphaMax (a : Nat) : Nat := [12, 255, 15].getD a 0

/-- The first check of R131 that a table of these 128 bytes fails; 0: none. -/
def tableStatus (l : List Byte) (poison : Bool) : Nat :=
  let h := leAt l 0 4
  let esc := if bitOf h 14 then some (bits h 8 6) else none
  let lens := tableLens l
  let vals := tableVals l
  let present := (List.range 64).filter fun e => lens.getD e 0 != 0
  let coded := present.filter fun e => some e != esc
  let syms := coded.map fun e => vals.getD e 0
  if h % 16 != 2 then 1
  else if bits h 6 2 != 0 || bitOf h 15 || bits h 4 2 = 3 || !allZero (slice l 100 28) then 2
  else if lens.any fun x => decide (12 < x) then 3
  else if present.isEmpty then 4
  else if (match esc with | some e => !present.contains e | none => false) then 5
  else if (syms.any fun v => decide (alphaMax (bits h 4 2) < v)) || syms.eraseDups.length != syms.length then 6
  else if 4096 < (present.map fun e => 2 ^ (12 - lens.getD e 0)).sum then 7
  else if poison then 8
  else 0

/-- The table of 128 bytes that passed. -/
def tableOf (l : List Byte) : CodeTable :=
  let h := leAt l 0 4
  { alphabet := bits h 4 2, esc := if bitOf h 14 then some (bits h 8 6) else none, tag := bits h 16 16
    lens := tableLens l, vals := tableVals l }

/-- Entries of length len take consecutive codes from `code` (R132). -/
def codesOfLen (lens : List Nat) (len code : Nat) : List (Nat × Nat × Nat) :=
  let es := (List.range 64).filter fun e => lens.getD e 0 == len
  ((List.range es.length).zip es).map fun x => (len, code + x.1, x.2)

/-- Canonical codes from length len on (R132): length, code, entry; on fuel. -/
def codesFrom (lens : List Nat) : Nat → Nat → Nat → List (Nat × Nat × Nat)
  | 0, _, _ => []
  | k + 1, len, code =>
    let l := codesOfLen lens len code
    l ++ codesFrom lens k (len + 1) (2 * (code + l.length))

/-- The canonical codes of a table (R132). -/
def CodeTable.codes (t : CodeTable) : List (Nat × Nat × Nat) := codesFrom t.lens 12 1 0

/-! ### Decoding a lane (R133, R134, R139, R140, R152) -/

/-- k stream bits from position p, the first the most significant (R133); bits past the last word are zero. -/
def streamBits (v p k : Nat) : Nat := (List.range k).foldl (fun a i => 2 * a + b2n (v.testBit (p + i))) 0

/-- Bits of an escape's literal (R134). -/
def litBits (a : Nat) : Nat := if a = 1 then 8 else 4

/-- The zero value of an alphabet: the zero pair, exponent 0, FP4 code 0 (R152). -/
def zeroSym (a : Nat) : Nat := if a = 0 then 4 else 0

/-- The values that a symbol yields (R134). -/
def symVals (a v : Nat) : List Nat :=
  if a = 0 then (if v ≤ 8 then [v] else if v ≤ 12 then List.replicate (2 ^ (v - 7)) 4 else [4]) else [v]

/-- One symbol decoded at a position: its bits, whether it takes a decode cycle of its own and one more, and its values. -/
structure Sym where
  len : Nat
  slow : Bool
  vals : List Nat
  deriving DecidableEq, Repr

/-- Decode the symbol at stream position p (R133, R134, R152). -/
def symAt (t : CodeTable) (codes : List (Nat × Nat × Nat)) (v p : Nat) : Sym :=
  match codes.find? fun c => streamBits v p c.1 == c.2.1 with
  | none => ⟨12, true, [zeroSym t.alphabet]⟩
  | some (len, _, e) =>
    if t.esc = some e then
      ⟨len + litBits t.alphabet, true, symVals t.alphabet (streamBits v (p + len) (litBits t.alphabet))⟩
    else ⟨len, decide (8 < len), symVals t.alphabet (t.vals.getD e 0)⟩

/-- The short symbols that one decode cycle takes (R139): their values and the next position; on fuel. -/
def shortRun (t : CodeTable) (codes : List (Nat × Nat × Nat)) (v n : Nat) : Nat → Nat → Nat → Nat → List Nat → List Nat × Nat
  | 0, p, _, _, out => (out, p)
  | k + 1, p, bits, outs, out =>
    if n ≤ out.length then (out, p)
    else
      let y := symAt t codes v p
      if y.slow || 32 < bits + y.len || 32 < outs + y.vals.length then (out, p)
      else shortRun t codes v n k (p + y.len) (bits + y.len) (outs + y.vals.length) (out ++ y.vals)

/-- Decode n values of a lane in `cycles` decode cycles (R139, R140): values not reached are zero. DESIGN CHOICE (log 137): an escape, a
long code or an unassigned codeword yields its values in the second of its two cycles, so one met in a lane's last cycle yields none. -/
def laneCycles (t : CodeTable) (codes : List (Nat × Nat × Nat)) (v n : Nat) : Nat → Nat → List Nat → List Nat
  | 0, _, out => out
  | c + 1, p, out =>
    if n ≤ out.length then out
    else
      let y := symAt t codes v p
      if y.slow then
        match c with
        | 0 => out
        | d + 1 => laneCycles t codes v n d (p + y.len) (out ++ y.vals)
      else
        let (o, q) := shortRun t codes v n 33 p 0 0 out
        laneCycles t codes v n c q o

/-- n values of a lane: the excess of a run is dropped and values not decoded are zero (R140, R152). -/
def decodeLane (t : CodeTable) (v n cycles : Nat) : List Nat :=
  let l := (laneCycles t t.codes v n cycles 0 []).take n
  l ++ List.replicate (n - l.length) (zeroSym t.alphabet)

/-- The stream of lane i of a payload of rows of 256 bytes (R133, R137). -/
def laneStream (payload : List Byte) (rows i : Nat) : Nat :=
  leNat ((List.range rows).flatMap fun r => slice payload (256 * r + 4 * i) 4)

/-- Decode 64 lanes of n values each. -/
def decodeLanes (t : CodeTable) (payload : List Byte) (rows n cycles : Nat) : List (List Nat) :=
  (List.range 64).map fun i => decodeLane t (laneStream payload rows i) n cycles

/-! ### Coding a lane (R135, R139) -/

/-- A symbol that the compressor writes: its stream bits, whether it is an escape, its code length, and its values. -/
structure OutSym where
  bits : List Bool
  esc : Bool
  len : Nat
  cnt : Nat
  deriving DecidableEq, Repr

/-- The bits of a number, the most significant of k first. -/
def msbFirst (k v : Nat) : List Bool := (List.range k).map fun i => v.testBit (k - 1 - i)

/-- The code of a symbol in the table: length and code (R135). -/
def CodeTable.codeOf (t : CodeTable) (v : Nat) : Option (Nat × Nat) :=
  (t.codes.find? fun c => t.esc != some c.2.2 && t.vals.getD c.2.2 0 == v).map fun c => (c.1, c.2.1)

/-- Code one symbol that yields cnt values: its own code, an escape with its literal, or none where it cannot be coded. -/
def CodeTable.emit (t : CodeTable) (v cnt : Nat) : Option OutSym :=
  match t.codeOf v with
  | some (len, code) => some ⟨msbFirst len code, false, len, cnt⟩
  | none => match t.esc with
    | none => none
    | some e => match t.codes.find? fun c => c.2.2 == e with
      | some (len, code, _) => some ⟨msbFirst len code ++ msbFirst (litBits t.alphabet) v, true, len, cnt⟩
      | none => none

/-- The longest run symbol in the table that fits k zero pairs, with its length (R135). -/
def CodeTable.run (t : CodeTable) (k : Nat) : Option (Nat × Nat) :=
  [(12, 32), (11, 16), (10, 8), (9, 4)].find? fun r => r.2 ≤ k && (t.codeOf r.1).isSome

/-- Code a lane's values in order, on fuel (R135); none: the unit is not codable. -/
def CodeTable.codeLane (t : CodeTable) : Nat → List Nat → Option (List OutSym)
  | 0, _ => some []
  | k + 1, l =>
    match l with
    | [] => some []
    | v :: rest =>
      let (sym, cnt) := match (if t.alphabet = 0 && v = 4 then t.run (l.takeWhile (· == 4)).length else none) with
        | some (y, c) => (y, c)
        | none => (v, 1)
      match t.emit sym cnt, t.codeLane k (if cnt = 1 then rest else l.drop cnt) with
      | some y, some ys => some (y :: ys)
      | _, _ => none

/-- Symbols that one decode cycle takes beyond the first it looks at (R139), on fuel. -/
def cycleTake : Nat → Nat → List OutSym → List OutSym
  | _, _, [] => []
  | bits, outs, y :: t =>
    if !y.esc && y.len ≤ 8 && bits + y.len ≤ 32 && outs + y.cnt ≤ 32 then cycleTake (bits + y.len) (outs + y.cnt) t else y :: t

/-- Decode cycles of a lane (R139), on fuel. -/
def laneTime : Nat → List OutSym → Nat
  | 0, _ => 0
  | k + 1, l =>
    match l with
    | [] => 0
    | y :: t => if y.esc || 8 < y.len then 2 + laneTime k t else 1 + laneTime k (cycleTake 0 0 l)

/-- A number from its bits, bit 0 first. -/
def bitsNat (l : List Bool) : Nat := l.foldr (fun b a => b2n b + 2 * a) 0

/-- The coded form of 64 lanes (R137, R139): the rows, the payload, and the greatest decode cycles of a lane. -/
def CodeTable.code (t : CodeTable) (lanes : List (List Nat)) : Option (Nat × List Byte × Nat) :=
  let cs := lanes.map fun l => t.codeLane (l.length + 1) l
  if cs.any Option.isNone then none
  else
    let cs := cs.map fun c => c.getD []
    let streams := cs.map fun c => c.flatMap OutSym.bits
    let rows := (streams.map fun b => ceilDiv b.length 32).foldl max 0
    let nums := streams.map bitsNat
    let payload := (List.range rows).flatMap fun r => nums.flatMap fun v => leBytes 4 (v / 2 ^ (32 * r))
    some (rows, payload, (cs.map fun c => laneTime (c.length + 1) c).foldl max 0)

/-! ### Tile headers (R106 to R109) -/

/-- Slot size of a tile of a kind, and its RAW payload length (R105, R109). -/
def tileSlot (kind : Nat) : Nat := if kind = 0 then 13184 else 6592
def rawLen (kind : Nat) : Nat := if kind = 0 then 13108 else 6554
/-- L_W of a kind (R70). -/
def loadOf (kind : Nat) : Nat := if kind = 0 then 52 else 26
/-- Tile K of a kind. -/
def kOf (kind : Nat) : Nat := if kind = 0 then 128 else 64

/-- A tile header (R106). -/
structure TileHdr where
  form : Nat
  kind : Nat
  decode : Nat
  ovf : Nat
  nnz : Nat
  len : Nat
  recs : Nat
  data : Nat
  deriving DecidableEq, Repr

/-- Read a tile header (R106). -/
def tileHdr (h : Nat) : TileHdr :=
  { form := bits h 4 3, kind := bits h 7 1, decode := bits h 16 8, ovf := bits h 24 2, nnz := bits h 32 17, len := bits h 64 14
    recs := bits h 80 9, data := bits h 96 16 }

/-- The eight 16-bit words of a header. -/
def hdrWords (h : Nat) : List Nat := (List.range 8).map fun i => bits h (16 * i) 16

/-- RECLEN and C of a sparse form (R111, R112). -/
def recLen (form : Nat) : Nat := if form = 2 then 6 else 5
def signsOf (form : Nat) : Nat := if form = 2 then 16 else 8
/-- Groups of a tile (R112). -/
def groupsOf (kind : Nat) : Nat := if kind = 0 then 2048 else 1024

/-- The limits of R109 and R138; `table` is the valid table of the slot that the load names. -/
def limitsOk (kind : Nat) (table : Option CodeTable) (x : TileHdr) : Bool :=
  x.nnz ≤ kOf kind * 512 &&
  (if x.form = 0 then x.len == rawLen kind && x.decode == loadOf kind && x.ovf == 0 && x.recs == 0
   else if x.form = 1 then
     x.len % 256 == 0 && 256 ≤ x.len && decide (x.len < rawLen kind) && 1 + x.len / 256 ≤ x.decode && x.decode ≤ loadOf kind
       && (match table with | some t => t.alphabet == 0 && t.tag % 256 == x.data % 256 | none => false)
       && x.data < 256 && x.ovf == 0 && x.recs == 0
   else
     x.ovf ≤ (if x.form = 2 then 1 else 3) && x.len == groupsOf kind * recLen x.form + 8 * x.recs && x.len ≤ rawLen kind
       && x.decode == ceilDiv (16 + x.len) 256)

/-- The first check of R108 that a header fails on a loom of a kind; 0: none. -/
def hdrStatus (kind : Nat) (table : Option CodeTable) (h : Nat) : Nat :=
  let x := tileHdr h
  if h % 16 != 2 then 1
  else if 3 < x.form then 2
  else if x.kind != kind then 3
  else if bits h 8 8 != 0 || bits h 26 6 != 0 || bits h 49 15 != 0 || bits h 78 2 != 0 || bits h 89 7 != 0
      || (x.form != 1 && x.data != 0) then 4
  else if (hdrWords h).sum % 65536 != 0xFFFF then 5
  else if !limitsOk kind table x then 6
  else 0

/-- Sixteen header bytes with their check word (R107). -/
def hdrBytes (x : TileHdr) : List Byte :=
  let h := packFields16 x
  leBytes 16 (h + (65535 - (hdrWords h).sum % 65536) * 2 ^ 112)
where
  packFields16 (x : TileHdr) : Nat :=
    2 + x.form * 2 ^ 4 + x.kind * 2 ^ 7 + x.decode * 2 ^ 16 + x.ovf * 2 ^ 24 + x.nnz * 2 ^ 32 + x.len * 2 ^ 64 + x.recs * 2 ^ 80
      + x.data * 2 ^ 96

/-! ### Tile payloads (R60, R111 to R114, R124, R136) -/

/-- Trits by block group and column from the rows of a tile. -/
def groupTrits (kind : Nat) (rows : List (List Int)) : List (List (List Int)) :=
  (chunks 32 (kOf kind / 32) rows).map byColumn

/-- Rows of a RAW payload (R60). -/
def rawRows (kind : Nat) (payload : List Byte) : List (List Int) := chunks 512 (kOf kind) (unpackTrits (kOf kind * 512) payload)

/-- The trits of a pair symbol (R134). -/
def pairTrits (v : Nat) : List Int := [((v % 3 : Nat) : Int) - 1, ((v / 3 : Nat) : Int) - 1]

/-- Rows of a CODED payload (R136, R140). -/
def codedRows (kind : Nat) (t : CodeTable) (x : TileHdr) (payload : List Byte) : List (List Int) :=
  let lanes := decodeLanes t payload (x.len / 256) (4 * kOf kind) (x.decode - 1)
  (byColumn (lanes.map fun l => chunks 8 (kOf kind) (l.flatMap pairTrits))).map List.flatten

/-- A group's 32 trits from its mask and the signs of its nonzeros: `i` nonzeros are placed already (R112, R114). -/
def groupOf (mask signs ext C : Nat) : Nat → Nat → Nat → List Int
  | 0, _, _ => []
  | k + 1, j, i =>
    if bitOf mask j then
      (if (if i < C then bitOf signs i else bitOf ext (i - C)) then -1 else 1) :: groupOf mask signs ext C k (j + 1) (i + 1)
    else 0 :: groupOf mask signs ext C k (j + 1) i

/-- Trits of an S2 or S4 payload (R112 to R114, R124): the last overflow record that names a group applies. -/
def sparseTrits (kind form recs : Nat) (payload : List Byte) : List (List (List Int)) :=
  let C := signsOf form
  let r := recLen form
  let main := groupsOf kind * r
  let list := (List.range recs).map fun i => leAt payload (main + 8 * i) 8
  (List.range (kOf kind / 32)).map fun b => (List.range 512).map fun n =>
    let q := b * 512 + n
    let ext := list.foldl (fun a v => if bits v 0 12 = q then bits v 16 24 else a) 0
    groupOf (leAt payload (q * r) 4) (leAt payload (q * r + 4) (r - 4)) ext C 32 0 0

/-- A tile that passed the checks of R108, as a weight buffer holds it (R114, R115, R119). -/
def bufferOf (kind : Nat) (table : Option CodeTable) (x : TileHdr) (payload : List Byte) (poison : Bool) : WBuf :=
  { trits := match x.form with
      | 0 => groupTrits kind (rawRows kind payload)
      | 1 => match table with | some t => groupTrits kind (codedRows kind t x payload) | none => []
      | f => sparseTrits kind f x.recs payload
    sparseC := if x.form = 2 then 16 else if x.form = 3 then 8 else 0
    x := x.ovf, load := x.decode, poison }

/-- The trits of a tile that passed the checks of R108, as a RAW payload (R60). -/
def tileRaw (kind : Nat) (table : Option CodeTable) (x : TileHdr) (payload : List Byte) : List Byte :=
  packTrits (rawLen kind) ((bufferOf kind table x payload false).trits.flatMap byColumn).flatten

/-! ### Choosing a form (R123, R141) -/

/-- Nonzeros of a group. -/
def nonzeros (g : List Int) : Nat := g.countP (· != 0)

/-- A sparse form of a tile (R112, R113, R123): its X, overflow groups and payload length. -/
def sparseShape (kind form : Nat) (groups : List (List Int)) : Nat × Nat × Nat :=
  let C := signsOf form
  let ps := groups.map nonzeros
  let big := ps.filter fun p => C < p
  ((big.map fun p => ceilDiv (p - C) C).foldl max 0, big.length, groupsOf kind * recLen form + 8 * big.length)

/-- One step of the choice of R123: the best form so far with its step cost and load. -/
def tryForm (kind allowed : Nat) (groups : List (List Int)) (best : Nat × Nat × Nat) (f : Nat) : Nat × Nat × Nat :=
  let (X, _, len) := sparseShape kind f groups
  let R := 32 / signsOf f
  let load := ceilDiv (16 + len) 256
  let step := 4 / R * (1 + X)
  if !bitOf allowed f || rawLen kind < len || 4 < step || loadOf kind < load then best
  else if step < best.2.1 || (step = best.2.1 && load < best.2.2) then (f, step, load)
  else best

/-- The signs of a group's nonzeros from position lo, k of them, as a number. -/
def signBits (g : List Int) (lo k : Nat) : Nat := bitsNat ((((g.filter (· != 0)).drop lo).take k).map fun t => decide (t < 0))

/-- An S2 or S4 payload (R112, R113). -/
def sparsePayload (form : Nat) (groups : List (List Int)) : List Byte :=
  let C := signsOf form
  (groups.flatMap fun g => leBytes 4 (bitsNat (g.map (· != 0))) ++ leBytes (recLen form - 4) (signBits g 0 C))
    ++ ((List.range groups.length).zip groups).flatMap fun e =>
      if C < nonzeros e.2 then leBytes 8 (e.1 + signBits e.2 C 24 * 2 ^ 16) else []

/-- What a store makes of a unit: its bytes, 0 where it is stored coded, 1 where coding was permitted and failed for size or an
absent symbol, 2 where it failed for time, 3 where none of these counts, and the bytes that coding saved. -/
structure Stored where
  data : List Byte
  why : Nat
  saved : Nat
  deriving DecidableEq, Repr

/-- Pair symbols of lane i (R134, R136). -/
def lanePairs (kind : Nat) (rows : List (List Int)) (i : Nat) : List Nat :=
  let l := rows.flatMap fun r => (r.drop (8 * i)).take 8
  (chunks 2 (4 * kOf kind) l).map fun p => (p.getD 0 0 + 1).toNat + 3 * (p.getD 1 0 + 1).toNat

/-- The slot of a stored tile (R105, R123, R141): `table` is given where coding is permitted and may be tried; `permitted` says
that it is permitted. -/
def storeTile (kind allowed : Nat) (permitted : Bool) (table : Option CodeTable) (payload : List Byte) : Stored :=
  let rows := rawRows kind payload
  let groups := (groupTrits kind rows).flatten
  let nnz := (groups.map nonzeros).sum
  let pad (l : List Byte) : List Byte := slice l 0 (tileSlot kind)
  let dense : Nat × Nat × List Byte × Nat × Nat :=
    match (match table with | some t => if permitted && t.alphabet = 0 then t.code ((List.range 64).map (lanePairs kind rows)) else none | none => none) with
    | some (r, p, c) =>
      if rawLen kind ≤ 256 * r then (0, loadOf kind, [], 1, 0)
      else if loadOf kind < 1 + c then (0, loadOf kind, [], 2, 0)
      else (1, 1 + c, p, 0, (table.map fun t => t.tag % 256).getD 0)
    | none => (0, loadOf kind, [], if permitted then 1 else 3, 0)
  let (dform, dload, dpay, why, tag) := dense
  let best := [2, 3].foldl (tryForm kind allowed groups) (dform, 4, dload)
  if best.1 = 1 then
    ⟨pad (hdrBytes ⟨1, kind, dload, 0, nnz, dpay.length, 0, tag⟩ ++ dpay), 0, rawLen kind - dpay.length⟩
  else if best.1 = 0 then
    ⟨pad (hdrBytes ⟨0, kind, loadOf kind, 0, nnz, rawLen kind, 0, 0⟩ ++ packTrits (rawLen kind) rows.flatten), why, 0⟩
  else
    let (X, n, len) := sparseShape kind best.1 groups
    ⟨pad (hdrBytes ⟨best.1, kind, best.2.2, X, nnz, len, n, 0⟩ ++ sparsePayload best.1 groups), 3, 0⟩

/-! ### Chunks and FP4 units (R143 to R146) -/

/-- Decode a stored BF16 chunk (R143). -/
def decodeChunk (t : CodeTable) (rows : Nat) (l : List Byte) : List Byte :=
  let ex := (decodeLanes t (l.drop 2048) rows 32 31).flatten
  ((l.take 2048).zip ex).flatMap fun e => leBytes 2 (e.1.toNat / 128 * 32768 + e.2 % 256 * 128 + e.1.toNat % 128)

/-- Decode a stored FP4 unit or plane of n nibbles a lane within `cycles` (R144). -/
def decodeFp4 (t : CodeTable) (rows n cycles : Nat) (l : List Byte) : List Byte :=
  packNibbles ((decodeLanes t l rows n cycles).flatten.map (· % 16))

/-- The outcome of coding a unit: its ROWS and payload, or why it stays plain (1 size or symbol, 2 time). -/
def codeUnit (t : CodeTable) (lanes : List (List Nat)) (head limit plainTime : Nat) : (Nat × List Byte) ⊕ Nat :=
  match t.code lanes with
  | none => .inr 1
  | some (r, p, c) =>
    if limit ≤ head + 256 * r then .inr 1 else if plainTime < 1 + c then .inr 2 else .inl (r, p)

/-- A BF16 chunk coded (R143, R146): ROWS and stored bytes. -/
def codeChunk (t : CodeTable) (l : List Byte) : (Nat × List Byte) ⊕ Nat :=
  let es := (chunks 2 2048 l).map leNat
  match codeUnit t (chunks 32 64 (es.map fun e => e / 128 % 256)) 2048 4096 32 with
  | .inl (r, p) => .inl (r, (es.map fun e => BitVec.ofNat 8 (e / 32768 * 128 + e % 128)) ++ p)
  | .inr k => .inr k

/-- FP4 nibbles coded in 64 lanes of n (R144, R146). -/
def codeFp4 (t : CodeTable) (n plainTime : Nat) (l : List Byte) : (Nat × List Byte) ⊕ Nat :=
  codeUnit t (chunks n 64 (nibbles l)) 0 (32 * n) plainTime

end Sys2Proof.Machine
end

