-- ==== Sys2Proof/Machine/Tiers.lean ====
section
/-! DEFINITION. The flash tier and the neighbour tier: tier command rings, objects, the FTL, model images and leases (R347 to R363). -/
namespace Sys2Proof.Machine

/-! ### Accesses of the tier engines (R333, R345, R354) -/

/-- Read one piece at a fabric address for a tier command. -/
def tierPiece (tenant : Nat) (raw : Bool) (a len : Nat) : Rd RdData := fun l s =>
  if fabChip a = s.chip then
    let x := fabLocal a
    match placeOf x with
    | .hbm => let (r, s) := s.hbmRead .host tenant raw x len; .done r l s
    | _ =>
      let st := s.outStatus x
      .done ⟨st, List.replicate len 0, List.replicate len (st == 2)⟩ l (s.refusedAt .host tenant x st)
  else match l with
    | [] => .need a len
    | r :: t => .done ⟨r.status, slice r.data 0 len, List.replicate len (r.poison || r.status == 5)⟩ t s

/-- Read the pieces of a range. -/
def tierPieces (tenant : Nat) (raw : Bool) : List (Nat × Nat) → Rd RdData
  | [] => rdPure ⟨0, [], []⟩
  | x :: t => rdBind (tierPiece tenant raw x.1 x.2) fun r => rdBind (tierPieces tenant raw t) fun q =>
      rdPure ⟨if r.status = 0 then q.status else r.status, r.data ++ q.data, r.pois ++ q.pois⟩

/-- Read len bytes at a fabric address for a tier command. -/
def tierRange (tenant : Nat) (raw : Bool) (a len : Nat) : Rd RdData := tierPieces tenant raw (pieces a len)

/-- Write one piece at a fabric address for engine e: its status, OK while the answer is still to come. -/
def State.tierPutPiece (s : State) (e tenant : Nat) (raw : Bool) (a : Nat) (d : List Byte) (pois : List Bool) : Nat × State :=
  if fabChip a = s.chip then
    let x := fabLocal a
    match placeOf x with
    | .hbm => s.hbmPost .host tenant raw x d pois
    | _ => (s.outStatus x, s.refusedAt .host tenant x (s.outStatus x))
  else
    let go (s : State) : State :=
      (s.request (.tierWrite e) { ptype := 0, cls := 3, ackreq := true, poison := pois.any id, len := d.length, dst := fabChip a,
                                  src := s.chip, addr := a, tenant, payload := d }).modTierOp e
        fun o => { o with writesOut := o.writesOut + 1 }
    match s.leaseAt a with
    | none => (0, go s)
    | some i =>
      if s.get (NBT_BORROW_STATE i) = 3 then
        (3, s.report { mkRec 13 0 0x303 2 (some a) 0 tenant (s.reqDetail .host) with fabric := true })
      else (0, go (s.dirtyMark i a d.length))

/-- Write bytes at a fabric address for engine e; the status is the first that is not OK. -/
def State.tierPut (s : State) (e tenant : Nat) (raw : Bool) (a : Nat) (d : List Byte) (pois : List Bool) : Nat × State :=
  (pieces a d.length).foldl (fun r x =>
    let (st, s) := r.2.tierPutPiece e tenant raw x.1 ((d.drop (x.1 - a)).take x.2) ((pois.drop (x.1 - a)).take x.2)
    (if r.1 = 0 then st else r.1, s)) (0, s)

/-- The status of a flash read with a codeword that cannot be had. -/
def lostWord : Nat := 0x100

/-- The tier status of an access status (R31, R351, R357, R376): a benched stack gives poison and the command goes on. -/
def tierStatus (st : Nat) : Nat := if st = 0 || st = 2 then 0 else if st ≤ 3 then 2 else if st = lostWord then 7 else 0x0B

/-- Write, as a step of a tier command: its tier status. -/
def tierWr (e tenant : Nat) (raw : Bool) (a : Nat) (d : List Byte) (pois : List Bool) : Rd Nat := fun l s =>
  let (st, s) := s.tierPut e tenant raw a d pois
  .done (tierStatus st) l s

/-- Steps in order until one answers a status other than OK. -/
def rdAll {α : Type} (f : α → Rd Nat) : List α → Rd Nat
  | [] => rdPure 0
  | a :: t => rdBind (f a) fun st => if st = 0 then rdAll f t else rdPure st

/-! ### Ring entries (R348, R351, R361) -/

/-- Registers of a ring: base, size, tail, head (R361). -/
def ringBase (nbt : Bool) : Fld := if nbt then NBT_RING_BASE_ADDR else FTL_RING_BASE_ADDR
def ringSize (nbt : Bool) : Fld := if nbt then NBT_RING_SIZE_ENTRIES else FTL_RING_SIZE_ENTRIES
def ringTail (nbt : Bool) : Fld := if nbt then NBT_RING_TAIL_TAIL else FTL_RING_TAIL_TAIL
def ringHead (nbt : Bool) : Fld := if nbt then NBT_RING_HEAD_HEAD else FTL_RING_HEAD_HEAD

/-- A ring size that R361 and R329 accept. -/
def ringOk (n : Nat) : Bool := 64 ≤ n && n ≤ 65536 && n == 2 ^ Nat.log2 n

/-- A tier command (R348). -/
structure TierCmd where
  op : Nat
  prot : Bool
  tenant : Nat
  addr : Nat
  len : Nat
  id : Nat
  offset : Nat
  arg : Nat
  deriving DecidableEq, Repr

/-- Read the fields of an entry (R348). -/
def tierCmdOf (l : List Byte) : TierCmd :=
  { op := bits (leAt l 0 4) 4 8, prot := bitOf (leAt l 0 4) 12, tenant := bits (leAt l 4 4) 0 10, addr := leAt l 8 8
    len := leAt l 16 8, id := leAt l 24 4, offset := leAt l 32 8, arg := leAt l 40 8 }

/-- An entry that R6 or R7 refuses. -/
def tierEntryBad (l : List Byte) : Bool :=
  bits (leAt l 0 4) 0 4 != 2 || bits (leAt l 0 4) 13 19 != 0 || bits (leAt l 4 4) 10 22 != 0 || !allZero (slice l 28 4)
    || bits (leAt l 57 1) 1 7 != 0 || !allZero (slice l 58 6)

/-- The operations of an engine (R349). -/
def tierOps (nbt : Bool) : List Nat := if nbt then [0x11, 0x12, 0x13, 0x14, 0x15, 0x16, 0x17, 0x18] else [1, 2, 3, 4, 5, 6]

/-- The REGIONS entry that the Card image gives the FTL's map (R356, R417). -/
def State.mapRegion (s : State) : Option Nat :=
  let v := leAt (tget [] s.card 1) 20 2
  if bitOf v 15 then some (v % 4096) else none

/-- The flash tier is enabled: FTL_CTL.EN, and the Card image gives the FTL's map a region (R363, R417). -/
def State.flashOn (s : State) : Bool := s.is FTL_CTL_EN && s.mapRegion.isSome

/-- An object has a unit on channel c: a command on it touches the channel (R464). -/
def State.touches (s : State) (id c : Nat) : Bool := s.tiers.map.any fun e => e.1 / 2 ^ 64 == id && (e.2 - 1) / 2 ^ 32 == c

/-- An object has a unit on a channel that a TEST drains: the FTL does not start its command (R464). -/
def State.chanDrains (s : State) (id : Nat) : Bool :=
  match s.mgmt.test with
  | some t => t.unit % 16 == 4 && s.touches id (t.unit / 256)
  | none => false

/-- Channel c takes no command: it is benched, or a TEST drains it (R464, R467). -/
def State.chanOut (s : State) (c : Nat) : Bool :=
  bitOf s.mgmt.outChans c || (match s.mgmt.test with | some t => t.unit == 4 + 256 * c | none => false)

/-- The entry at the ring's head, with its local address and whether it reads poisoned, where the engine can take it. -/
def State.ringEntry (s : State) (nbt : Bool) : Option (Nat × RdData × State) :=
  let n := s.get (ringSize nbt)
  let head := s.get (ringHead nbt)
  if !ringOk n || (!nbt && !s.flashOn) || s.get (ringTail nbt) % n = head || (s.tiers.ops.any fun x => x.1 == b2n nbt) then none
  else
    let a := s.get (ringBase nbt) + 64 * head
    let (r, t) := s.devRead a 64
    some (a, r, t)

/-- A command has completed: RESULT, STATUS and then DONE are written into its entry (R347, R348). -/
def State.answerTier (s : State) (entry status result : Nat) : State :=
  (s.devWrite (entry + 48) (leBytes 8 result ++ leBytes 1 status) false).devWrite (entry + 57) [1] false

/-- A refused command is recorded (R506 to R508), the FTL's with the object that it names. -/
def State.recordTier (s : State) (nbt : Bool) (status tenant id : Nat) : State :=
  if status = 0 then s
  else s.report (mkRec (if nbt then 13 else 14) 0 (0x200 + status) 2 none 0 tenant (if nbt then [] else List.replicate 8 0 ++ le32 id))

/-- A command that its checks end is answered and, where they refuse it, recorded. -/
def State.endTier (s : State) (nbt : Bool) (entry status result tenant id : Nat) : State :=
  (s.answerTier entry status result).recordTier nbt status tenant id

/-- The engine goes on to the next entry. -/
def State.nextEntry (s : State) (nbt : Bool) : State := s.set (ringHead nbt) ((s.get (ringHead nbt) + 1) % s.get (ringSize nbt))

/-- Process the entry at the head as operation `op` (R348): an entry of another operation is left to its own command; one that is
refused, or whose OP is reserved, is answered REQ_INVALID; else `k` performs it. -/
def State.ringTake (s : State) (nbt : Bool) (op : Nat) (k : Nat → TierCmd → List Byte → State → State) : State :=
  match s.ringEntry nbt with
  | none => s
  | some (a, r, t) =>
    let c := tierCmdOf r.data
    if s.stacksAsleep then t
    else if c.op != op && (tierOps nbt).contains c.op then s
    else if c.op != op || tierEntryBad r.data || r.status != 0 || r.pois.any id
        || (nbt && (c.offset % 4096 != 0 || c.len % 4096 != 0 || decide (65536 ≤ c.id))) then
      (t.endTier nbt a 1 0 c.tenant c.id).nextEntry nbt
    else if !nbt && s.chanDrains c.id then s
    else k a c r.data t

/-- A command that completes at once. -/
def State.ringDo (s : State) (nbt : Bool) (op : Nat) (k : TierCmd → State → Nat × Nat × State) : State :=
  s.ringTake nbt op fun a c _ t =>
    let (st, res, t) := k c t
    (t.endTier nbt a st res c.tenant c.id).nextEntry nbt

/-! ### Commands that move data (R348, R350) -/

/-- Run a tier command as far as its reads allow: it moves its data whole, or sends its next read and waits. -/
def State.runTier (s : State) (e : Nat) (o : TierOp) (f : Rd (Nat × Nat)) : State :=
  let s := s.modTiers fun t => { t with ops := t.ops.filter (fun x => x.1 != e) ++ [(e, o)] }
  match f o.got s with
  | .done r _ t => t.modTierOp e fun o => { o with done := some r }
  | .need a len =>
    (s.modTierOp e fun o => { o with waiting := true }).request (.tierRead e)
      { ptype := 1, cls := 3, len, dst := fabChip a, src := s.chip, addr := a, tenant := (tierCmdOf o.cmd).tenant }

/-! ### The FTL (R349, R356, R357) -/

/-- Bytes of a logical unit. -/
def flashUnit : Nat := 16384

/-- Key of an offset or a unit of an object. -/
def objKey (id x : Nat) : Nat := id * 2 ^ 64 + x

/-- The object of an ID. -/
def State.flashObj (s : State) (id : Nat) : Option FlashObj := s.tiers.objs.find? fun o => o.id == id

/-- Units written to an object. -/
def State.objUnits (s : State) (id : Nat) : Nat := (s.tiers.map.filter fun e => e.1 / 2 ^ 64 == id).length

/-- FLASH_USED of a tenant: the 64 KiB units of its objects (R347). -/
def State.flashUsed (s : State) (tenant : Nat) : Nat :=
  ((s.tiers.objs.filter fun o => o.tenant == tenant).map fun o => ceilDiv (s.objUnits o.id) 4).sum

/-- Logical units of raw capacity on the trained channels. -/
def State.flashRaw (s : State) : Nat := (s.tiers.chans.map fun c => c.2.blkUnits * c.2.blocks).sum

/-- Key of a block of a channel. -/
def blkKey (c b : Nat) : Nat := c * 2 ^ 32 + b

/-- A block. -/
def State.flashBlk (s : State) (k : Nat) : FlashBlk := tget {} s.tiers.blks k
/-- Change a block. -/
def State.modBlk (s : State) (k : Nat) (f : FlashBlk → FlashBlk) : State :=
  s.modTiers fun t => { t with blks := tput {} t.blks k (f (tget {} t.blks k)) }
/-- The channel of a block. -/
def State.blkChan (s : State) (k : Nat) : FlashChan := tget ⟨0, 0, 16, 1, []⟩ s.tiers.chans (k / 2 ^ 32)
/-- A block may be used: neither retired nor marked bad at the factory, on a trained channel. -/
def State.blkGood (s : State) (k : Nat) : Bool :=
  !(s.flashBlk k).bad && !(s.blkChan k).bad.contains (k % 2 ^ 32) && k % 2 ^ 32 < (s.blkChan k).blocks
/-- Logical units of usable capacity (R356): 93 % of raw less the retired blocks. -/
def State.flashUsable (s : State) : Nat :=
  s.flashRaw * 93 / 100 - ((s.tiers.blks.filter fun b => b.2.bad).map fun b => (s.blkChan b.1).blkUnits).sum
/-- Logical units that are written. -/
def State.flashMapped (s : State) : Nat := s.tiers.map.length

/-- FTL_CAP_USABLE, FTL_CAP_FREE and the tenant's FLASH_USED follow the FTL's state. -/
def State.flashShow (s : State) (tenant : Nat) : State :=
  ((s.set FTL_CAP_USABLE_UNITS (s.flashUsable / 4)).set FTL_CAP_FREE_UNITS ((s.flashUsable - s.flashMapped) / 4)).set
    (HBM_TQ_FLASH_USED (tenant % 1024)) (s.flashUsed tenant)

/-- The first block of a channel, from b on, with room for a unit; on fuel. -/
def State.roomFrom (s : State) (c : Nat) (avoid : Nat → Bool) : Nat → Nat → Option Nat
  | 0, _ => none
  | k + 1, b =>
    let x := blkKey c b
    if s.blkGood x && !s.chanOut c && (s.flashBlk x).prog < (s.blkChan x).blkUnits && !avoid x then some x else s.roomFrom c avoid k (b + 1)

/-- A block with room for a unit: the lowest (log 45). -/
def State.roomBlk (s : State) (avoid : Nat → Bool) : Option Nat :=
  s.tiers.chans.findSome? fun c => s.roomFrom c.1 avoid c.2.blocks 0

/-- Pages that a unit takes on a channel. -/
def unitPages (c : FlashChan) : Nat := max 1 (16 / c.pageKib)

/-- The map's entry of a logical unit follows it to its place in the map's region, 4 bytes for each unit of raw capacity (R356). DESIGN
CHOICE (log 139): which entry, and what it holds, are free. -/
def State.mapShow (s : State) (key : Nat) : State :=
  match s.mapRegion with
  | none => s
  | some i =>
    let b := tget 0 s.tiers.map key
    let a := 4 * (Config.mapSlot key % max 1 s.flashRaw)
    if 65536 * s.get (HBM_RGN_SIZE_64K i) < a + 4 then s
    else s.memWrite (s.rgnBase i + a) (leBytes 4 (Config.mapEntry key b (s.flashBlk (b - 1)).prog).toNat) false

/-- Program a unit into a block. -/
def State.progUnit (s : State) (key blk : Nat) : State :=
  let s := (s.modTiers fun t => { t with map := tput 0 t.map key (blk + 1) }).mapShow key
  (s.modBlk blk fun b => { b with prog := b.prog + 1 }).add (FTL_CH_CNT_PROG_N (blk / 2 ^ 32)) (unitPages (s.blkChan blk))

/-- Count the reads of one unit of a block. -/
def State.readUnit (s : State) (blk : Nat) : State :=
  (s.modBlk blk fun b => { b with reads := b.reads + 1 }).add (FTL_CH_CNT_READ_N (blk / 2 ^ 32)) (unitPages (s.blkChan blk))

/-- Valid units of a block. -/
def State.blkUnitsOf (s : State) (blk : Nat) : List Nat := (s.tiers.map.filter fun e => e.2 == blk + 1).map Prod.fst

/-- DETAIL of a record of the FTL (R508): the block's channel, its target and its number, and the object. -/
def State.ftlDetail (s : State) (blk id : Nat) : List Nat :=
  let c := s.blkChan blk
  [blk / 2 ^ 32, blk % 2 ^ 32 / max 1 (ceilDiv c.blocks (max 1 c.targets)), 0, 0] ++ le32 (blk % 2 ^ 32) ++ le32 id

/-- A block on which a program or an erase has failed is used no more, counted and recorded with the object whose unit was to be
programmed (R356, R508, R510). -/
def State.condemn (s : State) (blk id : Nat) : State :=
  let s := s.modBlk blk fun b => { b with bad := true }
  (((s.addHold FTL_CNT_RETIRED_BLOCKS 1).set FTL_ERR_RETIRE 1).report (mkRec 14 0 0x102 0 none 0 0 (s.ftlDetail blk id))).flashShow 0

/-- Program units into blocks with room outside `avoid`; `move` tells that a unit is read from where it lies. A block in `fails` fails its
program: it is condemned, and its valid units are relocated before the unit is tried elsewhere (R356). A unit for which no room is found
stays. On fuel. -/
def State.placeUnits (fails : List Nat) (avoid : Nat → Bool) : Nat → List (Nat × Bool) → State → State
  | 0, _, s => s
  | _ + 1, [], s => s
  | k + 1, (key, move) :: t, s =>
    match s.roomBlk avoid with
    | none => State.placeUnits fails avoid k t s
    | some x =>
      if fails.contains x then
        State.placeUnits fails avoid k ((s.blkUnitsOf x).map (fun u => (u, true)) ++ (key, move) :: t) (s.condemn x (key / 2 ^ 64))
      else
        let at_ := tget 0 s.tiers.map key
        State.placeUnits fails avoid k t ((if move && at_ != 0 then s.readUnit (at_ - 1) else s).progUnit key x)

/-- Place a list of units; every failing block adds at most the units that are mapped. -/
def State.place (s : State) (fails : List Nat) (avoid : Nat → Bool) (l : List (Nat × Bool)) : State :=
  State.placeUnits fails avoid (l.length + 1 + fails.length * (s.flashMapped + l.length + 1)) l s

/-- Units that can be programmed before a block is erased. -/
def State.flashRoom (s : State) : Nat :=
  (s.tiers.chans.flatMap fun c => (List.range c.2.blocks).map fun b =>
    let x := blkKey c.1 b
    if s.blkGood x && !s.chanOut c.1 then c.2.blkUnits - (s.flashBlk x).prog else 0).sum

/-- Relocate the valid units of a block into others. -/
def State.relocate (s : State) (fails : List Nat) (blk : Nat) : State :=
  s.place fails (· == blk) ((s.blkUnitsOf blk).map fun u => (u, true))

/-- Erase a block that holds no valid unit; one whose erase fails is condemned (R356). -/
def State.eraseBlk (s : State) (fails : List Nat) (blk : Nat) : State :=
  if !(s.blkUnitsOf blk).isEmpty || (s.flashBlk blk).bad then s
  else
    let s := s.add (FTL_CH_CNT_ERASE_N (blk / 2 ^ 32)) 1
    if fails.contains blk then s.condemn blk 0 else s.modBlk blk fun b => { b with prog := 0, reads := 0, erases := b.erases + 1 }

/-- GARBAGE_COLLECTION (R356): the programmed block with the fewest valid units that is not full of them. -/
def State.gcVictim (s : State) : Option Nat :=
  let l := (s.tiers.blks.filter fun b => b.2.prog != 0 && s.blkGood b.1).map fun b => (b.1, (s.blkUnitsOf b.1).length, b.2.prog)
  let l := l.filter fun b => decide (b.2.1 < b.2.2)
  (l.foldl (fun (m : Option (Nat × Nat)) b => match m with
    | none => some (b.1, b.2.1)
    | some x => if b.2.1 < x.2 then some (b.1, b.2.1) else m) none).map Prod.fst

/-- Collect one block. -/
def State.collect (s : State) (fails : List Nat) : State :=
  match s.gcVictim with
  | none => s
  | some b => (s.relocate fails b).eraseBlk fails b

/-- Collect until more room is left than a block holds, so that the units of the next block collected find room (R356): what lies beyond
the usable capacity is the collection's reserve. On fuel. -/
def State.makeRoom (fails : List Nat) : Nat → State → State
  | 0, s => s
  | k + 1, s =>
    if (s.tiers.chans.map fun c => c.2.blkUnits).foldl max 0 < s.flashRoom || s.gcVictim.isNone then s
    else State.makeRoom fails k (s.collect fails)

/-- Collect as far as the reserve needs it. -/
def State.keepReserve (s : State) (fails : List Nat) : State := State.makeRoom fails (s.tiers.blks.length + 1) s

/-- GARBAGE_COLLECTION (R356): valid units of a block are relocated and the block is erased. `fails` names the blocks that fail a program
or an erase. -/
def execGarbageCollection (s : State) (fails : List Nat := []) : Host.Outcome State Fault Refusal := .next (s.collect fails)

/-- READ_REFRESH (R356): a block that has reached FTL_RD_THR reads has its valid units relocated. -/
def execReadRefresh (block : Nat) (s : State) (fails : List Nat := []) : Host.Outcome State Fault Refusal :=
  .next <|
    if s.get FTL_RD_THR_READS ≤ (s.flashBlk block).reads && s.blkGood block && (s.flashBlk block).prog != 0
    then (((s.keepReserve fails).relocate fails block).eraseBlk fails block).add FTL_CNT_REFRESH_BLOCKS 1 else s

/-- The least erased usable block that holds data, with its erase count. -/
def State.leastWorn (s : State) : Option (Nat × Nat) :=
  (s.tiers.blks.filter fun b => s.blkGood b.1 && !(s.blkUnitsOf b.1).isEmpty).foldl (fun (m : Option (Nat × Nat)) b => match m with
    | none => some (b.1, b.2.erases)
    | some x => if b.2.erases < x.2 then some (b.1, b.2.erases) else m) none

/-- The erase counts of the usable blocks. -/
def State.eraseCounts (s : State) : List Nat :=
  ((s.tiers.chans.flatMap fun c => (List.range c.2.blocks).map (blkKey c.1)).filter s.blkGood).map fun k => (s.flashBlk k).erases

/-- The largest and smallest erase counts differ by more than FTL_WL_DELTA (R356). -/
def State.wornUneven (s : State) : Bool :=
  match s.eraseCounts with
  | [] => false
  | h :: t => decide (s.get FTL_WL_DELTA_ERASES < t.foldl max h - t.foldl min h)

/-- WEAR_LEVEL (R356): where the largest and smallest erase counts differ by more than FTL_WL_DELTA, the data of the least erased
block that holds data is relocated. -/
def execWearLevel (s : State) (fails : List Nat := []) : Host.Outcome State Fault Refusal :=
  .next <|
    if !s.wornUneven then s
    else
      let t := s.keepReserve fails
      match t.leastWorn with
      | some (b, _) => (t.relocate fails b).eraseBlk fails b
      | none => t

/-- Place a unit (R356): the reserve for collections is kept first; a block that fails its program is retired. None where no block has
room: the write completes with FULL. -/
def State.placeUnit (s : State) (fails : List Nat) (key : Nat) : Option State :=
  let t := (s.modTiers fun t => { t with map := tput 0 t.map key 0 }).keepReserve fails
  let t := t.place fails (fun _ => false) [(key, false)]
  if tget 0 t.tiers.map key = 0 then none else some t

/-- Place the units of a write in order, as far as there is room; whether all were placed. -/
def State.placeAll (fails : List Nat) : List Nat → State → Bool × State
  | [], s => (true, s)
  | k :: t, s => match s.placeUnit fails k with
    | some u => State.placeAll fails t u
    | none => (false, s)

/-- Store bytes of an object from offset o, with their poison. -/
def State.objPut (s : State) (id o : Nat) (d : List Byte) (pois : List Bool) : State :=
  s.modTiers fun t =>
    { t with
      data := putBytes t.data (objKey id o) d
      pois := (List.range (ceilDiv d.length 64)).foldl (fun m i =>
        tput 0 m (objKey id (o + 64 * i)) (b2n (((pois.drop (64 * i)).take 64).any (fun p => p)))) t.pois }

/-- A 4 KiB codeword of an object cannot be had: it does not decode, or its channel is benched (R357, R467). -/
def State.cwLost (s : State) (id w : Nat) (uncorr : List Nat) : Bool :=
  let blk := tget 0 s.tiers.map (objKey id (w / 4))
  uncorr.contains w || (blk != 0 && bitOf s.mgmt.outChans ((blk - 1) / 2 ^ 32))

/-- Bytes of an object from offset o, with their poison: the 4 KiB codewords listed do not decode, and neither does a unit on a
benched channel (R357, R467). -/
def State.objGet (s : State) (id o n : Nat) (uncorr : List Nat) : List Byte × List Bool :=
  ((List.range n).map fun i =>
    let x := o + i
    if s.cwLost id (x / 4096) uncorr then ((0 : Byte), true) else (tget 0 s.tiers.data (objKey id x), tget 0 s.tiers.pois (objKey id (x / 64 * 64)) != 0)).unzip

/-- The object belongs to another tenant (R351). -/
def foreign (c : TierCmd) (tenant : Nat) : Bool := c.tenant != 0 && tenant != c.tenant

/-- CREATE (R349). -/
def execCreate (s : State) : Host.Outcome State Fault Refusal :=
  .next <| s.ringDo false 1 fun c s =>
    if c.id = 0 then (1, 0, s)
    else if (s.flashObj c.id).isSome then (5, 0, s)
    else (0, 0, s.modTiers fun t => { t with objs := t.objs ++ [⟨c.id, c.tenant, c.arg, 0⟩] })

/-- DELETE (R349). -/
def execDelete (s : State) : Host.Outcome State Fault Refusal :=
  .next <| s.ringDo false 5 fun c s =>
    match s.flashObj c.id with
    | none => (if c.id = 0 then 1 else 4, 0, s)
    | some o =>
      if foreign c o.tenant then (2, 0, s)
      else
        let mine (k : Nat) : Bool := k / 2 ^ 64 == c.id
        let keys := (s.tiers.map.map Prod.fst).filter mine
        let t := s.modTiers fun t =>
          { t with objs := t.objs.erase o, map := t.map.filter fun e => !mine e.1, data := t.data.filter fun e => !mine e.1
                   pois := t.pois.filter fun e => !mine e.1 }
        (0, 0, (keys.foldl (fun t k => t.mapShow k) t).flashShow o.tenant)

/-- STAT (R349). -/
def execStat (s : State) : Host.Outcome State Fault Refusal :=
  .next <| s.ringDo false 6 fun c s =>
    match s.flashObj c.id with
    | none => (if c.id = 0 then 1 else 4, 0, s)
    | some o => if foreign c o.tenant then (2, 0, s) else (0, o.len, s)

/-- What WRITE moves (R349, R356): the bytes come from ADDR, and each unit that they touch is placed anew. -/
def writeRun (c : TierCmd) (fails : List Nat) : Rd (Nat × Nat) :=
  rdBind (tierRange c.tenant c.prot c.addr c.len) fun r =>
    if tierStatus r.status != 0 then rdPure (tierStatus r.status, 0)
    else fun l s =>
      let first := c.offset / flashUnit
      let tenant := ((s.flashObj c.id).map FlashObj.tenant).getD 0
      let (ok, t) := State.placeAll fails ((List.range (ceilDiv c.len flashUnit)).map fun i => objKey c.id (first + i)) s
      if !ok then .done (6, 0) l (s.flashShow tenant)
      else
        let s := t.objPut c.id c.offset r.data r.pois
        let s := s.modTiers fun t =>
          { t with objs := t.objs.map fun o => if o.id = c.id then { o with len := max o.len (c.offset + c.len) } else o }
        .done (0, 0) l (s.flashShow tenant)

/-- The checks of a WRITE (R349, R351, R356): its status. -/
def State.writeStatus (s : State) (c : TierCmd) : Nat :=
  if c.id = 0 || c.offset % flashUnit != 0 then 1
  else match s.flashObj c.id with
    | none => 4
    | some o =>
      if foreign c o.tenant then 2
      else if (c.len % flashUnit != 0 && c.offset + c.len < o.len) || o.cap < c.offset + c.len then 1
      else
        let fresh := ((List.range (ceilDiv c.len flashUnit)).filter fun i =>
          tget 0 s.tiers.map (objKey c.id (c.offset / flashUnit + i)) == 0).length
        let after := s.flashUsed o.tenant - ceilDiv (s.objUnits c.id) 4 + ceilDiv (s.objUnits c.id + fresh) 4
        if o.tenant != 0 && s.get (HBM_TQ_FLASH_QUOTA o.tenant) < after then 3
        else if s.flashUsable < s.flashMapped + fresh then 6
        else 0

/-- A range of an object that may be read (R349). -/
def State.readStatus (s : State) (c : TierCmd) : Nat :=
  if c.id = 0 then 1
  else match s.flashObj c.id with
    | none => 4
    | some o => if foreign c o.tenant then 2 else 0

/-- Codewords of a range of an object. -/
def codewords (o n : Nat) : List Nat := (List.range (ceilDiv (o % 4096 + n) 4096)).map fun i => o / 4096 + i

/-- Each codeword read that no retry decodes is counted and recorded (R357). -/
def State.flashUncorr (s : State) (id : Nat) (cws : List Nat) (tenant : Nat) (uncorr : List Nat) : State :=
  (cws.filter uncorr.contains).foldl (fun s w =>
    let blk := tget 0 s.tiers.map (objKey id (w / 4)) - 1
    ((s.add FTL_CNT_UNCORR_CW 1).set FTL_ERR_UNCORR 1).report (mkRec 14 0 0x100 1 none 0 tenant (s.ftlDetail blk id))) s

/-- The rereads at shifted thresholds of the codewords read (R357): a codeword that fails has had FTL_CTL.RETRY_MAX of them, and none has had more;
`retried` says how many the others had. -/
def State.flashRetries (s : State) (l : List Nat) (uncorr : List Nat) (retried : Nat) : State :=
  let m := s.get FTL_CTL_RETRY_MAX
  s.add FTL_CNT_RETRY_READS (max (m * l.countP uncorr.contains) (min retried (m * l.length)))

/-- Count the reads of the units of [o, o + n). -/
def State.readUnits (s : State) (id o n : Nat) : State :=
  (List.range (ceilDiv (o % flashUnit + n) flashUnit)).foldl (fun s i =>
    let b := tget 0 s.tiers.map (objKey id (o / flashUnit + i))
    if b = 0 then s else s.readUnit (b - 1)) s

/-- What READ moves (R349, R357). -/
def readRun (e : Nat) (c : TierCmd) (uncorr : List Nat) (retried : Nat) : Rd (Nat × Nat) := fun l s =>
  let (d, p) := s.objGet c.id c.offset c.len uncorr
  let cws := codewords c.offset c.len
  let s := ((s.readUnits c.id c.offset c.len).flashRetries cws uncorr retried).flashUncorr c.id cws c.tenant uncorr
  let (st, s) := s.tierPut e c.tenant c.prot c.addr d p
  let lost := cws.any fun w => s.cwLost c.id w uncorr
  .done (if tierStatus st != 0 then tierStatus st else if lost then 7 else 0, 0) l s

/-! ### Model images (R352) -/

/-- A source of image bytes: n bytes at an offset with their poison. A status other than OK ends the walk where the walker needs the bytes
for its own. -/
abbrev ImgSrc := Nat → Nat → Rd RdData

/-- A segment of an image (R352). -/
structure Seg where
  dest : Nat
  kind : Nat
  units : Nat
  src : Nat
  len : Nat
  bad : Bool
  deriving DecidableEq, Repr

/-- Read a segment entry (R352). -/
def segOf (l : List Byte) : Seg :=
  { dest := leAt l 0 8, kind := leAt l 8 1, units := leAt l 12 4, src := leAt l 16 8, len := leAt l 24 8
    bad := !allZero (slice l 9 3) || leAt l 0 8 % 64 != 0 || leAt l 16 8 % 64 != 0 || decide (4 < leAt l 8 1) }

/-- Full-size slot of a unit of a segment kind. -/
def segSlot (kind : Nat) : Nat := if kind = 1 then 13184 else if kind = 2 then 6592 else 4096

/-- A tile header passes R108 for the walker, which names no table. -/
def walkHdrOk (kind h : Nat) : Bool := hdrStatus kind (some ⟨0, none, (tileHdr h).data % 256, [], []⟩) h == 0

/-- Segments that break R352 against the image length, the span and each other. -/
def segsBad (imgLen span : Nat) : Option Seg → List Seg → Bool
  | _, [] => false
  | prev, g :: t =>
    g.bad || imgLen < g.src + g.len
      || span < g.dest + (if g.kind = 0 then g.len else g.units * segSlot g.kind)
      || (3 ≤ g.kind && (match prev with | some p => p.kind != 0 || decide (p.len < 2 * g.units) | none => true))
      || segsBad imgLen span (some g) t

/-- Place the units of a tile segment from unit u on, `at_` bytes into its data; on fuel. -/
def walkTiles (src : ImgSrc) (put : Nat → RdData → Rd Nat) (g : Seg) : Nat → Nat → Nat → Rd Nat
  | 0, _, at_ => rdPure (if at_ = g.len then 0 else 8)
  | k + 1, u, at_ =>
    rdBind (src (g.src + at_) 16) fun h =>
      let n := ceil64 (16 + (tileHdr (leNat h.data)).len)
      if tierStatus h.status != 0 then rdPure (tierStatus h.status)
      else if h.pois.any id || !walkHdrOk (g.kind - 1) (leNat h.data) || g.len < at_ + n then rdPure 8
      else rdBind (src (g.src + at_) n) fun r => rdBind (put (g.dest + u * segSlot g.kind) r) fun st =>
        if st != 0 then rdPure st else walkTiles src put g k (u + 1) (at_ + n)

/-- Place the units of a chunk or FP4 segment by the length entries of the PLAIN segment before it; none reaches beyond the destination
span. -/
def walkUnits (span : Nat) (src : ImgSrc) (put : Nat → RdData → Rd Nat) (g p : Seg) : Nat → Nat → Nat → Rd Nat
  | 0, _, at_ => rdPure (if at_ = g.len then 0 else 8)
  | k + 1, u, at_ =>
    rdBind (src (p.src + 2 * u) 2) fun e =>
      let rows := leNat e.data % 16
      let n := if rows = 0 then 4096 else (if g.kind = 3 then 2048 else 0) + 256 * rows
      if tierStatus e.status != 0 then rdPure (tierStatus e.status)
      else if e.pois.any id || g.len < at_ + n || span < g.dest + 4096 * u + n then rdPure 8
      else rdBind (src (g.src + at_) n) fun r => rdBind (put (g.dest + 4096 * u) r) fun st =>
        if st != 0 then rdPure st else walkUnits span src put g p k (u + 1) (at_ + n)

/-- Place the segments in order (R352). -/
def walkSegs (span : Nat) (src : ImgSrc) (put : Nat → RdData → Rd Nat) : Option Seg → List Seg → Rd Nat
  | _, [] => rdPure 0
  | prev, g :: t =>
    rdBind (if g.kind = 0 then rdBind (src g.src g.len) (put g.dest)
        else if g.kind ≤ 2 then walkTiles src put g g.units 0 0
        else match prev with
          | some p => walkUnits span src put g p g.units 0 0
          | none => rdPure 8) fun st =>
      if st != 0 then rdPure st else walkSegs span src put (some g) t

/-- Walk an image of at most `limit` bytes (R352): the header and the segment list are checked whole before anything is placed. -/
def walkImage (limit : Nat) (src : ImgSrc) (put : Nat → RdData → Rd Nat) : Rd Nat :=
  rdBind (src 0 64) fun h =>
    let segs := leAt h.data 4 4
    let imgLen := leAt h.data 8 8
    if tierStatus h.status != 0 then rdPure (tierStatus h.status)
    else if h.pois.any id || leAt h.data 0 4 != 2 || segs = 0 || 4096 < segs || !allZero (slice h.data 24 40) || limit < imgLen then rdPure 8
    else rdBind (src 64 (32 * segs)) fun r =>
      let l := (chunks 32 segs r.data).map segOf
      if tierStatus r.status != 0 then rdPure (tierStatus r.status)
      else if r.pois.any id || segsBad imgLen (leAt h.data 16 8) none l then rdPure 8 else walkSegs (leAt h.data 16 8) src put none l

/-- What READIMG moves (R352, R357, R467): where a codeword that the walker needs for its own, of a header, a segment or a length entry,
cannot be had, the walk ends with FLASH_UNCORR; one of the units' data leaves its range poisoned, and the rest is moved. -/
def readimgRun (e : Nat) (c : TierCmd) (uncorr : List Nat) (retried : Nat) : Rd (Nat × Nat) :=
  rdBind (rdGet fun s => s) fun s0 =>
    let len := ((s0.flashObj c.id).map FlashObj.len).getD 0
    let src : ImgSrc := fun o n => fun l s =>
      let cws := codewords o n
      let (d, p) := s.objGet c.id o n uncorr
      let s := (s.readUnits c.id o n).modTiers fun t => { t with seen := t.seen ++ cws.filter fun w => !t.seen.contains w }
      .done ⟨if cws.any fun w => s.cwLost c.id w uncorr then lostWord else 0, d, p⟩ l s
    let walk := rdBind (rdMod fun s => s.modTiers fun t => { t with seen := [] }) fun _ =>
      walkImage len src fun o r => tierWr e c.tenant c.prot (c.addr + o) r.data r.pois
    rdBind walk fun st => fun l s =>
      let cws := s.tiers.seen
      let lost := cws.any fun w => s.cwLost c.id w uncorr
      .done (if st = 0 && lost then 7 else st, 0) l
        (((s.flashRetries cws uncorr retried).flashUncorr c.id cws c.tenant uncorr).modTiers fun t => { t with seen := [] })

/-- What COPYIMG moves (R352). -/
def copyimgRun (e : Nat) (c : TierCmd) : Rd (Nat × Nat) :=
  rdBind (walkImage (2 ^ 64) (fun o n => tierRange c.tenant c.prot (c.arg + o) n)
    fun o r => if tierStatus r.status != 0 then rdPure (tierStatus r.status) else tierWr e c.tenant c.prot (c.addr + o) r.data r.pois)
    fun st => rdPure (st, 0)

/-! ### Leases (R353 to R355) -/

/-- The lease message of a type to a peer (R353). -/
def State.leaseMsg (s : State) (dst type lease tenant base pages dl : Nat) : State :=
  s.send (s.msg dst 0 0x10 (leBytes 2 (2 + 16 * type) ++ leBytes 2 lease ++ leBytes 4 tenant ++ leBytes 8 base ++ leBytes 4 pages
    ++ leBytes 4 dl ++ List.replicate 8 0))

/-- The fields of a lent lease that its messages repeat. -/
def State.lendMsg (s : State) (i type dl : Nat) : State :=
  s.leaseMsg (s.get (NBT_LEND_PEER i)) type (s.get (NBT_LEND_LEASE i)) (s.get (NBT_LEND_TENANT i)) (s.get (NBT_LEND_BASE i))
    (s.get (NBT_LEND_PAGES i)) dl
/-- The same of a borrowed lease. -/
def State.borrowMsg (s : State) (i type : Nat) : State :=
  s.leaseMsg (s.get (NBT_BORROW_PEER i)) type (s.get (NBT_BORROW_LEASE i)) (s.get (NBT_BORROW_TENANT i)) (s.get (NBT_BORROW_BASE i))
    (s.get (NBT_BORROW_PAGES i)) 0

/-- A peer can be reached (R351, R381, R383). -/
def State.reachable (s : State) (dst : Nat) : Bool := (s.route (s.msg dst 0 0x10 (List.replicate 32 0))).isSome

/-- Fields of a borrowed lease, and of a lent one. -/
def borrowFields (i : Nat) : List Fld :=
  [NBT_BORROW_LEVEL i, NBT_BORROW_STATE i, NBT_BORROW_PEER i, NBT_BORROW_LEASE i, NBT_BORROW_TENANT i, NBT_BORROW_BASE i, NBT_BORROW_PAGES i,
   NBT_BORROW_LEFT_US i, NBT_BORROW_BITMAP i]
def lendFields (i : Nat) : List Fld :=
  [NBT_LEND_LEVEL i, NBT_LEND_STATE i, NBT_LEND_PEER i, NBT_LEND_LEASE i, NBT_LEND_TENANT i, NBT_LEND_BASE i, NBT_LEND_PAGES i, NBT_LEND_LEFT_US i,
   NBT_LEND_BITMAP i]

/-- The lease's own times are forgotten. -/
def State.forget (s : State) (k : Nat) : State :=
  s.modTiers fun t => { t with missed := tput 0 t.missed k 0, due := tput 0 t.due k 0 }

/-- NBT_USED of the lease's tenant goes down. -/
def State.unborrow (s : State) (i : Nat) : State :=
  let t := s.get (NBT_BORROW_TENANT i)
  s.set (HBM_TQ_NBT_USED t) (s.get (HBM_TQ_NBT_USED t) - s.get (NBT_BORROW_PAGES i))

/-- A borrowed lease becomes FREE. -/
def State.freeBorrow (s : State) (i : Nat) : State := (s.clearAll (borrowFields i)).forget i
/-- A lent lease becomes FREE: its region is no longer lent (R353, R355). -/
def State.freeLend (s : State) (i : Nat) : State :=
  let s := match s.regionAt (s.get (NBT_LEND_BASE i)) with
    | some r => if s.get (NBT_LEND_STATE i) = 1 then s else (s.set (HBM_RGN_LENT r) 0).set (HBM_RGN_PEER_EN r) 0
    | none => s
  (s.clearAll (lendFields i)).forget (256 + i)

/-- A borrowed lease is LOST (R355); a WRITEBACK of it whose last writes are still to be acknowledged completes with LOST, as one that
still copies does when it goes on. -/
def State.loseLease (s : State) (i : Nat) : State :=
  let lost (o : TierOp) : Bool := (tierCmdOf o.cmd).op == 0x15 && (tierCmdOf o.cmd).id % 65536 == s.get (NBT_BORROW_LEASE i)
  let s := s.modTierOp 1 fun o => if lost o && o.done.isSome then { o with done := some (0x0A, 0) } else o
  let s := (s.unborrow i).set (NBT_BORROW_STATE i) 4
  let s := (s.forget i).set (NBT_BORROW_LEFT_US i) 0
  ((s.set NBT_ERR_LOST 1).add NBT_CNT_LOST_LOST 1).report
    (mkRec 13 0 0x100 4 (some (s.get (NBT_BORROW_BITMAP i))) 0 (s.get (NBT_BORROW_TENANT i)) [])

/-- The borrowed lease of an ID in one of some states: the lowest entry. -/
def State.borrowed (s : State) (id : Nat) (sts : List Nat) : Option Nat :=
  (List.range 256).find? fun i => sts.contains (s.get (NBT_BORROW_STATE i)) && s.get (NBT_BORROW_LEASE i) == id % 65536
/-- The lent lease of an ID in one of some states. -/
def State.lent (s : State) (id : Nat) (sts : List Nat) : Option Nat :=
  (List.range 256).find? fun i => sts.contains (s.get (NBT_LEND_STATE i)) && s.get (NBT_LEND_LEASE i) == id % 65536

/-- A borrowed lease that a command names (R351): its entry, or the status. -/
def State.leaseFor (s : State) (c : TierCmd) (sts : List Nat) : Nat ⊕ Nat :=
  match s.borrowed c.id sts with
  | none => .inr 9
  | some i => if !sts.contains 1 && foreign c (s.get (NBT_BORROW_TENANT i)) then .inr 2 else .inl i

/-- OFFSET and LEN are multiples of 4 KiB within the lease (R349). -/
def State.leaseRangeBad (s : State) (c : TierCmd) (i : Nat) : Bool :=
  c.offset % 4096 != 0 || c.len % 4096 != 0 || decide (65536 * s.get (NBT_BORROW_PAGES i) < c.offset + c.len)

/-- The region that a LEND names exactly (R353). -/
def State.lendRegion (s : State) (c : TierCmd) : Option Nat :=
  s.validRegions.find? fun i => s.rgnBase i == c.addr && 65536 * s.get (HBM_RGN_SIZE_64K i) == c.len && s.get (HBM_RGN_TENANT i) == 0
    && !s.is (HBM_RGN_FIXED i) && !s.is (HBM_RGN_PROT i) && !s.is (HBM_RGN_LENT i)

/-- LEND (R349, R353): the lease is offered; the command completes when the peer has answered. -/
def execLend (s : State) : Host.Outcome State Fault Refusal :=
  .next <| s.ringTake true 0x11 fun a c _ s =>
    let free := (List.range 256).find? fun i => s.get (NBT_LEND_STATE i) == 0
    let busy := (List.range 256).any fun i => s.get (NBT_LEND_STATE i) != 0 && s.get (NBT_LEND_BASE i) == c.addr
    match s.lendRegion c, free with
    | some _, some i =>
      let peer := bits c.arg 0 14
      if busy || c.arg != peer || peer = s.chip then (s.endTier true a 1 0 c.tenant c.id).nextEntry true
      else if !s.reachable peer then (s.endTier true a 0x0B 0 c.tenant c.id).nextEntry true
      else
        let s := (((((s.set (NBT_LEND_LEVEL i) 2).set (NBT_LEND_STATE i) 1).set (NBT_LEND_PEER i) peer).set (NBT_LEND_LEASE i) i).set (NBT_LEND_BASE i) c.addr).set
          (NBT_LEND_PAGES i) (c.len / 65536)
        ((s.modTiers fun t => { t with lends := t.lends ++ [(i, a)] }).lendMsg i 1 0).nextEntry true
    | _, _ => (s.endTier true a 1 0 c.tenant c.id).nextEntry true

/-- ACCEPT (R349, R353). -/
def execAccept (s : State) : Host.Outcome State Fault Refusal :=
  .next <| s.ringDo true 0x12 fun c s =>
    match s.leaseFor c [1] with
    | .inr st => (st, 0, s)
    | .inl i =>
      let t := c.tenant
      let used := s.get (HBM_TQ_NBT_USED t) + s.get (NBT_BORROW_PAGES i)
      if c.arg < hbmBase || hbmEnd < c.arg + 2 * s.get (NBT_BORROW_PAGES i) then (1, 0, s)
      else if t != 0 && s.get (HBM_TQ_NBT_QUOTA t) < used then (3, 0, s)
      else if !s.reachable (s.get (NBT_BORROW_PEER i)) then (0x0B, 0, s)
      else
        let s := ((s.set (NBT_BORROW_STATE i) 2).set (NBT_BORROW_TENANT i) t).set (NBT_BORROW_BITMAP i) c.arg
        (0, 0, (s.set (HBM_TQ_NBT_USED t) used).borrowMsg i 2)

/-- DECLINE (R349, R353). -/
def execDecline (s : State) : Host.Outcome State Fault Refusal :=
  .next <| s.ringDo true 0x13 fun c s =>
    match s.leaseFor c [1] with
    | .inr st => (st, 0, s)
    | .inl i => (0, 0, (s.borrowMsg i 3).freeBorrow i)

/-- RECLAIM (R349, R353): the deadline runs from the send. -/
def execReclaim (s : State) : Host.Outcome State Fault Refusal :=
  .next <| s.ringDo true 0x14 fun c s =>
    match s.lent c.id [2] with
    | none => (9, 0, s)
    | some i =>
      if foreign c (s.get (NBT_LEND_TENANT i)) then (2, 0, s)
      else if 2 ^ 32 ≤ c.arg then (1, 0, s)
      else if !s.reachable (s.get (NBT_LEND_PEER i)) then (0x0B, 0, s)
      else
        let s := (s.set (NBT_LEND_STATE i) 3).set (NBT_LEND_LEFT_US i) c.arg
        let s := s.modTiers fun t => { t with due := tput 0 t.due (256 + i) (s.now + 5000 * c.arg) }
        (0, 0, s.lendMsg i 4 c.arg)

/-- A dirty bit of a lease is set. -/
def State.subDirty (s : State) (i sub : Nat) : Bool :=
  bitOf (((s.devRead (s.get (NBT_BORROW_BITMAP i) + sub / 8) 1).1.data.getD 0 0).toNat) (sub % 8)

/-- Clear the dirty bit of a sub-page. -/
def State.cleanSub (s : State) (i sub : Nat) : State :=
  let a := s.get (NBT_BORROW_BITMAP i) + sub / 8
  let (r, s) := s.devRead a 1
  let b := (r.data.getD 0 0).toNat
  s.devWrite a [BitVec.ofNat 8 (if bitOf b (sub % 8) then b - 2 ^ (sub % 8) else b)] false

/-- Sub-pages of a command's range. -/
def subsOf (c : TierCmd) : List Nat := (List.range (c.len / 4096)).map fun k => c.offset / 4096 + k

/-- WRITEBACK goes on (R354): the sub-page whose read has come is written to ADDR, and the next dirty one has its bit cleared before its
copy starts, so that a write that lands during the copy sets it again. -/
def State.writebackGo (s : State) (e : Nat) (o : TierOp) : State :=
  let c := tierCmdOf o.cmd
  let ended (s : State) (st : Nat) : State := s.modTierOp e fun o => { o with got := [], done := some (st, if st = 0 then 4096 * o.moved else 0) }
  match s.borrowed c.id [2, 3] with
  | none => ended s 0x0A
  | some i =>
    let (st, s) := match o.got with
      | [] => (0, s)
      | r :: _ =>
        if tierStatus r.status != 0 then (tierStatus r.status, s)
        else
          let (st, s) := s.tierPut e c.tenant c.prot (c.addr + (4096 * (o.next - 1) - c.offset)) (slice r.data 0 4096)
            (List.replicate 4096 (r.poison || r.status == 5))
          (tierStatus st, s.add NBT_CNT_WB_BYTES 4096)
    if st != 0 then ended s st
    else match (subsOf c).find? fun k => decide (o.next ≤ k) && s.subDirty i k with
      | none => ended s 0
      | some k =>
        let a := s.get (NBT_BORROW_PEER i) * 2 ^ 50 + s.get (NBT_BORROW_BASE i) + 4096 * k
        ((s.cleanSub i k).modTierOp e fun o => { o with got := [], waiting := true, next := k + 1, moved := o.moved + 1 }).request (.tierRead e)
          { ptype := 1, cls := 3, len := 4096, dst := fabChip a, src := s.chip, addr := a, tenant := c.tenant }

/-- CLEAN (R349). -/
def execClean (s : State) : Host.Outcome State Fault Refusal :=
  .next <| s.ringDo true 0x16 fun c s =>
    match s.leaseFor c [2, 3] with
    | .inr st => (st, 0, s)
    | .inl i => if s.leaseRangeBad c i then (1, 0, s) else (0, 0, (subsOf c).foldl (fun s k => s.cleanSub i k) s)

/-- RELEASE (R349, R354): refused while a dirty bit of the lease is set. -/
def execRelease (s : State) : Host.Outcome State Fault Refusal :=
  .next <| s.ringDo true 0x17 fun c s =>
    match s.leaseFor c [2, 3] with
    | .inr st => (st, 0, s)
    | .inl i =>
      if (List.range (16 * s.get (NBT_BORROW_PAGES i))).any (s.subDirty i) then (9, 0, s)
      else if !s.reachable (s.get (NBT_BORROW_PEER i)) then (0x0B, 0, s)
      else (0, 0, ((s.borrowMsg i 5).unborrow i).freeBorrow i)

/-! ### The commands that move data -/

/-- What a command of engine e other than WRITEBACK moves. -/
def tierRun (e : Nat) (o : TierOp) : Rd (Nat × Nat) :=
  let c := tierCmdOf o.cmd
  if c.op = 2 then writeRun c o.fails
  else if c.op = 3 then readRun e c o.uncorr o.retried
  else if c.op = 4 then readimgRun e c o.uncorr o.retried
  else copyimgRun e c

/-- The command of engine e begins or goes on. -/
def State.moveTier (s : State) (e : Nat) (o : TierOp) : State :=
  if (tierCmdOf o.cmd).op = 0x15 then (s.modTiers fun t => { t with ops := t.ops.filter (fun x => x.1 != e) ++ [(e, o)] }).writebackGo e o
  else s.runTier e o (tierRun e o)

/-- Begin a command that moves data, unless its checks give a status. -/
def State.tierBegin (s : State) (nbt : Bool) (a : Nat) (c : TierCmd) (o : TierOp) (st : Nat) : State :=
  if st != 0 then (s.endTier nbt a st 0 c.tenant c.id).nextEntry nbt else (s.nextEntry nbt).moveTier (b2n nbt) o

/-- WRITE (R349, R356). -/
def execWrite (fails : List Nat) (s : State) : Host.Outcome State Fault Refusal :=
  .next <| s.ringTake false 2 fun a c l s => s.tierBegin false a c { cmd := l, entry := a, fails } (s.writeStatus c)

/-- READ (R349, R357). -/
def execRead (uncorr : List Nat) (retried : Nat) (s : State) : Host.Outcome State Fault Refusal :=
  .next <| s.ringTake false 3 fun a c l s =>
    let st := s.readStatus c
    let len := ((s.flashObj c.id).map FlashObj.len).getD 0
    s.tierBegin false a c { cmd := l, entry := a, uncorr, retried }
      (if st != 0 then st else if c.offset % 64 != 0 || c.len % 64 != 0 || ceil64 len < c.offset + c.len then 1 else 0)

/-- READIMG (R349, R352). -/
def execReadimg (uncorr : List Nat) (retried : Nat) (s : State) : Host.Outcome State Fault Refusal :=
  .next <| s.ringTake false 4 fun a c l s => s.tierBegin false a c { cmd := l, entry := a, uncorr, retried } (s.readStatus c)

/-- WRITEBACK (R349, R354). -/
def execWriteback (s : State) : Host.Outcome State Fault Refusal :=
  .next <| s.ringTake true 0x15 fun a c l s =>
    s.tierBegin true a c { cmd := l, entry := a } (match s.leaseFor c [2, 3] with
      | .inr st => st
      | .inl i => if s.leaseRangeBad c i then 1 else 0)

/-- COPYIMG (R349, R352). -/
def execCopyimg (s : State) : Host.Outcome State Fault Refusal :=
  .next <| s.ringTake true 0x18 fun a c l s => s.tierBegin true a c { cmd := l, entry := a } 0

/-- The command of engine e goes on when its read has come. -/
def State.tierGoOn (s : State) (e : Nat) : State :=
  match s.tiers.ops.find? fun x => x.1 == e with
  | none => s
  | some x => if x.2.waiting || x.2.done.isSome then s else s.moveTier e x.2

/-- TIER_COMMAND_DONE (R348): a command that moved data completes once its writes are acknowledged; what an access, a codeword or a lease
has recorded already is not recorded again (R505). -/
def execTierCommandDone (nbt : Bool) (s : State) : Host.Outcome State Fault Refusal :=
  .next <|
    let s := s.tierGoOn (b2n nbt)
    match s.tiers.ops.find? fun x => x.1 == b2n nbt with
    | none => s
    | some x => match x.2.done with
      | none => s
      | some (st, res) =>
        if x.2.writesOut != 0 then s
        else
          let st := if st = 0 then tierStatus x.2.wbad else st
          let c := tierCmdOf x.2.cmd
          let s := (s.modTiers fun t => { t with ops := t.ops.filter fun y => y.1 != b2n nbt }).answerTier x.2.entry st res
          if [2, 7, 0x0A].contains st then s else s.recordTier nbt st c.tenant c.id

/-- TIER_RING_SIZE_WRITE (R361): an invalid size sets RING_BAD and stops processing. -/
def execTierRingSizeWrite (nbt : Bool) (value : Nat) (s : State) : Host.Outcome State Fault Refusal :=
  .next <|
    let s := s.set (ringSize nbt) value
    if ringOk (s.get (ringSize nbt)) then s
    else (s.set (if nbt then NBT_ERR_RING_BAD else FTL_ERR_RING_BAD) 1).report (mkRec (if nbt then 13 else 14) 0 0x101 2 none 0 0 [])

/-! ### Lease messages (R353, R355) -/

/-- Take the first lease message of a type that waits; one refused under R6 or R7 has no effect. -/
def State.leaseIn (s : State) (type : Nat) (k : Nat → List Byte → State → State) : State :=
  match s.firstIn fun i => i.pkt.ptype == 6 && i.pkt.msgtype == 0x10 && leAt i.pkt.payload 0 1 / 16 == type with
  | none => s
  | some i =>
    let b := i.pkt.payload
    let s := s.takeIn i
    if b.length != 32 || leAt b 0 1 % 16 != 2 || !allZero (slice b 1 1) || bits (leAt b 4 4) 10 22 != 0 || !allZero (slice b 24 8) then s
    else k i.pkt.src b s

/-- The lent lease of an ID whose borrower is a chip. -/
def State.lentTo (s : State) (chip id : Nat) : Option Nat :=
  (List.range 256).find? fun i => s.get (NBT_LEND_STATE i) != 0 && s.get (NBT_LEND_PEER i) == chip && s.get (NBT_LEND_LEASE i) == id
/-- The borrowed lease of an ID whose lender is a chip, while it is offered, active or reclaiming. -/
def State.borrowedFrom (s : State) (chip id : Nat) : Option Nat :=
  (List.range 256).find? fun i => [1, 2, 3].contains (s.get (NBT_BORROW_STATE i)) && s.get (NBT_BORROW_PEER i) == chip
    && s.get (NBT_BORROW_LEASE i) == id

/-- The LEND command that offered lease i completes. -/
def State.lendDone (s : State) (i status : Nat) : State :=
  match s.tiers.lends.find? fun x => x.1 == i with
  | none => s
  | some x =>
    (s.modTiers fun t => { t with lends := t.lends.erase x }).endTier true x.2 status (if status = 0 then s.get (NBT_LEND_LEASE i) else 0) 0 0

/-- LEASE_OFFER (R353): the lease becomes OFFERED; with no free entry the offer is declined. -/
def execLeaseOffer (s : State) : Host.Outcome State Fault Refusal :=
  .next <| s.leaseIn 1 fun src b s =>
    match (List.range 256).find? fun i => s.get (NBT_BORROW_STATE i) == 0 || s.get (NBT_BORROW_STATE i) == 4 with
    | none => s.leaseMsg src 3 (leAt b 2 2) 0 (leAt b 8 8) (leAt b 16 4) 0
    | some i =>
      let s := s.freeBorrow i
      (((((s.set (NBT_BORROW_LEVEL i) 2).set (NBT_BORROW_STATE i) 1).set (NBT_BORROW_PEER i) src).set (NBT_BORROW_LEASE i) (leAt b 2 2)).set (NBT_BORROW_BASE i)
        (leAt b 8 8)).set (NBT_BORROW_PAGES i) (leAt b 16 4)

/-- LEASE_ACCEPT (R353): the lender sets LENT, PEER_EN and PEER_CHIP, and the lease becomes ACTIVE. -/
def execLeaseAccept (s : State) : Host.Outcome State Fault Refusal :=
  .next <| s.leaseIn 2 fun src b s =>
    match s.lentTo src (leAt b 2 2) with
    | none => s
    | some i =>
      if s.get (NBT_LEND_STATE i) != 1 then s
      else
        let s := match s.regionAt (s.get (NBT_LEND_BASE i)) with
          | some r => ((s.set (HBM_RGN_LENT r) 1).set (HBM_RGN_PEER_EN r) 1).set (HBM_RGN_PEER_CHIP r) src
          | none => s
        ((s.set (NBT_LEND_STATE i) 2).set (NBT_LEND_TENANT i) (bits (leAt b 4 4) 0 10)).lendDone i 0

/-- LEASE_DECLINE (R353): the lease becomes FREE, and the LEND completes PEER. -/
def execLeaseDecline (s : State) : Host.Outcome State Fault Refusal :=
  .next <| s.leaseIn 3 fun src b s =>
    match s.lentTo src (leAt b 2 2) with
    | none => s
    | some i => if s.get (NBT_LEND_STATE i) != 1 then s else (s.lendDone i 0x0B).freeLend i

/-- LEASE_RECLAIM (R353): the lease becomes RECLAIMING. -/
def execLeaseReclaim (s : State) : Host.Outcome State Fault Refusal :=
  .next <| s.leaseIn 4 fun src b s =>
    match s.borrowedFrom src (leAt b 2 2) with
    | none => s
    | some i =>
      if s.get (NBT_BORROW_STATE i) != 2 then s
      else
        let s := s.modTiers fun t => { t with due := tput 0 t.due i (s.now + 5000 * leAt b 20 4) }
        (s.set (NBT_BORROW_STATE i) 3).set (NBT_BORROW_LEFT_US i) (leAt b 20 4)

/-- LEASE_RELEASE (R353): the lender clears LENT and PEER_EN, and the lease becomes FREE. -/
def execLeaseRelease (s : State) : Host.Outcome State Fault Refusal :=
  .next <| s.leaseIn 5 fun src b s =>
    match s.lentTo src (leAt b 2 2) with
    | none => s
    | some i => s.freeLend i

/-- LEASE_REVOKE (R353, R355): the lease is LOST. -/
def execLeaseRevoke (s : State) : Host.Outcome State Fault Refusal :=
  .next <| s.leaseIn 6 fun src b s =>
    match s.borrowedFrom src (leAt b 2 2) with
    | none => s
    | some i => if s.get (NBT_BORROW_STATE i) = 1 then s.freeBorrow i else s.loseLease i

/-- LEASE_KEEPALIVE (R353): the lease's count of missed periods starts again. -/
def execLeaseKeepalive (s : State) : Host.Outcome State Fault Refusal :=
  .next <| s.leaseIn 7 fun src b s =>
    let id := leAt b 2 2
    let s := match s.borrowedFrom src id with
      | some i => s.modTiers fun t => { t with missed := tput 0 t.missed i 0 }
      | none => s
    match s.lentTo src id with
    | some i => s.modTiers fun t => { t with missed := tput 0 t.missed (256 + i) 0 }
    | none => s

/-- KEEPALIVE_SEND (R353): a period passes, and each side sends KEEPALIVE for each ACTIVE or RECLAIMING lease. -/
def execKeepaliveSend (s : State) : Host.Outcome State Fault Refusal :=
  .next <|
    let miss (s : State) (k : Nat) : State := s.modTiers fun t => { t with missed := tput 0 t.missed k (tget 0 t.missed k + 1) }
    let live (v : Nat) : Bool := v == 2 || v == 3
    let s := (List.range 256).foldl (fun s i => if live (s.get (NBT_BORROW_STATE i)) then miss (s.borrowMsg i 7) i else s) s
    (List.range 256).foldl (fun s i => if live (s.get (NBT_LEND_STATE i)) then miss (s.lendMsg i 7 0) (256 + i) else s) s

/-- RECLAIM_DEADLINE (R355): the deadline of a lent lease passes without RELEASE: REVOKE is sent, and the lender frees the lease. -/
def execReclaimDeadline (i : Fin 256) (s : State) : Host.Outcome State Fault Refusal :=
  .next <| if s.get (NBT_LEND_STATE i) != 3 then s else (s.lendMsg i 6 0).freeLend i

/-- KEEPALIVE_MISS (R355): a lease whose peer has missed KA_MISS periods is LOST at the borrower, freed at the lender. -/
def execKeepaliveMiss (lender : Bool) (i : Fin 256) (s : State) : Host.Outcome State Fault Refusal :=
  .next <|
    let k := if lender then 256 + i.val else i.val
    if tget 0 s.tiers.missed k < max 1 (s.get NBT_CTL_KA_MISS) then s
    else if lender then (s.lendMsg i 6 0).freeLend i
    else s.loseLease i

end Sys2Proof.Machine
end

