-- ==== Sys2Proof/Machine/Serving.lean ====
section
/-! DEFINITION. The serving controller: requests, promises, steps, overruns, budgets and swaps (R297 to R330). -/
namespace Sys2Proof.Machine

/-- A divisor that software supplies; the spec gives 0 no meaning, and a free value stands for it (log 58). -/
def divisor (k v : Nat) : Nat := if v = 0 then (Config.zeroDivisor k).toNat + 1 else v

/-! ### Profiles and tables (R298, R326 to R328) -/

/-- A field of slot i's profile (R298). -/
def State.profNat (s : State) (i off len : Nat) : Nat := leAt (tget [] s.svc.profiles i) off len
def State.pChunk (s : State) (i : Nat) : Nat := divisor 0 (s.profNat i 16 2)
def State.bMax (s : State) (i : Nat) : Nat := s.profNat i 18 2 % 1024
def State.kMax (s : State) (i : Nat) : Nat := s.profNat i 20 1 % 16
def State.fillRsv (s : State) (i : Nat) : Nat := s.profNat i 21 1

/-- Decode rows that a stream of slot i occupies (R300). -/
def State.rowsOf (s : State) (i : Nat) : Nat := if s.is (RES_SPEC i) then s.kMax i + 1 else 1

/-- Indices of the valid Stream Table entries, ascending. -/
def State.validStreams (s : State) : List Nat :=
  s.flds.filterMap fun e =>
    let b := (STR_STATE 0).key
    if b ≤ e.1 && (e.1 - b) % 1024 = 0 && (e.1 - b) / 1024 < 16384 then some ((e.1 - b) / 1024) else none

/-- Indices of the valid Tenant Table entries. -/
def State.validTenants (s : State) : List Nat := (List.range 1024).filter fun t => s.is (TEN_VALID t)

/-- Valid slots. -/
def State.slots (s : State) : List Nat := (List.range 64).filter fun i => s.is (RES_VALID i)
/-- Slots that bind a bolt, as their Warp bolt or as their Weft bolt. -/
def State.slotsW (s : State) (b : Nat) : List Nat := s.slots.filter fun i => s.get (RES_WBOLT i) == b
def State.slotsD (s : State) (b : Nat) : List Nat := s.slots.filter fun i => s.get (RES_DBOLT i) == b

/-- A slot binds a bolt. -/
def State.binds (s : State) (i b : Nat) : Bool := s.get (RES_WBOLT i) == b || s.get (RES_DBOLT i) == b

/-- Valid streams of a slot. -/
def State.streamsOf (s : State) (i : Nat) : List Nat := s.validStreams.filter fun x => s.get (STR_SLOT x) == i

/-- The frozen step of a bolt. -/
def State.planOf (s : State) (b : Nat) : Option StepPlan := s.svc.plans.find? fun p => p.bolt == b

/-- A stream is in a frozen step. -/
def State.inPlan (s : State) (x : Nat) : Bool := s.svc.plans.any fun p => p.items.any fun e => e.1 == x

/-! ### Prices (R299, R304, R306, R478) -/

/-- Saturate at 2^32 - 1. -/
def sat32 (n : Nat) : Nat := min n (2 ^ 32 - 1)

/-- The lowest voltage row whose highest clock is at least a clock (R471, R472). -/
def rowOf (mhz : Nat) : Nat := ([900, 1100, 1300, 1500, 1600, 1700, 1800, 1850].findIdx? fun f => decide (mhz ≤ f)).getD 7

/-- SVC_FLOOR_MHZ rounded up to a multiple of 25 (R480). -/
def State.floorMhz (s : State) : Nat := 25 * ceilDiv (s.get SVC_FLOOR_MHZ_MHZ) 25

/-- The loom pool at the floor clock (R478). -/
def State.poolFloor (s : State) : Nat :=
  min (6400 - s.get LDG_RESERVE_RESERVE)
    ((s.get LDG_BUDGET_MIN_EFFECTIVE - s.get LDG_RESERVE_RESERVE) * 305 / cscale (rowOf s.floorMhz))

/-- STEP_CYCLES and MAX_CREDITS of a loom's Draft header (R230). -/
def State.stepCycles (s : State) (n : Nat) : Nat := s.draftNat n 16 4
def State.maxCredits (s : State) (n : Nat) : Nat := s.draftNat n 20 4

/-- The largest of a number over the looms of a bolt. -/
def State.boltMax (s : State) (b : Nat) (f : Nat → Nat) : Nat := ((s.boltLooms b).map f).foldl max 0

/-- STRETCH (R306). -/
def State.stretch (s : State) : Nat :=
  let d := (((List.range 64).filter fun b => s.boltValid b && (s.get (BLT_STATE b) == 1 || s.get (BLT_STATE b) == 2)).map
    fun b => s.boltMax b s.maxCredits * s.get (BLT_LOOMS b)).sum
  if d = 0 then 256 else max 256 (ceilDiv (256 * d) s.poolFloor)

/-- The repair allowance: spans that may be repaired (R304). -/
def State.repairSpans (s : State) (spans : Nat) : Nat := s.get SVC_ALLOW_REPLAY_FRACTION * spans / 256

/-- The repair cycles of slot i's list at byte `off` of its profile (R304). -/
def State.repair (s : State) (i off spans : Nat) : Nat :=
  sat32 ((List.range (s.repairSpans spans)).map fun j => s.profNat i (off + 4 * j) 4).sum

/-- A step's priced time (R299, R304). -/
def State.pricedNs (s : State) (b cycles rep : Nat) : Nat :=
  let c := ceilDiv (max cycles (s.boltMax b s.stepCycles) * s.get (BLT_STRETCH b)) 256 + 3 * s.get SVC_ALLOW_ECC_HOLDS + rep
  sat32 (ceilDiv (c * 1000) (s.get SVC_FLOOR_MHZ_MHZ) + s.get SVC_ALLOW_LINK_NS + s.get SVC_OVERHEAD_NS)

/-- TW_NS and TD_NS of a slot (R304). -/
def State.twNs (s : State) (i : Nat) : Nat := s.pricedNs (s.get (RES_WBOLT i)) (s.profNat i 8 4) (s.repair i 64 (s.profNat i 32 2 % 512))
def State.tdNs (s : State) (i : Nat) : Nat := s.pricedNs (s.get (RES_DBOLT i)) (s.profNat i 12 4) (s.repair i 1088 (s.profNat i 34 2 % 512))

/-- LOOM_MHZ of a bolt (R419). -/
def State.boltMhz (s : State) (b : Nat) : Nat := bits (leAt (s.boltEntry b) 4 2) 0 12

/-- A loom runs below the floor clock, or its bolt's target lies below it (R481). -/
def State.loomSlow (s : State) (n : Nat) : Bool :=
  decide (s.get (PWR_LOOM_OPP_F_MHZ n) < s.floorMhz) || match s.boltOf n with | some b => decide (s.boltMhz b < s.floorMhz) | none => false

/-- A frozen step remembers that a loom of its bolt has run below the floor (R317, R481): judged at its launch and at every change of a
clock or of the floor. -/
def State.markSlow (s : State) : State :=
  s.modSvc fun v => { v with plans := v.plans.map fun p => { p with slow := p.slow || (s.boltLooms p.bolt).any s.loomSlow } }

/-- The controller recomputes LDG_POOL_FLOOR, STRETCH and the times of every valid slot (R304, R306, R478). -/
def State.reprice (s : State) : State :=
  let s := s.set LDG_POOL_FLOOR_POOL s.poolFloor
  let st := s.stretch
  let s := ((List.range 64).filter s.boltValid).foldl (fun s b => s.set (BLT_STRETCH b) st) s
  s.slots.foldl (fun s i => (s.set (RES_TW_NS i) (s.twNs i)).set (RES_TD_NS i) (s.tdNs i)) s

/-- SVC_ALLOW_WRITE (R304): a write to an allowance register or to SVC_OVERHEAD. -/
def execSvcAllowWrite (addr : Nat) (data : List Byte) (s : State) : Host.Outcome State Fault Refusal :=
  .next <|
    if 0x1000020 ≤ addr && addr + data.length ≤ 0x1000034 && !(addr < 0x1000030 && 0x100002C < addr + data.length)
    then (s.regPut addr data).reprice else s

/-- A write to SVC_FLOOR_MHZ outside 900 to 1,850 is ignored (R305). -/
def State.floorWrite (s : State) (v : Nat) : State := if 900 ≤ v && v ≤ 1850 then (s.set SVC_FLOOR_MHZ_MHZ v).reprice.markSlow else s

/-- SVC_FLOOR_MHZ_WRITE (R305). -/
def execSvcFloorMhzWrite (value : Nat) (s : State) : Host.Outcome State Fault Refusal := .next (s.floorWrite value)

/-- RQ_BAD (R325, R329). -/
def State.rqBad (s : State) : State := (s.set SVC_ERR_RQ_BAD 1).report (mkRec 10 0 0x100 2 none 0 0 [])

/-- SVC_RQ_SIZE_WRITE (R329): an invalid size sets RQ_BAD and stops processing. -/
def execSvcRqSizeWrite (value : Nat) (s : State) : Host.Outcome State Fault Refusal :=
  .next <|
    let s := s.set SVC_RQ_SIZE_ENTRIES value
    if ringOk (s.get SVC_RQ_SIZE_ENTRIES) then s else s.rqBad

/-- SVC_CNT_CLR (R329). -/
def execSvcCntClr (s : State) : Host.Outcome State Fault Refusal :=
  .next <| s.clearAll ([SVC_CNT_ADMIT_N, SVC_CNT_REFUSE_N, SVC_CNT_COMPLETE_N, SVC_CNT_CANCEL_N, SVC_CNT_ABORT_N, SVC_CNT_OVERRUN_N,
    SVC_CNT_SWAP_N, SVC_CNT_STEPS_N] ++ (List.range 16).map SVC_CNT_CAUSE_N)

/-- LDG_BUDGET_MIN_WRITE (R478): the effective minimum and the pool floor follow. -/
def State.effectiveMin (s : State) : Nat :=
  max (s.get LDG_BUDGET_MIN_MIN)
    (s.get LDG_RESERVE_RESERVE + (((List.range 64).filter s.boltValid).map fun b => s.boltMax b s.maxCredits).foldl max 0)

/-- The effective minimum is made anew, and LDG_BUDGET is no lower than it and no higher than 6,400 (R478). -/
def State.raiseBudget (s : State) : State :=
  let s := s.set LDG_BUDGET_MIN_EFFECTIVE s.effectiveMin
  (s.set LDG_BUDGET_BUDGET (min 6400 (max (s.get LDG_BUDGET_BUDGET) (s.get LDG_BUDGET_MIN_EFFECTIVE)))).ledgerShow

/-- LDG_BUDGET_MIN_WRITE (R478). -/
def execLdgBudgetMinWrite (value : Nat) (s : State) : Host.Outcome State Fault Refusal :=
  .next <|
    let s := (s.set LDG_BUDGET_MIN_MIN value).raiseBudget
    s.set LDG_POOL_FLOOR_POOL s.poolFloor

/-! ### The tenant's event ring (R318, R319) -/

/-- Write a record into the event ring of a tenant (R318). DEDUCED: SVC's own writes carry tenant 0, since no rule gives them
another tenant and the image loader asks no region for a ring (R333, R334); log 50. -/
def State.putEvent (s : State) (tenant : Nat) (mk : Nat → List Byte) : State :=
  let seq := s.get (TEN_EV_SEQ tenant)
  let l := mk seq
  let a := s.get (TEN_EV_BASE tenant) + 32 * (seq % divisor 3 (s.get (TEN_EV_SIZE tenant)))
  ((s.tierPut 67 0 false a l (List.replicate l.length false)).2).set (TEN_EV_SEQ tenant) (seq + 1)

/-- A record of a stream (R318). -/
def State.streamRec (s : State) (x type code bits16 count a b : Nat) : State :=
  let t := s.get (STR_TENANT x)
  s.putEvent t fun seq =>
    leBytes 4 (2 + 16 * type + 256 * code + 65536 * bits16) ++ leBytes 4 seq ++ leBytes 8 (s.get (STR_TAG x))
      ++ leBytes 2 x ++ leBytes 2 t ++ leBytes 4 count ++ leBytes 4 a ++ leBytes 4 b

/-- Every field of a Stream Table entry but ARCH_LEVEL, which always reads 2. -/
def strFields (x : Nat) : List Fld :=
  [STR_STATE x, STR_CANCEL_REQ x, STR_TENANT x, STR_SLOT x, STR_SPEC_OFF x, STR_OVERRUN x, STR_K x, STR_REJ_RUN x,
   STR_TAG x, STR_PROMPT_LEN x, STR_MAX_NEW x, STR_PREFILLED x, STR_DELIVERED x, STR_TTFT_NS x, STR_ITL_NS x, STR_ADMIT_TIME x,
   STR_DUE x, STR_ROW x, STR_COOL x, STR_REJECTED x, STR_OUT_BASE x, STR_OUT_SIZE x, STR_KV_PAGES x, STR_KV_MAP x, STR_PROMPT x,
   STR_OVERRUNS x]

/-- KiB of a KV page of a bolt's pool (R63, R419). -/
def State.pageKib (s : State) (b : Nat) : Nat := ceilDiv (68 * (64 * 2 ^ (leAt (s.boltEntry b) 44 1 % 4)) + 64) 1024

/-- Take k from a counting field. -/
def State.sub (s : State) (f : Fld) (k : Nat) : State := s.set f (s.get f - k)

/-- A stream ends (R314, R319): its completion record is written, and then its pages, rows and entry are freed. -/
def State.endStream (s : State) (x status flags : Nat) : State :=
  let i := s.get (STR_SLOT x)
  let d := s.get (RES_DBOLT i)
  let t := s.get (STR_TENANT x)
  let fl := flags + 2 * s.get (STR_OVERRUN x) + 4 * s.get (STR_SPEC_OFF x)
  let s := s.streamRec x 1 status fl (s.get (STR_DELIVERED x)) (s.get (STR_PREFILLED x)) (s.get (STR_REJECTED x))
  let s := if status = 0 then s.add SVC_CNT_COMPLETE_N 1 else if status = 1 then s.add SVC_CNT_CANCEL_N 1 else s
  let pages := s.get (STR_KV_PAGES x)
  let frozen := (s.svc.plans.map fun p => (p.items.map fun e => if e.1 = x then e.2 else 0).sum).sum
  let s := s.sub (RES_BACKLOG i) (s.get (STR_PROMPT_LEN x) - s.get (STR_PREFILLED x) - frozen)
  let s := ((s.add (BLT_KV_FREE d) pages).sub (HBM_TQ_HBM_USED t) (pages * s.pageKib d)).sub (BLT_ROWS_USED d) (s.rowsOf i)
  let s := ((s.sub (RES_STREAMS i) 1).sub (TEN_ACTIVE t) 1).sub SVC_STATUS_STREAMS 1
  (s.clearAll (strFields x)).modSvc fun v =>
    { v with fills := v.fills.filter fun f => f.stream != x
             prevDue := tput 0 v.prevDue x 0
             plans := v.plans.map fun p => { p with items := p.items.filter fun e => e.1 != x } }

/-! ### Overruns (R317) -/

/-- A cause occurred on a bolt at this time. -/
def State.noteCause (s : State) (b mask : Nat) : State :=
  if mask = 0 then s else s.modSvc fun v => { v with causes := v.causes ++ [(b, s.svcTime, mask)] }

/-- Or the bits of a list of masks. -/
def orAll (l : List Nat) : Nat := l.foldl (· ||| ·) 0

/-- The causes of a stream's token whose bolt is b: those that occurred since the point from which its due time counts. -/
def State.causesFor (s : State) (x b : Nat) : Nat :=
  let since := tget 0 s.svc.prevDue x
  orAll ((s.svc.causes.filter fun c => c.1 == b && decide (since < c.2.1 || (c.2.1 == since && since == s.svcTime))).map fun c => c.2.2)

/-- CAUSE: the first that occurred in the order of R317; 0xF: none. -/
def causeOf (mask : Nat) : Nat := ([8, 9, 0xA, 4, 3, 2, 1, 5, 7, 6].find? fun c => bitOf mask c).getD 0xF

/-- An overrun record for token `index` of a stream (R317, R318). -/
def State.overrun (s : State) (x index mask lateness step : Nat) : State :=
  let c := causeOf mask
  let s := if c = 0xF then (s.set SVC_ERR_UNATTRIBUTED 1).report (mkRec 10 0 0x101 5 none step (s.get (STR_TENANT x)) []) else s
  let s := s.streamRec x 2 c mask index (sat32 lateness) step
  ((((s.set (STR_OVERRUN x) 1).add (STR_OVERRUNS x) 1).add SVC_CNT_OVERRUN_N 1).add (SVC_CNT_CAUSE_N c) 1)

/-! ### Requests (R301 to R303, R307, R320, R324) -/

/-- The request at the head of the ring with its local address. -/
def State.rqEntry (s : State) : Option (Nat × RdData × State) :=
  let n := s.get SVC_RQ_SIZE_ENTRIES
  let head := s.get SVC_RQ_HEAD_HEAD
  if !ringOk n || s.get SVC_RQ_TAIL_TAIL % n = head then none
  else
    let a := s.get SVC_RQ_BASE_ADDR + 128 * head
    let (r, t) := s.devFetch a 128
    some (a, r, t)

/-- Answer a request (R301, R303): the response fields, DONE last, and the ring goes on. -/
def State.rqAnswer (s : State) (a op status : Nat) (out : List Byte) : State :=
  let head := s.get SVC_RQ_HEAD_HEAD
  let s := s.devWrite (a + 64) (toBytes [status, 0, 0, 0] ++ slice out 0 24) false
  let s := s.devWrite (a + 65) [1] false
  let s := if status = 0 then s
    else
      let s := (s.set SVC_REFUSE_LAST_STATUS status).set SVC_REFUSE_LAST_INDEX head
      if op = 0 then s.add SVC_CNT_REFUSE_N 1 else s
  s.set SVC_RQ_HEAD_HEAD ((head + 1) % s.get SVC_RQ_SIZE_ENTRIES)

/-- A request entry that R6 or R7 refuses, or that reads poisoned. -/
def rqBadEntry (r : RdData) : Bool :=
  let l := r.data
  r.status != 0 || r.pois.any id || leAt l 0 4 % 16 != 2 || bits (leAt l 0 4) 10 22 != 0 || bits (leAt l 4 4) 22 10 != 0
    || bits (leAt l 52 4) 14 18 != 0 || !allZero (slice l 64 64)

/-- Process the request at the head where it is one of this kind: its OP, and for a BOLT request its OPEN bit. -/
def State.rqTake (s : State) (op : Nat) (opens : Bool) (k : Nat → List Byte → State → State) : State :=
  match s.rqEntry with
  | none => s
  | some (a, r, t) =>
    let o := bits (leAt r.data 0 4) 4 4
    if o != op && o ≤ 3 then s
    else if o = 3 && bitOf (leAt r.data 0 4) 9 != opens then s
    else if o != op || rqBadEntry r then t.rqAnswer a o 1 []
    else k a r.data t

/-- A stream that can be removed at once goes (R320). -/
def State.cancelNow (s : State) (x : Nat) : State := if s.inPlan x then s else s.endStream x 1 0

/-- CANCEL (R320). -/
def execCancel (s : State) : Host.Outcome State Fault Refusal :=
  .next <| s.orWait .cancel fun s => s.rqTake 1 false fun a l s =>
    let x := leAt l 52 4
    if s.get (STR_STATE x) = 0 || s.get (STR_TAG x) != leAt l 8 8 then s.rqAnswer a 1 0x12 []
    else if s.is (STR_CANCEL_REQ x) then s.rqAnswer a 1 0x13 []
    else ((s.set (STR_CANCEL_REQ x) 1).cancelNow x).rqAnswer a 1 0 []

/-- EVICT (R324). -/
def execEvict (s : State) : Host.Outcome State Fault Refusal :=
  .next <| s.orWait .evict fun s => s.rqTake 2 false fun a l s =>
    let i := bits (leAt l 4 4) 10 6
    if !s.is (RES_VALID i) then s.rqAnswer a 2 3 []
    else if s.get (RES_STREAMS i) != 0 || s.get (RES_STATE i) = 1 then s.rqAnswer a 2 0x0C []
    else ((s.set (RES_STATE i) 0).set (RES_VARIANT_ID i) 0).rqAnswer a 2 0 []

/-- Open or close a bolt (R307). A bolt that a benched loom belongs to opens as little as a DOWN one, though it has been closed (R315;
log 123). -/
def State.boltTo (s : State) (a b state : Nat) : State :=
  let t := (s.set (BLT_STATE b) state)
  let st := s.get (BLT_STATE b)
  if !s.boltValid b then s.rqAnswer a 3 1 []
  else if st != 3 && t.stretch != s.stretch && !s.validStreams.isEmpty then s.rqAnswer a 3 0x11 []
  else if state = 0 && s.validStreams.any (fun x => s.binds (s.get (STR_SLOT x)) b) then s.rqAnswer a 3 0x0C []
  else if state = 1 && (st = 3 || (s.boltLooms b).any fun n => s.is (LOOM_STATUS_BENCHED n)) then s.rqAnswer a 3 5 []
  else t.reprice.rqAnswer a 3 0 []

/-- BOLT_OPEN (R307). -/
def execBoltOpen (s : State) : Host.Outcome State Fault Refusal :=
  .next <| s.orWait .boltOpen fun s => s.rqTake 3 true fun a l s => s.boltTo a (bits (leAt l 4 4) 16 6) 1

/-- BOLT_CLOSE (R307). -/
def execBoltClose (s : State) : Host.Outcome State Fault Refusal :=
  .next <| s.orWait .boltClose fun s => s.rqTake 3 false fun a l s => s.boltTo a (bits (leAt l 4 4) 16 6) 0

/-! ### Swaps (R302, R308, R323) -/

/-- BW_TIER (R308). -/
def State.swapBw (s : State) (tier : Nat) : Nat := if tier = 0 then divisor 1 (s.get SVC_SWAP_BW_FLASH) else divisor 2 (s.get SVC_SWAP_BW_NBR)

/-- What is left of a load's promised time. -/
def SlotLoad.left (x : SlotLoad) (now : Nat) : Nat := x.due - now

/-- Time for which the loads on a tier still run. -/
def State.tierLeft (s : State) (tier : Nat) : Nat :=
  ((s.svc.loads.filter fun x => x.tier == tier).map fun x => x.left s.svcTime).foldl max 0

/-- The command that copies a variant into a slot's region (R323, R349). -/
def State.loadCmd (s : State) (x : SlotLoad) : List Byte :=
  let addr := s.chip * 2 ^ 50 + s.get (RES_REGION x.slot)
  if x.tier = 0 then
    leBytes 4 (2 + 16 * 4) ++ leBytes 4 0 ++ leBytes 8 addr ++ leBytes 8 x.len ++ leBytes 4 x.src ++ List.replicate 36 0
  else
    leBytes 4 (2 + 16 * 0x18) ++ leBytes 4 0 ++ leBytes 8 addr ++ leBytes 8 x.len ++ List.replicate 16 0 ++ leBytes 8 x.src
      ++ List.replicate 16 0

/-- The first load of a tier starts where it has not (R323). -/
def State.startLoad (s : State) (tier : Nat) : State :=
  match s.svc.loads.find? fun x => x.tier == tier with
  | none => s
  | some x =>
    if s.tiers.ops.any fun e => e.1 == 2 + x.slot then s
    else
      let o : TierOp := { cmd := s.loadCmd x, entry := 0 }
      let c := tierCmdOf o.cmd
      if tier = 0 && s.readStatus c != 0 then
        s.modTiers fun t => { t with ops := t.ops ++ [(2 + x.slot, { o with done := some (s.readStatus c, 0) })] }
      else s.runTier (2 + x.slot) o (tierRun (2 + x.slot) o)

/-- A load leaves its queue and the next one of its tier starts. -/
def State.dropLoad (s : State) (x : SlotLoad) : State :=
  ((s.modSvc fun v => { v with loads := v.loads.erase x }).modTiers fun t => { t with ops := t.ops.filter fun e => e.1 != 2 + x.slot }).startLoad
    x.tier

/-- The load of a slot with the status of its copy, once the copy's writes are acknowledged. -/
def State.loadOver (s : State) (i : Nat) : Option (SlotLoad × Nat) :=
  match s.svc.loads.find? (fun x => x.slot == i), s.tiers.ops.find? fun e => e.1 == 2 + i with
  | some x, some e => match e.2.done with
    | some (st, _) => if e.2.writesOut != 0 then none else some (x, if st = 0 then tierStatus e.2.wbad else st)
    | none => none
  | _, _ => none

/-- VARIANT_LOAD_DONE (R323): the copy completes and the slot becomes RESIDENT; one that took longer than LOAD_NS leaves the cause
TIER (R317). -/
def execVariantLoadDone (i : SlotNo) (s : State) : Host.Outcome State Fault Refusal :=
  .next <|
    let s := s.tierGoOn (2 + i)
    match s.loadOver i with
    | some (x, 0) =>
      let s := if x.due < s.svcTime then s.noteCause (s.get (RES_WBOLT i)) (2 ^ 7) else s
      ((s.dropLoad x).set (RES_STATE i) 2).add SVC_CNT_SWAP_N 1
    | _ => s

/-- VARIANT_LOAD_FAIL (R323): every stream that waits on the load ends ABORTED with cause FAULT, and the slot is left EMPTY. -/
def execVariantLoadFail (i : SlotNo) (s : State) : Host.Outcome State Fault Refusal :=
  .next <|
    let s := s.tierGoOn (2 + i)
    match s.loadOver i with
    | some (x, k + 1) =>
      let s := (s.streamsOf i).foldl (fun s y => s.endStream y 2 (16 * 9)) s
      (((s.set (RES_STATE i) 0).set (RES_VARIANT_ID i) 0).dropLoad x).report (mkRec 10 0 (0x200 + (k + 1)) 2 none 0 0 [])
    | _ => s

/-! ### Admission (R303, R308, R314) -/

/-- A variant descriptor (R302). -/
structure Variant where
  tier : Nat
  ident : Nat
  len : Nat
  src : Nat
  deriving DecidableEq, Repr

/-- Read a descriptor: none where it is refused or its HASH is not the profile's (R302, R303). -/
def State.variantOf (s : State) (i : Nat) (r : RdData) : Option Variant :=
  let l := r.data
  if tierStatus r.status != 0 || r.pois.any id || leAt l 0 4 % 16 != 2 || bits (leAt l 0 4) 4 2 > 1 || bits (leAt l 0 4) 6 26 != 0
      || leAt l 4 4 != s.profNat i 4 4 || s.get (RES_REGION_SIZE i) < leAt l 16 8 || !allZero (slice l 32 32) then none
  else some { tier := bits (leAt l 0 4) 4 2, ident := leAt l 8 8, len := leAt l 16 8, src := leAt l 24 8 }

/-- What an admission found (R303, R308): the load that it starts, the load time, the rows, the pages and the two bounds. -/
structure Promise where
  load : Option SlotLoad
  variant : Nat
  loadNs : Nat
  row : Nat
  pages : Nat
  ttft : Nat
  itl : Nat
  deriving DecidableEq, Repr

/-- The checks of an ADMIT before its variant (R303). -/
def State.admitEarly (s : State) (l : List Byte) : Nat :=
  let t := leAt l 4 4 % 1024
  let i := bits (leAt l 4 4) 10 6
  let p := leAt l 16 4
  let new := leAt l 20 4
  let bolts := [s.get (RES_WBOLT i), s.get (RES_DBOLT i)]
  if !s.is SVC_CTL_ADMIT_EN || p = 0 || new = 0 || leAt l 48 4 = 0 then 1
  else if !s.is (TEN_VALID t) then 2
  else if !s.is (RES_VALID i) then 3
  else if !bitOf (s.get (TEN_MODELS t)) i then 4
  else if bolts.any fun b => s.get (BLT_STATE b) == 0 || s.get (BLT_STATE b) == 3 then 5
  else if bolts.any fun b => s.get (BLT_STATE b) == 2 then 6
  else if s.profNat i 24 4 < p + new + s.kMax i then 7
  else if 16384 ≤ s.validStreams.length then 8
  else if s.get (TEN_MAX_STREAMS t) ≤ s.get (TEN_ACTIVE t) then 9
  else if toSigned 32 (s.get (TEN_LEVEL t)) < ((p + 1 : Nat) : Int) then 0x0A
  else 0

/-- Whether the variant is in the slot, or a load of it is needed, or the status (R303, R323): the load to start. -/
def State.admitVariant (s : State) (l : List Byte) (v : Option Variant) : Nat ⊕ Option Variant :=
  let i := bits (leAt l 4 4) 10 6
  let st := s.get (RES_STATE i)
  if leAt l 56 8 = 0 then (if st = 0 then .inl 0x0B else .inr none)
  else match v with
    | none => .inl 0x0B
    | some x =>
      if st != 0 && s.get (RES_VARIANT_ID i) = x.ident then .inr none
      else if !bitOf (leAt l 0 4) 8 || st = 1 || (st = 2 && s.get (RES_STREAMS i) != 0) then .inl 0x0C
      else .inr (some x)

/-- The decode rows that a bolt's streams occupy, each as its first row and its rows. -/
def State.rowsTaken (s : State) (b : Nat) : List (Nat × Nat) :=
  (s.validStreams.filter fun x => s.get (RES_DBOLT (s.get (STR_SLOT x))) == b).map fun x => (s.get (STR_ROW x), s.rowsOf (s.get (STR_SLOT x)))

/-- The lowest first row from which `k` rows of a bolt are free. -/
def State.freeRow (s : State) (b k : Nat) : Nat :=
  let t := s.rowsTaken b
  ((List.range 512).find? fun r => t.all fun x => decide (r + k ≤ x.1) || decide (x.1 + x.2 ≤ r)).getD 0

/-- Time of the prefill steps ahead of a stream of slot i with p prompt tokens (R308). -/
def State.prefillNs (s : State) (i p : Nat) : Nat :=
  let w := s.get (RES_WBOLT i)
  (if s.is (BLT_IN_STEP w) then s.get (RES_TW_NS (s.get (BLT_STEP_SLOT w))) else 0)
    + ((s.slotsW w).map fun x => ceilDiv (s.get (RES_BACKLOG x) + (if x = i then p else 0)) (s.pChunk x) * s.get (RES_TW_NS x)).sum

/-- The checks of an ADMIT from its variant on, and its promise (R303, R308). -/
def State.admitLate (s : State) (l : List Byte) (v : Option Variant) : Nat ⊕ Promise :=
  let t := leAt l 4 4 % 1024
  let i := bits (leAt l 4 4) 10 6
  let p := leAt l 16 4
  match s.admitVariant l v with
  | .inl st => .inl st
  | .inr need =>
    let d := s.get (RES_DBOLT i)
    let rows := s.rowsOf i
    let pages := s.profNat i 22 2 * ceilDiv (p + leAt l 20 4 + s.kMax i) 64
    let loadNs := match need with
      | some x => s.get SVC_LOAD_FIXED_NS + ceilDiv (x.len * 10) (s.swapBw x.tier) + s.tierLeft x.tier
      | none => match s.svc.loads.find? fun x => x.slot == i with | some x => x.left s.svcTime | none => 0
    let ttft := loadNs + s.prefillNs i p
    let itl := ((s.slotsD d).map fun x => s.get (RES_TD_NS x)).sum
    if s.bMax i - s.fillRsv i < s.get (BLT_ROWS_USED d) + rows then .inl 0x0D
    else if s.get (BLT_KV_FREE d) < pages
        || (t != 0 && s.get (HBM_TQ_HBM_QUOTA t) < s.get (HBM_TQ_HBM_USED t) + pages * s.pageKib d) then .inl 0x0E
    else if (leAt l 24 4 != 0 && leAt l 24 4 < ttft) || 2 ^ 32 ≤ ttft then .inl 0x0F
    else if (leAt l 28 4 != 0 && leAt l 28 4 < itl) || 2 ^ 32 ≤ itl then .inl 0x10
    else .inr
      { load := need.map fun x => { slot := i, tier := x.tier, len := x.len, src := x.src, ns := loadNs, due := s.svcTime + loadNs }
        variant := match need with | some x => x.ident | none => s.get (RES_VARIANT_ID i)
        loadNs, row := s.freeRow d rows, pages, ttft, itl }

/-- The Stream Table entry of an admitted request (R308, R309, R314, R322, R326). -/
def State.putStream (s : State) (x : Nat) (l : List Byte) (m : Promise) : State :=
  let t := leAt l 4 4 % 1024
  let i := bits (leAt l 4 4) 10 6
  let d := s.get (RES_DBOLT i)
  let now := s.svcTime
  let map := s.freeBits 64
  let s := s.takeFree
  let s := ([(STR_STATE x, 1), (STR_TENANT x, t), (STR_SLOT x, i), (STR_K x, s.get (RES_SPEC i)),
    (STR_TAG x, leAt l 8 8), (STR_PROMPT_LEN x, leAt l 16 4), (STR_MAX_NEW x, leAt l 20 4), (STR_TTFT_NS x, m.ttft),
    (STR_ITL_NS x, m.itl), (STR_ADMIT_TIME x, now), (STR_DUE x, now + m.ttft), (STR_ROW x, m.row), (STR_OUT_BASE x, leAt l 40 8),
    (STR_OUT_SIZE x, leAt l 48 4), (STR_KV_PAGES x, m.pages), (STR_KV_MAP x, map), (STR_PROMPT x, leAt l 32 8)] : List (Fld × Nat)).foldl
      (fun s f => s.set f.1 f.2) s
  let s := s.modSvc fun v => { v with prevDue := tput 0 v.prevDue x now, order := v.order.filter (· != x) ++ [x] }
  let s := ((s.add (RES_STREAMS i) 1).add (TEN_ACTIVE t) 1).add SVC_STATUS_STREAMS 1
  let s := ((s.add (BLT_ROWS_USED d) (s.rowsOf i)).sub (BLT_KV_FREE d) m.pages).add (HBM_TQ_HBM_USED t) (m.pages * s.pageKib d)
  (s.add (RES_BACKLOG i) (leAt l 16 4)).add SVC_CNT_ADMIT_N 1

/-- Admit a request, or refuse it (R303, R308, R323). -/
def State.admitStream (s : State) (a : Nat) (l : List Byte) (v : Option Variant) : State :=
  match s.admitLate l v with
  | .inl st => s.rqAnswer a 0 st []
  | .inr m =>
    let i := bits (leAt l 4 4) 10 6
    let x := ((List.range 16384).find? fun x => s.get (STR_STATE x) == 0).getD 0
    let now := s.svcTime
    let s := s.putStream x l m
    let s := match m.load with
      | none => s
      | some y => (((s.set (RES_STATE i) 1).set (RES_VARIANT_ID i) m.variant).modSvc fun v => { v with loads := v.loads ++ [y] }).startLoad y.tier
    s.rqAnswer a 0 0 (leBytes 4 x ++ leBytes 4 m.ttft ++ leBytes 4 m.itl ++ leBytes 8 now ++ leBytes 4 m.loadNs)

/-- The reads of an ADMIT that waits for its variant descriptor from another device. -/
def State.admitOp (s : State) : TierOp := ((s.tiers.ops.find? fun e => e.1 == 66).map Prod.snd).getD { cmd := [], entry := 0 }

/-- ADMIT (R303, R308): the variant descriptor of another device is read first. -/
def execAdmit (s : State) : Host.Outcome State Fault Refusal :=
  .next <| s.orWait .admitRq fun s => s.rqTake 0 false fun a l t =>
    let early := t.admitEarly l
    if early != 0 then t.rqAnswer a 0 early []
    else if leAt l 56 8 = 0 then t.admitStream a l none
    else if s.admitOp.waiting then s
    else match tierRange 0 false (leAt l 56 8) 64 s.admitOp.got t with
      | .done r _ t =>
        (t.modTiers fun x => { x with ops := x.ops.filter fun e => e.1 != 66 }).admitStream a l (t.variantOf (bits (leAt l 4 4) 10 6) r)
      | .need b n =>
        (s.modTiers fun x => { x with ops := x.ops.filter (fun e => e.1 != 66) ++ [(66, { s.admitOp with waiting := true })] }).request (.tierRead 66)
          { ptype := 1, cls := 3, len := n, dst := fabChip b, src := s.chip, addr := b }

end Sys2Proof.Machine
end

