-- ==== Sys2Proof/Machine/Steps.lean ====
section
/-! DEFINITION. Steps of bolts: freezing, sealing, aborting, back-fill, budgets, and benching on lag (R309 to R322, R466, R467). -/
namespace Sys2Proof.Machine

/-! ### Step groups and batches (R310 to R312) -/

/-- The step group of a bolt (R419). -/
def State.groupNo (s : State) (b : Nat) : Nat := bits (leAt (s.boltEntry b) 0 4) 10 6

/-- A bolt can run steps: it is OPEN or DRAINING. -/
def State.boltLive (s : State) (b : Nat) : Bool :=
  s.boltValid b && (s.get (BLT_STATE b) == 1 || s.get (BLT_STATE b) == 2) && !(s.boltLooms b).any fun n => s.is (LOOM_STATUS_BENCHED n)

/-- The live bolts of a bolt's step group, ascending. -/
def State.groupBolts (s : State) (b : Nat) : List Nat :=
  (List.range 64).filter fun c => s.boltLive c && s.groupNo c == s.groupNo b

/-- Prompt tokens of a stream that no step has taken. -/
def State.promptLeft (s : State) (x : Nat) : Nat := s.get (STR_PROMPT_LEN x) - s.get (STR_PREFILLED x)

/-- Streams of a bolt that still have prompt tokens to process, in admission order. -/
def State.prefillers (s : State) (b : Nat) : List Nat :=
  let l := s.validStreams.filter fun x =>
    let i := s.get (STR_SLOT x)
    s.get (RES_WBOLT i) == b && s.get (RES_STATE i) == 2 && s.get (STR_STATE x) ≤ 2 && s.promptLeft x != 0
  let at_ (x : Nat) : Nat := s.svc.order.findIdx (· == x)
  l.mergeSort fun x y => decide (s.get (STR_ADMIT_TIME x) < s.get (STR_ADMIT_TIME y))
    || (s.get (STR_ADMIT_TIME x) == s.get (STR_ADMIT_TIME y) && decide (at_ x ≤ at_ y))

/-- Share n prompt tokens among streams in order. -/
def State.share (s : State) : Nat → List Nat → List (Nat × Nat)
  | _, [] => []
  | n, x :: t =>
    let k := min n (s.promptLeft x)
    if k = 0 then [] else (x, k) :: s.share (n - k) t

/-- The batch of a Warp step (R311). -/
def State.warpBatch (s : State) (b : Nat) : Option (Nat × List (Nat × Nat)) :=
  match s.prefillers b with
  | [] => none
  | x :: t =>
    let i := s.get (STR_SLOT x)
    some (i, s.share (s.pChunk i) (x :: t.filter fun y => s.get (STR_SLOT y) == i))

/-- Decode streams of a slot. -/
def State.decoders (s : State) (i : Nat) : List Nat := (s.streamsOf i).filter fun x => s.get (STR_STATE x) == 3

/-- The slot of the next decode turn of a bolt (R312). -/
def State.nextTurn (s : State) (b : Nat) : Option Nat :=
  let l := (s.slotsD b).filter fun i => !(s.decoders i).isEmpty
  let from_ := tget 0 s.svc.turn b
  (l.find? fun i => decide (from_ ≤ i)).or l.head?

/-- The batch of a Weft step with its back-fill rows (R312). -/
def State.weftBatch (s : State) (b : Nat) : Option (Nat × List (Nat × Nat) × List FillEntry) :=
  match s.nextTurn b with
  | none => none
  | some i => some (i, (s.decoders i).map fun x => (x, 0),
      (s.svc.fills.filter fun f => s.get (STR_SLOT f.stream) == i && s.get (STR_STATE f.stream) == 3).take (s.fillRsv i))

/-- The plan of a bolt's next step. -/
def State.makePlan (s : State) (b : Nat) : StepPlan :=
  let base : StepPlan := { bolt := b, slot := none, items := [], fills := [], start := s.svcTime
                           retry0 := (List.range 6).map fun p => s.get (FAB_P_RETRY_NS_NS p) }
  if s.get (BLT_KIND b) = 0 then
    match s.warpBatch b with
    | some (i, l) => { base with slot := some i, items := l }
    | none => base
  else
    match s.weftBatch b with
    | some (i, l, f) => { base with slot := some i, items := l, fills := f }
    | none => base

/-- A plan is frozen (R310): its prompt tokens leave the backlog, its streams enter prefill, its turn is taken. -/
def State.freezePlan (s : State) (no : Nat) (p : StepPlan) : State :=
  let i := p.slot.getD 0
  let s := s.sub (RES_BACKLOG i) (p.items.map Prod.snd).sum
  let s := p.items.foldl (fun s e => if s.get (STR_STATE e.1) = 1 then s.set (STR_STATE e.1) 2 else s) s
  let s := s.modSvc fun v =>
    { v with plans := v.plans ++ [p], fills := v.fills.filter fun f => !p.fills.contains f
             turn := if s.get (BLT_KIND p.bolt) = 1 && p.slot.isSome then tput 0 v.turn p.bolt (i + 1) else v.turn
             skip := v.skip.filter fun b => b != p.bolt }
  let s := ((s.set (BLT_IN_STEP p.bolt) 1).set (BLT_STEP_SLOT p.bolt) i).set (BLT_STEP p.bolt) no
  (s.boltLooms p.bolt).foldl (fun s n =>
    ((s.wakeDomain n).modSeq n fun q => { q with launch := some no, reported := false }).modSvc fun v => { v with rty := tput 0 v.rty n 0 }) s

/-- STEP_FREEZE (R310): the next batch of a bolt's step group is frozen and every loom of the group launched with one step number,
one above the last of any of its bolts, and two above an aborted one (R503). -/
def execStepFreeze (b : BoltNo) (s : State) : Host.Outcome State Fault Refusal :=
  .next <|
    let g := s.groupBolts b
    if !g.contains b.val || g.any (fun c => (s.planOf c).isSome) then s
    else
      let plans := g.map s.makePlan
      if plans.all fun p => p.items.isEmpty then s
      else
        let no := (g.map fun c => s.get (BLT_STEP c) + (if s.svc.skip.contains c then 1 else 0)).foldl max 0 + 1
        (plans.foldl (fun s p => s.freezePlan (no % 2 ^ 32) p) s).markSlow

/-! ### Benching a loom (R315, R466, R467) -/

/-- A loom's bolt goes DOWN: every stream of every slot bound to it ends ABORTED with cause BENCH (R315), and the prices are made anew
without its credits (R304, R306). -/
def State.boltDown (s : State) (b : Nat) : State :=
  let s := s.set (BLT_STATE b) 3
  (s.validStreams.filter fun x => s.binds (s.get (STR_SLOT x)) b).foldl (fun s x => s.endStream x 2 (16 * 8)) s |>.reprice

/-- The causes that a step has left on a bolt (R317, R392, R481). The holds of a loom that has not yet begun the step are an earlier one's. -/
def State.stepCauses (s : State) (p : StepPlan) : Nat :=
  let looms := (s.boltLooms p.bolt).filter fun n => (s.lm n).seq.launch.isNone
  let group := ((List.range 64).filter fun c => s.boltValid c && s.groupNo c == s.groupNo p.bolt
    && s.get (BLT_STEP c) == s.get (BLT_STEP p.bolt)).flatMap s.boltLooms
  let spans := s.profNat (p.slot.getD 0) (if s.get (BLT_KIND p.bolt) = 0 then 32 else 34) 2 % 512
  let rty := (group.map fun n => 64 * tget 0 s.svc.rty n).foldl max 0
  let link := ((List.range 6).map fun q => s.get (FAB_P_RETRY_NS_NS q) - p.retry0.getD q 0).foldl max rty
  let when_ (c : Nat) (h : Bool) : Nat := if h then 2 ^ c else 0
  orAll [when_ 1 (looms.any fun n => decide (s.get SVC_ALLOW_ECC_HOLDS < s.get (LOOM_STEP_HOLD_EVENTS n 0))),
    when_ 2 (looms.any fun n => decide (s.repairSpans spans < s.get (GRD_STEP_CNT_REPLAYED n))),
    when_ 3 (decide (s.get SVC_ALLOW_LINK_NS < link)),
    when_ 4 (p.slow || (s.boltLooms p.bolt).any s.loomSlow),
    when_ 5 (looms.any fun n => s.get (LOOM_STEP_HOLD_EVENTS n 1) != 0),
    when_ 6 (looms.any fun n => s.get (LOOM_STEP_HOLD_CYCLES n 4) != 0)]

/-- The collective engine discards the state of an aborted step for the collectives of the group's looms (R400). -/
def State.dropColl (s : State) (looms : List Nat) (step : Nat) : State :=
  let local_ (c : Nat) : Bool := looms.any fun n => bitOf (s.get (FAB_COLL_LOOMS c)) n
  s.modFab fun f => { f with colls := f.colls.map fun e => if local_ e.1 then (e.1, e.2.filter fun t => t.step != step) else e }

/-- Abort the frozen step of a bolt's group (R315): every stream in it has an overrun record and ends ABORTED with the cause, the
group's looms are reset, and a bolt with a benched loom goes DOWN. -/
def State.abortGroup (s : State) (b cause : Nat) : State :=
  let g := (s.svc.plans.map fun p => p.bolt).filter fun c => s.groupNo c == s.groupNo b
  let plans := s.svc.plans.filter fun p => g.contains p.bolt
  let step := s.get (BLT_STEP b)
  let s := (s.set SVC_ERR_ABORT 1).report (mkRec 10 0 0x102 3 none step 0 [])
  let s := plans.foldl (fun s p => s.noteCause p.bolt (2 ^ cause ||| s.stepCauses p)) s
  let s := plans.foldl (fun s p => p.items.foldl (fun s e =>
    (s.overrun e.1 (s.get (STR_DELIVERED e.1)) (s.causesFor e.1 p.bolt) (s.svcTime - s.get (STR_DUE e.1)) step).endStream e.1 2 (16 * cause)) s) s
  let s := (s.modSvc fun v => { v with plans := v.plans.filter (fun p => !g.contains p.bolt), skip := v.skip ++ g }).add SVC_CNT_ABORT_N g.length
  let s := g.foldl (fun s c => s.set (BLT_IN_STEP c) 0) s
  let looms := g.flatMap s.boltLooms
  let s := looms.foldl (fun s n => s.loomReset n) (s.dropColl looms step)
  g.foldl (fun s c => if (s.boltLooms c).any fun n => s.is (LOOM_STATUS_BENCHED n) then s.boltDown c else s) s

/-- The cause for which a bolt's frozen step must be aborted: BENCH, or FAULT (R315); 0: none. -/
def State.mustAbort (s : State) (b : Nat) : Nat :=
  let looms := ((s.svc.plans.map fun p => p.bolt).filter fun c => s.groupNo c == s.groupNo b).flatMap s.boltLooms
  if looms.any fun n => s.is (LOOM_STATUS_BENCHED n) then 8
  else if looms.any fun n => s.is (LOOM_STATUS_FAULT n) then 9
  else 0

/-- The serving controller aborts every frozen step that a fault or a bench has ended (R315). -/
def State.svcWatch (s : State) : State :=
  (List.range 64).foldl (fun s b => if (s.planOf b).isSome && s.mustAbort b != 0 then s.abortGroup b (s.mustAbort b) else s) s

/-- A loom is benched (R315, R467): the frozen step of its group aborts, and its bolt goes DOWN. One that is out of service since an
UNBENCH goes into the map again. -/
def State.benchLoom (s : State) (n cause : Nat) : State :=
  let was := s.is (LOOM_STATUS_BENCHED n)
  let s := s.benchLoomUnit n cause
  if was then s
  else match s.boltOf n with
    | none => s
    | some b => if (s.planOf b).isSome then s.abortGroup b 8 else s.boltDown b

/-- A loom's own lateness in its last step (R466). -/
def State.ownLag (s : State) (n : Nat) : Int :=
  (s.get (LOOM_STEP_ACTUAL_CYCLES n) : Int) - (s.stepCycles n : Int) - (s.get (LOOM_STEP_HOLD_CYCLES n 4) : Int)

/-- The lag rule at a seal (R466). -/
def State.lagRule (s : State) (n : Nat) : State :=
  let win := max 1 (s.get SLV_LAG_CTL_WIN)
  let h := (decide ((s.get SLV_LAG_CTL_THR : Int) < s.ownLag n) :: tget [] s.svc.lag n).take 255
  let s := s.modSvc fun v => { v with lag := tput [] v.lag n h }
  let count := min win (s.get SLV_LAG_CTL_COUNT)
  if count != 0 && count ≤ ((h.take win).filter fun b => b).length && !s.is (LOOM_STATUS_BENCHED n) then s.benchLoom n 8 else s

/-! ### Sealing (R309, R310, R313, R316, R317, R321, R322) -/

/-- Charge tokens to a tenant's bucket (R321). -/
def State.charge (s : State) (tenant k : Nat) : State :=
  s.set (TEN_LEVEL tenant) (ofSigned 32 (toSigned 32 (s.get (TEN_LEVEL tenant)) - (k : Int)))

/-- Deliver tokens of a stream (R309, R310, R317): each goes to the output ring, and each that is late has its overrun record; then
the next due time is set. DEDUCED: the writes carry tenant 0 (log 50). -/
def State.deliverTokens (s : State) (x b step : Nat) (toks : List Nat) : State :=
  let now := s.svcTime
  let d := s.get (STR_DELIVERED x)
  let due := s.get (STR_DUE x)
  let s := ((List.range toks.length).zip toks).foldl (fun s e =>
    let a := s.get (STR_OUT_BASE x) + 4 * ((d + e.1) % divisor 4 (s.get (STR_OUT_SIZE x)))
    let s := (s.tierPut 67 0 false a (leBytes 4 e.2) (List.replicate 4 false)).2
    if due < now then s.overrun x (d + e.1) (s.causesFor x b) (now - due) step else s) s
  let s := (s.add (STR_DELIVERED x) toks.length).charge (s.get (STR_TENANT x)) toks.length
  (s.set (STR_DUE x) (now + (if d = 0 then 2 else 1) * s.get (STR_ITL_NS x))).modSvc fun v => { v with prevDue := tput 0 v.prevDue x now }

/-- SVC's update of a speculative stream of draft length k whose step accepted a draft tokens (R322). -/
def State.specUpdate (s : State) (x a : Nat) : State :=
  let k := s.get (STR_K x)
  if !s.is (RES_SPEC (s.get (STR_SLOT x))) then s
  else if k = 0 then
    let c := s.get (STR_COOL x) - 1
    (s.set (STR_COOL x) c).set (STR_K x) (if c = 0 then 1 else 0)
  else
    let s := s.set (STR_K x) (if a = k then min (s.kMax (s.get (STR_SLOT x))) (k + 1) else a + 1)
    let run := if a = 0 then s.get (STR_REJ_RUN x) + 1 else 0
    let s := s.add (STR_REJECTED x) (k - a)
    if run = 16 then
      (((s.set (STR_K x) 0).set (STR_COOL x) (s.get SVC_SPEC_COOL_STEPS)).set (STR_REJ_RUN x) 0).set (STR_SPEC_OFF x) 1
    else s.set (STR_REJ_RUN x) run

/-- A stream after its tokens have been delivered: it ends under R313, at its cancel (R320), or goes on. -/
def State.afterTokens (s : State) (x : Nat) (toks : List Nat) : State :=
  let i := s.get (STR_SLOT x)
  if toks.contains (s.profNat i 28 4) || s.get (STR_MAX_NEW x) ≤ s.get (STR_DELIVERED x) then
    s.endStream x 0 (s.get (STR_CANCEL_REQ x))
  else if s.is (STR_CANCEL_REQ x) then s.endStream x 1 0
  else s

/-- The tokens that a step made for a stream; where the command names none, one free value. -/
def State.outOf (s : State) (x : Nat) (outs : List SealOut) : List Nat × State :=
  match outs.find? fun o => o.stream == x && !o.tokens.isEmpty with
  | some o => (o.tokens, s)
  | none => ([s.freeBits 32], s.takeFree)

/-- A poisoned token ends its stream (R316). -/
def State.poisonEnd (s : State) (x b step : Nat) : State :=
  (s.overrun x (s.get (STR_DELIVERED x)) (s.causesFor x b ||| 2 ^ 9) (s.svcTime - s.get (STR_DUE x)) step).endStream x 2 (16 * 9)

/-- Seal one stream of a plan: prompt tokens are charged, and its tokens delivered; a stream whose tokens are read from a `poisoned` row ends
(R316). -/
def State.sealItem (s : State) (b step : Nat) (outs : List SealOut) (poisoned : List Nat) (e : Nat × Nat) : State :=
  let x := e.1
  if s.get (STR_STATE x) = 3 then
    let (made, s) := s.outOf x outs
    if poisoned.contains x then s.poisonEnd x b step
    else
      let k := s.get (STR_K x)
      let acc := made.take (k + 1)
      let toks := acc.take (s.get (STR_MAX_NEW x) - s.get (STR_DELIVERED x))
      ((s.specUpdate x (acc.length - 1)).deliverTokens x b step toks).afterTokens x toks
  else
    let s := (s.add (STR_PREFILLED x) e.2).charge (s.get (STR_TENANT x)) e.2
    if s.promptLeft x != 0 then (if s.is (STR_CANCEL_REQ x) then s.endStream x 1 0 else s)
    else
      let (made, s) := s.outOf x outs
      if poisoned.contains x then s.poisonEnd x b step
      else
        let toks := made.take 1
        ((s.set (STR_STATE x) 3).deliverTokens x b step toks).afterTokens x toks

/-- The largest lag of a bolt's last step (R244, R316). -/
def State.boltLag (s : State) (b : Nat) : Int :=
  match (s.boltLooms b).map fun n => (s.get (LOOM_STEP_ACTUAL_CYCLES n) : Int) - (s.stepCycles n : Int) with
  | [] => 0
  | h :: t => t.foldl max h

/-- Seal a bolt's step. -/
def State.sealPlan (s : State) (outs : List SealOut) (poisoned : List Nat) (p : StepPlan) : State :=
  let step := s.get (BLT_STEP p.bolt)
  let s := s.noteCause p.bolt (s.stepCauses p)
  let s := s.modSvc fun v => { v with plans := v.plans.filter fun q => q.bolt != p.bolt }
  let s := p.items.foldl (fun s e => s.sealItem p.bolt step outs poisoned e) s
  let s := ((s.set (BLT_IN_STEP p.bolt) 0).set (BLT_LAG p.bolt) (ofSigned 32 (s.boltLag p.bolt))).add SVC_CNT_STEPS_N 1
  (s.boltLooms p.bolt).foldl (fun s n => s.modSeq n fun q => { q with reported := false }) s

/-- Causes that no token can count any more are dropped. -/
def State.trimCauses (s : State) : State :=
  let since := (s.validStreams.map fun x => tget 0 s.svc.prevDue x).foldl min s.svcTime
  s.modSvc fun v => { v with causes := v.causes.filter fun c => decide (since ≤ c.2.1) }

/-- The entries of a fill list in loom n's scratchpad (R292): none where R6 or R7 refuses it, and none from a poisoned word. -/
def State.fillList (s : State) (n : Nat) (l : Nat × Nat) : List FillEntry :=
  let count := if s.spPoisoned n l.1 64 || s.listRefused n l.1 (64 + l.2) then 0 else leAt (s.spRead n l.1 64) 4 2
  (List.range count).filterMap fun e =>
    let a := l.1 + 64 + e * (64 + l.2)
    let d := s.spRead n a 8
    if s.spPoisoned n a 8 then none
    else some { stream := leAt d 0 2 % 16384, xlayer := leAt d 2 1, head := leAt d 3 1 % 8, pos := leAt d 4 4 }

/-- The controller reads the fill lists that EXIT wrote on the looms of a sealed step (R291, R310): every entry of a decoding stream joins
the back-fill rows that wait, once, though several looms list it (log 107); a list that R6 or R7 refuses is recorded
(log 115). -/
def State.readFills (s : State) (looms : List Nat) : State :=
  let s := looms.foldl (fun s n => (s.lm n).sht.lists.foldl (fun s l =>
    if s.spPoisoned n l.1 64 || !s.listRefused n l.1 (64 + l.2) then s
    else s.report (mkRec 10 0 0x201 2 (some (lwin n + l.1)) (s.stepOf n) 0 [])) s) s
  let all := looms.flatMap fun n => (s.lm n).sht.lists.flatMap fun l => s.fillList n l
  s.modSvc fun v => { v with
    fills := all.foldl (fun fs f => if fs.contains f || s.get (STR_STATE f.stream) != 3 then fs else fs ++ [f]) v.fills }

/-- Every loom of a bolt's step group has reported END (R310, R315). -/
def State.groupEnded (s : State) (b : Nat) : Bool :=
  ((s.svc.plans.filter fun p => s.groupNo p.bolt == s.groupNo b).flatMap fun p => s.boltLooms p.bolt).all fun n => (s.lm n).seq.reported

/-- STEP_SEAL (R310): every loom of the step group has reported END; the group's steps seal, the fill list is read, and the lag rule
is applied to each loom of the step. -/
def execStepSeal (b : BoltNo) (outs : List SealOut) (poisoned : List Nat) (s : State) : Host.Outcome State Fault Refusal :=
  .next <|
    let plans := s.svc.plans.filter fun p => s.groupNo p.bolt == s.groupNo b
    let looms := plans.flatMap fun p => s.boltLooms p.bolt
    if (s.planOf b).isNone || !s.groupEnded b then s
    else
      let s := plans.foldl (fun s p => s.sealPlan outs poisoned p) s
      looms.foldl (fun s n => s.lagRule n) (s.readFills looms).trimCauses

/-- The priced time of a bolt's frozen step (R304, R315). -/
def State.stepPrice (s : State) (p : StepPlan) : Nat :=
  match p.slot with
  | none => 0
  | some i => s.get (if s.get (BLT_KIND p.bolt) = 0 then RES_TW_NS i else RES_TD_NS i)

/-- The priced time of a group's frozen step: the largest of its bolts' (R310, R315; log 49). A bolt that runs an empty step has none. -/
def State.groupPrice (s : State) (b : Nat) : Nat :=
  ((s.svc.plans.filter fun p => s.groupNo p.bolt == s.groupNo b).map s.stepPrice).foldl max 0

/-- STEP_TIMEOUT (R315): a step that a bench or a fault has ended, or that has run longer than SVC_STEP_TIMEOUT / 4 of its priced
time while a loom of its group has not reported END, is aborted. -/
def execStepTimeout (b : BoltNo) (s : State) : Host.Outcome State Fault Refusal :=
  .next <|
    match s.planOf b with
    | none => s
    | some p =>
      let q := s.get SVC_STEP_TIMEOUT_QUARTERS
      let q := if q = 0 then 4 else q
      if s.mustAbort b != 0 then s.abortGroup b (s.mustAbort b)
      else if q * s.groupPrice b < 4 * (s.svcTime - p.start) && !s.groupEnded b then s.abortGroup b 0xA
      else s

/-- One refill of every bucket (R321). -/
def State.refill (s : State) : State :=
  s.validTenants.foldl (fun s t =>
    s.set (TEN_LEVEL t) (ofSigned 32 (min (s.get (TEN_DEPTH t) : Int) (toSigned 32 (s.get (TEN_LEVEL t)) + (s.get (TEN_RATE t) : Int))))) s

/-- TOKEN_REFILL (R321): SVC_TIME has passed a whole millisecond for which the buckets have not been filled. -/
def execTokenRefill (s : State) : Host.Outcome State Fault Refusal :=
  .next <|
    if s.svc.refilled < s.svcTime / 1000000 then s.refill.modSvc fun v => { v with refilled := v.refilled + 1 } else s

end Sys2Proof.Machine
end

