-- ==== Sys2Proof/Machine/Card.lean ====
section
/-! DEFINITION. The Card image: its checks, loads and commit (R411 to R430). -/
namespace Sys2Proof.Machine

/-! ### Layouts (R412 to R414) -/

/-- What R414 gives a section type: entry bytes, least and greatest COUNT, and whether it is required. -/
def sectShape (t : Nat) : Option (Nat × Nat × Nat × Bool) :=
  match t with
  | 1 | 2 => some (64, 1, 1, true)
  | 3 => some (64, 64, 64, true)
  | 4 => some (64, 144, 144, true)
  | 5 => some (128, 64, 64, true)
  | 6 => some (64, 1024, 1024, true)
  | 7 => some (32, 1024, 1024, true)
  | 8 => some (4, 16384, 16384, true)
  | 9 => some (16, 0, 4096, false)
  | 10 => some (64, 256, 256, false)
  | 11 => some (16, 256, 256, false)
  | 12 => some (32, 0, 622080, false)
  | 13 => some (64, 144, 144, false)
  | _ => none

/-- Entry bytes of a section type. -/
def entrySize (t : Nat) : Nat := ((sectShape t).map Prod.fst).getD 1

/-- The sections of an image by type. -/
abbrev CardSecs := List (Nat × List Byte)

/-- The bytes of a section; none: an empty table. -/
def secOf (c : CardSecs) (t : Nat) : List Byte := tget [] c t

/-- Entry i of a section; an absent entry is all zero. -/
def entOf (c : CardSecs) (t i : Nat) : List Byte := slice (secOf c t) (entrySize t * i) (entrySize t)

/-- Entries of a section. -/
def secCount (c : CardSecs) (t : Nat) : Nat := (secOf c t).length / entrySize t

/-- Directory entry i of an image (R413). -/
def dirEnt (img : List Byte) (i : Nat) : List Byte := slice img (64 + 32 * i) 32

/-- Directory entries of an image. -/
def dirOf (img : List Byte) : List (List Byte) := (List.range (leAt img 24 2)).map (dirEnt img)

/-- The sections that the directory names. -/
def secsOf (img : List Byte) : CardSecs :=
  (dirOf img).foldl (fun c d => tput [] c (leAt d 0 1) (slice img (leAt d 4 4) (leAt d 8 4))) []

/-- A refusal (R426): status, section type, entry index. -/
abbrev CardBad := Nat × Nat × Nat

/-- The first of a list of checks that refuses. -/
def firstBad : List (Unit → Option CardBad) → Option CardBad
  | [] => none
  | f :: t => match f () with | some b => some b | none => firstBad t

/-- Refuse with a status at the first entry of a section that a test names. -/
def badEntry (sts t : Nat) (l : List Nat) (bad : Nat → Bool) : Option CardBad := (l.find? bad).map fun i => (sts, t, i)

/-- Refuse where a test holds. -/
def badIf (sts t : Nat) (b : Bool) : Option CardBad := if b then some (sts, t, 0) else none

/-! ### Header and directory (R412, R413) -/

/-- FORMAT, LEVEL and RESERVED of the header and the trailer. -/
def headerStatus (img : List Byte) (len : Nat) : Nat :=
  let sig := leAt img 20 4
  if leAt img 0 4 != 0x44524143 || leAt img 4 1 / 16 != 1 || 0x1000000 < len || !trailerOk img sig len then 1
  else if leAt img 4 1 % 16 != 2 then 2
  else if leAt img 5 3 != 0 || leAt img 26 2 != 0 || !allZero (slice img 32 32) || !trailerClean img sig then 3
  else 0

/-- The sections lie in ascending order without overlap from `at_` on and before SIG_OFF, with zero padding between them. -/
def dirOrder (img : List Byte) (sig : Nat) : Nat → List (List Byte) → Option Nat
  | at_, [] => if sig < at_ || !allZero (slice img at_ (sig - at_)) then some 0 else none
  | at_, d :: t =>
    let o := leAt d 4 4
    let n := leAt d 8 4
    if o % 64 != 0 || o < at_ || sig < o + n || !allZero (slice img at_ (o - at_)) then some (leAt d 0 1)
    else dirOrder img sig (o + n) t

/-- A directory entry breaks R414. -/
def dirEntryBad (d : List Byte) : Bool :=
  match sectShape (leAt d 0 1) with
  | none => true
  | some (sz, lo, hi, _) => leAt d 12 4 < lo || hi < leAt d 12 4 || leAt d 8 4 != leAt d 12 4 * sz

/-- R413 and R414. -/
def dirCheck (img : List Byte) : Option CardBad :=
  let n := leAt img 24 2
  let ds := dirOf img
  let ts := ds.map fun d => leAt d 0 1
  if n = 0 || 32 < n then some (8, 0, 0)
  else match ds.find? dirEntryBad with
    | some d => some (8, leAt d 0 1, 0)
    | none =>
      match (List.range ts.length).find? fun i => (ts.take i).contains (ts.getD i 0) with
      | some i => some (8, ts.getD i 0, 0)
      | none => match [1, 2, 3, 4, 5, 6, 7, 8].find? fun t => !ts.contains t with
        | some t => some (8, t, 0)
        | none => (dirOrder img (leAt img 20 4) (64 + 32 * n) ds).map fun t => (8, t, 0)

/-! ### Levels and reserved fields (R6, R7, R422) -/

/-- Reserved bit ranges of the entries whose layout is not a register's: lowest bit and width. -/
def resvBits (t : Nat) : List (Nat × Nat) :=
  match t with
  | 1 => [(14, 18), (60, 4), (70, 2), (84, 4), (88, 8), (120, 8), (152, 8), (172, 3), (176, 336)]
  | 2 => [(2, 6), (8, 8), (29, 3), (76, 4), (80, 432)]
  | 3 => [(7, 1), (16, 16), (44, 4), (48, 16), (208, 48), (354, 6), (360, 152)]
  | 4 => [(5, 3), (24, 8), (60, 4)]
  | 5 => [(6, 2), (26, 6), (32, 32), (640, 384)]
  | 12 => [(10, 6), (28, 4), (32, 96)]
  | _ => []

/-- The register that an entry of a section has the form of. -/
def entryReg (t i : Nat) : Option Nat :=
  match t with
  | 6 => some (0x1040000 + 64 * i)
  | 7 => some (0x20A0000 + 32 * i)
  | 8 => some (0x6010000 + 4 * i)
  | 9 => some (0x2090000 + 16 * i)
  | 10 => some (0x6020000 + 64 * i)
  | 11 => some (0x6000800 + 16 * i)
  | _ => none

/-- The Shuttle table entry that a QUEUES entry writes: its register and its bytes (R423). -/
def queueReg (e : List Byte) : Nat × List Byte :=
  let n := leAt e 0 1
  let i := leAt e 2 2 % 4096
  match leAt e 1 1 % 4 with
  | 0 => (lwin n + 0xF91000 + 16 * i, slice e 16 16)
  | 1 => (lwin n + 0xF94000 + 8 * i, slice e 16 8)
  | _ => (lwin n + 0xF98000 + 16 * i, slice e 16 16)

/-- The fields of the register at an address. -/
def fieldsAt (a : Nat) : List Fld := match findReg a with | some h => h.fields.map Prod.fst | none => []

/-- Every bit of an entry outside the fields of the register at its address is zero. -/
def formClean (a : Nat) (l : List Byte) : Bool :=
  let v := leNat l
  ((fieldsAt a).map fun f => bits v (f.key - 8 * a) f.width * 2 ^ (f.key - 8 * a)).sum == v

/-- The section's entries carry a VALID bit; its place (R422). -/
def validBit (t : Nat) : Option Nat :=
  if t = 3 || t = 4 || t = 5 || t = 6 || t = 9 || t = 10 then some 4 else if t = 11 then some 69 else none

/-- An entry is valid. -/
def entValid (t : Nat) (e : List Byte) : Bool := match validBit t with | some b => bitOf (leNat e) b | none => true

/-- The section's entries carry ARCH_LEVEL. -/
def hasLevel (t : Nat) : Bool := (3 ≤ t && t ≤ 7) || t == 9 || t == 10

/-- A collective entry holds a reserved value, or a CLASS other than SCATTER or BULK (R396). -/
def collBad (e : List Byte) : Bool :=
  let h := leAt e 0 4
  bits h 5 2 == 3 || bits h 7 2 == 3 || 5 ≤ bits h 9 3 || !(bits h 12 2 == 1 || bits h 12 2 == 2) || leAt e 40 1 % 4 == 3

/-- R6 and R7 refuse entry i of a section. -/
def entryRefused (t i : Nat) (e : List Byte) : Bool :=
  let v := leNat e
  if (validBit t).isSome && v == 0 then false
  else
    (hasLevel t && v % 16 != 2) || ((resvBits t).any fun r => bits v r.1 r.2 != 0)
      || (match entryReg t i with | some a => !formClean a e | none => false)
      || (t == 10 && collBad e)
      || (t == 12 && leAt e 1 1 % 4 ≤ 2 && leAt e 0 1 < 144 && (let q := queueReg e; !formClean q.1 q.2))
      || (t == 12 && leAt e 1 1 % 4 == 1 && !allZero (slice e 24 8))
      || (t == 13 && (List.range 8).any fun w => !formClean (lwin 0 + 0xF30200 + 8 * w) (slice e (8 * w) 8))

/-- SECTION (R426). -/
def sectionCheck (img : List Byte) (c : CardSecs) : Option CardBad :=
  match (dirOf img).find? fun d => leAt d 1 1 != 1 || leAt d 2 1 != 2 || leAt d 3 1 != 0 || !allZero (slice d 16 16) with
  | some d => some (9, leAt d 0 1, 0)
  | none => firstBad ((List.range 14).map fun t _ =>
      badEntry 9 t (List.range (secCount c t)) fun i => entryRefused t i (entOf c t i))

/-! ### Bolts (R419) -/

/-- Fields of a BOLTS entry. -/
def bEnt (c : CardSecs) (b : Nat) : List Byte := entOf c 3 b
def bValid (c : CardSecs) (b : Nat) : Bool := entValid 3 (bEnt c b)
def bKind (c : CardSecs) (b : Nat) : Nat := bits (leAt (bEnt c b) 0 1) 5 1
def bLooms (c : CardSecs) (b : Nat) : List Nat := (List.range 144).filter fun n => bitOf (leAt (bEnt c b) 8 18) n
/-- The valid bolt that holds loom n. -/
def boltIn (c : CardSecs) (n : Nat) : Option Nat := (List.range 64).find? fun b => bValid c b && bitOf (leAt (bEnt c b) 8 18) n

/-- R22 and R419. -/
def boltCheck (c : CardSecs) : Option CardBad :=
  badEntry 0xA 3 (List.range 64) fun b =>
    let e := bEnt c b
    let ls := bLooms c b
    if !bValid c b then !allZero e
    else
      ls.isEmpty || (ls.any fun n => kindOf n != bKind c b)
        || ((List.range b).any fun d => bValid c d && (bLooms c d).any ls.contains)
        || leAt e 4 2 % 4096 < 900 || 1850 < leAt e 4 2 % 4096
        || (if bKind c b = 0 then leAt e 32 8 != 0 || leAt e 40 4 != 0 else leAt e 32 8 % 1024 != 0 || leAt e 44 1 % 4 == 3)

/-! ### Draft bindings (R420, R39, R247) -/

/-- The Draft image that a binding names: its bytes, and whether the fetch failed. -/
def State.draftFetch (s : State) (e : List Byte) : List Byte × Bool × State :=
  let a := hbmBase + 4096 * (leAt e 4 4)
  let n := 64 * bits (leAt e 0 4) 8 16
  if hbmEnd < a + n then ([], true, s)
  else
    let (r, s) := s.devFetch a n
    (r.data, r.status != 0 || r.pois.any id, s)

/-- The state with Draft images in their stores. -/
def State.withDrafts (s : State) (ds : List (Nat × List Byte)) : State := ds.foldl (fun s d => s.memWrite (draftAddr d.1 0) d.2 false) s

/-- R420: the loom whose binding is refused, the Draft images fetched, and the state after the reads. -/
def State.draftCheck (s : State) (c : CardSecs) : Option CardBad × List (Nat × List Byte) × State :=
  (List.range 144).foldl (fun r n =>
    if r.1.isSome then r
    else
      let e := entOf c 4 n
      let bad (s : State) : Option CardBad × List (Nat × List Byte) × State := (some (0xB, 4, n), [], s)
      if entValid 4 e != (boltIn c n).isSome then bad r.2.2
      else if !entValid 4 e then r
      else
        let len := bits (leAt e 0 4) 8 16
        if len = 0 || 16384 < len then bad r.2.2
        else
          let (d, failed, s) := r.2.2.draftFetch e
          let u := s.withDrafts [(n, d)]
          if failed || sha384 d != slice e 16 48 || u.headerBad n || u.draftNat n 8 8 != leAt e 8 8 then bad s
          else (none, r.2.1 ++ [(n, d)], s)) (none, [], s)

/-- CREDIT: MAX_CREDITS of a bound Draft exceeds 6,400 less RESERVE (R39). -/
def State.creditCheck (s : State) (c : CardSecs) : Option CardBad :=
  badEntry 0xC 4 ((List.range 144).filter fun n => (boltIn c n).isSome) fun n =>
    decide (6400 - leAt (entOf c 2 0) 2 2 % 8192 < s.maxCredits n)

/-- The open chain as the words go by (R247): OSLACK, the needs of its groups, and whether its REPAY has come. -/
structure Chain where
  oslack : Nat
  groups : List ((Nat × Nat × Nat) × Nat) := []
  repaid : Bool := false

/-- The chain names lists and R247 refuses it. -/
def Chain.bad (k : Chain) : Bool :=
  !k.groups.isEmpty && (decide (k.oslack < (k.groups.map Prod.snd).sum) || !k.repaid)

/-- A chain takes an ARRAY word: its group needs the largest ROWS × 128 × OSEGS. -/
def Chain.take (k : Chain) (o : ArrOp) : Chain :=
  if !o.olEn then k
  else
    let g := (o.olist, o.olStride, o.osegs)
    let need := o.rows * 128 * o.osegs
    let old := ((k.groups.find? fun x => x.1 == g).map Prod.snd).getD 0
    { k with groups := (k.groups.filter fun x => x.1 != g) ++ [(g, max old need)] }

/-- Go through k words of loom n's Draft from word i with the open chain: some chain breaks R247. -/
def State.chainsBad (s : State) (n : Nat) : Nat → Nat → Option Chain → Bool
  | 0, _, c => (c.map Chain.bad).getD false
  | k + 1, i, c =>
    let w := s.draftWord n i
    if w.unit = 0 && w.op = 2 then (c.map Chain.bad).getD false || s.chainsBad n k (i + 1) none
    else if w.unit = 0 && w.op = 8 then
      s.chainsBad n k (i + 1) (c.map fun x => if w.arg = x.oslack then { x with repaid := true } else x)
    else if w.unit = 1 && w.op = 0 then
      let o := arrOpOf (s.blockBytes n w.arg)
      if o.chainFirst then (c.map Chain.bad).getD false || s.chainsBad n k (i + 1) (some (({ oslack := o.oslack } : Chain).take o))
      else s.chainsBad n k (i + 1) (c.map (·.take o))
    else s.chainsBad n k (i + 1) c

/-- OUTLIER (R247, R426). -/
def State.outlierCheck (s : State) (c : CardSecs) : Option CardBad :=
  badEntry 0xD 4 ((List.range 144).filter fun n => (boltIn c n).isSome) fun n => s.chainsBad n (s.draftWords n) 0 none

/-! ### Slots and profiles (R297, R298, R421) -/

/-- Fields of a SLOTS entry. -/
def sEnt (c : CardSecs) (i : Nat) : List Byte := entOf c 5 i
def sValid (c : CardSecs) (i : Nat) : Bool := entValid 5 (sEnt c i)
def sHead (c : CardSecs) (i : Nat) : Nat := leAt (sEnt c i) 0 4
def sSpec (c : CardSecs) (i : Nat) : Bool := bitOf (sHead c i) 5
def sDraft (c : CardSecs) (i : Nat) : Nat := bits (sHead c i) 8 6
def sW (c : CardSecs) (i : Nat) : Nat := bits (sHead c i) 14 6
def sD (c : CardSecs) (i : Nat) : Nat := bits (sHead c i) 20 6
/-- A slot of the image binds bolt b. -/
def sBinds (c : CardSecs) (i b : Nat) : Bool := sValid c i && (sW c i == b || sD c i == b)

/-- The weight region of a slot: base and length. -/
def sRegion (c : CardSecs) (i : Nat) : Nat × Nat := (leAt (sEnt c i) 16 8, leAt (sEnt c i) 24 8)
/-- The KV pool of a Weft bolt: base and length (R63, R419). -/
def kvPool (c : CardSecs) (b : Nat) : Nat × Nat :=
  let e := bEnt c b
  (leAt e 32 8, leAt e 40 4 * 1024 * ceilDiv (68 * (64 * 2 ^ (leAt e 44 1 % 4)) + 64) 1024)

/-- Weft bolts with a pool. -/
def weftBolts (c : CardSecs) : List Nat := (List.range 64).filter fun b => bValid c b && bKind c b == 1

/-- Two ranges overlap. -/
def overlaps (x y : Nat × Nat) : Bool := decide (x.1 < y.1 + y.2) && decide (y.1 < x.1 + x.2)

/-- A profile passes R6 and R7. -/
def profileOk (l : List Byte) : Bool :=
  l.length == 2112 && leAt l 0 4 == 2 && leAt l 18 2 / 1024 == 0 && leAt l 20 1 / 16 == 0 && leAt l 32 2 / 512 == 0 && leAt l 34 2 / 512 == 0
    && allZero (slice l 36 28)

/-- What R297 and R421 say of a valid slot's entry, its profile apart. -/
def slotBad (c : CardSecs) (i : Nat) : Bool :=
  let r := sRegion c i
  !(bValid c (sW c i) && bKind c (sW c i) == 0) || !(bValid c (sD c i) && bKind c (sD c i) == 1)
    || (if sSpec c i then !(sValid c (sDraft c i) && sD c (sDraft c i) == sD c i) else sDraft c i != 0)
    || r.1 % 65536 != 0 || r.2 % 65536 != 0
    || ((List.range i).any fun j => sValid c j && overlaps r (sRegion c j)) || ((weftBolts c).any fun b => overlaps r (kvPool c b))

/-- The profiles of the valid slots, read from their fabric addresses (R421). -/
def profileReads (c : CardSecs) : List Nat → Rd (List (Nat × RdData))
  | [] => rdPure []
  | i :: t => rdBind (tierRange 0 false (leAt (sEnt c i) 8 8) 2112) fun r => rdBind (profileReads c t) fun l => rdPure ((i, r) :: l)

/-- PROFILE (R426). -/
def profileCheck (c : CardSecs) (ps : List (Nat × RdData)) : Option CardBad :=
  (ps.find? fun p =>
    slotBad c p.1 || p.2.status != 0 || p.2.pois.any id || sha384 p.2.data != slice (sEnt c p.1) 32 48 || !profileOk p.2.data).map
      fun p => (0xE, 5, p.1)

/-! ### Tables (R417, R418, R422, R423, R272, R334) -/

/-- Personality of port p in the image's DEVICE entry. -/
def persOf (c : CardSecs) (p : Nat) : Nat := bits (leAt (entOf c 1 0) 9 2) (2 * p) 2
/-- The torus extents less one. -/
def dimsOf (c : CardSecs) : Nat × Nat × Nat := let v := leAt (entOf c 1 0) 0 4; (bits v 0 4, bits v 4 5, bits v 9 5)

/-- R417. -/
def deviceBad (c : CardSecs) : Bool :=
  let e := entOf c 1 0
  let (dx, dy, dz) := dimsOf c
  let blk := leAt e 4 4
  let axis (p : Nat) : Nat := if p / 2 = 0 then dx else if p / 2 = 1 then dy else dz
  let port (v : Nat) : Bool := v == 7 || (v < 6 && persOf c v == 1)
  decide (dx < bits blk 0 4 + bits blk 14 4) || decide (dy < bits blk 4 5 + bits blk 18 5) || decide (dz < bits blk 9 5 + bits blk 23 5)
    || ((List.range 6).any fun p => persOf c p == 3 || (axis p == 0 && persOf c p != 0))
    || !port (leAt e 8 1 % 8) || !port (leAt e 8 1 / 8 % 8) || leAt e 16 4 == 0

/-- R418. -/
def powerBad (c : CardSecs) : Bool :=
  let e := entOf c 2 0
  let (dx, dy, dz) := dimsOf c
  let pol := leAt e 0 1 % 4
  2 ≤ pol || (pol == 0 && 512 < (dx + 1) * (dy + 1) * (dz + 1)) || leAt e 2 2 % 8192 == 0 || 6399 < leAt e 2 2 % 8192
    || (pol == 1 && leAt e 4 4 != 0) || leAt e 8 2 % 4096 < 400 || 3000 < leAt e 8 2 % 4096

/-- TENANTS and QUOTAS of R422. -/
def tenantBad (c : CardSecs) (t : Nat) : Bool :=
  let e := entOf c 6 t
  (!entValid 6 e && !allZero e) || (t == 0 && !entValid 6 e) || leAt e 12 4 != 0 || leAt e 18 2 != 0 || leAt e 44 4 != 0
def quotaUsedBad (c : CardSecs) (t : Nat) : Bool :=
  let e := entOf c 7 t
  leAt e 8 4 != 0 || leAt e 16 4 != 0 || leAt e 24 4 != 0
def keepSum (c : CardSecs) : Nat := ((List.range 1024).map fun t => leAt (entOf c 7 t) 0 1 / 16).sum

/-- A valid REGIONS entry as base and length. -/
def rgnRange (e : List Byte) : Nat × Nat := (hbmBase + 65536 * leAt e 5 3, 65536 * leAt e 8 3)
def rgnBit (e : List Byte) (b : Nat) : Bool := bitOf (leAt e 0 2) b
/-- Indices of the valid REGIONS entries. -/
def imgRegions (c : CardSecs) : List Nat := (List.range (secCount c 9)).filter fun i => entValid 9 (entOf c 9 i)

/-- REGIONS of R422: FIXED, not LENT, and the INVALID, OVERLAP and PROT_PEER conditions of R332. -/
def regionBad (c : CardSecs) (i : Nat) : Bool :=
  let e := entOf c 9 i
  if !entValid 9 e then !allZero e
  else
    !rgnBit e 10 || rgnBit e 11 || bits (leAt e 0 2) 5 2 == 3 || leAt e 8 3 == 0 || 0xD80000 < leAt e 5 3 + leAt e 8 3
      || ((List.range i).any fun j => entValid 9 (entOf c 9 j) && overlaps (rgnRange e) (rgnRange (entOf c 9 j)))
      || (rgnBit e 7 && rgnBit e 9)

/-- Bytes of a range that valid entries with a property cover. -/
def coverOf (c : CardSecs) (good : List Byte → Bool) (x : Nat × Nat) : Nat :=
  ((imgRegions c).map fun i =>
    let e := entOf c 9 i
    let r := rgnRange e
    if good e then min (x.1 + x.2) (r.1 + r.2) - max x.1 r.1 else 0).sum

/-- The slot whose weight region R334 refuses, or the Weft bolt. -/
def coverCheck (c : CardSecs) : Option CardBad :=
  (badEntry 0xF 5 ((List.range 64).filter (sValid c)) fun i =>
    coverOf c (fun e => !(rgnBit e 7 && rgnBit e 8)) (sRegion c i) != (sRegion c i).2).or
  (badEntry 0xF 3 (weftBolts c) fun b => coverOf c (fun e => rgnBit e 8) (kvPool c b) != (kvPool c b).2)

/-- ROUTES of R422 for this device's chip. -/
def routeBad (c : CardSecs) (chip d : Nat) : Bool :=
  let e := entOf c 8 d
  let names (v : Nat) : Bool := v == 7 || (v < 6 && persOf c v == 1)
  (List.range 4).any fun k =>
    let v := leAt e k 1
    (if d = chip then v % 8 != 6 else !names (v % 8)) || !names (v / 16 % 8)

/-- ETHFWD of R422: a tunnel entry names an ETH port, a LOCAL entry one of this device. -/
def ethfwdBad (c : CardSecs) (i : Nat) : Bool :=
  let e := entOf c 11 i
  let v := leAt e 8 1
  if !entValid 11 e then !allZero e
  else if bitOf v 6 then !(v % 32 < 18 && persOf c (v % 32 / 3) == 2) else 18 ≤ v % 32

/-- INWIN of R422. -/
def inwinBad (e : List Byte) : Bool :=
  (List.range 8).any fun w =>
    let f := fieldsAt (lwin 0 + 0xF30200 + 8 * w)
    let v := leNat (slice e (8 * w) 8)
    let part (i : Nat) : Nat := match f[i]? with | some g => bits v (g.key - 8 * (lwin 0 + 0xF30200 + 8 * w)) g.width | none => 0
    0x1000 < part 0 + part 1

/-- The QUEUES entries of an image. -/
def queueEnts (c : CardSecs) : List (List Byte) := (List.range (secCount c 12)).map (entOf c 12)
/-- LOOM, TABLE and INDEX of a QUEUES entry. -/
def queueKey (e : List Byte) : Nat × Nat × Nat := (leAt e 0 1, leAt e 1 1 % 4, leAt e 2 2 % 4096)

/-- Ranges of slots overlap. -/
def slotsClash : List (Nat × Nat) → Bool
  | [] => false
  | x :: t => (t.any fun y => overlaps x y) || slotsClash t

/-- R272 refuses a valid queue table entry; `src` gives the source table entry that the image writes at an index. -/
def queueBad (n : Nat) (src : Nat → Option (List Byte)) (e : List Byte) : Bool :=
  let lo := leAt e 0 8
  let hi := leAt e 8 8
  let cap := bits lo 32 12
  let nsrc := bits lo 48 7
  let base := bits hi 0 11
  let ovf := (bits hi 16 12, bits hi 28 12)
  let rsz := 64 * bits hi 40 16
  let ents := (List.range nsrc).map fun k => src (base + k)
  let ranges := ents.map fun x => match x with | some l => (bits (leAt l 8 8) 40 12, bits (leAt l 8 8) 52 12) | none => (0, 0)
  let all := (ranges ++ [ovf]).filter fun r => r.2 != 0
  bits lo 0 24 % 64 != 0 || spadSize n < bits lo 0 24 + 2 * cap * rsz || nsrc == 0 || 64 < nsrc || 2048 < base + nsrc
    || (ents.any fun x => x.isNone) || (all.any fun r => decide (cap < r.1 + r.2)) || slotsClash all

/-- R423 and R272. -/
def queuesCheck (c : CardSecs) : Option CardBad :=
  let es := queueEnts c
  let keys := es.map queueKey
  let src (n : Nat) (i : Nat) : Option (List Byte) := (es.find? fun e => queueKey e == (n, 2, i)).map fun e => slice e 16 16
  badEntry 0xF 12 (List.range es.length) fun i =>
    let e := es.getD i []
    let (n, t, k) := queueKey e
    143 < n || (boltIn c n).isNone || t == 3 || (if t = 0 then 223 < k else 2047 < k) || (keys.take i).contains (n, t, k)
      || (t == 0 && bitOf (leAt e 24 2) 11 && queueBad n (src n) (slice e 16 16))

/-- TABLE (R426). -/
def tableCheck (c : CardSecs) (chip : Nat) : Option CardBad :=
  firstBad [fun _ => badIf 0xF 1 (deviceBad c), fun _ => badIf 0xF 2 (powerBad c),
    fun _ => badEntry 0xF 4 (List.range 144) fun n => !entValid 4 (entOf c 4 n) && !allZero (entOf c 4 n),
    fun _ => badEntry 0xF 5 (List.range 64) fun i => !sValid c i && !allZero (sEnt c i),
    fun _ => badEntry 0xF 6 (List.range 1024) (tenantBad c),
    fun _ => badEntry 0xF 7 (List.range 1024) (quotaUsedBad c), fun _ => badIf 0xF 7 (12 < keepSum c),
    fun _ => badEntry 0xF 8 (List.range 16384) (routeBad c chip),
    fun _ => badEntry 0xF 9 (List.range (secCount c 9)) (regionBad c), fun _ => coverCheck c,
    fun _ => badEntry 0xF 10 (List.range (secCount c 10)) fun i => !entValid 10 (entOf c 10 i) && !allZero (entOf c 10 i),
    fun _ => badEntry 0xF 11 (List.range (secCount c 11)) (ethfwdBad c), fun _ => queuesCheck c,
    fun _ => badEntry 0xF 13 (List.range (secCount c 13)) fun n => inwinBad (entOf c 13 n)]

/-- HBM use in KiB of a tenant under the image's regions (R426). -/
def imgKib (c : CardSecs) (t : Nat) : Nat :=
  ((imgRegions c).map fun i =>
    let e := entOf c 9 i
    if !rgnBit e 8 && leAt e 2 2 % 1024 == t then 64 * leAt e 8 3 else 0).sum

/-- QUOTA (R426). -/
def State.quotaCheck (s : State) (c : CardSecs) : Option CardBad :=
  badEntry 0x10 7 ((List.range 1024).drop 1) fun t =>
    let e := entOf c 7 t
    decide (leAt e 4 4 < imgKib c t) || decide (leAt e 12 4 < s.get (HBM_TQ_NBT_USED t)) || decide (leAt e 20 4 < s.get (HBM_TQ_FLASH_USED t))

/-! ### Preconditions and scope (R424, R425) -/

/-- A bolt is CLOSED or DOWN. -/
def State.boltIdle (s : State) (b : Nat) : Bool := s.get (BLT_STATE b) == 0 || s.get (BLT_STATE b) == 3

/-- A loom is stopped. -/
def State.stopped (s : State) (n : Nat) : Bool := !s.is (LOOM_STATUS_RUN n)

/-- The state of a lease is FREE or LOST. -/
def leaseOver (v : Nat) : Bool := v == 0 || v == 4

/-- No lease of either side is OFFERED, ACTIVE or RECLAIMING. -/
def State.leasesOver (s : State) : Bool :=
  (List.range 256).all fun i => leaseOver (s.get (NBT_BORROW_STATE i)) && leaseOver (s.get (NBT_LEND_STATE i))

/-- No tier command is in progress, a swap included (R323). -/
def State.tiersIdle (s : State) : Bool := !s.tiers.ops.any fun o => o.1 < 66

/-- The preconditions of a FULL load. -/
def State.fullReady (s : State) : Bool :=
  (List.range 64).all s.boltIdle && s.validStreams.isEmpty && (List.range 144).all s.stopped && s.leasesOver && s.tiersIdle

/-- Looms that a masked bolt holds under the active image or the new one. -/
def State.maskLooms (s : State) (c : CardSecs) (mask : Nat) : List Nat :=
  (List.range 144).filter fun n =>
    ((s.boltOf n).map (bitOf mask)).getD false || ((boltIn c n).map (bitOf mask)).getD false

/-- Slot i binds a masked bolt under either image. -/
def State.slotMasked (s : State) (c : CardSecs) (mask i : Nat) : Bool :=
  (s.is (RES_VALID i) && (bitOf mask (s.get (RES_WBOLT i)) || bitOf mask (s.get (RES_DBOLT i))))
    || (sValid c i && (bitOf mask (sW c i) || bitOf mask (sD c i)))

/-- The preconditions of a FUNCTION load; the image is empty before it has been read. -/
def State.functionReady (s : State) (c : CardSecs) (mask : Nat) : Bool :=
  s.is CRD_STATUS_LOADED && ((List.range 64).all fun b => !bitOf mask b || s.boltIdle b)
    && (s.validStreams.all fun x => !s.slotMasked c mask (s.get (STR_SLOT x))) && (s.maskLooms c mask).all s.stopped

/-- The first entry in which a section differs between two images (R425, R426). -/
def secDiff (c old : CardSecs) (t : Nat) : Option Nat :=
  if secOf c t = secOf old t then none
  else some (((List.range (max (secCount c t) (secCount old t))).find? fun i => entOf c t i != entOf old t i).getD 0)

/-- The first QUEUES entry, of a loom that `looms` does not hold, in which two images differ (R425, R426). -/
def queueDiff (c old : CardSecs) (looms : List Nat) : Option Nat :=
  let others (k : CardSecs) : List Nat := (List.range (secCount k 12)).filter fun i => !looms.contains (leAt (entOf k 12 i) 0 1)
  let a := others c
  let b := others old
  ((List.range (max a.length b.length)).find? fun j => (a[j]?.map (entOf c 12)) != (b[j]?.map (entOf old 12))).map fun j =>
    a.getD j (secCount c 12)

/-- SCOPE (R425). -/
def State.scopeCheck (s : State) (c : CardSecs) (mask : Nat) : Option CardBad :=
  let old := s.card
  let looms := s.maskLooms c mask
  firstBad [
    fun _ => [1, 2, 6, 7, 8, 9, 10, 11].findSome? fun t => (secDiff c old t).map fun i => (0x12, t, i),
    fun _ => badEntry 0x12 3 (List.range 64) fun b => !bitOf mask b && bEnt c b != bEnt old b,
    fun _ => badEntry 0x12 4 (List.range 144) fun n => !looms.contains n && entOf c 4 n != entOf old 4 n,
    fun _ => badEntry 0x12 13 (List.range 144) fun n => !looms.contains n && entOf c 13 n != entOf old 13 n,
    fun _ => (queueDiff c old looms).map fun i => (0x12, 12, i),
    fun _ => badEntry 0x12 5 (List.range 64) fun i =>
      if s.slotMasked c mask i then
        (sValid c i && !(bitOf mask (sW c i) && bitOf mask (sD c i))) || (sValid old i && !(bitOf mask (sW old i) && bitOf mask (sD old i)))
      else sEnt c i != sEnt old i]

/-! ### Commit (R427, R428) -/

/-- Give the fields of the register at an address their values from an entry of its form. -/
def State.putForm (s : State) (a : Nat) (l : List Byte) : State :=
  (fieldsAt a).foldl (fun s f => s.set f (bits (leNat l) (f.key - 8 * a) f.width)) s

/-- The Shuttle tables of a loom read as cold reset leaves them (R296). -/
def State.clearShuttle (s : State) (n : Nat) : State :=
  { s with flds := s.flds.filter fun e =>
      let o := e.1 / 8 - lwin n
      !(decide (lwin n ≤ e.1 / 8) && ((0xF91000 ≤ o && o < 0xF91E00) || (0xF94000 ≤ o && o < 0xFA0000))) }

/-- The loader writes the Shuttle tables and the inbound windows of looms (R272, R427). -/
def State.putLooms (s : State) (c : CardSecs) (looms : List Nat) : State :=
  let s := looms.foldl State.clearShuttle s
  let es := (queueEnts c).filter fun e => looms.contains (leAt e 0 1)
  let s := es.foldl (fun s e => s.putForm (queueReg e).1 (queueReg e).2) s
  let s := looms.foldl (fun s n => (List.range 8).foldl (fun s w =>
    s.putForm (lwin n + 0xF30200 + 8 * w) (slice (entOf c 13 n) (8 * w) 8)) s) s
  (looms.filter fun n => es.any fun e => leAt e 0 1 == n).foldl State.zeroQueues s

/-- A loom that an image binds is powered, unless it is benched (R484). -/
def State.powerLoom (s : State) (c : CardSecs) (n : Nat) : State :=
  if (boltIn c n).isSome && !s.is (LOOM_STATUS_BENCHED n) && s.get (PWR_DOM_STATE n) = 0 then s.set (PWR_DOM_STATE n) 3 else s

/-- The loader fills the entry of bolt b (R328, R330): CLOSED, or DOWN while a benched loom belongs to it (R467). -/
def State.putBolt (s : State) (c : CardSecs) (b : Nat) : State :=
  let v := bValid c b
  let s := (s.set (BLT_KIND b) (bKind c b)).set (BLT_STATE b)
    (if v && (bLooms c b).any fun n => s.is (LOOM_STATUS_BENCHED n) then 3 else 0)
  let s := ((s.clearAll [BLT_IN_STEP b, BLT_STEP_SLOT b, BLT_STEP b, BLT_ROWS_USED b, BLT_LAG b]).set (BLT_LOOMS b)
    (bLooms c b).length).set (BLT_KV_FREE b) (leAt (bEnt c b) 40 4)
  (s.set (BLT_SLOTS_BOUND b) ((List.range 64).filter fun i => sBinds c i b).length).modSvc fun v =>
    { v with plans := v.plans.filter (fun p => p.bolt != b), turn := tdel v.turn b, skip := v.skip.filter (· != b) }

/-- The loader fills the entry of slot i, which becomes EMPTY, and copies its profile (R328, R421). -/
def State.putSlot (s : State) (c : CardSecs) (ps : List (Nat × RdData)) (i : Nat) : State :=
  let v := sValid c i
  let e := sEnt c i
  let s := (((s.set (RES_VALID i) (b2n v)).set (RES_SPEC i) (b2n (sSpec c i))).set
    (RES_DRAFT_SLOT i) (sDraft c i)).set (RES_WBOLT i) (sW c i)
  let s := (((s.set (RES_DBOLT i) (sD c i)).set (RES_PROFILE i) (leAt e 8 8)).set (RES_REGION i) (leAt e 16 8)).set (RES_REGION_SIZE i) (leAt e 24 8)
  let p := ((ps.find? fun x => x.1 == i).map fun x => x.2.data).getD []
  (s.clearAll [RES_STATE i, RES_STREAMS i, RES_VARIANT_ID i, RES_LOAD_LEFT i, RES_TW_NS i, RES_TD_NS i, RES_BACKLOG i]).modSvc fun v =>
    { v with profiles := tput [] v.profiles i p }

/-- A bolt whose OPEN bit is 1 opens, unless a stream is valid and that would change STRETCH (R428). -/
def State.openBolt (s : State) (c : CardSecs) (b : Nat) : State :=
  if !bValid c b || !bitOf (leAt (bEnt c b) 0 1) 6 || s.get (BLT_STATE b) != 0 then s
  else
    let t := s.set (BLT_STATE b) 1
    if !s.validStreams.isEmpty && t.stretch != s.stretch then s.set CRD_STATUS_OPEN_DEFER 1 else t

/-- Prices, the effective minimum and the ledger's registers after a commit (R304, R478). -/
def State.repriceAll (s : State) : State :=
  s.raiseBudget.reprice.ledgerShow

/-- The Ethernet blocks of a port that takes the fabric personality read as their reset values with DISABLED set (R409). -/
def State.ethBlocks (s : State) (p old new : Nat) : State :=
  (List.range 3).foldl (fun s k =>
    let e := 3 * p + k
    let base := 0x7000000 + 0x10000 * e
    if new = 1 && old != 1 then
      ({ s with flds := s.flds.filter fun x => !(decide (base ≤ x.1 / 8) && decide (x.1 / 8 < base + 0x10000)) } : State).set (ETH_STATUS_DISABLED e) 1
    else if new != 1 then s.set (ETH_STATUS_DISABLED e) 0
    else s) s

/-- Port p takes its personality (R427, R384, R367): a change moves it to TRAINING, or to DISABLED where it may not train. -/
def State.putPers (s : State) (c : CardSecs) (dimsNew : Bool) (p : Nat) : State :=
  let v := persOf c p
  let old := s.get (FAB_P_ID_PERS p)
  let s := (s.set (FAB_P_ID_PERS p) v).ethBlocks p old v
  if v = old && !(v = 1 && dimsNew) then s
  else if v = 1 && !s.is (FAB_P_CTL_DISABLE p) && !bitOf s.mgmt.outPorts p && !s.is FAB_ID_STRAP_BAD then s.dropLink p 1
  else
    let s := if v = 1 || old = 1 then s.dropLink p 0 else s
    if v = 2 then s.set (PWR_DOM_STATE (156 + p)) (if (List.range 3).any fun k => s.is (ETH_CTL_EN (3 * p + k)) then 3 else 0)
    else s.set (PWR_DOM_STATE (156 + p)) 0

/-- The position straps do not lie inside the torus (R367). -/
def State.strapsOutside (s : State) : Bool :=
  let (x, y, z) := coordsOf s.chip
  let (dx, dy, dz) := s.dims
  dx ≤ x || dy ≤ y || dz ≤ z

/-- A bad strap (R367). -/
def State.strapBad (s : State) : State :=
  ((s.set FAB_ID_STRAP_BAD 1).set FAB_ERR_STRAP 1).report (mkRec 15 0 0x105 3 none 0 0 [])

/-- DEVICE and POWER take effect (R417, R418). -/
def State.putDevice (s : State) (c : CardSecs) : State :=
  let d := entOf c 1 0
  let w := entOf c 2 0
  let dims := s.dims
  let s := (s.putForm 0x6000010 (slice d 0 4)).putForm 0x6000018 (slice d 4 4)
  let s := (s.set FAB_SYNC_CTL_PARENT (leAt d 8 1 % 8)).set FAB_SYNC_CTL_ALT_PARENT (leAt d 8 1 / 8 % 8)
  let s := if s.get FAB_SYNC_CTL_PARENT = 7 then s.modFab fun f => { f with counting := true } else s
  let s := if s.strapsOutside && !s.is FAB_ID_STRAP_BAD then s.strapBad else s
  let s := (List.range 6).foldl (fun s p => s.putPers c (dims != s.dims) p) s
  (((s.set PWR_CTL_POLICY (leAt w 0 1)).set PWR_IDLE_US_US (leAt w 4 4)).set LDG_RESERVE_RESERVE (leAt w 2 2)).holdover

/-- TENANTS and QUOTAS take effect; the device keeps its own counts (R330, R422). ARCH_LEVEL reads
2 in every entry of the serving tables (log 51). -/
def State.putTenants (s : State) (c : CardSecs) : State :=
  (List.range 1024).foldl (fun s t =>
    let e := entOf c 6 t
    let q := entOf c 7 t
    let s := ((s.putForm (0x1040000 + 64 * t) e).set (TEN_LEVEL t) (leAt e 8 4)).set (TEN_ARCH_LEVEL t) 2
    ((((s.set (HBM_TQ_ARCH_LEVEL t) (leAt q 0 1)).set (HBM_TQ_KEEP_WAYS t) (leAt q 0 1 / 16)).set (HBM_TQ_HBM_QUOTA t) (leAt q 4 4)).set
      (HBM_TQ_NBT_QUOTA t) (leAt q 12 4)).set (HBM_TQ_FLASH_QUOTA t) (leAt q 20 4) |>.set (HBM_TQ_HBM_USED t) (imgKib c t)) s

/-- Every table of the sections that holds registers of one form takes its entries; entries that the image lacks are cleared. -/
def State.putTables (s : State) (c : CardSecs) : State :=
  [(8, 16384), (9, 4096), (10, 256), (11, 256)].foldl (fun s x =>
    (List.range x.2).foldl (fun s i => match entryReg x.1 i with | some a => s.putForm a (entOf c x.1 i) | none => s) s) s

/-- The commit of a FULL load (R427). -/
def State.commitFull (s : State) (c : CardSecs) (ps : List (Nat × RdData)) : State :=
  let s : State := { s with card := c }
  let s := ((s.putDevice c).putTables c).putTenants c
  let s := (s.modSvc fun v => { v with fills := [], loads := [] }).putLooms c (List.range 144)
  let s := (List.range 64).foldl (fun s b => s.putBolt c b) s
  let s := (List.range 64).foldl (fun s i => s.putSlot c ps i) s
  let s := ((List.range 144).foldl (fun s n => s.powerLoom c n) s).set FAB_CTL_EN 1
  ((List.range 64).foldl (fun s b => s.openBolt c b) s.repriceAll).repriceAll

/-- The commit of a FUNCTION load (R425, R427). -/
def State.commitFunction (s : State) (c : CardSecs) (mask : Nat) (ps : List (Nat × RdData)) : State :=
  let looms := s.maskLooms c mask
  let slots := (List.range 64).filter fun i => s.slotMasked c mask i
  let bolts := (List.range 64).filter (bitOf mask)
  let s : State := { s with card := c }
  let s := s.putLooms c looms
  let s := bolts.foldl (fun s b => s.putBolt c b) s
  let s := slots.foldl (fun s i => s.putSlot c ps i) s
  let s := looms.foldl (fun s n => s.powerLoom c n) s
  (bolts.foldl (fun s b => s.openBolt c b) s.repriceAll).repriceAll

/-! ### Loads (R424, R426) -/

/-- A load ends: its status is shown, and a refused one is recorded (R426, R506). -/
def State.cardDone (s : State) (b : CardBad) : State :=
  let s := ((s.set CRD_LOAD_STS_STS b.1).set CRD_LOAD_STS_SECT b.2.1).set CRD_LOAD_STS_INDEX (min 0xFFFF b.2.2)
  let s := ((({ s with crd := none } : State).set CRD_STATUS_BUSY 0).modTiers fun t => { t with ops := t.ops.filter fun o => o.1 != 68 }).modMgmt
    fun m => { m with cardUnread := true }
  if b.1 = 0 then s else (s.add CRD_CNT_REFUSED_N 1).report (mkRec 17 0 (0x200 + b.1) 2 none 0 0 [])

/-- CRD_CTL.LOAD written 1 (R424): a precondition that fails refuses the load at once. -/
def State.cardStart (s : State) (l : CardLoad) : State :=
  if s.crd.isSome then s
  else
    let s := s.set CRD_STATUS_OPEN_DEFER 0
    let ready := if l.full then s.fullReady else s.functionReady [] l.mask
    if !ready then s.cardDone (0x11, 0, 0) else ({ s with crd := some l } : State).set CRD_STATUS_BUSY 1

/-- CRD_CTL as a load of a kind finds it. SRC_FLASH is honoured only from Selvedge (R424). -/
def State.cardCtl (s : State) (req : Requester) (kind : Nat) : State :=
  let s := s.set CRD_CTL_KIND kind
  if req = .selvedge then s else s.set CRD_CTL_SRC_FLASH 0

/-- The source that CRD_CTL names. -/
def State.cardSrc (s : State) : Option Nat := if s.is CRD_CTL_SRC_FLASH then some (s.get CRD_CTL_AREA) else none

/-- CARD_LOAD_FULL (R424). -/
def execCardLoadFull (req : Requester) (s : State) : Host.Outcome State Fault Refusal :=
  .next <|
    let s := s.cardCtl req 0
    s.cardStart { full := true, mask := 0, addr := s.get CRD_SRC_ADDR, flash := s.cardSrc }

/-- CARD_LOAD_FUNCTION (R424, R425). -/
def execCardLoadFunction (req : Requester) (s : State) : Host.Outcome State Fault Refusal :=
  .next <|
    let s := s.cardCtl req 1
    s.cardStart { full := false, mask := s.get CRD_FUNC_BOLTS_MASK, addr := s.get CRD_SRC_ADDR, flash := s.cardSrc }

/-- The image's bytes, IMG_LEN, and whether the source failed (R424, R426). -/
def State.cardRead (s : State) (l : CardLoad) (flashBad : Bool) : List Byte × Nat × Bool × State :=
  match l.flash with
  | some area =>
    let len := leNat (s.flashBytes (flashCard area + 16) 4)
    (s.flashBytes (flashCard area) (min len 0x1000000), len, flashBad, s)
  | none =>
    if l.addr < hbmBase || hbmEnd < l.addr + 64 then ([], 0, true, s)
    else
      let (h, s) := s.devFetch l.addr 64
      let len := leAt h.data 16 4
      if h.status != 0 || h.pois.any id || 0x1000000 < len || hbmEnd < l.addr + len then ([], len, true, s)
      else
        let (r, s) := s.devFetch l.addr len
        (r.data, len, r.status != 0 || r.pois.any id, s)

/-- The checks up to OUTLIER, with the Draft images fetched. -/
def State.cardChecks (s : State) (img : List Byte) (len : Nat) (failed : Bool) : Option CardBad × List (Nat × List Byte) × State :=
  let h := if failed then 1 else headerStatus img len
  if h != 0 then (some (h, 0, 0), [], s)
  else
    let (v, s) := s.verifyImage .card img (leAt img 20 4)
    if v != 0 then (some (3 + v, 0, 0), [], s)
    else if leAt img 28 4 < s.get SEC_FUSE_CNT_CARD_SVN then (some (7, 0, 0), [], s)
    else
      let c := secsOf img
      match firstBad [fun _ => dirCheck img, fun _ => sectionCheck img c, fun _ => boltCheck c] with
      | some b => (some b, [], s)
      | none =>
        let (b, ds, s) := s.draftCheck c
        let u := s.withDrafts ds
        (b.or (firstBad [fun _ => u.creditCheck c, fun _ => u.outlierCheck c]), ds, s)

/-- The first of the checks from PROFILE on that an image fails (R426): its profiles, its tables, the quotas, the preconditions again, and
a FUNCTION load's scope. -/
def State.cardLate (s : State) (l : CardLoad) (c : CardSecs) (ps : List (Nat × RdData)) : Option CardBad :=
  firstBad [fun _ => profileCheck c ps, fun _ => tableCheck c s.chip, fun _ => s.quotaCheck c,
    fun _ => badIf 0x11 0 (!(if l.full then s.fullReady else s.functionReady c l.mask)),
    fun _ => if l.full then none else s.scopeCheck c l.mask]

/-- ACC_STATUS.COMPAT of every loom follows the Draft that the image in force binds (R99, R420). -/
def State.bindCompat (s : State) : State :=
  (List.range 144).foldl (fun s n =>
    s.set (ACC_STATUS_COMPAT n) (if (s.boltOf n).isSome then bits (s.draftNat n 0 4) 5 1 else 0)) s

/-- The checks from PROFILE on, and the commit. -/
def State.cardFinish (s : State) (l : CardLoad) (img : List Byte) (ps : List (Nat × RdData))
    (ds : List (Nat × List Byte)) : State :=
  let c := secsOf img
  let m := sha384 (img.take (leAt img 20 4))
  match s.cardLate l c ps with
  | some b => s.cardDone b
  | none =>
    let s := s.withDrafts (if l.full then ds else ds.filter fun d => (s.maskLooms c l.mask).contains d.1)
    let s := (if l.full then s.commitFull c ps else s.commitFunction c l.mask ps).bindCompat
    let s := (((s.set CRD_ACTIVE_ID_ID (leAt img 8 8)).set CRD_ACTIVE_SVN_SVN (leAt img 28 4)).set CRD_STATUS_LOADED 1).add CRD_CNT_LOADS_N 1
    let s := (s.tiers.map.map Prod.fst).foldl (fun s k => s.mapShow k) s
    ((List.range 6).foldl (fun s i => s.set (CRD_ACTIVE_DIGEST_DIGEST i) (leAt m (8 * i) 8)) s).cardDone (0, 0, 0)

/-- The reads of a load that waits for a profile of another device. -/
def State.cardOp (s : State) : TierOp := ((s.tiers.ops.find? fun e => e.1 == 68).map Prod.snd).getD { cmd := [], entry := 0 }

/-- Bring a load to its end: check the image whole and commit it, or refuse it; a profile of another device is read first. -/
def State.cardCommit (s : State) (l : CardLoad) (flashBad : Bool) : State :=
  let (img, len, failed, t) := s.cardRead l flashBad
  match t.cardChecks img len failed with
  | (some b, _, u) => u.cardDone b
  | (none, ds, u) =>
    let c := secsOf img
    match profileReads c ((List.range 64).filter (sValid c)) s.cardOp.got u with
    | .done ps _ u => u.cardFinish l img ps ds
    | .need a n =>
      (s.modTiers fun x => { x with ops := x.ops.filter (fun e => e.1 != 68) ++ [(68, { s.cardOp with waiting := true })] }).request (.tierRead 68)
        { ptype := 1, cls := 3, len := n, dst := fabChip a, src := s.chip, addr := a }

/-- CARD_COMMIT (R426, R427); `flashBad`: a boot-flash read failed, or M differed between the two passes. -/
def execCardCommit (flashBad : Bool) (s : State) : Host.Outcome State Fault Refusal :=
  .next <| s.orWait (.cardCommit flashBad) fun s => match s.crd with
    | none => s
    | some l => if s.cardOp.waiting then s else s.cardCommit l flashBad

end Sys2Proof.Machine
end

