-- ==== Sys2Proof/Machine/Islands.lean ====
section
/-! DEFINITION. What loses its contents at a cold reset, at a warm reset, at a Selvedge reset, and when every supply but the always-on
supply goes (R432, R470, R484, R488, R496 to R500). -/
namespace Sys2Proof.Machine

/-! ### Registers that each keeps -/

/-- A register bit of the bytes lo to hi - 1. -/
def keyIn (k lo hi : Nat) : Bool := decide (lo ≤ k / 8) && decide (k / 8 < hi)

/-- Registers that show fuses (R436, R469). -/
def fuseKey (k : Nat) : Bool := keyIn k 0x100008 0x100020 || keyIn k 0x100400 0x100540

/-- What the straps gave at the last cold reset (R366, R528). -/
def strapKey (k : Nat) : Bool := k == FAB_ID_CHIP.key || k == FAB_ID_STRAP_BAD.key

/-- The sticky fields (R10). -/
def stickyKey (k : Nat) : Bool := k == SLV_RST_STS_LAST.key || k == SLV_RST_STS_WARM_CNT.key || k == SLV_ERQ_DROP_N.key

/-- The log, the boot count and the bench map (R432, R500). -/
def logKey (k : Nat) : Bool := keyIn k 0x18 0x20 || keyIn k 0x80 0x90 || keyIn k 0x100 0x120

/-- The TMP and PWR blocks (R500). -/
def powerKey (k : Nat) : Bool := keyIn k 0x200000 0x210000 || keyIn k 0x220000 0x230000

/-- States and hardware votes of domains, and operating points of looms, which follow the supplies. -/
def supplyKey (k : Nat) : Bool :=
  (keyIn k 0x200100 0x200390 && decide (k % 32 < 24)) || keyIn k 0x200400 0x200640

/-- Units out of service return at a cold reset only (R467). -/
def benchKey (k : Nat) : Bool :=
  ((List.range 144).any fun n => k == (LOOM_STATUS_BENCHED n).key) || (List.range 12).any fun i => k == (HBM_STATUS_BENCHED i).key

/-- Registers of the always-on island, the fuses and the straps: what is left when every other supply goes. -/
def aonKey (k : Nat) : Bool :=
  keyIn k 0 0x100000 || fuseKey k || strapKey k || (powerKey k && !supplyKey k) || k == FAB_EPOCH_T.key || benchKey k

/-- Registers that a warm reset keeps (R500): a command of Selvedge goes on (R504), and so does an open session (R451). -/
def warmKey (cmd : Bool) (k : Nat) : Bool :=
  fuseKey k || strapKey k || stickyKey k || logKey k || powerKey k || k == FAB_EPOCH_T.key || benchKey k || keyIn k 0x100020 0x100038
    || keyIn k 0x20 0x30 || k == SLV_STATUS_RECOVERED.key || k == SLV_STATUS_SESSION.key || (cmd && keyIn k 0x38 0x3C)

/-- Registers of the SLV block that a Selvedge reset keeps (R432): the log, the error bits and what is sticky; where boot repeats no
stage, what the boot has shown as well. -/
def slvKey (again : Bool) (k : Nat) : Bool :=
  !keyIn k 0 0x100000 || stickyKey k || logKey k || keyIn k 0xA0 0xA8
    || (again && (k == SLV_STATUS_RECOVERED.key || k == SLV_STATUS_CARD_AREA.key || k == SLV_STATUS_NO_CARD.key))

/-- Keep the registers of a choice; every other one reads as its reset value. -/
def State.keepRegs (s : State) (keep : Nat → Bool) : State := { s with flds := s.flds.filter fun e => keep e.1 }

/-! ### Contents -/

/-- The NAND and the FTL's journal (R365, R500). -/
def Tiers.nand (t : Tiers) : Tiers := { objs := t.objs, blks := t.blks, map := t.map, data := t.data, pois := t.pois }

/-- SLV, PWR and TMP, whose records wait in the always-on island. -/
def aonSource (k : Nat) : Bool := [18, 20, 21].contains k

/-- Everything outside the always-on island but HBM starts anew. SVC_TIME goes on (R500), and the refills that it has passed stay passed
(R321). -/
def State.dropMain (s : State) : State :=
  { s with
    looms := [], ledger := [], voltTo := [], cache := [], keys := [], errs := s.errs.filter fun r => aonSource r.src
    card := [], crd := none, svc := { refilled := s.svc.refilled }, posts := [], waiting := [], stalled := false, plat := {}, coreExc := none
    fab := { slew := s.fab.slew, rateAcc := s.fab.rateAcc, counting := s.fab.counting }, tiers := s.tiers.nand, pfc := [], held := []
    power := { s.power with held := [], cores := false } }

/-- FAB_SYNC_STS shows whether REFCLK_RACK is there (R395, R527). -/
def State.showClock (s : State) : State := s.set FAB_SYNC_STS_REFCLK_LOST (b2n s.power.rackLost)

/-- Every supply but the always-on supply goes: all contents outside the always-on island are lost, HBM included (R484, R488, R525). -/
def State.mainOff (s : State) : State :=
  let s := (s.keepRegs aonKey).dropMain.showClock
  { s with
    mem := [], poison := [], errDropped := s.errDropped.filter fun e => aonSource e.1.src
    power := { s.power with rails := 1, mainEn := false, railBad := [] } }

/-! ### Cold reset (R470, R496, R498, R527, R528) -/

/-- The chip ID of the position straps: COORD_X in bits 3 to 0, COORD_Y in 8 to 4, COORD_Z in 13 to 9, COORD_PAR in 14 (R366). -/
def strapChip (v : BitVec 15) : Nat := v.toNat % 2 ^ 14

/-- The straps hold an odd number of ones (R366, R367). -/
def strapOdd (v : BitVec 15) : Bool := ((List.range 15).countP fun i => bitOf v.toNat i) % 2 == 1

/-- SLV_STATUS.STAGE and the BOOT record of a stage: the stage, and µs since RESET_N (R441, R454). -/
def State.stage (s : State) (k : Nat) : State :=
  (s.set SLV_STATUS_STAGE k).slvEvent 0x0001 0 ([k, 0, 0, 0] ++ le32 (s.mgmt.upTime / 5000))

/-- The bench map as the state record holds it, in the registers that show it (R435, R468). -/
def State.showMap (s : State) : State :=
  let r := s.mgmt.record
  let s := (List.range 5).foldl (fun s i => s.set (SLV_BENCH_LOOM_MAP i) (r.loomMap / 2 ^ (32 * i))) s
  ((s.set SLV_BENCH_UNIT_STACK r.stackMap).set SLV_BENCH_UNIT_PORT r.portMap).set SLV_BENCH_CH_CHANNEL r.chanMap

/-- Identity keys that do not unwrap (R457). -/
def State.checkIdentity (s : State) : State :=
  if s.identityOk then s else (s.set SLV_ERR_IDENTITY 1).fatal 18 0 0x102

/-- A cold reset (R498): fuses, boot flash and NAND stay; the log and the bench map are reloaded; the ROM starts, unless REFCLK_MGMT
(`clock`) is absent: Selvedge then does not leave reset, and its boot flash stays in reset with it (R527, R528). -/
def State.coldReset (s : State) (straps : BitVec 15) (recovery : Bool) (clock : Bool) : State :=
  let m := s.mgmt
  let s : State :=
    { s.mainOff.keepRegs fuseKey with
      power := { rackLost := s.power.rackLost, xspiReset := clock }, tap := {}, resp := {}, fab := {}, svc := {}, errs := [], errDropped := []
      mgmt := { flash := m.flash, logPos := m.logPos, macBase := m.macBase, kek := m.kek, forced := recovery } }
  let s := s.showClock
  if !clock then s.modMgmt fun m => { m with nextStage := 1 }
  else
    let s := s.readRec.writeRec fun r => { r with bootCnt := (r.bootCnt + 1) % 2 ^ 32 }
    let s := ((s.set SLV_BOOT_CNT_N s.mgmt.record.bootCnt).showMap.reloadLog.set FAB_ID_CHIP (strapChip straps)).checkIdentity
    (if strapOdd straps then s.strapBad else s).stage 1

/-- COLD_RESET (R498): RESET_N low, or supplies rising. -/
def execColdReset (straps : BitVec 15) (recovery : Bool) (s : State) (clock : Bool := true) : Host.Outcome State Fault Refusal :=
  .next (s.coldReset straps recovery clock)

/-- POWER_ON_DETECT (R526): VIN_AON below 1.62 V. -/
def execPowerOnDetect (straps : BitVec 15) (recovery : Bool) (s : State) (clock : Bool := true) : Host.Outcome State Fault Refusal :=
  .next (s.coldReset straps recovery clock)

end Sys2Proof.Machine
end

