-- ==== Sys2Proof/Machine/Ports.lean ====
section
/-! DEFINITION. Link bring-up, authentication and time (R384 to R388, R393 to R395). -/
namespace Sys2Proof.Machine

/-! ### Training (R384) -/

/-- The port may train: FABRIC personality, not disabled, not benched, no bad strap (R367, R384, R467). -/
def State.mayTrain (s : State) (p : Nat) : Bool :=
  s.get (FAB_P_ID_PERS p) == 1 && !s.is (FAB_P_CTL_DISABLE p) && !bitOf s.mgmt.outPorts p && !s.is FAB_ID_STRAP_BAD

/-- LINK_TRAINED (R384). -/
def execLinkTrained (p : PortNo) (s : State) : Host.Outcome State Fault Refusal :=
  .next <| if s.portIs p 1 then s.set (FAB_P_STATE_STATE p) 2 else s

/-- TRAIN_FAIL (R384). -/
def execTrainFail (p : PortNo) (s : State) : Host.Outcome State Fault Refusal :=
  .next <| if s.portIs p 1 then s.set (FAB_P_ERR_TRAIN_FAIL p) 1 else s

/-- LOSS_OF_SIGNAL (R384): in any state after TRAINING but DOWN, which only RETRAIN leaves. -/
def execLossOfSignal (p : PortNo) (s : State) : Host.Outcome State Fault Refusal :=
  .next <| if s.portIs p 2 || s.portIs p 3 || s.portIs p 4 || s.portIs p 5 then s.dropLink p 1 else s

/-- FAB_P_CTL.RETRAIN written 1 (R384). -/
def State.retrain (s : State) (p : Nat) : State := if s.portIs p 0 then s else s.dropLink p 1

/-- RETRAIN (R384). -/
def execRetrain (p : PortNo) (s : State) : Host.Outcome State Fault Refusal := .next (s.retrain p)

/-- FAB_P_CTL.DISABLE takes a value (R384). -/
def State.setDisable (s : State) (p : Nat) (value : Bool) : State :=
  let s := s.set (FAB_P_CTL_DISABLE p) (b2n value)
  if value then (if s.portIs p 0 then s else s.dropLink p 0)
  else if s.portIs p 0 && s.mayTrain p then s.dropLink p 1 else s

/-- PORT_DISABLE_WRITE (R384). -/
def execPortDisableWrite (p : PortNo) (value : Bool) (s : State) : Host.Outcome State Fault Refusal := .next (s.setDisable p value)

/-! ### Capability words (R385, R386) -/

/-- The capability word of port p. -/
def State.capWord (s : State) (p : Nat) : List Byte :=
  let (dx, dy, dz) := s.dims
  leBytes 8 (packFields [(0, 2), (8, s.chip), (22, p), (32, dx - 1), (36, dy - 1), (41, dz - 1)]) ++ leBytes 8 0x3F

/-- CAP_SEND (R385). -/
def execCapSend (p : PortNo) (s : State) : Host.Outcome State Fault Refusal :=
  .next <| if s.portIs p 2 then s.linkMsg p 0x40 (s.capWord p) else s

/-- The cause for which a peer's capability word is refused (R386); 0: none. -/
def State.capCause (s : State) (p : Nat) (w : List Byte) : Nat :=
  let lo := leAt w 0 8
  let (dx, dy, dz) := s.dims
  if lo % 16 = 0 then 1
  else if bits lo 4 4 != 0 || bits lo 25 7 != 0 || bits lo 46 18 != 0 then 2
  else if bits lo 32 4 != dx - 1 || bits lo 36 5 != dy - 1 || bits lo 41 5 != dz - 1 then 3
  else if bits lo 8 14 != s.neighbour p || bits lo 22 3 != (p ^^^ 1) then 4
  else 0

/-- A port enters AUTH and sends its challenge (R387); identity keys that do not unwrap fail it (R457). -/
def State.beginAuth (s : State) (p : Nat) : State :=
  let nonce := leBytes 32 (s.freeBits 256)
  let s := (s.takeFree.set (FAB_P_STATE_STATE p) 3).modPort p fun t => { t with nonce, proof := [], passed := none, peerPassed := none }
  if s.identityOk then s.linkMsg p 0x41 nonce else s.quarantine p 7

/-- CAP (R386): the peer's word is shown and checked. -/
def execCap (p : PortNo) (s : State) : Host.Outcome State Fault Refusal :=
  .next <|
    match s.firstIn (isMsg 0x40 (some p)) with
    | none => s
    | some i =>
      let s := s.takeIn i
      if !s.portIs p 2 then s
      else
        let w := slice i.pkt.payload 0 16
        let level := leAt w 0 1 % 16
        let s := (s.set (FAB_P_CAP_PEER_CAP p) (leNat w)).set (FAB_P_STATE_LEVEL p) (if level = 1 then 1 else 2)
        let c := s.capCause p w
        if c != 0 then s.quarantine p c
        else (s.set (FAB_P_FEAT_FEATURES p) (leAt w 8 8 % 64)).beginAuth p

/-- NEGOTIATE_TIMEOUT (R384). -/
def execNegotiateTimeout (p : PortNo) (s : State) : Host.Outcome State Fault Refusal :=
  .next <| if s.portIs p 2 then s.dropLink p 1 else s

/-! ### Authentication (R387) -/

/-- The digest that a proof signs: the sender's and the receiver's capability words, the receiver's and the sender's nonces. -/
def authDigest (capS capR nonceR nonceS : List Byte) : List Byte := sha384 (capS ++ capR ++ nonceR ++ nonceS)

/-- The peer's capability word as received. -/
def State.peerCap (s : State) (p : Nat) : List Byte := leBytes 16 (s.get (FAB_P_CAP_PEER_CAP p))

/-- The AUTH_PROOF of port p for the peer's nonce goes out once its signature pair is made, in fragments of up to 4,096 bytes, the last
one shorter (R387, R460). -/
def State.sendProof (s : State) (p : Nat) (peer : List Byte) : State :=
  if !s.portIs p 3 || (s.port p).peerNonce != some peer then s
  else
    let proof := s.identityChain ++ s.signPair (authDigest (s.capWord p) (s.peerCap p) peer (s.port p).nonce)
    (chunks 4096 (proof.length / 4096 + 1) proof).foldl (fun s f => s.linkMsg p 0x42 f) (s.add SEC_CNT_SIGN_N 1)

/-- AUTH_CHAL (R387, R460): the security engine is asked for the signature pair of the proof. -/
def execAuthChal (p : PortNo) (s : State) : Host.Outcome State Fault Refusal :=
  .next <|
    match s.firstIn (isMsg 0x41 (some p)) with
    | none => s
    | some i =>
      let s := s.takeIn i
      if !s.portIs p 3 then s
      else
        let peer := slice i.pkt.payload 0 32
        (s.modPort p fun t => { t with peerNonce := some peer }).sign (.proof p peer)

/-- Both sides have passed: the port enters UP (R387). -/
def State.tryUp (s : State) (p : Nat) : State :=
  if (s.port p).passed = some true && (s.port p).peerPassed = some true then (s.set (FAB_P_STATE_STATE p) 4).holdover else s

/-- AUTH_PROOF (R387): with the last fragment the proof is verified and the result sent. -/
def execAuthProof (p : PortNo) (s : State) : Host.Outcome State Fault Refusal :=
  .next <|
    match s.firstIn (isMsg 0x42 (some p)) with
    | none => s
    | some i =>
      let s := s.takeIn i
      if !s.portIs p 3 then s
      else
        let proof := (s.port p).proof ++ i.pkt.payload
        let s := s.modPort p fun t => { t with proof }
        if i.pkt.payload.length = 4096 then s
        else
          let c := proof.length - 16608
          let m := authDigest (s.peerCap p) (s.capWord p) (s.port p).nonce ((s.port p).peerNonce.getD [])
          let (v, s) := s.verify .identity (proof.take c) m (slice proof c 384) (slice proof (c + 384) 16224)
          if v = 0 then ((s.modPort p fun t => { t with passed := some true }).linkMsg p 0x43 [1]).tryUp p
          else (s.quarantine p (4 + v)).linkMsg p 0x43 [0]

/-- AUTH_RESULT (R387). -/
def execAuthResult (p : PortNo) (s : State) : Host.Outcome State Fault Refusal :=
  .next <|
    match s.firstIn (isMsg 0x43 (some p)) with
    | none => s
    | some i =>
      let s := s.takeIn i
      if !s.portIs p 3 then s
      else if leAt i.pkt.payload 0 1 = 1 then (s.modPort p fun t => { t with peerPassed := some true }).tryUp p
      else s.quarantine p 10

/-- AUTH_TIMEOUT (R387). -/
def execAuthTimeout (p : PortNo) (s : State) : Host.Outcome State Fault Refusal :=
  .next <| if s.portIs p 3 then s.quarantine p 8 else s

/-! ### Time (R393 to R395) -/

/-- The port on which exchanges run now: the sync parent while it is UP, else the alternate one (R394, R395). -/
def State.syncPort (s : State) : Option Nat :=
  if s.get FAB_SYNC_CTL_PARENT = 7 then none
  else [s.get FAB_SYNC_CTL_PARENT, s.get FAB_SYNC_CTL_ALT_PARENT].find? fun p => decide (p < 6) && s.portUp p

/-- SYNC_SEND (R394): T1 is taken when the SOP flit leaves. -/
def execSyncSend (s : State) : Host.Outcome State Fault Refusal :=
  .next <| match s.syncPort with
    | none => s
    | some p => s.syncMsg p 0x20 (leBytes 8 s.epoch)

/-- SYNC (R388, R394): answered on the port by which it came. -/
def execSync (s : State) : Host.Outcome State Fault Refusal :=
  .next <|
    match s.firstIn (isMsg 0x20 none) with
    | none => s
    | some i =>
      let s := s.takeIn i
      if 6 ≤ i.port || !(s.portUp i.port || s.portIs i.port 5) then s
      else s.syncMsg i.port 0x21 (slice i.pkt.payload 0 8 ++ leBytes 8 i.start ++ leBytes 8 s.epoch)

/-- The correction of FAB_EPOCH by an offset (R393): a positive one at once, a negative one by slowing the counter. -/
def State.correctEpoch (s : State) (off : Int) : State :=
  if 0 ≤ off then (s.modFab fun f => { f with slew := 0 }).add FAB_EPOCH_T off.toNat
  else s.modFab fun f => { f with slew := (-off).toNat }

/-- An exchange ends (R394, R395). -/
def State.syncDone (s : State) (parent : Nat) (t1 t2 t3 t4 : Int) : State :=
  let off := ((t2 - t1) + (t3 - t4)).tdiv 2
  let delay := ((t4 - t1) - (t3 - t2)).tdiv 2
  let s := (s.set FAB_SYNC_OFFSET_OFF (ofSigned 32 off)).set FAB_SYNC_DELAY_DELAY (ofSigned 32 delay)
  let s := if Config.otherRack s.chip parent
    then s.set FAB_SYNC_RATE_PPB (Config.syncSteer (BitVec.ofNat 32 (s.get FAB_SYNC_RATE_PPB)) off).toNat else s
  let s := (s.correctEpoch off).modFab fun f => { f with exchanges := f.exchanges + 1, counting := true }
  if 3 ≤ s.fab.exchanges then s.set FAB_SYNC_STS_LOCKED 1 else s

/-- SYNC_RESP (R394): taken from the port on which exchanges run. -/
def execSyncResp (s : State) : Host.Outcome State Fault Refusal :=
  .next <|
    match s.firstIn (isMsg 0x21 none) with
    | none => s
    | some i =>
      let s := s.takeIn i
      let t (k : Nat) : Int := (leAt i.pkt.payload (8 * k) 8 : Nat)
      if s.syncPort = some i.port then s.syncDone (s.neighbour i.port) (t 0) (t 1) (t 2) (i.start : Nat) else s

/-- REFCLK_LOSS (R395). -/
def execRefclkLoss (s : State) : Host.Outcome State Fault Refusal :=
  .next <|
    let s := s.modPower fun p => { p with rackLost := true }
    if s.is FAB_SYNC_STS_REFCLK_LOST then s
    else ((s.set FAB_SYNC_STS_REFCLK_LOST 1).set FAB_ERR_REFCLK 1).report (mkRec 15 0 0x104 5 none 0 0 [])

/-- REFCLK_RESTORE (R395). -/
def execRefclkRestore (s : State) : Host.Outcome State Fault Refusal :=
  .next ((s.modPower fun p => { p with rackLost := false }).set FAB_SYNC_STS_REFCLK_LOST 0)

end Sys2Proof.Machine
end

