-- ==== Sys2Proof/Machine/Ingot.lean ====
section
/-! DEFINITION. The Ingot's checks, recovery, the Selvedge reset, and boot stage 2 (R431, R432, R434, R440, R441, R452, R462). -/
namespace Sys2Proof.Machine

/-! ### The Ingot's checks (R440) -/

/-- Segment entry i of an Ingot: TYPE, OFFSET, LENGTH, DEST, and its 32 bytes. -/
structure IngotSeg where
  type : Nat
  off : Nat
  len : Nat
  dest : Nat
  raw : List Byte

/-- The segment entries. -/
def ingotSegs (img : List Byte) : List IngotSeg :=
  (List.range (leAt img 28 2)).map fun i =>
    let e := slice img (64 + 32 * i) 32
    { type := leAt e 0 1, off := leAt e 4 4, len := leAt e 8 4, dest := leAt e 12 4, raw := e }

/-- Two ranges of the image share a byte. -/
def segClash : List (Nat × Nat) → Bool
  | [] => false
  | x :: t => (t.any fun y => decide (x.1 < y.1 + y.2) && decide (y.1 < x.1 + x.2)) || segClash t

/-- What must hold for the signatures to be found: MAGIC, the level and format, and the lengths. -/
def ingotFound (img : List Byte) : Bool :=
  leAt img 0 4 == 0x54474E49 && leAt img 4 1 == 0x12 && img.length ≤ 0x800000 && leAt img 16 4 == img.length && 64 ≤ leAt img 20 4
    && leAt img 20 4 + 16672 ≤ img.length && trailerOk img (leAt img 20 4) img.length

/-- The other format checks. -/
def ingotForm (img : List Byte) : Bool :=
  let n := leAt img 28 2
  let segs := ingotSegs img
  let sig := leAt img 20 4
  allZero (slice img 5 3) && allZero (slice img 30 34) && trailerClean img sig && leAt img 24 4 ≤ 64 && 1 ≤ n && n ≤ 8
    && (segs.all fun g => g.type ≤ 3 && allZero (slice g.raw 1 3) && allZero (slice g.raw 16 16) && g.off % 64 == 0 && 64 + 32 * n ≤ g.off
          && g.off + g.len ≤ sig && (g.type != 3 || g.dest == 0))
    && (segs.any fun g => g.type == 0) && (segs.countP fun g => g.type == 2) == 1
    && !segClash ((segs.filter fun g => g.len != 0).map fun g => (g.off, g.len))

/-- R440 on an image: the first status of R462 that applies. -/
def State.ingotCheck (s : State) (img : List Byte) : Nat × State :=
  if !ingotFound img then (7, s)
  else
    let (v, s) := s.verifyImage .ingot img (leAt img 20 4)
    (if v != 0 then 2 + v
      else if leAt img 24 4 < s.get SEC_FUSE_CNT_INGOT_SVN then 6
      else if !ingotForm img then 7
      else 0, s)

/-- M of an image. -/
def ingotM (img : List Byte) : List Byte := sha384 (img.take (leAt img 20 4))

/-- The image in the INGOT area of boot flash. -/
def State.flashImage (s : State) : List Byte :=
  s.flashBytes flashIngot (min 0x800000 (leNat (s.flashBytes (flashIngot + 16) 4)))

/-! ### Recovery (R452) -/

/-- The ROM enters recovery: every domain but the always-on island is off, and standby is over (R441, R452). -/
def State.enterRecovery (s : State) (reason status : Nat) : State :=
  let s := s.mainOff.modPower fun p => { p with standby := false, ethAwake := [], fabAwake := [] }
  (s.slvEvent 0x0002 3 [reason, status]).modMgmt fun m => { m with recovery := some (reason, status), nextStage := 0, forced := false }

/-! ### The Selvedge reset (R432) -/

/-- Where boot goes on after a Selvedge reset: stage 9 is repeated no more than the stages before it; standby stays standby. -/
def State.resumeAt (s : State) : Nat :=
  if s.power.standby then 0 else if s.get SLV_STATUS_STAGE = 9 && s.mgmt.recovery.isNone then 9 else 3

/-- A Selvedge reset: the island alone restarts, and the ROM runs stage 2. -/
def State.slvReset (s : State) (cause : Nat) : State :=
  let resume := s.resumeAt
  let s := (s.slvEvent 0x0003 2 [cause]).keepRegs (slvKey (resume == 9))
  let s := s.modMgmt fun m =>
    { m with
      rate := [], stage := [], staged := none, cmd := none, test := none, session := none, challenge := none, recovery := none
      assay := none, slow := false, cmdUnread := false, signs := [], signing := none, making := none, persisting := [], sram := []
      nextStage := 2, resume }
  let s := s.readRec.modPower fun p => { p with rails := p.rails % 2 ^ 15 }
  (s.set SLV_STATUS_STAGE 1).set SLV_RST_STS_LAST 4

/-- LOCKSTEP_MISMATCH (R431, R432). Without REFCLK_MGMT the cores are in reset and compare nothing (R527). -/
def execLockstepMismatch (s : State) : Host.Outcome State Fault Refusal :=
  .next <| if s.mgmt.nextStage = 1 then s else ((s.set SLV_ERR_LOCKSTEP 1).report (mkRec 18 0 0x101 3 none 0 0 [])).slvReset 1

/-- The ROM has left stage 2: the Ingot or recovery runs. -/
def State.romRuns (s : State) : Bool := s.mgmt.nextStage != 1 && s.mgmt.nextStage != 2

/-- The Ingot runs: the ROM has verified it, and no recovery is under way. -/
def State.ingotRuns (s : State) : Bool := s.mgmt.recovery.isNone && s.romRuns

/-- WATCHDOG_EXPIRE (R432): the third within 60 s enters recovery. -/
def execWatchdogExpire (s : State) : Host.Outcome State Fault Refusal :=
  .next <|
    if !s.ingotRuns then s
    else
      let dogs := pushTime s.now (windowOf 60000) s.mgmt.dogs
      let s := s.slvReset 3
      if 3 ≤ dogs.length then (s.modMgmt fun m => { m with dogs := [] }).enterRecovery 4 0
      else s.modMgmt fun m => { m with dogs }

/-! ### Boot stage 2 (R441) -/

/-- The SRAM with the SLV segments of an Ingot at their places (R440, R441); what reaches beyond its 8 MiB is not held. -/
def ingotSram (img : List Byte) : List Host.Cell :=
  ((ingotSegs img).filter fun g => g.type ≤ 1).foldl (fun m g => putBytes m g.dest ((slice img g.off g.len).take (0x800000 - g.dest))) []

/-- The verified Ingot starts from SRAM; the first one after a cold reset gives the host loader (R441, R443, R446). -/
def State.startIngot (s : State) (img : List Byte) : State :=
  let loader := ((ingotSegs img).find? fun g => g.type == 2).map fun g => (g.dest, slice img g.off g.len)
  let m := ingotM img
  let s := s.modMgmt fun g =>
    { g with
      ingot := m
      sram := ingotSram img
      coldIngot := if g.coldIngot = [] then m else g.coldIngot
      hostSeg := if g.coldIngot = [] then loader.getD (0, []) else g.hostSeg }
  ((s.set SLV_INGOT_VER_VERSION (leAt img 8 8)).set SLV_INGOT_SVN_SVN (leAt img 24 4)).set SLV_STATUS_RECOVERED (b2n s.mgmt.recovered)

/-- BOOT_VERIFY (R441): the ROM verifies the Ingot and starts it, or enters recovery. -/
def execBootVerify (s : State) : Host.Outcome State Fault Refusal :=
  .next <|
    if s.mgmt.nextStage != 2 || s.mgmt.recovery.isSome then s
    else
      let resume := s.mgmt.resume
      let s := if resume = 3 then s.stage 2 else s.set SLV_STATUS_STAGE 2
      if s.mgmt.forced then s.enterRecovery 3 0
      else
        let img := s.flashImage
        let (st, s) := s.ingotCheck img
        if st != 0 then s.enterRecovery (if st = 6 then 2 else 1) st
        else
          let s := s.startIngot img
          if resume = 9 then (s.stage 9).modMgmt fun m => { m with nextStage := 0 }
          else if resume = 0 then (s.set SLV_STATUS_STAGE 9).modMgmt fun m => { m with nextStage := 0 }
          else (if s.power.mainEn then s.mainOff else s).modMgmt fun m => { m with nextStage := if s.power.locked then 0 else 3 }

end Sys2Proof.Machine
end

