-- ==== Sys2Proof/Machine/Selvedge.lean ====
section
/-! DEFINITION. Selvedge's commands, benching, tests and the management port (R444 to R451, R457 to R467). -/
namespace Sys2Proof.Machine

/-! ### Answers and the command engine (R450, R461) -/

/-- The device's address at the management port: the IPv6 link-local address that EUI-64 forms from MAC_BASE (R450). -/
def State.mgmtAddr (s : State) : Nat :=
  let m := s.mgmt.macBase
  0xFE80 * 2 ^ 112 + (m / 2 ^ 24 ^^^ 0x20000) * 2 ^ 40 + 0xFFFE * 2 ^ 24 + m % 2 ^ 24

/-- A message as its bytes (R450): the 32-byte header and the body. -/
def MgmtMsg.bytes (m : MgmtMsg) : List Byte :=
  leBytes 4 0x544D4C53 ++ toBytes [2 + 16 * b2n m.resp, m.op] ++ leBytes 2 m.body.length ++ leBytes 4 m.seq ++ toBytes [m.status, 0, 0, 0]
    ++ slice m.session 0 16 ++ m.body

/-- A datagram reaches Selvedge: it goes to the device's address and UDP port 7411, and is a request with the MAGIC (R450). -/
def State.hears (s : State) (h : MgmtHdr) : Bool :=
  h.dst.toNat == s.mgmtAddr && h.udp == 7411 && h.magic == 0x544D4C53 && !h.resp

/-- R6 or R7 refuses the header, its OP is reserved, or its body is longer than a message's (R450). -/
def hdrBad (h : MgmtHdr) : Bool := h.level != 2 || h.reserved || decide (1408 < h.len) || h.badOp.isSome

/-- The OP byte of a message of the row with OP o. -/
def opOf (h : MgmtHdr) (o : Nat) : Nat := match h.badOp with | some x => x.toNat | none => o

/-- A message leaves by the management port. -/
def State.emit (s : State) (x : MgmtMsg) : State := s.modMgmt fun m => { m with sent := m.sent ++ [x] }

/-- A response leaves by the management port for the requester, with the request's SEQ. -/
def State.answerPort (s : State) (h : MgmtHdr) (op status : Nat) (body : List Byte) : State :=
  s.emit { src := s.mgmtAddr, dst := h.src.toNat, resp := true, op, seq := h.seq, status, session := s.mgmt.session.getD [], body }

/-- A command ends: BUSY falls with its status (R461, R514). -/
def State.slvFinish (s : State) (c : SlvCmd) (st : Nat) : State :=
  let s := ((s.set SLV_CMD_STS_BUSY 0).set SLV_CMD_STS_STATUS st).set SLV_CMD_STS_OP c.op
  let s := (s.modMgmt fun m => { m with cmd := none, cmdUnread := true }).modPower fun p => { p with rails := p.rails % 2 ^ 15 }
  match c.hdr with
  | some h => s.answerPort h 7 st []
  | none => s

/-- A command begins: BUSY rises. -/
def State.slvBegin (s : State) (c : SlvCmd) : State := (s.set SLV_CMD_STS_BUSY 1).modMgmt fun m => { m with cmd := some c }

/-- A write of SLV_CMD while a command is under way is ignored (R461). -/
def State.cmdLost (s : State) : State := (s.set SLV_ERR_CMD_LOST 1).report (mkRec 18 0 0x100 2 none 0 0 [])

/-- A command of op from SLV_CMD or from the management port (R450, R461): `run` performs it. The Ingot must run; in standby and in
recovery the port answers STATE (R452, R492). A refused header and a reserved OP are answered INVALID (R6, R462). -/
def State.slvIssue (s : State) (src : CmdSrc) (op : Nat) (run : SlvCmd → State → State) : State :=
  match src with
  | .regs =>
    if !s.ingotRuns || s.power.standby then s
    else if s.mgmt.cmd.isSome then s.cmdLost
    else
      let c : SlvCmd := { op, args := (List.range 4).map fun i => s.get (SLV_CMD_ARG_ARG i), hdr := none }
      run c (s.slvBegin c)
  | .port h o args =>
    if !s.romRuns || !s.hears h then s
    else if hdrBad h then s.answerPort h (opOf h 7) 1 []
    else if s.power.standby || s.mgmt.recovery.isSome then s.answerPort h 7 0xC []
    else if s.mgmt.session != some h.session then s.answerPort h 7 0xE []
    else if s.mgmt.cmd.isSome then s.answerPort h 7 2 []
    else
      let c : SlvCmd := { op := o, args := (List.range 4).map fun i => args.getD i 0 % 2 ^ 64, hdr := some h }
      if o = 0 || 0xA < o then (s.slvBegin c).slvFinish c 1 else run c (s.slvBegin c)

/-- ARG i of a command. -/
def SlvCmd.arg (c : SlvCmd) (i : Nat) : Nat := c.args.getD i 0

/-- A command that ends when SLV_COMMAND_DONE comes. -/
def State.slvLong (s : State) (src : CmdSrc) (op : Nat) : State := s.slvIssue src op fun _ s => s

/-- A range lies in HBM. -/
def inHbm (a n : Nat) : Bool := decide (hbmBase ≤ a) && decide (a + n ≤ hbmEnd)

/-- Selvedge reads HBM; a poisoned read is a FATAL event (R513). -/
def State.slvRead (s : State) (a n : Nat) : List Byte × Bool × State :=
  let (r, s) := s.devFetch a n
  if r.pois.any id then (r.data, true, s.readPoison .selvedge false a true)
  else (r.data, r.status != 0, s)

/-- The image that lies at a local address of HBM with the length that its header gives; none: it could not be read whole. -/
def State.slvImage (s : State) (a limit : Nat) : Option (List Byte) × State :=
  if !inHbm a 64 then (none, s)
  else
    let (h, bad, s) := s.slvRead a 64
    let len := leAt h 16 4
    if bad || limit < len || !inHbm a len then (none, s)
    else
      let (l, bad, s) := s.slvRead a len
      (if bad then none else some l, s)

/-- The COMMIT record (R454). -/
def State.commitRecord (s : State) (op st : Nat) (m : List Byte) : State :=
  s.slvEvent 0x0004 (if st = 0 then 1 else 3) ([st, op] ++ List.replicate 14 0 ++ (m.take 16).map BitVec.toNat)

/-! ### Update (R444 to R449) -/

/-- The stage buffer's bytes. -/
def State.stageBytes (s : State) (a n : Nat) : List Byte := (List.range n).map fun i => tget 0 s.mgmt.stage (a + i)

/-- Bytes into the stage buffer; a staged image is no longer valid (R444). -/
def State.stagePut (s : State) (a : Nat) (l : List Byte) : State :=
  s.modMgmt fun m => { m with stage := putBytes m.stage a l, staged := none }

/-- The image in the stage buffer, of the length that its header gives. -/
def State.stagedImage (s : State) : List Byte := s.stageBytes 0 (min 0x800000 (leNat (s.stageBytes 16 4)))

/-- STAGE (R444): fill the buffer and check the Ingot in it. -/
def State.stageDone (s : State) (c : SlvCmd) : State :=
  let a := c.arg 0
  let s := s.modMgmt fun m => { m with staged := none }
  let (st, s) : Nat × State :=
    if a = 0 then (0, s)
    else if !inHbm a 64 then (1, s)
    else match s.slvImage a 0x800000 with
      | (none, s) => (7, s)
      | (some l, s) => (0, s.stagePut 0 l)
  let (st, s) := if st != 0 then (st, s) else s.ingotCheck s.stagedImage
  let s := if st = 0 then s.modMgmt fun m => { m with staged := some (leNat (s.stageBytes 16 4)) } else s
  (s.commitRecord 1 st (if st = 1 then [] else ingotM s.stagedImage)).slvFinish c st

/-- STAGE (R444). -/
def execStage (src : CmdSrc) (s : State) : Host.Outcome State Fault Refusal := .next (s.slvLong src 1)

/-- The bytes of boot flash that an image's erase covers: whole 4 KiB sectors. -/
def sectorsLen (len : Nat) : Nat := 4096 * ceilDiv len 4096

/-- A commit begins: a state record with COPYING and M, and the sectors are erased (R445). -/
def State.commitBegin (s : State) (len : Nat) (m : List Byte) : State :=
  (s.writeRec fun r => { r with copying := true, digest := m }).flashErase flashIngot (sectorsLen len)

/-- A commit ends: the image is programmed and read back (R445); the status. -/
def State.commitEnd (s : State) (flashBad : Bool) : Nat × State :=
  let img := s.stagedImage
  if flashBad || ingotM img != s.mgmt.record.digest then (9, s)
  else (0, (s.flashWrite flashIngot img).writeRec fun r => { r with copying := false })

/-- COMMIT (R445). -/
def execCommit (src : CmdSrc) (s : State) : Host.Outcome State Fault Refusal :=
  .next <| s.slvIssue src 2 fun c s =>
    match s.mgmt.staged with
    | none => (s.commitRecord 2 0xC []).slvFinish c 0xC
    | some len => s.commitBegin len (ingotM s.stagedImage)

/-- COMMIT ends (R445). -/
def State.commitDone (s : State) (c : SlvCmd) (flashBad : Bool) : State :=
  let m := s.mgmt.record.digest
  let (st, s) := s.commitEnd flashBad
  (s.commitRecord 2 st m).slvFinish c st

/-- The counter of FUSE_ADVANCE and the value that it is to take (R447). -/
def State.fuseTarget (s : State) (c : SlvCmd) : Fld × Nat :=
  match c.arg 0 % 4 with
  | 0 => (SEC_FUSE_CNT_INGOT_SVN, s.get SLV_INGOT_SVN_SVN)
  | 1 => (SEC_FUSE_CNT_CARD_SVN, s.get CRD_ACTIVE_SVN_SVN)
  | 2 => (SEC_FUSE_CNT_KEY_SVN_MIO, c.arg 1)
  | _ => (SEC_FUSE_CNT_KEY_SVN_OWN, c.arg 1)

/-- VPGM_FUSE is enabled for the burn (R524). -/
def State.burnRail (s : State) : State := s.modPower fun p => { p with rails := p.rails % 2 ^ 15 + 2 ^ 15 }

/-- FUSE_ADVANCE (R447): ARG0[1:0] names the counter, and its target decides whether anything is burnt. DESIGN CHOICE (log 142): once
every rail is off until cold reset (R526) VPGM_FUSE stays off, and a burn ends STATE. -/
def execFuseAdvance (src : CmdSrc) (s : State) : Host.Outcome State Fault Refusal :=
  .next <| s.slvIssue src 3 fun c s =>
    let (f, v) := s.fuseTarget c
    if s.get f < v && v ≤ 64 then (if s.power.locked then s.slvFinish c 0xC else s.burnRail) else s

/-- VPGM_FUSE is on: what is to be burnt can be (R524). -/
def State.burns (s : State) : Bool := bitOf s.power.rails 15

/-- FUSE_ADVANCE ends: the counter is burnt forward, with a FUSE record (R447, R454). -/
def State.fuseDone (s : State) (c : SlvCmd) : State :=
  let (f, v) := s.fuseTarget c
  let old := s.get f
  if v ≤ old then s.slvFinish c 0
  else if 64 < v then s.slvFinish c 0xD
  else if !s.burns then s.slvFinish c 0xC
  else ((s.set f v).slvEvent 0x0005 1 [c.arg 0 % 4, old, v]).slvFinish c 0

/-- The digest of the Card image in force (R429). -/
def State.cardDigest (s : State) : List Byte := (List.range 6).flatMap fun i => leBytes 8 (s.get (CRD_ACTIVE_DIGEST_DIGEST i))

/-- CARD_PERSIST (R448): the image is read, and its M has to be the one in force; Selvedge then writes what it has read, whatever a warm
reset does meanwhile (R504). -/
def execCardPersist (src : CmdSrc) (s : State) : Host.Outcome State Fault Refusal :=
  .next <| s.orWait (.cardPersist src) fun s => s.slvIssue src 4 fun c s =>
    if !inHbm (c.arg 0) 64 then (s.commitRecord 4 1 []).slvFinish c 1
    else
      let (l, s) := s.slvImage (c.arg 0) 0x1000000
      let img := l.getD []
      let m := sha384 (img.take (leAt img 20 4))
      if !s.is CRD_STATUS_LOADED || l.isNone || m != s.cardDigest then (s.commitRecord 4 8 m).slvFinish c 8
      else s.modMgmt fun g => { g with persisting := img }

/-- CARD_PERSIST ends (R448): the image goes to the area with the lower CARD_SEQ, and the state record gives it the next one. -/
def State.persistDone (s : State) (c : SlvCmd) (flashBad : Bool) : State :=
  let img := s.mgmt.persisting
  let m := sha384 (img.take (leAt img 20 4))
  let r := s.mgmt.record
  let area := if r.cardSeqA ≤ r.cardSeqB then 0 else 1
  let s := (s.modMgmt fun g => { g with persisting := [] }).flashErase (flashCard area) (sectorsLen img.length)
  if flashBad then (s.commitRecord 4 9 m).slvFinish c 9
  else
    let seq := max r.cardSeqA r.cardSeqB + 1
    let s := (s.flashWrite (flashCard area) img).writeRec fun r =>
      if area = 0 then { r with cardSeqA := seq } else { r with cardSeqB := seq }
    (s.commitRecord 4 0 m).slvFinish c 0

/-! ### The Assay (R457 to R460) -/

/-- The bench map as the state record holds it (R435): 144, 12, 6 and 16 bits. -/
def State.benchMap (s : State) : List Byte :=
  let r := s.mgmt.record
  leBytes 18 r.loomMap ++ leBytes 5 (packFields [(0, r.stackMap), (12, r.portMap), (18, r.chanMap)])

/-- A measurement entry (R458). -/
def measure (kind index variant : Nat) (digest : List Byte) : List Byte :=
  leBytes 1 kind ++ leBytes 1 0 ++ leBytes 2 index ++ leBytes 8 variant ++ leBytes 4 0 ++ slice digest 0 48

/-- SHA-384 of the ROM (R459). -/
def romDigest : List Byte := sha384 ((List.range 0x40000).map Config.rom)

/-- The measurement entries (R459). -/
def State.measures (s : State) : List (List Byte) :=
  let slots := s.slots.filter fun i => s.get (RES_STATE i) != 0
  [measure 1 0 0 romDigest, measure 2 0 0 s.mgmt.ingot, measure 3 0 0 s.mgmt.loader,
    measure 4 0 0 (if s.is CRD_STATUS_LOADED then s.cardDigest else [])]
    ++ (slots.map fun i => measure 5 i (s.get (RES_VARIANT_ID i)) []) ++ [measure 6 0 0 (sha384 s.benchMap)]

/-- The Assay of a nonce (R458). -/
def State.assayOf (s : State) (nonce : List Byte) : List Byte :=
  let ms := s.measures
  let h := leBytes 4 0x59415341 ++ leBytes 4 0x12 ++ leBytes 8 (s.get SEC_SERIAL_SERIAL) ++ leBytes 2 s.chip ++ leBytes 2 ms.length
    ++ leBytes 4 (s.get SLV_BOOT_CNT_N) ++ leBytes 8 s.svcTime ++ slice nonce 0 32
    ++ toBytes [s.get SEC_LIFECYCLE_STATE, s.get SEC_FUSE_CNT_INGOT_SVN, s.get SEC_FUSE_CNT_CARD_SVN, s.get SEC_FUSE_CNT_KEY_SVN_MIO,
        s.get SEC_FUSE_CNT_KEY_SVN_OWN, 0, 0, 0]
    ++ leBytes 8 (s.get SLV_INGOT_VER_VERSION) ++ leBytes 4 (s.get CRD_ACTIVE_SVN_SVN) ++ List.replicate 44 0
  let l := h ++ ms.flatten
  l ++ s.signTrailer l

/-- A report is produced: one signature pair, and an ASSAY record (R454, R460). -/
def State.produce (s : State) (nonce : List Byte) : List Byte × State :=
  (s.assayOf nonce, (s.add SEC_CNT_SIGN_N 1).slvEvent 0x0009 0 ((nonce.take 16).map BitVec.toNat))

/-- ASSAY (R457, R460): the security engine is asked for the report's signature pair; without identity keys there is none. -/
def execAssay (src : CmdSrc) (s : State) : Host.Outcome State Fault Refusal :=
  .next <| s.slvIssue src 5 fun c s => if s.identityOk then s.sign .command else s.slvFinish c 0xC

/-- ASSAY ends, once its turn in the security engine has come: the report for SLV_NONCE lies at ARG0 (R457, R460). -/
def State.assayDone (s : State) (c : SlvCmd) : State :=
  if (s.mgmt.signing.map Prod.fst) != some .command then s
  else
    let s := s.signDone
    let nonce := (List.range 4).flatMap fun i => leBytes 8 (s.get (SLV_NONCE_NONCE i))
    let n := (s.assayOf nonce).length
    if c.arg 1 < n || !inHbm (c.arg 0) n then s.slvFinish c 1
    else
      let (l, s) := s.produce nonce
      (s.devWrite (c.arg 0) l false).slvFinish c 0

/-! ### Provisioning (R461) -/

/-- PROVISION (R461): the digests are read, and VPGM_FUSE goes on for their burn (R524). -/
def execProvision (src : CmdSrc) (s : State) : Host.Outcome State Fault Refusal :=
  .next <| s.orWait (.provision src) fun s => s.slvIssue src 0xA fun c s =>
    if s.get SEC_LIFECYCLE_STATE != 1 || s.power.locked then s.slvFinish c 0xC
    else if !inHbm (c.arg 0) 96 then s.slvFinish c 1
    else
      let (l, bad, s) := s.slvRead (c.arg 0) 96
      if bad then s.slvFinish c 1 else s.burnRail.modMgmt fun m => { m with persisting := l }

/-- PROVISION ends: the owner's digests are burnt, and LIFECYCLE is OWNED. -/
def State.provisionDone (s : State) (c : SlvCmd) : State :=
  let l := s.mgmt.persisting
  let s := s.modMgmt fun m => { m with persisting := [] }
  if !s.burns then s.slvFinish c 0xC
  else (((s.set (SEC_ROOT_DIGEST 3) (leNat (slice l 0 48))).set (SEC_ROOT_DIGEST 4) (leNat (slice l 48 48))).set
    SEC_LIFECYCLE_STATE 2).slvFinish c 0

/-! ### Benching (R466, R467) -/

/-- A unit's number is in range, and its other bits are zero. -/
def unitOk (kinds : List (Nat × Nat)) (u : Nat) : Bool :=
  decide (u < 65536) && bits u 4 4 == 0 && kinds.any fun k => k.1 == u % 16 && decide (u / 256 < k.2)

/-- The units of BENCH and UNBENCH (R461). -/
def benchKinds : List (Nat × Nat) := [(0, 144), (2, 12), (3, 6), (4, 16)]

/-- A stack goes out of service: its cache is flushed first (R339, R342). -/
def State.benchStack (s : State) (k cause : Nat) : State :=
  let s := (s.set SLV_BENCH_UNIT_STACK (s.get SLV_BENCH_UNIT_STACK ||| 2 ^ k)).flushStack k
  ((s.set (HBM_STATUS_BENCHED k) 1).benchRecord 2 k cause).writeRec fun r => { r with stackMap := r.stackMap ||| 2 ^ k }

/-- A port goes out of service: DISABLE is forced (R384). -/
def State.benchPort (s : State) (p cause : Nat) : State :=
  let s := (s.set SLV_BENCH_UNIT_PORT (s.get SLV_BENCH_UNIT_PORT ||| 2 ^ p)).modMgmt fun m => { m with outPorts := m.outPorts ||| 2 ^ p }
  let s := (s.setDisable p true).clearAll
    ((List.range 3).flatMap fun k => [ETH_STATUS_LINK (3 * p + k), ETH_STATUS_FEC_LOCK (3 * p + k), ETH_STATUS_AN_DONE (3 * p + k)])
  ((s.ethDomain p).benchRecord 3 p cause).writeRec fun r => { r with portMap := r.portMap ||| 2 ^ p }

/-- A channel goes out of service. -/
def State.benchChan (s : State) (c cause : Nat) : State :=
  let s := (s.set SLV_BENCH_CH_CHANNEL (s.get SLV_BENCH_CH_CHANNEL ||| 2 ^ c)).modMgmt fun m => { m with outChans := m.outChans ||| 2 ^ c }
  (s.benchRecord 4 c cause).writeRec fun r => { r with chanMap := r.chanMap ||| 2 ^ c }

/-- Bench a unit (R467). -/
def State.benchUnit (s : State) (u cause : Nat) : State :=
  match u % 16 with
  | 0 => s.benchLoom (u / 256) cause
  | 2 => s.benchStack (u / 256) cause
  | 3 => s.benchPort (u / 256) cause
  | 4 => s.benchChan (u / 256) cause
  | _ => s

/-- BENCH (R466, R467): the command, or SPD_STATUS.BENCH_REQ of a loom. -/
def execBench (why : BenchWhy) (s : State) : Host.Outcome State Fault Refusal :=
  .next <| match why with
    | .command src => s.slvIssue src 7 fun c s =>
        if !unitOk benchKinds (c.arg 0) then s.slvFinish c 1 else (s.benchUnit (c.arg 0) 1).slvFinish c 0
    | .request n => if s.is (SPD_STATUS_BENCH_REQ n) && s.ingotRuns && !s.is (LOOM_STATUS_BENCHED n) then s.benchLoom n 4 else s

/-- Clear bit j of a map. -/
def clearBit (m j : Nat) : Nat := if bitOf m j then m - 2 ^ j else m

/-- UNBENCH (R467): the bit in the map is cleared, with an UNBENCH record; the unit returns at the next cold reset. -/
def State.unbenchUnit (s : State) (u : Nat) : State :=
  let j := u / 256
  let s := s.writeRec fun r => match u % 16 with
    | 0 => { r with loomMap := clearBit r.loomMap j }
    | 2 => { r with stackMap := clearBit r.stackMap j }
    | 3 => { r with portMap := clearBit r.portMap j }
    | _ => { r with chanMap := clearBit r.chanMap j }
  s.showMap.slvEvent 0x0007 1 (le16 u)

/-- UNBENCH (R467). -/
def execUnbench (src : CmdSrc) (s : State) : Host.Outcome State Fault Refusal :=
  .next <| s.slvIssue src 8 fun c s =>
    if !unitOk benchKinds (c.arg 0) then s.slvFinish c 1 else (s.unbenchUnit (c.arg 0)).slvFinish c 0

/-- SELF_RESET (R461): it completes OK, and then Selvedge resets. -/
def execSelfReset (src : CmdSrc) (s : State) : Host.Outcome State Fault Refusal :=
  .next <| s.slvIssue src 9 fun c s => (s.slvFinish c 0).slvReset 2

/-! ### Self-test (R463 to R465) -/

/-- The unit kinds of a test, with how many units each has; none: no such test (R463). -/
def testKinds (t : Nat) : List (Nat × Nat) :=
  match t with
  | 1 => [(0, 144), (1, 64)]
  | 2 | 3 => [(2, 12)]
  | 4 => [(3, 6)]
  | 5 => [(4, 16)]
  | 6 => [(6, 1)]
  | _ => []

/-- The requirement of a test that needs no drain is met (R463). -/
def State.testAllowed (s : State) (u t : Nat) : Bool :=
  match t with
  | 2 | 3 => s.is (HBM_STATUS_BENCHED (u / 256))
  | 4 => !s.portUp (u / 256)
  | _ => true

/-- The looms of a test's scope. -/
def State.testLooms (s : State) (u t : Nat) : List Nat :=
  if t != 1 then [] else if u % 16 = 0 then [u / 256] else s.boltLooms (u / 256)

/-- TEST (R463, R464): the OPEN bolts of the scope become DRAINING. -/
def execTest (src : CmdSrc) (s : State) : Host.Outcome State Fault Refusal :=
  .next <| s.slvIssue src 6 fun c s =>
    let u := c.arg 0
    let t := c.arg 1
    if !unitOk (testKinds t) u then s.slvFinish c 1
    else if !s.testAllowed u t then s.slvFinish c 0xC
    else
      let looms := s.testLooms u t
      let bolts := (List.range 64).filter fun b => s.get (BLT_STATE b) == 1 && (t == 6 || looms.any (s.inBolt b))
      (bolts.foldl (fun s b => s.set (BLT_STATE b) 2) s).modMgmt fun m => { m with test := some { unit := u, test := t, looms, bolts } }

/-- A loom of the scope no longer delays idleness: it has stopped at END, belongs to no bolt, is benched, or its bolt is DOWN. -/
def State.scopeLoomIdle (s : State) (n : Nat) : Bool :=
  s.is (LOOM_STATUS_BENCHED n) || (match s.boltOf n with | none => true | some b => s.get (BLT_STATE b) == 3) || !s.is (LOOM_STATUS_RUN n)
    || (s.lm n).seq.atStep

/-- A bolt has no valid stream, or has gone DOWN. -/
def State.scopeBoltIdle (s : State) (b : Nat) : Bool :=
  s.get (BLT_STATE b) == 3 || (s.validStreams.filter fun x => s.binds (s.get (STR_SLOT x)) b).isEmpty

/-- An FTL command is in progress on an object that `on` picks, a swap from flash included. -/
def State.ftlBusy (s : State) (on : Nat → Bool) : Bool :=
  s.tiers.ops.any fun o => (o.1 == 0 && on (tierCmdOf o.2.cmd).id)
    || s.svc.loads.any fun x => x.tier == 0 && o.1 == 2 + x.slot && on x.src

/-- The scope of a test is idle (R464). -/
def State.testIdle (s : State) (t : TestRun) : Bool :=
  match t.test with
  | 1 => t.looms.all s.scopeLoomIdle && t.bolts.all s.scopeBoltIdle
  | 5 => !s.ftlBusy fun id => s.touches id (t.unit / 256)
  | 6 => s.validStreams.isEmpty
  | _ => true

/-- The accumulators of a loom after LOOM_BIST: the rule says that it overwrites them, and not with what; no accumulator ever holds −2^39
(R55). -/
def State.bistAcc (s : State) : List (Nat × List Int) :=
  (List.range 1024).foldl (fun t k => tput (List.replicate 512 0) t k
    ((List.range 512).map fun j => ((Config.freeValue (s.freeCount + 512 * k + j)).toNat % (2 ^ 40 - 1) : Int) - (2 ^ 39 - 1))) []

/-- The Draft store of loom n is written from its binding (R420, R465, R501). -/
def State.reloadDraft (s : State) (n : Nat) : State :=
  let e := entOf s.card 4 n
  let s : State := { s with mem := s.mem.filter fun c => !(decide (draftAddr n 0 ≤ c.1) && decide (c.1 < draftAddr n 0 + 0x100000)) }
  if !entValid 4 e then s
  else
    let (d, failed, s) := s.draftFetch e
    if failed then s else s.withDrafts [(n, d)]

/-- Every byte of a scratchpad is zero with correct check bits (R263). -/
def State.zeroSpad (s : State) (n : Nat) : State :=
  let out (a : Nat) : Bool := !(decide (lwin n ≤ a) && decide (a < lwin n + spadSize n))
  { s with mem := s.mem.filter fun c => out c.1, poison := s.poison.filter fun c => out c.1 }

/-- LOOM_BIST on a loom (R465). -/
def State.bistLoom (s : State) (n : Nat) : State :=
  let s := ((s.haltLoom n).clearAll [LOOM_STATUS_RUN n, LOOM_STATUS_IN_STEP n, LOOM_STATUS_HOLD n, LOOM_STATUS_SLIP n]).zeroSpad n
  let s := s.modArr n fun a => { a with acc := s.bistAcc, bufs := [none, none], marks := [], kinds := [] }
  (({ s with freeCount := s.freeCount + 524288 } : State).clearAll [ARR_STATUS_WBUF0_VALID n, ARR_STATUS_WBUF1_VALID n]).reloadDraft n

/-- A test ends: SLV_TEST_STS, the TEST record, the bolts that Selvedge made DRAINING return to OPEN, and the command completes. -/
def State.testEnd (s : State) (t : TestRun) (st : Nat) (fail : Nat × Nat) : State :=
  let s := ((s.set SLV_TEST_STS_STATUS st).set SLV_TEST_STS_TEST t.test).set SLV_TEST_STS_UNIT t.unit
  let s := s.slvEvent 0x0008 (if st = 0 then 0 else 2) (le16 t.unit ++ [t.test, st, fail.1, 0] ++ le16 fail.2)
  let s := t.bolts.foldl (fun s b => if s.get (BLT_STATE b) = 2 then s.set (BLT_STATE b) 1 else s) s
  let s := s.modMgmt fun m => { m with test := none }
  match s.mgmt.cmd with
  | some c => s.slvFinish c st
  | none => s

/-- TEST_START (R464 to R466): the scope is idle, the test runs, and a FAIL benches the unit; `fail` names the failing block's SRC and
INSTANCE. -/
def execTestStart (fail : Option (Nat × Nat)) (s : State) : Host.Outcome State Fault Refusal :=
  .next <| s.orWait (.testStart fail) fun s => match s.mgmt.test with
    | none => s
    | some t =>
      if !s.testIdle t then s
      else
        let s := if t.test = 1 then t.looms.foldl State.bistLoom s else s
        match fail with
        | none => s.testEnd t 0 (0, 0)
        | some f =>
          let s := s.testEnd t 0xB f
          if t.unit % 16 = 1 then (if t.looms.contains f.2 then s.benchLoom f.2 2 else s) else s.benchUnit t.unit 2

/-- TEST_DRAIN_TIMEOUT (R464): the scope is not idle 10 s after the command. -/
def execTestDrainTimeout (s : State) : Host.Outcome State Fault Refusal :=
  .next <| match s.mgmt.test with
    | none => s
    | some t => if s.testIdle t then s else s.testEnd t 0xA (0, 0)

/-! ### The end of a command -/

/-- SLV_COMMAND_DONE (R461): the command under way finishes; `flashBad`: an erase, a program or a read-back failed. -/
def execSlvCommandDone (flashBad : Bool) (s : State) : Host.Outcome State Fault Refusal :=
  .next <| s.orWait (.slvCommandDone flashBad) fun s => match s.mgmt.cmd with
    | none => s
    | some c =>
      match c.op with
      | 1 => s.stageDone c
      | 2 => s.commitDone c flashBad
      | 3 => s.fuseDone c
      | 4 => s.persistDone c flashBad
      | 5 => s.assayDone c
      | 0xA => s.provisionDone c
      | _ => s

/-- A reserved OP (R462). -/
def State.slvReserved (s : State) (src : CmdSrc) (op : Nat) : State := s.slvIssue src op fun c s => s.slvFinish c 1

/-! ### The management port (R450 to R452) -/

/-- A message that needs no session is served: the Ingot or the ROM's recovery runs, `rec_` tells whether recovery serves it, and in
standby it is answered STATE unless `stby` (R452, R492). A header that R6 or R7 refuses is answered INVALID, and nothing of its message is
acted on. -/
def State.serve (s : State) (h : MgmtHdr) (op : Nat) (rec_ stby : Bool) (k : State → State) : State :=
  if !s.romRuns || !s.hears h then s
  else if hdrBad h then s.answerPort h (opOf h op) 1 []
  else if (s.power.standby && !stby) || (s.mgmt.recovery.isSome && !rec_) then s.answerPort h op 0xC []
  else k s

/-- HELLO (R450, R452): sent every second in recovery. -/
def execHello (s : State) : Host.Outcome State Fault Refusal :=
  .next <| match s.mgmt.recovery with
    | none => s
    | some (reason, status) =>
      let body := leBytes 8 (s.get SEC_SERIAL_SERIAL) ++ leBytes 2 s.chip
        ++ toBytes [reason, status, s.get SEC_FUSE_CNT_INGOT_SVN, s.get SEC_LIFECYCLE_STATE, 0, 0] ++ leBytes 4 0x800000
      s.emit { src := s.mgmtAddr, dst := 0xFF02 * 2 ^ 112 + 1, resp := false, op := 1, seq := 0, status := 0, session := [], body }

/-- LOG_READ (R450): the records from a SEQ that the log SRAM holds. -/
def execLogRead (h : MgmtHdr) (first count : Nat) (s : State) : Host.Outcome State Fault Refusal :=
  .next <| s.serve h 2 true true fun s =>
    if count = 0 || 22 < count then s.answerPort h 2 1 []
    else
      let recs := ((List.range count).map fun i => tget [] s.mgmt.log ((first + i) % 16384)).zipIdx.filter fun r =>
        r.1.length == 64 && leAt r.1 4 4 == first + r.2
      s.answerPort h 2 0 (recs.flatMap Prod.fst)

/-- SENSORS (R450): the temperatures, rails and currents, two bytes each. -/
def execSensors (h : MgmtHdr) (s : State) : Host.Outcome State Fault Refusal :=
  .next <| s.serve h 3 true true fun s =>
    s.answerPort h 3 0 (((List.range 76).flatMap fun i => leBytes 2 (s.get (SLV_TEMP_DEG i)))
      ++ ((List.range 16).flatMap fun r => leBytes 2 (s.get (SLV_RAIL_MV r))) ++ (List.range 3).flatMap fun k => leBytes 2 (s.get (SLV_ICORE_A k)))

/-- An ASSAY command is under way. -/
def State.assayRuns (s : State) : Bool := match s.mgmt.cmd with | some c => c.op == 5 | none => false

/-- A part of a report goes to a requester (R450). -/
def State.sendReport (s : State) (l : List Byte) (q : MgmtHdr × Nat) : State :=
  s.answerPort q.1 4 0 (slice l q.2 (min 1408 (l.length - q.2)))

/-- The report that the device holds for a nonce. -/
def State.reportOf (s : State) (nonce : List Byte) : Option (List Byte) :=
  match s.mgmt.assay with
  | some (n, l) => if n = nonce then some l else none
  | none => none

/-- A report is asked for (R460): a new nonce has one produced, unless another report is under way. -/
def State.askReport (s : State) (h : MgmtHdr) (nonce : List Byte) (off : Nat) : State :=
  match s.mgmt.making with
  | some (n, w) =>
    if n = nonce then s.modMgmt fun m => { m with making := some (n, w ++ [(h, off)]) } else s.answerPort h 4 2 []
  | none =>
    if s.assayRuns then s.answerPort h 4 2 []
    else (s.modMgmt fun m => { m with making := some (nonce, [(h, off)]) }).sign (.report nonce)

/-- ASSAY_GET (R450, R460): part of the report for a nonce. A new nonce has a report produced, and the requests for it wait until it is;
while one is being produced a request for another nonce is answered IN_PROGRESS. -/
def execAssayGet (h : MgmtHdr) (nonce : List Byte) (off : Nat) (s : State) : Host.Outcome State Fault Refusal :=
  .next <| s.serve h 4 false false fun s =>
    if nonce.length != 32 then s.answerPort h 4 1 []
    else if !s.identityOk then s.answerPort h 4 0xC []
    else match s.reportOf nonce with
      | some l => s.sendReport l (h, off)
      | none => s.askReport h nonce off

/-- The report of a nonce is made: the requests that wait for it are answered (R460). -/
def State.reportMade (s : State) (nonce : List Byte) : State :=
  let (l, s) := s.produce nonce
  let waiting := (s.mgmt.making.map Prod.snd).getD []
  waiting.foldl (fun s q => s.sendReport l q) (s.modMgmt fun m => { m with assay := some (nonce, l), making := none })

/-- The signature pair under way is made when its time has come: the AUTH_PROOF of a port goes out, or ASSAY_GET has its report (R460). The
pair of the ASSAY command ends with SLV_COMMAND_DONE. -/
def State.signTick (s : State) : State :=
  match s.mgmt.signing with
  | none => s
  | some (j, t) =>
    if s.now < t then s
    else match j with
      | .proof p nonce => (s.sendProof p nonce).signDone
      | .report nonce => (s.reportMade nonce).signDone
      | .command => s

/-- AUTH (R451): without a proof the device sends a fresh nonce; with one it verifies the chain and the signatures over the nonce and
SERIAL, and opens a session. -/
def execAuth (h : MgmtHdr) (proof : List Byte) (s : State) : Host.Outcome State Fault Refusal :=
  .next <| s.serve h 5 false false fun s =>
    if proof = [] then
      let nonce := leBytes 32 (s.freeBits 256)
      (s.takeFree.modMgmt fun m => { m with challenge := some nonce }).answerPort h 5 0 nonce
    else
      match s.mgmt.challenge with
      | none => s.answerPort h 5 0xC []
      | some nonce =>
        let c := proof.length - 16608
        let m := sha384 (nonce ++ leBytes 8 (s.get SEC_SERIAL_SERIAL))
        let (v, s) := s.verify .operator (proof.take c) m (slice proof c 384) (slice proof (c + 384) 16224)
        let s := s.modMgmt fun m => { m with challenge := none }
        if v != 0 then (s.slvEvent 0x000A 2 [2 + v]).answerPort h 5 (2 + v) []
        else
          let sess := leBytes 16 (s.freeBits 128)
          let s := (s.takeFree.modMgmt fun m => { m with session := some sess }).set SLV_STATUS_SESSION 1
          (s.slvEvent 0x000A 0 [0]).answerPort h 5 0 sess

/-- DATA (R450, R452): up to 1,024 bytes into the stage buffer; no session is needed in recovery. Bytes 4 to 7 of the body hold
nothing (log 127). -/
def execData (h : MgmtHdr) (off : Nat) (_gap : BitVec 32) (data : List Byte) (s : State) : Host.Outcome State Fault Refusal :=
  .next <| s.serve h 6 true false fun s =>
    if s.mgmt.recovery.isNone && s.mgmt.session != some h.session then s.answerPort h 6 0xE []
    else if off % 1024 != 0 || 1024 < data.length || 0x800000 < off + data.length then s.answerPort h 6 1 []
    else (s.stagePut off data).answerPort h 6 0 []

/-- END (R452): in recovery the image in the stage buffer is checked and committed, and Selvedge resets. -/
def execEndRecovery (h : MgmtHdr) (len : Nat) (flashBad : Bool) (s : State) : Host.Outcome State Fault Refusal :=
  .next <| s.serve h 8 true false fun s =>
    if s.mgmt.recovery.isNone then s.answerPort h 8 0xC []
    else
      let img := s.stageBytes 0 (min 0x800000 len)
      let (st, s) := if 0x800000 < len then (7, s) else s.ingotCheck img
      if st != 0 then s.answerPort h 8 st []
      else
        let m := ingotM img
        let (st, s) := (s.commitBegin len m).commitEnd flashBad
        let s := s.commitRecord 2 st m
        if st != 0 then s.answerPort h 8 st []
        else
          ((s.answerPort h 8 0 []).modMgmt fun m => { m with recovered := true }).slvReset 2

/-- SESSION_TIMEOUT (R451): 300 s without a request. -/
def execSessionTimeout (s : State) : Host.Outcome State Fault Refusal :=
  .next ((s.modMgmt fun m => { m with session := none }).set SLV_STATUS_SESSION 0)

/-- MGMT_LINK_FALLBACK (R450): 1 s without a link at 25 Gb/s. -/
def execMgmtLinkFallback (s : State) : Host.Outcome State Fault Refusal := .next (s.modMgmt fun m => { m with slow := true })

end Sys2Proof.Machine
end

