-- ==== Sys2Proof/Machine/Power.lean ====
section
/-! DEFINITION. Operating points, Temper, the thermal trip, sensors, rails, power domains, standby and wake (R433, R471 to R492, R522 to
R528). -/
namespace Sys2Proof.Machine

/-! ### Operating points (R471 to R474, R522) -/

/-- Highest clock of a voltage row, in MHz, and its voltage in mV (R471). -/
def rowMhz (row : Nat) : Nat := [900, 1100, 1300, 1500, 1600, 1700, 1800, 1850].getD row 0
def rowMv (row : Nat) : Nat := [620, 650, 680, 710, 730, 750, 790, 820].getD row 620

/-- A command for the loom is still pending, or its voltage is slewing. -/
def State.dvfsBusy (s : State) (n : Nat) : Bool := s.is (PWR_LOOM_OPP_PEND n) || s.is (PWR_LOOM_OPP_SLEWING n)

/-- The status of a command for a loom, in the order of R473. -/
def State.dvfsStatus (s : State) (volt : Bool) (n v : Nat) : Nat :=
  let f := s.get (PWR_LOOM_OPP_F_MHZ n)
  if 143 < n || (if volt then 7 < v else v % 25 != 0 || v < 900 || 1850 < v) then 1
  else if s.get (PWR_DOM_STATE n) = 0 then 2
  else if s.dvfsBusy n then 3
  else if (if volt then rowMhz v < f else rowMhz (s.get (PWR_LOOM_OPP_ROW n)) < v) then 4
  else 0

/-- The row to which a loom's voltage is pending or slewing. -/
def State.putVolt (s : State) (n row : Nat) : State := { s with voltTo := tput 0 s.voltTo n row }

/-- A clock takes effect. -/
def State.freqNow (s : State) (n v : Nat) : State :=
  (((s.set (PWR_LOOM_OPP_F_MHZ n) v).set (PWR_LOOM_OPP_PEND n) 0).set (PWR_LOOM_OPP_PEND_MHZ n) 0).markSlow

/-- A voltage starts slewing. -/
def State.slewNow (s : State) (n : Nat) : State := (s.set (PWR_LOOM_OPP_PEND n) 0).set (PWR_LOOM_OPP_SLEWING n) 1

/-- An accepted clock command (R474): a lower clock applies at once, a higher one waits for a moment without credits, and a loom that is
not ON waits for its wake. -/
def State.freqTake (s : State) (n v : Nat) : State :=
  if s.asleep n || s.get (PWR_LOOM_OPP_F_MHZ n) < v then (s.set (PWR_LOOM_OPP_PEND n) 1).set (PWR_LOOM_OPP_PEND_MHZ n) v
  else s.freqNow n v

/-- An accepted voltage command (R474). -/
def State.voltTake (s : State) (n row : Nat) : State :=
  if row = s.get (PWR_LOOM_OPP_ROW n) then s
  else if s.asleep n || s.get (PWR_LOOM_OPP_ROW n) < row then (s.putVolt n (row + 1)).set (PWR_LOOM_OPP_PEND n) 1
  else (s.putVolt n (row + 1)).slewNow n

/-- PWR_DVFS_CMD written (R473): the status is shown; a refused command changes nothing else. -/
def State.dvfs (s : State) (volt : Bool) (n v : Nat) : State :=
  let st := s.dvfsStatus volt n v
  let s := (s.set PWR_DVFS_STS_STS st).set PWR_DVFS_STS_LOOM n
  if st != 0 then s else (if volt then s.voltTake n v else s.freqTake n v).wakeDomain n

/-- DVFS_FREQ (R473). -/
def execDvfsFreq (loom value : Nat) (s : State) : Host.Outcome State Fault Refusal := .next (s.dvfs false loom value)

/-- DVFS_VOLT (R473). -/
def execDvfsVolt (loom value : Nat) (s : State) : Host.Outcome State Fault Refusal := .next (s.dvfs true loom value)

/-- A pending command takes effect (R474). -/
def State.dvfsPend (s : State) (n : Nat) : State :=
  if !s.is (PWR_LOOM_OPP_PEND n) then s
  else if tget 0 s.voltTo n != 0 then s.slewNow n
  else s.freqNow n (s.get (PWR_LOOM_OPP_PEND_MHZ n))

/-- DVFS_APPLY (R474): the loom holds no credits and its domain is ON. -/
def execDvfsApply (n : LoomNo) (s : State) : Host.Outcome State Fault Refusal :=
  .next <| if s.get (LDG_CREDIT_HELD n) = 0 && !s.asleep n then s.dvfsPend n else s

/-! ### Temper (R472, R478 to R482) -/

/-- TOP of a die (R480); the top clock where no bolt has a loom on it. -/
def State.topMhz (s : State) (d : Nat) : Nat :=
  let l := ((List.range 64).filter fun b => (s.boltLooms b).any fun n => dieOf n == d).map s.boltMhz
  if l.isEmpty then 1850 else l.foldl max 0

/-- The clock that a loom is to run at (R472). -/
def State.targetMhz (s : State) (n : Nat) : Nat :=
  match s.boltOf n with
  | none => 900
  | some b => max 900 (min (s.boltMhz b) (s.get (TMP_DIE_CAP (dieOf n))) / 25 * 25)

/-- Temper issues the next command for a loom in the enforced order: frequency falls before voltage and rises after it (R473, R480). The
thermal trip holds the looms of its die (R483). -/
def State.steer (s : State) (n : Nat) : State :=
  let t := s.targetMhz n
  let row := rowOf t
  if s.get (PWR_DOM_STATE n) = 0 || s.dvfsBusy n || s.is (TMP_DIE_TRIP (dieOf n)) then s
  else
    let s := if t < s.get (PWR_LOOM_OPP_F_MHZ n) then s.dvfs false n t else s
    if row != s.get (PWR_LOOM_OPP_ROW n) then s.dvfs true n row
    else if s.get (PWR_LOOM_OPP_F_MHZ n) < t then s.dvfs false n t
    else s

/-- Temper runs: the Ingot does, and the ledger and Temper have started (R441). -/
def State.temperRuns (s : State) : Bool := s.ingotRuns && s.power.mainEn

/-- VOLT_SLEW_DONE (R474): the row is reached, and Temper goes on with the loom's clock. -/
def execVoltSlewDone (n : LoomNo) (s : State) : Host.Outcome State Fault Refusal :=
  .next <|
    if !s.is (PWR_LOOM_OPP_SLEWING n) then s
    else
      let s := ((s.set (PWR_LOOM_OPP_ROW n) (tget 0 s.voltTo n - 1)).set (PWR_LOOM_OPP_SLEWING n) 0).putVolt n 0
      if s.temperRuns then s.steer n else s

/-- A temperature sensor in 1/16 °C (R468). -/
def State.tempOf (s : State) (i : Nat) : Int := (BitVec.ofNat 16 (s.get (SLV_TEMP_DEG i))).toInt

/-- The die sensors of die d, and the sensors of its stacks (R433, R478). -/
def dieSensors (d : Nat) : List Nat := (List.range 24).map fun i => 24 * d + i
def stackSensors (d : Nat) : List Nat := (List.range 6).map fun i => 64 + 6 * d + i

/-- The sum of the VDD_CORE currents. -/
def State.coreAmps (s : State) : Nat := s.get (SLV_ICORE_A 0) + s.get (SLV_ICORE_A 1) + s.get (SLV_ICORE_A 2)

/-- HOT (R479). -/
def State.hot (s : State) (d : Nat) : Bool :=
  (dieSensors d).any (fun i => decide (16 * (s.get TMP_THR_DIE_HI : Int) ≤ s.tempOf i))
    || (stackSensors d).any (fun i => decide (16 * (s.get TMP_THR_HBM_HI : Int) ≤ s.tempOf i))
    || decide (s.get TMP_ICORE_LIM_A < s.coreAmps)

/-- COOL (R479). -/
def State.cool (s : State) (d : Nat) : Bool :=
  let h : Int := s.get TMP_THR_HYST
  (dieSensors d).all (fun i => decide (s.tempOf i ≤ 16 * ((s.get TMP_THR_DIE_HI : Int) - h)))
    && (stackSensors d).all (fun i => decide (s.tempOf i ≤ 16 * ((s.get TMP_THR_HBM_HI : Int) - h)))
    && decide (16 * s.coreAmps ≤ 15 * s.get TMP_ICORE_LIM_A)

/-- STEP_MHZ and EMERG_MS as they read (R494). -/
def State.stepMhz (s : State) : Nat := if s.get TMP_STEP_STEP_MHZ % 25 = 0 then s.get TMP_STEP_STEP_MHZ else 50
def State.emergMs (s : State) : Nat := max 1 (s.get TMP_STEP_EMERG_MS)

/-- CAP, CUT and lim of a die after a period (R480). -/
def temperStep (hot cool : Bool) (f kmax stepMhz stepCr emerg cap cut lim : Nat) : Nat × Nat × Nat :=
  if hot then
    if f < cap then (max f (cap - stepMhz), cut, 0)
    else if cut < kmax then (cap, min kmax (cut + stepCr), 0)
    else if emerg ≤ lim + 1 then (max 900 (cap - stepMhz), cut, lim + 1)
    else (cap, cut, lim + 1)
  else if cool then
    if cap < f then (min f (cap + stepMhz), cut, 0)
    else if 0 < cut then (cap, cut - stepCr, 0)
    else (min 1850 (cap + stepMhz), cut, 0)
  else (cap, cut, 0)

/-- A die's period (R480): a die that is neither HOT nor COOL keeps its cap and cut, as the worked example shows; one whose trip is set
waits for its release (R483). -/
def State.temperDie (s : State) (d : Nat) : State :=
  let hot := s.hot d
  let cool := s.cool d
  let s := if hot then s.set (TMP_DIE_HOT d) 1 else if cool then s.set (TMP_DIE_HOT d) 0 else s
  if !s.is TMP_CTL_EN || s.is (TMP_DIE_TRIP d) then s
  else
    let cap := min (s.get (TMP_DIE_CAP d)) (s.topMhz d)
    let (cap, cut, lim) := temperStep hot cool s.floorMhz (6400 - s.effectiveMin) s.stepMhz (s.get TMP_STEP_STEP_CR) s.emergMs cap
      (s.get (TMP_DIE_CUT d)) (tget 0 s.power.lim d)
    ((s.set (TMP_DIE_CAP d) cap).set (TMP_DIE_CUT d) cut).modPower fun p => { p with lim := tput 0 p.lim d lim }

/-- A powered loom of a bolt on die d runs below the floor, or its bolt's target lies below it (R481). -/
def State.belowFloor (s : State) (d : Nat) : Bool :=
  (List.range 144).any fun n => dieOf n == d && (s.boltOf n).isSome && s.get (PWR_DOM_STATE n) != 0 && s.loomSlow n

/-- TMP_DIE.BELOW_FLOOR and its counter (R481). -/
def State.floorWatch (s : State) : State :=
  let below := (List.range 2).filter s.belowFloor
  let s := (List.range 2).foldl (fun s d =>
    let b := below.contains d
    let s := if b && !s.is (TMP_DIE_BELOW_FLOOR d) then (s.set TMP_ERR_BELOW_FLOOR 1).report (mkRec 21 d 0x100 5 none 0 0 []) else s
    s.set (TMP_DIE_BELOW_FLOOR d) (b2n b)) s
  if below.isEmpty then s else s.add TMP_CNT_BELOW_MS_N 1

/-- CORE_MHZ of the Card image (R418); the top clock with no image. -/
def State.coreMhz (s : State) : Nat := if s.card.isEmpty then 3000 else bits (leAt (tget [] s.card 2) 8 2) 0 12

/-- The host-core clock (R482). -/
def State.coreStep (s : State) : State :=
  let hub := (List.range 16).map fun i => s.tempOf (48 + i)
  let hi : Int := 16 * (s.get TMP_THR_DIE_HI : Int)
  let cap := s.get TMP_CORE_CAP_MHZ
  if hub.any fun t => decide (hi ≤ t) then s.set TMP_CORE_CAP_MHZ (min cap (max 1000 (cap - 250)))
  else if hub.all fun t => decide (t ≤ hi - 16 * (s.get TMP_THR_HYST : Int)) then s.set TMP_CORE_CAP_MHZ (min s.coreMhz (cap + 250))
  else s

/-- LDG_BUDGET from the cuts (R480), no lower than the effective minimum and no higher than 6,400 (R478). -/
def State.setBudget (s : State) : State :=
  (s.set LDG_BUDGET_BUDGET (min 6400 (max s.effectiveMin (6400 - max (s.get (TMP_DIE_CUT 0)) (s.get (TMP_DIE_CUT 1)))))).ledgerShow

/-- TEMPER_PERIOD (R479 to R482). -/
def execTemperPeriod (s : State) : Host.Outcome State Fault Refusal :=
  .next <|
    if !s.temperRuns then s
    else
      let s := ((s.temperDie 0).temperDie 1).setBudget.coreStep.set TMP_FLOOR_MHZ s.floorMhz
      ((List.range 144).foldl State.steer s).floorWatch

/-- LDG_CNT_CLR (R493): LDG_CTL.CNT_CLR written 1. -/
def execLdgCntClr (s : State) : Host.Outcome State Fault Refusal := .next (s.clearAll [LDG_CNT_GRANT_N, LDG_CNT_WAIT_N])

/-! ### Sensors and the hardware trip (R433, R483, R528) -/

/-- The trip of a die: its looms drop to 900 MHz and row 0. -/
def State.tripDie (s : State) (d : Nat) : State :=
  let s := (((s.set (TMP_DIE_TRIP d) 1).set TMP_ERR_TRIP 1).addHold TMP_CNT_TRIP_N 1).report (mkRec 21 d 0x101 5 none 0 0 [])
  ((List.range 72).map fun i => 72 * d + i).foldl (fun s n =>
    (s.clearAll [PWR_LOOM_OPP_F_MHZ n, PWR_LOOM_OPP_ROW n, PWR_LOOM_OPP_SLEWING n, PWR_LOOM_OPP_PEND_MHZ n, PWR_LOOM_OPP_PEND n]).putVolt n 0) s |>.markSlow

/-- Every sensor of a die is below its limit, in °C. -/
def State.allBelow (s : State) (d : Nat) (die stack : Int) : Bool :=
  (dieSensors d).all (fun i => decide (s.tempOf i < 16 * die)) && (stackSensors d).all (fun i => decide (s.tempOf i < 16 * stack))

/-- Trip and release of a die at a sample (R483). -/
def State.tripWatch (s : State) (d : Nat) : State :=
  if !s.is (TMP_DIE_TRIP d) then (if s.allBelow d 115 105 then s else s.tripDie d)
  else if (dieSensors d).all (fun i => decide (s.tempOf i ≤ 16 * 105)) && (stackSensors d).all (fun i => decide (s.tempOf i ≤ 16 * 95))
  then (s.set (TMP_DIE_TRIP d) 0).set (TMP_DIE_CAP d) 900
  else s

/-- Any die sensor or stack sensor is at its shutdown level (R483). -/
def State.tooHot (s : State) : Bool :=
  (List.range 64).any (fun i => decide (16 * 125 ≤ s.tempOf i)) || (List.range 12).any fun k => decide (16 * 110 ≤ s.tempOf (64 + k))

/-- Service stops with the management port in service: every rail is off, and PWR_MAIN_EN stays low until cold reset (R526, R528). A
Selvedge that is in reset or in its ROM goes on with that (R432, R527). -/
def State.stopMain (s : State) : State :=
  (s.mainOff.modPower fun p => { p with locked := true }).modMgmt fun m =>
    { m with nextStage := if m.nextStage = 1 || m.nextStage = 2 then m.nextStage else 0 }

/-- The shutdown: THERMTRIP_N is driven low, and PWR_MAIN_EN with it (R483, R526, R528). Selvedge writes its record while it can: not while
it is in reset without REFCLK_MGMT (R527). -/
def State.shutdown (s : State) : State :=
  if s.power.thermtrip || !s.tooHot then s
  else (if s.mgmt.nextStage = 1 then s else s.fatal 21 0 0x101).stopMain.modPower fun p => { p with thermtrip := true }

/-- The die of a temperature sensor, where it has one. -/
def sensorDie (i : Nat) : Option Nat :=
  if i < 24 then some 0 else if i < 48 then some 1 else if i < 64 then none else if i < 70 then some 0 else some 1

/-- A temperature sample. -/
def State.tempSample (s : State) (i : Nat) (deg : BitVec 16) : State :=
  let s := s.set (SLV_TEMP_DEG i) deg.toNat
  let s := if i < 64 then s
    else
      let k := i - 64
      (s.set (HBM_TEMP_DEG_C k) ((deg.toInt / 16) % 256).toNat).set (HBM_STATUS_REFRESH_2X k) (b2n (decide (16 * 85 ≤ deg.toInt)))
  (match sensorDie i with | some d => s.tripWatch d | none => s).shutdown

/-- The set point of a VDD_CORE rail in mV (R522). -/
def State.corePoint (s : State) (d : Nat) : Nat :=
  (((List.range 144).filter fun n => dieOf n == d && s.get (PWR_DOM_STATE n) != 0).map fun n =>
    rowMv (max (s.get (PWR_LOOM_OPP_ROW n)) (tget 0 s.voltTo n - 1))).foldl max 620

/-- The operating range of a rail in mV (R521, R522). -/
def State.railRange (s : State) (r : Nat) : Nat × Nat :=
  match r with
  | 0 | 8 => (1710, 1890)
  | 1 => (s.corePoint 0 - 10, s.corePoint 0 + 10)
  | 2 => (s.corePoint 1 - 10, s.corePoint 1 + 10)
  | 3 => (735, 765)
  | 4 | 5 | 6 | 14 => (780, 820)
  | 9 => (1020, 1080)
  | 12 => (1170, 1230)
  | 13 => (1140, 1260)
  | 15 => (1750, 1850)
  | _ => (730, 770)

/-- A rail sample: samples in a row out of range are counted (R526). -/
def State.railSample (s : State) (r mv : Nat) : State :=
  let (lo, hi) := s.railRange r
  (s.set (SLV_RAIL_MV r) mv).modPower fun p =>
    { p with railBad := tput 0 p.railBad r (if bitOf p.rails r && (mv < lo || hi < mv) then tget 0 p.railBad r + 1 else 0) }

/-- SENSOR_SAMPLE (R433, R483). -/
def execSensorSample (x : Sample) (s : State) : Host.Outcome State Fault Refusal :=
  .next <| match x with
    | .temp i deg => s.tempSample i deg
    | .rail r mv => s.railSample r mv
    | .icore k amps => s.set (SLV_ICORE_A k) amps

/-- A rail has failed while the device runs (R526). -/
def State.railFault (s : State) (r : Nat) : State :=
  if !s.power.mainEn || r = 0 || r = 15 then s else (s.fatal 20 r 0x200).stopMain

/-- RAIL_FAULT (R526): the rail has been out of range for three samples in a row. -/
def execRailFault (r : Fin 16) (s : State) : Host.Outcome State Fault Refusal :=
  .next <| if 3 ≤ tget 0 s.power.railBad r then s.railFault r else s

/-- PMB_ALERT (R528): the regulator's status is read, and a fault that it reports is a rail fault. -/
def execPmbAlert (r : Fin 16) (fault : Bool) (s : State) : Host.Outcome State Fault Refusal :=
  .next <| if fault then s.railFault r else s

/-! ### Power domains (R484 to R487) -/

/-- A loom's bolt is CLOSED, or it has none. -/
def State.loomSpare (s : State) (n : Nat) : Bool := match s.boltOf n with | none => true | some b => s.get (BLT_STATE b) == 0

/-- A domain is idle (R485); of the host cores, the event says so. Ports and the hub follow other rules. -/
def State.domainIdle (s : State) (d : Nat) : Bool :=
  if d < 144 then
    s.loomSpare d && (!s.is (LOOM_STATUS_RUN d) || (s.lm d).seq.atStep) && (s.lm d).seq.launch.isNone && s.opsIdle d
      && (s.lm d).pend.isEmpty && (s.lm d).seq.writesOut == 0 && (s.lm d).spd.fifo.isEmpty
  else if d < 156 then
    ((List.range 64).all fun b => s.get (BLT_STATE b) != 1)
      && ((List.range 256).all fun i => s.get (NBT_BORROW_STATE i) != 2 && s.get (NBT_BORROW_STATE i) != 3 && s.get (NBT_LEND_STATE i) != 2
            && s.get (NBT_LEND_STATE i) != 3) && s.tiersIdle
  else d == 162

/-- Vote bits 0 to 7 of a domain (R486). -/
def State.hwVotes (s : State) (d : Nat) : Nat :=
  let slv := s.mgmt.nextStage != 0 || (match s.mgmt.test with | some t => t.looms.contains d || t.unit == 2 + 256 * (d - 144) && 144 ≤ d | none => false)
  let stack := decide (144 ≤ d) && decide (d < 156)
  b2n slv + 2 * b2n (stack && (List.range 256).any fun i => s.get (NBT_BORROW_STATE i) != 0 || s.get (NBT_LEND_STATE i) != 0)
    + 4 * b2n (stack && s.ftlBusy fun _ => true)

/-- A vote of the hardware wakes a domain that is LOW; TIMER ignores votes (R486). -/
def State.voteWake (s : State) : State :=
  if !s.is PWR_CTL_POLICY then s
  else (List.range 156 ++ [162]).foldl (fun s d => if s.get (PWR_DOM_STATE d) = 1 && s.hwVotes d != 0 then s.wakeDomain d else s) s

/-- The domains that move with domain d: the twelve stacks together (R485). -/
def withDomain (d : Nat) : List Nat := if 144 ≤ d && d < 156 then (List.range 12).map (144 + ·) else [d]

/-- The policy lets a domain drop after its quiet time (R486). -/
def State.mayDrop (s : State) (d : Nat) : Bool :=
  if s.is PWR_CTL_POLICY then (withDomain d).all fun x => s.hwVotes x == 0 && s.get (PWR_DOM_SWVOTES x) == 0
  else s.get PWR_IDLE_US_US != 0

/-- DOMAIN_QUIET_EXPIRE (R486). -/
def execDomainQuietExpire (d : Fin 164) (s : State) : Host.Outcome State Fault Refusal :=
  .next <|
    if s.domainIdle d && s.mayDrop d && (withDomain d).all fun x => s.get (PWR_DOM_STATE x) == 3
    then (withDomain d).foldl (fun s x => s.set (PWR_DOM_STATE x) 4) s
    else s

/-- DOMAIN_SAVE_DONE (R484, R486): a stack's cache has been flushed; a wake that was held comes at once. -/
def execDomainSaveDone (d : Fin 164) (s : State) : Host.Outcome State Fault Refusal :=
  .next <|
    if s.get (PWR_DOM_STATE d) != 4 then s
    else
      let l := withDomain d
      let s := if l.length = 12 then (List.range 12).foldl State.flushStack s else s
      let s := l.foldl (fun s x => s.set (PWR_DOM_STATE x) 1) s
      if l.any s.power.held.contains
      then (s.modPower fun p => { p with held := p.held.filter fun x => !l.contains x }).wakeDomain d
      else s

/-- SWVOTES_WRITE (R486): under VOTE a vote wakes a domain that is LOW. -/
def execSwvotesWrite (d : Fin 164) (value : Nat) (s : State) : Host.Outcome State Fault Refusal :=
  .next <|
    let s := s.set (PWR_DOM_SWVOTES d) value
    if s.is PWR_CTL_POLICY && value % 256 != 0 then s.wakeDomain d else s

/-! ### Standby and wake (R488 to R492) -/

/-- The conditions of standby (R488). -/
def State.mayStandby (s : State) : Bool :=
  (List.range 64).all s.boltIdle && s.validStreams.isEmpty && s.leasesOver && s.tiersIdle && s.mgmt.cmd.isNone
    && (List.range 6).all fun p => s.get (FAB_P_ID_PERS p) != 1 || s.portIs p 0 || s.portIs p 6 || bitOf s.mgmt.outPorts p

/-- Entry into standby, with its log record. -/
def State.enterStandby (s : State) : State :=
  let eth := (List.range 18).filter fun e => s.isEth e && s.is (ETH_CTL_EN e)
  let fab := (List.range 6).filter fun p => s.get (FAB_P_ID_PERS p) == 1
  ((s.logRec 0 20 0 0x200 []).mainOff).modPower fun p => { p with standby := true, ethAwake := eth, fabAwake := fab }

/-- STANDBY (R488): PWR_CTL.STANDBY written 1. -/
def execStandby (s : State) : Host.Outcome State Fault Refusal :=
  .next <|
    if s.power.standby then s
    else if s.mayStandby && s.ingotRuns && s.mgmt.nextStage = 0 && !s.power.locked then s.enterStandby
    else (s.set PWR_ERR_STBY_REFUSED 1).report (mkRec 20 0 0x100 2 none 0 0 [])

/-- A wake from standby with its source (R489, R491): boot goes on at stage 3. -/
def State.wakeUp (s : State) (src : Nat) : State :=
  if !s.power.standby then s
  else
    let s := (s.set PWR_STATUS_WAKE_SRC src).modPower fun p => { p with standby := false, ethAwake := [], fabAwake := [] }
    (s.logRec 0 20 0 0x201 []).modMgmt fun m =>
      if m.nextStage = 2 then { m with resume := 3 } else { m with nextStage := if s.power.locked then 0 else 3 }

/-- WAKE_PATTERN (R490). -/
def execWakePattern (p : PortNo) (s : State) : Host.Outcome State Fault Refusal :=
  .next <|
    let s := s.add PWR_CNT_WAKE_N 1
    if s.power.fabAwake.contains p.val then s.wakeUp 1 else s

/-- ETH_SIGNAL_DETECT (R489). -/
def execEthSignalDetect (e : EthNo) (s : State) : Host.Outcome State Fault Refusal :=
  .next <| if s.power.ethAwake.contains e.val then s.wakeUp 2 else s

/-- MGMT_WAKE (R489). -/
def execMgmtWake (s : State) : Host.Outcome State Fault Refusal := .next (s.wakeUp 3)

/-- BROWN_OUT (R492): a Selvedge reset, and a wake after the third within 60 s. -/
def execBrownOut (s : State) : Host.Outcome State Fault Refusal :=
  .next <|
    if !s.power.standby then s
    else
      let times := pushTime s.now (windowOf 60000) s.mgmt.brownouts
      let s := ((s.addHold PWR_CNT_BROWNOUT_N 1).set PWR_ERR_BROWNOUT 1).report (mkRec 20 0 0x101 3 none 0 0 [])
      let s := s.slvReset 4
      if 3 ≤ times.length then (s.modMgmt fun m => { m with brownouts := [] }).wakeUp 4
      else s.modMgmt fun m => { m with brownouts := times }

/-- WAKE_TX (R490): PWR_WAKE_TX written; bits of an UP port are ignored. -/
def execWakeTx (ports : Nat) (s : State) : Host.Outcome State Fault Refusal :=
  .next (s.modPower fun w => { w with wakeSent := (List.range 6).filter fun p => bitOf ports p && !s.portUp p })

end Sys2Proof.Machine
end

