-- ==== Sys2Proof/Machine/Boot.lean ====
section
/-! DEFINITION. Boot stages 3 to 9, and the warm, function and loom resets (R441 to R443, R497 to R504, R524, R525). -/
namespace Sys2Proof.Machine

/-! ### Boot stages (R441) -/

/-- A stage runs where it is the next one: it writes its BOOT record, acts, and the stage after it is next. -/
def State.bootStage (s : State) (k : Nat) (f : State → State) : State :=
  if s.mgmt.nextStage != k || s.mgmt.recovery.isSome then s
  else f ((s.stage k).modMgmt fun m => { m with nextStage := if k = 9 then 0 else k + 1 })

/-- Bring-up stops with a FATAL record; the management port stays in service. -/
def State.bootStop (s : State) (src inst : Nat) : State :=
  ((s.fatal src inst 0x200).modMgmt fun m => { m with nextStage := 0 }).set SLV_RST_STS_BUSY 0

/-- The bench map is applied before any unit is brought up (R467). -/
def State.applyMap (s : State) : State :=
  let r := s.mgmt.record
  let s := ((List.range 144).filter (bitOf r.loomMap)).foldl (fun s n => s.set (LOOM_STATUS_BENCHED n) 1) s
  let s := ((List.range 12).filter (bitOf r.stackMap)).foldl (fun s k => s.set (HBM_STATUS_BENCHED k) 1) s
  s.modMgmt fun m => { m with outPorts := m.outPorts ||| r.portMap, outChans := m.outChans ||| r.chanMap }

/-- The rails when those of the groups are v: VPGM_FUSE is in no group (R524). -/
def Power.groups (p : Power) (v : Nat) : Nat := p.rails / 2 ^ 15 * 2 ^ 15 + v

/-- BOOT_RAILS (R441, R524 to R526): `ok` where every rail came up in its window. -/
def execBootRails (ok : Bool) (s : State) : Host.Outcome State Fault Refusal :=
  .next <| if s.power.locked then s else s.bootStage 3 fun s =>
    let s := s.applyMap
    if !ok then (s.modPower fun p => { p with rails := p.groups 1, mainEn := false }).bootStop 20 0
    else (s.modPower fun p => { p with rails := p.groups 0x7FFF, mainEn := true }).set (PWR_DOM_STATE 163) 3

/-- BOOT_HBM (R340, R441, R527): `fails` names the stacks that fail training at 10 Gb/s. -/
def execBootHbm (fails : Nat) (s : State) : Host.Outcome State Fault Refusal :=
  .next <| s.bootStage 4 fun s =>
    (List.range 12).foldl (fun s k =>
      if s.is (HBM_STATUS_BENCHED k) then s.set (PWR_DOM_STATE (144 + k)) 3
      else if bitOf fails k || s.power.rackLost
      then ((s.set (HBM_ERR_TRAIN_FAIL k) 1).set (PWR_DOM_STATE (144 + k)) 3).benchStack k 16
      else ((s.set (HBM_STATUS_TRAINED k) 1).set (HBM_STATUS_REFRESH_2X k) (b2n (decide (16 * 85 ≤ s.tempOf (64 + k))))).set
        (PWR_DOM_STATE (144 + k)) 3) s

/-- BOOT_PHY (R441, R527): `fails` names the ports with a lane that fails calibration. -/
def execBootPhy (fails : Nat) (s : State) : Host.Outcome State Fault Refusal :=
  .next <| s.bootStage 5 fun s =>
    (List.range 6).foldl (fun s p =>
      if (bitOf fails p || s.power.rackLost) && !bitOf s.mgmt.outPorts p then s.benchPort p 16 else s) s

/-- A NAND channel has trained (R358). -/
def State.trainChan (s : State) (c : ChanTrain) : State :=
  let k := c.chan.val
  let s := s.modTiers fun t =>
    { t with chans := tins k ⟨c.blkUnits, c.blocks, max 1 c.pageKib, c.targets, c.bad⟩ t.chans }
  ((s.set (FTL_CH_ID_TARGETS k) c.targets).set (FTL_CH_STATUS_TRAINED k) 1).set (FTL_CH_STATUS_MTS_100 k) c.mts

/-- The FTL rebuilds its map, and its registers and the tenants' use follow it (R347, R500). -/
def State.rebuild (s : State) : State :=
  let s := s.set FTL_CAP_RAW_UNITS (s.flashRaw / 4)
  ((s.tiers.objs.map fun o => o.tenant).eraseDups).foldl State.flashShow (s.flashShow 0)

/-- BOOT_NAND (R358, R441): the channels that train, with what training finds; the others stay untrained. -/
def execBootNand (chans : List ChanTrain) (s : State) : Host.Outcome State Fault Refusal :=
  .next <| s.bootStage 6 fun s => ((chans.filter fun c => !bitOf s.mgmt.outChans c.chan).foldl State.trainChan s).rebuild

/-- Load the boot Card image of an area (R442). A profile that lies on another device cannot be read while no port is up. -/
def State.bootLoad (s : State) (area : Nat) (bad : Bool) : State :=
  let s := ((s.set CRD_CTL_SRC_FLASH 1).set CRD_CTL_AREA area).cardCtl .selvedge 0
  let s := s.cardStart { full := true, mask := 0, addr := 0, flash := some area }
  match s.crd with
  | none => s
  | some l =>
    let s := s.cardCommit l bad
    if s.crd.isSome then s.cardDone (0xE, 5, 0) else s

/-- The areas with an image, in descending CARD_SEQ order (R442). -/
def State.cardAreas (s : State) : List Nat :=
  let r := s.mgmt.record
  (if r.cardSeqA < r.cardSeqB then [1, 0] else [0, 1]).filter fun a => (if a = 0 then r.cardSeqA else r.cardSeqB) != 0

/-- BOOT_CARD (R442): `flashBad` names the areas whose read fails. -/
def execBootCard (flashBad : Nat) (s : State) : Host.Outcome State Fault Refusal :=
  .next <| s.orWait (.bootCard flashBad) fun s => s.bootStage 7 fun s =>
    let s := s.cardAreas.foldl (fun s a =>
      if s.is CRD_STATUS_LOADED then s
      else
        let s := s.bootLoad a (bitOf flashBad a)
        if s.is CRD_STATUS_LOADED then s.set SLV_STATUS_CARD_AREA a else s) s
    if s.is CRD_STATUS_LOADED then s else s.set SLV_STATUS_NO_CARD 1

/-- The base of host-core memory (R417, R442). -/
def State.hostBase (s : State) : Nat :=
  if s.card.isEmpty then hbmBase else hbmBase + 65536 * bits (leAt (tget [] s.card 1) 12 4) 0 24

/-- BOOT_HOST (R443): the host loader is copied and measured, and the cores are released. -/
def execBootHost (ok : Bool) (s : State) : Host.Outcome State Fault Refusal :=
  .next <| s.bootStage 8 fun s =>
    if !ok then s.bootStop 18 0
    else
      let (dest, seg) := s.mgmt.hostSeg
      let s := (s.devWrite (s.hostBase + dest) seg false).modMgmt fun m => { m with loader := sha384 seg }
      (s.modPower fun p => { p with cores := true }).set (PWR_DOM_STATE 162) 3

/-- BOOT_RUN (R441): management and governor duties begin; a warm reset is over. -/
def execBootRun (s : State) : Host.Outcome State Fault Refusal :=
  .next <| s.bootStage 9 fun s => s.set SLV_RST_STS_BUSY 0

/-! ### Warm reset (R499, R500, R504) -/

/-- A reset request completes with a status and changes nothing else. -/
def State.resetRefused (s : State) (st : Nat) : State := s.set SLV_RST_STS_STATUS st

/-- A reset has been performed. -/
def State.resetTaken (s : State) (kind : Nat) : State := (s.set SLV_RST_STS_LAST kind).set SLV_RST_STS_STATUS 0

/-- Domains after step 3 of R499: looms are OFF until stage 7 binds them, trained stacks in self-refresh, ports OFF, cores held. -/
def State.warmDomains (s : State) (trained : List Nat) : State :=
  let s := ((List.range 144) ++ (List.range 6).map (156 + ·) ++ [162]).foldl (fun s d => s.set (PWR_DOM_STATE d) 0) s
  trained.foldl (fun s k => s.set (PWR_DOM_STATE (144 + k)) 1) s

/-- The warm reset: step 1 stops the engines and delivers every pending record, step 2 flushes the caches, step 3 resets. -/
def State.warmReset (s : State) : State :=
  let s := match s.mgmt.test with | some t => s.testEnd t 0xC (0, 0) | none => s
  let s := (List.range 12).foldl State.flushStack s.deliverAll
  let trained := (List.range 12).filter fun k => s.is (HBM_STATUS_TRAINED k)
  let volt := s.voltTo
  let s := (s.keepRegs (warmKey s.mgmt.cmd.isSome)).dropMain
  let s := ({ s with
    voltTo := volt
    mem := s.mem.filter fun c => decide (hbmBase ≤ c.1)
    poison := s.poison.filter fun c => decide (hbmBase ≤ c.1) } : State).modMgmt fun m =>
      { m with nextStage := 4, resume := 3, cmdUnread := false, cardUnread := false }
  ((s.showClock.warmDomains trained).resetTaken 1).addHold SLV_RST_STS_WARM_CNT 1 |>.set SLV_RST_STS_BUSY 1

/-- WARM_RESET (R499, R504). -/
def execWarmReset (s : State) : Host.Outcome State Fault Refusal :=
  .next <|
    if s.is SLV_RST_STS_BUSY then s.resetRefused 2
    else if !s.ingotRuns || s.power.standby || s.mgmt.nextStage != 0 || !s.power.mainEn then s
    else if s.mgmt.ingot != s.mgmt.coldIngot then s.resetRefused 1
    else s.warmReset

/-! ### Function and loom resets (R501 to R504) -/

/-- The conditions of a function reset. -/
def State.functionOk (s : State) (mask : Nat) : Bool :=
  let bolts := (List.range 64).filter (bitOf mask)
  bolts.all s.boltIdle && s.validStreams.all fun x => !bolts.any fun b => s.binds (s.get (STR_SLOT x)) b

/-- A function reset of one bolt. -/
def State.resetBolt (s : State) (b : Nat) : State :=
  let s := (s.boltLooms b).foldl (fun s n => (s.clearLoom n).reloadDraft n) s
  let s := s.clearAll [BLT_ROWS_USED b, BLT_STEP b, BLT_LAG b]
  if s.get (BLT_KIND b) = 1 then s.set (BLT_KV_FREE b) (leAt (s.boltEntry b) 40 4) else s

/-- FUNCTION_RESET (R501): of the bolts in SLV_RST_BOLTS. -/
def execFunctionReset (s : State) : Host.Outcome State Fault Refusal :=
  .next <| s.orWait .functionReset fun s =>
    let mask := s.get SLV_RST_BOLTS_MASK
    if s.is SLV_RST_STS_BUSY then s.resetRefused 2
    else if !s.functionOk mask then s.resetRefused 1
    else (((List.range 64).filter (bitOf mask)).foldl State.resetBolt s).resetTaken 2

/-- LOOM_RESET (R502). -/
def execLoomReset (n : LoomNo) (s : State) : Host.Outcome State Fault Refusal :=
  .next <| if s.is SLV_RST_STS_BUSY then s.resetRefused 2 else (s.loomReset n).resetTaken 3

end Sys2Proof.Machine
end

