-- ==== Sys2Proof/Machine/Guard.lean ====
section
/-! DEFINITION. The precision guard's spans, votes and verdicts (R188 to R206). -/
namespace Sys2Proof.Machine

/-- The GRD_TOT registers clear (R205). -/
def State.clearTotals (s : State) (n : Nat) : State :=
  (s.modGrd n fun g => { g with clr := false }).clearAll [GRD_TOT_TRIPS_TRIPS n, GRD_TOT_REPLAYS_REPLAYS n,
    GRD_TOT_FALLBACKS_FALLBACKS n, GRD_TOT_ASAT_ASAT n, GRD_TOT_CSAT_CSAT n]

/-- GBEGIN (R188): a span opens with the word's layer tag and threshold set; its settings are taken now (R206), and the
counters of the pass start at zero (R193). -/
def execGbegin (n : LoomNo) (s : State) : Host.Outcome State Fault Refusal :=
  .next <| s.issue n 7 0 fun w =>
    if s.is (GRD_STATUS_SPAN_OPEN n) then s.engineFault n 7 (GRD_ERR_NEST n)
    else
      let t := w.arg % 4
      let pc := (s.lm n).seq.next
      let loops := (s.lm n).seq.loops
      let normal := s.get (GRD_STATUS_MODE n) == 0
      let u := ((s.advance n w).guardZero n).modGrd n fun g =>
        { g with
          gbegin := pc, gloops := loops, en := s.is (GRD_CTL_EN n), raise := s.get (GRD_CTL_WIN_RAISE n)
          lower := s.get (GRD_CTL_WIN_LOWER n), recipeOnReplay := s.is (GRD_CTL_RECIPE_ON_REPLAY n)
          thr := [s.get (GRD_THR_THR_ASAT n t), s.get (GRD_THR_THR_AZERO n t), s.get (GRD_THR_THR_CSAT n t),
            s.get (GRD_THR_THR_CZERO n t)]
          adj := if normal then [] else g.adj, units := [] }
      let u := if (s.lm n).grd.clr then u.clearTotals n else u
      ((u.set (GRD_STATUS_LAYER n) w.layer).set (GRD_STATUS_TSET n) t).set (GRD_STATUS_SPAN_OPEN n) 1

/-- The vote of loom n at GCHECK (R190, R193, R194): tests, totals and GRD_LAST; the vote rides on the pause as the tests
plus 16 for a vote of 1. -/
def State.castVote (s : State) (n : Nat) : State :=
  match (s.lm n).seq.pause with
  | some p => match p.kind with
    | .gcheck none none =>
      if !s.spanIdle n then s
      else
        let c := s.guardNow n
        let tests := tripTests (s.lm n).grd.thr c
        let v := tests + (if (s.lm n).grd.en && tests != 0 then 16 else 0)
        let s := s.modSeq n fun q => { q with pause := some { p with kind := .gcheck (some v) none } }
        let s := (s.add (GRD_TOT_ASAT_ASAT n) (c.getD 0 0)).add (GRD_TOT_CSAT_CSAT n) (c.getD 3 0)
        let s := (List.range 6).foldl (fun s i => s.set (GRD_LAST_LAST n i) (c.getD i 0)) s
        s.set (GRD_LAST_VOTE_TESTS n) tests
    | _ => s
  | none => s

/-- GCHECK (R190): the sequencer pauses for the verdict; the vote goes out once the span's work has completed. -/
def execGcheck (n : LoomNo) (s : State) : Host.Outcome State Fault Refusal :=
  .next <| s.issue n 7 1 fun w =>
    if !s.is (GRD_STATUS_SPAN_OPEN n) then s.engineFault n 7 (GRD_ERR_NONE n)
    else if s.is (LOOM_STATUS_PEER_FAULT n) then s.stopSeq n
    else ((s.advance n w).beginPause n (.gcheck none none) 96 w.slack).castVote n

/-- The vote that loom n has sent and that no verdict has answered. -/
def State.sentVote (s : State) (n : Nat) : Option Nat :=
  match (s.lm n).seq.pause with
  | some p => match p.kind with
    | .gcheck v none => v
    | _ => none
  | none => none

/-- Flag the span's layer for the recipe (R204). -/
def State.flagRecipe (s : State) (n : Nat) : State :=
  (s.setMapBit (GRD_RECIPE_LAYERS_MAP n) (s.get (GRD_STATUS_LAYER n) % 256)).set (GRD_RECIPE_FLAG n) 1

/-- The adjustment that a verdict of 1 adds (R197). -/
def winAdjust (g : Grd) (tests : Nat) : Int :=
  if bitOf tests 2 then (g.raise : Int) else if bitOf tests 3 then -(g.lower : Int) else 0

/-- A loom acts on the group's verdict (R195, R197, R199, R204). -/
def State.settleSpan (s : State) (n : Nat) (v : Bool) (tests : Nat) : State :=
  let m := s.get (GRD_STATUS_MODE n)
  let layer := s.get (GRD_STATUS_LAYER n) % 256
  let s := (s.set (GRD_LAST_VOTE_VERDICT n) (b2n v)).add (GRD_TOT_TRIPS_TRIPS n) (b2n v)
  let restart := v && m != 2
  let s := s.modSeq n fun q => { q with pause := q.pause.map fun p => { p with kind := .gcheck (some 0) (some restart) } }
  let s := s.set (GRD_STATUS_SPAN_OPEN n) 0
  if !restart then
    ((s.modGrd n fun g => { g with adj := [] }).add (GRD_STEP_CNT_CHECKED n) 1).set (GRD_STATUS_MODE n) 0
  else
    let s := s.modGrd n fun g => { g with adj := g.adj ++ [winAdjust g tests] }
    if m = 0 then
      let s := if (s.lm n).grd.recipeOnReplay then s.flagRecipe n else s
      (((s.setMapBit (GRD_STEP_REPLAY_MAP n) layer).add (GRD_STEP_CNT_REPLAYED n) 1).add
        (GRD_TOT_REPLAYS_REPLAYS n) 1).set (GRD_STATUS_MODE n) 1
    else
      ((((s.flagRecipe n).setMapBit (GRD_STEP_FALLBACK_MAP n) layer).add (GRD_STEP_CNT_FELL_BACK n) 1).add
        (GRD_TOT_FALLBACKS_FALLBACKS n) 1).set (GRD_STATUS_MODE n) 2

/-- GCHECK_VERDICT (R195): when every loom of the guard group has voted, the verdict is the OR of the votes and every loom of
the group acts on it. -/
def execGcheckVerdict (n : LoomNo) (s : State) : Host.Outcome State Fault Refusal :=
  .next <|
    let g := s.groupOf n
    let s := g.foldl (fun s m => s.castVote m) s
    let votes := g.filterMap fun m => s.sentVote m
    if g.isEmpty || votes.length != g.length then s
    else
      let all := votes.foldl (· ||| ·) 0
      g.foldl (fun s m => s.settleSpan m (bitOf all 4) (all % 16)) s

/-- GRD_CTL and GRD_THR (R205): the byte offsets of the block that they take. -/
def grdCtlOff (o : Nat) : Bool := (0x8 ≤ o && o < 0xC) || (0x20 ≤ o && o < 0x40)

/-- GRD_CTL_WRITE (R206): a write to GRD_CTL or GRD_THR, taken at the next GBEGIN; CNT_CLR clears the totals (R205), while a span is open
at the next GBEGIN. -/
def execGrdCtlWrite (n : LoomNo) (addr : Nat) (data : List Byte) (s : State) : Host.Outcome State Fault Refusal :=
  .next <|
    let base := lwin n + 0xF80000
    let off := addr - base
    if addr < base || !((List.range data.length).all fun i => grdCtlOff (off + i)) then s
    else
      let t := s.regPut addr data
      let clr := off ≤ 9 && bitOf ((data.getD (9 - off) 0).toNat) 2
      if !clr then t
      else if s.is (GRD_STATUS_SPAN_OPEN n) then t.modGrd n fun g => { g with clr := true }
      else t.clearTotals n

end Sys2Proof.Machine
end

