-- ==== Sys2Proof/Machine/Registers.lean ====
section
/-! DEFINITION. What a write to a register sets off, and registers that show what the device holds elsewhere (R10, R514, R535 and the
register tables). -/
namespace Sys2Proof.Machine

/-- The state that a command of the table leaves. -/
def State.after (s : State) (o : Host.Outcome State Fault Refusal) : State := match o with | .next t => t | _ => s

/-- A write to one register (R535): requester, the register, and the bytes that fall in it. -/
structure RegW where
  req : Requester
  hit : RegHit
  addr : Nat
  data : List Byte

/-- The value written, with the bytes that are not written as zero: what WO and W1C fields take (R535). -/
def RegW.value (w : RegW) : Nat := leNat w.data * 2 ^ (8 * w.hit.byte)
/-- Byte k of the register is written. -/
def RegW.covers (w : RegW) (k : Nat) : Bool := w.hit.byte ≤ k && k < w.hit.byte + w.data.length
/-- The write taken as one to plain fields (R535). -/
def State.plainPut (s : State) (w : RegW) : State := s.regPut w.addr w.data
/-- An RW field as the write leaves it. -/
def RegW.field (w : RegW) (s : State) (f : Fld) : Nat := (s.plainPut w).get f
/-- The loom whose register is written. -/
def RegW.loom (w : RegW) : LoomNo := Fin.ofNat 144 w.hit.inst

/-! ### Loom blocks -/

/-- LOOM_CTL (R231, R261). -/
def State.putLoomCtl (s : State) (w : RegW) : State :=
  if !w.covers 0 then s
  else
    let s := if bitOf w.value 0 then s.after (execRunStart w.loom s) else s.after (execRunStop w.loom s)
    if bitOf w.value 1 then s.after (execLoomCntClr w.loom s) else s

/-- ACC_CTL (R102). -/
def State.putAccCtl (s : State) (w : RegW) : State :=
  let s := s.plainPut w
  if bitOf w.value 1 then s.after (execAccCntClr w.loom s) else s

/-- ACC_WIN (R103). -/
def State.putAccWin (s : State) (w : RegW) (set : Fin 2) : State :=
  s.after (execAccWinWrite w.loom set (Fin.ofNat 512 w.hit.idx)
    (w.field s (if set.val = 0 then ACC_WIN0_WIN w.hit.inst w.hit.idx else ACC_WIN1_WIN w.hit.inst w.hit.idx)) s)

/-- The registers of a loom whose writes do more than R535 says; by the address of the register in loom 0's window. -/
def State.putLoom (s : State) (w : RegW) : State :=
  let b := w.hit.shape.base
  if b = 0x80F00008 then s.putLoomCtl w
  else if b = 0x80F20008 then s.putAccCtl w
  else if b = 0x80F21000 then s.putAccWin w 0
  else if b = 0x80F21800 then s.putAccWin w 1
  else if b = 0x80F80008 || b = 0x80F80020 then s.after (execGrdCtlWrite w.loom w.addr w.data s)
  else s.plainPut w

/-! ### SVC, HBM, MSC, NBT, FTL and SEC -/

/-- SVC_RQ_TAIL (R325): advanced to equal SVC_RQ_HEAD, the ring counts as empty, and RQ_BAD is set. -/
def State.putRqTail (s : State) (w : RegW) : State :=
  let t := s.plainPut w
  if t.get SVC_RQ_TAIL_TAIL != s.get SVC_RQ_TAIL_TAIL && t.get SVC_RQ_TAIL_TAIL = t.get SVC_RQ_HEAD_HEAD then t.rqBad else t

/-- HBM_RGN_CMD (R332). -/
def State.putRgnCmd (s : State) (w : RegW) : State :=
  if !(w.covers 0 || w.covers 1) then s
  else
    let i : Fin 4096 := Fin.ofNat 4096 (bits w.value 0 12)
    if bitOf w.value 12 then s.after (execRegionClear i s) else s.after (execRegionWrite i s)

/-- SEC_KEY_CMD (R346). -/
def State.putKeyCmd (s : State) (w : RegW) : State :=
  let slot : Fin 1024 := Fin.ofNat 1024 (bits w.value 0 10)
  match bits w.value 16 2 with
  | 1 => s.after (execKeyLoad slot s)
  | 2 => s.after (execKeyZero slot s)
  | _ => s

/-- MSC_CTL (R339, R360). -/
def State.putMscCtl (s : State) (w : RegW) : State :=
  let s := s.plainPut w
  if bitOf w.value 2 then s.after (execCacheFlush (Fin.ofNat 12 w.hit.inst) s) else s

/-- SVC_CTL (R329). -/
def State.putSvcCtl (s : State) (w : RegW) : State :=
  let s := s.plainPut w
  if bitOf w.value 1 then s.after (execSvcCntClr s) else s

/-- The registers of these blocks whose writes do more than R535 says. -/
def State.putHub (s : State) (w : RegW) : State :=
  let b := w.hit.shape.base
  if b = 0x1000008 then s.putSvcCtl w
  else if b = 0x1000020 || b = 0x1000024 || b = 0x1000028 || b = 0x1000030 then s.after (execSvcAllowWrite w.addr w.data s)
  else if b = 0x100002C then s.after (execSvcFloorMhzWrite (w.field s SVC_FLOOR_MHZ_MHZ) s)
  else if b = 0x1000050 then s.after (execSvcRqSizeWrite (w.field s SVC_RQ_SIZE_ENTRIES) s)
  else if b = 0x1000054 then s.putRqTail w
  else if b = 0x2000018 then s.after (execHbmLoopWrite (Fin.ofNat 12 w.hit.inst) (w.field s (HBM_PHY_CTL_LOOP w.hit.inst)) s)
  else if b = 0x2080010 then s.putRgnCmd w
  else if b = 0x3000008 then s.putMscCtl w
  else if b = 0x4000018 then s.after (execTierRingSizeWrite true (w.field s NBT_RING_SIZE_ENTRIES) s)
  else if b = 0x5000018 then s.after (execTierRingSizeWrite false (w.field s FTL_RING_SIZE_ENTRIES) s)
  else if b = 0x100100 then s.set SEC_KEY_DATA_KEYS w.value
  else if b = 0x100140 then s.putKeyCmd w
  else s.plainPut w

/-! ### FAB and ETH -/

/-- FAB_P_CTL (R384, R408). -/
def State.putPortCtl (s : State) (w : RegW) : State :=
  if !w.covers 0 then s
  else
    let p : PortNo := Fin.ofNat 6 w.hit.inst
    let s := s.after (execPortDisableWrite p (bitOf w.value 1) s)
    if bitOf w.value 0 then s.after (execRetrain p s) else s

/-- FAB_CTL (R407). -/
def State.putFabCtl (s : State) (w : RegW) : State :=
  let s := s.plainPut w
  if bitOf w.value 1 then s.after (execFabCntClr s) else s

/-- The value of ETH_CTL after the write. -/
def RegW.ethValue (w : RegW) (s : State) : Nat :=
  let e := w.hit.inst
  let t := s.plainPut w
  packFields [(0, t.get (ETH_CTL_EN e)), (1, t.get (ETH_CTL_PMD e)), (3, t.get (ETH_CTL_AN e)), (4, t.get (ETH_CTL_PFC_EN e)),
    (16, t.get (ETH_CTL_MAXFRAME e))]

/-- The port that ETH block e belongs to runs the fabric personality (R409). -/
def State.ethOff (s : State) (e : Nat) : Bool := s.get (FAB_P_ID_PERS (e / 3)) == 1

/-- The registers of these blocks whose writes do more than R535 says; writes to an ETH block of a fabric port are ignored (R409). -/
def State.putFabric (s : State) (w : RegW) : State :=
  let b := w.hit.shape.base
  if b = 0x6000008 then s.putFabCtl w
  else if b = 0x6100008 then s.putPortCtl w
  else if 0x7000000 ≤ b && b < 0x7010000 then
    if s.ethOff w.hit.inst then s
    else if b = 0x7000008 then s.after (execEthCtlWrite (Fin.ofNat 18 w.hit.inst) (w.ethValue s) s)
    else s.plainPut w
  else s.plainPut w

/-! ### CRD, SLV, LDG and PWR -/

/-- CRD_CTL (R424, R425, R429): a 1 in SRC_FLASH is honoured only from Selvedge. -/
def State.putCrdCtl (s : State) (w : RegW) : State :=
  let t := s.plainPut w
  let t := if w.req = .selvedge then t else t.set CRD_CTL_SRC_FLASH (s.get CRD_CTL_SRC_FLASH * t.get CRD_CTL_SRC_FLASH)
  if !bitOf w.value 0 then t
  else if t.get CRD_CTL_KIND = 0 then t.after (execCardLoadFull w.req t)
  else t.after (execCardLoadFunction w.req t)

/-- SLV_CTL (R468). -/
def State.putSlvCtl (s : State) (w : RegW) : State :=
  let s := s.plainPut w
  if bitOf w.value 1 then s.after (execLogFlush s) else s

/-- SLV_CMD (R461). -/
def State.putSlvCmd (s : State) (w : RegW) : State :=
  if !w.covers 0 then s
  else match w.value % 256 with
    | 0x01 => s.after (execStage .regs s)
    | 0x02 => s.after (execCommit .regs s)
    | 0x03 => s.after (execFuseAdvance .regs s)
    | 0x04 => s.after (execCardPersist .regs s)
    | 0x05 => s.after (execAssay .regs s)
    | 0x06 => s.after (execTest .regs s)
    | 0x07 => s.after (execBench (.command .regs) s)
    | 0x08 => s.after (execUnbench .regs s)
    | 0x09 => s.after (execSelfReset .regs s)
    | 0x0A => s.after (execProvision .regs s)
    | op => s.slvReserved .regs op

/-- SLV_RST_CTL (R516): KIND 0 is ignored, and so is a loom that does not exist. -/
def State.putRstCtl (s : State) (w : RegW) : State :=
  match bits w.value 0 2 with
  | 1 => s.after (execWarmReset s)
  | 2 => s.after (execFunctionReset s)
  | 3 => if h : bits w.value 8 8 < 144 then s.after (execLoomReset ⟨bits w.value 8 8, h⟩ s) else s
  | _ => s

/-- PWR_DVFS_CMD (R473). -/
def State.putDvfs (s : State) (w : RegW) : State :=
  let n := bits w.value 0 8
  let v := bits w.value 12 12
  if bitOf w.value 8 then s.after (execDvfsVolt n v s) else s.after (execDvfsFreq n v s)

/-- The registers of these blocks whose writes do more than R535 says. -/
def State.putMgmt (s : State) (w : RegW) : State :=
  let b := w.hit.shape.base
  if b = 0x300008 then s.putCrdCtl w
  else if b = 0x8 then s.putSlvCtl w
  else if b = 0x30 then s.putSlvCmd w
  else if b = 0x500 then s.putRstCtl w
  else if b = 0x210008 then if bitOf w.value 0 then s.after (execLdgCntClr s) else s
  else if b = 0x21001C then s.after (execLdgBudgetMinWrite (w.field s LDG_BUDGET_MIN_MIN) s)
  else if b = 0x200008 then if bitOf w.value 0 then s.after (execStandby s) else s
  else if b = 0x200018 then s.putDvfs w
  else if b = 0x200020 then s.after (execWakeTx (bits w.value 0 6) s)
  else if b = 0x200100 then
    if w.covers 3 then s.after (execSwvotesWrite (Fin.ofNat 164 w.hit.idx) (bits w.value 24 8) s) else s
  else s.plainPut w

/-- A write to a register (R10, R535), with what it sets off. -/
def State.putReg (s : State) (w : RegW) : State :=
  let b := w.hit.shape.base
  if 0x80000000 ≤ b then s.putLoom w
  else if 0x6000000 ≤ b then s.putFabric w
  else if 0x1000000 ≤ b || (0x100100 ≤ b && b < 0x100200) then s.putHub w
  else s.putMgmt w

/-! ### Registers that show what the device holds elsewhere -/

/-- Microseconds left to a lease's deadline (R362). -/
def State.leaseLeft (s : State) (k : Nat) : Nat := (tget 0 s.tiers.due k - s.now) / 5000

/-- SHT_QSTATE shows half S & 1 of the queue (R295). DONE shows the condition of a valid queue only, so that it reads 0 at reset as its
table says (log 52). -/
def State.showQueue (s : State) (n q : Nat) : State :=
  let h := s.halfOf n q (s.stepOf n)
  ((((s.set (SHT_QSTATE_LANDED n q) h.landed).set (SHT_QSTATE_TSUM n q) h.tsum).set (SHT_QSTATE_TCNT n q) h.tcnt).set
    (SHT_QSTATE_DONE n q) (b2n (s.is (SHT_QUEUE_VALID n q) && s.tallyDone n q))).set (SHT_QSTATE_OVF_CNT n q) h.ovf

/-- PWR_DOM: the votes of the hardware, and the state of a port's domain, which follows the port (R486, R487). -/
def State.showDomain (s : State) (d : Nat) : State :=
  let s := s.set (PWR_DOM_HWVOTES d) (s.hwVotes d)
  let p := d - 156
  if 156 ≤ d && d < 162 && s.get (FAB_P_ID_PERS p) = 1
  then s.set (PWR_DOM_STATE d) (if s.portIs p 0 || s.portIs p 6 || bitOf s.mgmt.outPorts p then 0 else 3) else s

/-- A field whose 0 reads as 1. -/
def State.zeroAsOne (s : State) (f : Fld) : State := if s.get f = 0 then s.set f 1 else s

/-- A PRED runs while no word says how far loom n's time has come: in a pause, between steps, after a Draft fault. DESIGN CHOICE (log
132): whether it has reached its second stage is then a free bit until a read has shown that it has. -/
def State.stage2Open (s : State) (n : Nat) : Bool :=
  let q := (s.lm n).seq
  s.is (BOB_STATUS_BUSY n) && s.get (BOB_STATUS_OP n) == 1 && decide (q.cycles < q.stage2) && !s.canIssue n
    && (q.pause.isSome || !s.frozen n)

/-- The registers some of whose values read as another (R227, R295, R329, R360, R362, R407, R408, R468, R494). -/
def State.readsAs (s : State) (b n : Nat) : State :=
  if b = 0x80F90008 then
    let v := s.get (SHT_AUD_CTL_AUD_LOG2DIV n)
    if v < 4 || 10 < v then s.set (SHT_AUD_CTL_AUD_LOG2DIV n) 10 else s
  else if b = 0x80F70010 then
    let q := (s.lm n).seq
    s.set (BOB_STATUS_STAGE2 n) (if s.stage2Open n then s.freeBits 1
      else b2n (s.is (BOB_STATUS_BUSY n) && s.get (BOB_STATUS_OP n) == 1 && decide (q.stage2 ≤ q.cycles)))
  else if b = 0x1000040 then if s.get SVC_STEP_TIMEOUT_QUARTERS = 0 then s.set SVC_STEP_TIMEOUT_QUARTERS 4 else s
  else if b = 0x3000008 then if s.get (MSC_CTL_DEF_HINT n) = 3 then s.set (MSC_CTL_DEF_HINT n) 0 else s
  else if b = 0x4000008 then (s.zeroAsOne NBT_CTL_KA_US).zeroAsOne NBT_CTL_KA_MISS
  else if b = 0x6000020 then ((s.zeroAsOne FAB_VC_WEIGHT_SCATTER).zeroAsOne FAB_VC_WEIGHT_BULK).zeroAsOne FAB_VC_WEIGHT_TIER
  else if b = 0x6000028 then s.zeroAsOne FAB_REQ_TIMEOUT_US
  else if b = 0x6000038 then s.zeroAsOne FAB_SYNC_CTL_PERIOD_US
  else if b = 0x6100030 then s.zeroAsOne (FAB_P_RETRY_THR_WIN_MS n)
  else if b = 0x6100034 then s.zeroAsOne (FAB_P_MAL_THR_WIN_MS n)
  else if b = 0x7000008 then
    (if s.get (ETH_CTL_PMD n) = 3 then s.set (ETH_CTL_PMD n) 0 else s).set (ETH_CTL_MAXFRAME n) (s.maxFrame n)
  else if b = 0x90 then
    let s := s.zeroAsOne SLV_LAG_CTL_WIN
    s.set SLV_LAG_CTL_COUNT (min (s.get SLV_LAG_CTL_COUNT) (s.get SLV_LAG_CTL_WIN))
  else if b = 0x220018 then
    (if s.get TMP_STEP_STEP_MHZ % 25 = 0 then s else s.set TMP_STEP_STEP_MHZ 50).zeroAsOne TMP_STEP_EMERG_MS
  else s

/-- The state with the fields of a register that show what the device holds elsewhere. -/
def State.shown (s : State) (h : RegHit) : State :=
  let b := h.shape.base
  if b = 0x80F90200 then s.showQueue h.inst h.idx
  else if b = 0x1000018 then s.set SVC_TIME_NS s.svcTime
  else if b = 0x1020000 then
    match s.svc.loads.find? fun x => x.slot == h.idx with
    | some x => s.set (RES_LOAD_LEFT h.idx) (x.left s.svcTime)
    | none => s
  else if b = 0x4001000 then s.set (NBT_BORROW_LEFT_US h.idx) (s.leaseLeft h.idx)
  else if b = 0x4003000 then s.set (NBT_LEND_LEFT_US h.idx) (s.leaseLeft (256 + h.idx))
  else if b = 0x200100 then s.showDomain h.idx
  else if b = 0x100038 then s.set SEC_SIGN_QUEUE_PENDING (s.mgmt.signs.length + b2n s.mgmt.signing.isSome)
  else if 0x7000000 ≤ b && b < 0x7010000 && s.ethOff h.inst then
    (s.clearAll (h.fields.map Prod.fst)).set (ETH_STATUS_DISABLED h.inst) 1
  else s.readsAs b h.inst

/-- A read of SLV_CMD_STS or CRD_LOAD_STS takes back its notification (R514), and one of BOB_STATUS that shows the second stage stands
(R227). -/
def State.readSeen (s : State) (b n : Nat) : State :=
  if b = 0x80F70010 && s.stage2Open n then
    (if s.freeBits 1 = 1 then s.modSeq n fun q => { q with stage2 := q.cycles } else s).takeFree
  else if b = 0x38 then s.modMgmt fun m => { m with cmdUnread := false }
  else if b = 0x300028 then s.modMgmt fun m => { m with cardUnread := false }
  else s

/-- Bytes of a register as they read. -/
def State.getReg (s : State) (h : RegHit) (a n : Nat) : List Byte :=
  let t := s.shown h
  (List.range n).map fun i => t.regByte (a + i)

/-- A byte of the SLV_LOG window (R468). -/
def State.logByte (s : State) (o : Nat) : Byte := (tget [] s.mgmt.log (8192 * s.get SLV_CTL_LOG_HALF + o / 64)).getD (o % 64) 0

/-! ### Notification (R514) -/

/-- A receive descriptor of Ethernet port e that the device has filled and the runtime has not taken back. -/
def State.rxWaiting (s : State) (e : Nat) : Bool := s.get (ETH_RX_RING_HEAD e) != s.get (ETH_RX_RING_TAIL e)

/-- A field of a list is set. -/
def State.anySet (s : State) (l : List Fld) : Bool := l.any s.is

/-- The level of an APLIC source (R514). -/
def State.source (s : State) (k : Nat) : Bool :=
  if k = 1 then s.get SLV_ERQ_HEAD_HEAD != s.get SLV_ERQ_TAIL_TAIL
  else if k = 2 then s.mgmt.cmdUnread
  else if k = 3 then s.anySet [SVC_ERR_RQ_BAD, SVC_ERR_UNATTRIBUTED, SVC_ERR_ABORT]
  else if k = 4 then s.mgmt.cardUnread
  else if k = 5 then s.anySet [FTL_ERR_UNCORR, FTL_ERR_RING_BAD, FTL_ERR_RETIRE]
  else if k = 6 then s.anySet [NBT_ERR_LOST, NBT_ERR_RING_BAD]
  else if k = 7 then s.get FAB_MBX_HEAD_HEAD != s.get FAB_MBX_TAIL_TAIL
  else if k = 8 then s.anySet [TMP_ERR_BELOW_FLOOR, TMP_ERR_TRIP]
  else if k = 9 then s.anySet [PWR_ERR_STBY_REFUSED, PWR_ERR_BROWNOUT]
  else if 10 ≤ k && k < 28 then s.rxWaiting (k - 10)
  else if 32 ≤ k && k < 176 then s.is (LOOM_STATUS_FAULT (k - 32)) || s.is (GRD_RECIPE_FLAG (k - 32)) || s.is (SHT_FLAGS_PRED (k - 32))
  else false

end Sys2Proof.Machine
end

