-- ==== Sys2Proof/Machine/Platform.lean ====
section
/-! DEFINITION. The host-core platform (R35): the APLIC domain with its wired sources (R514), the IMSIC files that it sends to, and the machine
timer, as the RISC-V Advanced Interrupt Architecture and privileged architecture give them. PRESUMED (log 101): R35 names those
specifications and gives the region no layout. -/
namespace Sys2Proof.Machine

/-- Change the platform. -/
def State.modPlat (s : State) (f : Plat → Plat) : State := { s with plat := f s.plat }

/-! ### Sources -/

/-- The source mode of a source: 0 inactive, 1 detached, 4 and 5 rising and falling edge, 6 and 7 high and low level. -/
def Plat.modeOf (p : Plat) (i : Nat) : Nat := tget 0 p.mode i

/-- A source mode that sourcecfg keeps; the reserved ones read as inactive. -/
def legalMode (m : Nat) : Nat := if m = 2 || m = 3 then 0 else m

/-- The rectified input of a source: its level, inverted for a falling edge or a low level. -/
def State.rectified (s : State) (i : Nat) : Bool :=
  match s.plat.modeOf i with
  | 4 | 6 => s.source i
  | 5 | 7 => !s.source i
  | _ => false

/-- The domain looks at source i: a rise makes it pending, a low level takes that back. -/
def State.lookSource (s : State) (i : Nat) : State :=
  let r := s.rectified i
  s.modPlat fun p =>
    { p with
      high := tput 0 p.high i (b2n r)
      waits := if r && tget 0 p.high i = 0 then tput 0 p.waits i 1
        else if !r && 6 ≤ p.modeOf i then tput 0 p.waits i 0 else p.waits }

/-! ### Message-signalled interrupts -/

/-- An MSI reaches the interrupt file of a core: the identity becomes pending. Identity 0 and a core that is not there take nothing. -/
def State.msi (s : State) (core id : Nat) : State :=
  if id = 0 || 31 < core then s else s.modPlat fun p => { p with eip := tput 0 p.eip (2048 * core + id % 2048) 1 }

/-- A pending and enabled source is forwarded to its target's file. -/
def State.forwardMsi (s : State) (i : Nat) : State :=
  if tget 0 s.plat.waits i = 0 || tget 0 s.plat.enabled i = 0 then s
  else
    let t := tget 0 s.plat.target i
    (s.modPlat fun p => { p with waits := tput 0 p.waits i 0 }).msi (t / 2 ^ 18) (t % 2048)

/-- The domain looks at its active sources and forwards what is pending, where IE lets it. -/
def State.aplicLook (s : State) : State :=
  let act := s.plat.mode.map Prod.fst
  let s := act.foldl State.lookSource s
  if s.plat.ie then act.foldl State.forwardMsi s else s

/-! ### The domain's registers -/

/-- Word k of a bit map over the sources. -/
def mapWord (m : List (Nat × Nat)) (k : Nat) : Nat := ((List.range 32).map fun i => b2n (tget 0 m (32 * k + i) != 0) * 2 ^ i).sum

/-- An offset in one of the bit arrays at base, as its word. -/
def wordAt (base o : Nat) : Option Nat := if base ≤ o && o < base + 0x80 then some ((o - base) / 4) else none

/-- A register of the domain by its offset. -/
def State.aplicRead (s : State) (o : Nat) : Nat :=
  let p := s.plat
  if o = 0 then 0x80000004 + 256 * b2n p.ie
  else if o < 0x1000 then p.modeOf (o / 4)
  else if 0x1BC0 ≤ o && o < 0x1BD0 then (Config.msiAddr ((o - 0x1BC0) / 4)).toNat
  else if 0x3004 ≤ o && o < 0x4000 then tget 0 p.target ((o - 0x3000) / 4)
  else match wordAt 0x1C00 o, wordAt 0x1D00 o, wordAt 0x1E00 o with
    | some k, _, _ => mapWord p.waits k
    | _, some k, _ => ((List.range 32).map fun i => b2n (s.rectified (32 * k + i)) * 2 ^ i).sum
    | _, _, some k => mapWord p.enabled k
    | _, _, _ => 0

/-- A pending bit set or cleared by software: only of an active source, and set for a level only while it is there. -/
def State.aplicPend (s : State) (on : Bool) (i : Nat) : State :=
  let m := s.plat.modeOf i
  if m = 0 || (on && 6 ≤ m && !s.rectified i) then s else s.modPlat fun p => { p with waits := tput 0 p.waits i (b2n on) }

/-- An enable bit set or cleared: only of an active source. -/
def State.aplicEnable (s : State) (on : Bool) (i : Nat) : State :=
  if s.plat.modeOf i = 0 then s else s.modPlat fun p => { p with enabled := tput 0 p.enabled i (b2n on) }

/-- Do f to the sources of word k whose bits are set in v. -/
def State.eachBit (s : State) (k v : Nat) (f : State → Nat → State) : State :=
  ((List.range 32).filter (bitOf v)).foldl (fun s i => f s (32 * k + i)) s

/-- sourcecfg of source i takes a mode; an inactive source has no pending, enable and target bits. -/
def State.aplicMode (s : State) (i m : Nat) : State :=
  s.modPlat fun p =>
    if m = 0 then { p with mode := tput 0 p.mode i 0, waits := tput 0 p.waits i 0, enabled := tput 0 p.enabled i 0
                           target := tput 0 p.target i 0, high := tput 0 p.high i 0 }
    else { p with mode := tput 0 p.mode i m }

/-- The four bytes of a word in the other order. -/
def swapWord (v : Nat) : Nat := leNat (leBytes 4 v).reverse

/-- A write of a register of the domain by its offset. -/
def State.aplicWrite (s : State) (o v : Nat) : State :=
  if o = 0 then s.modPlat fun p => { p with ie := bitOf v 8 }
  else if o < 0x1000 then s.aplicMode (o / 4) (if bitOf v 10 then 0 else legalMode (v % 8))
  else if o = 0x1CDC || o = 0x2000 then s.aplicPend true v
  else if o = 0x2004 then s.aplicPend true (swapWord v)
  else if o = 0x1DDC then s.aplicPend false v
  else if o = 0x1EDC then s.aplicEnable true v
  else if o = 0x1FDC then s.aplicEnable false v
  else if o = 0x3000 then s.msi (v / 2 ^ 18) (v % 2048)
  else if 0x3004 ≤ o && o < 0x4000 then
    (let i := (o - 0x3000) / 4
     if s.plat.modeOf i = 0 then s else s.modPlat fun p => { p with target := tput 0 p.target i (v / 2 ^ 18 * 2 ^ 18 + v % 2048) })
  else match wordAt 0x1C00 o, wordAt 0x1D00 o, wordAt 0x1E00 o, wordAt 0x1F00 o with
    | some k, _, _, _ => s.eachBit k v fun s i => s.aplicPend true i
    | _, some k, _, _ => s.eachBit k v fun s i => s.aplicPend false i
    | _, _, some k, _ => s.eachBit k v fun s i => s.aplicEnable true i
    | _, _, _, some k => s.eachBit k v fun s i => s.aplicEnable false i
    | _, _, _, _ => s

/-! ### The machine timer -/

/-- What the timer's clock has counted since RESET_N. -/
def State.timerTicks (s : State) : Nat := s.mgmt.upTime * Config.timebase / 5000000000

/-- mtime. -/
def State.mtime (s : State) : Nat := (s.plat.timeOff + s.timerTicks) % 2 ^ 64

/-- The machine timer interrupt of a core is pending. -/
def State.timerDue (s : State) (core : Nat) : Bool := decide (tget 0 s.plat.timecmp core ≤ s.mtime)

/-- Half h of a 64-bit register with value old takes a word. -/
def halfPut (old h v : Nat) : Nat := if h = 0 then old / 2 ^ 32 * 2 ^ 32 + v else old % 2 ^ 32 + v * 2 ^ 32

/-! ### The region -/

/-- What a word of the region belongs to. -/
inductive PlatReg where
  | aplic (o : Nat)
  | file (core o : Nat)
  | time (half : Nat)
  | timecmp (core half : Nat)
  | none

/-- The word at x of the region, by the free layout. -/
def platReg (x : Nat) : PlatReg :=
  if Config.aplicAt ≤ x && x < Config.aplicAt + 0x4000 then .aplic (x - Config.aplicAt)
  else if Config.mtimeAt ≤ x && x < Config.mtimeAt + 8 then .time ((x - Config.mtimeAt) / 4)
  else match (List.range 32).find? fun c => Config.mtimecmpAt c ≤ x && x < Config.mtimecmpAt c + 8 with
    | some c => .timecmp c ((x - Config.mtimecmpAt c) / 4)
    | none => match (List.range 32).find? fun c => Config.imsicAt c ≤ x && x < Config.imsicAt c + 4096 with
      | some c => .file c (x - Config.imsicAt c)
      | none => .none

/-- A word of the region as it reads. -/
def State.platWord (s : State) (x : Nat) : Nat :=
  match platReg x with
  | .aplic o => s.aplicRead o
  | .time h => bits s.mtime (32 * h) 32
  | .timecmp c h => bits (tget 0 s.plat.timecmp c) (32 * h) 32
  | .file _ _ | .none => 0

/-- Read n bytes of an aligned word. -/
def State.platRead (s : State) (x n : Nat) : List Byte := slice (leBytes 4 (s.platWord (x - x % 4))) (x % 4) n

/-- Write a word of the region; the domain looks at once at what it makes pending. A narrower write changes nothing. -/
def State.platWrite (s : State) (x : Nat) (d : List Byte) : State :=
  if x % 4 != 0 || d.length != 4 then s
  else
    let v := leNat d
    match platReg x with
    | .aplic o => (s.aplicWrite o v).aplicLook
    | .file c o => if o = 0 then s.msi c v else if o = 4 then s.msi c (swapWord v) else s
    | .time h => s.modPlat fun p => { p with timeOff := (halfPut s.mtime h v + 2 ^ 64 - s.timerTicks % 2 ^ 64) % 2 ^ 64 }
    | .timecmp c h => s.modPlat fun p => { p with timecmp := tput 0 p.timecmp c (halfPut (tget 0 p.timecmp c) h v) }
    | .none => s

end Sys2Proof.Machine
end

