-- ==== Sys2Proof/Machine/Access.lean ====
section
/-! DEFINITION. Accesses to the local address space, by the bus and by packets, and what they wait for (R27 to R34, R255, R256, R374, R486,
R534, R535). -/
namespace Sys2Proof.Machine

/-! ### Who may reach what (R31, R33, R256) -/

/-- A requester that reaches MMIO, loom registers and Draft stores (R33). -/
def reachesRegs (req : Requester) (tenant : Nat) : Bool :=
  match req with
  | .host | .selvedge => true
  | .peer _ control => control && tenant == 0
  | _ => false

/-- The collective engine reaches an area of loom n, the source area or the result area of a participant that has issued its WAIT (R33). -/
def State.collReach (s : State) (n off len : Nat) (write : Bool) : Bool :=
  (List.range 256).any fun c =>
    let at_ := s.get (if write then FAB_COLL_DST_OFF c else FAB_COLL_SRC_OFF c)
    s.collHas c n && at_ ≤ off && off + len ≤ at_ + s.get (FAB_COLL_MAXLEN c)
      && (match (s.lm n).seq.pause with | some p => p.kind == .coll c false || p.kind == .coll c true | none => false)

/-- A requester may be admitted to scratchpads and accumulator views at all (R33). -/
def reachesPads (req : Requester) : Bool :=
  match req with
  | .loomEngine _ u => u == 3 || u == 8
  | _ => true

/-- Length of an access in bytes. -/
def accSize (a : Access) : Nat := if a.write then a.data.length else a.len

/-- The part of an access that lies in the view of loom n that holds offset off, as offset and length. -/
def viewPart (a : Access) (n off : Nat) : Nat × Nat :=
  let lo := max a.addr (lwin n + if off < 0xC00000 then 0 else 0xC00000)
  (lo - lwin n, min (a.addr + accSize a) (lwin n + viewEnd n off) - lo)

/-- The status of a part of an access to a scratchpad or an accumulator view (R31, R33, R256). -/
def State.padStatus (s : State) (a : Access) (n off len : Nat) : Nat :=
  if s.is (LOOM_STATUS_BENCHED n) then 2
  else if !reachesPads a.req then 3
  else if a.req = .collective then (if s.collReach n off len a.write then 0 else 3)
  else if s.inwinOk n a.req a.tenant a.write off len then 0
  else 3

/-- Tables that only the Card image loader writes (R295, R326 to R328); by the base of their register. -/
def loaderTable (b : Nat) : Bool := [0x80F91000, 0x80F94000, 0x80F98000, 0x1010000, 0x1020000, 0x1040000, 0x1100000].contains b

/-- The status of an access to bytes of one register, or to bytes that no register holds (R31, R33). -/
def State.regStatus (s : State) (a : Access) (x : Nat) (h : Option RegHit) : Nat :=
  let b := match h with | some h => h.shape.base | none => 0xFFFFFFFF
  if x < 0x40000000 && !mmioMapped x then 1
  else if 0x80000000 ≤ x && s.is (LOOM_STATUS_BENCHED ((x - 0x80000000) / 0x1000000)) then 2
  else if s.portOut x then 2
  else if !reachesRegs a.req a.tenant then 3
  else if a.write && (loaderTable b || (b == 0x200018 && a.req != .selvedge)) then 3
  else if 0x100100 ≤ x && x < 0x100200 && a.req != .host && a.req != .selvedge then 3
  else 0

/-! ### One access, piece by piece (R534, R535) -/

/-- What the pieces of an access have answered: the first that was not OK, the bytes read, and whether any was poisoned. -/
structure AccRes where
  bad : Option (Nat × Nat) := none
  data : List Byte := []
  poison : Bool := false

/-- Add a piece's answer. -/
def AccRes.put (r : AccRes) (x status : Nat) (d : List Byte) (p : Bool) : AccRes :=
  ⟨if r.bad.isNone && status != 0 then some (x, status) else r.bad, r.data ++ d, r.poison || p⟩

/-- Where the next piece of an access at x ends: within a cache line of HBM, a register, or a granule of 64 KiB. -/
def pieceLen (x : Nat) : Nat :=
  match placeOf x with
  | .hbm => 256 - x % 256
  | .mmio | .regs _ => match findReg x with | some h => h.shape.bytes - h.byte | none => 4 - x % 4
  | _ => 65536 - x % 65536

/-- The pieces of [x, x + n); on fuel. -/
def accessCuts : Nat → Nat → Nat → List (Nat × Nat)
  | 0, _, _ => []
  | k + 1, x, n =>
    if n = 0 then []
    else
      let m := min n (max 1 (pieceLen x))
      (x, m) :: accessCuts k (x + m) (n - m)

/-- The bytes of a write that fall in a piece. -/
def accPart (a : Access) (x n : Nat) : List Byte := slice a.data (x - a.addr) n

/-- A piece in HBM (R333). -/
def State.hbmPiece (s : State) (a : Access) (x n : Nat) (r : AccRes) : AccRes × State :=
  if a.write then
    let (st, s) := s.writePiece a.req a.tenant false x (accPart a x n) (List.replicate n a.poison)
    (r.put x st [] false, s)
  else
    let (d, s) := s.readPiece a.req a.tenant false x n
    (r.put x d.status d.data (d.pois.any id), s)

/-- A piece in a scratchpad or an accumulator view. DEDUCED (log 99): the windows are asked for all that the access has in the view, which
R256 has lie wholly in one, however the access is cut. -/
def State.padPiece (s : State) (a : Access) (x n off len : Nat) (r : AccRes) : AccRes × State :=
  let st := s.padStatus a n (viewPart a n off).1 (viewPart a n off).2
  if st != 0 then
    (r.put x st (if a.write then [] else List.replicate len 0) (!a.write && st == 2),
      if st = 3 && reachesPads a.req && a.req != .collective then s.set (SPD_ERR_INWIN_DENY n) 1 else s)
  else if a.write then (r.put x 0 [] false, s.winWrite n off (accPart a x len) a.poison)
  else
    let (d, p) := s.winRead n off len
    (r.put x 0 d p, if off < 0xC00000 then s.countPoison n [(off, len)] else s)

/-- A piece in a Draft store (R232). -/
def State.draftPiece (s : State) (a : Access) (x n off len : Nat) (r : AccRes) : AccRes × State :=
  let st := if s.is (LOOM_STATUS_BENCHED n) then 2
    else if !reachesRegs a.req a.tenant || (a.write && s.is (LOOM_STATUS_RUN n)) then 3 else 0
  if st != 0 then (r.put x st (if a.write then [] else List.replicate len 0) (!a.write && st == 2), s)
  else if a.write then (r.put x 0 [] false, s.memWrite (draftAddr n off) (accPart a x len) false)
  else (r.put x 0 (s.bytesAt (draftAddr n off) len) false, s)

/-- Read bytes that no register of the spec's tables holds: the log window (R468), the host-core platform (R35), or zeros (R535). -/
def State.holeRead (s : State) (x n : Nat) : List Byte :=
  if 0x80000 ≤ x && x < 0x100000 then (List.range n).map fun i => s.logByte (x - 0x80000 + i)
  else if 0x8000000 ≤ x && x < 0xA000000 then s.platRead x n
  else List.replicate n 0

/-- Write bytes that no register of the spec's tables holds. -/
def State.holeWrite (s : State) (x : Nat) (d : List Byte) : State := if 0x8000000 ≤ x && x < 0xA000000 then s.platWrite x d else s

/-- A piece in registers (R535). -/
def State.regPiece (s : State) (a : Access) (x n : Nat) (r : AccRes) : AccRes × State :=
  let h := findReg x
  let st := s.regStatus a x h
  if st != 0 then (r.put x st (if a.write then [] else List.replicate n 0) (!a.write && st == 2), s)
  else match h with
    | some h =>
      if a.write then (r.put x 0 [] false, s.putReg ⟨a.req, h, x, accPart a x n⟩)
      else (r.put x 0 (s.getReg h x n) false, s.readSeen h.shape.base h.inst)
    | none =>
      if a.write then (r.put x 0 [] false, s.holeWrite x (accPart a x n)) else (r.put x 0 (s.holeRead x n) false, s)

/-- One piece of an access. -/
def State.piece (s : State) (a : Access) (x n : Nat) (r : AccRes) : AccRes × State :=
  match placeOf x with
  | .hbm => s.hbmPiece a x n r
  | .spad m off | .acc m off => s.padPiece a x m off n r
  | .draft m off => s.draftPiece a x m off n r
  | .regs _ | .mmio => s.regPiece a x n r
  | .none => (r.put x 1 (if a.write then [] else List.replicate n 0) false, s)

/-- Perform an access piece by piece (R534). -/
def State.performPieces (s : State) (a : Access) : AccRes × State :=
  (accessCuts (accSize a) a.addr (accSize a)).foldl (fun (q : AccRes × State) x => q.2.piece a x.1 x.2 q.1) ({}, s)

/-- The one error record of an access that is not OK (R31, R534). -/
def State.recordBad (s : State) (a : Access) (bad : Option (Nat × Nat)) : State :=
  match bad with
  | some b => s.refusedAt a.req a.tenant b.1 b.2
  | none => s

/-- The status of an access by the first of its pieces that is not OK. -/
def statusOf (bad : Option (Nat × Nat)) : Nat := match bad with | some b => b.2 | none => 0

/-- Perform an access: its status, its bytes, and whether the response is poisoned; one error record where it is not OK (R31, R534). -/
def State.perform (s : State) (a : Access) : Response × State :=
  let (r, s) := s.performPieces a
  (⟨statusOf r.bad, r.data, r.poison⟩, s.recordBad a r.bad)

/-! ### Waiting (R26, R255, R486) -/

/-- The power domain that an address lies in (R484): a loom's, a stack's, or that of the host cores' own blocks. -/
def domainAt (x : Nat) : Option Nat :=
  if 0x80000000 ≤ x && x < 0x110000000 then some ((x - 0x80000000) / 0x1000000)
  else if hbmBase ≤ x && x < hbmEnd then some (144 + stackOf x)
  else if 0x2000000 ≤ x && x < 0x2C00000 then some (144 + (x - 0x2000000) / 0x100000)
  else if 0x3000000 ≤ x && x < 0x3C00000 then some (144 + (x - 0x3000000) / 0x100000)
  else if 0x8000000 ≤ x && x < 0xA000000 then some 162
  else none

/-- A requester meets domain d not ON (R486): a loom waits until an image binds it, unless it is benched; any other domain is awake or asleep. -/
def State.notOn (s : State) (d : Nat) : Bool :=
  if d < 144 then s.get (PWR_DOM_STATE d) != 3 && !s.is (LOOM_STATUS_BENCHED d) else s.asleep d

/-- The domains that an access reaches. -/
def accDomains (a : Access) : List Nat := (accessCuts (accSize a) a.addr (accSize a)).filterMap fun x => domainAt x.1

/-- The loom in whose scratchpad or accumulator view the whole access lies. -/
def padOf (a n : Nat) : Option (Nat × Nat) :=
  if n = 0 then none
  else match placeOf a, placeOf (a + n - 1) with
    | .spad m off, .spad k _ => if m = k then some (m, off) else none
    | .acc m off, .acc k _ => if m = k then some (m, off) else none
    | _, _ => none

/-- The looms in whose scratchpads or accumulator views an access lies in part that is in no one of them as a whole. -/
def crossedPads (a n : Nat) : List Nat :=
  if (padOf a n).isSome then []
  else (accessCuts n a n).filterMap fun x => match placeOf x.1 with | .spad m _ | .acc m _ => some m | _ => none

/-- An access that crosses out of a loom's view waits while that loom's port serves nothing (R26, R255). -/
def State.portWaits (s : State) (a n : Nat) : Bool :=
  (crossedPads a n).any fun m => !s.portFree m && !s.is (LOOM_STATUS_BENCHED m)

/-- The access waits for a domain, or for the port of a loom that it reaches in part. -/
def State.mustWait (s : State) (a : Access) : Bool := (accDomains a).any s.notOn || s.portWaits a.addr (accSize a)

/-- An access as it waits in a loom's FIFO. -/
def accInbound (a : Access) (off : Nat) : Inbound :=
  { kind := if a.write then .write else .read, off, len := (accSize a), data := a.data, poison := a.poison, tenant := a.tenant
    req := a.req, tag := some 0, fetch := a.fetch }

/-- Perform an access and answer it. -/
def State.performNow (s : State) (a : Access) : State :=
  let (r, s) := s.perform a
  { (if a.write then s else s.readPoison a.req a.fetch a.addr r.poison) with resp := r }

/-- Perform an access of which parts lie in the scratchpads or accumulator views of looms: their ports were put off for `deferred` cycles
and meet the words in error `ecc` (R255, R257). -/
def State.performPads (s : State) (a : Access) (pads : List Nat) (deferred : Nat) (ecc : List SpadEv) : State :=
  pads.foldr (fun m (f : State → State) => fun s => s.throughPort m deferred ecc f) (fun s => s.performNow a) s

/-- An access whose domains are ON: where it lies in one view it is performed if the port is `free` and waits in the loom's FIFO
otherwise (R255); elsewhere it is performed and answered. One that the port does not admit at all waits for nothing. `deferred` are the
loom cycles for which local traffic in its banks put it off, `ecc` the scratchpad words in error that it meets. -/
def State.doAccess (s : State) (a : Access) (free : Nat → Bool) (deferred : Nat) (ecc : List SpadEv) : State :=
  match padOf a.addr (accSize a) with
  | some (n, off) =>
    let st := s.padStatus a n off (accSize a)
    if st = 2 || !reachesPads a.req || (a.req = .collective && st != 0) then s.performNow a
    else if free n then s.performPads a [n] deferred ecc
    else s.enqueue n (accInbound a off)
  | none => s.performPads a (crossedPads a.addr (accSize a)).eraseDups deferred ecc

/-- An access comes: it is done, or waits for the domains that it meets not ON and wakes them (R486). -/
def State.accessAfter (s : State) (a : Access) (deferred : Nat) (ecc : List SpadEv := []) : State :=
  if s.mustWait a then { (accDomains a).foldl State.wakeDomain s with held := s.held ++ [a] }
  else s.doAccess a s.portFree deferred ecc

/-- An access that meets no local traffic. -/
def State.access (s : State) (a : Access) : State := s.accessAfter a 0

/-- The device's own writes that waited, and then the accesses whose domains are ON, go on, in the order in which they came (R486): into a
loom's FIFO, or they are done; `ecc` are the words in error that one which crosses out of a view meets. -/
def State.serveHeld (s : State) (ecc : List SpadEv) : State :=
  s.held.foldl (fun s a => if s.mustWait a then { s with held := s.held ++ [a] } else s.doAccess a (fun _ => false) 0 ecc)
    ({ s.servePosts with held := [] } : State)

/-- LOCAL_ACCESS (R534); `ecc` are the words in error that it meets at a loom's port (R257). -/
def execLocalAccess (a : Access) (s : State) (deferred : Nat := 0) (ecc : List SpadEv := []) : Host.Outcome State Fault Refusal :=
  .next (s.accessAfter a deferred ecc)

/-- ACC_VIEW_WRITE (R56): a write access to the accumulator view, checked and performed as every access is (R31, R33, R256), through the
loom's port (R26, R255): it merges, saturates and stores; SAT and the counts stay. -/
def execAccViewWrite (n : LoomNo) (off : Nat) (data : List Byte) (s : State) (req : Requester := .host) (tenant : Nat := 0) :
    Host.Outcome State Fault Refusal :=
  .next <|
    if 0x200000 < off + data.length then s
    else s.access { req, write := true, addr := lwin n + 0xC00000 + off, len := data.length, data, tenant, poison := false }

/-- DRAFT_STORE_WRITE (R232): a write access to the Draft store, performed while the loom is stopped and discarded with DENIED while it
runs, benched and denied as every access is (R31, R33). -/
def execDraftStoreWrite (n : LoomNo) (req : Requester) (off : Nat) (data : List Byte) (s : State) (tenant : Nat := 0) :
    Host.Outcome State Fault Refusal :=
  .next <|
    if 0x100000 < off + data.length then s
    else s.access { req, write := true, addr := draftAddr n off, len := data.length, data, tenant, poison := false }

/-- NC_INBOUND_SERVE (R255): the access at the head of the FIFO is performed; `deferred` are the cycles for which it was put off, `ecc`
the words in error that it meets. With an empty FIFO the port serves what waits for several ports. -/
def execNcInboundServe (n : LoomNo) (deferred : Nat) (s : State) (ecc : List SpadEv := []) : Host.Outcome State Fault Refusal :=
  .next <|
    if !s.ncOpen n then s
    else match (s.lm n).spd.fifo with
      | [] => s.serveHeld ecc
      | i :: _ => match i.kind with
        | .read | .write | .atomic _ | .result _ _ => s.portServes n deferred ecc fun s => s.performInbound n i
        | .source c step => s.portServes n deferred ecc fun s => s.collServe n c step i
        | _ => s

/-- REGISTER_WRITE (R535): a write access as tenant 0. -/
def execRegisterWrite (req : Requester) (addr : Nat) (data : List Byte) (s : State) : Host.Outcome State Fault Refusal :=
  .next (s.access { req, write := true, addr, len := data.length, data, tenant := 0, poison := false })

/-- DOMAIN_WAKE_DONE (R474, R486): a domain that is WAKING is ON; a loom's pending clock or voltage takes effect, and the accesses that
waited are done. -/
def execDomainWakeDone (d : Fin 164) (s : State) : Host.Outcome State Fault Refusal :=
  .next <|
    if s.get (PWR_DOM_STATE d) != 2 then s
    else
      let s := (withDomain d).foldl (fun s x => if s.get (PWR_DOM_STATE x) = 2 then s.set (PWR_DOM_STATE x) 3 else s) s
      let s := if d.val < 144 && s.get (LDG_CREDIT_HELD d) = 0 then s.dvfsPend d else s
      s.serveHeld []

/-! ### Memory packets (R374) -/


/-- A packet's access. -/
def Packet.access (k : Packet) (write : Bool) (d : List Byte) : Access :=
  { req := k.requester, write, addr := fabLocal k.addr, len := k.len, data := d, tenant := k.tenant, poison := k.poison }

/-- The valid queue of loom n in whose area a scratchpad range lies (R272). -/
def State.queueAt (s : State) (n off len : Nat) : Option Nat :=
  (List.range 224).find? fun q =>
    let (base, cap, rsz, _) := s.queueShape s.chip n q
    s.is (SHT_QUEUE_VALID n q) && base ≤ off && off + len ≤ base + 128 * cap * rsz

/-- The source of return queue q of loom n that a return row of device `chip` comes from (R273, R281): the first declared source of that
device in whose return area the row lies, or else the first of that device; NSRC where there is none (log 33). -/
def State.retSource (s : State) (n q chip off len : Nat) : Nat :=
  let e := s.get (SHT_QUEUE_SRC_BASE n q)
  let mine := (List.range (s.get (SHT_QUEUE_NSRC n q))).filter fun i => s.get (SHT_SRC_CHIP n (e + i)) == chip
  (mine.find? fun i => s.inRetArea n (e + i) off len).getD (mine.headD (s.get (SHT_QUEUE_NSRC n q)))

/-- The step of a return row whose TAG carries its low 7 bits: S + d for the least d (log 33). -/
def State.retStep (s : State) (n low : Nat) : Nat := (s.stepOf n + (low + 128 - s.stepOf n % 128) % 128) % 2 ^ 32

/-- What a WRITE packet to a scratchpad is (R274, R284): a return row by its TAG, a token record in a queue of class SCATTER, or a
plain write. -/
def State.writeKind (s : State) (n off : Nat) (k : Packet) : InKind :=
  if k.cls = 1 && bitOf k.tag 15 then
    let q := k.tag % 256
    .retRow q (s.retStep n (k.tag / 256 % 128)) (s.retSource n q k.src off k.len)
  else if k.cls = 1 then
    match s.queueAt n off k.len with
    | some q => .record q
    | none => .write
  else .write

/-- A packet's access to a loom's window joins the loom's FIFO (R26, R402). -/
def State.packetPad (s : State) (n off : Nat) (kind : InKind) (len : Nat) (k : Packet) : State :=
  (s.enqueue n { kind, off, len, data := k.payload, poison := k.poison, tenant := k.tenant, req := k.requester
                 tag := if wantsResponse k then some k.tag else none, cls := k.cls }).noteRty n k.rty

/-- A packet of n bytes waits in the endpoint: for a domain (R486), for a port that it crosses, or for room in a loom's FIFO (R26, R402). -/
def State.packetWaits (s : State) (k : Packet) (n : Nat) : Bool :=
  s.mustWait { k.access false [] with len := n }
    || (match padOf (fabLocal k.addr) n with | some (m, _) => s.fifoFull m && !s.is (LOOM_STATUS_BENCHED m) | none => false)

/-- The first memory packet that can be taken in, or else the first that waits: packets of other virtual channels do not wait behind it
(R402). -/
def State.firstMem (s : State) (want : Packet → Bool) (len : Packet → Nat) : Option InPkt :=
  (s.firstIn fun i => want i.pkt && !s.packetWaits i.pkt (len i.pkt)).or (s.firstIn fun i => want i.pkt)

/-- A memory packet is taken in: it waits where its domain is not ON (R486), joins a loom's FIFO, or is performed by `now`, which answers
its status, its bytes and its poison. -/
def State.takeMem (s : State) (want : Packet → Bool) (len : Packet → Nat) (kind : State → Nat → Nat → Packet → InKind)
    (now : State → Packet → Response × State) : State :=
  match s.firstMem want len with
  | none => s
  | some i =>
    let k := i.pkt
    let x := fabLocal k.addr
    if s.packetWaits k (len k) then (accDomains { k.access false [] with len := len k }).foldl State.wakeDomain s
    else
      let s := s.takeIn i
      let done (s : State) : State :=
        let (r, s) := now s k
        if !wantsResponse k then s
        else if r.status != 0 then s.send (s.refuse k r.status)
        else s.send (s.respond k (if k.ptype = 1 then 2 else if k.ptype = 4 then 5 else 3) 0 r.data r.poison)
      match padOf x (len k) with
      | some (n, off) => if s.is (LOOM_STATUS_BENCHED n) then done s else s.packetPad n off (kind s n off k) (len k) k
      | none => done s

/-- PACKET_WRITE (R374): the first WRITE that has reached this device. -/
def execPacketWrite (s : State) : Host.Outcome State Fault Refusal :=
  .next <| s.takeMem (fun k => k.ptype == 0) (fun k => k.payload.length) (fun s n off k => s.writeKind n off k) fun s k =>
    let (r, s) := s.perform (k.access true k.payload)
    (⟨r.status, [], false⟩, s)

/-- PACKET_READ (R374): the first READ that has reached this device. -/
def execPacketRead (s : State) : Host.Outcome State Fault Refusal :=
  .next <| s.takeMem (fun k => k.ptype == 1) (fun k => k.len) (fun _ _ _ _ => .read) fun s k => s.perform (k.access false [])

/-- An atomic outside the looms' windows: the old value is read and the new one written where the bytes decode OK (R374, R534). -/
def State.atomicNow (s : State) (op : Nat) (k : Packet) : Response × State :=
  let n := atomicWidth op k.payload
  let a := { k.access false [] with len := n }
  let (r, s) := s.performPieces a
  let (w, s) := s.performPieces { k.access true (leBytes n (atomicNew op (leNat r.data) k.payload)) with poison := k.poison || r.poison }
  (⟨statusOf (r.bad.or w.bad), r.data.take 8, r.poison⟩, s.recordBad a (r.bad.or w.bad))

/-- FETCH_ADD (R374): the first such ATOMIC that has reached this device. -/
def execFetchAdd (s : State) : Host.Outcome State Fault Refusal :=
  .next <| s.takeMem (fun k => k.ptype == 4 && k.msgtype == 1) (fun k => atomicWidth 1 k.payload) (fun _ _ _ _ => .atomic 1) fun s k => s.atomicNow 1 k

/-- MASKED (R374): the first such ATOMIC that has reached this device. -/
def execMasked (s : State) : Host.Outcome State Fault Refusal :=
  .next <| s.takeMem (fun k => k.ptype == 4 && k.msgtype == 2) (fun k => atomicWidth 2 k.payload) (fun _ _ _ _ => .atomic 2) fun s k => s.atomicNow 2 k

end Sys2Proof.Machine
end

