-- ==== Sys2Proof/Machine/Bronze.lean ====
section
/-! DEFINITION. The Bronze unit: drains, matrix products, norms, elementwise operations and the merging of split attention
(R92 to R94, R98, R174, R176 to R179). -/
namespace Sys2Proof.Machine

/-- A Bronze operation is under way (R186): OP as in BRZ_STATUS. -/
def State.brzStart (s : State) (n op : Nat) : State := (s.set (BRZ_STATUS_OP n) op).set (BRZ_STATUS_BUSY n) 1

/-- A Bronze operation has ended. -/
def State.brzEnd (s : State) (n : Nat) : State :=
  ((s.add (BRZ_CNT_OPS_OPS n) 1).set (BRZ_STATUS_OP n) 0).set (BRZ_STATUS_BUSY n) 0

/-- Read a BRZ word's block: misplaced or refused blocks are Draft faults with cause PARAM (R240). `used` are the header bits
that serve the word, `nslots` its slots, `fmts` the output formats that it accepts. -/
def State.brzIssue (s : State) (n op used nslots : Nat) (fmts : List Nat) (k : DWord → Block → State) : State :=
  s.issue n 5 op fun w =>
    let b := blockOf (s.blockBytes n w.arg)
    if s.blockMisplaced n w.arg || blockBad b used nslots || !fmts.contains (bits b.hdr 4 4) then s.wordFault n 5 3
    else k w b

/-! ### DRAIN (R92 to R94, R98) -/

/-- The output plan of a DRAIN block (R240). -/
def State.drainPlan (s : State) (n : Nat) (b : Block) : OutPlan :=
  { fmt := s.outFmt n b, ex := s.expRule n b (b.slot 7), elem := b.slot 2, scale := b.slot 3, eStride := b.slot 4,
    sStride := b.slot 5, thr := if bitOf b.hdr 13 then some (b.slot 8 % 65536) else none, olist := b.slot 9, olStride := b.slot 10,
    span := s.spanOpen n }

/-- A row of accumulators as exact values, with the column scale applied by one rounding where SCALE is 1 (R57, R92). -/
def drainRow (scale : Option (List Nat)) (kind : Nat) (W : Int) (row : List Int) : List FVal :=
  let conv (a : Int) : FVal := accVal (if kind = 0 then a else selV a) W
  match scale with
  | none => row.map fun a => f32Val (f32Of (conv a))
  | some sc => List.zipWith (fun a c => f32Val (fmul (f32Of (conv a)) c)) row sc

/-- The 512 accumulators of a row (R55): a shorter list goes on with zeros. -/
def fit512 (r : List Int) : List Int := (r ++ List.replicate (512 - r.length) 0).take 512

/-- One row of a drain: read, write, and zero where ZERO is 1 (R92, R98, R512); `vecPoison` is the poison of the scale vector, which
every output of the drain takes up and no accumulator does. DESIGN CHOICE (log 114): the DRAIN block names no
reduction, so a row drains as SUM, MAX or MIN by the reduction of its last landing; zeroing it or writing it through the view does not
change that. -/
def State.drainOne (s : State) (n : Nat) (b : Block) (p : OutPlan) (scale : Option (List Nat)) (vecPoison : Bool) (psum : Nat)
    (win : Int) (set i : Nat) : State :=
  let row := b.slot 0 + i
  let compat := s.compat n
  let kind := if compat then 0 else tget 0 (s.lm n).arr.kinds (rowKey set row)
  let r := fit512 (if compat then s.psumRow n (psum + row * 4096) else s.accRow n set row)
  let W := if compat then win else s.window n set row
  let poison := if compat then s.spPoisoned n (psum + row * 4096) 4096 else s.rowMarked n set row
  let s := s.putOut n p i (drainRow scale kind W r) (poison || vecPoison)
  let s := if kind = 0 then s else
    s.spWrite n (b.slot 11 + i * b.slot 12) (r.flatMap fun a => leBytes 2 (selI a)) poison
  if !bitOf b.hdr 9 then s
  else if compat then s.spWrite n (psum + row * 4096) (List.replicate 4096 0) false
  else ((s.putRow n set row (List.replicate 512 0)).clearSat n set row).markRow n set row false

/-- DRAIN (R92): rows of the shadow set are converted, scaled, written and zeroed; DRAIN_BUSY reads 1 until it ends (R94). -/
def execDrain (n : LoomNo) (evs : CycleEvs) (s : State) : Host.Outcome State Fault Refusal :=
  .next <| s.withEvents n evs fun s => s.brzIssue n 0 0x2FF0 13 [1, 2, 3, 4, 5] fun w b =>
    let l := s.blockBytes n w.arg
    let rows := b.slot 1
    let set := 1 - s.activeSet n
    let psum := Config.ial1Psum l % 2 ^ 24
    let p := s.drainPlan n b
    let sel := !s.compat n && ((List.range (min rows 512)).any fun i => tget 0 (s.lm n).arr.kinds (rowKey set (b.slot 0 + i)) != 0)
    let partials := if s.compat n then [(psum + b.slot 0 * 4096, rows * 4096)] else []
    let reads := (if bitOf b.hdr 8 then [(b.slot 6, 1024)] else []) ++ partials
    if rows = 0 || 512 < b.slot 0 + rows then s.engineFault n 5 (ACC_ERR_ROW_RANGE n)
    else if !inSpad n partials then s.engineFault n 5 (ACC_ERR_PSUM_RANGE n)
    else if (!sel && (b.slot 11 != 0 || b.slot 12 != 0)) || p.olStride % 64 != 0 || !inSpad n (p.ranges rows 512 ++ reads ++
        (if sel then [rowsRange (b.slot 11) (b.slot 12) rows 1024] else [])) then s.wordFault n 5 3
    else
      let scale := if bitOf b.hdr 8 then some (s.spElts n (b.slot 6) false 512) else none
      let vecPoison := bitOf b.hdr 8 && s.spPoisoned n (b.slot 6) 1024
      let t := (s.advance n w).countPoison n reads
      let t := (List.range rows).foldl (fun t i =>
        t.drainOne n b p scale vecPoison psum (toSigned 9 (Config.ial1Window l % 512)) set i) t
      (t.brzStart n 1).set (ACC_STATUS_DRAIN_BUSY n) 1

/-- DRAIN_DONE (R94): the drain has made its last write. -/
def execDrainDone (n : LoomNo) (s : State) : Host.Outcome State Fault Refusal :=
  .next <|
    if !s.is (ACC_STATUS_DRAIN_BUSY n) || s.still n then s
    else ((s.brzEnd n).set (ACC_STATUS_DRAIN_BUSY n) 0).settle n

/-! ### COMBINE (R174) -/

/-- The merge of one row's partial outputs (R174): `outs` by partial, `lses`; the row's outputs and its LSE, as FP32 bits. Where an LSE
is NaN, so is the maximum, and all that is formed from it (R54). -/
def combineRow (dh : Nat) (outs : List (List Nat)) (lses : List Nat) : List Nat × Nat :=
  let lmax := if lses.any isNan32 then nan32 else lses.foldl (fun a b => if f32Key a < f32Key b then b else a) 0xFF800000
  if lses.all fun l => f32Val l = .inf true then (List.replicate dh 0, 0xFF800000)
  else
    let ws := lses.map fun l => if f32Val l = .inf true then 0 else exp2f (fsub l lmax)
    let sum := ws.foldl fadd 0
    let out := (List.range dh).map fun d =>
      fdiv32 ((ws.zip outs).foldl (fun a wo => fadd a (fmul wo.1 (wo.2.getD d 0))) 0) sum
    (out, fadd lmax (log2f sum))

/-- COMBINE (R174). Rows of the partials lie at the stride of the output (log 15). -/
def execCombine (n : LoomNo) (s : State) (evs : CycleEvs := {}) : Host.Outcome State Fault Refusal :=
  .next <| s.withEvents n evs fun s => s.brzIssue n 2 0x0CF0 8 [4, 5] fun w b =>
    let k := b.slot 0
    let rows := b.slot 1
    let dh := b.slot 2
    let f := Config.operandFp32 3
    let p : OutPlan := { fmt := bits b.hdr 4 4, ex := none, elem := b.slot 5, scale := 0, eStride := b.slot 6, sStride := 0,
                         thr := none, olist := 0, olStride := 0, span := s.spanOpen n }
    let lists := [(b.slot 3, 4 * k), (b.slot 4, 4 * k)]
    if k < 2 || 16 < k || !inSpad n (p.ranges rows dh ++ lists ++ [(b.slot 7, 4 * rows)]) then s.wordFault n 5 3
    else
      let ins := (List.range k).map fun i => leNat (s.spRead n (b.slot 3 + 4 * i) 4)
      let ls := (List.range k).map fun i => leNat (s.spRead n (b.slot 4 + 4 * i) 4)
      let beyond := (ins.flatMap fun a => rowReads a (b.slot 6) rows (dh * eltSize f)) ++ ls.map fun a => (a, 4 * rows)
      let t := ((s.advance n w).countPoison n lists).dataReads n 5 beyond
      let t := (List.range rows).foldl (fun t r =>
        let outs := ins.map fun a => s.spElts n (a + r * b.slot 6) f dh
        let lses := ls.map fun a => leNat (s.spRead n (a + 4 * r) 4)
        let poison := (ins.any fun a => s.spPoisoned n (a + r * b.slot 6) (dh * eltSize f))
          || (ls.any fun a => s.spPoisoned n (a + 4 * r) 4) || (lists.any fun x => s.spPoisoned n x.1 x.2)
        let (o, l) := combineRow dh outs lses
        ((t.putOut n p r (o.map f32Val) poison).spWrite n (b.slot 7 + 4 * r) (leBytes 4 l) poison).countSpecial n [l]) t
      t.brzStart n 6

/-! ### DOT (R177) -/

/-- DOT (R177): M × N dot products of length K; a row of the output is poisoned where an operand of it was. -/
def execDot (n : LoomNo) (s : State) (evs : CycleEvs := {}) : Host.Outcome State Fault Refusal :=
  .next <| s.withEvents n evs fun s => s.brzIssue n 3 0x0CF0 11 [4, 5] fun w b =>
    let M := b.slot 0
    let N := b.slot 1
    let K := b.slot 2
    let fa := b.slot 3 == 5
    let fb := b.slot 6 == 5
    let p : OutPlan := { fmt := bits b.hdr 4 4, ex := none, elem := b.slot 9, scale := 0, eStride := b.slot 10, sStride := 0,
                         thr := none, olist := 0, olStride := 0, span := s.spanOpen n }
    let reads := [rowsRange (b.slot 4) (b.slot 5) M (K * eltSize fa), rowsRange (b.slot 7) (b.slot 8) N (K * eltSize fb)]
    if !(b.slot 3 == 4 || fa) || !(b.slot 6 == 4 || fb) || !inSpad n (p.ranges M N ++ reads) then s.wordFault n 5 3
    else
      let bs := (List.range N).map fun j => s.spElts n (b.slot 7 + j * b.slot 8) fb K
      let bRows := rowReads (b.slot 7) (b.slot 8) N (K * eltSize fb)
      let bp := bRows.any fun x => s.spPoisoned n x.1 x.2
      let t := (s.advance n w).countPoison n (rowReads (b.slot 4) (b.slot 5) M (K * eltSize fa) ++ bRows)
      let t := (List.range M).foldl (fun t i =>
        let a := s.spElts n (b.slot 4 + i * b.slot 5) fa K
        let ap := s.spPoisoned n (b.slot 4 + i * b.slot 5) (K * eltSize fa)
        t.putOut n p i (bs.map fun r => f32Val (dot16 a r)) (ap || bp)) t
      t.brzStart n 3

/-! ### NORM (R179) -/

/-- FP32 bits of 1 / n, correctly rounded. -/
def recipNat (n : Nat) : Nat := f32Of (divVal (.fin false 1 0) (.fin false n 0))

/-- RMS norm of a row (R179). -/
def normRmsRow (x g : List Nat) (eps : Nat) : List Nat :=
  let r := rsqrt32 (fadd (fmul (sum16 (fun p v => ffma v v p) x) (recipNat x.length)) eps)
  List.zipWith (fun v w => fmul (fmul v r) w) x g

/-- Layer norm of a row (R179); without a bias nothing is added. -/
def normLayerRow (x g : List Nat) (bias : Option (List Nat)) (eps : Nat) : List Nat :=
  let mu := fmul (sum16 fadd x) (recipNat x.length)
  let d := x.map fun v => fsub v mu
  let r := rsqrt32 (fadd (fmul (sum16 (fun p v => ffma v v p) d) (recipNat x.length)) eps)
  let y := List.zipWith (fun v w => fmul (fmul v r) w) d g
  match bias with
  | none => y
  | some b => List.zipWith fadd y b

/-- A NORM word of the named mode (R179, R240). -/
def State.normIssue (s : State) (n : Nat) (layer : Bool) : State :=
  s.brzIssue n 4 0x2CF0 15 [1, 4, 5] fun w b =>
    let rows := bits (b.slot 0) 16 10
    let L := b.slot 1
    let fi := Config.operandFp32 0
    let fg := Config.operandFp32 1
    let p : OutPlan :=
      { fmt := s.outFmt n b, ex := s.expRule n b (b.slot 11), elem := b.slot 7, scale := b.slot 8, eStride := b.slot 9,
        sStride := b.slot 10, thr := if bitOf b.hdr 13 then some (b.slot 12 % 65536) else none, olist := b.slot 13,
        olStride := b.slot 14, span := s.spanOpen n }
    let bias := layer && b.slot 5 != 0
    let reads := [rowsRange (b.slot 2) (b.slot 3) rows (L * eltSize fi), (b.slot 4, L * eltSize fg)]
      ++ (if bias then [(b.slot 5, L * eltSize fg)] else [])
    if b.slot 0 &&& 0x3FF0001 != b.slot 0 then s.wordFault n 5 3
    else if bitOf (b.slot 0) 0 != layer then s
    else if p.olStride % 64 != 0 || !inSpad n (p.ranges rows L ++ reads) then s.wordFault n 5 3
    else
      let g := s.spElts n (b.slot 4) fg L
      let bs := if bias then some (s.spElts n (b.slot 5) fg L) else none
      let gp := (reads.drop 1).any fun x => s.spPoisoned n x.1 x.2
      let t := (s.advance n w).countPoison n (rowReads (b.slot 2) (b.slot 3) rows (L * eltSize fi) ++ reads.drop 1)
      let t := (List.range rows).foldl (fun t r =>
        let x := s.spElts n (b.slot 2 + r * b.slot 3) fi L
        let y := if layer then normLayerRow x g bs (b.slot 6) else normRmsRow x g (b.slot 6)
        t.putOut n p r (y.map f32Val) (gp || s.spPoisoned n (b.slot 2 + r * b.slot 3) (L * eltSize fi))) t
      t.brzStart n 4

/-- NORM_RMS (R179). -/
def execNormRms (n : LoomNo) (s : State) (evs : CycleEvs := {}) : Host.Outcome State Fault Refusal :=
  .next <| s.withEvents n evs fun s => s.normIssue n false

/-- NORM_LAYER (R179). -/
def execNormLayer (n : LoomNo) (s : State) (evs : CycleEvs := {}) : Host.Outcome State Fault Refusal :=
  .next <| s.withEvents n evs fun s => s.normIssue n true

/-! ### ELEM (R178) -/

/-- One elementwise result on FP32 bits (R178). -/
def elemFn (func a b c : Nat) : Nat :=
  match func with
  | 0 => fadd a b
  | 1 => fmul a b
  | 2 => ffma a b c
  | 3 => fdiv32 a b
  | 4 => recip32 a
  | 5 => rsqrt32 a
  | 6 => exp2f a
  | _ => log2f a

/-- Operands that a FUNC reads: A alone, A and B, or all three. -/
def elemArity (func : Nat) : Nat := if func = 2 then 3 else if func ≤ 3 then 2 else 1

/-- An ELEM word of the named FUNC (R178, R240); poison travels element by element in 8-byte words (R512). -/
def State.elemIssue (s : State) (n func : Nat) : State :=
  s.brzIssue n 6 0x0CF0 6 [4, 5] fun w b =>
    let L := b.slot 1
    let f := Config.operandFp32 2
    let p : OutPlan := { fmt := bits b.hdr 4 4, ex := none, elem := b.slot 5, scale := 0, eStride := 0, sStride := 0,
                         thr := none, olist := 0, olStride := 0, span := s.spanOpen n }
    let reads := ((List.range (elemArity func)).map fun i => (b.slot (2 + i), L * eltSize f))
    if 7 < b.slot 0 || (elemArity (b.slot 0) < 2 && b.slot 3 != 0) || (elemArity (b.slot 0) < 3 && b.slot 4 != 0) then s.wordFault n 5 3
    else if b.slot 0 != func then s
    else if !inSpad n (p.ranges 1 L ++ reads) then s.wordFault n 5 3
    else
      let x (i : Nat) := if i < elemArity func then s.spElts n (b.slot (2 + i)) f L else List.replicate L 0
      let y := List.zipWith (fun ab c => elemFn func ab.1 ab.2 c) ((x 0).zip (x 1)) (x 2)
      let poison := reads.any fun r => s.spPoisoned n r.1 r.2
      let t := (s.advance n w).countPoison n reads
      (t.putOut n p 0 (y.map f32Val) poison).brzStart n 7

/-- ELEM_ADD (R178). -/
def execElemAdd (n : LoomNo) (s : State) (evs : CycleEvs := {}) : Host.Outcome State Fault Refusal :=
  .next <| s.withEvents n evs fun s => s.elemIssue n 0
/-- ELEM_MUL (R178). -/
def execElemMul (n : LoomNo) (s : State) (evs : CycleEvs := {}) : Host.Outcome State Fault Refusal :=
  .next <| s.withEvents n evs fun s => s.elemIssue n 1
/-- ELEM_FMA (R178). -/
def execElemFma (n : LoomNo) (s : State) (evs : CycleEvs := {}) : Host.Outcome State Fault Refusal :=
  .next <| s.withEvents n evs fun s => s.elemIssue n 2
/-- ELEM_DIV (R178). -/
def execElemDiv (n : LoomNo) (s : State) (evs : CycleEvs := {}) : Host.Outcome State Fault Refusal :=
  .next <| s.withEvents n evs fun s => s.elemIssue n 3
/-- ELEM_RECIP (R178). -/
def execElemRecip (n : LoomNo) (s : State) (evs : CycleEvs := {}) : Host.Outcome State Fault Refusal :=
  .next <| s.withEvents n evs fun s => s.elemIssue n 4
/-- ELEM_RSQRT (R178). -/
def execElemRsqrt (n : LoomNo) (s : State) (evs : CycleEvs := {}) : Host.Outcome State Fault Refusal :=
  .next <| s.withEvents n evs fun s => s.elemIssue n 5
/-- ELEM_EXP2 (R178). -/
def execElemExp2 (n : LoomNo) (s : State) (evs : CycleEvs := {}) : Host.Outcome State Fault Refusal :=
  .next <| s.withEvents n evs fun s => s.elemIssue n 6
/-- ELEM_LOG2 (R178). -/
def execElemLog2 (n : LoomNo) (s : State) (evs : CycleEvs := {}) : Host.Outcome State Fault Refusal :=
  .next <| s.withEvents n evs fun s => s.elemIssue n 7

/-! ### EMBED (R180) -/

/-- Where an EMBED writes its rows that issued with its guard in a mode, inside an open span or not. -/
def embedPlan (mode : Nat) (span : Bool) (b : Block) : OutPlan :=
  { fmt := fmtUnder mode b, ex := expUnder mode b (b.slot 11), elem := b.slot 7, scale := b.slot 8, eStride := b.slot 9,
    sStride := b.slot 10, thr := none, olist := 0, olStride := 0, span }

/-- A token ID beyond the table (R180): a row of zeros marked poisoned, counted and recorded. -/
def State.embedOor (s : State) (n : Nat) (p : OutPlan) (r width : Nat) : State :=
  let s := (s.putOut n p r (List.replicate width (.fin false 0 0)) true).add (BRZ_CNT_EMBED_OOR_OOR n) 1
  (s.set (BRZ_ERR_EMBED_OOR n) 1).report (mkRec 6 n 0x100 1 none (s.stepOf n) 0 [])

/-- EMBED of row r (R180): the BF16 row of the table that the token ID names, times the scale with one rounding. -/
def embedRow (n : Nat) (b : Block) (p : OutPlan) (r : Nat) : Rd Unit :=
  let width := b.slot 5
  let ta := b.slot 1 + 4 * r
  rdBind (rdGet fun s => (leNat (s.spRead n ta 4), s.spPoisoned n ta 4)) fun tok =>
    if b.slot 4 ≤ tok.1 then rdMod fun s => s.embedOor n p r width
    else rdBind (rdRange n 5 0 (b.slot 2 + b.slot 3 * 2 ^ 32 + 2 * width * tok.1) (2 * width)) fun x =>
      rdMod fun s =>
        let vals := (elts false width x.data).map fun v => f32Val (fmul v (b.slot 6))
        s.putOut n p r vals (tok.2 || x.pois.any id)

/-- The whole of an EMBED: it writes and counts by the mode and the span in which its word issued (R188, R196), whenever its table's
rows come. -/
def embedRun (n : Nat) (p : Pend) : Rd Unit :=
  let b := blockOf p.block
  rdEach (embedRow n b (embedPlan p.mode p.span b)) (List.range (b.slot 0))

/-- EMBED (R180): its table reads are made as tenant 0 with class BULK (log 36). -/
def execEmbed (n : LoomNo) (s : State) (evs : CycleEvs := {}) : Host.Outcome State Fault Refusal :=
  .next <| s.withEvents n evs fun s => s.brzIssue n 5 0x0CF0 12 [1, 4, 5] fun w b =>
    let ids := (b.slot 1, 4 * b.slot 0)
    let p : Pend := { unit := 5, op := 5, arg := w.arg, block := s.blockBytes n w.arg, got := [], waiting := false, span := s.spanOpen n,
                      mode := s.get (GRD_STATUS_MODE n) }
    if !inSpad n (ids :: (embedPlan p.mode p.span b).ranges (b.slot 0) (b.slot 5)) then s.wordFault n 5 3
    else
      let t := ((s.advance n w).countPoison n [ids]).brzStart n 5
      t.runOp n 2 0 p (embedRun n p)

/-- BRZ_OP_DONE (R176): a Bronze operation other than a drain ends; an attention drain counts an operation drained, and an EMBED
that waits for a read goes on when its answer has come. -/
def execBrzOpDone (n : LoomNo) (s : State) : Host.Outcome State Fault Refusal :=
  .next <|
    if !s.is (BRZ_STATUS_BUSY n) || s.get (BRZ_STATUS_OP n) = 1 || s.still n then s
    else
      let s := match s.pendOf n 5 with
        | some p => if p.waiting then s else s.runOp n 2 0 p (embedRun n p)
        | none => s
      if (s.pendOf n 5).isSome then s
      else
        let s := if s.get (BRZ_STATUS_OP n) = 2 then s.add (ATT_CNT_OPS_OPS n) 1 else s
        (s.brzEnd n).settle n

end Sys2Proof.Machine
end

