-- ==== Sys2Proof/Machine/Attention.lean ====
section
/-! DEFINITION. The attention unit: scores by table products, the log-domain softmax, P·V in the log domain, and the attention
drain (R158 to R175). -/
namespace Sys2Proof.Machine

/-! ### Parameters (R158, R159) -/

/-- The parameters of a SCORE or PV block that SCORE latches (R158, R240). -/
def attParams (b : Block) : AttParams :=
  { qrows := b.slot 0, qgrp := b.slot 1, dh := b.slot 2, pages := b.slot 7, npages := b.slot 8, tenant := b.slot 9,
    layer := b.slot 10, kvHead := b.slot 11, causal := bitOf b.hdr 12, qpos0 := b.slot 12 }

/-- A parameter is out of range, or breaks the products of R158; OWIN serves PV alone (R159). -/
def attShapeBad (p : AttParams) (owin : Option Int) : Bool :=
  p.qrows = 0 || 256 < p.qrows || p.qgrp = 0 || 16 < p.qgrp || !(p.dh = 64 || p.dh = 128 || p.dh = 256)
    || 32768 < p.qrows * p.dh || p.npages = 0 || 64 < p.npages || 65536 < p.qrows * 64 * p.npages
    || 1024 ≤ p.tenant || 65536 ≤ p.layer || 256 ≤ p.kvHead
    || (match owin with | some w => decide (w < -256) || decide (255 < w) | none => false)

/-- SCALE is finite and greater than zero (R158). -/
def scaleOk (v : Nat) : Bool :=
  match f32Val v with
  | .fin false m _ => m != 0
  | _ => false

/-! ### KV pages (R63, R64, R160) -/

/-- Scratchpad addresses of the staged pages (R158). -/
def State.pageList (s : State) (n : Nat) (p : AttParams) : List Nat :=
  (chunks 4 p.npages (s.spRead n p.pages (4 * p.npages))).map leNat

/-- Offset of the page descriptor in its slot (R63). -/
def descOff (dh : Nat) : Nat := 68 * dh

/-- The status of one page (R160): the first check that fails, 0 for none. -/
def pageStatus (p : AttParams) (d : List Byte) (poison : Bool) : Nat :=
  let h := leAt d 0 8
  if pageRefused d then 1
  else if bits h 8 2 = 3 || 64 * 2 ^ bits h 8 2 != p.dh then 2
  else if bits h 16 16 != p.layer || bits h 32 8 != p.kvHead then 3
  else if bits h 48 10 != p.tenant then 4
  else if bitOf h 10 || bitOf h 11 then 5
  else if leAt d 32 2 != 0 || leAt d 34 2 != 0 then 6
  else if poison then 7
  else 0

/-- The first page that fails the checks of R160, and its status. -/
def firstPage : Nat → List Nat → Option (Nat × Nat)
  | _, [] => none
  | i, c :: t => if c != 0 then some (i, c) else firstPage (i + 1) t

/-- One plane of a page with its scales (R63): by token slot, the codes and the scale codes; `hi` selects V. -/
def State.pagePlane (s : State) (n dh a : Nat) (hi : Bool) : List (List Nat × List Nat) :=
  let e := nibbles (s.spRead n (a + if hi then 32 * dh else 0) (32 * dh))
  let sc := (s.spRead n (a + if hi then 66 * dh else 64 * dh) (2 * dh)).map (·.toNat)
  (chunks dh 64 e).zip (chunks (dh / 32) 64 sc)

/-- The ranges of one plane of a page with its scales. -/
def planeRanges (dh a : Nat) (hi : Bool) : List (Nat × Nat) :=
  if hi then [(a + 32 * dh, 32 * dh), (a + 66 * dh, 2 * dh)] else [(a, 32 * dh), (a + 64 * dh, 2 * dh)]

/-- A key slot is excluded from a query row (R164). -/
def excluded (p : AttParams) (d : List Byte) (r t : Nat) : Bool :=
  !bitOf (leAt d 16 8) t || bitOf (leAt d 24 8) t || (p.causal && decide (p.qpos0 + r / p.qgrp < leAt d 12 4 + t))

/-! ### Scores (R162, R163) -/

/-- One block of a score (R163): its exact product sum and exponent, and how many of its two blocks read scale 0xFF. -/
def scoreBlock (q k : List Nat) (eq ek : Nat) : Int × Int × Nat :=
  if eq = 255 || ek = 255 then (0, -512, b2n (eq == 255) + b2n (ek == 255))
  else ((List.zipWith ptEntry q k).sum, (eq : Int) + ek - 256, 0)

/-- The largest score (R163). -/
def scoreMax : Int := 8388607

/-- The score of a query row and a key slot, and what it counts (R163, R192). -/
def scoreOf (q qs k ks : List Nat) (scale : FVal) : Int × Counts :=
  let nb := qs.length
  let bl := (List.zipWith (fun (a b : List Nat × Nat) => scoreBlock a.1 b.1 a.2 b.2)
    ((chunks 32 nb q).zip qs) ((chunks 32 nb k).zip ks))
  let emax := bl.foldl (fun m b => max m b.2.1) (-512)
  let xs := bl.map fun b => (shiftFloor b.1 (b.2.1 - emax), b.1, decide (b.2.1 < emax))
  let zeros := xs.countP fun x => x.2.1 != 0 && (x.1 == 0 || x.1 == -1) && x.2.2
  let nans := 32 * (bl.map fun b => b.2.2).sum
  let (z, sat) : Int × Bool := match f32Val (f32Of (mulVal (intVal (xs.map Prod.fst).sum emax) scale)) with
    | .nan => (0, false)
    | .inf neg => (if neg then -scoreMax else scoreMax, true)
    | .fin neg m e =>
      let v : Int := rheDy m (e + 7)
      if scoreMax < v then (if neg then -scoreMax else scoreMax, true) else (if neg then -v else v, false)
  (z, { asat := nans, avals := nans, csat := b2n sat, czero := zeros, cterms := nb })

/-! ### The log-sum (R165 to R168) -/

/-- Approximate log-domain addition (R165); none is minus infinity. DESIGN CHOICE (log 130): a sum above the largest score, which
scores at that bound can form, stays the exact integer; the spec gives the sum 24 bits and says neither wrap nor saturation. -/
def logadd : Option Int → Option Int → Option Int
  | none, b => b
  | a, none => a
  | some a, some b => some (max a b + (corrTable.getD ((a - b).natAbs / 16) 0 : Nat))

/-- One level of a pairwise tree; an unpaired last result passes up (R168). -/
def logPairs : List (Option Int) → List (Option Int)
  | a :: b :: t => logadd a b :: logPairs t
  | l => l

/-- A pairwise tree over k levels (R168). -/
def logTree : Nat → List (Option Int) → Option Int
  | 0, l => l.headD none
  | k + 1, l => logTree k (logPairs l)

/-- The larger of two maxima (R165). -/
def maxOpt : Option Int → Option Int → Option Int
  | none, b => b
  | a, none => a
  | some a, some b => some (max a b)

/-! ### SCORE -/

/-- What SCORE has formed of one query row: its codes and scales, whether it is poisoned, its scores so far in slot order,
and its log-sum page by page. -/
structure ScoreRow where
  q : List Nat
  qs : List Nat
  poison : Bool
  zs : List (Option Int)
  tree : List (Option Int)

/-- Query row r (R158, R62). -/
def State.queryRow (s : State) (n : Nat) (b : Block) (dh r : Nat) : ScoreRow :=
  let ea := b.slot 3 + r * b.slot 5
  let sa := b.slot 4 + r * b.slot 6
  { q := nibbles (s.spRead n ea (dh / 2)), qs := (s.spRead n sa (dh / 32)).map (·.toNat),
    poison := s.spPoisoned n ea (dh / 2) || s.spPoisoned n sa (dh / 32), zs := [], tree := [] }

/-- Score one row against one page (R163, R164, R168): the row's new state, its counts, and its exclusions. -/
def scorePage (p : AttParams) (scale : FVal) (d : List Byte) (ks : List (List Nat × List Nat)) (r : Nat) (row : ScoreRow) :
    ScoreRow × Counts × Nat :=
  let res := ((List.range 64).zip ks).map fun e =>
    if excluded p d r e.1 then none else some (scoreOf row.q row.qs e.2.1 e.2.2 scale)
  let zs := res.map fun x => x.map Prod.fst
  ({ row with zs := row.zs ++ zs, tree := row.tree ++ [logTree 6 zs] },
    if row.poison then {} else sumCounts (res.filterMap fun x => x.map Prod.snd), res.countP Option.isNone)

/-- Score every row against the pages in list order, until one is poisoned (R161). DESIGN CHOICE (log 131): a plane is looked at whole
before its first slot counts, so a page that turns out poisoned adds nothing to EXCL or the guard. -/
def State.scorePages (s : State) (n : Nat) (p : AttParams) (scale : FVal) : Nat → List Nat → List ScoreRow → State × List ScoreRow
  | _, [], rows => (s, rows)
  | i, a :: t, rows =>
    let rd := planeRanges p.dh a false
    let s := s.dataReads n 4 rd
    if rd.any fun r => s.spPoisoned n r.1 r.2 then ((s.set (ATT_STS_STS n) 7).set (ATT_STS_PAGE n) i, rows)
    else
      let d := s.spRead n (a + descOff p.dh) 64
      let ks := s.pagePlane n p.dh a false
      let res := ((List.range rows.length).zip rows).map fun e => scorePage p scale d ks e.1 e.2
      let s := s.add (ATT_CNT_EXCL_EXCL n) (res.map fun x => x.2.2).sum
      let s := s.guardCount n (sumCounts (res.map fun x => x.2.1))
      s.scorePages n p scale (i + 1) t (res.map Prod.fst)

/-- What the attention unit holds after SCORE (R158, R165, R168). -/
def attAfterScore (p : AttParams) (rows : List ScoreRow) : Att :=
  { params := some p
    scores := rows.map (·.zs)
    m := rows.map fun r => r.zs.foldl maxOpt none
    l := rows.map fun r => logTree 6 r.tree
    rowPoison := rows.map (·.poison) }

/-- A phase of the attention unit is under way (R185). -/
def State.attStart (s : State) (n phase : Nat) : State := (s.set (ATT_STATUS_PHASE n) phase).set (ATT_STATUS_BUSY n) 1

/-- Read an ATT word's block (R240). -/
def State.attIssue (s : State) (n op : Nat) (k : DWord → Block → State) : State :=
  s.issue n 4 op fun w =>
    let b := blockOf (s.blockBytes n w.arg)
    if s.blockMisplaced n w.arg || blockBad b 0x1CF0 15 then s.wordFault n 4 3 else k w b

/-- SCORE (R158 to R168). -/
def execScore (n : LoomNo) (s : State) (evs : CycleEvs := {}) : Host.Outcome State Fault Refusal :=
  .next <| s.withEvents n evs fun s => s.attIssue n 0 fun w b =>
    let p := attParams b
    let reads := [rowsRange (b.slot 3) (b.slot 5) p.qrows (p.dh / 2), rowsRange (b.slot 4) (b.slot 6) p.qrows (p.dh / 32),
      (p.pages, 4 * p.npages)]
    if attShapeBad p none then s.engineFault n 4 (ATT_ERR_SHAPE n)
    else if !scaleOk (b.slot 13) then s.engineFault n 4 (ATT_ERR_SCALE_BAD n)
    else if s.is (ATT_STATUS_PV_DONE n) then s.engineFault n 4 (ATT_ERR_ORDER n)
    else if !inSpad n reads then s.wordFault n 4 3
    else
      let pages := s.pageList n p
      let descs := pages.map fun a => (a + descOff p.dh, 64)
      let rows := rowReads (b.slot 3) (b.slot 5) p.qrows (p.dh / 2) ++ rowReads (b.slot 4) (b.slot 6) p.qrows (p.dh / 32)
      let t := ((s.advance n w).countPoison n (rows ++ [(p.pages, 4 * p.npages)])).dataReads n 4 descs
      let t := match firstPage 0 (descs.map fun r => pageStatus p (s.spRead n r.1 64) (s.spPoisoned n r.1 64)) with
        | some (i, c) => (((t.set (ATT_STS_STS n) c).set (ATT_STS_PAGE n) i).modAtt n fun _ => attAfterScore p [])
        | none =>
          let t := (t.set (ATT_STS_STS n) 0).set (ATT_STS_PAGE n) 0
          let rows := (List.range p.qrows).map fun r => s.queryRow n b p.dh r
          let (t, rows) := t.scorePages n p (f32Val (b.slot 13)) 0 pages rows
          t.modAtt n fun _ => attAfterScore p rows
      t.attStart n 0

/-! ### PV (R169 to R171) -/

/-- The LOG8 magnitude of a score relative to the row's maximum (R169). -/
def probCode (m z : Int) : Nat := log8Field (m - z) 16

/-- One slot's terms into a row's outputs (R171): the outputs, and what they count. -/
def pvSlot (owin : Int) (c : Nat) (v vs : List Nat) (o : List Int) : List Int × Counts :=
  let f : Int := fracq (c % 8)
  let res := (((List.range v.length).zip v).zip o).map fun e =>
    let E := vs.getD (e.1.1 / 32) 0
    let p := if E = 255 then 0 else f * fp4Int e.1.2
    let (x, z) := alignTerm p ((E : Int) - 128 - 15 - ((c / 8 : Nat) : Int) - owin)
    let (y, sat) := satAcc (e.2 + x)
    (y, b2n sat, b2n z)
  let nans := 32 * vs.countP (· == 255)
  (res.map Prod.fst, { asat := nans, avals := nans, csat := (res.map fun x => x.2.1).sum, czero := (res.map fun x => x.2.2).sum,
                       cterms := v.length })

/-- A row's outputs and mass with what they have counted, and the zeroed probabilities. -/
structure PvRow where
  o : List Int
  sump : Nat
  counts : Counts
  pzero : Nat

/-- One row against one page of V (R169, R171). -/
def pvPage (owin : Int) (m : Int) (vp : List (List Nat × List Nat)) (zs : List (Option Int)) (row : PvRow) : PvRow :=
  (zs.zip vp).foldl (fun row e => match e.1 with
    | none => row
    | some z =>
      let c := probCode m z
      if 127 ≤ c then { row with pzero := row.pzero + 1 }
      else
        let (o, k) := pvSlot owin c e.2.1 e.2.2 row.o
        { row with o, sump := row.sump + fracq (c % 8) / 2 ^ (c / 8), counts := addCounts row.counts k }) row

/-- Every row against the pages in list order, until one is poisoned (R161); a poisoned query row takes no part. DESIGN CHOICE (log
131): a plane is looked at whole before its first slot counts, so a page that turns out poisoned adds nothing to PZERO or the guard. -/
def State.pvPages (s : State) (n : Nat) (a : Att) (owin : Int) (dh : Nat) : Nat → List Nat → List PvRow → State × List PvRow
  | _, [], rows => (s, rows)
  | i, pg :: t, rows =>
    let rd := planeRanges dh pg true
    let s := s.dataReads n 4 rd
    if rd.any fun r => s.spPoisoned n r.1 r.2 then ((s.set (ATT_STS_STS n) 7).set (ATT_STS_PAGE n) i, rows)
    else
      let vp := s.pagePlane n dh pg true
      let rows := ((List.range rows.length).zip rows).map fun e =>
        match a.m.getD e.1 none with
        | none => e.2
        | some m => if a.rowPoison.getD e.1 false then e.2
                    else pvPage owin m vp (((a.scores.getD e.1 []).drop (64 * i)).take 64) e.2
      s.pvPages n a owin dh (i + 1) t rows

/-- What a row's outputs and mass hold as PV begins: what ADRAIN has not cleared (R171, R191), as integers of this PV's window. -/
def Att.heldRow (a : Att) (dh r : Nat) : PvRow :=
  let o := a.o.getD r []
  ⟨if o.length = dh then o else List.replicate dh 0, a.sump.getD r 0, {}, 0⟩

/-- PV (R158, R159, R161, R169 to R171). -/
def execPv (n : LoomNo) (s : State) (evs : CycleEvs := {}) : Host.Outcome State Fault Refusal :=
  .next <| s.withEvents n evs fun s => s.attIssue n 1 fun w b =>
    let p := attParams b
    let owin := toSigned 32 (b.slot 14)
    let a := (s.lm n).att
    if attShapeBad p (some owin) then s.engineFault n 4 (ATT_ERR_SHAPE n)
    else if !s.is (ATT_STATUS_SCORED n) then s.engineFault n 4 (ATT_ERR_ORDER n)
    else if a.params != some p then s.engineFault n 4 (ATT_ERR_SHAPE n)
    else if !inSpad n [(p.pages, 4 * p.npages)] then s.wordFault n 4 3
    else
      let t := (s.advance n w).countPoison n [(p.pages, 4 * p.npages)]
      let t := if s.get (ATT_STS_STS n) != 0 then t
        else
          let win := s.adjustWin n owin
          let rows := (List.range p.qrows).map fun r => a.heldRow p.dh r
          let (t, rows) := t.pvPages n a win p.dh 0 (s.pageList n p) rows
          let t := (t.add (ATT_CNT_PZERO_PZERO n) (rows.map (·.pzero)).sum).guardCount n (sumCounts (rows.map (·.counts)))
          t.modAtt n fun a => { a with o := rows.map (·.o), sump := rows.map (·.sump), owin := win }
      t.attStart n 1

/-- ATT_PHASE_DONE (R175, R185): the phase under way ends. -/
def execAttPhaseDone (n : LoomNo) (s : State) : Host.Outcome State Fault Refusal :=
  .next <|
    if !s.is (ATT_STATUS_BUSY n) || s.still n then s
    else
      let s := if s.is (ATT_STATUS_PHASE n) then s.set (ATT_STATUS_PV_DONE n) 1 else s.set (ATT_STATUS_SCORED n) 1
      (s.set (ATT_STATUS_BUSY n) 0).settle n

/-! ### ADRAIN (R161, R172, R173) -/

/-- The outputs and the LSE of one row (R172, R173): exact or FP32 values. -/
def adrainRow (a : Att) (dh r : Nat) : List FVal × FVal :=
  let sump := a.sump.getD r 0
  let lse := match a.l.getD r none with
    | none => FVal.inf true
    | some l => intVal l (-7)
  if sump = 0 then (List.replicate dh (.fin false 0 0), lse)
  else
    let den := f32Of (.fin false sump (-15))
    (((a.o.getD r []).take dh).map fun o => f32Val (fdiv32 (f32Of (accVal o a.owin)) den), lse)

/-- ADRAIN (R172): every row's outputs and LSE are written, and O, SUMP, SCORED and PV_DONE are cleared. -/
def execAdrain (n : LoomNo) (s : State) (evs : CycleEvs := {}) : Host.Outcome State Fault Refusal :=
  .next <| s.withEvents n evs fun s => s.issue n 5 1 fun w =>
    let b := blockOf (s.blockBytes n w.arg)
    let fmtOk := [1, 4, 5].contains (bits b.hdr 4 4)
    let a := (s.lm n).att
    match a.params with
    | none => if s.blockMisplaced n w.arg || blockBad b 0x0CF0 6 || !fmtOk then s.wordFault n 5 3
              else s.engineFault n 5 (ATT_ERR_ORDER n)
    | some p =>
      let out : OutPlan :=
        { fmt := s.outFmt n b, ex := s.expRule n b (b.slot 5), elem := b.slot 0, scale := b.slot 1, eStride := b.slot 2,
          sStride := b.slot 3, thr := none, olist := 0, olStride := 0, span := s.spanOpen n }
      if s.blockMisplaced n w.arg || blockBad b 0x0CF0 6 || !fmtOk then s.wordFault n 5 3
      else if !s.is (ATT_STATUS_PV_DONE n) then s.engineFault n 5 (ATT_ERR_ORDER n)
      else if !inSpad n (out.ranges p.qrows p.dh ++ [(b.slot 4, 4 * p.qrows)]) then s.wordFault n 5 3
      else
        let sts := s.get (ATT_STS_STS n)
        let t := s.advance n w
        let t := (List.range p.qrows).foldl (fun t r =>
          let bad := sts != 0 || a.rowPoison.getD r false
          let (vals, lse) := if bad then (List.replicate p.dh (.fin false 0 0), FVal.inf true) else adrainRow a p.dh r
          let l := f32Of lse
          ((t.putOut n out r vals bad).spWrite n (b.slot 4 + 4 * r) (leBytes 4 l) bad).countSpecial n [l]) t
        let t := if sts = 0 then t
          else (t.add (ATT_CNT_REFUSED_REFUSED n) 1).report (mkRec 5 n (0x200 + sts) 1 none (s.stepOf n) p.tenant [])
        let t := t.modAtt n fun a => { a with o := [], sump := [] }
        (((t.set (ATT_STATUS_SCORED n) 0).set (ATT_STATUS_PV_DONE n) 0).brzStart n 2)

end Sys2Proof.Machine
end

