-- ==== Sys2Proof/Machine/Bobbin.lean ====
section
/-! DEFINITION. The Bobbin: pseudo-random streams, and the operations that estimate dot products with them (R207 to R227). -/
namespace Sys2Proof.Machine

/-! ### Generators (R208 to R211) -/

/-- One generator step (R209): the bit out and the next state. -/
def genStep (st poly : Nat) : Nat × Nat :=
  let o := st / 2 ^ 31 % 2
  (o, (2 * st % 2 ^ 32) ^^^ (if o = 1 then poly else 0))

/-- k generator steps: the bits from position i on added to `acc`, and the next state. -/
def genSteps (poly : Nat) : Nat → Nat → Nat → Nat → Nat × Nat
  | 0, _, st, acc => (acc, st)
  | k + 1, i, st, acc => let (o, st) := genStep st poly; genSteps poly k (i + 1) st (acc + o * 2 ^ i)

/-- The cycle word of every generator in one streaming cycle, and their next states (R209, R211). -/
def cycleWords (gens : List Nat) : List Nat × List Nat :=
  (((List.range gens.length).zip gens).map fun e => genSteps (bobPoly e.1) 32 0 e.2 0).unzip

/-- The cycle words of k streaming cycles, and the states after them. -/
def streamWords : Nat → List Nat → List (List Nat) × List Nat
  | 0, gens => ([], gens)
  | k + 1, gens =>
    let (w, gens) := cycleWords gens
    let (ws, gens) := streamWords k gens
    (w :: ws, gens)

/-- The seed of generator g (R210). -/
def genSeed (seed g : Nat) : Nat :=
  let v := seed ^^^ (0x9E3779B9 * (g + 1) % 2 ^ 32)
  if v = 0 then 1 else v

/-! ### Descriptor (R221, R222) -/

/-- The fields of a Bobbin descriptor (R221). -/
structure BobDesc where
  op : Nat
  fmt : Nat
  out : Nat
  log2l : Nat
  genA : Nat
  genB : Nat
  rows : Nat
  bwin : Int
  seed : Nat
  k : Nat
  n : Nat
  bwin2 : Int
  rank : Nat
  thresh : Nat
  aElem : Nat
  aScale : Nat
  wb : Nat
  w2 : Nat
  outAddr : Nat
  aEs : Nat
  aSs : Nat
  bEs : Nat
  bSs : Nat
  outStride : Nat
  deriving DecidableEq, Repr

/-- The fields of 64 bytes; strides in bytes. -/
def bobDesc (l : List Byte) : BobDesc :=
  let h := leAt l 0 8
  { op := bits h 4 3, fmt := bits h 8 4, out := bits h 12 2, log2l := bits h 16 4, genA := bits h 24 6, genB := bits h 32 6,
    rows := bits h 40 5, bwin := toSigned 9 (bits h 48 9), seed := leAt l 8 4, k := leAt l 12 2, n := leAt l 14 2,
    bwin2 := toSigned 9 (leAt l 16 2 % 512), rank := leAt l 18 2 % 512, thresh := leAt l 20 2, aElem := leAt l 24 4,
    aScale := leAt l 28 4, wb := leAt l 32 4, w2 := leAt l 36 4, outAddr := leAt l 40 4, aEs := 64 * leAt l 44 2,
    aSs := 64 * leAt l 46 2, bEs := 64 * leAt l 48 2, bSs := 64 * leAt l 50 2, outStride := 64 * leAt l 52 2 }

/-- A reserved field of the descriptor is nonzero (R221). -/
def bobReserved (l : List Byte) : Bool :=
  let h := leAt l 0 8
  bitOf h 7 || bits h 14 2 != 0 || bits h 20 4 != 0 || bits h 30 2 != 0 || bits h 38 2 != 0 || bits h 45 3 != 0
    || bits h 57 7 != 0 || bits (leAt l 16 2) 9 7 != 0 || bits (leAt l 18 2) 9 7 != 0 || leAt l 22 2 != 0
    || !allZero (l.drop 54)

/-- Blocks of K elements. -/
def BobDesc.nb (d : BobDesc) : Nat := ceilDiv d.k 32
/-- Output groups. -/
def BobDesc.ng (d : BobDesc) : Nat := ceilDiv d.n 128
/-- Outputs of a row: one for SDOT. -/
def BobDesc.outs (d : BobDesc) : Nat := if d.op = 2 then 1 else d.n
/-- Bytes of an output row (R221). -/
def BobDesc.outLen (d : BobDesc) : Nat :=
  if d.out = 2 then ceilDiv d.outs 8 else if d.out = 1 then 4 * d.outs else 2 * d.outs

/-- The ranges that an operation reads. -/
def BobDesc.reads (d : BobDesc) : List (Nat × Nat) :=
  let a := [rowsRange d.aElem d.aEs d.rows (16 * d.nb), rowsRange d.aScale d.aSs d.rows d.nb]
  if d.op = 0 then a ++ [(d.wb, d.ng * d.nb * 832)]
  else if d.op = 1 then a ++ [(d.wb, ceilDiv d.rank 128 * d.nb * 832), (d.w2, d.ng * (d.rank / 32) * 832)]
  else a ++ [rowsRange d.wb d.bEs d.rows (16 * d.nb), rowsRange d.w2 d.bSs d.rows d.nb]

/-- The words that an operation reads (R223): its operand rows and its tiles, not what lies between them. -/
def BobDesc.words (d : BobDesc) : List (Nat × Nat) :=
  let rows (e eStride c cStride : Nat) : List (Nat × Nat) :=
    (List.range d.rows).flatMap fun r => [(e + r * eStride, 16 * d.nb), (c + r * cStride, d.nb)]
  let tiles (base k : Nat) : List (Nat × Nat) := (List.range k).map fun i => (base + i * 832, 820)
  rows d.aElem d.aEs d.aScale d.aSs ++
    if d.op = 0 then tiles d.wb (d.ng * d.nb)
    else if d.op = 1 then tiles d.wb (ceilDiv d.rank 128 * d.nb) ++ tiles d.w2 (d.ng * (d.rank / 32))
    else rows d.wb d.bEs d.w2 d.bSs

/-- Loom cycles of a PRED before its second stage (R224). -/
def BobDesc.toStage2 (d : BobDesc) : Nat :=
  16 + ceilDiv d.rank 128 * (103 + d.nb * max (d.rows * (2 ^ d.log2l / 8)) 103) + 8

/-- A field is out of range, or zero where it must not be (R222). -/
def bobRangeBad (n : Nat) (d : BobDesc) : Bool :=
  2 < d.op || !(d.fmt = 1 || d.fmt = 2) || d.out = 3 || (d.op = 1 && d.out != 2) || (d.op = 2 && d.out = 2)
    || d.log2l < 6 || 12 < d.log2l || (d.op != 2 && d.genB != 0) || d.rows = 0 || 16 < d.rows || d.k = 0 || 32768 < d.k
    || (if d.op = 2 then d.n != 0 else d.n = 0 || 32768 < d.n) || (d.op != 1 && (d.bwin2 != 0 || d.rank != 0))
    || (d.op = 1 && (d.rank < 32 || 256 < d.rank || d.rank % 32 != 0)) || (d.out = 2 && bits d.thresh 7 8 = 255)
    || (d.op = 0 && d.w2 != 0) || [d.aElem, d.aScale, d.wb, d.w2, d.outAddr].any (· % 64 != 0)
    || !inSpad n (rowsRange d.outAddr d.outStride d.rows d.outLen :: d.reads)

/-- The fault status of a descriptor at a scratchpad address (R222): 0 for none. -/
def bobCheck (n addr : Nat) (l : List Byte) : Nat :=
  if addr % 64 != 0 || spadSize n < addr + 64 then 4
  else if leAt l 0 1 % 16 != 2 then 2
  else if bobReserved l then 3
  else if bobRangeBad n (bobDesc l) then 4
  else 0

/-! ### Streaming (R213 to R216) -/

/-- What an operation has done so far: the generators, BACC, saturated updates, streaming cycles, blocks read with scale
code 0xFF. -/
structure BobRun where
  gens : List Nat
  bacc : List (List Int)
  sat : Nat
  stream : Nat
  nans : Nat

/-- The array integers of a block, zero where its scale code is 0xFF (R213). -/
def bobInts (fmt : Nat) (codes : List Nat) (e : Nat) : List Int :=
  if e = 255 then List.replicate 32 0 else codes.map fun c => if fmt = 1 then fp4Int c else int4Int c

/-- Nibbles lo to lo + k - 1 of a cycle word that lie below m, as bits in nibble order (R213, R214). -/
def drawBits (w lo k m : Nat) : List Bool := (List.range k).map fun q => decide (bits w (4 * (lo + q)) 4 < m)

/-- Stream bits of element j over the cycles (R214). -/
def eltStream (ws : List (List Nat)) (gen j lo k m : Nat) : List Bool :=
  ws.flatMap fun w => drawBits (w.getD ((gen + j) % 64) 0) lo k m

/-- The signed count of each element of a block in TDOT and PRED (R215). -/
def eltCounts (ws : List (List Nat)) (genA : Nat) (a : List Int) : List Int :=
  ((List.range a.length).zip a).map fun e => e.2.sign * ((eltStream ws genA e.1 0 8 e.2.natAbs).countP id : Nat)

/-- The signed count of a block in SDOT (R216). -/
def pairCount (ws : List (List Nat)) (genA genB : Nat) (a b : List Int) : Int :=
  (((List.range a.length).zip (a.zip b)).map fun e =>
    let both := (eltStream ws genA e.1 0 4 e.2.1.natAbs).zip (eltStream ws genB e.1 4 4 e.2.2.natAbs)
    e.2.1.sign * e.2.2.sign * ((both.countP fun x => x.1 && x.2 : Nat) : Int)).sum

/-- Add an aligned count to an accumulator (R215): the new value and whether it saturated. -/
def bobAdd (acc c s : Int) : Int × Bool := satAcc (acc + shiftFloor c s)

/-- The trits of a Bobbin tile by output column (R220). -/
def bobTile (l : List Byte) : List (List Int) :=
  let t := unpackTrits 4096 l
  (List.range 128).map fun c => (List.range 32).map fun j => t.getD (128 * j + c) 0

/-- Stream row r of a block against a tile (R215). -/
def tdotRow (log2l genA : Nat) (win : Int) (tile : List (List Int)) (r : Nat) (a : List Int) (e : Nat) (x : BobRun) : BobRun :=
  let cyc := 2 ^ log2l / 8
  let (ws, gens) := streamWords cyc x.gens
  let cs := eltCounts ws genA a
  let s : Int := (e : Int) - 127 - 1 + 4 - log2l - win
  let res := List.zipWith (fun acc col => bobAdd acc (List.zipWith (· * ·) col cs).sum s) (x.bacc.getD r []) tile
  { gens, bacc := x.bacc.set r (res.map Prod.fst), sat := x.sat + res.countP Prod.snd, stream := x.stream + cyc,
    nans := x.nans + b2n (e == 255) }

/-- One TDOT stage (R215, R218). DESIGN CHOICE (log 133): a block with scale code 0xFF counts its 32 values each time that it is streamed,
once for every output group. For every output group, its accumulators by row. `rows` holds, by row and block, the array
integers and the scale code; `tile g b` is a tile with weights at or beyond K and N taken as zero. -/
def tdotStage (log2l genA : Nat) (win : Int) (rows : List (List (List Int × Nat))) (tile : Nat → Nat → List (List Int)) (nb : Nat) :
    List Nat → BobRun → List (List (List Int)) × BobRun
  | [], x => ([], x)
  | g :: t, x =>
    let x := { x with bacc := List.replicate 16 (List.replicate 128 0) }
    let x := (List.range nb).foldl (fun x b =>
      ((List.range rows.length).zip rows).foldl (fun x e =>
        let blk := e.2.getD b ([], 0)
        tdotRow log2l genA win (tile g b) e.1 blk.1 blk.2 x) x) x
    let (rest, x') := tdotStage log2l genA win rows tile nb t x
    (x.bacc :: rest, x')

/-- The first `n` outputs of row r from the accumulators of its groups. -/
def groupRow (groups : List (List (List Int))) (n r : Nat) : List Int := (groups.flatMap fun g => g.getD r []).take n

/-- Row r of an operand as blocks of array integers with their scale codes (R62, R213); a poisoned block, whose outputs are poisoned
whatever it holds (R223), counts nothing (R512). -/
def State.bobRow (s : State) (n fmt elem scale nb : Nat) : List (List Int × Nat) :=
  let codes := chunks 32 nb (nibbles (s.spRead n elem (16 * nb)))
  ((List.range nb).zip (codes.zip ((s.spRead n scale nb).map (·.toNat)))).map fun e =>
    if s.spPoisoned n (elem + 16 * e.1) 16 || s.spPoisoned n (scale + e.1) 1 then (List.replicate 32 0, 0)
    else (bobInts fmt e.2.1 e.2.2, e.2.2)

/-- A block of the operation's operands has a clean scale code 0xFF (R213), whether or not its elements are poisoned. -/
def State.bobScaleNan (s : State) (n : Nat) (d : BobDesc) : Bool :=
  let row (a : Nat) : Bool := (List.range d.nb).any fun b => !s.spPoisoned n (a + b) 1 && s.spRead n (a + b) 1 == [0xFF]
  (List.range d.rows).any fun r => row (d.aScale + r * d.aSs) || (d.op == 2 && row (d.w2 + r * d.bSs))

/-- The tile of block b and group g, with weight rows at or beyond `k` and outputs at or beyond `outs` zero (R215, R220). -/
def State.bobTileAt (s : State) (n base nb k outs g b : Nat) : List (List Int) :=
  ((List.range 128).zip (bobTile (s.spRead n (base + (g * nb + b) * 832) 820))).map fun e =>
    ((List.range 32).zip e.2).map fun x => if 128 * g + e.1 < outs && 32 * b + x.1 < k then x.2 else 0

/-- An exact value is greater than another. -/
def valGt (a b : FVal) : Bool :=
  match addVal a (negVal b) with
  | .fin false m _ => m != 0
  | _ => false

/-- An output row as bytes (R219, R221): `poison` writes zeros, or ones for MASK (R223). -/
def bobOut (d : BobDesc) (win : Int) (poison : Bool) (row : List Int) : List Byte :=
  if d.out = 2 then
    leBytes d.outLen ((((List.range row.length).zip row).map fun e =>
      if poison || valGt (accVal e.2 win) (bf16Val d.thresh) then 2 ^ e.1 else 0).sum)
  else if d.out = 1 then row.flatMap fun a => leBytes 4 (if poison then 0 else f32Of (accVal a win))
  else row.flatMap fun a => leBytes 2 (if poison then 0 else bf16Of (accVal a win))

/-- Quantise the stage-1 outputs of a row to FP4 blocks (R218): codes and scale codes. -/
def bobMid (win : Int) (row : List Int) : List Nat × List Nat :=
  let q := quantRow 1 none none (row.map fun a => accVal a win)
  (nibbles q.elems, q.scales.map (·.toNat))

/-- The blocks of an intermediate row. -/
def midBlocks (m : List Nat × List Nat) : List (List Int × Nat) :=
  ((chunks 32 m.2.length m.1).zip m.2).map fun e => (bobInts 1 e.1 e.2, e.2)

/-- What an operation makes of its operands: its output accumulators by row, the window of its outputs, the intermediate
rows, and how it ran (R215 to R218). -/
def State.bobRun (s : State) (n : Nat) (d : BobDesc) (x : BobRun) : List (List Int) × Int × List (List Nat × List Nat) × BobRun :=
  let rows := (List.range d.rows).map fun r => s.bobRow n d.fmt (d.aElem + r * d.aEs) (d.aScale + r * d.aSs) d.nb
  if d.op = 0 then
    let (gs, x) := tdotStage d.log2l d.genA d.bwin rows (s.bobTileAt n d.wb d.nb d.k d.n) d.nb (List.range d.ng) x
    ((List.range d.rows).map (groupRow gs d.n), d.bwin, [], x)
  else if d.op = 1 then
    let (gs, x) := tdotStage d.log2l d.genA d.bwin rows (s.bobTileAt n d.wb d.nb d.k d.rank) d.nb
      (List.range (ceilDiv d.rank 128)) x
    let mid := (List.range d.rows).map fun r => bobMid d.bwin (groupRow gs d.rank r)
    let (gs, x) := tdotStage d.log2l d.genA d.bwin2 (mid.map midBlocks) (s.bobTileAt n d.w2 (d.rank / 32) d.rank d.n)
      (d.rank / 32) (List.range d.ng) x
    ((List.range d.rows).map (groupRow gs d.n), d.bwin2, mid, x)
  else
    let bs := (List.range d.rows).map fun r => s.bobRow n d.fmt (d.wb + r * d.bEs) (d.w2 + r * d.bSs) d.nb
    let x := { x with bacc := List.replicate 16 (List.replicate 128 0) }
    let x := ((List.range d.rows).zip (rows.zip bs)).foldl (fun x e =>
      (e.2.1.zip e.2.2).foldl (fun x ab =>
        let cyc := 2 ^ d.log2l / 4
        let (ws, gens) := streamWords cyc x.gens
        let nan := ab.1.2 = 255 || ab.2.2 = 255
        let c := if nan then 0 else pairCount ws d.genA d.genB ab.1.1 ab.2.1
        let sh : Int := (ab.1.2 : Int) - 127 + ((ab.2.2 : Int) - 127) - 2 + 8 - d.log2l - d.bwin
        let row := x.bacc.getD e.1 []
        let (v, sat) := bobAdd (row.getD 0 0) c sh
        { gens, bacc := x.bacc.set e.1 (row.set 0 v), sat := x.sat + b2n sat, stream := x.stream + cyc,
          nans := x.nans + b2n (ab.1.2 == 255) + b2n (ab.2.2 == 255) }) x) x
    ((List.range d.rows).map fun r => ((x.bacc.getD r []).take 1), d.bwin, [], x)

/-- Show the generators' states (R227). -/
def State.putGens (s : State) (n : Nat) (gens : List Nat) : State :=
  ((List.range gens.length).zip gens).foldl (fun s e => s.set (BOB_STATE_STATE n e.1) e.2) s

/-- Write the operation's output rows (R221). -/
def State.bobWrite (s : State) (n : Nat) (d : BobDesc) (win : Int) (poison : Bool) (rows : List (List Int)) : State :=
  ((List.range rows.length).zip rows).foldl (fun s e =>
    s.spWrite n (d.outAddr + e.1 * d.outStride) (bobOut d win poison e.2) poison) s

/-- A BOB word whose descriptor names operation `op` (R207, R217, R222, R223). -/
def State.bobIssue (s : State) (n op : Nat) : State :=
  s.issue n 6 0 fun w =>
    let l := s.spRead n w.arg 64
    let d := bobDesc l
    let sts := bobCheck n w.arg l
    if w.arg % 64 = 0 && w.arg + 64 ≤ spadSize n && d.op ≤ 2 && d.op != op then s
    else if sts != 0 then (s.set (BOB_STS_STS n) sts).engineFault n 6 (BOB_ERR_DESC n)
    else
      let gens := (List.range 64).map (genSeed d.seed)
      let t := (((s.advance n w).countPoison n [(w.arg, 64)]).set (BOB_STATUS_OP n) op).set (BOB_STATUS_BUSY n) 1
      if d.op = 2 && d.genA = d.genB then
        let t := ((t.putGens n gens).set (BOB_STS_STS n) 1).set (BOB_ERR_CORRELATED n) 1
        (t.add (BOB_CNT_CORR_CORR n) 1).bobWrite n d 0 false (List.replicate d.rows [0])
      else
        let poison := d.words.any fun r => s.spPoisoned n r.1 r.2
        let (rows, win, mid, x) := s.bobRun n d ⟨gens, [], 0, 0, 0⟩
        let t := (t.countPoison n d.words).putGens n x.gens
        let t := (t.add (BOB_CNT_SAT_SAT n) x.sat).add (BOB_CNT_STREAM_STREAM n) x.stream
        let t := t.modBob n fun _ => { bacc := x.bacc, ibuf := mid }
        let t := if s.bobScaleNan n d then t.set (BOB_ERR_SCALE_NAN n) 1 else t
        let t := t.guardCount n { asat := 32 * x.nans, avals := 32 * x.nans }
        let t := if op = 1 then t.modSeq n fun q => { q with stage2 := q.cycles + d.toStage2 } else t
        let t := if poison then
            ((t.set (BOB_STS_STS n) 5).set (BOB_ERR_POISON n) 1).report (mkRec 7 n 0x205 1 none (s.stepOf n) 0 [])
          else t.set (BOB_STS_STS n) 0
        t.bobWrite n d win poison rows

/-- TDOT (R215). -/
def execTdot (n : LoomNo) (s : State) (evs : CycleEvs := {}) : Host.Outcome State Fault Refusal :=
  .next <| s.withEvents n evs fun s => s.bobIssue n 0

/-- PRED (R218). -/
def execPred (n : LoomNo) (s : State) (evs : CycleEvs := {}) : Host.Outcome State Fault Refusal :=
  .next <| s.withEvents n evs fun s => s.bobIssue n 1

/-- SDOT (R216). -/
def execSdot (n : LoomNo) (s : State) (evs : CycleEvs := {}) : Host.Outcome State Fault Refusal :=
  .next <| s.withEvents n evs fun s => s.bobIssue n 2

/-- BOB_DONE (R224): the Bobbin's operation ends. -/
def execBobDone (n : LoomNo) (s : State) : Host.Outcome State Fault Refusal :=
  .next <|
    if !s.is (BOB_STATUS_BUSY n) || s.still n then s
    else ((s.add (BOB_CNT_OPS_OPS n) 1).set (BOB_STATUS_BUSY n) 0).settle n

end Sys2Proof.Machine
end

