-- ==== Sys2Proof/Machine/Dma.lean ====
section
/-! DEFINITION. The loom DMA: array-port loads, table loads, loads and stores of tensor units and KV pages (R114, R127 to R155, R254). -/
namespace Sys2Proof.Machine

/-! ### What the words share (R240) -/

/-- Issue a DMA word (R240): a misplaced or refused block, a table slot beyond 3, or a value out of range is a Draft fault with
cause PARAM. -/
def State.dmaIssue (s : State) (n op nslots tslot : Nat) (k : DWord → Block → State) : State :=
  s.issue n 3 op fun w =>
    let b := blockOf (s.blockBytes n w.arg)
    if s.blockMisplaced n w.arg || blockBad b 0xCF0 nslots || 3 < b.slot tslot then s.wordFault n 3 3 else k w b

/-- The table in slot t. -/
def State.tableAt (s : State) (n t : Nat) : Option CodeTable := (s.lm n).dma.tables.getD t none

/-! ### TLOAD (R108, R114, R131) -/

/-- What an array-port load finds: the status, the header, and what the buffer will hold. -/
def State.tloadResult (s : State) (n tslot a : Nat) : Nat × TileHdr × Option WBuf :=
  let h := leNat (s.spRead n a 16)
  let x := tileHdr h
  let t := if x.form = 1 then s.tableAt n tslot else none
  let st := hdrStatus (kindOf n) t h
  (st, x, if st = 0 then some (bufferOf (kindOf n) t x (s.spRead n (a + 16) x.len) (s.spPoisoned n a (16 + x.len))) else none)

/-- TLOAD (R108, R114): the header is checked, and the tile loads; a refused tile leaves the buffer not valid. An address that is no
multiple of 64 is used as it stands (DESIGN CHOICE, log 117). -/
def execTload (n : LoomNo) (s : State) (evs : CycleEvs := {}) : Host.Outcome State Fault Refusal :=
  .next <| s.withEvents n evs fun s => s.dmaIssue n 0 3 1 fun w b =>
    let a := b.slot 2
    if 1 < b.slot 0 || !inSpad n [(a, 16)] then s.wordFault n 3 3
    else
      let (st, x, buf) := s.tloadResult n (b.slot 1) a
      let u := (s.advance n w).dataReads n 3 [(a, if st = 0 then 16 + x.len else 16)]
      let u := u.modArr n fun r => { r with bufs := r.bufs.set (b.slot 0) none }
      let u := u.modDma n fun d => { d with tload := some (b.slot 0, buf, b.slot 1) }
      let u := u.set (if b.slot 0 = 0 then ARR_STATUS_WBUF0_VALID n else ARR_STATUS_WBUF1_VALID n) 0
      let u := (((u.set (DMA_STATUS_TILE_BUSY n) 1).set (DMA_LOAD_STS_STS n) st).set (DMA_LOAD_STS_WBUF n) (b.slot 0)).set
        (DMA_LOAD_STS_FORM n) x.form |>.set (DMA_LOAD_STS_DECODE_CYCLES n) x.decode
      if st = 0 then u
      else (u.add (DMA_CNT_REFUSED_REFUSED n) 1).report (mkRec 4 n (0x200 + st) 2 (some (lwin n + a)) (s.stepOf n) 0 [])

/-- TLOAD_DONE (R114): at the end of the last load cycle the buffer becomes valid. -/
def execTloadDone (n : LoomNo) (s : State) : Host.Outcome State Fault Refusal :=
  .next <|
    if s.still n then s
    else match (s.lm n).dma.tload with
      | none => s
      | some (wb, buf, _) =>
        let u := (s.modDma n fun d => { d with tload := none }).modArr n fun r => { r with bufs := r.bufs.set wb buf }
        ((u.set (DMA_STATUS_TILE_BUSY n) 0).set (if wb = 0 then ARR_STATUS_WBUF0_VALID n else ARR_STATUS_WBUF1_VALID n)
          (b2n buf.isSome)).settle n

/-! ### TBLLOAD (R131, R153) -/

/-- TBLLOAD (R153): 128 bytes are checked as a code table. -/
def execTblload (n : LoomNo) (s : State) (evs : CycleEvs := {}) : Host.Outcome State Fault Refusal :=
  .next <| s.withEvents n evs fun s => s.dmaIssue n 3 2 0 fun w b =>
    let a := b.slot 1
    if !inSpad n [(a, 128)] then s.wordFault n 3 3
    else
      let l := s.spRead n a 128
      let st := tableStatus l (s.spPoisoned n a 128)
      ((s.advance n w).countPoison n [(a, 128)]).modDma n fun d =>
        { d with tbl := some (b.slot 0, st, if st = 0 then some (tableOf l) else none) }

/-- TBLLOAD_DONE (R131, R153): the slot becomes valid, or stays not valid with its status. -/
def execTblloadDone (n : LoomNo) (s : State) : Host.Outcome State Fault Refusal :=
  .next <|
    if s.still n then s
    else match (s.lm n).dma.tbl with
      | none => s
      | some (t, st, tab) =>
        let u := s.modDma n fun d => { d with tbl := none, tables := d.tables.set t tab }
        let u := u.set (DMA_TBL_STS_STS n) (putBits (s.get (DMA_TBL_STS_STS n)) (4 * t) 4 st)
        let u := u.set (DMA_STATUS_TBL_VALID n) (putBits (s.get (DMA_STATUS_TBL_VALID n)) t 1 (b2n tab.isSome))
        let u := u.set (DMA_TBL_INFO_TAG n t) ((tab.map CodeTable.tag).getD 0)
        (u.set (DMA_TBL_INFO_ALPHABET n t) ((tab.map CodeTable.alphabet).getD 0)).settle n

/-! ### Tensor descriptors (R154) -/

/-- A tensor descriptor. -/
structure Desc where
  fmt : Nat
  unit : Nat
  kind : Nat
  codeOk : Bool
  forms : Nat
  tenant : Nat
  kvdh : Nat
  base : Nat
  clenBase : Nat
  tag : Nat
  deriving DecidableEq, Repr

/-- Read a tensor descriptor (R154). -/
def descOf (l : List Byte) : Desc :=
  let h := leAt l 0 8
  { fmt := bits h 4 4, unit := bits h 8 2, kind := bits h 10 1, codeOk := bitOf h 11, forms := 4 * bits h 12 2
    tenant := bits h 16 10, kvdh := bits h 26 2, base := leAt l 8 8, clenBase := leAt l 16 8, tag := leAt l 66 1 }

/-- A descriptor that R154 refuses: level, reserved fields, a reserved FMT, UNIT or KV_DH. DESIGN CHOICE (log 136): UNITS bounds nothing,
and KV_DH, CLEN_BASE or TABLE not zero where the unit or CODE_OK makes no use of it is no refusal. -/
def descBad (l : List Byte) : Bool :=
  let h := leAt l 0 8
  let d := descOf l
  h % 16 != 2 || bits h 14 2 != 0 || bits h 28 36 != 0 || !allZero (slice l 28 36) || !allZero (slice l 192 64)
    || 7 < d.fmt || d.unit = 3 || d.kvdh = 3

/-- Dh of the descriptor's pages. -/
def Desc.dh (d : Desc) : Nat := 64 * 2 ^ d.kvdh
/-- The slot of a KV page (R63). -/
def pageSlot (dh : Nat) : Nat := ceilDiv (68 * dh + 64) 1024 * 1024
/-- Fabric address of unit u (R105, R128, R154); a BASE that is no multiple of 64 is used as it stands (DESIGN CHOICE, log 117). -/
def Desc.addr (d : Desc) (u : Nat) : Nat :=
  d.base + u * (if d.unit = 0 then tileSlot d.kind else if d.unit = 1 then 4096 else pageSlot d.dh)
/-- Plain bytes of a unit in the scratchpad, on a LOAD and on a STORE. A LOAD keeps a tile in its stored form; what a STORE makes a tile
of is the RAW payload of its trits, without a header (DESIGN CHOICE, log 116). -/
def Desc.plain (d : Desc) (store : Bool) : Nat :=
  if d.unit = 0 then (if store then rawLen d.kind else tileSlot d.kind) else if d.unit = 1 then 4096 else 68 * d.dh + 64

/-! ### Patterns (R254) -/

/-- Bits of an element of size ESZ. -/
def eszBits (esz : Nat) : Nat := 4 * 2 ^ esz
/-- Bytes that k elements take. -/
def eszLen (esz k : Nat) : Nat := ceilDiv (k * eszBits esz) 8

/-- A pattern of reads (R254). -/
structure Pattern where
  kind : Nat
  esz : Nat
  stride : Nat
  rows : Nat
  cols : Nat
  deriving DecidableEq, Repr

/-- The pattern that a LOAD or STORE block names. -/
def patternOf (b : Block) : Pattern := ⟨b.slot 5, b.slot 6, b.slot 7, b.slot 8, b.slot 9⟩

/-- The first nibble of each element that the pattern delivers, counted from the base, for `len` bytes (R254). -/
def Pattern.elems (p : Pattern) (len : Nat) : List Nat :=
  let k := len * 8 / eszBits p.esz
  if p.kind = 1 then (List.range k).map fun i => 2 * (i * p.stride)
  else ((List.range p.cols).flatMap fun c => (List.range p.rows).map fun r => 2 * (r * p.stride) + c * 2 ^ p.esz).take k

/-- The range that the pattern reads for `len` bytes (R533). -/
def Pattern.range (p : Pattern) (base len : Nat) : Nat × Nat :=
  if p.kind = 0 then (base, len)
  else if p.kind = 1 then rowsRange base p.stride (len * 8 / eszBits p.esz) (eszLen p.esz 1)
  else rowsRange base p.stride p.rows (eszLen p.esz p.cols)

/-- What the pattern reads for `len` bytes (R259): the run, or one element at a time. -/
def Pattern.reads (p : Pattern) (base len : Nat) : List (Nat × Nat) :=
  if p.kind = 0 then [(base, len)] else (p.elems len).map fun e => (base + e / 2, eszLen p.esz 1)

/-- Count the poisoned words that a pattern's reads meet, each of them once (R259). -/
def State.countWords (s : State) (n : Nat) (ranges : List (Nat × Nat)) : State :=
  let met (w : Nat) : Bool := ranges.any fun r => decide (w < r.1 + r.2) && decide (r.1 < w + 8)
  let found := (s.lm n).spd.fresh.countP met
  s.add (SPD_CNT_POISON_POISON n) ((s.poison.countP fun e => decide (lwin n ≤ e.1) && met (e.1 - lwin n)) - found)

/-- Bytes that lie in a poisoned word of the scratchpad. -/
def State.spPois (s : State) (n a len : Nat) : List Bool := (List.range len).map fun i => s.spPoisoned n (a + i) 1

/-- What the pattern delivers from a scratchpad base: `len` bytes with their poison; elements that a transposed block lacks
read as zero (R254). -/
def State.gather (s : State) (n : Nat) (p : Pattern) (base len : Nat) : List Byte × List Bool :=
  if p.kind = 0 then (s.spRead n base len, s.spPois n base len)
  else
    let es := p.elems len
    let w := 2 ^ p.esz
    let nib := es.flatMap fun e => (List.range w).map fun j =>
      let x := (s.spRead n (base + (e + j) / 2) 1).getD 0 0
      (if (e + j) % 2 = 0 then x.toNat % 16 else x.toNat / 16, s.spPoisoned n (base + (e + j) / 2) 1)
    let nib := nib ++ List.replicate (2 * len - nib.length) (0, false)
    (packNibbles (nib.map Prod.fst), (chunks 2 len (nib.map Prod.snd)).map fun c => c.any id)

/-! ### Moving bytes with their poison (R511) -/

/-- Write bytes to a scratchpad with their poison, word by word where one is poisoned. -/
def State.spPut (s : State) (n a : Nat) (d : List Byte) (pois : List Bool) : State :=
  if !pois.any id then s.spWrite n a d false
  else (List.range (ceilDiv (a % 8 + d.length) 8)).foldl (fun s i =>
    let lo := max a (a / 8 * 8 + 8 * i)
    let k := min (a + d.length) (a / 8 * 8 + 8 * i + 8) - lo
    s.spWrite n lo ((d.drop (lo - a)).take k) (((pois.drop (lo - a)).take k).any id)) s

/-- Write bytes at a fabric address with their poison, sector by sector where one is poisoned. -/
def State.engPut (s : State) (n tenant a : Nat) (d : List Byte) (pois : List Bool) : State :=
  if !pois.any id then s.engWrite n 3 2 tenant a d false
  else (List.range (ceilDiv (a % 64 + d.length) 64)).foldl (fun s i =>
    let lo := max a (a / 64 * 64 + 64 * i)
    let k := min (a + d.length) (a / 64 * 64 + 64 * i + 64) - lo
    s.engWrite n 3 2 tenant lo ((d.drop (lo - a)).take k) (((pois.drop (lo - a)).take k).any id)) s

/-! ### Issue of LOAD and STORE (R131, R154, R240, R254) -/

/-- Fabric address of the raw data that the block names; 0: none. -/
def Block.raw (b : Block) : Nat := b.slot 10 + b.slot 11 * 2 ^ 32

/-- A STORE of raw data quantises (R192): its block names a block format as its output format, and elements of 16 or 32 bits. DESIGN
CHOICE (log 122): the spec has the loom DMA quantise and says no more of it than a word's FMT, FB and MAXDER. -/
def Block.quant (b : Block) : Bool := [1, 2, 3].contains (bits b.hdr 4 4) && (b.slot 6 = 2 || b.slot 6 = 3)

/-- A KV slot write quantises its K and V (R65, R192): its block names FP4, and elements of 16 or 32 bits (log 122). -/
def Block.quantSlot (b : Block) : Bool := bits b.hdr 4 4 == 1 && (b.slot 6 = 2 || b.slot 6 = 3)

/-- The bytes that a KV slot write takes from the scratchpad: K and V with their scales, or their elements before quantising. -/
def Block.slotLen (b : Block) (dh : Nat) : Nat := if b.quantSlot then 2 * eszLen (b.slot 6) dh else dh + dh / 16

/-- What a LOAD or STORE reaches in the scratchpad (R533). -/
def dmaRanges (store : Bool) (d : Desc) (b : Block) : List (Nat × Nat) :=
  let p := patternOf b
  let src (a len : Nat) : Nat × Nat := if store then p.range a len else (a, len)
  if b.raw != 0 && store && d.unit = 2 then [(b.slot 3, b.slotLen d.dh)]
  else if b.raw != 0 then [src (b.slot 3) (eszLen p.esz (b.slot 2))]
  else if b.slot 2 = 0 then []
  else
    let r := src (b.slot 3) (d.plain store)
    [(r.1, (b.slot 2 - 1) * b.slot 4 + r.2)]

/-- Issue a LOAD or STORE (R131, R154, R240): the descriptor is read and checked. -/
def State.moveIssue (s : State) (n op : Nat) (k : DWord → Block → Desc → State) : State :=
  s.dmaIssue n op 13 12 fun w b =>
    let p := patternOf b
    if 2 < p.kind || 4 < p.esz || 128 < p.rows || 128 < p.cols || !inSpad n [(b.slot 0, 256)] then s.wordFault n 3 3
    else
      let l := s.spRead n (b.slot 0) 256
      let d := descOf l
      if descBad l || s.spPoisoned n (b.slot 0) 256 then s.engineFault n 3 (DMA_ERR_DESC n)
      else if d.codeOk && (s.tableAt n (b.slot 12)).isNone then s.engineFault n 3 (DMA_ERR_TBL_INVALID n)
      else if !inSpad n (dmaRanges (op = 2) d b) then s.wordFault n 3 3
      else if s.stacksAsleep && fabChip d.base == s.chip && placeOf (fabLocal d.base) == .hbm then s.wakeDomain 144
      else k w b d

/-! ### LOAD (R129, R144, R147 to R150) -/

/-- A refused unit or page shows in DMA_ERR and in an error record (R148, R149). -/
def State.noteRefused (s : State) (n tenant src : Nat) : State :=
  (s.set (DMA_ERR_UNIT_REFUSED n) 1).report { mkRec 4 n 0x103 1 (some src) (s.stepOf n) tenant [] with fabric := true }

/-- A unit or a page is refused (R148, R149): its plain range is zero and poisoned. -/
def State.refuseUnit (s : State) (n tenant src dst len : Nat) : State :=
  ((s.noteRefused n tenant src).add (DMA_CNT_REFUSED_REFUSED n) 1).spWrite n dst (List.replicate len 0) true

/-- Bytes read, as plain data with its poison, written to the scratchpad. -/
def landRead (n dst : Nat) (r : RdData) : Rd Unit := rdMod fun s => s.spPut n dst r.data r.pois

/-- A tile as it is stored (R129): its first granule, then what PAYLOAD_LEN says. -/
def loadTile (n : Nat) (d : Desc) (u dst : Nat) : Rd Unit :=
  let a := d.addr u
  rdBind (rdRange n 3 d.tenant a 64) fun r =>
    let m := min (16 + (tileHdr (leAt r.data 0 16)).len) (tileSlot d.kind)
    rdBind (if m ≤ 64 then rdPure ⟨0, [], []⟩ else rdRange n 3 d.tenant (a + 64) (m - 64)) fun q =>
      landRead n dst ⟨0, (r.data ++ q.data).take m, (r.pois ++ q.pois).take m⟩

/-- The stream expander decodes bytes into the scratchpad (R144, R156). -/
def State.expand (s : State) (n dst : Nat) (l : List Byte) (poison : Bool) : State :=
  (s.spWrite n dst l poison).set (DMA_STATUS_STREAM_BUSY n) 1

/-- A BF16 chunk or an FP4 unit (R129, R143 to R148). A tensor whose CLEN_BASE and CODE_OK are 0 has no length array: its units are plain
(DESIGN CHOICE, log 119). DESIGN CHOICE (log 138): a unit of a format that is never coded, whose entry has ROWS, decodes as an FP4 unit. -/
def loadUnit (n : Nat) (d : Desc) (t : Option CodeTable) (u dst : Nat) : Rd Unit :=
  let a := d.addr u
  rdBind (if d.clenBase = 0 && !d.codeOk then rdPure ⟨0, [0, 0], [false]⟩ else rdRange n 3 d.tenant (d.clenBase + 2 * u) 2) fun e =>
    let v := leNat e.data
    let rows := v % 16
    let bad := e.pois.any id || (match t with | some t => v / 256 != t.tag % 256 | none => rows != 0)
      || (d.fmt = 4 && 7 < rows)
    if bad then rdMod fun s => s.refuseUnit n d.tenant a dst 4096
    else if rows = 0 then rdBind (rdRange n 3 d.tenant a 4096) (landRead n dst)
    else
      let m := (if d.fmt = 4 then 2048 else 0) + 256 * rows
      rdBind (rdRange n 3 d.tenant a m) fun r =>
        let p := r.pois.any id
        match t with
        | some t => rdMod fun s => s.expand n dst (if d.fmt = 4 then decodeChunk t rows r.data else decodeFp4 t rows 128 31 r.data) p
        | none => rdPure ()

/-- A coded length that R147 refuses. -/
def clenBad (coded : Bool) (len dh : Nat) : Bool :=
  if coded then len % 256 != 0 || len = 0 || 32 * dh ≤ len else len != 0

/-- A page descriptor that staging refuses (R149). DEDUCED: also one with a coded plane where the tensor's CODE_OK is 0, so that no table
is named for it, as R148 has it for units (log 120). -/
def pageBad (d : Desc) (l : List Byte) : Bool :=
  let h := leAt l 0 8
  pageRefused l || bits h 8 2 != d.kvdh
    || clenBad (bitOf h 10) (leAt l 32 2) d.dh || clenBad (bitOf h 11) (leAt l 34 2) d.dh
    || ((bitOf h 10 || bitOf h 11) && !d.codeOk)

/-- A staged descriptor is plain (R160). -/
def plainDesc (l : List Byte) : List Byte :=
  let h := leAt l 0 8
  leBytes 8 (putBits h 10 2 0) ++ slice l 8 24 ++ List.replicate 4 0 ++ slice l 36 28

/-- One element plane of a page (R129, R144). DESIGN CHOICE (log 134): a table of another ALPHABET decodes by that alphabet, each value cut
to the width of the unit's elements, here and for a chunk or FP4 unit. -/
def loadPlane (n : Nat) (d : Desc) (t : Option CodeTable) (coded : Bool) (clen a dst : Nat) : Rd Unit :=
  if !coded then rdBind (rdRange n 3 d.tenant a (32 * d.dh)) (landRead n dst)
  else rdBind (rdRange n 3 d.tenant a clen) fun r =>
    match t with
    | some t => rdMod fun s => s.expand n dst (decodeFp4 t (clen / 256) d.dh (d.dh / 4 - 1) r.data) (r.pois.any id)
    | none => rdPure ()

/-- A KV page (R149). -/
def loadPage (n : Nat) (d : Desc) (t : Option CodeTable) (u dst : Nat) : Rd Unit :=
  let a := d.addr u
  let dh := d.dh
  rdBind (rdRange n 3 d.tenant (a + 68 * dh) 64) fun x =>
    if pageBad d x.data || x.pois.any id then rdMod fun s => s.refuseUnit n d.tenant (a + 68 * dh) dst (68 * dh + 64)
    else
      let h := leAt x.data 0 8
      rdBind (loadPlane n d t (bitOf h 10) (leAt x.data 32 2) a dst) fun _ =>
        rdBind (loadPlane n d t (bitOf h 11) (leAt x.data 34 2) (a + 32 * dh) (dst + 32 * dh)) fun _ =>
          rdBind (rdRange n 3 d.tenant (a + 64 * dh) (4 * dh)) fun r =>
            rdBind (landRead n (dst + 64 * dh) r) fun _ =>
              rdMod fun s => s.spWrite n (dst + 68 * dh) (plainDesc x.data) false

/-- The whole of a LOAD. -/
def loadRun (n : Nat) (d : Desc) (t : Option CodeTable) (b : Block) : Rd Unit :=
  if b.raw != 0 then rdBind (rdRange n 3 d.tenant b.raw (eszLen (b.slot 6) (b.slot 2))) (landRead n (b.slot 3))
  else rdEach (fun i =>
    let u := b.slot 1 + i
    let dst := b.slot 3 + i * b.slot 4
    if d.unit = 0 then loadTile n d u dst else if d.unit = 1 then loadUnit n d t u dst else loadPage n d t u dst)
    (List.range (b.slot 2))

/-! ### STORE (R123, R135, R141, R145 to R147, R150) -/

/-- The destination lies in a protected region of this device (R150): its first byte does (DESIGN CHOICE, log 118). -/
def State.protectedAt (s : State) (a : Nat) : Bool :=
  fabChip a == s.chip && (match s.regionAt (fabLocal a) with | some i => s.is (HBM_RGN_PROT i) | none => false)

/-- Count how a unit was stored (R156): `why` as in Stored. -/
def State.countStored (s : State) (n why saved : Nat) : State :=
  if why = 0 then (s.add (DMA_CNT_CODED_CODED n) 1).add (DMA_CNT_SAVED_SAVED n) saved
  else if why = 1 then s.add (DMA_CNT_FB_SIZE_FB_SIZE n) 1
  else if why = 2 then s.add (DMA_CNT_FB_CYCLES_FB_CYCLES n) 1
  else s

/-- Store a tile (R123, R141): the RAW payload at the source becomes a slot; where a byte of it is poisoned, so is the slot (R511). -/
def State.storeTileUnit (s : State) (n : Nat) (d : Desc) (t : Option CodeTable) (u : Nat) (src : List Byte × List Bool) : State :=
  let a := d.addr u
  let poison := src.2.any id
  let open_ := !s.protectedAt a
  let r := storeTile d.kind (if open_ then d.forms else 0) (d.codeOk && open_) (if d.codeOk && open_ then t else none) src.1
  (s.engWrite n 3 2 d.tenant a r.data poison).countStored n r.why r.saved

/-- Copy a tile that lies in the scratchpad in its stored form (R105, R129): up to its stored length as it is; into a protected region
expanded, as RAW (R150). -/
def State.copyTile (s : State) (n : Nat) (d : Desc) (t : Option CodeTable) (u a : Nat) : State :=
  let x := tileHdr (leNat (s.spRead n a 16))
  let len := min (16 + x.len) (tileSlot d.kind)
  let l := s.spRead n a len
  let pois := s.spPois n a len
  let s := s.dataReads n 3 [(a, len)]
  if s.protectedAt (d.addr u) then s.storeTileUnit n d t u (tileRaw d.kind t x (l.drop 16), pois) else s.engPut n d.tenant (d.addr u) l pois

/-- The stored form of a chunk or FP4 unit, or of a plane: coded where R141 and R146 allow it. DESIGN CHOICE (log 135): with a table of
another ALPHABET than the unit's it is uncodable, and counts as such. -/
def codePlain (fmt : Nat) (t : CodeTable) (lane limit : Nat) (l : List Byte) : (Nat × List Byte) ⊕ Nat :=
  if fmt = 4 then (if t.alphabet = 1 then codeChunk t l else .inr 1)
  else if t.alphabet = 2 then codeFp4 t lane limit l else .inr 1

/-- Store a chunk or FP4 unit, then its length entry (R145, R146). -/
def State.storeUnit (s : State) (n : Nat) (d : Desc) (t : Option CodeTable) (u : Nat) (src : List Byte × List Bool) : State :=
  let a := d.addr u
  let open_ := d.codeOk && !s.protectedAt a && (d.fmt = 4 || d.fmt = 1)
  let p := src.2.any id
  let (s, rows) := match t with
    | some t =>
      if open_ then
        match codePlain d.fmt t 128 32 src.1 with
        | .inl (r, l) => ((s.engWrite n 3 2 d.tenant a l p).countStored n 0 (4096 - l.length), r)
        | .inr k => ((s.engPut n d.tenant a src.1 src.2).countStored n k 0, 0)
      else (s.engPut n d.tenant a src.1 src.2, 0)
    | none => (s.engPut n d.tenant a src.1 src.2, 0)
  if d.clenBase = 0 && !d.codeOk then s else s.engWrite n 3 2 d.tenant (d.clenBase + 2 * u) (leBytes 2 (rows + 256 * d.tag)) false

/-- Store one plane of a page: the state and its coded length, 0 where it is plain (R147). -/
def State.storePlane (s : State) (n : Nat) (d : Desc) (t : Option CodeTable) (a : Nat) (l : List Byte) (pois : List Bool) : State × Nat :=
  match t with
  | some t =>
    match codePlain 1 t d.dh (d.dh / 4) l with
    | .inl (r, x) => ((s.engWrite n 3 2 d.tenant a x (pois.any id)).countStored n 0 (32 * d.dh - x.length), 256 * r)
    | .inr k => ((s.engPut n d.tenant a l pois).countStored n k 0, 0)
  | none => (s.engPut n d.tenant a l pois, 0)

/-- Store a whole KV page (R65, R147): planes and scales, then the descriptor. -/
def State.storePage (s : State) (n : Nat) (d : Desc) (t : Option CodeTable) (u : Nat) (src : List Byte × List Bool) : State :=
  let a := d.addr u
  let dh := d.dh
  let l := src.1
  let x := l.drop (68 * dh)
  let full := leAt x 16 8 == 2 ^ 64 - 1 && leAt x 24 8 == 0
  let t := if d.codeOk && full && !s.protectedAt a then t else none
  let (s, k) := s.storePlane n d t a (l.take (32 * dh)) (src.2.take (32 * dh))
  let (s, v) := s.storePlane n d t (a + 32 * dh) (slice l (32 * dh) (32 * dh)) ((src.2.drop (32 * dh)).take (32 * dh))
  let s := s.engPut n d.tenant (a + 64 * dh) (slice l (64 * dh) (4 * dh)) ((src.2.drop (64 * dh)).take (4 * dh))
  let h := putBits (putBits (leAt x 0 8) 10 1 (b2n (k != 0))) 11 1 (b2n (v != 0))
  s.engPut n d.tenant (a + 68 * dh) (leBytes 8 h ++ slice x 8 24 ++ leBytes 2 k ++ leBytes 2 v ++ slice x 36 28) (src.2.drop (68 * dh))

/-- The exponent of block i of a row that a STORE quantises (R196): maximum-derived in REPLAY and FALLBACK or under MAXDER; else what the
block names, which has no slot for it (log 122). -/
def storeEx (p : Pend) (b : Block) (i : Nat) : Option Nat :=
  if p.mode != 0 || bitOf b.hdr 11 then none else some (Config.storeExponent p.block i).toNat

/-- A row that a STORE quantises (R47 to R50, R192): its elements' bytes, its scale bytes from number `i` on, and what it counts. -/
def storeQuant (p : Pend) (b : Block) (fmt i k : Nat) (l : List Byte) : List Byte × List Byte × Counts :=
  let q := (chunks 32 (ceilDiv k 32) ((elts (b.slot 6 == 3) k l).map f32Val)).zipIdx.map fun e =>
    quantRow fmt (storeEx p b (i + e.2)) none e.1
  (q.flatMap (·.elems), q.flatMap (·.scales), sumCounts (q.map (·.counts)))

/-- What a KV slot write takes from the scratchpad (R65, R192): the codes of K and V, then their scales, with their poison, and what
quantising them counts; poisoned values count nothing (R512). -/
def State.slotData (s : State) (n : Nat) (b : Block) (p : Pend) (dh src : Nat) : List Byte × List Bool × Counts :=
  if !b.quantSlot then (s.spRead n src (dh + dh / 16), s.spPois n src (dh + dh / 16), {})
  else
    let w := eszLen (b.slot 6) dh
    let side (a i : Nat) : (List Byte × List Byte × Counts) × Bool := (storeQuant p b 1 i dh (s.spRead n a w), s.spPoisoned n a w)
    let (k, kp) := side src 0
    let (v, vp) := side (src + w) (dh / 32)
    (k.1 ++ v.1 ++ k.2.1 ++ v.2.1,
      List.replicate (dh / 2) kp ++ List.replicate (dh / 2) vp ++ List.replicate (dh / 32) kp ++ List.replicate (dh / 32) vp,
      addCounts (if kp then {} else k.2.2) (if vp then {} else v.2.2))

/-- A KV slot write (R65, R147, R290): slot t of the page at a fabric address takes K and V from the scratchpad, laid out as a
fill buffer is (R292), and its VALID bit is set; on a page with a coded plane, or with a refused descriptor (R6), nothing is written.
DESIGN CHOICE (log 121): how a STORE word names a slot write, and how the refusal shows. -/
def slotWrite (n : Nat) (d : Desc) (b : Block) (p : Pend) (page t src : Nat) : Rd Unit :=
  let dh := d.dh
  rdBind (rdRange n 3 d.tenant (page + 68 * dh) 64) fun x =>
    let h := leAt x.data 0 8
    rdMod fun s0 =>
      if pageUnusable x.data || x.pois.any id then s0.noteRefused n d.tenant (page + 68 * dh)
      else if bitOf h 10 || bitOf h 11 then s0.set (DMA_ERR_CODED_WRITE n) 1
      else
        let (l, pois, c) := s0.slotData n b p dh src
        let put (s : State) (o len dst : Nat) : State := s.engPut n d.tenant (page + dst) (slice l o len) ((pois.drop o).take len)
        let s := (s0.countPoison n [(src, b.slotLen dh)]).guardAdd n p.span c
        let s := put s 0 (dh / 2) (t * (dh / 2))
        let s := put s (dh / 2) (dh / 2) (32 * dh + t * (dh / 2))
        let s := put s dh (dh / 32) (64 * dh + t * (dh / 32))
        let s := put s (dh + dh / 32) (dh / 32) (66 * dh + t * (dh / 32))
        s.engMask n 3 2 d.tenant (page + 68 * dh + 16) (2 ^ t) (2 ^ t)

/-- A STORE of raw data (R192, R254): the elements as the pattern delivers them, or quantised: the element bytes, filled up to a multiple
of 64, then the scale bytes (log 122). -/
def State.storeRaw (s : State) (n : Nat) (d : Desc) (b : Block) (q : Pend) : State :=
  let p := patternOf b
  let len := eszLen p.esz (b.slot 2)
  let g := s.gather n p (b.slot 3) len
  let s := s.countWords n (p.reads (b.slot 3) len)
  if !b.quant then s.engPut n d.tenant b.raw g.1 g.2
  else
    let (el, sc, c) := storeQuant q b (fmtUnder q.mode b) 0 (b.slot 2) g.1
    let bad := g.2.any id
    let s := s.engWrite n 3 2 d.tenant b.raw (el ++ List.replicate ((64 - el.length % 64) % 64) 0 ++ sc) bad
    if bad then s else s.guardAdd n q.span c

/-- The whole of a STORE. DESIGN CHOICE (log 116): a source tile is one in its stored form where its first 16 bytes are a header that R106
to R108 accept with the table that the word names; any other source, a coded tile for which no table or another one is named among
them, is a RAW payload. -/
def storeRun (n : Nat) (d : Desc) (t : Option CodeTable) (b : Block) (q : Pend) : Rd Unit :=
  let p := patternOf b
  if b.raw != 0 && d.unit = 2 then slotWrite n d b q b.raw (b.slot 1 % 64) (b.slot 3)
  else if b.raw != 0 then rdMod fun s => s.storeRaw n d b q
  else rdMod fun s0 => (List.range (b.slot 2)).foldl (fun s i =>
    let u := b.slot 1 + i
    let a := b.slot 3 + i * b.slot 4
    let src := s0.gather n p a (d.plain true)
    if d.unit = 0 && p.kind = 0 && hdrStatus d.kind t (leNat (src.1.take 16)) = 0 then s.copyTile n d t u a
    else
      let s := s.countWords n (p.reads a (d.plain true))
      if d.unit = 0 then s.storeTileUnit n d t u src
      else if d.unit = 1 then s.storeUnit n d t u src else s.storePage n d t u src) s0

/-! ### The words -/

/-- What a LOAD or STORE that waits does; the descriptor and table stand as they were at issue. -/
def State.moveRun (s : State) (n : Nat) (p : Pend) : Rd Unit :=
  let b := blockOf (p.block.take 64)
  let d := descOf (p.block.drop 64)
  let t := if d.codeOk then s.tableAt n (b.slot 12) else none
  if p.op = 1 then loadRun n d t b else storeRun n d t b p

/-- Begin a LOAD or STORE. -/
def State.moveStart (s : State) (n op : Nat) (w : DWord) (b : Block) (d : Desc) : State :=
  let u := (s.advance n w).countPoison n [(b.slot 0, 256)]
  let u := u.modDma n fun x => { x with op := some (op, if d.codeOk then some (b.slot 12) else none) }
  let u := if op = 2 then u.set (DMA_STATUS_STORE_BUSY n) 1
    else u
  let p : Pend := { unit := 3, op, arg := w.arg, block := s.blockBytes n w.arg ++ s.spRead n (b.slot 0) 256, got := [], waiting := false,
                    span := s.spanOpen n, mode := s.get (GRD_STATUS_MODE n) }
  u.runOp n 2 d.tenant p (u.moveRun n p)

/-- LOAD (R129, R147 to R149, R154). -/
def execLoad (n : LoomNo) (evs : CycleEvs) (s : State) : Host.Outcome State Fault Refusal :=
  .next <| s.withEvents n evs fun s => s.moveIssue n 1 fun w b d => s.moveStart n 1 w b d

/-- STORE (R123, R141, R145 to R147, R154, R155). -/
def execStore (n : LoomNo) (s : State) (evs : CycleEvs := {}) : Host.Outcome State Fault Refusal :=
  .next <| s.withEvents n evs fun s => s.moveIssue n 2 fun w b d => s.moveStart n 2 w b d

/-- DMA_DONE (R155): the operation under way ends; one that waits for a read goes on when its answer has come. -/
def execDmaDone (n : LoomNo) (s : State) : Host.Outcome State Fault Refusal :=
  .next <|
    if (s.lm n).dma.op.isNone || s.still n then s
    else
      let t := match s.pendOf n 3 with
        | some p => if p.waiting then s else s.runOp n 2 (descOf (p.block.drop 64)).tenant p (s.moveRun n p)
        | none => s
      if (t.pendOf n 3).isSome then t
      else (((t.modDma n fun x => { x with op := none }).set (DMA_STATUS_STREAM_BUSY n) 0).set (DMA_STATUS_STORE_BUSY n) 0).settle n

end Sys2Proof.Machine
end

