-- ==== Sys2Proof/Machine/Tap.lean ====
section
/-! DEFINITION. The IEEE 1149.1 test access port (R531). -/
namespace Sys2Proof.Machine

/-- The controller's states, in this order: 0 Test-Logic-Reset, 1 Run-Test/Idle, 2 Select-DR, 3 Capture-DR, 4 Shift-DR, 5 Exit1-DR,
6 Pause-DR, 7 Exit2-DR, 8 Update-DR, and 9 to 15 the same from Select-IR to Update-IR. For each, the state after a TCK with TMS 0 and
with TMS 1. -/
def tapNext : List (Nat × Nat) :=
  [(1, 0), (1, 2), (3, 9), (4, 5), (4, 5), (6, 8), (6, 7), (4, 8), (1, 2), (10, 0), (11, 12), (11, 12), (13, 15), (13, 14), (11, 15), (1, 2)]

/-- Signal lands other than the reference clocks (R520), each with one cell. -/
def chainLen : Nat := 717

/-- EXTEST, SAMPLE/PRELOAD, EXTEST_PULSE and EXTEST_TRAIN select the boundary-scan chain; every other code acts as BYPASS. -/
def boundary (ir : Nat) : Bool := decide (ir ≤ 3)

/-! ### Cells (R520, R531)

The chain runs by ascending row and then column: 96 cells of Y+ and Z+ in rows 1 to 8, 45 of the always-on group and the management lane in
rows 9 to 24, 96 of X- and X+ in rows 25 to 88, 384 of the NAND channels in rows 89 to 104, and 96 of Y- and Z- in rows 105 to 112. -/

/-- Cell i is the management lane's. Which of the cells of rows 9 to 24 are, is open (log 20). -/
def mgmtLane (i : Nat) : Bool := decide (96 ≤ i) && decide (i < 141) && Config.mgmtCell (i - 96)

/-- Cell i belongs to the always-on group. -/
def aonCell (i : Nat) : Bool := decide (96 ≤ i) && decide (i < 141) && !Config.mgmtCell (i - 96)

/-- Cell i belongs to a fabric lane or the management lane, which IEEE 1149.6 covers. -/
def acCell (i : Nat) : Bool :=
  decide (i < 96) || (decide (141 ≤ i) && decide (i < 237)) || decide (621 ≤ i) || mgmtLane i

/-- Cells as they are held: where stage 3 has not completed (`on` is false), a cell outside the always-on group does not work, and what it
holds is free. -/
def heldCells (on : Bool) (free : Nat → Bool) (l : List Bool) : List Bool :=
  if on then l else l.zipIdx.map fun e => if aonCell e.2 then e.1 else free e.2

/-- What the rising edge does in the state that it finds: capture or shift. Of an AC land under EXTEST_PULSE or EXTEST_TRAIN, `pins` has
what its test receiver holds. -/
def Tap.edge (t : Tap) (on : Bool) (free : Nat → Bool) (tdi : Bool) (pins : Nat) : Tap :=
  match t.state with
  | 3 => if boundary t.ir then { t with shift := heldCells on free ((List.range chainLen).map (bitOf pins)) } else { t with bypass := false }
  | 4 => if boundary t.ir then { t with shift := heldCells on free (tdi :: t.shift.dropLast) } else { t with bypass := tdi }
  | 10 => { t with irShift := 1 }
  | 11 => { t with irShift := t.irShift / 2 + 128 * b2n tdi }
  | _ => t

/-- The AC test signal after a falling edge (IEEE 1149.6): in Run-Test/Idle EXTEST_PULSE holds it high and EXTEST_TRAIN toggles it; elsewhere it
is low. -/
def Tap.acNext (t : Tap) : Bool := t.state == 1 && (t.ir == 2 || (t.ir == 3 && !t.ac))

/-- What the falling edge does in the new state: update, or TDO shows the register's last bit. -/
def Tap.fall (t : Tap) : Tap :=
  let t := { t with ac := t.acNext }
  match t.state with
  | 0 => { t with ir := 0xFF, tdo := false }
  | 4 => { t with tdo := if boundary t.ir then t.shift.getLast?.getD false else t.bypass }
  | 8 => { t with update := if boundary t.ir then t.shift else t.update, tdo := false }
  | 11 => { t with tdo := bitOf t.irShift 0 }
  | 15 => { t with ir := t.irShift, tdo := false }
  | _ => { t with tdo := false }

/-- What cell i drives on its land, where it drives one: EXTEST the update stage, EXTEST_PULSE and EXTEST_TRAIN on the lands of IEEE 1149.6
the same under the AC test signal. Under another instruction no cell drives. -/
def Tap.drives (t : Tap) (on : Bool) (i : Nat) : Option Bool :=
  if t.ir = 1 || !boundary t.ir || !(on || aonCell i) then none
  else some (xor (t.update.getD i false) (t.ac && acCell i))

/-- TEST_ACCESS_PORT (R531): one TCK cycle with TMS, TDI and the levels of the signal lands, land i of the chain in bit i of `pins`, or a
low level of TRST_N, which `trst` tells. Stage 3 has completed where PWR_MAIN_EN is high. -/
def execTestAccessPort (trst tms tdi : Bool) (pins : Nat) (s : State) : Host.Outcome State Fault Refusal :=
  .next <|
    if trst then { s with tap := { update := s.tap.update } }
    else
      let on := s.power.mainEn
      let t := s.tap.edge on (fun i => bitOf (Config.freeValue (s.freeCount + i / 256)).toNat (i % 256)) tdi pins
      let n := tapNext.getD s.tap.state (0, 0)
      { s with
        tap := ({ t with state := if tms then n.2 else n.1 } : Tap).fall
        freeCount := s.freeCount + if on || !boundary s.tap.ir then 0 else 3 }

end Sys2Proof.Machine
end

