-- ==== Sys2Proof/Machine/Dispatch.lean ====
section
/-! DEFINITION. What each command does: one direct call of its meaning. -/
namespace Sys2Proof.Machine

/-- The effect of a command on everything but the queue. -/
def exec (i : Instr) (s : State) : Host.Outcome State Fault Refusal :=
  match i with
  | .registerWrite req addr data => Sys2Proof.Machine.execRegisterWrite req addr data s
  | .localAccess a deferred ecc => Sys2Proof.Machine.execLocalAccess a s deferred ecc
  | .ledgerGrant waited cycles => Sys2Proof.Machine.execLedgerGrant waited s cycles
  | .holdResume n cycles => Sys2Proof.Machine.execHoldResume n cycles s
  | .slackExpire n cycles => Sys2Proof.Machine.execSlackExpire n s cycles
  | .pauseBudgetExpire n cycles => Sys2Proof.Machine.execPauseBudgetExpire n cycles s
  | .accViewWrite n off data req tenant => Sys2Proof.Machine.execAccViewWrite n off data s req tenant
  | .accWinWrite n set row value => Sys2Proof.Machine.execAccWinWrite n set row value s
  | .accCntClr n => Sys2Proof.Machine.execAccCntClr n s
  | .arraySum n evs => Sys2Proof.Machine.execArraySum n evs s
  | .arrayMax n evs => Sys2Proof.Machine.execArrayMax n s evs
  | .arrayMin n evs => Sys2Proof.Machine.execArrayMin n s evs
  | .arrayResultLand n => Sys2Proof.Machine.execArrayResultLand n s
  | .tileBarrier n => Sys2Proof.Machine.execTileBarrier n s
  | .winload n evs => Sys2Proof.Machine.execWinload n s evs
  | .swap n => Sys2Proof.Machine.execSwap n s
  | .drain n evs => Sys2Proof.Machine.execDrain n evs s
  | .drainDone n => Sys2Proof.Machine.execDrainDone n s
  | .tload n evs => Sys2Proof.Machine.execTload n s evs
  | .tloadDone n => Sys2Proof.Machine.execTloadDone n s
  | .tblload n evs => Sys2Proof.Machine.execTblload n s evs
  | .tblloadDone n => Sys2Proof.Machine.execTblloadDone n s
  | .load n evs => Sys2Proof.Machine.execLoad n evs s
  | .store n evs => Sys2Proof.Machine.execStore n s evs
  | .dmaDone n => Sys2Proof.Machine.execDmaDone n s
  | .score n evs => Sys2Proof.Machine.execScore n s evs
  | .pv n evs => Sys2Proof.Machine.execPv n s evs
  | .adrain n evs => Sys2Proof.Machine.execAdrain n s evs
  | .attPhaseDone n => Sys2Proof.Machine.execAttPhaseDone n s
  | .combine n evs => Sys2Proof.Machine.execCombine n s evs
  | .dot n evs => Sys2Proof.Machine.execDot n s evs
  | .normRms n evs => Sys2Proof.Machine.execNormRms n s evs
  | .normLayer n evs => Sys2Proof.Machine.execNormLayer n s evs
  | .embed n evs => Sys2Proof.Machine.execEmbed n s evs
  | .elemAdd n evs => Sys2Proof.Machine.execElemAdd n s evs
  | .elemMul n evs => Sys2Proof.Machine.execElemMul n s evs
  | .elemFma n evs => Sys2Proof.Machine.execElemFma n s evs
  | .elemDiv n evs => Sys2Proof.Machine.execElemDiv n s evs
  | .elemRecip n evs => Sys2Proof.Machine.execElemRecip n s evs
  | .elemRsqrt n evs => Sys2Proof.Machine.execElemRsqrt n s evs
  | .elemExp2 n evs => Sys2Proof.Machine.execElemExp2 n s evs
  | .elemLog2 n evs => Sys2Proof.Machine.execElemLog2 n s evs
  | .brzOpDone n => Sys2Proof.Machine.execBrzOpDone n s
  | .gbegin n => Sys2Proof.Machine.execGbegin n s
  | .gcheck n => Sys2Proof.Machine.execGcheck n s
  | .gcheckVerdict n => Sys2Proof.Machine.execGcheckVerdict n s
  | .grdCtlWrite n addr data => Sys2Proof.Machine.execGrdCtlWrite n addr data s
  | .tdot n evs => Sys2Proof.Machine.execTdot n s evs
  | .pred n evs => Sys2Proof.Machine.execPred n s evs
  | .sdot n evs => Sys2Proof.Machine.execSdot n s evs
  | .bobDone n => Sys2Proof.Machine.execBobDone n s
  | .runStart n => Sys2Proof.Machine.execRunStart n s
  | .runStop n => Sys2Proof.Machine.execRunStop n s
  | .loomCntClr n => Sys2Proof.Machine.execLoomCntClr n s
  | .draftStoreWrite n req off data tenant => Sys2Proof.Machine.execDraftStoreWrite n req off data s tenant
  | .nop n => Sys2Proof.Machine.execNop n s
  | .step n => Sys2Proof.Machine.execStep n s
  | .stepLaunch n => Sys2Proof.Machine.execStepLaunch n s
  | .endStep n => Sys2Proof.Machine.execEndStep n s
  | .endReport n cycles => Sys2Proof.Machine.execEndReport n cycles s
  | .loop n => Sys2Proof.Machine.execLoop n s
  | .endloop n => Sys2Proof.Machine.execEndloop n s
  | .skipz n => Sys2Proof.Machine.execSkipz n s
  | .waitTally n => Sys2Proof.Machine.execWaitTally n s
  | .waitColl n => Sys2Proof.Machine.execWaitColl n s
  | .waitWrites n => Sys2Proof.Machine.execWaitWrites n s
  | .tile n => Sys2Proof.Machine.execTile n s
  | .repay n => Sys2Proof.Machine.execRepay n s
  | .peerFaultStop n => Sys2Proof.Machine.execPeerFaultStop n s
  | .scrubLine n bank evs => Sys2Proof.Machine.execScrubLine n bank evs s
  | .ncInboundServe n deferred ecc => Sys2Proof.Machine.execNcInboundServe n deferred s ecc
  | .route n evs => Sys2Proof.Machine.execRoute n s evs
  | .scatter n evs => Sys2Proof.Machine.execScatter n s evs
  | .tally n evs => Sys2Proof.Machine.execTally n s evs
  | .shtReturn n evs => Sys2Proof.Machine.execShtReturn n s evs
  | .maskset n evs => Sys2Proof.Machine.execMaskset n s evs
  | .audit n evs => Sys2Proof.Machine.execAudit n s evs
  | .exit n evs => Sys2Proof.Machine.execExit n s evs
  | .fill n evs => Sys2Proof.Machine.execFill n s evs
  | .shtOpDone n => Sys2Proof.Machine.execShtOpDone n s
  | .recordLanding n deferred ecc => Sys2Proof.Machine.execRecordLanding n s deferred ecc
  | .tallyMsg n => Sys2Proof.Machine.execTallyMsg n s
  | .ovfClaim n => Sys2Proof.Machine.execOvfClaim n s
  | .ovfGrant n => Sys2Proof.Machine.execOvfGrant n s
  | .admitRq => Sys2Proof.Machine.execAdmit s
  | .cancel => Sys2Proof.Machine.execCancel s
  | .evict => Sys2Proof.Machine.execEvict s
  | .boltOpen => Sys2Proof.Machine.execBoltOpen s
  | .boltClose => Sys2Proof.Machine.execBoltClose s
  | .variantLoadDone slot => Sys2Proof.Machine.execVariantLoadDone slot s
  | .variantLoadFail slot => Sys2Proof.Machine.execVariantLoadFail slot s
  | .svcAllowWrite addr data => Sys2Proof.Machine.execSvcAllowWrite addr data s
  | .svcFloorMhzWrite value => Sys2Proof.Machine.execSvcFloorMhzWrite value s
  | .svcRqSizeWrite value => Sys2Proof.Machine.execSvcRqSizeWrite value s
  | .svcCntClr => Sys2Proof.Machine.execSvcCntClr s
  | .stepFreeze b => Sys2Proof.Machine.execStepFreeze b s
  | .stepSeal b outs poisoned => Sys2Proof.Machine.execStepSeal b outs poisoned s
  | .stepTimeout b => Sys2Proof.Machine.execStepTimeout b s
  | .tokenRefill => Sys2Proof.Machine.execTokenRefill s
  | .regionWrite idx => Sys2Proof.Machine.execRegionWrite idx s
  | .regionClear idx => Sys2Proof.Machine.execRegionClear idx s
  | .hbmAccess a ecc => Sys2Proof.Machine.execHbmAccess a ecc s
  | .cacheFlush k => Sys2Proof.Machine.execCacheFlush k s
  | .cacheFlushDone k => Sys2Proof.Machine.execCacheFlushDone k s
  | .hbmLoopWrite k value => Sys2Proof.Machine.execHbmLoopWrite k value s
  | .keyLoad slot => Sys2Proof.Machine.execKeyLoad slot s
  | .keyZero slot => Sys2Proof.Machine.execKeyZero slot s
  | .create => Sys2Proof.Machine.execCreate s
  | .write fails => Sys2Proof.Machine.execWrite fails s
  | .read uncorr retried => Sys2Proof.Machine.execRead uncorr retried s
  | .readimg uncorr retried => Sys2Proof.Machine.execReadimg uncorr retried s
  | .delete => Sys2Proof.Machine.execDelete s
  | .stat => Sys2Proof.Machine.execStat s
  | .readRefresh block fails => Sys2Proof.Machine.execReadRefresh block s fails
  | .wearLevel fails => Sys2Proof.Machine.execWearLevel s fails
  | .lend => Sys2Proof.Machine.execLend s
  | .accept => Sys2Proof.Machine.execAccept s
  | .decline => Sys2Proof.Machine.execDecline s
  | .reclaim => Sys2Proof.Machine.execReclaim s
  | .writeback => Sys2Proof.Machine.execWriteback s
  | .clean => Sys2Proof.Machine.execClean s
  | .release => Sys2Proof.Machine.execRelease s
  | .copyimg => Sys2Proof.Machine.execCopyimg s
  | .tierRingSizeWrite nbt value => Sys2Proof.Machine.execTierRingSizeWrite nbt value s
  | .leaseOffer => Sys2Proof.Machine.execLeaseOffer s
  | .leaseAccept => Sys2Proof.Machine.execLeaseAccept s
  | .leaseDecline => Sys2Proof.Machine.execLeaseDecline s
  | .leaseReclaim => Sys2Proof.Machine.execLeaseReclaim s
  | .leaseRelease => Sys2Proof.Machine.execLeaseRelease s
  | .leaseRevoke => Sys2Proof.Machine.execLeaseRevoke s
  | .leaseKeepalive => Sys2Proof.Machine.execLeaseKeepalive s
  | .keepaliveSend => Sys2Proof.Machine.execKeepaliveSend s
  | .reclaimDeadline lease => Sys2Proof.Machine.execReclaimDeadline lease s
  | .keepaliveMiss lender lease => Sys2Proof.Machine.execKeepaliveMiss lender lease s
  | .linkTrained p => Sys2Proof.Machine.execLinkTrained p s
  | .trainFail p => Sys2Proof.Machine.execTrainFail p s
  | .lossOfSignal p => Sys2Proof.Machine.execLossOfSignal p s
  | .retrain p => Sys2Proof.Machine.execRetrain p s
  | .portDisableWrite p value => Sys2Proof.Machine.execPortDisableWrite p value s
  | .capSend p => Sys2Proof.Machine.execCapSend p s
  | .cap p => Sys2Proof.Machine.execCap p s
  | .negotiateTimeout p => Sys2Proof.Machine.execNegotiateTimeout p s
  | .authChal p => Sys2Proof.Machine.execAuthChal p s
  | .authProof p => Sys2Proof.Machine.execAuthProof p s
  | .authResult p => Sys2Proof.Machine.execAuthResult p s
  | .authTimeout p => Sys2Proof.Machine.execAuthTimeout p s
  | .flitReceive p flit fecCorr fecBad => Sys2Proof.Machine.execFlitReceive p flit fecCorr fecBad s
  | .nak p ack => Sys2Proof.Machine.execNak p ack s
  | .packetForward src vc => Sys2Proof.Machine.execPacketForward src vc s
  | .packetWrite => Sys2Proof.Machine.execPacketWrite s
  | .packetRead => Sys2Proof.Machine.execPacketRead s
  | .fetchAdd => Sys2Proof.Machine.execFetchAdd s
  | .masked => Sys2Proof.Machine.execMasked s
  | .readresp => Sys2Proof.Machine.execReadresp s
  | .wrack => Sys2Proof.Machine.execWrack s
  | .atomresp => Sys2Proof.Machine.execAtomresp s
  | .requestTimeout tag => Sys2Proof.Machine.execRequestTimeout tag s
  | .syncSend => Sys2Proof.Machine.execSyncSend s
  | .sync => Sys2Proof.Machine.execSync s
  | .syncResp => Sys2Proof.Machine.execSyncResp s
  | .refclkLoss => Sys2Proof.Machine.execRefclkLoss s
  | .coll => Sys2Proof.Machine.execColl s
  | .hostmsg => Sys2Proof.Machine.execHostmsg s
  | .ethPacket => Sys2Proof.Machine.execEthPacket s
  | .ethFrameRx e frame fecCorr fecBad => Sys2Proof.Machine.execEthFrameRx e frame fecCorr fecBad s
  | .ethFrameTx e => Sys2Proof.Machine.execEthFrameTx e s
  | .fabCntClr => Sys2Proof.Machine.execFabCntClr s
  | .cardLoadFull req => Sys2Proof.Machine.execCardLoadFull req s
  | .cardLoadFunction req => Sys2Proof.Machine.execCardLoadFunction req s
  | .cardCommit flashBad => Sys2Proof.Machine.execCardCommit flashBad s
  | .lockstepMismatch => Sys2Proof.Machine.execLockstepMismatch s
  | .watchdogExpire => Sys2Proof.Machine.execWatchdogExpire s
  | .sensorSample x => Sys2Proof.Machine.execSensorSample x s
  | .railFault r => Sys2Proof.Machine.execRailFault r s
  | .pmbAlert r fault => Sys2Proof.Machine.execPmbAlert r fault s
  | .coldReset straps recovery clock => Sys2Proof.Machine.execColdReset straps recovery s clock
  | .powerOnDetect straps recovery clock => Sys2Proof.Machine.execPowerOnDetect straps recovery s clock
  | .bootVerify => Sys2Proof.Machine.execBootVerify s
  | .bootRails ok => Sys2Proof.Machine.execBootRails ok s
  | .bootHbm fails => Sys2Proof.Machine.execBootHbm fails s
  | .bootPhy fails => Sys2Proof.Machine.execBootPhy fails s
  | .bootNand chans => Sys2Proof.Machine.execBootNand chans s
  | .bootCard flashBad => Sys2Proof.Machine.execBootCard flashBad s
  | .bootHost ok => Sys2Proof.Machine.execBootHost ok s
  | .bootRun => Sys2Proof.Machine.execBootRun s
  | .hello => Sys2Proof.Machine.execHello s
  | .logRead hdr first count => Sys2Proof.Machine.execLogRead hdr first count s
  | .sensors hdr => Sys2Proof.Machine.execSensors hdr s
  | .assayGet hdr nonce off => Sys2Proof.Machine.execAssayGet hdr nonce off s
  | .auth hdr proof => Sys2Proof.Machine.execAuth hdr proof s
  | .data hdr off gap data => Sys2Proof.Machine.execData hdr off gap data s
  | .endRecovery hdr len flashBad => Sys2Proof.Machine.execEndRecovery hdr len flashBad s
  | .sessionTimeout => Sys2Proof.Machine.execSessionTimeout s
  | .mgmtLinkFallback => Sys2Proof.Machine.execMgmtLinkFallback s
  | .stage src => Sys2Proof.Machine.execStage src s
  | .commit src => Sys2Proof.Machine.execCommit src s
  | .fuseAdvance src => Sys2Proof.Machine.execFuseAdvance src s
  | .cardPersist src => Sys2Proof.Machine.execCardPersist src s
  | .assay src => Sys2Proof.Machine.execAssay src s
  | .test src => Sys2Proof.Machine.execTest src s
  | .testStart fail => Sys2Proof.Machine.execTestStart fail s
  | .testDrainTimeout => Sys2Proof.Machine.execTestDrainTimeout s
  | .bench why => Sys2Proof.Machine.execBench why s
  | .unbench src => Sys2Proof.Machine.execUnbench src s
  | .selfReset src => Sys2Proof.Machine.execSelfReset src s
  | .provision src => Sys2Proof.Machine.execProvision src s
  | .errorRecordDeliver => Sys2Proof.Machine.execErrorRecordDeliver s
  | .logSuppressWindow => Sys2Proof.Machine.execLogSuppressWindow s
  | .logPersist => Sys2Proof.Machine.execLogPersist s
  | .logFlush => Sys2Proof.Machine.execLogFlush s
  | .temperPeriod => Sys2Proof.Machine.execTemperPeriod s
  | .dvfsFreq loom value => Sys2Proof.Machine.execDvfsFreq loom value s
  | .dvfsVolt loom value => Sys2Proof.Machine.execDvfsVolt loom value s
  | .dvfsApply n => Sys2Proof.Machine.execDvfsApply n s
  | .voltSlewDone n => Sys2Proof.Machine.execVoltSlewDone n s
  | .ldgBudgetMinWrite value => Sys2Proof.Machine.execLdgBudgetMinWrite value s
  | .ldgCntClr => Sys2Proof.Machine.execLdgCntClr s
  | .domainQuietExpire d => Sys2Proof.Machine.execDomainQuietExpire d s
  | .domainSaveDone d => Sys2Proof.Machine.execDomainSaveDone d s
  | .domainWakeDone d => Sys2Proof.Machine.execDomainWakeDone d s
  | .swvotesWrite d value => Sys2Proof.Machine.execSwvotesWrite d value s
  | .standby => Sys2Proof.Machine.execStandby s
  | .wakePattern p => Sys2Proof.Machine.execWakePattern p s
  | .ethSignalDetect e => Sys2Proof.Machine.execEthSignalDetect e s
  | .mgmtWake => Sys2Proof.Machine.execMgmtWake s
  | .brownOut => Sys2Proof.Machine.execBrownOut s
  | .wakeTx ports => Sys2Proof.Machine.execWakeTx ports s
  | .warmReset => Sys2Proof.Machine.execWarmReset s
  | .functionReset => Sys2Proof.Machine.execFunctionReset s
  | .loomReset n => Sys2Proof.Machine.execLoomReset n s
  | .slvCommandDone flashBad => Sys2Proof.Machine.execSlvCommandDone flashBad s
  | .tierCommandDone nbt => Sys2Proof.Machine.execTierCommandDone nbt s
  | .ethLinkUp e => Sys2Proof.Machine.execEthLinkUp e s
  | .ethLinkLoss e => Sys2Proof.Machine.execEthLinkLoss e s
  | .ethCtlWrite e value => Sys2Proof.Machine.execEthCtlWrite e value s
  | .refclkRestore => Sys2Proof.Machine.execRefclkRestore s
  | .testAccessPort trst tms tdi pins => Sys2Proof.Machine.execTestAccessPort trst tms tdi pins s
  | .garbageCollection fails => Sys2Proof.Machine.execGarbageCollection s fails

end Sys2Proof.Machine
end

