-- ==== Sys2Proof/Machine/Tick.lean ====
section
/-! DEFINITION. What happens with time alone: one cycle of REFCLK_RACK (R393, R394), and what was waiting for its turn (R315, R486). -/
namespace Sys2Proof.Machine

/-- The whole units that rate correction adds, or omits, in a cycle, and the remainder that it carries (R393, R394). -/
def rateStep (acc ppb : Int) : Int × Int :=
  let total := acc + 32 * ppb
  (total.tdiv 1000000000, total.tmod 1000000000)

/-- FAB_EPOCH advances by 32 units in a REFCLK_RACK cycle, corrected for rate; a negative offset is absorbed by omitting every second unit
(R393). It stays 0 from cold reset until the first exchange, or until a Card image makes this device the master, which runs none
(R394, R410, R498). -/
def State.countEpoch (s : State) : State :=
  if !s.fab.counting then s
  else
    let (extra, rest) := rateStep s.fab.rateAcc (toSigned 32 (s.get FAB_SYNC_RATE_PPB))
    let units := (32 + extra).toNat
    let omitted := min s.fab.slew (units / 2)
    (s.modFab fun f => { f with slew := f.slew - omitted, rateAcc := rest }).add FAB_EPOCH_T (units - omitted)

/-- Ports that owe their peers credits send IDLE flits (R372). -/
def State.idleTick (s : State) : State :=
  (List.range 6).foldl (fun s p => if (s.creditOut p).isSome then s.idleOut p else s) s

/-- One cycle of REFCLK_RACK: the epoch counts, ports send IDLE flits (R372), a signature pair that is due is made (R460), votes wake domains
(R486), the serving controller aborts the steps that a fault has ended (R315), the APLIC domain looks at its sources (R514), and what has waited
for domains that have come ON is done (R486). -/
def State.tick (s : State) : State :=
  (s.modMgmt fun m => { m with upTime := m.upTime + 32 }).countEpoch.idleTick.signTick.voteWake.svcWatch.aplicLook.serveHeld []

end Sys2Proof.Machine
end

