-- ==== Sys2Proof/Machine/Step.lean ====
section
/-! DEFINITION. One step: the command at the front of the queue, or a cycle of the reference clock. -/
namespace Sys2Proof.Machine

/-- With no command to take, the first command that has waited for the stacks goes on once they are awake (R486); else one REFCLK_RACK cycle
passes (R393). -/
def State.idle (s : State) : Host.Outcome State Fault Refusal :=
  match s.waiting with
  | [] => .next s.tick
  | c :: rest => if s.stacksAsleep then .next s.tick else exec c { s with waiting := rest }

/-- The step: the command at the front of the queue acts on the state with the queue's rest; on an empty queue the block idles. -/
def step (s : State) : Host.Outcome State Fault Refusal :=
  match s.pending with
  | [] => s.idle
  | c :: rest => exec c { s with pending := rest }

/-- The state with the command that a word spells at the front of its queue; no word spells one. -/
def State.withFetchWord (s : State) (nbits w : Nat) : State :=
  match decodeTableWord nbits w with
  | none => s
  | some c => { s with pending := c :: s.pending }

end Sys2Proof.Machine
end

