-- ==== Sys2Proof/Safety.lean ====
section
/-! DEFINITION. The terms in which claims about the device are stated: the canonical form of memory, and what a command leaves as it
was. -/
namespace Sys2Proof.Machine

/-! ### Memory -/

/-- The canonical form of a memory: addresses strictly rising, and no cell that holds what an unlisted address reads as. -/
def Memory.wf (m : List Host.Cell) : Bool := twf 0 m

/-- The device's memory and its poison marks are in canonical form. -/
def State.memWf (s : State) : Prop := Memory.wf s.mem = true ∧ twf 0 s.poison = true

/-! ### Frames -/

/-- From s to t no register field changes but those of the list. -/
def SameFields (s t : State) (fs : List Fld) : Prop := ∀ f : Fld, f.key ∉ fs.map Fld.key → t.get f = s.get f

/-- From s to t only register fields change, and only those of the list: memory, looms, units and queues stay. -/
def OnlyFields (s t : State) (fs : List Fld) : Prop := { t with flds := s.flds } = s ∧ SameFields s t fs

/-- From s to t only loom n's own state and the listed register fields change. -/
def OnlyLoom (s t : State) (n : Nat) (fs : List Fld) : Prop :=
  { t with flds := s.flds, looms := s.looms } = s ∧ (∀ m, m ≠ n → t.lm m = s.lm m) ∧ SameFields s t fs

/-- From s to t memory and its poison marks stay. -/
def SameMemory (s t : State) : Prop := (∀ a, t.byteAt a = s.byteAt a) ∧ t.poison = s.poison

/-- From s to t every byte of memory outside [a, a + n) reads as before. -/
def SameOutside (s t : State) (a n : Nat) : Prop := ∀ x, x < a ∨ a + n ≤ x → t.byteAt x = s.byteAt x

end Sys2Proof.Machine
end

