-- ==== Sys2Proof/Certificates/Slice0/Obligations.lean ====
section
/-! DEFINITION. The statements for the provers: what each command does, where it completes, what it leaves, and what every step keeps. -/

section Obligations
open Sys2Proof Sys2Proof.Machine

/-! ### The interface -/

/-- With a command at the front of the queue, a step is that command's effect on the state with the queue's rest. -/
def Obligations.StepRunsFrontCommand : Prop :=
  ∀ (c : Instr) (rest : List Instr) (s : State), step { s with pending := c :: rest } = exec c { s with pending := rest }

/-- With an empty queue, where no command waits for the stacks, a step is one cycle of REFCLK_RACK (log 1, the model's choice): it completes;
where no access is held, no write of the device's own waits, no step is frozen, no signature pair is being made, no votes wake domains, no port with a link owes its peer credits and no APLIC source is in use, only the time since power-on and FAB_EPOCH go on. FAB_EPOCH stays while no time has
been set (R410), and else, where no correction of it is under way, goes on by 32 units. Where a command waits for the stacks (log 143), a step
is a cycle while they are asleep, and once they are awake the first one's effect. -/
def Obligations.EmptyQueueTicks : Prop :=
  ∀ s : State, s.pending = [] →
    (s.waiting = [] → ∃ t, step s = .next t ∧ t = s.tick
    ∧ (s.held = [] → s.posts = [] → s.svc.plans = [] → s.mgmt.signing = none → s.is PWR_CTL_POLICY = false →
        (∀ p, p < 6 → s.linkAlive p = true → s.creditOut p = none) → s.plat.mode = [] →
      t.mgmt.upTime = s.mgmt.upTime + 32
      ∧ { t with mgmt := { t.mgmt with upTime := s.mgmt.upTime }, fab := s.fab, flds := s.flds } = s ∧ SameFields s t [FAB_EPOCH_T]
      ∧ (s.fab.counting = false → t.fab = s.fab ∧ t.get FAB_EPOCH_T = s.get FAB_EPOCH_T)
      ∧ (s.fab.counting = true → s.fab.slew = 0 → s.fab.rateAcc = 0 → s.get FAB_SYNC_RATE_PPB = 0 →
        t.fab = s.fab ∧ t.get FAB_EPOCH_T = (s.get FAB_EPOCH_T + 32) % 2 ^ 64)))
    ∧ (∀ c rest, s.waiting = c :: rest →
      (s.stacksAsleep = true → step s = .next s.tick) ∧ (s.stacksAsleep = false → step s = exec c { s with waiting := rest }))

/-- After reset every register field holds the Reset column of its table, no command waits, and no memory byte, poison mark or
loom state differs from what it holds at reset. -/
def ResetState : Prop :=
  (∀ f : Fld, State.reset.get f = f.reset % 2 ^ f.width) ∧ State.reset.pending = [] ∧ (∀ a, State.reset.byteAt a = 0)
    ∧ State.reset.poison = [] ∧ (∀ n, State.reset.lm n = Loom.reset) ∧ State.reset.freeCount = 0

/-- Memory is in canonical form after reset. -/
def ResetMemoryCanonical : Prop := State.reset.memWf

/-- Every step keeps memory and its poison marks in canonical form, whatever the command and the state. -/
def Obligations.StepKeepsMemoryCanonical : Prop :=
  ∀ s t : State, s.memWf → step s = .next t → t.memWf

/-- Every accumulator lies within ±(2^39 − 1), R55, and no loom is more than four loops deep, R238, nor goes back to a deeper place at a
GCHECK. -/
def WithinBounds (s : State) : Prop :=
  (∀ n set row a, a ∈ s.accRow n set row → -(2 ^ 39 - 1) ≤ a ∧ a ≤ 2 ^ 39 - 1)
    ∧ (∀ n, (s.lm n).seq.loops.length ≤ 4 ∧ (s.lm n).grd.gloops.length ≤ 4)

/-- The Ledger's outstanding count is the sum of the credits that the 144 looms hold, R36 and R37; the requests that wait are of looms that
exist, and so are the looms of a test under way. -/
def LedgerBalanced (s : State) : Prop :=
  s.get LDG_STATUS_OUTSTANDING = ((List.range 144).map fun n => s.get (LDG_CREDIT_HELD n)).sum ∧ (∀ r ∈ s.ledger, r.loom < 144)
    ∧ (∀ x, s.mgmt.test = some x → x.unit < 256 * 144 ∧ ∀ n ∈ x.looms, n < 144)

/-- Accumulators and loops are within their bounds, and the Ledger balances, after reset. -/
def ResetWithinBounds : Prop := WithinBounds State.reset ∧ LedgerBalanced State.reset

/-- Every step, whatever the command, keeps every accumulator within ±(2^39 − 1) and every loom no more than four loops deep. -/
def Obligations.StepKeepsBounds : Prop := ∀ s t : State, WithinBounds s → step s = .next t → WithinBounds t

/-- Every step, whatever the command, keeps the Ledger's outstanding count equal to the sum of the credits that the looms hold. -/
def Obligations.StepKeepsLedgerBalanced : Prop := ∀ s t : State, LedgerBalanced s → step s = .next t → LedgerBalanced t

/-! ### The sequencer's own words (R234 to R238, R246, R279, R282) -/

/-- NOP, STEP and REPAY at issue: LOOM_PC names the word, the next word follows, and its DELTA has passed; STEP idles
issue until a launch, and REPAY empties the pool and pauses for what the chain has not slipped of its slack. -/
def SequencerWordsIssue : Prop :=
  ∀ (n : LoomNo) (s : State) (w : DWord),
    (s.fetchWord n 0 0 = .ok w → ∃ t, exec (.nop n) s = .next t
      ∧ (t.lm n).seq.next = (s.lm n).seq.next + 1 ∧ (t.lm n).seq.cycles = (s.lm n).seq.cycles + w.delta
      ∧ t.get (LOOM_PC_PC n) = (s.lm n).seq.next % 2 ^ 16 ∧ OnlyLoom s t n [LOOM_PC_PC n])
    ∧ (s.fetchWord n 0 1 = .ok w → ∃ t, exec (.step n) s = .next t
      ∧ (t.lm n).seq.next = (s.lm n).seq.next + 1 ∧ (t.lm n).seq.atStep = true
      ∧ t.get (LOOM_PC_PC n) = (s.lm n).seq.next % 2 ^ 16 ∧ OnlyLoom s t n [LOOM_PC_PC n])
    ∧ (s.fetchWord n 0 8 = .ok w → ∃ t, exec (.repay n) s = .next t
      ∧ (t.lm n).seq.next = (s.lm n).seq.next + 1 ∧ (t.lm n).seq.pool = 0
      ∧ (t.lm n).seq.cycles = (s.lm n).seq.cycles + w.delta + (w.arg - (s.lm n).seq.slipped)
      ∧ t.get (LOOM_PC_PC n) = (s.lm n).seq.next % 2 ^ 16 ∧ OnlyLoom s t n [LOOM_PC_PC n])

/-- LOOP pushes its count with the index of the word after it; ENDLOOP goes back to that word while iterations are left, and pops the
loop at the last one; a fifth level, a count of 0 and an ENDLOOP without a LOOP are Draft faults with cause LOOP (7). -/
def LoopsNest : Prop :=
  ∀ (n : LoomNo) (s : State) (w : DWord),
    (s.fetchWord n 0 3 = .ok w → w.arg ≠ 0 → (s.lm n).seq.loops.length < 4 → ∃ t, exec (.loop n) s = .next t
      ∧ (t.lm n).seq.next = (s.lm n).seq.next + 1
      ∧ (t.lm n).seq.loops = ((s.lm n).seq.next + 1, w.arg) :: (s.lm n).seq.loops ∧ OnlyLoom s t n [LOOM_PC_PC n])
    ∧ (s.fetchWord n 0 3 = .ok w → w.arg = 0 ∨ 4 ≤ (s.lm n).seq.loops.length → ∃ t, exec (.loop n) s = .next t
      ∧ t.get (LOOM_STATUS_FAULT n) = 1 ∧ t.get (LOOM_FAULT_CAUSE n) = 7 ∧ t.get (LOOM_STATUS_RUN n) = 0)
    ∧ (∀ first k outer, s.fetchWord n 0 4 = .ok w → (s.lm n).seq.loops = (first, k) :: outer → ∃ t, exec (.endloop n) s = .next t
      ∧ (t.lm n).seq.next = (if 1 < k then first else (s.lm n).seq.next + 1)
      ∧ (t.lm n).seq.loops = (if 1 < k then (first, k - 1) :: outer else outer) ∧ OnlyLoom s t n [LOOM_PC_PC n])
    ∧ (s.fetchWord n 0 4 = .ok w → (s.lm n).seq.loops = [] → ∃ t, exec (.endloop n) s = .next t
      ∧ t.get (LOOM_STATUS_FAULT n) = 1 ∧ t.get (LOOM_FAULT_CAUSE n) = 7)

/-- SKIPZ with a lawful target jumps to it when the tally total that ARG[23:16] names is 0, and otherwise goes on with the next word. -/
def SkipzJumpsOnZero : Prop :=
  ∀ (n : LoomNo) (s : State) (w : DWord), s.fetchWord n 0 5 = .ok w →
    (s.lm n).seq.next < w.arg % 65536 → w.arg % 65536 < s.draftWords n →
    s.depthAfter n (w.arg % 65536 - (s.lm n).seq.next - 1) ((s.lm n).seq.next + 1) 0 = some 0 →
    ∃ t, exec (.skipz n) s = .next t
      ∧ (t.lm n).seq.next = (if s.tallyTotal n (bits w.arg 16 8) = 0 then w.arg % 65536 else (s.lm n).seq.next + 1)
      ∧ t.get (LOOM_PC_PC n) = (s.lm n).seq.next % 2 ^ 16 ∧ OnlyLoom s t n [LOOM_PC_PC n]

/-- WAIT of class TALLY and of class WRITES, and END, pause issue for what they name with the word's BUDGET and SLACK, while no peer
has faulted; with PEER_FAULT set each stops the sequencer instead. A WAIT of class TALLY inside a span sets XFER and is a Draft fault with
cause ENGINE (4) on the SEQ unit (0). -/
def WaitsPauseIssue : Prop :=
  ∀ (n : LoomNo) (s : State) (w : DWord),
    (s.fetchWord n 0 6 = .ok w → w.arg % 16 = 0 → s.is (GRD_STATUS_SPAN_OPEN n) = false → s.is (LOOM_STATUS_PEER_FAULT n) = false →
      ∃ t, exec (.waitTally n) s = .next t
        ∧ (t.lm n).seq.pause = some ⟨.tally (bits w.arg 8 8), w.budget, w.slack, false⟩
        ∧ (t.lm n).seq.next = (s.lm n).seq.next + 1 ∧ OnlyLoom s t n [LOOM_PC_PC n])
    ∧ (s.fetchWord n 0 6 = .ok w → w.arg % 16 = 0 → s.is (GRD_STATUS_SPAN_OPEN n) = true →
      ∃ t, exec (.waitTally n) s = .next t ∧ t.get (GRD_ERR_XFER n) = 1 ∧ t.get (LOOM_STATUS_FAULT n) = 1 ∧ t.get (LOOM_FAULT_CAUSE n) = 4
        ∧ t.get (LOOM_FAULT_UNIT n) = 0 ∧ (t.lm n).seq.pause = none ∧ SameMemory s t)
    ∧ (s.fetchWord n 0 6 = .ok w → w.arg % 16 = 0 → s.is (GRD_STATUS_SPAN_OPEN n) = false → s.is (LOOM_STATUS_PEER_FAULT n) = true →
      ∃ t, exec (.waitTally n) s = .next t ∧ t.get (LOOM_STATUS_RUN n) = 0 ∧ (t.lm n).seq.pause = none
        ∧ OnlyLoom s t n [LOOM_STATUS_RUN n])
    ∧ (s.fetchWord n 0 6 = .ok w → w.arg % 16 = 2 → s.is (LOOM_STATUS_PEER_FAULT n) = true →
      ∃ t, exec (.waitWrites n) s = .next t ∧ t.get (LOOM_STATUS_RUN n) = 0 ∧ (t.lm n).seq.pause = none
        ∧ OnlyLoom s t n [LOOM_STATUS_RUN n])
    ∧ (s.fetchWord n 0 6 = .ok w → w.arg % 16 = 2 → s.is (LOOM_STATUS_PEER_FAULT n) = false →
      ∃ t, exec (.waitWrites n) s = .next t ∧ (t.lm n).seq.pause = some ⟨.writes, w.budget, w.slack, false⟩
        ∧ (t.lm n).seq.next = (s.lm n).seq.next + 1 ∧ OnlyLoom s t n [LOOM_PC_PC n])
    ∧ (s.fetchWord n 0 2 = .ok w → s.is (LOOM_STATUS_PEER_FAULT n) = false →
      ∃ t, exec (.endStep n) s = .next t ∧ (t.lm n).seq.pause = some ⟨.endStep, 0, 0, false⟩
        ∧ (t.lm n).seq.next = (s.lm n).seq.next + 1 ∧ OnlyLoom s t n [LOOM_PC_PC n])
    ∧ (s.fetchWord n 0 2 = .ok w → s.is (LOOM_STATUS_PEER_FAULT n) = true →
      ∃ t, exec (.endStep n) s = .next t ∧ t.get (LOOM_STATUS_RUN n) = 0 ∧ (t.lm n).seq.pause = none
        ∧ OnlyLoom s t n [LOOM_STATUS_RUN n])

/-- WAIT of class COLL: the loom pauses for the collective that the word names with the word's BUDGET and SLACK, and the collective engine's
read of its source segment, at SRC_OFF and of the length that R396 fixes now, joins the loom's inbound FIFO. A loom that takes no part in the
collective pauses alone (log 75, the model's choice); inside a span the word sets XFER and is a Draft fault with cause ENGINE (4) on the SEQ
unit (0); and a loom with PEER_FAULT stops. -/
def WaitCollJoins : Prop :=
  ∀ (n : LoomNo) (s : State) (w : DWord) (c len : Nat), s.fetchWord n 0 6 = .ok w → w.arg % 16 = 1 → c = bits w.arg 8 8 →
    len = s.collLen c n →
    (s.is (GRD_STATUS_SPAN_OPEN n) = false → s.is (LOOM_STATUS_PEER_FAULT n) = false → ∃ t, exec (.waitColl n) s = .next t
      ∧ (t.lm n).seq.next = (s.lm n).seq.next + 1 ∧ t.get (LOOM_PC_PC n) = (s.lm n).seq.next % 2 ^ 16
      ∧ (t.lm n).seq.pause = some ⟨.coll c false, w.budget, w.slack, false⟩
      ∧ (t.lm n).spd.fifo = (s.lm n).spd.fifo ++ (if s.collHas c n then
          [⟨.source c (s.stepOf n), s.get (FAB_COLL_SRC_OFF c), len, [], false, 0, .collective, none, 0, false⟩] else [])
      ∧ OnlyLoom s t n [LOOM_PC_PC n])
    ∧ (s.is (GRD_STATUS_SPAN_OPEN n) = true → ∃ t, exec (.waitColl n) s = .next t ∧ t.get (GRD_ERR_XFER n) = 1
      ∧ t.get (LOOM_STATUS_FAULT n) = 1 ∧ t.get (LOOM_FAULT_CAUSE n) = 4 ∧ t.get (LOOM_FAULT_UNIT n) = 0 ∧ SameMemory s t)
    ∧ (s.is (GRD_STATUS_SPAN_OPEN n) = false → s.is (LOOM_STATUS_PEER_FAULT n) = true → ∃ t, exec (.waitColl n) s = .next t
      ∧ t.get (LOOM_STATUS_RUN n) = 0 ∧ (t.lm n).seq.pause = none ∧ OnlyLoom s t n [LOOM_STATUS_RUN n])

/-- The port takes the collective engine's read from the loom's FIFO: the loom's segment is its contribution, and where an ALLREDUCE still waits
for another loom of this device, nothing is reduced yet. A read whose step has ended meanwhile goes nowhere. -/
def SourceSegmentsJoin : Prop :=
  ∀ (n : LoomNo) (s : State) (c step deferred : Nat) (x : Inbound) (rest : List Inbound), s.ncOpen n = true →
    (s.lm n).spd.fifo = x :: rest → x.kind = .source c step →
    (∀ b sl e i, step = s.stepOf n → (s.lm n).seq.pause = some ⟨.coll c false, b, sl, e⟩ → s.is (LOOM_STATUS_BENCHED n) = false →
      x.off + x.len ≤ spadSize n → s.get (FAB_COLL_OP c) = 0 → i = s.collIndex c n → (∀ y ∈ (s.collStep c step).parts, y.from_ ≠ i) →
      (∃ m ∈ s.collLooms c, s.collIndex c m ≠ i ∧ (s.collStep c step).part (s.collIndex c m) = none) →
      ∃ t, exec (.ncInboundServe n deferred []) s = .next t ∧ (t.lm n).spd.fifo = rest
        ∧ (t.collStep c step).part i = some ⟨i, (s.spRead n x.off x.len).length, s.spRead n x.off x.len, s.spPoisoned n x.off x.len, true⟩
        ∧ (t.lm n).seq = (s.lm n).seq ∧ SameMemory s t ∧ (∀ m, m ≠ n.val → t.lm m = s.lm m)
        ∧ SameFields s t [SPD_CNT_NC_DEFER_DEFER n, SPD_CNT_POISON_POISON n])
    ∧ (step ≠ s.stepOf n → ∃ t, exec (.ncInboundServe n deferred []) s = .next t ∧ (t.lm n).spd.fifo = rest
        ∧ OnlyLoom s t n [SPD_CNT_NC_DEFER_DEFER n])

/-! ### Starting, stopping, launching and reporting (R230 to R232, R237, R261) -/

/-- RUN written 1 on a stopped, awake loom of a bolt with a lawful header starts the sequencer at ENTRY; a header that R230 refuses is a Draft
fault with cause HEADER (1) and PC 0 (log 17, deduced). A loom in no bolt runs no Draft (R22): RUN starts nothing there. The write to a loom that is
asleep waits until the loom has woken (R486). -/
def RunStartsAtEntry : Prop :=
  ∀ (n : LoomNo) (s : State), s.is (LOOM_STATUS_RUN n) = false → s.is (LOOM_STATUS_FAULT n) = false →
    s.is (LOOM_STATUS_PEER_FAULT n) = false → s.is (LOOM_STATUS_BENCHED n) = false →
    (s.asleep n = true → ∃ t, exec (.runStart n) s = .next t ∧ t.looms = s.looms ∧ SameMemory s t ∧ t.get (LOOM_STATUS_RUN n) = 0
      ∧ t.held = s.held ++ [⟨.host, true, (LOOM_CTL_RUN n).key / 8, 1, [1], 0, false, false⟩] ∧ SameFields s t [PWR_DOM_STATE n])
    ∧ (s.asleep n = false → s.boltOf n = none → ∃ t, exec (.runStart n) s = .next t ∧ t.get (LOOM_STATUS_RUN n) = 0 ∧ (t.lm n).seq.next = (s.lm n).seq.next
      ∧ OnlyLoom s t n [LOOM_CTL_RUN n])
    ∧ (s.asleep n = false → (s.boltOf n).isSome = true → s.headerBad n = false → ∃ t, exec (.runStart n) s = .next t
      ∧ t.get (LOOM_STATUS_RUN n) = 1 ∧ t.get (LOOM_CTL_RUN n) = 1 ∧ (t.lm n).seq.next = s.draftEntry n ∧ (t.lm n).seq.loops = []
      ∧ OnlyLoom s t n [ACC_STATUS_COMPAT n, LOOM_STATUS_RUN n, LOOM_CTL_RUN n])
    ∧ (s.asleep n = false → (s.boltOf n).isSome = true → s.headerBad n = true → ∃ t, exec (.runStart n) s = .next t
      ∧ t.get (LOOM_STATUS_RUN n) = 0 ∧ t.get (LOOM_STATUS_FAULT n) = 1 ∧ t.get (LOOM_FAULT_CAUSE n) = 1 ∧ t.get (LOOM_FAULT_PC n) = 0)

/-- RUN written 0 asks a running sequencer to stop after its next END and changes nothing else; CNT_CLR clears the hold counters and
nothing else. -/
def RunStopAndCounterClear : Prop :=
  ∀ (n : LoomNo) (s : State),
    (∃ t, exec (.runStop n) s = .next t ∧ t.get (LOOM_CTL_RUN n) = 0 ∧ (t.lm n).seq.stopReq = s.is (LOOM_STATUS_RUN n)
      ∧ t.get (LOOM_STATUS_RUN n) = s.get (LOOM_STATUS_RUN n) ∧ OnlyLoom s t n [LOOM_CTL_RUN n])
    ∧ (∃ t, exec (.loomCntClr n) s = .next t
      ∧ (∀ c, c < 5 → t.get (LOOM_HOLD_CNT_EVENTS n c) = 0 ∧ t.get (LOOM_HOLD_CYC_CYCLES n c) = 0)
      ∧ OnlyFields s t ((List.range 5).map (LOOM_HOLD_CNT_EVENTS n) ++ (List.range 5).map (LOOM_HOLD_CYC_CYCLES n)))

/-- A write into the Draft store of a stopped loom, by a requester that reaches Draft stores (R33), stores its bytes and no others; while the
loom runs, and from any other requester, it is DENIED (3) and stores nothing; that of a benched loom is BENCHED (2; the order of the statuses
is log 95, deduced). A write to an unbenched loom whose domain is not ON waits (log 96, the model's choice). A read by a host core gives the
bytes held, whether the loom runs or not. -/
def Obligations.DraftStoreWrites : Prop :=
  ∀ (n : LoomNo) (req : Requester) (tenant off : Nat) (data : List Byte) (s : State), off + data.length ≤ 0x100000 → data ≠ [] →
    (s.is (LOOM_STATUS_BENCHED n) = false → s.get (PWR_DOM_STATE n) = 3 →
      (reachesRegs req tenant = true → s.is (LOOM_STATUS_RUN n) = false → ∃ t, exec (.draftStoreWrite n req off data tenant) s = .next t
        ∧ (∀ i (h : i < data.length), t.byteAt (draftAddr n off + i) = data[i])
        ∧ SameOutside s t (draftAddr n off) data.length ∧ t.resp = ⟨0, [], false⟩ ∧ t.errs = s.errs ∧ t.flds = s.flds ∧ t.looms = s.looms)
      ∧ (reachesRegs req tenant = false ∨ s.is (LOOM_STATUS_RUN n) = true → ∃ t, exec (.draftStoreWrite n req off data tenant) s = .next t
        ∧ t.resp = ⟨3, [], false⟩ ∧ t.mem = s.mem ∧ t.poison = s.poison ∧ t.flds = s.flds ∧ t.looms = s.looms))
    ∧ (s.is (LOOM_STATUS_BENCHED n) = true → ∃ t, exec (.draftStoreWrite n req off data tenant) s = .next t
      ∧ t.resp = ⟨2, [], false⟩ ∧ t.mem = s.mem ∧ t.poison = s.poison ∧ t.flds = s.flds ∧ t.looms = s.looms)
    ∧ (s.is (LOOM_STATUS_BENCHED n) = false → s.get (PWR_DOM_STATE n) ≠ 3 → ∃ t, exec (.draftStoreWrite n req off data tenant) s = .next t
      ∧ t.held.length = s.held.length + 1 ∧ t.mem = s.mem ∧ t.poison = s.poison ∧ t.looms = s.looms)
    ∧ (∀ len deferred, s.is (LOOM_STATUS_BENCHED n) = false → s.get (PWR_DOM_STATE n) = 3 → 0 < len → off % 65536 + len ≤ 65536 →
      off + len ≤ 0x100000 → ∃ t, exec (.localAccess ⟨.host, false, draftAddr n off, len, [], 0, false, false⟩ deferred) s = .next t
        ∧ t.resp = ⟨0, s.bytesAt (draftAddr n off) len, false⟩ ∧ t.flds = s.flds ∧ SameMemory s t ∧ t.looms = s.looms)

/-- A launch that has reached a running loom at STEP starts the step: the step number is latched, IN_STEP is set, and the registers of
the last step clear. -/
def LaunchStartsStep : Prop :=
  ∀ (n : LoomNo) (s : State) (k : Nat), (s.lm n).seq.launch = some k → (s.lm n).seq.atStep = true →
    s.is (LOOM_STATUS_RUN n) = true → s.frozen n = false → s.asleep n = false →
    ∃ t, exec (.stepLaunch n) s = .next t ∧ t.get (LOOM_STEP_STEP n) = k % 2 ^ 32 ∧ t.get (LOOM_STATUS_IN_STEP n) = 1
      ∧ (t.lm n).seq.atStep = false ∧ (t.lm n).seq.launch = none ∧ (t.lm n).seq.cycles = 0
      ∧ t.get (LOOM_SLIP_CYCLES n) = 0 ∧ (∀ c, c < 5 → t.get (LOOM_STEP_HOLD_CYCLES n c) = 0)
      ∧ OnlyLoom s t n (LOOM_STEP_STEP n :: LOOM_STATUS_IN_STEP n :: stepFields n)

/-- Once the step's operations have completed and its writes are acknowledged, END reports: LOOM_STEP_ACTUAL takes the step's cycles, no
fewer than a window load under way needs (R234), IN_STEP falls, and the Draft goes on at ENTRY; where RUN was written 0 the sequencer stops. -/
def EndReports : Prop :=
  ∀ (n : LoomNo) (cycles b sl : Nat) (e : Bool) (s : State), (s.lm n).seq.pause = some ⟨.endStep, b, sl, e⟩ → s.opsIdle n = true →
    (s.lm n).seq.writesOut = 0 → s.frozen n = false →
    ∃ t, exec (.endReport n cycles) s = .next t
      ∧ t.get (LOOM_STEP_ACTUAL_CYCLES n) = max ((s.lm n).seq.cycles + cycles) (s.lm n).seq.accFree % 2 ^ 64 ∧ t.get (LOOM_STATUS_IN_STEP n) = 0
      ∧ (t.lm n).seq.pause = none ∧ (t.lm n).seq.next = s.draftEntry n ∧ (t.lm n).seq.loops = []
      ∧ t.get (LOOM_STATUS_RUN n) = (if (s.lm n).seq.stopReq then 0 else s.get (LOOM_STATUS_RUN n))
      ∧ OnlyLoom s t n [LOOM_STEP_ACTUAL_CYCLES n, LOOM_STATUS_IN_STEP n, LOOM_STATUS_RUN n]

/-! ### Holds, pauses and peer faults (R241, R242, R244, R248) -/

/-- A WAIT for writes that outlasts its BUDGET and SLACK becomes a hold with cause REMOTE (4); one whose writes are acknowledged ends
after its BUDGET, and within its SLACK. -/
def PausesEnd : Prop :=
  ∀ (n : LoomNo) (s : State) (b sl cycles : Nat), (s.lm n).seq.pause = some ⟨.writes, b, sl, false⟩ → s.frozen n = false →
    ((s.lm n).seq.writesOut ≠ 0 → ∃ t, exec (.slackExpire n) s = .next t
      ∧ (t.lm n).seq.holds = [⟨4, none⟩] ∧ t.get (LOOM_STATUS_HOLD n) = 1 ∧ t.get (LOOM_STATUS_HOLD_CAUSE n) = 4
      ∧ (t.lm n).seq.cycles = (s.lm n).seq.cycles + b + sl
      ∧ OnlyLoom s t n [LOOM_STATUS_HOLD n, LOOM_STATUS_HOLD_CAUSE n, LOOM_HOLD_CNT_EVENTS n 4, LOOM_STEP_HOLD_EVENTS n 4])
    ∧ ((s.lm n).seq.writesOut = 0 → ∃ t, exec (.pauseBudgetExpire n cycles) s = .next t
      ∧ (t.lm n).seq.pause = none ∧ (t.lm n).seq.cycles = (s.lm n).seq.cycles + min (max b cycles) (b + sl) ∧ OnlyLoom s t n [])

/-- A hold of fixed length ends after its cycles: they are counted under its cause, and HOLD falls. -/
def HoldEnds : Prop :=
  ∀ (n : LoomNo) (s : State) (c k cycles : Nat), c < 5 → (s.lm n).seq.slip = 0 → (s.lm n).seq.holds = [⟨c, some k⟩] →
    ∃ t, exec (.holdResume n cycles) s = .next t ∧ (t.lm n).seq.holds = [] ∧ t.get (LOOM_STATUS_HOLD n) = 0
      ∧ t.get (LOOM_HOLD_CYC_CYCLES n c) = (s.get (LOOM_HOLD_CYC_CYCLES n c) + k) % 2 ^ (LOOM_HOLD_CYC_CYCLES n c).width
      ∧ (t.lm n).seq.cycles = (s.lm n).seq.cycles + k
      ∧ OnlyLoom s t n [LOOM_STATUS_HOLD n, LOOM_HOLD_CYC_CYCLES n c, LOOM_STEP_HOLD_CYCLES n c]

/-- A running loom with PEER_FAULT set that pauses in a WAIT or an END stops: RUN falls, its pause and its holds end, and no other loom
and no byte of memory changes. -/
def PeerFaultStops : Prop :=
  ∀ (n : LoomNo) (s : State) (p : Pause), s.is (LOOM_STATUS_PEER_FAULT n) = true → s.is (LOOM_STATUS_RUN n) = true →
    (s.lm n).seq.pause = some p → p.kind ≠ .grant →
    ∃ t, exec (.peerFaultStop n) s = .next t ∧ t.get (LOOM_STATUS_RUN n) = 0 ∧ t.get (LOOM_STATUS_PEER_FAULT n) = 1
      ∧ (t.lm n).seq.pause = none ∧ (t.lm n).seq.holds = []
      ∧ OnlyLoom s t n [LOOM_STATUS_RUN n, LOOM_STATUS_HOLD n, LOOM_STATUS_PEER_FAULT n]

/-! ### Tiles and the Current Ledger (R36 to R39, R236, R476, R477) -/

/-- The request r joins the order of arrival l, which then is l' (R38): it stands before the first request of its own ledger cycle (one that
is fresh) that its class and loom put behind it, and every other request keeps its place. -/
def JoinsInOrder (r : LdgReq) (l l' : List LdgReq) : Prop :=
  ∃ a b, l = a ++ b ∧ l' = a ++ r :: b ∧ (∀ x ∈ a, x.fresh = true → r.before x = false)
    ∧ (∀ y, b.head? = some y → y.fresh = true ∧ r.before y = true)

/-- A TILE word asks the ledger for the credits of its LMODE with its bolt's class and waits in the order of arrival; a request beyond the
effective minimum less RESERVE sets OVERSIZE and is a Draft fault with cause ENGINE (4) and UNIT SEQ (0). Where a ledger cycle ends, and the class
of a loom in no bolt, are log 110, the model's choices. -/
def TileAsksLedger : Prop :=
  ∀ (n : LoomNo) (s : State) (w : DWord), s.fetchWord n 0 7 = .ok w →
    (0 < s.requestSize n w.lmode → s.requestSize n w.lmode ≤ s.get LDG_BUDGET_MIN_EFFECTIVE - s.get LDG_RESERVE_RESERVE →
      ∃ t, exec (.tile n) s = .next t ∧ JoinsInOrder ⟨n, s.requestSize n w.lmode, s.ledgerClass n, true⟩ s.ledger t.ledger
        ∧ (t.lm n).seq.pause = some ⟨.grant, 0, w.slack, false⟩
        ∧ (t.lm n).seq.tile = some ⟨w.lmode, s.requestSize n w.lmode, false, w.budget, w.slack, w.layer, false, false⟩
        ∧ SameMemory s t ∧ (∀ m, m ≠ n.val → t.lm m = s.lm m))
    ∧ (s.get LDG_BUDGET_MIN_EFFECTIVE - s.get LDG_RESERVE_RESERVE < s.requestSize n w.lmode →
      ∃ t, exec (.tile n) s = .next t ∧ t.get LDG_ERR_OVERSIZE = 1 ∧ t.get (LOOM_STATUS_FAULT n) = 1
        ∧ t.get (LOOM_FAULT_CAUSE n) = 4 ∧ t.get (LOOM_FAULT_UNIT n) = 0 ∧ t.ledger = s.ledger)

/-- The requests of a ledger cycle that the decision ends: each keeps its place. -/
def aged (l : List LdgReq) : List LdgReq := l.map fun r => { r with fresh := false }

/-- The request at the head that fits the free credits is granted whole: the loom of a TILE word that waits for it takes the credits
and its tile starts; a request that does not fit blocks every request behind it. LDG_CNT_WAIT counts the NoC
cycles in which one waited, which the command brings (log 25, deduced). -/
def LedgerGrantsInOrder : Prop :=
  ∀ (n : LoomNo) (s : State) (waited cycles k p b sl : Nat) (f : Bool) (rest : List LdgReq) (tl : Tile), s.ledger = ⟨n, k, p, f⟩ :: rest →
    (k ≤ s.poolFree → (s.lm n).seq.pause = some ⟨.grant, b, sl, false⟩ → (s.lm n).seq.tile = some tl → tl.array = false →
      ∃ t, exec (.ledgerGrant waited cycles) s = .next t ∧ t.ledger = aged rest
        ∧ t.get (LDG_CREDIT_HELD n) = (s.get (LDG_CREDIT_HELD n) + k) % 2 ^ (LDG_CREDIT_HELD n).width
        ∧ t.get LDG_STATUS_OUTSTANDING = (s.get LDG_STATUS_OUTSTANDING + k) % 2 ^ LDG_STATUS_OUTSTANDING.width
        ∧ (t.lm n).seq.pause = none ∧ (t.lm n).seq.tile = some { tl with granted := true }
        ∧ SameMemory s t ∧ (∀ m, m ≠ n.val → t.lm m = s.lm m))
    ∧ (s.poolFree < k → ∃ t, exec (.ledgerGrant waited cycles) s = .next t ∧ t.ledger = aged s.ledger
      ∧ t.get LDG_CNT_WAIT_N = (s.get LDG_CNT_WAIT_N + cycles) % 2 ^ LDG_CNT_WAIT_N.width
      ∧ OnlyFields { s with ledger := aged s.ledger } t [LDG_CNT_WAIT_N])

/-- The barrier of a TILE word's tile falls: no tile is open, the loom holds no credits, and they no longer count as outstanding. -/
def BarrierReturnsCredits : Prop :=
  ∀ (n : LoomNo) (s : State) (tl : Tile), s.frozen n = false → (s.lm n).seq.tile = some tl → tl.granted = true → tl.array = false →
    ∃ t, exec (.tileBarrier n) s = .next t ∧ (t.lm n).seq.tile = none ∧ t.get (LDG_CREDIT_HELD n) = 0
      ∧ t.get LDG_STATUS_OUTSTANDING = (s.get LDG_STATUS_OUTSTANDING - s.get (LDG_CREDIT_HELD n)) % 2 ^ LDG_STATUS_OUTSTANDING.width
      ∧ OnlyLoom s t n [LDG_CREDIT_HELD n, LDG_STATUS_OUTSTANDING, LDG_STATUS_FREE, LDG_HEAD_VALID, LDG_HEAD_LOOM, LDG_HEAD_REQ]

/-! ### The array and the accumulator memory (R56, R73, R79, R89, R91, R97, R102, R103, R234) -/

/-- The commands that issue an ARRAY word, with the reduction that each names. -/
def arrayCommands (n : LoomNo) (evs : CycleEvs) : List (Nat × Instr) := [(0, .arraySum n evs), (1, .arrayMax n evs), (2, .arrayMin n evs)]

/-- An ARRAY word whose block R74 and R239 accept starts its operation behind those in flight and asks the ledger for the tile's credits
(without memory events, whose effect MemoryEventsMeet states); one that names rows beyond the accumulator memory sets ROW_RANGE and is a Draft
fault with cause ENGINE (4). Where a ledger cycle ends, and the class of a loom in no bolt, are log 110, the model's choices. -/
def ArrayWordsStart : Prop :=
  ∀ (n : LoomNo) (evs : CycleEvs) (s : State) (w : DWord) (c c0 : Instr) (r : Nat), (r, c) ∈ arrayCommands n evs →
    (r, c0) ∈ arrayCommands n {} → s.fetchWord n 1 0 = .ok w → s.blockMisplaced n w.arg = false → arrBlockBad n (s.blockBytes n w.arg) = false →
    (arrOpOf (s.blockBytes n w.arg)).reduce = r →
    (rowsBad (arrOpOf (s.blockBytes n w.arg)) = false → s.fmtBad n (arrOpOf (s.blockBytes n w.arg)) = false →
      s.bufEmpty n (arrOpOf (s.blockBytes n w.arg)) = false → s.psumBad n (arrOpOf (s.blockBytes n w.arg)) = false →
      inSpad n (s.arrRanges n (arrOpOf (s.blockBytes n w.arg))) = true → 0 < s.requestSize n w.lmode →
      s.requestSize n w.lmode ≤ s.get LDG_BUDGET_MIN_EFFECTIVE - s.get LDG_RESERVE_RESERVE →
      ∃ t, exec c0 s = .next t
        ∧ (t.lm n).arr.ops = (s.lm n).arr.ops ++ [{ arrOpOf (s.blockBytes n w.arg) with
            span := s.is (GRD_STATUS_SPAN_OPEN n), found := (s.lm n).spd.fresh }]
        ∧ JoinsInOrder ⟨n, s.requestSize n w.lmode, s.ledgerClass n, true⟩ s.ledger t.ledger
        ∧ (t.lm n).seq.next = (s.lm n).seq.next + 1 ∧ (t.lm n).seq.pause = some ⟨.grant, 0, w.slack, false⟩
        ∧ t.mem = s.mem ∧ (∀ m, m ≠ n.val → t.lm m = s.lm m))
    ∧ (rowsBad (arrOpOf (s.blockBytes n w.arg)) = true → ∃ t, exec c s = .next t ∧ t.get (ACC_ERR_ROW_RANGE n) = 1
        ∧ t.get (LOOM_STATUS_FAULT n) = 1 ∧ t.get (LOOM_FAULT_CAUSE n) = 4 ∧ t.ledger = s.ledger ∧ t.mem = s.mem)

/-- An aligned block sum, R78 and R79: S × 2^s, where s is negative cut toward minus infinity. -/
def aligned (S s : Int) : Int := if 0 ≤ s then S * 2 ^ s.toNat else S / 2 ^ (-s).toNat

/-- What one row cycle adds to column c, exactly (R76 to R79): the block sums of the G block groups, each aligned to the row's window by
itself; a block with scale code 0xFF gives 0. The shift of the low pass of INT8 is 4 less. -/
def cycleSum (b : WBuf) (pass : Nat) (lanes : List (List Int)) (scales : List Nat) (W : Int) (c : Nat) : Int :=
  ((List.range lanes.length).map fun g =>
    if scales.getD g 0 = 255 then 0
    else aligned (List.zipWith (· * ·) (lanes.getD g []) ((b.trits.getD g []).getD c [])).sum
      ((scales.getD g 0 : Int) - 127 - 1 - W - (if pass = 2 then 4 else 0))).sum

/-- A row cycle of a SUM on a dense tile gives every accumulator of its row the exact sum of its value, or of 0 where INIT begins the row anew,
and the cycle's aligned block sums, saturated once to ±(2^39 − 1), R79 to R81; a column that saturates sets SAT_ANY. -/
def RowCyclesAdd : Prop :=
  ∀ (n : LoomNo) (s : State) (o : ArrOp) (rest : List ArrOp) (its : List ArrItem) (r pass c : Nat) (lanes : List (List Int))
    (scales : List Nat) (p : Bool) (a v : Int),
    s.arrStill n = false → s.compat n = false → (s.lm n).arr.ops = o :: rest → o.items = .row r pass lanes scales p :: its →
    o.keep = 0 → o.reduce = 0 → (∀ g, g < lanes.length → (o.buf.trits.getD g []).length = 512) →
    (s.accRow n (s.activeSet n) (o.row0 + r)).length = 512 → c < 512 →
    a = (if o.init && decide (pass ≤ 1) then 0 else (s.accRow n (s.activeSet n) (o.row0 + r)).getD c 0) →
    v = a + cycleSum o.buf pass lanes scales (s.window n (s.activeSet n) (o.row0 + r)) c →
    ∃ t, exec (.arrayResultLand n) s = .next t
      ∧ (t.accRow n (s.activeSet n) (o.row0 + r)).getD c 0 = max (-(2 ^ 39 - 1)) (min (2 ^ 39 - 1) v)
      ∧ (2 ^ 39 - 1 < v ∨ v < -(2 ^ 39 - 1) → t.get (ACC_STATUS_SAT_ANY n) = 1)

/-- The oldest cycle in flight lands: its row of the active set takes the row update of R79, R97 or R183, the cycle leaves the
operation, and memory and the other looms stay. -/
def ArrayCyclesLand : Prop :=
  ∀ (n : LoomNo) (s : State) (o : ArrOp) (rest : List ArrOp) (it : ArrItem) (its : List ArrItem),
    s.arrStill n = false → s.compat n = false → (s.lm n).arr.ops = o :: rest → o.items = it :: its →
    ∃ t, exec (.arrayResultLand n) s = .next t
      ∧ t.accRow n (s.activeSet n) (o.row0 + itemRow it) =
          (itemUpdate o o.buf (s.window n (s.activeSet n) (o.row0 + itemRow it))
            (if o.init && firstOfRow it then List.replicate 512 (initAcc o.reduce) else s.accRow n (s.activeSet n) (o.row0 + itemRow it)) it).row
      ∧ (t.lm n).arr.ops = dropFirstItem (o :: rest) ∧ SameMemory s t ∧ (∀ m, m ≠ n.val → t.lm m = s.lm m)

/-- WINLOAD gives the 512 window exponents of the set that it names the words at its scratchpad address, adjusted by the guard, keeps the
ACC unit busy for 4 cycles, and stores nothing. -/
def WinloadSetsWindows : Prop :=
  ∀ (n : LoomNo) (s : State) (w : DWord) (r : Nat), s.fetchWord n 2 0 = .ok w → inSpad n [(64 * bits w.arg 0 24, 1024)] = true → r < 512 →
    ∃ t, exec (.winload n {}) s = .next t ∧ (t.lm n).seq.next = (s.lm n).seq.next + 1
      ∧ (t.lm n).seq.accFree = (s.lm n).seq.cycles + w.delta + 4
      ∧ t.get (if (if bitOf w.arg 24 then 1 - s.activeSet n else s.activeSet n) = 0 then ACC_WIN0_WIN n r else ACC_WIN1_WIN n r)
          = ofSigned 9 (s.adjustWin n (toSigned 9 (leAt (s.spRead n (64 * bits w.arg 0 24) 1024) (2 * r) 2 % 512))) % 2 ^ 9
      ∧ SameMemory s t ∧ (∀ m, m ≠ n.val → t.lm m = s.lm m)

/-- SWAP exchanges the active and the shadow set while nothing is in flight, no drain runs and no row cycle is under way; in each of these three
cases it sets SWAP_EARLY and is a Draft fault with cause ENGINE (4) on the ACC unit (2). That the sets exchange in IAL-1 mode too is log 129, the
model's choice. -/
def SwapExchangesSets : Prop :=
  ∀ (n : LoomNo) (s : State) (w : DWord), s.fetchWord n 2 1 = .ok w →
    (s.is (ACC_STATUS_IN_FLIGHT n) = false → s.is (ACC_STATUS_DRAIN_BUSY n) = false → s.is (ARR_STATUS_BUSY n) = false →
      ∃ t, exec (.swap n) s = .next t ∧ t.get (ACC_STATUS_ACTIVE_SET n) = 1 - s.activeSet n
        ∧ (t.lm n).seq.next = (s.lm n).seq.next + 1 ∧ OnlyLoom s t n [ACC_STATUS_ACTIVE_SET n, LOOM_PC_PC n])
    ∧ (s.is (ACC_STATUS_IN_FLIGHT n) = true ∨ s.is (ACC_STATUS_DRAIN_BUSY n) = true ∨ s.is (ARR_STATUS_BUSY n) = true → ∃ t, exec (.swap n) s = .next t ∧ t.get (ACC_ERR_SWAP_EARLY n) = 1
        ∧ t.get (LOOM_STATUS_FAULT n) = 1 ∧ t.get (LOOM_FAULT_CAUSE n) = 4 ∧ t.get (LOOM_FAULT_UNIT n) = 2
        ∧ t.get (ACC_STATUS_ACTIVE_SET n) = s.get (ACC_STATUS_ACTIVE_SET n))

/-- A host core's write of bytes of one accumulator through the view of a loom in service whose domain is ON and whose port is free merges
them into the accumulator's 8-byte value, which a write of all 8 bytes replaces, saturates it, and leaves the row's other accumulators; while the
port is not free the write waits in the loom's FIFO, and to a benched loom it is BENCHED (2) and writes nothing. A window write and
a clear of the counts change their registers and nothing else. -/
def AccumulatorRegistersWrite : Prop :=
  ∀ (n : LoomNo) (s : State),
    (∀ (row col o : Nat) (data old : List Byte), row < 512 → col < 512 → 0 < data.length → o + data.length ≤ 8 →
      old = leBytes 8 (ofSigned 64 ((s.accRow n (s.get (ACC_CTL_VIEW_SET n)) row).getD col 0)) →
      (s.is (LOOM_STATUS_BENCHED n) = false → s.get (PWR_DOM_STATE n) = 3 →
        (s.portFree n = true → ∃ t, exec (.accViewWrite n (4096 * row + 8 * col + o) data .host 0) s = .next t
          ∧ t.accRow n (s.get (ACC_CTL_VIEW_SET n)) row
              = (s.accRow n (s.get (ACC_CTL_VIEW_SET n)) row).set col
                  (max (-(2 ^ 39 - 1)) (min (2 ^ 39 - 1) (toSigned 64 (leNat (old.take o ++ data ++ old.drop (o + data.length))))))
          ∧ OnlyLoom { s with resp := ⟨0, [], false⟩ } t n [])
        ∧ (s.portFree n = false → ∃ t, exec (.accViewWrite n (4096 * row + 8 * col + o) data .host 0) s = .next t
          ∧ (t.lm n).spd.fifo.length = (s.lm n).spd.fifo.length + 1 ∧ (t.lm n).arr = (s.lm n).arr ∧ OnlyLoom s t n []))
      ∧ (s.is (LOOM_STATUS_BENCHED n) = true → ∃ t, exec (.accViewWrite n (4096 * row + 8 * col + o) data .host 0) s = .next t
          ∧ t.resp = ⟨2, [], false⟩ ∧ t.looms = s.looms ∧ t.flds = s.flds ∧ SameMemory s t))
    ∧ (∀ (set : Fin 2) (row : Fin 512) (v : Nat), ∃ t, exec (.accWinWrite n set row v) s = .next t
        ∧ t.get (if set.val = 0 then ACC_WIN0_WIN n row else ACC_WIN1_WIN n row) = v % 2 ^ 9
        ∧ OnlyFields s t [if set.val = 0 then ACC_WIN0_WIN n row else ACC_WIN1_WIN n row])
    ∧ (∃ t, exec (.accCntClr n) s = .next t ∧ t.get (ACC_CNT_SAT_SAT n) = 0 ∧ t.get (ACC_CNT_ZERO_ZERO n) = 0
        ∧ OnlyFields s t [ACC_CNT_SAT_SAT n, ACC_CNT_ZERO_ZERO n])

/-! ### What the statements about engine words share -/

/-- The parameter block of word w, R240: it lies where it may, and nothing reserved or unused in it is set. -/
def LawfulBlock (s : State) (n : LoomNo) (w : DWord) (used nslots : Nat) : Prop :=
  s.blockMisplaced n w.arg = false ∧ blockBad (blockOf (s.blockBytes n w.arg)) used nslots = false

/-- The word has issued: LOOM_PC names it, and the next word follows (R235). -/
def Issued (s t : State) (n : LoomNo) : Prop :=
  (t.lm n).seq.next = (s.lm n).seq.next + 1 ∧ t.get (LOOM_PC_PC n) = (s.lm n).seq.next % 2 ^ 16

/-- Every loom but n is as it was. -/
def OtherLooms (s t : State) (n : LoomNo) : Prop := ∀ m, m ≠ n.val → t.lm m = s.lm m

/-- Every byte of memory outside these ranges of loom n's scratchpad reads as before. -/
def StoresWithin (s t : State) (n : LoomNo) (ranges : List (Nat × Nat)) : Prop :=
  ∀ a, (∀ r ∈ ranges, a < lwin n + r.1 ∨ lwin n + r.1 + r.2 ≤ a) → t.byteAt a = s.byteAt a

/-- The fields by which a faulted loom returns its credits when its engines finish (R248). -/
def ledgerFields (n : LoomNo) : List Fld :=
  [LDG_CREDIT_HELD n, LDG_STATUS_OUTSTANDING, LDG_STATUS_FREE, LDG_HEAD_VALID, LDG_HEAD_LOOM, LDG_HEAD_REQ]

/-- The guard's totals of loom n, which CNT_CLR clears (R205). -/
def guardTotals (n : LoomNo) : List Fld :=
  [GRD_TOT_TRIPS_TRIPS n, GRD_TOT_REPLAYS_REPLAYS n, GRD_TOT_FALLBACKS_FALLBACKS n, GRD_TOT_ASAT_ASAT n, GRD_TOT_CSAT_CSAT n]

/-- The guard's counters of loom n (R192). -/
def guardFields (n : LoomNo) : List Fld :=
  [GRD_CNT_ASAT_ASAT n, GRD_CNT_AZERO_AZERO n, GRD_CNT_AVALS_AVALS n, GRD_CNT_CSAT_CSAT n, GRD_CNT_CZERO_CZERO n,
    GRD_CNT_CTERMS_CTERMS n, GRD_TOT_ASAT_ASAT n, GRD_TOT_CSAT_CSAT n]

/-- The commands that issue an engine's word, each with the memory events that it meets (R252, R257). -/
def eventWords (n : LoomNo) (evs : CycleEvs) : List Instr :=
  [.arraySum n evs, .arrayMax n evs, .arrayMin n evs, .winload n evs, .drain n evs, .tload n evs, .tblload n evs, .load n evs, .store n evs,
    .score n evs, .pv n evs, .adrain n evs, .combine n evs, .dot n evs, .normRms n evs, .normLayer n evs, .embed n evs, .elemAdd n evs,
    .elemMul n evs, .elemFma n evs, .elemDiv n evs, .elemRecip n evs, .elemRsqrt n evs, .elemExp2 n evs, .elemLog2 n evs, .tdot n evs,
    .pred n evs, .sdot n evs, .route n evs, .scatter n evs, .tally n evs, .shtReturn n evs, .maskset n evs, .audit n evs, .exit n evs,
    .fill n evs]

/-- An engine's word runs whatever memory events it meets, and one that does not issue meets none. One that issues does what it does without
events on the memory whose words in error have been found; then the accesses of the engines at work in its Draft cycles land and their
conflicts count, and a corrected read and a conflict each hold the loom. Which accesses fall due in a cycle comes with the command (log 108,
the model's choice). -/
def EventsCompose : Prop :=
  ∀ (n : LoomNo) (evs : CycleEvs) (s : State) (k : Nat) (c c0 : Instr), (eventWords n evs)[k]? = some c → (eventWords n {})[k]? = some c0 →
    ∃ t0, exec c0 s = .next t0
      ∧ ((t0.lm n).seq.next = (s.lm n).seq.next → exec c s = .next t0)
      ∧ ((t0.lm n).seq.next ≠ (s.lm n).seq.next → ∃ u t, exec c0 (s.eccEvents n evs.ecc.flatten) = .next u ∧ exec c s = .next t
        ∧ ((u.lm n).seq.next = (s.lm n).seq.next → t = u.eccSeen n)
        ∧ ((u.lm n).seq.next ≠ (s.lm n).seq.next →
          t = ((evs.cycles.map (u.engineAccesses n)).foldl (fun t l => (t.landTogether n l).conflict n l) u).addHolds n
            (evHolds { evs with cycles := evs.cycles.map (u.engineAccesses n) })))

/-- A word found uncorrectable: its poison mark is set before the operation runs, which takes it poisoned, SPD_CNT_UNCORR goes up by one,
UNCORR and the address are shown, no byte changes, and it causes no hold. -/
def UncorrectableWordsPoison : Prop :=
  ∀ (n : LoomNo) (s t0 : State) (k x a : Nat) (c c0 : Instr), (eventWords n ⟨[[⟨x, .uncorrectable⟩]], []⟩)[k]? = some c →
    (eventWords n {})[k]? = some c0 → a = x / 8 * 8 → tget 0 s.poison (lwin n + a) = 0 → exec c0 s = .next t0 →
    (t0.lm n).seq.next ≠ (s.lm n).seq.next →
    ∃ m u t, exec c0 m = .next u ∧ exec c s = .next t
      ∧ tget 0 m.poison (lwin n + a) = 1 ∧ (∀ y, y ≠ lwin n + a → tget 0 m.poison y = tget 0 s.poison y) ∧ m.mem = s.mem
      ∧ m.get (SPD_CNT_UNCORR_UNCORR n) = (s.get (SPD_CNT_UNCORR_UNCORR n) + 1) % 2 ^ (SPD_CNT_UNCORR_UNCORR n).width
      ∧ m.get (SPD_ERR_UNCORR n) = 1 ∧ m.get (SPD_ERR_ADDR_ADDR n) = a % 2 ^ (SPD_ERR_ADDR_ADDR n).width
      ∧ SameFields s m [SPD_CNT_UNCORR_UNCORR n, SPD_ERR_UNCORR n, SPD_ERR_ADDR_ADDR n] ∧ (m.lm n).seq = (s.lm n).seq
      ∧ (∀ j, j ≠ n.val → m.lm j = s.lm j)
      ∧ t.flds = u.flds ∧ t.mem = u.mem ∧ t.poison = u.poison ∧ (t.lm n).seq = (u.lm n).seq

/-- A word corrected by its read counts in SPD_CNT_CORR and, by what its second read shows, as transient or lasting; once the operation has
issued, the loom holds for 3 cycles with cause ECC (0), at once or after the holds under way. -/
def CorrectedWordsHold : Prop :=
  ∀ (n : LoomNo) (s t0 : State) (k x : Nat) (kind : EccKind) (c c0 : Instr), kind = .transient ∨ kind = .lasting →
    (eventWords n ⟨[[⟨x, kind⟩]], []⟩)[k]? = some c → (eventWords n {})[k]? = some c0 → tget 0 s.poison (lwin n + x / 8 * 8) = 0 →
    exec c0 s = .next t0 → (t0.lm n).seq.next ≠ (s.lm n).seq.next →
    ∃ m u t, exec c0 m = .next u ∧ exec c s = .next t ∧ SameMemory s m
      ∧ m.get (SPD_CNT_CORR_CORR n) = (s.get (SPD_CNT_CORR_CORR n) + 1) % 2 ^ (SPD_CNT_CORR_CORR n).width
      ∧ (kind = .transient → m.get (SPD_CNT_TRANSIENT_TRANSIENT n)
          = (s.get (SPD_CNT_TRANSIENT_TRANSIENT n) + 1) % 2 ^ (SPD_CNT_TRANSIENT_TRANSIENT n).width)
      ∧ (kind = .lasting → m.get (SPD_CNT_LASTING_LASTING n) = (s.get (SPD_CNT_LASTING_LASTING n) + 1) % 2 ^ (SPD_CNT_LASTING_LASTING n).width)
      ∧ ((u.lm n).seq.next ≠ (s.lm n).seq.next →
        (u.frozen n = false → (t.lm n).seq.holds = [⟨0, some 3⟩] ∧ t.get (LOOM_STATUS_HOLD n) = 1 ∧ t.get (LOOM_STATUS_HOLD_CAUSE n) = 0
          ∧ t.get (LOOM_HOLD_CNT_EVENTS n 0) = (u.get (LOOM_HOLD_CNT_EVENTS n 0) + 1) % 2 ^ (LOOM_HOLD_CNT_EVENTS n 0).width)
        ∧ (u.frozen n = true → (t.lm n).seq.holds = (u.lm n).seq.holds ++ [⟨0, some 3⟩]))

/-- An access touches a bank: one of the lines it covers lies there, by R250. -/
def touchesBank (b : Nat) (a : PortAccess) : Bool :=
  (List.range ((a.addr + a.len - 1) / 64 - a.addr / 64 + 1)).any fun i =>
    4 * (64 * (a.addr / 64 + i) / 0x100000) + (a.addr / 64 + i) % 4 == b

/-- The extra accesses of a bank in one Draft cycle: k − 1, where k accesses touch it. -/
def extraOf (l : List PortAccess) (b : Nat) : Nat := l.countP (touchesBank b) - 1

/-- The accesses of the engines at work in a Draft cycle of an operation that issues: every extra access of a bank counts in
SPD_CNT_CONFLICT; where there is one, ERR.CONFLICT is set and the loom holds for the largest k − 1 with cause CONFLICT (1), at once or after
the holds under way; without one they change nothing. -/
def BankConflictsHold : Prop :=
  ∀ (n : LoomNo) (s u : State) (k worst extra : Nat) (l : List PortAccess) (c c0 : Instr), (eventWords n ⟨[], [l]⟩)[k]? = some c →
    (eventWords n {})[k]? = some c0 → exec c0 s = .next u → (u.lm n).seq.next ≠ (s.lm n).seq.next →
    (∀ a ∈ l, u.portActive n a.port = true ∧ a.data = []) → worst = ((List.range 48).map (extraOf l)).foldl max 0 →
    extra = ((List.range 48).map (extraOf l)).sum →
    ∃ t, exec c s = .next t ∧ SameMemory u t ∧ OtherLooms u t n
      ∧ t.get (SPD_CNT_CONFLICT_EXTRA n) = (u.get (SPD_CNT_CONFLICT_EXTRA n) + extra) % 2 ^ (SPD_CNT_CONFLICT_EXTRA n).width
      ∧ (worst = 0 → t = u)
      ∧ (worst ≠ 0 → t.get (SPD_ERR_CONFLICT n) = 1
        ∧ (u.frozen n = false → (t.lm n).seq.holds = [⟨1, some worst⟩] ∧ t.get (LOOM_STATUS_HOLD n) = 1 ∧ t.get (LOOM_STATUS_HOLD_CAUSE n) = 1
          ∧ t.get (LOOM_HOLD_CNT_EVENTS n 1) = (u.get (LOOM_HOLD_CNT_EVENTS n 1) + 1) % 2 ^ (LOOM_HOLD_CNT_EVENTS n 1).width)
        ∧ (u.frozen n = true → (t.lm n).seq.holds = (u.lm n).seq.holds ++ [⟨1, some worst⟩]))

/-- Where two writes of one Draft cycle cover the same byte, that of the port that comes first in R251 stands. -/
def FirstPortStands : Prop :=
  ∀ (n : LoomNo) (s u : State) (k x : Nat) (a b : PortAccess) (c c0 : Instr), (eventWords n ⟨[], [[a, b]]⟩)[k]? = some c →
    (eventWords n {})[k]? = some c0 → exec c0 s = .next u → (u.lm n).seq.next ≠ (s.lm n).seq.next → u.portActive n a.port = true →
    u.portActive n b.port = true → a.write = true → b.write = true → a.port < b.port → a.data.length = a.len →
    a.addr ≤ x → x < a.addr + a.len → b.addr ≤ x → x < b.addr + b.len → x < spadSize n →
    ∃ t, exec c s = .next t ∧ t.byteAt (lwin n + x) = a.data.getD (x - a.addr) 0

/-! ### The loom DMA (R108, R114, R131, R153 to R155, R240) -/

/-- TLOAD checks the header of the tile and starts the load: DMA_LOAD_STS takes the status, TILE_BUSY is set, the buffer is not valid
meanwhile, and nothing is stored. -/
def TileLoadStarts : Prop :=
  ∀ (n : LoomNo) (s : State) (w : DWord), s.fetchWord n 3 0 = .ok w → LawfulBlock s n w 0xCF0 3 →
    (blockOf (s.blockBytes n w.arg)).slot 1 ≤ 3 → (blockOf (s.blockBytes n w.arg)).slot 0 ≤ 1 →
    inSpad n [((blockOf (s.blockBytes n w.arg)).slot 2, 16)] = true →
    ∃ t, exec (.tload n {}) s = .next t ∧ Issued s t n
      ∧ (t.lm n).dma.tload = some ((blockOf (s.blockBytes n w.arg)).slot 0,
          (s.tloadResult n ((blockOf (s.blockBytes n w.arg)).slot 1) ((blockOf (s.blockBytes n w.arg)).slot 2)).2.2,
          (blockOf (s.blockBytes n w.arg)).slot 1)
      ∧ (t.lm n).arr.bufs = (s.lm n).arr.bufs.set ((blockOf (s.blockBytes n w.arg)).slot 0) none
      ∧ t.get (DMA_STATUS_TILE_BUSY n) = 1
      ∧ t.get (DMA_LOAD_STS_STS n)
          = (s.tloadResult n ((blockOf (s.blockBytes n w.arg)).slot 1) ((blockOf (s.blockBytes n w.arg)).slot 2)).1
              % 2 ^ (DMA_LOAD_STS_STS n).width
      ∧ SameMemory s t ∧ OtherLooms s t n

/-- TBLLOAD checks 128 bytes as a code table and starts the load: the slot will take the table, or nothing where the status is not 0. -/
def TableLoadStarts : Prop :=
  ∀ (n : LoomNo) (s : State) (w : DWord) (b : Block) (l : List Byte) (st : Nat), s.fetchWord n 3 3 = .ok w →
    LawfulBlock s n w 0xCF0 2 → b = blockOf (s.blockBytes n w.arg) → b.slot 0 ≤ 3 → inSpad n [(b.slot 1, 128)] = true →
    l = s.spRead n (b.slot 1) 128 → st = tableStatus l (s.spPoisoned n (b.slot 1) 128) →
    ∃ t, exec (.tblload n {}) s = .next t ∧ Issued s t n
      ∧ (t.lm n).dma.tbl = some (b.slot 0, st, if st = 0 then some (tableOf l) else none)
      ∧ (t.lm n).dma.tables = (s.lm n).dma.tables ∧ OnlyLoom s t n [LOOM_PC_PC n, SPD_CNT_POISON_POISON n]

/-- The ends of the two loads: the buffer, or the table slot, becomes what the load found, its VALID bit says whether that is anything,
and the DMA unit is free. -/
def LoadsEnd : Prop :=
  ∀ (n : LoomNo) (s : State), s.frozen n = false →
    (∀ wb buf k, (s.lm n).dma.tload = some (wb, buf, k) → wb < 2 → ∃ t, exec (.tloadDone n) s = .next t
      ∧ (t.lm n).dma.tload = none ∧ (t.lm n).arr.bufs = (s.lm n).arr.bufs.set wb buf ∧ t.get (DMA_STATUS_TILE_BUSY n) = 0
      ∧ t.get (if wb = 0 then ARR_STATUS_WBUF0_VALID n else ARR_STATUS_WBUF1_VALID n) = b2n buf.isSome
      ∧ OnlyLoom s t n ([DMA_STATUS_TILE_BUSY n, if wb = 0 then ARR_STATUS_WBUF0_VALID n else ARR_STATUS_WBUF1_VALID n] ++ ledgerFields n))
    ∧ (∀ k st tab, (s.lm n).dma.tbl = some (k, st, tab) → k < 4 → st < 16 → ∃ t, exec (.tblloadDone n) s = .next t
      ∧ (t.lm n).dma.tbl = none ∧ (t.lm n).dma.tables = (s.lm n).dma.tables.set k tab
      ∧ bits (t.get (DMA_TBL_STS_STS n)) (4 * k) 4 = st ∧ bits (t.get (DMA_STATUS_TBL_VALID n)) k 1 = b2n tab.isSome
      ∧ OnlyLoom s t n ([DMA_TBL_STS_STS n, DMA_STATUS_TBL_VALID n, DMA_TBL_INFO_TAG n k, DMA_TBL_INFO_ALPHABET n k] ++ ledgerFields n))

/-- A LOAD or STORE block that R131, R154 and R254 accept: the pattern's sizes, the descriptor, the code table and the ranges; and where
the tensor lies in this device's HBM, the stacks are awake (R486). -/
def MoveLawful (s : State) (n : LoomNo) (w : DWord) (store : Bool) (b : Block) (d : Desc) : Prop :=
  LawfulBlock s n w 0xCF0 13 ∧ b = blockOf (s.blockBytes n w.arg) ∧ d = descOf (s.spRead n (b.slot 0) 256) ∧ b.slot 12 ≤ 3
    ∧ b.slot 5 ≤ 2 ∧ b.slot 6 ≤ 4 ∧ b.slot 8 ≤ 128 ∧ b.slot 9 ≤ 128 ∧ inSpad n [(b.slot 0, 256)] = true
    ∧ descBad (s.spRead n (b.slot 0) 256) = false ∧ s.spPoisoned n (b.slot 0) 256 = false
    ∧ (d.codeOk = true → s.tableAt n (b.slot 12) ≠ none) ∧ inSpad n (dmaRanges store d b) = true
    ∧ (s.stacksAsleep && fabChip d.base == s.chip && placeOf (fabLocal d.base) == .hbm) = false

/-- LOAD and STORE start their transfer: the word has issued, and the DMA unit performs the operation with the table slot that it
names. A descriptor that R154 refuses is a Draft fault with cause ENGINE (4) and sets DESC. -/
def TransfersStart : Prop :=
  ∀ (n : LoomNo) (evs : CycleEvs) (s : State) (w : DWord) (b : Block) (d : Desc),
    (s.fetchWord n 3 1 = .ok w → MoveLawful s n w false b d → ∃ t, exec (.load n {}) s = .next t ∧ Issued s t n
      ∧ (t.lm n).dma.op = some (1, if d.codeOk then some (b.slot 12) else none))
    ∧ (s.fetchWord n 3 2 = .ok w → MoveLawful s n w true b d → ∃ t, exec (.store n {}) s = .next t ∧ Issued s t n
      ∧ (t.lm n).dma.op = some (2, if d.codeOk then some (b.slot 12) else none))
    ∧ (s.fetchWord n 3 2 = .ok w → LawfulBlock s n w 0xCF0 13 → b = blockOf (s.blockBytes n w.arg) → b.slot 12 ≤ 3 → b.slot 5 ≤ 2 →
      b.slot 6 ≤ 4 → b.slot 8 ≤ 128 → b.slot 9 ≤ 128 → inSpad n [(b.slot 0, 256)] = true →
      descBad (s.spRead n (b.slot 0) 256) = true →
      ∃ t, exec (.store n evs) s = .next t ∧ t.get (DMA_ERR_DESC n) = 1 ∧ t.get (LOOM_STATUS_FAULT n) = 1
        ∧ t.get (LOOM_FAULT_CAUSE n) = 4 ∧ t.get (LOOM_FAULT_UNIT n) = 3 ∧ SameMemory s t)

/-- A raw STORE of whole bytes, at most a page, to a scratchpad of this device joins that loom's inbound FIFO as one write of those
bytes under the descriptor's tenant; the store's last acknowledgement is awaited. -/
def RawStoreSends : Prop :=
  ∀ (n m : LoomNo) (off : Nat) (s : State) (w : DWord) (b : Block) (d : Desc), s.fetchWord n 3 2 = .ok w → MoveLawful s n w true b d →
    m ≠ n → b.raw ≠ 0 → d.unit ≠ 2 → b.slot 5 = 0 → b.slot 6 = 1 → 0 < b.slot 2 → b.slot 2 ≤ 4096 - b.raw % 4096 →
    fabChip b.raw = s.chip → placeOf (fabLocal b.raw) = .spad m off → s.is (LOOM_STATUS_BENCHED m) = false →
    s.spPoisoned n (b.slot 3) (b.slot 2) = false →
    ∃ t, exec (.store n {}) s = .next t
      ∧ (t.lm m).spd.fifo = (s.lm m).spd.fifo ++ [⟨.write, off, b.slot 2, s.spRead n (b.slot 3) (b.slot 2), false, d.tenant,
          .loomEngine n 3, none, 0, false⟩]
      ∧ (t.lm n).seq.writesOut = (s.lm n).seq.writesOut + 1 ∧ SameMemory s t

/-- DMA_DONE ends the transfer under way once it waits for no read. -/
def TransferEnds : Prop :=
  ∀ (n : LoomNo) (s : State), s.frozen n = false → (s.lm n).dma.op ≠ none → s.pendOf n 3 = none →
    ∃ t, exec (.dmaDone n) s = .next t ∧ (t.lm n).dma.op = none ∧ t.get (DMA_STATUS_STREAM_BUSY n) = 0
      ∧ t.get (DMA_STATUS_STORE_BUSY n) = 0
      ∧ OnlyLoom s t n ([DMA_STATUS_STREAM_BUSY n, DMA_STATUS_STORE_BUSY n] ++ ledgerFields n)

/-! ### The attention unit (R158 to R175, R185) -/

/-- SCORE starts phase 0 and latches its parameters, or PV phase 1; a page whose descriptor R160 refuses is named in ATT_STS; neither
stores anything. -/
def AttentionPhasesStart : Prop :=
  ∀ (n : LoomNo) (s : State) (w : DWord) (b : Block) (p : AttParams), b = blockOf (s.blockBytes n w.arg) → p = attParams b →
    LawfulBlock s n w 0x1CF0 15 →
    (s.fetchWord n 4 0 = .ok w → attShapeBad p none = false → scaleOk (b.slot 13) = true → s.is (ATT_STATUS_PV_DONE n) = false →
      inSpad n [rowsRange (b.slot 3) (b.slot 5) p.qrows (p.dh / 2), rowsRange (b.slot 4) (b.slot 6) p.qrows (p.dh / 32),
        (p.pages, 4 * p.npages)] = true →
      ∃ t, exec (.score n {}) s = .next t ∧ Issued s t n ∧ t.get (ATT_STATUS_BUSY n) = 1 ∧ t.get (ATT_STATUS_PHASE n) = 0
        ∧ (t.lm n).att.params = some p
        ∧ (∀ i c, firstPage 0 ((s.pageList n p).map fun a => pageStatus p (s.spRead n (a + descOff p.dh) 64)
              (s.spPoisoned n (a + descOff p.dh) 64)) = some (i, c) →
            t.get (ATT_STS_STS n) = c % 2 ^ (ATT_STS_STS n).width ∧ t.get (ATT_STS_PAGE n) = i % 2 ^ (ATT_STS_PAGE n).width)
        ∧ SameMemory s t ∧ OtherLooms s t n)
    ∧ (s.fetchWord n 4 1 = .ok w → attShapeBad p (some (toSigned 32 (b.slot 14))) = false → s.is (ATT_STATUS_SCORED n) = true →
      (s.lm n).att.params = some p → inSpad n [(p.pages, 4 * p.npages)] = true →
      ∃ t, exec (.pv n {}) s = .next t ∧ Issued s t n ∧ t.get (ATT_STATUS_BUSY n) = 1 ∧ t.get (ATT_STATUS_PHASE n) = 1
        ∧ (s.get (ATT_STS_STS n) = 0 → (t.lm n).att.owin = s.adjustWin n (toSigned 32 (b.slot 14)))
        ∧ (s.get (ATT_STS_STS n) ≠ 0 → (t.lm n).att = (s.lm n).att)
        ∧ SameMemory s t ∧ OtherLooms s t n)

/-- ADRAIN with both phases done starts a Bronze operation (OP 2), clears the outputs, SCORED and PV_DONE, and stores only its output
rows and LSE list; before PV is done it sets ORDER and is a Draft fault with cause ENGINE (4). -/
def AttentionDrains : Prop :=
  ∀ (n : LoomNo) (evs : CycleEvs) (s : State) (w : DWord) (b : Block) (p : AttParams) (out : OutPlan), s.fetchWord n 5 1 = .ok w →
    b = blockOf (s.blockBytes n w.arg) → LawfulBlock s n w 0x0CF0 6 → bits b.hdr 4 4 ∈ [1, 4, 5] → (s.lm n).att.params = some p →
    out = ⟨s.outFmt n b, s.expRule n b (b.slot 5), b.slot 0, b.slot 1, b.slot 2, b.slot 3, none, 0, 0, s.spanOpen n⟩ →
    (s.is (ATT_STATUS_PV_DONE n) = true → inSpad n (out.ranges p.qrows p.dh ++ [(b.slot 4, 4 * p.qrows)]) = true →
      ∃ t, exec (.adrain n {}) s = .next t ∧ Issued s t n ∧ t.get (BRZ_STATUS_BUSY n) = 1 ∧ t.get (BRZ_STATUS_OP n) = 2
        ∧ t.get (ATT_STATUS_SCORED n) = 0 ∧ t.get (ATT_STATUS_PV_DONE n) = 0 ∧ (t.lm n).att.o = [] ∧ (t.lm n).att.sump = []
        ∧ StoresWithin s t n (out.ranges p.qrows p.dh ++ [(b.slot 4, 4 * p.qrows)]) ∧ OtherLooms s t n)
    ∧ (s.is (ATT_STATUS_PV_DONE n) = false → ∃ t, exec (.adrain n evs) s = .next t ∧ t.get (ATT_ERR_ORDER n) = 1
        ∧ t.get (LOOM_STATUS_FAULT n) = 1 ∧ t.get (LOOM_FAULT_CAUSE n) = 4 ∧ SameMemory s t)

/-! ### The Bronze unit (R92 to R94, R174 to R180, R186, R240) -/

/-- A Bronze word other than a drain or EMBED: its command, its OP, the header bits and slots that serve it, the formats that it
accepts, OP of BRZ_STATUS while it runs, whether its operands are as R240 and R533 ask, and the ranges that it stores to. -/
structure BronzeWord where
  cmd : Instr
  op : Nat
  used : Nat
  nslots : Nat
  fmts : List Nat
  busy : Nat
  lawful : Bool
  stores : List (Nat × Nat)

/-- The output plan of a word that writes rows as floating-point numbers only, which no span counts. -/
def plainPlan (b : Block) (elem stride : Nat) : OutPlan := ⟨bits b.hdr 4 4, none, elem, 0, stride, 0, none, 0, 0, false⟩

/-- The output plan of a NORM word. -/
def normPlan (s : State) (n : LoomNo) (b : Block) : OutPlan :=
  ⟨s.outFmt n b, s.expRule n b (b.slot 11), b.slot 7, b.slot 8, b.slot 9, b.slot 10,
    if bitOf b.hdr 13 then some (b.slot 12 % 65536) else none, b.slot 13, b.slot 14, s.spanOpen n⟩

/-- A NORM word of the named mode. -/
def normWord (s : State) (n : LoomNo) (b : Block) (layer : Bool) : BronzeWord :=
  let rows := bits (b.slot 0) 16 10
  let L := b.slot 1
  let fi := Config.operandFp32 0
  let fg := Config.operandFp32 1
  let reads := [rowsRange (b.slot 2) (b.slot 3) rows (L * eltSize fi), (b.slot 4, L * eltSize fg)]
    ++ (if layer && b.slot 5 != 0 then [(b.slot 5, L * eltSize fg)] else [])
  { cmd := if layer then .normLayer n {} else .normRms n {}, op := 4, used := 0x2CF0, nslots := 15, fmts := [1, 4, 5], busy := 4
    lawful := b.slot 0 &&& 0x3FF0001 == b.slot 0 && bitOf (b.slot 0) 0 == layer && b.slot 14 % 64 == 0
      && inSpad n ((normPlan s n b).ranges rows L ++ reads)
    stores := (normPlan s n b).ranges rows L }

/-- An ELEM word of the named FUNC. -/
def elemWord (n : LoomNo) (b : Block) (e : Nat × Instr) : BronzeWord :=
  { cmd := e.2, op := 6, used := 0x0CF0, nslots := 6, fmts := [4, 5], busy := 7
    lawful := b.slot 0 == e.1 && (decide (2 ≤ elemArity e.1) || b.slot 3 == 0) && (decide (3 ≤ elemArity e.1) || b.slot 4 == 0)
      && inSpad n ((plainPlan b (b.slot 5) 0).ranges 1 (b.slot 1)
      ++ (List.range (elemArity e.1)).map fun i => (b.slot (2 + i), b.slot 1 * eltSize (Config.operandFp32 2)))
    stores := (plainPlan b (b.slot 5) 0).ranges 1 (b.slot 1) }

/-- The commands that issue an ELEM word, with the FUNC that each names (R178). -/
def elemCommands (n : LoomNo) : List (Nat × Instr) :=
  [(0, .elemAdd n {}), (1, .elemMul n {}), (2, .elemFma n {}), (3, .elemDiv n {}), (4, .elemRecip n {}), (5, .elemRsqrt n {}),
    (6, .elemExp2 n {}), (7, .elemLog2 n {})]

/-- A COMBINE word. -/
def combineWord (n : LoomNo) (b : Block) : BronzeWord :=
  { cmd := .combine n {}, op := 2, used := 0x0CF0, nslots := 8, fmts := [4, 5], busy := 6
    lawful := decide (2 ≤ b.slot 0) && decide (b.slot 0 ≤ 16)
      && inSpad n ((plainPlan b (b.slot 5) (b.slot 6)).ranges (b.slot 1) (b.slot 2)
          ++ [(b.slot 3, 4 * b.slot 0), (b.slot 4, 4 * b.slot 0)] ++ [(b.slot 7, 4 * b.slot 1)])
    stores := (plainPlan b (b.slot 5) (b.slot 6)).ranges (b.slot 1) (b.slot 2) ++ [(b.slot 7, 4 * b.slot 1)] }

/-- A DOT word. -/
def dotWord (n : LoomNo) (b : Block) : BronzeWord :=
  { cmd := .dot n {}, op := 3, used := 0x0CF0, nslots := 11, fmts := [4, 5], busy := 3
    lawful := (b.slot 3 == 4 || b.slot 3 == 5) && (b.slot 6 == 4 || b.slot 6 == 5)
      && inSpad n ((plainPlan b (b.slot 9) (b.slot 10)).ranges (b.slot 0) (b.slot 1)
          ++ [rowsRange (b.slot 4) (b.slot 5) (b.slot 0) (b.slot 2 * eltSize (b.slot 3 == 5)),
            rowsRange (b.slot 7) (b.slot 8) (b.slot 1) (b.slot 2 * eltSize (b.slot 6 == 5))])
    stores := (plainPlan b (b.slot 9) (b.slot 10)).ranges (b.slot 0) (b.slot 1) }

/-- The Bronze words that run to their result at once. -/
def bronzeWords (s : State) (n : LoomNo) (b : Block) : List BronzeWord :=
  [combineWord n b, dotWord n b, normWord s n b false, normWord s n b true] ++ (elemCommands n).map (elemWord n b)

/-- Each of these Bronze words, where its block and operands are lawful, issues and starts its operation: BUSY and OP say so; it stores within
its output rows only, counts specials, guard events and poisoned reads, and touches no other loom. That the rows stand while the unit is BUSY
is log 7, and the number format of an input is log 14: the model's choices. -/
def BronzeWordsStart : Prop :=
  ∀ (n : LoomNo) (s : State) (w : DWord) (x : BronzeWord), x ∈ bronzeWords s n (blockOf (s.blockBytes n w.arg)) →
    s.fetchWord n 5 x.op = .ok w → LawfulBlock s n w x.used x.nslots → bits (blockOf (s.blockBytes n w.arg)).hdr 4 4 ∈ x.fmts →
    x.lawful = true →
    ∃ t, exec x.cmd s = .next t ∧ Issued s t n ∧ t.get (BRZ_STATUS_BUSY n) = 1 ∧ t.get (BRZ_STATUS_OP n) = x.busy
      ∧ StoresWithin s t n x.stores ∧ OtherLooms s t n
      ∧ SameFields s t ([LOOM_PC_PC n, BRZ_STATUS_BUSY n, BRZ_STATUS_OP n, BRZ_CNT_NAN_NAN n, BRZ_CNT_INF_INF n,
          SPD_CNT_POISON_POISON n] ++ guardFields n)

/-- An ELEM word with FP32 output leaves its function's results, element by element, at its output; a DOT word with FP32 output and rows
that do not overlap leaves in row i the dot products of row i of A with every row of B. They stand
from the word's issue on (log 7, the model's choice). -/
def BronzeResultsStore : Prop :=
  ∀ (n : LoomNo) (s : State) (w : DWord) (b : Block), b = blockOf (s.blockBytes n w.arg) → bits b.hdr 4 4 = 5 →
    (∀ e ∈ elemCommands n, s.fetchWord n 5 6 = .ok w → LawfulBlock s n w 0x0CF0 6 → (elemWord n b e).lawful = true →
      ∀ (x : Nat → List Nat), (∀ i, x i = if i < elemArity e.1 then s.spElts n (b.slot (2 + i)) (Config.operandFp32 2) (b.slot 1)
          else List.replicate (b.slot 1) 0) →
      ∃ t, exec e.2 s = .next t ∧ t.spRead n (b.slot 5) (4 * b.slot 1)
        = (List.zipWith (fun ab c => elemFn e.1 ab.1 ab.2 c) ((x 0).zip (x 1)) (x 2)).flatMap
            fun y => leBytes 4 (f32Of (f32Val y)))
    ∧ (s.fetchWord n 5 3 = .ok w → LawfulBlock s n w 0x0CF0 11 → (dotWord n b).lawful = true → 4 * b.slot 1 ≤ b.slot 10 →
      ∃ t, exec (.dot n {}) s = .next t ∧ ∀ i, i < b.slot 0 →
        t.spRead n (b.slot 9 + i * b.slot 10) (4 * b.slot 1)
          = ((List.range (b.slot 1)).map fun j =>
              dot16 (s.spElts n (b.slot 4 + i * b.slot 5) (b.slot 3 == 5) (b.slot 2))
                (s.spElts n (b.slot 7 + j * b.slot 8) (b.slot 6 == 5) (b.slot 2))).flatMap fun y => leBytes 4 (f32Of (f32Val y)))

/-- EMBED issues and starts its operation (OP 5): BUSY reads 1 whether its reads are answered at once or come from outside. -/
def EmbedStarts : Prop :=
  ∀ (n : LoomNo) (s : State) (w : DWord) (b : Block), s.fetchWord n 5 5 = .ok w → b = blockOf (s.blockBytes n w.arg) →
    LawfulBlock s n w 0x0CF0 12 → bits b.hdr 4 4 ∈ [1, 4, 5] →
    inSpad n ((b.slot 1, 4 * b.slot 0) :: (embedPlan (s.get (GRD_STATUS_MODE n)) (s.spanOpen n) b).ranges (b.slot 0) (b.slot 5)) = true →
    ∃ t, exec (.embed n {}) s = .next t ∧ Issued s t n ∧ t.get (BRZ_STATUS_BUSY n) = 1 ∧ t.get (BRZ_STATUS_OP n) = 5
      ∧ (∀ m, m ≠ n.val → (t.lm m).seq = (s.lm m).seq ∧ (t.lm m).arr = (s.lm m).arr)

/-- DRAIN of rows of the shadow set starts a Bronze operation (OP 1) with DRAIN_BUSY; where ZERO (bit 9) is set, every row drained reads as
zeros afterwards. Rows beyond the accumulator memory set ROW_RANGE, and on IAL-1 partial rows beyond the scratchpad PSUM_RANGE; each is a
Draft fault with cause ENGINE (4) on the Bronze unit (5). That the rows are zeros from the issue on is log 7, what a partial row of IAL-1
takes log 12, and how a row drains log 114: the model's choices. -/
def DrainEmptiesRows : Prop :=
  ∀ (n : LoomNo) (evs : CycleEvs) (s : State) (w : DWord) (b : Block) (sel : Bool), s.fetchWord n 5 0 = .ok w →
    b = blockOf (s.blockBytes n w.arg) → LawfulBlock s n w 0x2FF0 13 → bits b.hdr 4 4 ∈ [1, 2, 3, 4, 5] →
    sel = (!s.compat n && (List.range (b.slot 1)).any fun i => tget 0 (s.lm n).arr.kinds (rowKey (1 - s.activeSet n) (b.slot 0 + i)) != 0) →
    (0 < b.slot 1 → b.slot 0 + b.slot 1 ≤ 512 → b.slot 10 % 64 = 0 → inSpad n ((s.drainPlan n b).ranges (b.slot 1) 512) = true →
      (bitOf b.hdr 8 = true → inSpad n [(b.slot 6, 1024)] = true) →
      (s.compat n = true → inSpad n [(Config.ial1Psum (s.blockBytes n w.arg) % 2 ^ 24 + b.slot 0 * 4096, b.slot 1 * 4096)] = true) →
      (if sel then inSpad n [rowsRange (b.slot 11) (b.slot 12) (b.slot 1) 1024] = true else b.slot 11 = 0 ∧ b.slot 12 = 0) →
      ∃ t, exec (.drain n {}) s = .next t ∧ Issued s t n ∧ t.get (BRZ_STATUS_BUSY n) = 1 ∧ t.get (BRZ_STATUS_OP n) = 1
        ∧ t.get (ACC_STATUS_DRAIN_BUSY n) = 1 ∧ OtherLooms s t n
        ∧ (s.compat n = false → bitOf b.hdr 9 = true → ∀ i, i < b.slot 1 → t.accRow n (1 - s.activeSet n) (b.slot 0 + i) = List.replicate 512 0)
        ∧ (∀ row, row < 512 → t.accRow n (s.activeSet n) row = s.accRow n (s.activeSet n) row))
    ∧ (512 < b.slot 0 + b.slot 1 → ∃ t, exec (.drain n evs) s = .next t ∧ t.get (ACC_ERR_ROW_RANGE n) = 1
        ∧ t.get (LOOM_STATUS_FAULT n) = 1 ∧ t.get (LOOM_FAULT_CAUSE n) = 4 ∧ t.get (LOOM_FAULT_UNIT n) = 5 ∧ SameMemory s t)
    ∧ (0 < b.slot 1 → b.slot 0 + b.slot 1 ≤ 512 → s.compat n = true →
      inSpad n [(Config.ial1Psum (s.blockBytes n w.arg) % 2 ^ 24 + b.slot 0 * 4096, b.slot 1 * 4096)] = false →
      ∃ t, exec (.drain n evs) s = .next t ∧ t.get (ACC_ERR_PSUM_RANGE n) = 1
        ∧ t.get (LOOM_STATUS_FAULT n) = 1 ∧ t.get (LOOM_FAULT_CAUSE n) = 4 ∧ t.get (LOOM_FAULT_UNIT n) = 5 ∧ SameMemory s t)

/-! ### The Bobbin (R207, R215 to R224) -/

/-- The commands that issue a Bobbin word, with the OP that each names (R207). -/
def bobCommands (n : LoomNo) (evs : CycleEvs) : List (Nat × Instr) := [(0, .tdot n evs), (1, .pred n evs), (2, .sdot n evs)]

/-- TDOT, PRED and SDOT, where R222 accepts the descriptor, run: BUSY and OP say so, the word has issued, and only the output rows are
stored to; a correlated SDOT has status 1. A descriptor that R222 refuses sets DESC with its status and is a Draft fault with cause
ENGINE (4) on unit 6. -/
def BobbinWordsRun : Prop :=
  ∀ (n : LoomNo) (evs : CycleEvs) (s : State) (w : DWord) (d : BobDesc) (op : Nat) (c c0 : Instr), (op, c) ∈ bobCommands n evs →
    (op, c0) ∈ bobCommands n {} → s.fetchWord n 6 0 = .ok w → d = bobDesc (s.spRead n w.arg 64) → d.op = op →
    (bobCheck n w.arg (s.spRead n w.arg 64) = 0 →
      ∃ t, exec c0 s = .next t ∧ Issued s t n ∧ t.get (BOB_STATUS_BUSY n) = 1 ∧ t.get (BOB_STATUS_OP n) = op
        ∧ StoresWithin s t n [rowsRange d.outAddr d.outStride d.rows d.outLen] ∧ OtherLooms s t n
        ∧ (op = 2 → d.genA = d.genB → t.get (BOB_STS_STS n) = 1 ∧ t.get (BOB_ERR_CORRELATED n) = 1))
    ∧ (bobCheck n w.arg (s.spRead n w.arg 64) ≠ 0 → ∃ t, exec c s = .next t ∧ t.get (BOB_ERR_DESC n) = 1
        ∧ t.get (BOB_STS_STS n) = bobCheck n w.arg (s.spRead n w.arg 64) % 2 ^ (BOB_STS_STS n).width
        ∧ t.get (LOOM_STATUS_FAULT n) = 1 ∧ t.get (LOOM_FAULT_CAUSE n) = 4 ∧ t.get (LOOM_FAULT_UNIT n) = 6 ∧ SameMemory s t)

/-! ### The ends of the engines' operations (R94, R155, R175, R176, R224, R264) -/

/-- On a loom that nothing holds, the end of a phase, a drain, a Bronze operation, a Bobbin operation and a Shuttle operation that wait for
nothing clear BUSY. BRZ_CNT_OPS counts every Bronze operation, drains among them, BOB_CNT_OPS every Bobbin operation, and ATT_CNT_OPS an
attention operation when its ADRAIN ends; no register counts a phase or a Shuttle operation. SCORE's end sets SCORED, PV's sets PV_DONE. That
an ADRAIN ends by BRZ_OP_DONE is log 27, the model's choice. -/
def OperationsEnd : Prop :=
  ∀ (n : LoomNo) (s : State), s.frozen n = false →
    (s.is (ATT_STATUS_BUSY n) = true → ∃ t, exec (.attPhaseDone n) s = .next t ∧ t.get (ATT_STATUS_BUSY n) = 0
      ∧ (s.is (ATT_STATUS_PHASE n) = false → t.get (ATT_STATUS_SCORED n) = 1)
      ∧ (s.is (ATT_STATUS_PHASE n) = true → t.get (ATT_STATUS_PV_DONE n) = 1)
      ∧ OnlyLoom s t n ([ATT_STATUS_BUSY n, ATT_STATUS_SCORED n, ATT_STATUS_PV_DONE n] ++ ledgerFields n))
    ∧ (s.is (ACC_STATUS_DRAIN_BUSY n) = true → ∃ t, exec (.drainDone n) s = .next t ∧ t.get (ACC_STATUS_DRAIN_BUSY n) = 0
      ∧ t.get (BRZ_STATUS_BUSY n) = 0 ∧ t.get (BRZ_STATUS_OP n) = 0
      ∧ t.get (BRZ_CNT_OPS_OPS n) = (s.get (BRZ_CNT_OPS_OPS n) + 1) % 2 ^ (BRZ_CNT_OPS_OPS n).width
      ∧ OnlyLoom s t n ([ACC_STATUS_DRAIN_BUSY n, BRZ_STATUS_BUSY n, BRZ_STATUS_OP n, BRZ_CNT_OPS_OPS n] ++ ledgerFields n))
    ∧ (s.is (BRZ_STATUS_BUSY n) = true → s.get (BRZ_STATUS_OP n) ≠ 1 → s.pendOf n 5 = none →
      ∃ t, exec (.brzOpDone n) s = .next t ∧ t.get (BRZ_STATUS_BUSY n) = 0 ∧ t.get (BRZ_STATUS_OP n) = 0
        ∧ t.get (BRZ_CNT_OPS_OPS n) = (s.get (BRZ_CNT_OPS_OPS n) + 1) % 2 ^ (BRZ_CNT_OPS_OPS n).width
        ∧ t.get (ATT_CNT_OPS_OPS n)
            = (s.get (ATT_CNT_OPS_OPS n) + (if s.get (BRZ_STATUS_OP n) = 2 then 1 else 0)) % 2 ^ (ATT_CNT_OPS_OPS n).width
        ∧ OnlyLoom s t n ([BRZ_STATUS_BUSY n, BRZ_STATUS_OP n, BRZ_CNT_OPS_OPS n, ATT_CNT_OPS_OPS n] ++ ledgerFields n))
    ∧ (s.is (BOB_STATUS_BUSY n) = true → ∃ t, exec (.bobDone n) s = .next t ∧ t.get (BOB_STATUS_BUSY n) = 0
      ∧ t.get (BOB_CNT_OPS_OPS n) = (s.get (BOB_CNT_OPS_OPS n) + 1) % 2 ^ (BOB_CNT_OPS_OPS n).width
      ∧ OnlyLoom s t n ([BOB_STATUS_BUSY n, BOB_CNT_OPS_OPS n] ++ ledgerFields n))
    ∧ (s.is (SHT_STATUS_BUSY n) = true → s.pendOf n 8 = none → (s.lm n).sht.claims = [] →
      ∃ t, exec (.shtOpDone n) s = .next t ∧ t.get (SHT_STATUS_BUSY n) = 0 ∧ t.get (SHT_STATUS_OP n) = 0
        ∧ OnlyLoom s t n ([SHT_STATUS_BUSY n, SHT_STATUS_OP n] ++ ledgerFields n))

/-! ### The precision guard (R188 to R206) -/

/-- GBEGIN opens a span with the word's layer and threshold set, its counters at zero, and the totals cleared where CNT_CLR was written
while the span before it was open (R206); a second one inside it sets NEST and is a Draft
fault with cause ENGINE (4). GCHECK inside a span pauses for the verdict with a budget of 96 cycles, its vote sent at once where nothing is in
flight, no drain runs and every operation that was issued in the span has completed (R190); outside one it sets NONE and is a Draft fault. What
GBEGIN latches, and which operations the vote waits for, is log 19, deduced. -/
def SpansOpenAndVote : Prop :=
  ∀ (n : LoomNo) (s : State) (w : DWord),
    (s.fetchWord n 7 0 = .ok w → s.is (GRD_STATUS_SPAN_OPEN n) = false → ∃ t, exec (.gbegin n) s = .next t ∧ Issued s t n
      ∧ t.get (GRD_STATUS_SPAN_OPEN n) = 1 ∧ t.get (GRD_STATUS_LAYER n) = w.layer % 2 ^ (GRD_STATUS_LAYER n).width
      ∧ t.get (GRD_STATUS_TSET n) = w.arg % 4 ∧ t.guardNow n = [0, 0, 0, 0, 0, 0] ∧ (t.lm n).grd.gbegin = (s.lm n).seq.next
      ∧ (∀ f ∈ guardTotals n, t.get f = if (s.lm n).grd.clr then 0 else s.get f) ∧ (t.lm n).grd.clr = false
      ∧ OnlyLoom s t n ([LOOM_PC_PC n, GRD_STATUS_SPAN_OPEN n, GRD_STATUS_LAYER n, GRD_STATUS_TSET n] ++ guardFields n ++ guardTotals n))
    ∧ (s.fetchWord n 7 0 = .ok w → s.is (GRD_STATUS_SPAN_OPEN n) = true → ∃ t, exec (.gbegin n) s = .next t
      ∧ t.get (GRD_ERR_NEST n) = 1 ∧ t.get (LOOM_STATUS_FAULT n) = 1 ∧ t.get (LOOM_FAULT_CAUSE n) = 4)
    ∧ (s.fetchWord n 7 1 = .ok w → s.is (GRD_STATUS_SPAN_OPEN n) = true → s.is (LOOM_STATUS_PEER_FAULT n) = false →
      ∃ t v, exec (.gcheck n) s = .next t ∧ Issued s t n ∧ (t.lm n).seq.pause = some ⟨.gcheck v none, 96, w.slack, false⟩
        ∧ v.isSome = s.spanIdle n ∧ SameMemory s t ∧ OtherLooms s t n)
    ∧ (s.fetchWord n 7 1 = .ok w → s.is (GRD_STATUS_SPAN_OPEN n) = false → ∃ t, exec (.gcheck n) s = .next t
      ∧ t.get (GRD_ERR_NONE n) = 1 ∧ t.get (LOOM_STATUS_FAULT n) = 1 ∧ t.get (LOOM_FAULT_CAUSE n) = 4)

/-- When every loom of the guard group has voted, the verdict is the OR of the votes (bit 4 of what each has sent), and every loom of the
group acts on it: its span closes, the verdict is shown, and a loom in NORMAL mode restarts in REPLAY, one in REPLAY in FALLBACK, exactly
where the verdict is 1; else the mode is NORMAL. -/
def VerdictReachesGroup : Prop :=
  ∀ (n : LoomNo) (s : State), (∀ m ∈ s.groupOf n, (s.sentVote m).isSome = true) → s.groupOf n ≠ [] →
    ∃ t, exec (.gcheckVerdict n) s = .next t ∧ SameMemory s t ∧ ∀ m ∈ s.groupOf n, ∀ v : Bool,
      v = ((s.groupOf n).any fun k => bitOf ((s.sentVote k).getD 0) 4) →
      t.get (GRD_STATUS_SPAN_OPEN m) = 0 ∧ t.get (GRD_LAST_VOTE_VERDICT m) = b2n v
      ∧ t.get (GRD_STATUS_MODE m) = (if v = true ∧ s.get (GRD_STATUS_MODE m) ≠ 2 then (if s.get (GRD_STATUS_MODE m) = 0 then 1 else 2) else 0)

/-- A write to GRD_CTL gives EN the bit written; CNT_CLR (bit 2 of byte 1) clears the guard's totals, and while a span is open only marks
that the next GBEGIN clears them (R206). Memory and the rest of the loom stay. -/
def GuardControlWrites : Prop :=
  ∀ (n : LoomNo) (v : Nat) (s : State), ∃ t, exec (.grdCtlWrite n (lwin n + 0xF80008) (leBytes 4 v)) s = .next t
    ∧ t.get (GRD_CTL_EN n) = bits v 0 1
    ∧ (bits v 10 1 = 0 → (∀ f ∈ guardTotals n, t.get f = s.get f) ∧ t.looms = s.looms)
    ∧ (bits v 10 1 = 1 → s.is (GRD_STATUS_SPAN_OPEN n) = false → (∀ f ∈ guardTotals n, t.get f = 0) ∧ (t.lm n).grd.clr = false)
    ∧ (bits v 10 1 = 1 → s.is (GRD_STATUS_SPAN_OPEN n) = true → (∀ f ∈ guardTotals n, t.get f = s.get f) ∧ (t.lm n).grd.clr = true)
    ∧ ({ (t.lm n) with grd := { (t.lm n).grd with clr := (s.lm n).grd.clr } } : Loom) = s.lm n ∧ SameMemory s t ∧ OtherLooms s t n

/-! ### The Shuttle's words (R264 to R293) -/

/-- A Shuttle word: its command, its OP, how many slots serve it, whether its operands are in their ranges (R266), and whether besides
what it reaches lies in the scratchpad (R533). -/
structure ShuttleWord where
  cmd : CycleEvs → Instr
  op : Nat
  nslots : Nat
  ok : Bool
  lawful : Bool

/-- The words of the Shuttle with what makes each of them lawful. -/
def shuttleWords (s : State) (n : LoomNo) (b : Block) : List ShuttleWord :=
  let entry (t j : Nat) : Nat := leNat (s.spRead n (b.slot 2 + 64 * t + 8 * j) 8)
  let x := exitPar (b.slot 3) (b.slot 4) (b.slot 7)
  let f := exitPar (b.slot 3) 0 0
  let word (cmd : CycleEvs → Instr) (op nslots : Nat) (ok : Bool) (ranges : List (Nat × Nat)) : ShuttleWord :=
    ⟨cmd, op, nslots, ok, ok && inSpad n ranges⟩
  [word (.route n ·) 0 9 (rowsOk (b.slot 0) && decide (1 ≤ b.slot 1) && decide (b.slot 1 ≤ 256) && decide (b.slot 6 + b.slot 1 ≤ 2048)
      && decide (1 ≤ b.slot 2) && decide (b.slot 2 ≤ 8) && decide (b.slot 2 ≤ b.slot 1) && decide (b.slot 3 ≤ 1)
      && decide (b.slot 8 ≤ 1) && ((List.range (b.slot 1)).all fun e => s.mapOk n (b.slot 6 + e)
        && (b.slot 8 == 0 || s.targetOk n (b.slot 6 + e))))
      [rowsRange (b.slot 4) (b.slot 5) (b.slot 0) (4 * b.slot 1), (b.slot 7, 64 * b.slot 0)],
    word (.scatter n ·) 1 12 (rowsOk (b.slot 0) && decide (1 ≤ b.slot 1) && decide (b.slot 1 ≤ 8) && hOk (b.slot 3)
      && ((List.range (b.slot 0)).all fun t => (List.range (b.slot 1)).all fun j =>
        !(bitOf (entry t j) 8 || bitOf (entry t j) 9) || (s.mapOk n (b.slot 8 + bits (entry t j) 0 8)
          && s.targetOk n (b.slot 8 + bits (entry t j) 0 8))))
      [rowsRange (b.slot 4) (b.slot 5) (b.slot 0) (b.slot 3 / 2), rowsRange (b.slot 6) (b.slot 7) (b.slot 0) (b.slot 3 / 32),
        (b.slot 2, 64 * b.slot 0), (b.slot 11, 8 * b.slot 0),
        (b.slot 9, ((b.slot 0 - 1) * 8 + b.slot 1 - 1) * b.slot 10 * 64 + 2 * b.slot 3)],
    word (.tally n ·) 2 2 (decide (1 ≤ b.slot 0) && decide (b.slot 0 ≤ 256) && decide (b.slot 1 + b.slot 0 ≤ 2048)
      && (List.range (b.slot 0)).all fun e => s.mapOk n (b.slot 1 + e)) [],
    word (.shtReturn n ·) 3 5 (s.queueOk n (b.slot 0) && b.slot 3 % 32 == 0 && b.slot 4 % 32 == 0 && decide (b.slot 3 + b.slot 4 ≤ 16384))
      [rowsRange (b.slot 1 + 2 * b.slot 3) (b.slot 2) (s.get (SHT_QUEUE_CAP n (b.slot 0))) (2 * b.slot 4)],
    word (.maskset n ·) 4 7 (rowsOk (b.slot 0) && decide (1 ≤ b.slot 3) && decide (b.slot 3 ≤ 16) && decide (b.slot 5 + 2 * b.slot 3 ≤ 32))
      [rowsRange (b.slot 1) (b.slot 2) (b.slot 0) (64 * b.slot 3)],
    word (.audit n ·) 5 8 (rowsOk (b.slot 0) && decide (b.slot 6 ≤ 31))
      [rowsRange (b.slot 1) (b.slot 2) (b.slot 0) 1024, rowsRange (b.slot 3 + 64 * b.slot 5) (b.slot 4) (b.slot 0) 64],
    word (.exit n ·) 6 14 (rowsOk (b.slot 0) && layersOk x && (x.fmt == 1 || x.fmt == 4) && hOk x.H && decide (b.slot 13 ≤ 31))
      [(b.slot 1, 2 * b.slot 0), rowsRange (b.slot 5) x.estr (b.slot 0) x.elemLen,
        rowsRange (b.slot 6) x.sstr (b.slot 0) x.scaleLen, (b.slot 8, 8 * b.slot 0), (b.slot 9, 64 + b.slot 10 * (64 + x.hsz))],
    word (.fill n ·) 7 6 ((b.slot 2 == 64 || b.slot 2 == 128 || b.slot 2 == 256) && decide (1 ≤ f.nkv) && decide (f.nkv ≤ 16))
      [(b.slot 0, 64)]]

/-- Every Shuttle word with a lawful block and operands issues and starts its operation: BUSY and OP say so. A transfer (SCATTER, TALLY,
RETURN) inside a span sets XFER and is a Draft fault with cause ENGINE (4); operands of any word out of range set RANGE and are one on unit 8; what
reaches beyond the scratchpad is one with cause PARAM (3). -/
def ShuttleWordsStart : Prop :=
  ∀ (n : LoomNo) (evs : CycleEvs) (s : State) (w : DWord) (x : ShuttleWord), x ∈ shuttleWords s n (blockOf (s.blockBytes n w.arg)) →
    s.fetchWord n 8 x.op = .ok w → LawfulBlock s n w 0 x.nslots →
    (x.lawful = true → (s.is (GRD_STATUS_SPAN_OPEN n) = false ∨ x.op = 0 ∨ 4 ≤ x.op) →
      ∃ t, exec (x.cmd {}) s = .next t ∧ Issued s t n ∧ t.get (SHT_STATUS_BUSY n) = 1 ∧ t.get (SHT_STATUS_OP n) = x.op)
    ∧ (s.is (GRD_STATUS_SPAN_OPEN n) = true → 1 ≤ x.op → x.op ≤ 3 →
      ∃ t, exec (x.cmd evs) s = .next t ∧ t.get (GRD_ERR_XFER n) = 1 ∧ t.get (LOOM_STATUS_FAULT n) = 1 ∧ t.get (LOOM_FAULT_CAUSE n) = 4
        ∧ SameMemory s t)
    ∧ (x.ok = false → (s.is (GRD_STATUS_SPAN_OPEN n) = false ∨ x.op = 0 ∨ 4 ≤ x.op) →
      ∃ t, exec (x.cmd evs) s = .next t ∧ t.get (SHT_ERR_RANGE n) = 1 ∧ t.get (LOOM_STATUS_FAULT n) = 1 ∧ t.get (LOOM_FAULT_CAUSE n) = 4
        ∧ t.get (LOOM_FAULT_UNIT n) = 8 ∧ SameMemory s t)
    ∧ (x.ok = true → x.lawful = false → (s.is (GRD_STATUS_SPAN_OPEN n) = false ∨ x.op = 0 ∨ 4 ≤ x.op) →
      ∃ t, exec (x.cmd evs) s = .next t ∧ t.get (LOOM_STATUS_FAULT n) = 1 ∧ t.get (LOOM_FAULT_CAUSE n) = 3
        ∧ t.get (LOOM_FAULT_UNIT n) = 8 ∧ SameMemory s t)

/-- ROUTE writes, for each row, 64 bytes of entries: no byte outside them changes, no other loom does, and of the register
fields only the counts of choices and of poisoned reads, the NaN flag, and what the issue sets. -/
def RouteStoresEntries : Prop :=
  ∀ (n : LoomNo) (s : State) (w : DWord) (b : Block), s.fetchWord n 8 0 = .ok w → b = blockOf (s.blockBytes n w.arg) →
    LawfulBlock s n w 0 9 → (∃ x ∈ shuttleWords s n b, x.op = 0 ∧ x.lawful = true) →
    ∃ t, exec (.route n {}) s = .next t ∧ StoresWithin s t n [(b.slot 7, 64 * b.slot 0)] ∧ OtherLooms s t n
      ∧ SameFields s t [LOOM_PC_PC n, SHT_STATUS_BUSY n, SHT_STATUS_OP n, SHT_CNT_ROUTED_ROUTED n, SHT_CNT_DROPPED_DROPPED n,
          SHT_CNT_NAN_NAN n, SHT_FLAGS_NAN_SCORE n, SPD_CNT_POISON_POISON n]

/-- MASKSET gives the keep register of each panel the number of set bits of its masks, and the run register the same number, or 1 where
none is set and the panel is audited in this step. -/
def MasksetCounts : Prop :=
  ∀ (n : LoomNo) (s : State) (w : DWord) (b : Block) (p k : Nat), s.fetchWord n 8 4 = .ok w → b = blockOf (s.blockBytes n w.arg) →
    LawfulBlock s n w 0 7 → (∃ x ∈ shuttleWords s n b, x.op = 4 ∧ x.lawful = true) → p < b.slot 3 →
    k = ((List.range (b.slot 0)).map fun r => popcount (s.spRead n (b.slot 1 + r * b.slot 2 + 64 * p) 64)).sum → k < 65536 →
    ∃ t, exec (.maskset n {}) s = .next t ∧ t.get (SHT_CREG_COUNT n (b.slot 5 + 2 * p + 1)) = k
      ∧ t.get (SHT_CREG_COUNT n (b.slot 5 + 2 * p)) = (if k = 0 ∧ audited (s.stepOf n) (b.slot 6) (b.slot 4 + p) (s.audLog n) = true then 1 else k)
      ∧ SameMemory s t ∧ OtherLooms s t n

/-- TALLY of one map entry with one replica on a loom of this device that is not benched puts one tally of kind 0 with the entry's counts
into that loom's FIFO. -/
def TallySends : Prop :=
  ∀ (n m : LoomNo) (s : State) (w : DWord) (b : Block), s.fetchWord n 8 2 = .ok w → b = blockOf (s.blockBytes n w.arg) →
    LawfulBlock s n w 0 2 → b.slot 0 = 1 → s.mapOk n (b.slot 1) = true → s.is (GRD_STATUS_SPAN_OPEN n) = false →
    s.get (SHT_EMAP_CHIP n (b.slot 1)) = s.chip → s.get (SHT_EMAP_LOOM n (b.slot 1)) = m.val → s.get (SHT_EMAP_REPL_M1 n (b.slot 1)) = 0 →
    s.is (LOOM_STATUS_BENCHED m) = false →
    ∃ t, exec (.tally n {}) s = .next t
      ∧ (t.lm m).spd.fifo = (s.lm m).spd.fifo ++ [⟨.tally, 0, 16, tallyBytes 0 (s.get (SHT_EMAP_SRC n (b.slot 1)))
          (s.get (SHT_EMAP_QUEUE n (b.slot 1))) (s.stepOf n) (tget 0 (s.lm n).sht.sent (b.slot 1)) (tget 0 (s.lm n).sht.sentOvf (b.slot 1)),
          false, 0, .loomEngine n 8, none, 0, false⟩]
      ∧ SameMemory s t

/-! ### What lands at a loom (R255, R256, R275, R278, R281, R282) -/

/-- The head of the FIFO, where it is a token record or a return row that the windows allow and R281 accepts, lands: its half counts one
record more, and SHT_CNT_LANDED advances; one that R281 refuses is counted in SHT_CNT_LAND_BAD, sets LAND and stores nothing. The cycles
for which the port put it off count (R255). A record is judged by its first packet, a return row by the first packet of it that arrives (log 33,
presumed). -/
def RecordsLand : Prop :=
  ∀ (n : LoomNo) (deferred : Nat) (s : State) (i : Inbound) (rest : List Inbound) (q : Nat), s.ncOpen n = true → (s.lm n).spd.fifo = i :: rest →
    i.kind = .record q → s.inwinOk n i.req i.tenant true i.off i.len = true → s.insideSlot n q i.off = none →
    (∀ step slot, s.recordOk n q i.off i.data = some (step, slot) → ∃ t, exec (.recordLanding n deferred []) s = .next t
      ∧ t.get (SPD_CNT_NC_DEFER_DEFER n) = (s.get (SPD_CNT_NC_DEFER_DEFER n) + deferred) % 2 ^ (SPD_CNT_NC_DEFER_DEFER n).width
      ∧ (t.halfOf n q step).landed = (s.halfOf n q step).landed + 1 ∧ slot ∈ (t.halfOf n q step).slots
      ∧ (t.lm n).spd.fifo = rest
      ∧ t.get (SHT_CNT_LANDED_LANDED n) = (s.get (SHT_CNT_LANDED_LANDED n) + 1) % 2 ^ (SHT_CNT_LANDED_LANDED n).width
      ∧ (i.off + i.data.length ≤ spadSize n → i.off + i.data.length ≤ 0xC00000 → StoresWithin s t n [(i.off, i.data.length)]
          ∧ t.spRead n i.off i.data.length = i.data))
    ∧ (s.recordOk n q i.off i.data = none → ∃ t, exec (.recordLanding n deferred []) s = .next t ∧ t.get (SHT_ERR_LAND n) = 1
      ∧ t.get (SHT_CNT_LAND_BAD_BAD n) = (s.get (SHT_CNT_LAND_BAD_BAD n) + 1) % 2 ^ (SHT_CNT_LAND_BAD_BAD n).width
      ∧ (t.lm n).spd.fifo = rest ∧ SameMemory s t)

/-- The same of the first packet of a return row: it lies within the return area of its queue's source, or it is discarded. -/
def ReturnRowsLand : Prop :=
  ∀ (n : LoomNo) (deferred : Nat) (s : State) (i : Inbound) (rest : List Inbound) (q step src : Nat), s.ncOpen n = true →
    (s.lm n).spd.fifo = i :: rest → i.kind = .retRow q step src → s.inwinOk n i.req i.tenant true i.off i.len = true →
    ((s.lm n).sht.rows.any fun r => r.goesOn (s.sender i) q step src i.off) = false →
    (s.retOk n q step src i.off i.len = true → ∃ t, exec (.recordLanding n deferred []) s = .next t
      ∧ t.get (SPD_CNT_NC_DEFER_DEFER n) = (s.get (SPD_CNT_NC_DEFER_DEFER n) + deferred) % 2 ^ (SPD_CNT_NC_DEFER_DEFER n).width
      ∧ (t.halfOf n q step).landed = (s.halfOf n q step).landed + 1 ∧ (t.halfOf n q step).slots = (s.halfOf n q step).slots
      ∧ (t.lm n).spd.fifo = rest
      ∧ t.get (SHT_CNT_LANDED_LANDED n) = (s.get (SHT_CNT_LANDED_LANDED n) + 1) % 2 ^ (SHT_CNT_LANDED_LANDED n).width
      ∧ (i.off + i.data.length ≤ spadSize n → i.off + i.data.length ≤ 0xC00000 → StoresWithin s t n [(i.off, i.data.length)]
          ∧ t.spRead n i.off i.data.length = i.data))
    ∧ (s.retOk n q step src i.off i.len = false → ∃ t, exec (.recordLanding n deferred []) s = .next t ∧ t.get (SHT_ERR_LAND n) = 1
      ∧ t.get (SHT_CNT_LAND_BAD_BAD n) = (s.get (SHT_CNT_LAND_BAD_BAD n) + 1) % 2 ^ (SHT_CNT_LAND_BAD_BAD n).width
      ∧ (t.lm n).spd.fifo = rest ∧ SameMemory s t)

/-- What R282 refuses in a tally, with R6 and R7: its level, a reserved kind or field, a queue that is not valid, a source or a step that is
not one of the queue's, a tally that the source has sent already, or a count that its quota and its granted slots do not cover. -/
def tallyBad (s : State) (n v : Nat) : Bool :=
  let h := s.halfOf n (bits v 16 8) (bits v 32 32)
  let e := s.get (SHT_QUEUE_SRC_BASE n (bits v 16 8)) + bits v 8 6
  v % 16 != 2 || decide (2 ≤ bits v 4 4) || bits v 14 2 != 0 || bits v 24 8 != 0 || bits v 96 32 != 0 || !s.queueOk n (bits v 16 8)
    || decide (s.get (SHT_QUEUE_NSRC n (bits v 16 8)) ≤ bits v 8 6)
    || !(bits v 32 32 == s.stepOf n || bits v 32 32 == (s.stepOf n + 1) % 2 ^ 32) || h.tallied.contains (bits v 8 6)
    || (bits v 4 4 == 0 && decide (s.get (SHT_SRC_QUOTA n e) + (h.granted.countP fun g => g.2 == bits v 8 6) < bits v 64 16))

/-- A tally at the head of the FIFO, where no tally packet waits for the loom, is judged: one that R282 refuses sets TALLY and is counted; one
that it accepts adds its count to its half's sum and one to the tallies that have come. No byte of memory changes. A claim at the head is
answered to a loom of this device with a slot of the overflow region while its counter was below OVF_N, and with 0xFFFF else. An answer at the
head removes the claim that it names.How a message names its loom is log 32, the model's choice. -/
def ShuttleMessagesTaken : Prop :=
  ∀ (n : LoomNo) (s : State) (i : Inbound) (rest : List Inbound), s.ncOpen n = true → (s.lm n).spd.fifo = i :: rest →
    (i.kind = .tally → (s.firstIn fun i => isMsg 1 none i && i.pkt.tag % 256 == n.val) = none → ∀ v, v = leNat (i.data.take 16) →
      ∃ t, exec (.tallyMsg n) s = .next t ∧ (t.lm n).spd.fifo = rest ∧ SameMemory s t ∧ OtherLooms s t n
        ∧ (tallyBad s n v = true → t.get (SHT_ERR_TALLY n) = 1
            ∧ t.get (SHT_CNT_TALLY_BAD_BAD n) = (s.get (SHT_CNT_TALLY_BAD_BAD n) + 1) % 2 ^ (SHT_CNT_TALLY_BAD_BAD n).width
            ∧ (t.lm n).sht = (s.lm n).sht)
        ∧ (tallyBad s n v = false → (t.halfOf n (bits v 16 8) (bits v 32 32)).tsum = (s.halfOf n (bits v 16 8) (bits v 32 32)).tsum + bits v 64 16
            ∧ (t.halfOf n (bits v 16 8) (bits v 32 32)).tcnt = (s.halfOf n (bits v 16 8) (bits v 32 32)).tcnt + 1
            ∧ t.flds = s.flds))
    ∧ (∀ (q half src choice repl : Nat) (m : LoomNo), i.kind = .claim q half src choice repl s.chip m → m ≠ n →
      (s.firstIn fun i => isMsg 2 none i && leAt i.pkt.payload 3 1 == n.val) = none → ∃ t, exec (.ovfClaim n) s = .next t ∧ (t.lm n).spd.fifo = rest
        ∧ (t.lm m).spd.fifo = (s.lm m).spd.fifo ++ [⟨.grant choice
            (if s.queueOk n q = true ∧ (s.halfOf n q half).ovf < s.get (SHT_QUEUE_OVF_N n q)
              then s.get (SHT_QUEUE_OVF0 n q) + (s.halfOf n q half).ovf else 0xFFFF), 0, 0, [], false, 0, .loomEngine n 8, none, 0, false⟩]
        ∧ SameMemory s t)
    ∧ (∀ (choice slot : Nat) (c : Claim), i.kind = .grant choice slot → ((s.lm n).sht.claims.find? fun c => c.choice == choice) = some c →
      (s.firstIn fun i => isMsg 3 none i && leAt i.pkt.payload 4 1 == n.val) = none → ∃ t, exec (.ovfGrant n) s = .next t
        ∧ (t.lm n).sht.claims = (s.lm n).sht.claims.erase c
        ∧ (slot = 0xFFFF → t.get (SHT_CNT_OVF_FULL_FULL n) = (s.get (SHT_CNT_OVF_FULL_FULL n) + 1) % 2 ^ (SHT_CNT_OVF_FULL_FULL n).width)
        ∧ (slot ≠ 0xFFFF → t.get (SHT_CNT_ROUTED_ROUTED n) = (s.get (SHT_CNT_ROUTED_ROUTED n) + 1) % 2 ^ (SHT_CNT_ROUTED_ROUTED n).width))

/-- The NC port serves the head of the FIFO: a write that the windows allow lands in the scratchpad and nowhere else; one that they do not
sets INWIN_DENY and stores nothing. SPD_CNT_NC_DEFER counts the cycles for which it was put off. -/
def InboundServed : Prop :=
  ∀ (n : LoomNo) (deferred : Nat) (s : State) (i : Inbound) (rest : List Inbound), s.ncOpen n = true → (s.lm n).spd.fifo = i :: rest →
    i.kind = .write →
    (s.inwinOk n i.req i.tenant true i.off i.len = true → i.off + i.data.length ≤ spadSize n → i.off + i.data.length ≤ 0xC00000 →
      ∃ t, exec (.ncInboundServe n deferred []) s = .next t ∧ (t.lm n).spd.fifo = rest ∧ t.spRead n i.off i.data.length = i.data
        ∧ StoresWithin s t n [(i.off, i.data.length)]
        ∧ t.get (SPD_CNT_NC_DEFER_DEFER n) = (s.get (SPD_CNT_NC_DEFER_DEFER n) + deferred) % 2 ^ (SPD_CNT_NC_DEFER_DEFER n).width)
    ∧ (s.inwinOk n i.req i.tenant true i.off i.len = false →
      ∃ t, exec (.ncInboundServe n deferred []) s = .next t ∧ (t.lm n).spd.fifo = rest ∧ t.get (SPD_ERR_INWIN_DENY n) = 1 ∧ SameMemory s t)

/-- With scrubbing on and no hold, the scrubber reads the bank's next line: its place advances by one line of that bank, and a line without
an error changes nothing else but the count of passes. -/
def ScrubberAdvances : Prop :=
  ∀ (n : LoomNo) (bank : Fin 48) (s : State), s.is (SPD_SCRUB_CTL_EN n) = true → s.frozen n = false → bank.val < spadSize n / 0x40000 →
    ∃ t, exec (.scrubLine n bank []) s = .next t ∧ tget 0 (t.lm n).spd.scrub bank = tget 0 (s.lm n).spd.scrub bank + 1
      ∧ (∀ k, k ≠ bank.val → tget 0 (t.lm n).spd.scrub k = tget 0 (s.lm n).spd.scrub k)
      ∧ OnlyLoom s t n [SPD_CNT_SCRUB_PASS_PASSES n]

/-! ### Accesses to the local address space (R26 to R35, R534, R535) -/

/-- An access by a host core within 64 KiB is answered: a read of the Draft store of an unbenched loom whose domain is ON gives its bytes
and changes nothing else; a write to a benched loom's is BENCHED (2), and a read of addresses from 0x40000000 that nothing occupies is
UNMAPPED (1) and reads zeros; neither changes memory, a register or a loom. The order of the statuses is log 95, deduced. -/
def AccessesAnswered : Prop :=
  ∀ (s : State) (n : LoomNo) (off len deferred : Nat), 0 < len → off % 65536 + len ≤ 65536 → off < 0x100000 →
    (s.is (LOOM_STATUS_BENCHED n) = false → s.get (PWR_DOM_STATE n) = 3 →
      ∃ t, exec (.localAccess ⟨.host, false, draftAddr n off, len, [], 0, false, false⟩ deferred) s = .next t
        ∧ t.resp = ⟨0, s.bytesAt (draftAddr n off) len, false⟩ ∧ t.flds = s.flds ∧ t.looms = s.looms ∧ SameMemory s t)
    ∧ (s.is (LOOM_STATUS_BENCHED n) = true → ∃ t, exec (.localAccess ⟨.host, true, draftAddr n off, len, List.replicate len 0xAA, 0, false, false⟩ deferred) s = .next t
        ∧ t.resp.status = 2 ∧ t.flds = s.flds ∧ t.looms = s.looms ∧ SameMemory s t)
    ∧ (∀ x, 0x40000000 ≤ x → x + len ≤ 0x80000000 → x % 65536 + len ≤ 65536 →
      ∃ t, exec (.localAccess ⟨.host, false, x, len, [], 0, false, false⟩ deferred) s = .next t
        ∧ t.resp = ⟨1, List.replicate len 0, false⟩ ∧ t.flds = s.flds ∧ t.looms = s.looms ∧ SameMemory s t)

/-- A host core's write of four bytes to SPD_LAST_THR of a loom whose domain is ON and that is not benched is answered OK
and gives the register the bytes written (R258, R10); a loom engine's is DENIED (3) and changes no register (R33). That an access waits while the
domain is not ON is log 96, the model's choice. -/
def RegisterWritesTake : Prop :=
  ∀ (s : State) (n : LoomNo) (v : Nat), s.is (LOOM_STATUS_BENCHED n) = false → s.get (PWR_DOM_STATE n) = 3 →
    (∃ t, exec (.registerWrite .host ((SPD_LAST_THR_THR n).key / 8) (leBytes 4 v)) s = .next t ∧ t.resp = ⟨0, [], false⟩
      ∧ t.get (SPD_LAST_THR_THR n) = v % 2 ^ (SPD_LAST_THR_THR n).width ∧ OnlyLoom { s with resp := ⟨0, [], false⟩ } t n [SPD_LAST_THR_THR n])
    ∧ (∃ t, exec (.registerWrite (.loomEngine n 3) ((SPD_LAST_THR_THR n).key / 8) (leBytes 4 v)) s = .next t ∧ t.resp.status = 3
      ∧ t.flds = s.flds ∧ t.looms = s.looms ∧ SameMemory s t)

/-- The registers, by base address, whose writes do more than R10 and R535 say: each has rules and statements of its own. -/
def actsOnWrite (b : Nat) : Bool :=
  [0x80F00008, 0x80F20008, 0x80F21000, 0x80F21800, 0x80F80008, 0x80F80020, 0x1000008, 0x1000020, 0x1000024, 0x1000028, 0x100002C,
    0x1000030, 0x1000050, 0x1000054, 0x2000018, 0x2080010, 0x3000008, 0x4000018, 0x5000018, 0x100100, 0x100140, 0x6000008, 0x6100008,
    0x7000008, 0x300008, 0x8, 0x30, 0x500, 0x210008, 0x21001C, 0x200008, 0x200018, 0x200020, 0x200100].contains b

/-- The registers, by base address, of which a field shows what the device holds elsewhere, or some values of which read as another. -/
def showsElse (b : Nat) : Bool :=
  [0x80F90200, 0x1000018, 0x1020000, 0x4001000, 0x4003000, 0x200100, 0x100038, 0x80F90008, 0x80F70010, 0x1000040, 0x3000008, 0x4000008,
    0x6000020, 0x6000028, 0x6000038, 0x6100030, 0x6100034, 0x7000008, 0x90, 0x220018].contains b

/-- A register of an Ethernet port whose link runs the fabric personality, which reads 0 and ignores writes (R409). -/
def ethIdle (s : State) (h : RegHit) : Bool := 0x7000000 ≤ h.shape.base && h.shape.base < 0x7010000 && s.ethOff h.inst

/-- What bytes written from x on give the bit at place y of the address space: nothing, or a bit. -/
def bitWritten (x : Nat) (data : List Byte) (y : Nat) : Option Bool :=
  if 8 * x ≤ y ∧ y < 8 * (x + data.length) then some ((leNat data).testBit (y - 8 * x)) else none

/-- A bit of a field after a write that gives it `w`, by the field's access type (R10). -/
def bitAfter (a : Acc) (old : Bool) (w : Option Bool) : Bool :=
  match a with
  | .rw | .rws => w.getD old
  | .w1c => old && !w.getD false
  | .ro | .wo => old

/-- The access types of R10 over the whole register map, for an access by a host core of bytes that lie in one register. A write gives the RW
bits that it covers the bits written, clears the W1C bits where it has a 1, and leaves RO bits, the bits that it does not cover, and
every other field (R535). A read gives every field but the WO ones, which read as zero as reserved bits do. -/
def Obligations.RegisterAccessTypes : Prop :=
  ∀ (s : State) (x deferred : Nat) (h : RegHit) (data : List Byte), data ≠ [] → (placeOf x = .mmio ∨ ∃ m, placeOf x = .regs m) →
    (∀ i, i < data.length → findReg (x + i) = some { h with byte := h.byte + i }) → h.byte + data.length ≤ h.shape.bytes →
    (∀ d, domainAt x = some d → s.notOn d = false) → ethIdle s h = false →
    (s.regStatus ⟨.host, true, x, data.length, data, 0, false, false⟩ x (some h) = 0 → actsOnWrite h.shape.base = false →
      ∃ t, exec (.registerWrite .host x data) s = .next t ∧ OnlyFields { s with resp := ⟨0, [], false⟩ } t (h.fields.map Prod.fst)
        ∧ ∀ fa ∈ h.fields, ∀ j, j < fa.1.width →
          (t.get fa.1).testBit j = bitAfter fa.2 ((s.get fa.1).testBit j) (bitWritten x data (fa.1.key + j)))
    ∧ (s.regStatus ⟨.host, false, x, data.length, [], 0, false, false⟩ x (some h) = 0 → showsElse h.shape.base = false →
      ∃ t, exec (.localAccess ⟨.host, false, x, data.length, [], 0, false, false⟩ deferred) s = .next t
        ∧ t.resp.status = 0 ∧ t.resp.data.length = data.length ∧ t.resp.poison = false ∧ t.flds = s.flds ∧ t.looms = s.looms ∧ SameMemory s t
        ∧ ∀ i j, i < data.length → j < 8 → (t.resp.data.getD i 0).toNat.testBit j = h.fields.any fun fa =>
          fa.2 != .wo && decide (fa.1.key ≤ 8 * (x + i) + j) && decide (8 * (x + i) + j < fa.1.key + fa.1.width)
            && (s.get fa.1).testBit (8 * (x + i) + j - fa.1.key))

/-! ### HBM (R331 to R347, R360) -/

/-- A host core's write within one line, on an unbenched stack that is awake and outside every region, is answered OK and leaves the line
holding the bytes written between the bytes that it held before; a read gives the line's bytes. -/
def HbmHoldsWrites : Prop :=
  ∀ (s : State) (a tenant : Nat) (d : List Byte), hbmBase ≤ a → a + d.length ≤ hbmEnd → 0 < d.length → a % 256 + d.length ≤ 256 →
    s.asleep (144 + stackOf a) = false → s.hbmDecide .host tenant false a = (0, none) →
    (∃ t, exec (.hbmAccess ⟨.host, true, a, d.length, d, tenant, false, false⟩ []) s = .next t ∧ t.resp = ⟨0, [], false⟩
      ∧ (t.lineNow (a - a % 256)).1 = (s.lineNow (a - a % 256)).1.take (a % 256) ++ d ++ (s.lineNow (a - a % 256)).1.drop (a % 256 + d.length)
      ∧ t.looms = s.looms)
    ∧ (∃ t, exec (.hbmAccess ⟨.host, false, a, d.length, [], tenant, false, false⟩ []) s = .next t ∧ t.resp.status = 0
      ∧ t.resp.data = slice (s.lineNow (a - a % 256)).1 (a % 256) d.length ∧ t.looms = s.looms)

/-- An access that the region table refuses is answered DENIED (3) and changes no byte of memory; the HBM controller (12) of the stack writes
an error record of class ACCESS, where no equal one and fewer than four wait (R509), with code 0x303 and the address. -/
def HbmRefuses : Prop :=
  ∀ (s : State) (a tenant : Nat) (d : List Byte) (rg : Option Nat), hbmBase ≤ a → a + d.length ≤ hbmEnd → 0 < d.length →
    a % 256 + d.length ≤ 256 → s.asleep (144 + stackOf a) = false → s.hbmDecide .host tenant false a = (3, rg) →
    ∃ t, exec (.hbmAccess ⟨.host, true, a, d.length, d, tenant, false, false⟩ []) s = .next t ∧ t.resp = ⟨3, [], false⟩
      ∧ SameMemory s t ∧ t.cache = s.cache ∧ t.flds = s.flds ∧ t.looms = s.looms
      ∧ (∀ r, r = mkRec 12 (stackOf a) 0x303 2 (some a) 0 tenant (s.reqDetail .host) → (s.errs.any fun e => sameEvent e r) = false →
        (s.errs.filter fun e => e.src == 12 && e.inst == stackOf a).length < 4 → t.errs = s.errs ++ [r])

/-- An access that meets its stack asleep waits: it is held, what is held before it stays before it, and a stack that is LOW begins to wake
(R486). No byte of memory and no loom changes. Where it is held is log 97, deduced. -/
def SleepersWait : Prop :=
  ∀ (s : State) (a : Access) (evs : List HbmEv), hbmBase ≤ a.addr → a.addr + (if a.write then a.data.length else a.len) ≤ hbmEnd →
    s.asleep (144 + stackOf a.addr) = true → ∃ t, exec (.hbmAccess a evs) s = .next t ∧ t.held = s.held ++ [a]
      ∧ (∀ k, k < 12 → t.get (PWR_DOM_STATE (144 + k)) = (if s.get (PWR_DOM_STATE (144 + k)) = 1 then 2 else s.get (PWR_DOM_STATE (144 + k))))
      ∧ SameFields s t ((List.range 12).map fun k => PWR_DOM_STATE (144 + k)) ∧ SameMemory s t ∧ t.looms = s.looms

/-- A region command that R332 accepts replaces the entry (a clear with zeros), reports status 0, and changes besides only the HBM use of
the old and the new tenant; one that it refuses reports its status and leaves every field of the entry. -/
def RegionCommandsDecide : Prop :=
  ∀ (idx : Fin 4096) (s : State) (v : Nat), v = s.get HBM_RGN_STAGE_ENTRY →
    (s.regionStatus idx v = 0 → ∃ t, exec (.regionWrite idx) s = .next t ∧ (∀ f ∈ rgnFields idx, t.get f.1 = bits v f.2 f.1.width)
      ∧ t.get HBM_RGN_STS_STS = 0 ∧ t.get HBM_RGN_STS_INDEX = idx.val
      ∧ OnlyFields s t ((rgnFields idx).map Prod.fst ++ [HBM_TQ_HBM_USED (s.get (HBM_RGN_TENANT idx)), HBM_TQ_HBM_USED (bits v 16 10),
          HBM_RGN_STS_STS, HBM_RGN_STS_INDEX]))
    ∧ (s.regionStatus idx v ≠ 0 → ∃ t, exec (.regionWrite idx) s = .next t ∧ (∀ f ∈ rgnFields idx, t.get f.1 = s.get f.1)
      ∧ t.get HBM_RGN_STS_STS = s.regionStatus idx v ∧ t.get HBM_RGN_STS_INDEX = idx.val)
    ∧ (s.is (HBM_RGN_FIXED idx) = false → s.is (HBM_RGN_LENT idx) = false → ∃ t, exec (.regionClear idx) s = .next t
      ∧ (∀ f ∈ rgnFields idx, t.get f.1 = 0) ∧ t.get HBM_RGN_STS_STS = 0 ∧ t.get HBM_RGN_STS_INDEX = idx.val
      ∧ OnlyFields s t ((rgnFields idx).map Prod.fst ++ [HBM_TQ_HBM_USED (s.get (HBM_RGN_TENANT idx)), HBM_TQ_HBM_USED 0,
          HBM_RGN_STS_STS, HBM_RGN_STS_INDEX]))
    ∧ (s.is (HBM_RGN_FIXED idx) = true → ∃ t, exec (.regionClear idx) s = .next t ∧ (∀ f ∈ rgnFields idx, t.get f.1 = s.get f.1)
      ∧ t.get HBM_RGN_STS_STS = 3)

/-- KEY_LOAD puts the staged pair into its slot, which is then valid; a pair whose halves are equal is refused with status 1 and changes no
slot. KEY_ZERO leaves the slot not valid and its key zero. -/
def KeySlotsChange : Prop :=
  ∀ (slot : Fin 1024) (s : State) (v : Nat), v = s.get SEC_KEY_DATA_KEYS →
    (bits v 0 256 ≠ bits v 256 256 → ∃ t, exec (.keyLoad slot) s = .next t ∧ tget 0 t.keys slot = v ∧ t.keyValid slot = true
      ∧ t.get SEC_KEY_STS_STS = 0 ∧ (∀ k, k ≠ slot.val → tget 0 t.keys k = tget 0 s.keys k) ∧ (∀ k, k ≠ slot.val → t.keyValid k = s.keyValid k)
      ∧ SameFields s t [SEC_KEY_VALID_MAP (slot / 32), SEC_KEY_STS_STS])
    ∧ (bits v 0 256 = bits v 256 256 → ∃ t, exec (.keyLoad slot) s = .next t ∧ t.get SEC_KEY_STS_STS = 1 ∧ t.keys = s.keys
      ∧ OnlyFields s t [SEC_KEY_STS_STS])
    ∧ (∃ t, exec (.keyZero slot) s = .next t ∧ tget 0 t.keys slot = 0 ∧ t.keyValid slot = false ∧ t.get SEC_KEY_STS_STS = 0
      ∧ (∀ k, k ≠ slot.val → t.keyValid k = s.keyValid k) ∧ SameFields s t [SEC_KEY_VALID_MAP (slot / 32), SEC_KEY_STS_STS])

/-- CACHE_FLUSH sets FLUSH_BUSY and nothing else; at its end no line of the stack is cached and FLUSH_BUSY reads 0. A write of LOOP takes a
value other than 3 unless the stack is in use and the value is not 0; else nothing changes. -/
def CacheAndLoopCommands : Prop :=
  ∀ (k : StackNo) (value : Nat) (s : State),
    (∃ t, exec (.cacheFlush k) s = .next t ∧ t.get (MSC_STATUS_FLUSH_BUSY k) = 1 ∧ OnlyFields s t [MSC_STATUS_FLUSH_BUSY k])
    ∧ (s.is (MSC_STATUS_FLUSH_BUSY k) = true → ∃ t, exec (.cacheFlushDone k) s = .next t ∧ t.get (MSC_STATUS_FLUSH_BUSY k) = 0
      ∧ (∀ l, stackOf l = k.val → t.cached l = none) ∧ t.looms = s.looms)
    ∧ (value % 4 ≠ 3 → (value % 4 = 0 ∨ s.is (HBM_STATUS_BENCHED k) = true ∨ s.is (HBM_STATUS_TRAINED k) = false) →
      ∃ t, exec (.hbmLoopWrite k value) s = .next t ∧ t.get (HBM_PHY_CTL_LOOP k) = value % 4 ∧ OnlyFields s t [HBM_PHY_CTL_LOOP k])
    ∧ (value % 4 = 3 ∨ (value % 4 ≠ 0 ∧ s.is (HBM_STATUS_BENCHED k) = false ∧ s.is (HBM_STATUS_TRAINED k) = true) →
      exec (.hbmLoopWrite k value) s = .next s)

/-! ### The serving controller (R297 to R330) -/

/-- The priced step time of R304 as the registers of a state stand: `cycles` are the profile's, not below the Draft headers' STEP_CYCLES
(R299), `spans` its spans, `rep` its repair list. -/
def pricedTime (t : State) (b cycles spans : Nat) (rep : Nat → Nat) : Nat :=
  let repair := min ((List.range (t.get SVC_ALLOW_REPLAY_FRACTION * spans / 256)).map rep).sum (2 ^ 32 - 1)
  let longest := ((t.boltLooms b).map fun n => t.draftNat n 16 4).foldl max 0
  let c := ceilDiv (max cycles longest * t.get (BLT_STRETCH b)) 256 + 3 * t.get SVC_ALLOW_ECC_HOLDS + repair
  min (ceilDiv (c * 1000) (t.get SVC_FLOOR_MHZ_MHZ) + t.get SVC_ALLOW_LINK_NS + t.get SVC_OVERHEAD_NS) (2 ^ 32 - 1)

/-- The times of every valid slot are those of R304. -/
def SlotsPriced (t : State) : Prop :=
  ∀ i ∈ t.slots,
    t.get (RES_TW_NS i) = pricedTime t (t.get (RES_WBOLT i)) (t.profNat i 8 4) (t.profNat i 32 2 % 512) (fun j => t.profNat i (64 + 4 * j) 4)
    ∧ t.get (RES_TD_NS i) = pricedTime t (t.get (RES_DBOLT i)) (t.profNat i 12 4) (t.profNat i 34 2 % 512) (fun j => t.profNat i (1088 + 4 * j) 4)

/-- The fields that a repricing sets. -/
def priceFields : List Fld :=
  LDG_POOL_FLOOR_POOL :: (List.range 64).map BLT_STRETCH ++ (List.range 64).map RES_TW_NS ++ (List.range 64).map RES_TD_NS

/-- Registers of the serving controller and the ledger whose writes do more: an allowance or the overhead takes its bytes, and the times of
every valid slot are priced anew (R304); a floor clock inside 900 to 1,850 is taken, with the same effect, and one outside is ignored; a ring
size that is no power of two from 64 to 65,536 sets RQ_BAD; the minimum budget is taken with its effective value, which raises the budget to
it, never above 6,400; the clears clear; each bucket is filled by RATE up to DEPTH once a millisecond. -/
def ServingRegistersChange : Prop :=
  ∀ (v : Nat) (s : State),
    (∀ e ∈ [(0x1000020, SVC_ALLOW_ECC_HOLDS), (0x1000024, SVC_ALLOW_REPLAY_FRACTION), (0x1000028, SVC_ALLOW_LINK_NS), (0x1000030, SVC_OVERHEAD_NS)],
      ∃ t, exec (.svcAllowWrite e.1 (leBytes 4 v)) s = .next t ∧ t.get e.2 = v % 2 ^ e.2.width ∧ SlotsPriced t ∧ OnlyFields s t (e.2 :: priceFields))
    ∧ (900 ≤ v → v ≤ 1850 → ∃ t, exec (.svcFloorMhzWrite v) s = .next t ∧ t.get SVC_FLOOR_MHZ_MHZ = v ∧ SlotsPriced t
        ∧ SameFields s t (SVC_FLOOR_MHZ_MHZ :: priceFields) ∧ SameMemory s t ∧ t.looms = s.looms)
    ∧ (v < 900 ∨ 1850 < v → exec (.svcFloorMhzWrite v) s = .next s)
    ∧ (∃ t, exec (.svcRqSizeWrite v) s = .next t ∧ t.get SVC_RQ_SIZE_ENTRIES = v % 2 ^ 17
        ∧ (ringOk (v % 2 ^ 17) = false → t.get SVC_ERR_RQ_BAD = 1) ∧ (ringOk (v % 2 ^ 17) = true → OnlyFields s t [SVC_RQ_SIZE_ENTRIES]))
    ∧ (∃ t, exec .svcCntClr s = .next t ∧ t.get SVC_CNT_ADMIT_N = 0 ∧ t.get SVC_CNT_STEPS_N = 0
        ∧ (∀ c, c < 16 → t.get (SVC_CNT_CAUSE_N c) = 0) ∧ t.get SVC_ERR_RQ_BAD = s.get SVC_ERR_RQ_BAD ∧ SameMemory s t)
    ∧ (∃ t, exec (.ldgBudgetMinWrite v) s = .next t ∧ t.get LDG_BUDGET_MIN_MIN = v % 2 ^ 13 ∧ t.get LDG_BUDGET_MIN_EFFECTIVE = (s.set LDG_BUDGET_MIN_MIN v).effectiveMin % 2 ^ 13
        ∧ t.get LDG_BUDGET_BUDGET = min 6400 (max (s.get LDG_BUDGET_BUDGET) (t.get LDG_BUDGET_MIN_EFFECTIVE))
        ∧ OnlyFields s t [LDG_BUDGET_MIN_MIN, LDG_BUDGET_MIN_EFFECTIVE, LDG_POOL_FLOOR_POOL, LDG_BUDGET_BUDGET, LDG_STATUS_FREE,
            LDG_HEAD_VALID, LDG_HEAD_LOOM, LDG_HEAD_REQ])
    ∧ (∃ t, exec .ldgCntClr s = .next t ∧ t.get LDG_CNT_GRANT_N = 0 ∧ t.get LDG_CNT_WAIT_N = 0
        ∧ OnlyFields s t [LDG_CNT_GRANT_N, LDG_CNT_WAIT_N])
    ∧ (s.svc.refilled < s.svcTime / 1000000 → ∃ t, exec .tokenRefill s = .next t ∧ t.svc.refilled = s.svc.refilled + 1
        ∧ (∀ k ∈ s.validTenants, t.get (TEN_LEVEL k)
            = ofSigned 32 (min (s.get (TEN_DEPTH k) : Int) (toSigned 32 (s.get (TEN_LEVEL k)) + (s.get (TEN_RATE k) : Int))) % 2 ^ 32)
        ∧ SameFields s t ((List.range 1024).map TEN_LEVEL))

/-- The request at the head of the ring, as R301 has it: u is the state after its 128 bytes were read, o its OP, and nothing in it is
reserved or poisoned. No memory stack sleeps: the request would wait for them (R486). -/
def RequestAt (s u : State) (a : Nat) (r : RdData) (o : Nat) : Prop :=
  s.stacksAsleep = false ∧ s.rqEntry = some (a, r, u) ∧ bits (leAt r.data 0 4) 4 4 = o ∧ rqBadEntry r = false

/-- The ring has gone on by one entry. -/
def RingAdvanced (u t : State) : Prop :=
  t.get SVC_RQ_HEAD_HEAD = (u.get SVC_RQ_HEAD_HEAD + 1) % u.get SVC_RQ_SIZE_ENTRIES % 2 ^ 16

/-- ADMIT without a variant: one that R303 refuses early is counted and reported with its status; one whose promise holds takes a free stream,
the first one (log 144, the model's choice), which is then WAITING with the tenant and slot of the request, and is counted. The ring goes on
in either case. -/
def AdmitAnswers : Prop :=
  ∀ (s u : State) (a : Nat) (r : RdData), RequestAt s u a r 0 →
    (u.admitEarly r.data ≠ 0 → ∃ t, exec .admitRq s = .next t ∧ RingAdvanced u t
      ∧ t.get SVC_REFUSE_LAST_STATUS = u.admitEarly r.data % 2 ^ SVC_REFUSE_LAST_STATUS.width
      ∧ t.get SVC_CNT_REFUSE_N = (u.get SVC_CNT_REFUSE_N + 1) % 2 ^ SVC_CNT_REFUSE_N.width ∧ t.get SVC_CNT_ADMIT_N = u.get SVC_CNT_ADMIT_N)
    ∧ (∀ m x, u.admitEarly r.data = 0 → leAt r.data 56 8 = 0 → u.admitLate r.data none = .inr m →
      ((List.range 16384).find? fun x => u.get (STR_STATE x) == 0) = some x → ∃ t, exec .admitRq s = .next t ∧ RingAdvanced u t
        ∧ t.get (STR_STATE x) = 1 ∧ t.get (STR_TENANT x) = leAt r.data 4 4 % 1024 ∧ t.get (STR_SLOT x) = bits (leAt r.data 4 4) 10 6
        ∧ t.get (STR_TAG x) = leAt r.data 8 8 % 2 ^ 64 ∧ t.get (STR_DUE x) = (u.svcTime + m.ttft) % 2 ^ 64
        ∧ t.get SVC_CNT_ADMIT_N = (u.get SVC_CNT_ADMIT_N + 1) % 2 ^ SVC_CNT_ADMIT_N.width)

/-- CANCEL of a stream that no frozen step holds ends it; of one that a step holds, sets CANCEL_REQ; EVICT of a slot that is not loading and
has no streams leaves it EMPTY; BOLT opens a bolt that is not DOWN and has no benched loom, and closes one that no stream is bound to, each
unless STRETCH would change under streams that are bound (R306, 0x11); a bolt with a stream bound to it is not closed (0x0C). That a
benched loom keeps its bolt closed, and a DOWN bolt closes, is log 123, deduced. -/
def RequestsTake : Prop :=
  ∀ (s u : State) (a : Nat) (r : RdData),
    (∀ x, RequestAt s u a r 1 → x = leAt r.data 52 4 → u.get (STR_STATE x) ≠ 0 → u.get (STR_TAG x) = leAt r.data 8 8 →
      u.is (STR_CANCEL_REQ x) = false → ∃ t, exec .cancel s = .next t ∧ RingAdvanced u t
        ∧ (u.inPlan x = true → t.get (STR_CANCEL_REQ x) = 1 ∧ t.get (STR_STATE x) = u.get (STR_STATE x))
        ∧ (u.inPlan x = false → t.get (STR_STATE x) = 0 ∧ t.get SVC_CNT_CANCEL_N = (u.get SVC_CNT_CANCEL_N + 1) % 2 ^ SVC_CNT_CANCEL_N.width))
    ∧ (∀ i, RequestAt s u a r 2 → i = bits (leAt r.data 4 4) 10 6 → u.is (RES_VALID i) = true → u.get (RES_STREAMS i) = 0 →
      u.get (RES_STATE i) ≠ 1 → ∃ t, exec .evict s = .next t ∧ RingAdvanced u t ∧ t.get (RES_STATE i) = 0 ∧ t.get (RES_VARIANT_ID i) = 0)
    ∧ (∀ b, RequestAt s u a r 3 → b = bits (leAt r.data 4 4) 16 6 → u.boltValid b = true →
      (bitOf (leAt r.data 0 4) 9 = true → u.get (BLT_STATE b) ≠ 3 → ((u.boltLooms b).any fun n => u.is (LOOM_STATUS_BENCHED n)) = false →
        ((u.set (BLT_STATE b) 1).stretch = u.stretch ∨ u.validStreams = []) →
        ∃ t, exec .boltOpen s = .next t ∧ RingAdvanced u t ∧ t.get (BLT_STATE b) = 1)
      ∧ (bitOf (leAt r.data 0 4) 9 = false → (∀ x ∈ u.validStreams, u.binds (u.get (STR_SLOT x)) b = false) →
        (u.get (BLT_STATE b) = 3 ∨ (u.set (BLT_STATE b) 0).stretch = u.stretch ∨ u.validStreams = []) →
        ∃ t, exec .boltClose s = .next t ∧ RingAdvanced u t ∧ t.get (BLT_STATE b) = 0)
      ∧ (bitOf (leAt r.data 0 4) 9 = true → u.get (BLT_STATE b) ≠ 3 → (u.set (BLT_STATE b) 1).stretch ≠ u.stretch → u.validStreams ≠ [] →
        ∃ t, exec .boltOpen s = .next t ∧ RingAdvanced u t ∧ t.get (BLT_STATE b) = u.get (BLT_STATE b) ∧ t.get SVC_REFUSE_LAST_STATUS = 0x11)
      ∧ (bitOf (leAt r.data 0 4) 9 = false → (u.set (BLT_STATE b) 0).stretch = u.stretch → ∀ x ∈ u.validStreams,
        u.binds (u.get (STR_SLOT x)) b = true →
        ∃ t, exec .boltClose s = .next t ∧ RingAdvanced u t ∧ t.get (BLT_STATE b) = u.get (BLT_STATE b) ∧ t.get SVC_REFUSE_LAST_STATUS = 0x0C))

/-- A load whose copy has ended with status 0 and all of whose writes are acknowledged leaves its slot RESIDENT and is counted; one that
ended with another status leaves it EMPTY. -/
def VariantLoadsEnd : Prop :=
  ∀ (i : SlotNo) (s : State) (x : SlotLoad), x.slot = i.val →
    ((s.tierGoOn (2 + i)).loadOver i = some (x, 0) → ∃ t, exec (.variantLoadDone i) s = .next t ∧ t.get (RES_STATE i) = 2
      ∧ t.get SVC_CNT_SWAP_N = ((s.tierGoOn (2 + i)).get SVC_CNT_SWAP_N + 1) % 2 ^ SVC_CNT_SWAP_N.width)
    ∧ (∀ k, (s.tierGoOn (2 + i)).loadOver i = some (x, k + 1) → (s.tierGoOn (2 + i)).streamsOf i = [] →
      ∃ t, exec (.variantLoadFail i) s = .next t ∧ t.get (RES_STATE i) = 0 ∧ t.get (RES_VARIANT_ID i) = 0)

/-- STEP_FREEZE of a live bolt whose group has no frozen step and has work: every bolt of the group is in the step, with one step number above
the last of any of them (log 56, deduced), and every loom of the group is launched with it; the group's price is the largest of its bolts'
(log 49, deduced). -/
def StepsFreeze : Prop :=
  ∀ (b : BoltNo) (s : State) (no : Nat), b.val ∈ s.groupBolts b → (∀ c ∈ s.groupBolts b, s.planOf c = none) →
    (∃ c ∈ s.groupBolts b, (s.makePlan c).items ≠ []) →
    no = ((s.groupBolts b).map fun c => s.get (BLT_STEP c) + (if s.svc.skip.contains c then 1 else 0)).foldl max 0 + 1 →
    ∃ t, exec (.stepFreeze b) s = .next t ∧ SameMemory s t ∧ ∀ c ∈ s.groupBolts b,
      t.get (BLT_IN_STEP c) = 1 ∧ t.get (BLT_STEP c) = no % 2 ^ 32 ∧ (t.planOf c).isSome = true
      ∧ ∀ n ∈ s.boltLooms c, (t.lm n).seq.launch = some (no % 2 ^ 32) ∧ (t.lm n).seq.reported = false

/-- STEP_SEAL of a bolt whose frozen step every loom of its group has reported ends the step: the bolt is in no step. STEP_TIMEOUT of a step
that a bench, a fault or its time has ended aborts it: ABORT is set, and the bolt is in no step. -/
def StepsEnd : Prop :=
  ∀ (b : BoltNo) (outs : List SealOut) (poisoned : List Nat) (s : State) (p : StepPlan), s.planOf b = some p →
    ((∀ q ∈ s.svc.plans, s.groupNo q.bolt = s.groupNo b → ∀ n ∈ s.boltLooms q.bolt, (s.lm n).seq.reported = true) →
      ∃ t, exec (.stepSeal b outs poisoned) s = .next t ∧ t.planOf b = none ∧ t.get (BLT_IN_STEP b) = 0)
    ∧ (s.mustAbort b ≠ 0 ∨ (if s.get SVC_STEP_TIMEOUT_QUARTERS = 0 then 4 else s.get SVC_STEP_TIMEOUT_QUARTERS) * s.groupPrice b
          < 4 * (s.svcTime - p.start) →
      ∃ t, exec (.stepTimeout b) s = .next t ∧ t.planOf b = none ∧ t.get (BLT_IN_STEP b) = 0 ∧ t.get SVC_ERR_ABORT = 1)

/-! ### The tiers' command rings and the flash tier (R348 to R352, R356, R357, R361) -/

/-- The entry at the head of a tier's ring, as R348 has it: u is the state after its 64 bytes were read, c the command, and nothing in it is
reserved, poisoned or drained. No memory stack sleeps. -/
def EntryAt (s u : State) (nbt : Bool) (a : Nat) (r : RdData) (c : TierCmd) : Prop :=
  s.ringEntry nbt = some (a, r, u) ∧ s.stacksAsleep = false ∧ c = tierCmdOf r.data ∧ tierEntryBad r.data = false ∧ r.status = 0 ∧ r.pois.any id = false
    ∧ (nbt = true → c.offset % 4096 = 0 ∧ c.len % 4096 = 0 ∧ c.id < 65536) ∧ (nbt = false → s.chanDrains c.id = false)

/-- The engine has gone on to the next entry. -/
def EntryDone (u t : State) (nbt : Bool) : Prop :=
  t.get (ringHead nbt) = (u.get (ringHead nbt) + 1) % u.get (ringSize nbt) % 2 ^ (ringHead nbt).width

/-- CREATE makes an object of a free ID with the command's tenant and capacity; DELETE of the tenant's own object takes it away with all its
units; STAT answers its length and changes no object; each completes at once, and the engine goes on. -/
def ObjectCommandsComplete : Prop :=
  ∀ (s u : State) (a : Nat) (r : RdData) (c : TierCmd), EntryAt s u false a r c → c.id ≠ 0 →
    (c.op = 1 → u.flashObj c.id = none → ∃ t, exec .create s = .next t ∧ EntryDone u t false
      ∧ t.flashObj c.id = some ⟨c.id, c.tenant, c.arg, 0⟩ ∧ (∀ k, k ≠ c.id → t.flashObj k = u.flashObj k))
    ∧ (∀ o, c.op = 5 → u.flashObj c.id = some o → foreign c o.tenant = false → ∃ t, exec .delete s = .next t ∧ EntryDone u t false
      ∧ t.tiers.objs = u.tiers.objs.erase o ∧ (∀ x, x < 2 ^ 64 → tget 0 t.tiers.map (objKey c.id x) = 0)
      ∧ (∀ k, k / 2 ^ 64 ≠ c.id → tget 0 t.tiers.map k = tget 0 u.tiers.map k))
    ∧ (∀ o, c.op = 6 → u.flashObj c.id = some o → foreign c o.tenant = false →
      exec .stat s = .next ((u.endTier false a 0 o.len c.tenant c.id).nextEntry false))
    ∧ (c.op = 6 → u.flashObj c.id = none → exec .stat s = .next ((u.endTier false a 4 0 c.tenant c.id).nextEntry false))

/-- A command that moves data, where its checks pass, is under way in its engine, which goes on to the next entry: WRITE, READ, READIMG,
WRITEBACK and COPYIMG. -/
def DataCommandsStart : Prop :=
  ∀ (s u : State) (a : Nat) (r : RdData) (c : TierCmd) (fails uncorr : List Nat) (retried : Nat),
    (EntryAt s u false a r c → c.op = 2 → u.writeStatus c = 0 →
      ∃ t o, exec (.write fails) s = .next t ∧ EntryDone u t false ∧ (0, o) ∈ t.tiers.ops ∧ o.cmd = r.data ∧ o.entry = a)
    ∧ (EntryAt s u false a r c → c.op = 3 → u.readStatus c = 0 → c.offset % 64 = 0 → c.len % 64 = 0 →
      c.offset + c.len ≤ ceil64 (((u.flashObj c.id).map FlashObj.len).getD 0) →
      ∃ t o, exec (.read uncorr retried) s = .next t ∧ EntryDone u t false ∧ (0, o) ∈ t.tiers.ops ∧ o.cmd = r.data ∧ o.entry = a)
    ∧ (EntryAt s u false a r c → c.op = 4 → u.readStatus c = 0 →
      ∃ t o, exec (.readimg uncorr retried) s = .next t ∧ EntryDone u t false ∧ (0, o) ∈ t.tiers.ops ∧ o.cmd = r.data ∧ o.entry = a)
    ∧ (∀ i, EntryAt s u true a r c → c.op = 0x15 → u.leaseFor c [2, 3] = .inl i → u.leaseRangeBad c i = false →
      ∃ t o, exec .writeback s = .next t ∧ EntryDone u t true ∧ (1, o) ∈ t.tiers.ops ∧ o.cmd = r.data ∧ o.entry = a)
    ∧ (EntryAt s u true a r c → c.op = 0x18 →
      ∃ t o, exec .copyimg s = .next t ∧ EntryDone u t true ∧ (1, o) ∈ t.tiers.ops ∧ o.cmd = r.data ∧ o.entry = a)

/-- A command whose data has moved and whose writes are all acknowledged completes: its engine is free, and the entry is answered with its
status and result, and recorded where it is refused and nothing that failed in it has been recorded already. A ring size that is no power of
two from 64 to 65,536 sets RING_BAD. -/
def TierCommandsEnd : Prop :=
  ∀ (nbt : Bool) (s : State),
    (∀ (x : Nat × TierOp) (st st' res : Nat) (u : State), (s.tiers.ops.find? fun y => y.1 == b2n nbt) = some x → x.2.done = some (st, res) →
      x.2.writesOut = 0 → st' = (if st = 0 then tierStatus x.2.wbad else st) →
      u = (s.modTiers fun t => { t with ops := t.ops.filter fun y => y.1 != b2n nbt }).answerTier x.2.entry st' res →
      exec (.tierCommandDone nbt) s
        = .next (if [2, 7, 0x0A].contains st' then u else u.recordTier nbt st' (tierCmdOf x.2.cmd).tenant (tierCmdOf x.2.cmd).id))
    ∧ (∀ v, ∃ t, exec (.tierRingSizeWrite nbt v) s = .next t ∧ t.get (ringSize nbt) = v % 2 ^ (ringSize nbt).width
      ∧ (ringOk (v % 2 ^ (ringSize nbt).width) = true → OnlyFields s t [ringSize nbt])
      ∧ (ringOk (v % 2 ^ (ringSize nbt).width) = false → t.get (if nbt then NBT_ERR_RING_BAD else FTL_ERR_RING_BAD) = 1))

/-- Garbage collection, read refresh and wear leveling move units between blocks and erase; they lose none: a unit that is mapped stays so,
and the objects and their bytes stay; of memory only the map's region changes. Each does what R356 names; which block each takes, and in what
order blocks fill, is log 45, the model's choice. A collection erases the block with the fewest valid units, here one with none, and condemns
it where the erase fails; before a refresh or a leveling, collections keep a reserve; a block that has reached its reads is refreshed and
counted; the least erased block that holds data is emptied where two erase counts differ by more than the bound. -/
def FlashUpkeepKeepsData : Prop :=
  ∀ (s : State) (block : Nat) (fails : List Nat),
    (∀ c ∈ [Instr.garbageCollection fails, .wearLevel fails, .readRefresh block fails], ∃ t, exec c s = .next t ∧ t.tiers.data = s.tiers.data
      ∧ t.tiers.objs = s.tiers.objs ∧ (∀ k, tget 0 s.tiers.map k ≠ 0 → tget 0 t.tiers.map k ≠ 0) ∧ t.looms = s.looms
      ∧ (∀ x, (∀ i, s.mapRegion = some i → x < s.rgnBase i ∨ s.rgnBase i + 65536 * s.get (HBM_RGN_SIZE_64K i) ≤ x) → t.byteAt x = s.byteAt x))
    ∧ (∀ b, s.gcVictim = some b → s.blkUnitsOf b = [] → ∃ t, exec (.garbageCollection fails) s = .next t
      ∧ (b ∉ fails → (t.flashBlk b).prog = 0 ∧ (t.flashBlk b).reads = 0 ∧ (t.flashBlk b).erases = (s.flashBlk b).erases + 1)
      ∧ (b ∈ fails → (t.flashBlk b).bad = true ∧ t.get FTL_ERR_RETIRE = 1))
    ∧ (s.get FTL_RD_THR_READS ≤ (s.flashBlk block).reads → s.blkGood block = true → (s.flashBlk block).prog ≠ 0 →
      exec (.readRefresh block fails) s = .next ((((s.keepReserve fails).relocate fails block).eraseBlk fails block).add FTL_CNT_REFRESH_BLOCKS 1))
    ∧ (∀ b k lo hi, (s.keepReserve fails).leastWorn = some (b, k) → lo ∈ s.eraseCounts → hi ∈ s.eraseCounts → s.get FTL_WL_DELTA_ERASES < hi - lo →
      exec (.wearLevel fails) s = .next (((s.keepReserve fails).relocate fails b).eraseBlk fails b))

/-! ### Leases (R349, R353 to R355) -/

/-- The first lease message of a type that waits, well formed under R353: u is the state once it has been taken. -/
def LeaseMsgAt (s u : State) (type src : Nat) (b : List Byte) : Prop :=
  ∃ i, (s.firstIn fun i => i.pkt.ptype == 6 && i.pkt.msgtype == 0x10 && leAt i.pkt.payload 0 1 / 16 == type) = some i ∧ u = s.takeIn i
    ∧ b = i.pkt.payload ∧ src = i.pkt.src ∧ b.length = 32 ∧ leAt b 0 1 % 16 = 2 ∧ leAt b 1 1 = 0 ∧ bits (leAt b 4 4) 10 22 = 0
    ∧ allZero (slice b 24 8) = true ∧ allZero (slice b 1 1) = true

/-- OFFER takes an entry that is FREE or LOST, the first one (log 54, deduced); RECLAIM makes an ACTIVE lease RECLAIMING; REVOKE makes one of
either LOST, and counts it; each as the message says. -/
def LeaseMessagesToBorrower : Prop :=
  ∀ (s u : State) (src i : Nat) (b : List Byte),
    (LeaseMsgAt s u 1 src b → ((List.range 256).find? fun i => u.get (NBT_BORROW_STATE i) == 0 || u.get (NBT_BORROW_STATE i) == 4) = some i →
      ∃ t, exec .leaseOffer s = .next t ∧ t.get (NBT_BORROW_LEVEL i) = 2 ∧ t.get (NBT_BORROW_STATE i) = 1 ∧ t.get (NBT_BORROW_PEER i) = src % 2 ^ (NBT_BORROW_PEER i).width
        ∧ t.get (NBT_BORROW_LEASE i) = leAt b 2 2 ∧ SameMemory s t)
    ∧ (LeaseMsgAt s u 4 src b → u.borrowedFrom src (leAt b 2 2) = some i → u.get (NBT_BORROW_STATE i) = 2 →
      ∃ t, exec .leaseReclaim s = .next t ∧ t.get (NBT_BORROW_STATE i) = 3 ∧ tget 0 t.tiers.due i = u.now + 5000 * leAt b 20 4 ∧ SameMemory s t)
    ∧ (LeaseMsgAt s u 6 src b → u.borrowedFrom src (leAt b 2 2) = some i → u.get (NBT_BORROW_STATE i) ≠ 1 →
      ∃ t, exec .leaseRevoke s = .next t ∧ t.get (NBT_BORROW_STATE i) = 4 ∧ t.get NBT_ERR_LOST = 1
        ∧ t.get NBT_CNT_LOST_LOST = (u.get NBT_CNT_LOST_LOST + 1) % 2 ^ NBT_CNT_LOST_LOST.width ∧ SameMemory s t)
    ∧ (LeaseMsgAt s u 7 src b → u.borrowedFrom src (leAt b 2 2) = some i → ∃ t, exec .leaseKeepalive s = .next t
        ∧ tget 0 t.tiers.missed i = 0 ∧ t.flds = u.flds ∧ SameMemory s t)

/-- ACCEPT makes an OFFERED lease ACTIVE and lends its region to the peer; DECLINE frees an OFFERED one, and RELEASE an ACTIVE or RECLAIMING
one. -/
def LeaseMessagesToLender : Prop :=
  ∀ (s u : State) (src i : Nat) (b : List Byte), u.lentTo src (leAt b 2 2) = some i →
    (LeaseMsgAt s u 2 src b → u.get (NBT_LEND_STATE i) = 1 → ∃ t, exec .leaseAccept s = .next t ∧ t.get (NBT_LEND_STATE i) = 2
      ∧ t.get (NBT_LEND_TENANT i) = bits (leAt b 4 4) 0 10
      ∧ (∀ g, u.regionAt (u.get (NBT_LEND_BASE i)) = some g → g < 4096 → t.get (HBM_RGN_LENT g) = 1 ∧ t.get (HBM_RGN_PEER_EN g) = 1))
    ∧ (LeaseMsgAt s u 3 src b → u.get (NBT_LEND_STATE i) = 1 → ∃ t, exec .leaseDecline s = .next t ∧ t.get (NBT_LEND_STATE i) = 0)
    ∧ (LeaseMsgAt s u 5 src b → ∃ t, exec .leaseRelease s = .next t ∧ t.get (NBT_LEND_STATE i) = 0 ∧ SameMemory s t)

/-- The runtime's lease commands: LEND offers the region that it names, in the lowest FREE entry (log 54, deduced), and completes
with the peer's answer (log 53, deduced); ACCEPT takes an OFFERED lease within the tenant's quota; DECLINE frees
it; RECLAIM asks for an ACTIVE lent lease back; RELEASE frees a clean one; CLEAN completes. Each lets the engine go on. -/
def LeaseCommandsTake : Prop :=
  ∀ (s u : State) (a i : Nat) (r : RdData) (c : TierCmd), EntryAt s u true a r c →
    (∀ g, c.op = 0x11 → u.lendRegion c = some g → ((List.range 256).find? fun i => u.get (NBT_LEND_STATE i) == 0) = some i →
      ((List.range 256).any fun i => u.get (NBT_LEND_STATE i) != 0 && u.get (NBT_LEND_BASE i) == c.addr) = false → c.arg < 2 ^ 14 →
      c.arg ≠ u.chip → u.reachable c.arg = true → ∃ t, exec .lend s = .next t ∧ EntryDone u t true
        ∧ t.get (NBT_LEND_LEVEL i) = 2 ∧ t.get (NBT_LEND_STATE i) = 1
        ∧ t.get (NBT_LEND_PEER i) = c.arg ∧ (i, a) ∈ t.tiers.lends)
    ∧ (c.op = 0x12 → u.leaseFor c [1] = .inl i → hbmBase ≤ c.arg → c.arg + 2 * u.get (NBT_BORROW_PAGES i) ≤ hbmEnd →
      (c.tenant = 0 ∨ u.get (HBM_TQ_NBT_USED c.tenant) + u.get (NBT_BORROW_PAGES i) ≤ u.get (HBM_TQ_NBT_QUOTA c.tenant)) →
      u.reachable (u.get (NBT_BORROW_PEER i)) = true → ∃ t, exec .accept s = .next t ∧ EntryDone u t true
        ∧ t.get (NBT_BORROW_STATE i) = 2 ∧ t.get (NBT_BORROW_TENANT i) = c.tenant
        ∧ t.get (HBM_TQ_NBT_USED c.tenant)
            = (u.get (HBM_TQ_NBT_USED c.tenant) + u.get (NBT_BORROW_PAGES i)) % 2 ^ (HBM_TQ_NBT_USED c.tenant).width)
    ∧ (c.op = 0x13 → u.leaseFor c [1] = .inl i → ∃ t, exec .decline s = .next t ∧ EntryDone u t true ∧ t.get (NBT_BORROW_STATE i) = 0)
    ∧ (c.op = 0x14 → u.lent c.id [2] = some i → foreign c (u.get (NBT_LEND_TENANT i)) = false → c.arg < 2 ^ 32 → u.reachable (u.get (NBT_LEND_PEER i)) = true →
      ∃ t, exec .reclaim s = .next t ∧ EntryDone u t true ∧ t.get (NBT_LEND_STATE i) = 3
        ∧ tget 0 t.tiers.due (256 + i) = u.now + 5000 * c.arg)
    ∧ (c.op = 0x16 → u.leaseFor c [2, 3] = .inl i → u.leaseRangeBad c i = false → ∃ t, exec .clean s = .next t ∧ EntryDone u t true
      ∧ t.get (NBT_BORROW_STATE i) = u.get (NBT_BORROW_STATE i))
    ∧ (c.op = 0x17 → u.leaseFor c [2, 3] = .inl i → ((List.range (16 * u.get (NBT_BORROW_PAGES i))).any (u.subDirty i)) = false →
      u.reachable (u.get (NBT_BORROW_PEER i)) = true → ∃ t, exec .release s = .next t ∧ EntryDone u t true ∧ t.get (NBT_BORROW_STATE i) = 0)

/-- A keepalive period counts one missed period for every lease that is ACTIVE or RECLAIMING on either side; a deadline that passes, and a peer
that has missed its periods, end the lease: FREE at the lender, LOST at the borrower. -/
def LeaseTimesPass : Prop :=
  ∀ (i : Fin 256) (s : State),
    (∃ t, exec .keepaliveSend s = .next t ∧ t.flds = s.flds ∧ SameMemory s t
      ∧ tget 0 t.tiers.missed i = tget 0 s.tiers.missed i + (if s.get (NBT_BORROW_STATE i) = 2 ∨ s.get (NBT_BORROW_STATE i) = 3 then 1 else 0)
      ∧ tget 0 t.tiers.missed (256 + i) = tget 0 s.tiers.missed (256 + i)
          + (if s.get (NBT_LEND_STATE i) = 2 ∨ s.get (NBT_LEND_STATE i) = 3 then 1 else 0))
    ∧ (s.get (NBT_LEND_STATE i) = 3 → ∃ t, exec (.reclaimDeadline i) s = .next t ∧ t.get (NBT_LEND_STATE i) = 0 ∧ SameMemory s t)
    ∧ (max 1 (s.get NBT_CTL_KA_MISS) ≤ tget 0 s.tiers.missed (256 + i) →
      ∃ t, exec (.keepaliveMiss true i) s = .next t ∧ t.get (NBT_LEND_STATE i) = 0 ∧ SameMemory s t)
    ∧ (max 1 (s.get NBT_CTL_KA_MISS) ≤ tget 0 s.tiers.missed i → ∃ t, exec (.keepaliveMiss false i) s = .next t
      ∧ t.get (NBT_BORROW_STATE i) = 4 ∧ t.get NBT_CNT_LOST_LOST = (s.get NBT_CNT_LOST_LOST + 1) % 2 ^ NBT_CNT_LOST_LOST.width ∧ SameMemory s t)

/-! ### What the statements about the fabric share -/

/-- From s to t only the fabric's own state, the listed register fields and the records that wait for Selvedge change. -/
def OnlyFab (s t : State) (fs : List Fld) : Prop :=
  { t with fab := s.fab, flds := s.flds, errs := s.errs, errDropped := s.errDropped } = s ∧ SameFields s t fs

/-- The fields that follow a port's state. -/
def portFields (p : Nat) : List Fld := [FAB_P_STATE_STATE p, FAB_P_STATE_QCAUSE p, FAB_P_STATE_LEVEL p, FAB_SYNC_STS_HOLDOVER]

/-- The packet of a message to the neighbour on port p. -/
def linkPacket (s : State) (p type : Nat) (body : List Byte) : Packet :=
  { s.msg (s.neighbour p) 0 type body with level := if s.get (FAB_P_STATE_LEVEL p) = 1 then 1 else 2 }

/-- Where nothing waits before it and its credits and the retry buffer allow, the message has left port p on CONTROL sub-channel 0. -/
def SendsOn (s t : State) (p type : Nat) (body : List Byte) : Prop :=
  (s.port p).txq = [] → s.canSend p 0 (linkPacket s p type body) = true →
    (t.port p).retry = (s.port p).retry ++ flitsOf (s.port p).txSeq 0 (linkPacket s p type body)

/-- The first message of a type that has come by port p. -/
def MessageAt (s : State) (p type : Nat) (i : InPkt) : Prop := s.firstIn (isMsg type (some p)) = some i

/-! ### Ports (R384 to R388) -/

/-- The states of a port: TRAINING (1) ends in NEGOTIATE (2) or is counted as failed; loss of signal and RETRAIN return a port that is not
DISABLED to TRAINING with its link afresh, as does a NEGOTIATE that takes too long; DISABLE written 1 disables, and written 0 lets a port of
the FABRIC personality train. -/
def Obligations.PortStatesChange : Prop :=
  ∀ (p : PortNo) (s : State),
    (s.portIs p 1 = true →
      (∃ t, exec (.linkTrained p) s = .next t ∧ t.get (FAB_P_STATE_STATE p) = 2 ∧ OnlyFields s t [FAB_P_STATE_STATE p])
      ∧ (∃ t, exec (.trainFail p) s = .next t ∧ t.get (FAB_P_ERR_TRAIN_FAIL p) = 1 ∧ OnlyFields s t [FAB_P_ERR_TRAIN_FAIL p]))
    ∧ (s.get (FAB_P_STATE_STATE p) ∈ [2, 3, 4, 5] → ∃ t, exec (.lossOfSignal p) s = .next t ∧ t.get (FAB_P_STATE_STATE p) = 1
      ∧ t.port p = {} ∧ OnlyFab s t (portFields p))
    ∧ (s.portIs p 0 = false → ∃ t, exec (.retrain p) s = .next t ∧ t.get (FAB_P_STATE_STATE p) = 1 ∧ t.get (FAB_P_STATE_QCAUSE p) = 0
      ∧ t.port p = {} ∧ OnlyFab s t (portFields p))
    ∧ (s.portIs p 2 = true → ∃ t, exec (.negotiateTimeout p) s = .next t ∧ t.get (FAB_P_STATE_STATE p) = 1 ∧ t.port p = {}
      ∧ OnlyFab s t (portFields p))
    ∧ (∃ t, exec (.portDisableWrite p true) s = .next t ∧ t.get (FAB_P_CTL_DISABLE p) = 1 ∧ t.get (FAB_P_STATE_STATE p) = 0
      ∧ OnlyFab s t (FAB_P_CTL_DISABLE p :: portFields p))
    ∧ (s.portIs p 0 = true → s.get (FAB_P_ID_PERS p) = 1 → bitOf s.mgmt.outPorts p = false → s.is FAB_ID_STRAP_BAD = false →
      ∃ t, exec (.portDisableWrite p false) s = .next t ∧ t.get (FAB_P_CTL_DISABLE p) = 0 ∧ t.get (FAB_P_STATE_STATE p) = 1
        ∧ OnlyFab s t (FAB_P_CTL_DISABLE p :: portFields p))

/-- In NEGOTIATE a port sends its capability word, and takes the peer's: the first cause for which R386 refuses it quarantines the port;
an acceptable one fixes LEVEL and the common features, and the port enters AUTH with a fresh nonce, or QUARANTINE where the identity keys do
not unwrap. -/
def CapabilityWords : Prop :=
  ∀ (p : PortNo) (s : State), s.portIs p 2 = true →
    (∃ t, exec (.capSend p) s = .next t ∧ SendsOn s t p 0x40 (s.capWord p) ∧ OnlyFab s t [FAB_P_CNT_TXFLIT_N p])
    ∧ (∀ (i : InPkt) (w : List Byte), MessageAt s p 0x40 i → w = slice i.pkt.payload 0 16 →
      (s.capCause p w ≠ 0 → ∃ t, exec (.cap p) s = .next t ∧ t.get (FAB_P_CAP_PEER_CAP p) = leNat w ∧ t.get (FAB_P_STATE_STATE p) = 5
        ∧ t.get (FAB_P_STATE_QCAUSE p) = s.capCause p w ∧ t.get (FAB_P_ERR_QUARANTINE p) = 1
        ∧ OnlyFab s t (FAB_P_CAP_PEER_CAP p :: FAB_P_ERR_QUARANTINE p :: portFields p))
      ∧ (s.capCause p w = 0 → ∃ t, exec (.cap p) s = .next t ∧ t.get (FAB_P_CAP_PEER_CAP p) = leNat w
        ∧ t.get (FAB_P_STATE_STATE p) = (if s.identityOk then 3 else 5) ∧ t.get (FAB_P_STATE_LEVEL p) = (if leAt w 0 1 % 16 = 1 then 1 else 2)
        ∧ t.get (FAB_P_FEAT_FEATURES p) = leAt w 8 8 % 64 ∧ (t.port p).nonce = leBytes 32 (s.freeBits 256) ∧ SameMemory s t
        ∧ t.looms = s.looms))

/-- In AUTH a challenge asks the security engine for the signature pair of a proof, before every Assay that waits; the last fragment of a
proof is verified: one that passes brings the port UP once the peer has passed this side, and one that fails quarantines it with the cause of
its failure. So do a result that is not a pass (10) and the time limit (8). Which fragment is the last, and the body of a result, are log 67,
and when a signature pair is made log 125 (both deduced). -/
def AuthenticationDecides : Prop :=
  ∀ (p : PortNo) (s : State), s.portIs p 3 = true →
    (∀ i n, MessageAt s p 0x41 i → n = slice i.pkt.payload 0 32 → ∃ t, exec (.authChal p) s = .next t
      ∧ (t.port p).peerNonce = some n ∧ t.fab.inbox = s.fab.inbox.erase i ∧ { t with fab := s.fab, mgmt := s.mgmt } = s
      ∧ (s.mgmt.signing.isSome = true → t.mgmt = { s.mgmt with signs := s.mgmt.signs ++ [.proof p n] })
      ∧ (s.mgmt.signing = none → (s.mgmt.signs.any SignJob.isProof) = false →
          t.mgmt = { s.mgmt with signing := some (.proof p n, s.now + signTime) }))
    ∧ (∀ i pr v, MessageAt s p 0x42 i → pr = (s.port p).proof ++ i.pkt.payload →
      v = s.verdict .identity (pr.take (pr.length - 16608))
        (authDigest (s.peerCap p) (s.capWord p) (s.port p).nonce ((s.port p).peerNonce.getD [])) (slice pr (pr.length - 16608) 384)
        (slice pr (pr.length - 16608 + 384) 16224) →
      (i.pkt.payload.length = 4096 → ∃ t, exec (.authProof p) s = .next t ∧ (t.port p).proof = pr ∧ OnlyFab s t [])
      ∧ (i.pkt.payload.length ≠ 4096 → ∃ t, exec (.authProof p) s = .next t
        ∧ (v = 0 → (t.port p).passed = some true ∧ t.get (FAB_P_STATE_STATE p) = (if (s.port p).peerPassed = some true then 4 else 3))
        ∧ (v ≠ 0 → t.get (FAB_P_STATE_STATE p) = 5 ∧ t.get (FAB_P_STATE_QCAUSE p) = (4 + v) % 16 ∧ t.get (FAB_P_ERR_QUARANTINE p) = 1
            ∧ t.get SEC_CNT_VFAIL_N = (s.get SEC_CNT_VFAIL_N + 1) % 2 ^ 64)
        ∧ t.get SEC_CNT_VERIFY_N = (s.get SEC_CNT_VERIFY_N + 1) % 2 ^ 64 ∧ SameMemory s t ∧ t.looms = s.looms))
    ∧ (∀ i, MessageAt s p 0x43 i →
      (leAt i.pkt.payload 0 1 = 1 → ∃ t, exec (.authResult p) s = .next t ∧ (t.port p).peerPassed = some true
        ∧ t.get (FAB_P_STATE_STATE p) = (if (s.port p).passed = some true then 4 else 3) ∧ OnlyFab s t (portFields p))
      ∧ (leAt i.pkt.payload 0 1 ≠ 1 → ∃ t, exec (.authResult p) s = .next t ∧ t.get (FAB_P_STATE_STATE p) = 5
        ∧ t.get (FAB_P_STATE_QCAUSE p) = 10 ∧ OnlyFab s t (FAB_P_ERR_QUARANTINE p :: portFields p)))
    ∧ (∃ t, exec (.authTimeout p) s = .next t ∧ t.get (FAB_P_STATE_STATE p) = 5 ∧ t.get (FAB_P_STATE_QCAUSE p) = 8
      ∧ OnlyFab s t (FAB_P_ERR_QUARANTINE p :: portFields p))

/-! ### Time (R393 to R395) -/

/-- SYNC goes out on the port on which exchanges run, where the link carries it, and is answered where it came, with both times; an answer
ends the exchange: offset and delay are shown, FAB_EPOCH counts from then on, a positive offset is added to FAB_EPOCH and a negative one
replaces the slew, and the third exchange locks. Losing the reference clock sets its bits; its return clears the status. The bodies of the
messages and the replaced slew are log 68, and that FAB_EPOCH waits for the first exchange is log 106 (both deduced). -/
def Obligations.TimeExchanges : Prop :=
  ∀ (s : State),
    (∀ p, s.syncPort = some p → s.linkCarries p (s.msg (s.neighbour p) 0 0x20 (leBytes 8 s.epoch)) = true →
      ∃ t, exec .syncSend s = .next t ∧ SendsOn s t p 0x20 (leBytes 8 s.epoch)
      ∧ OnlyFab s t [FAB_P_CNT_TXFLIT_N p])
    ∧ (∀ p, s.syncPort = some p → s.linkCarries p (s.msg (s.neighbour p) 0 0x20 (leBytes 8 s.epoch)) = false →
      s.get (FAB_P_STATE_QCAUSE p) = 0 → ∃ t, exec .syncSend s = .next t ∧ t.fab = s.fab ∧ t.get FAB_ERR_UNROUTABLE = 1
      ∧ t.get FAB_CNT_UNROUTABLE_N = (s.get FAB_CNT_UNROUTABLE_N + 1) % 2 ^ 64 ∧ OnlyFab s t [FAB_CNT_UNROUTABLE_N, FAB_ERR_UNROUTABLE])
    ∧ (∀ i b, s.firstIn (isMsg 0x20 none) = some i → i.port < 6 → s.portUp i.port = true →
      b = slice i.pkt.payload 0 8 ++ leBytes 8 i.start ++ leBytes 8 s.epoch →
      s.linkCarries i.port (s.msg (s.neighbour i.port) 0 0x21 b) = true → ∃ t, exec .sync s = .next t
      ∧ SendsOn s t i.port 0x21 b ∧ OnlyFab s t [FAB_P_CNT_TXFLIT_N i.port])
    ∧ (∀ (i : InPkt) (t1 t2 t3 t4 off : Int), s.firstIn (isMsg 0x21 none) = some i → s.syncPort = some i.port →
      t1 = (leAt i.pkt.payload 0 8 : Nat) → t2 = (leAt i.pkt.payload 8 8 : Nat) → t3 = (leAt i.pkt.payload 16 8 : Nat) →
      t4 = (i.start : Nat) → off = ((t2 - t1) + (t3 - t4)).tdiv 2 →
      ∃ t, exec .syncResp s = .next t ∧ t.get FAB_SYNC_OFFSET_OFF = ofSigned 32 off % 2 ^ 32
        ∧ t.get FAB_SYNC_DELAY_DELAY = ofSigned 32 (((t4 - t1) - (t3 - t2)).tdiv 2) % 2 ^ 32
        ∧ (0 ≤ off → t.get FAB_EPOCH_T = (s.epoch + off.toNat) % 2 ^ 64 ∧ t.fab.slew = 0)
        ∧ (off < 0 → t.get FAB_EPOCH_T = s.epoch ∧ t.fab.slew = (-off).toNat)
        ∧ t.fab.exchanges = s.fab.exchanges + 1 ∧ t.fab.counting = true ∧ (2 ≤ s.fab.exchanges → t.get FAB_SYNC_STS_LOCKED = 1)
        ∧ OnlyFab s t [FAB_SYNC_OFFSET_OFF, FAB_SYNC_DELAY_DELAY, FAB_SYNC_RATE_PPB, FAB_EPOCH_T, FAB_SYNC_STS_LOCKED])
    ∧ (s.is FAB_SYNC_STS_REFCLK_LOST = false → ∃ t, exec .refclkLoss s = .next t ∧ t.get FAB_SYNC_STS_REFCLK_LOST = 1
      ∧ t.get FAB_ERR_REFCLK = 1 ∧ OnlyFab { s with power := { s.power with rackLost := true } } t [FAB_SYNC_STS_REFCLK_LOST, FAB_ERR_REFCLK])
    ∧ (∃ t, exec .refclkRestore s = .next t ∧ t.get FAB_SYNC_STS_REFCLK_LOST = 0
      ∧ OnlyFields { s with power := { s.power with rackLost := false } } t [FAB_SYNC_STS_REFCLK_LOST])

/-! ### Flits and packets (R371 to R373, R377, R379, R382, R389, R390) -/

/-- A packet whose fields fit the places that R373 gives them. -/
def PacketFits (k : Packet) : Prop :=
  k.level < 2 ^ 4 ∧ k.ptype < 2 ^ 4 ∧ k.cls < 2 ^ 2 ∧ k.status < 2 ^ 4 ∧ k.len < 2 ^ 16 ∧ k.dst < 2 ^ 14 ∧ k.src < 2 ^ 14 ∧ k.addr < 2 ^ 64
    ∧ k.tenant < 2 ^ 10 ∧ k.tag < 2 ^ 16 ∧ k.msgtype < 2 ^ 8 ∧ k.hops < 2 ^ 8 ∧ k.rty < 2 ^ 8

/-- Reading the bytes of a packet gives the packet back, whatever values within the widths of R373 its fields hold (PacketFits). -/
def Obligations.PacketsReadBack : Prop := ∀ k : Packet, PacketFits k → packetOf k.bytes = k

/-- A flit that the FEC could not correct, and one whose CRC is wrong, are counted and not taken: the next SEQ expected stays, and no packet
is taken in. -/
def FlitsRefused : Prop :=
  ∀ (p : PortNo) (flit : List Byte) (corr : Nat) (s : State), s.get (FAB_P_STATE_STATE p) ∈ [2, 3, 4, 5] → flit.length = 256 →
    (∃ t, exec (.flitReceive p flit corr true) s = .next t
      ∧ t.get (FAB_P_CNT_FEC_UNCORR_N p) = (s.get (FAB_P_CNT_FEC_UNCORR_N p) + 1) % 2 ^ 64 ∧ (t.port p).rxSeq = (s.port p).rxSeq
      ∧ t.fab.inbox = s.fab.inbox ∧ t.fab.inq = s.fab.inq ∧ OnlyFab s t [FAB_P_CNT_FEC_CORR_N p, FAB_P_CNT_FEC_UNCORR_N p])
    ∧ (crc32 (flit.take 252) ≠ leAt flit 252 4 → ∃ t, exec (.flitReceive p flit corr false) s = .next t
      ∧ t.get (FAB_P_CNT_CRC_N p) = (s.get (FAB_P_CNT_CRC_N p) + 1) % 2 ^ 64 ∧ (t.port p).rxSeq = (s.port p).rxSeq
      ∧ t.fab.inbox = s.fab.inbox ∧ t.fab.inq = s.fab.inq ∧ OnlyFab s t [FAB_P_CNT_FEC_CORR_N p, FAB_P_CNT_CRC_N p])

/-- On an UP port that replays nothing, a DATA flit with the SEQ expected that holds a whole well-formed packet for this device is taken: the
packet waits at this device's endpoint, the next SEQ is expected, and the flit is counted. -/
def FlitsTaken : Prop :=
  ∀ (p : PortNo) (flit l : List Byte) (corr h vc level : Nat) (s : State), s.portUp p = true → flit.length = 256 → h = leAt flit 0 8 →
    crc32 (flit.take 252) = leAt flit 252 4 → s.flitRefused p h flit = false → bits h 0 2 = 1 → bitOf h 35 = false → bitOf h 5 = true →
    bitOf h 6 = true → vc = 2 * bits h 3 2 + bits h 2 1 → bits h 8 12 = (s.port p).rxSeq → (s.port p).nak = none →
    (s.port p).replayTo = none → (s.port p).replay = none → (s.port p).txq = [] → (tget {} (s.port p).rx vc).flits = 0 →
    s.bufUsed p vc < vcSize vc → bits h 48 8 ≤ 240 → l = (slice flit 8 240).take (bits h 48 8) →
    level = (if s.get (FAB_P_STATE_LEVEL p) = 1 then 1 else 2) → s.malformed level vc l = none → (packetOf l).dst = s.chip →
    ∃ t, exec (.flitReceive p flit corr false) s = .next t ∧ (t.port p).rxSeq = ((s.port p).rxSeq + 1) % 4096
      ∧ t.fab.inbox = s.fab.inbox ++ [{ port := p, vc, flits := 1, start := s.epoch,
                                        pkt := { packetOf l with rty := min 255 ((packetOf l).rty) }, no := s.fab.arrived }]
      ∧ t.fab.inq = s.fab.inq ∧ t.get (FAB_P_CNT_RXFLIT_N p) = (s.get (FAB_P_CNT_RXFLIT_N p) + 1) % 2 ^ 64
      ∧ OnlyFab s t [FAB_P_CNT_FEC_CORR_N p, FAB_P_CNT_RXFLIT_N p]

/-- A first NAK on an UP port below its limits is counted; every flit after the acknowledged one leaves again, in order, counted as sent, and stays
for further replays. -/
def NaksReplay : Prop :=
  ∀ (p : PortNo) (ack : Nat) (f : TxFlit) (rest : List TxFlit) (s : State), s.portUp p = true → (s.port p).replay = none →
    (s.port p).txq = [] → ackTo ack (s.port p).retry = f :: rest →
    (pushTime s.now (windowOf (s.get (FAB_P_RETRY_THR_WIN_MS p))) (s.port p).retryTimes).length ≤ s.get (FAB_P_RETRY_THR_THR p) →
    ∃ t, exec (.nak p ack) s = .next t ∧ t.get (FAB_P_CNT_RETRY_N p) = (s.get (FAB_P_CNT_RETRY_N p) + 1) % 2 ^ 64
      ∧ (t.port p).retry = f :: rest ∧ (t.port p).replay = some (f.seq, 1, s.now) ∧ t.portUp p = true
      ∧ (t.port p).wire.map WireFlit.flit = (s.port p).wire.map WireFlit.flit ++ f :: rest
      ∧ t.get (FAB_P_CNT_TXFLIT_N p) = (s.get (FAB_P_CNT_TXFLIT_N p) + (rest.length + 1)) % 2 ^ (FAB_P_CNT_TXFLIT_N p).width
      ∧ OnlyFab s t [FAB_P_CNT_RETRY_N p, FAB_P_CNT_TXFLIT_N p]

/-- The packet at the head of an input's virtual channel leaves on the port and virtual channel of its route, where that has credits and it
is its turn, with one hop more unless it is the device's own; one without a route that asks for no response is counted and discarded. A packet
that is still arriving goes out as far as it has come (R379); that it takes all its credits then is log 124, the model's choice. -/
def Obligations.PacketsForwarded : Prop :=
  ∀ (src : Fin 7) (vc : Fin 8) (s : State) (i : InPkt),
    (s.headPkt src vc = some i → ∀ q ovc, s.route i.pkt = some (q, ovc) → s.canSend q ovc i.pkt = true →
      s.turn q (8 * src.val + vc.val) ovc (s.ready q) = true → ∃ t, exec (.packetForward src vc) s = .next t
        ∧ t.fab.inq = s.fab.inq.erase i
        ∧ (t.port q).retry = (s.port q).retry ++ flitsOf (s.port q).txSeq ovc
            { i.pkt with hops := if src.val = 6 then 0 else i.pkt.hops + 1,
                         level := if s.get (FAB_P_STATE_LEVEL q) = 1 then 1 else 2 }
        ∧ OnlyFab s t [FAB_P_CNT_TXFLIT_N q])
    ∧ (s.headPkt src vc = none → s.cutHead src vc = some i → ∀ q ovc, s.route i.pkt = some (q, ovc) → s.canSend q ovc i.pkt = true →
      s.turn q (8 * src.val + vc.val) ovc (s.ready q) = true → ∃ t, exec (.packetForward src vc) s = .next t ∧ t.fab.inq = s.fab.inq
        ∧ (t.port q).retry = (s.port q).retry ++ (flitsOf (s.port q).txSeq ovc
            { i.pkt with hops := i.pkt.hops + 1, level := if s.get (FAB_P_STATE_LEVEL q) = 1 then 1 else 2 }).take i.flits
        ∧ OnlyFab s t [FAB_P_CNT_TXFLIT_N q])
    ∧ (s.headPkt src vc = some i → s.route i.pkt = none → wantsResponse i.pkt = false → ∃ t, exec (.packetForward src vc) s = .next t
        ∧ t.fab.inq = s.fab.inq.erase i ∧ t.get FAB_CNT_UNROUTABLE_N = (s.get FAB_CNT_UNROUTABLE_N + 1) % 2 ^ 64
        ∧ t.get FAB_ERR_UNROUTABLE = 1 ∧ OnlyFab s t [FAB_CNT_UNROUTABLE_N, FAB_ERR_UNROUTABLE])

/-! ### Requests and responses (R374, R376, R391, R407) -/

/-- A memory packet for an unbenched loom's window that neither a domain nor a full FIFO keeps waiting joins that loom's FIFO as its access:
a WRITE as what R274 makes of it, a READ, and an ATOMIC of either operation. Its RTY counts at the loom. The depth of the FIFO is
log 112, and the 16-byte masked atomic log 113: the model's choices. -/
def MemoryPacketsWait : Prop :=
  ∀ (s : State) (i : InPkt) (k : Packet) (n : LoomNo) (off len : Nat) (c : Instr) (kind : InKind) (want : Packet → Bool),
    (c, kind, len, want) ∈ ([(.packetWrite, s.writeKind n off k, k.payload.length, fun k => k.ptype == 0),
      (.packetRead, .read, k.len, fun k => k.ptype == 1), (.fetchAdd, .atomic 1, 8, fun k => k.ptype == 4 && k.msgtype == 1),
      (.masked, .atomic 2, atomicWidth 2 k.payload, fun k => k.ptype == 4 && k.msgtype == 2)] : List (Instr × InKind × Nat × (Packet → Bool))) →
    (s.firstIn fun i => want i.pkt) = some i → k = i.pkt → s.packetWaits k len = false →
    padOf (fabLocal k.addr) len = some (n.val, off) → s.is (LOOM_STATUS_BENCHED n) = false →
    ∃ t, exec c s = .next t ∧ t.fab.inbox = s.fab.inbox.erase i
      ∧ (t.lm n).spd.fifo = (s.lm n).spd.fifo ++ [{ kind, off, len, data := k.payload, poison := k.poison, tenant := k.tenant,
                                                     req := k.requester, tag := if wantsResponse k then some k.tag else none, cls := k.cls }]
      ∧ tget 0 t.svc.rty n = max (tget 0 s.svc.rty n) k.rty
      ∧ t.flds = s.flds ∧ SameMemory s t ∧ OtherLooms s t n

/-- A response ends the request of its TAG: a waiting read of a loom gets its bytes, and a loom's write is acknowledged. A request whose
response does not come in time is counted, and its read gets poison. -/
def ResponsesComplete : Prop :=
  ∀ (s : State) (r : Req) (st : Nat) (d : List Byte) (pois : Bool),
    (∀ (c : Instr) (type : Nat) (i : InPkt), (c, type) ∈ [(Instr.readresp, 2), (.wrack, 3), (.atomresp, 5)] →
      (s.firstIn fun i => i.pkt.ptype == type) = some i → (s.fab.reqs.find? fun r => r.tag == i.pkt.tag) = some r →
      st = i.pkt.status → d = i.pkt.payload → pois = i.pkt.poison →
      ∃ t, exec c s = .next t ∧ t.fab = { s.fab with inbox := s.fab.inbox.erase i, reqs := s.fab.reqs.erase r }
        ∧ (∀ m u, r.by_ = .loomRead m u → (t.lm m).pend = giveRead u ⟨st, d, pois⟩ (s.lm m).pend)
        ∧ (∀ m, r.by_ = .loomWrite m → (t.lm m).seq.writesOut = (s.lm m).seq.writesOut - 1) ∧ t.flds = s.flds ∧ SameMemory s t)
    ∧ (∀ tag : Fin 65536, (s.fab.reqs.find? fun r => r.tag == tag.val) = some r → ∃ t, exec (.requestTimeout tag) s = .next t
        ∧ t.fab = { s.fab with reqs := s.fab.reqs.erase r } ∧ t.get FAB_CNT_TIMEOUT_N = (s.get FAB_CNT_TIMEOUT_N + 1) % 2 ^ 64
        ∧ t.get FAB_ERR_TIMEOUT = 1 ∧ (∀ m u, r.by_ = .loomRead m u → (t.lm m).pend = giveRead u ⟨5, [], true⟩ (s.lm m).pend)
        ∧ SameFields s t [FAB_CNT_TIMEOUT_N, FAB_ERR_TIMEOUT] ∧ SameMemory s t)
    ∧ (∃ t, exec .fabCntClr s = .next t ∧ t.get FAB_CNT_UNROUTABLE_N = 0 ∧ t.get FAB_CNT_TIMEOUT_N = 0 ∧ t.get FAB_CNT_MBX_DROP_N = 0
        ∧ t.get FAB_CNT_COLL_STALE_N = 0
        ∧ OnlyFields s t [FAB_CNT_UNROUTABLE_N, FAB_CNT_TIMEOUT_N, FAB_CNT_MBX_DROP_N, FAB_CNT_COLL_STALE_N])

/-! ### Collectives and the mailbox (R397 to R400, R406) -/

/-- A COLL message of a collective that is not valid is counted as stale and discarded, and one whose body header R6 or R7 refuses is recorded.
The last contribution to an ALLREDUCE reaches its root, whose one loom has joined: the reduced elements go to that loom's inbound FIFO as a
write at DST_OFF. The body's layout is log 48, and that an element's identity stands for a missing one log 74, the model's choices. -/
def CollectivesCombine : Prop :=
  ∀ (s : State) (i : InPkt) (c : Nat), s.firstIn (isMsg 0x30 none) = some i → c = leAt i.pkt.payload 0 1 →
    (collHdrBad i.pkt.payload = true → ∃ t, exec .coll s = .next t ∧ t.fab.inbox = s.fab.inbox.erase i
      ∧ (∀ e, e = mkRec 15 0 0x201 2 none (leAt i.pkt.payload 4 4) 0 [] → (s.errs.any fun x => sameEvent x e) = false →
        (s.errs.filter fun x => x.src == 15 && x.inst == 0).length < 4 → t.errs = s.errs ++ [e])
      ∧ t.flds = s.flds ∧ SameMemory s t ∧ t.looms = s.looms)
    ∧ (collHdrBad i.pkt.payload = false → s.is (FAB_COLL_VALID c) = false → ∃ t, exec .coll s = .next t ∧ t.fab.inbox = s.fab.inbox.erase i
      ∧ t.get FAB_CNT_COLL_STALE_N = (s.get FAB_CNT_COLL_STALE_N + 1) % 2 ^ 64 ∧ SameFields s t [FAB_CNT_COLL_STALE_N] ∧ SameMemory s t
      ∧ t.looms = s.looms)
    ∧ (∀ (n : LoomNo) (own : CollPart) (step dtype red : Nat) (r : List Nat) (out : List Byte),
      step = leAt i.pkt.payload 4 4 → s.is (FAB_COLL_VALID c) = true → s.collFresh c step = true → s.get (FAB_COLL_OP c) = 0 →
      s.collRoot c = true → s.collLooms c = [n.val] → s.collChildren c = [i.port] → i.port < 6 → s.neighbour i.port ≠ s.chip → s.collIndex c n < 65536 →
      (s.collStep c step).sentUp = false → (s.collStep c step).part (s.collIndex c n) = some own →
      s.is (LOOM_STATUS_BENCHED n) = false → collHdrBad i.pkt.payload = false →
      (∀ x ∈ (s.collStep c step).parts, x.from_ ≠ childKey i.port) → leAt i.pkt.payload 8 4 = 0 → bitOf (leAt i.pkt.payload 16 1) 4 = true →
      dtype = s.get (FAB_COLL_DTYPE c) → red = s.get (FAB_COLL_RED c) →
      r = collZip dtype red (ownElems dtype red own.data) (elems (partSize dtype red) (i.pkt.payload.drop 32)) →
      out = (if dtype = 2 && red = 0 then r.flatMap (fun x => leBytes 2 (f32ToBf16 x)) else r.flatMap (leBytes (elemSize dtype))) →
      0 < out.length → out.length ≤ s.get (FAB_COLL_MAXLEN c) → s.get (FAB_COLL_DST_OFF c) + out.length ≤ spadSize n →
      ∃ t, exec .coll s = .next t ∧ t.fab.inbox = s.fab.inbox.erase i ∧ SameMemory s t ∧ OtherLooms s t n
        ∧ (t.lm n).spd.fifo = (s.lm n).spd.fifo ++ [⟨.result c true, s.get (FAB_COLL_DST_OFF c), out.length, out, own.poison || i.pkt.poison, 0,
            .collective, none, 0, false⟩]
        ∧ (t.lm n).seq = (s.lm n).seq)

/-- The last write of a result at the head of a loom's FIFO, which the port serves: its bytes land, and the loom's WAIT ends. -/
def ResultsLand : Prop :=
  ∀ (n : LoomNo) (deferred c b sl : Nat) (e : Bool) (s : State) (i : Inbound) (rest : List Inbound), s.ncOpen n = true →
    (s.lm n).spd.fifo = i :: rest → i.kind = .result c true → s.inwinOk n i.req i.tenant true i.off i.len = true →
    i.off + i.data.length ≤ spadSize n → i.off + i.data.length ≤ 0xC00000 → (s.lm n).seq.pause = some ⟨.coll c false, b, sl, e⟩ →
    ∃ t, exec (.ncInboundServe n deferred []) s = .next t ∧ (t.lm n).spd.fifo = rest ∧ t.spRead n i.off i.data.length = i.data
      ∧ (t.lm n).seq.pause = some ⟨.coll c true, b, sl, e⟩ ∧ StoresWithin s t n [(i.off, i.data.length)] ∧ OtherLooms s t n

/-- A HOSTMSG that fits the mailbox ring is written there behind its header, and the tail goes on; one for which there is no room is counted
as dropped and changes nothing but the endpoint. -/
def HostMessagesTaken : Prop :=
  ∀ (s : State) (i : InPkt), s.firstIn (isMsg 0x50 none) = some i → i.pkt.ackreq = false →
    (s.mbxSize ≠ 0 → (s.get FAB_MBX_TAIL_TAIL + 1) % s.mbxSize ≠ s.get FAB_MBX_HEAD_HEAD → i.pkt.payload.length ≤ 4032 →
      exec .hostmsg s = .next (((s.takeIn i).devWrite (s.get FAB_MBX_BASE_ADDR + 4096 * s.get FAB_MBX_TAIL_TAIL)
        (mbxHeader i.pkt ++ i.pkt.payload) i.pkt.poison).set FAB_MBX_TAIL_TAIL ((s.get FAB_MBX_TAIL_TAIL + 1) % s.mbxSize)))
    ∧ (s.mbxSize = 0 ∨ (s.get FAB_MBX_TAIL_TAIL + 1) % s.mbxSize = s.get FAB_MBX_HEAD_HEAD ∨ 4032 < i.pkt.payload.length →
      ∃ t, exec .hostmsg s = .next t ∧ t.fab.inbox = s.fab.inbox.erase i
        ∧ t.get FAB_CNT_MBX_DROP_N = (s.get FAB_CNT_MBX_DROP_N + 1) % 2 ^ 64 ∧ OnlyFab s t [FAB_CNT_MBX_DROP_N])

/-- Loom state stays, and so does every byte of memory below HBM, where Selvedge's error ring lies (R515). -/
def LoomsStay (s t : State) : Prop := t.looms = s.looms ∧ ∀ a, a < hbmBase → t.byteAt a = s.byteAt a

/-! ### Ethernet (R403 to R405, R409) -/

/-- ETH_CTL of a port that is not of the FABRIC personality takes its fields, a MAXFRAME out of range acts and reads as 1,518, and EN written 0 takes
the link down; a FABRIC port ignores the write. A link comes up on an enabled port of the ETH personality, and goes down. -/
def EthernetLinks : Prop :=
  ∀ (e : EthNo) (v : Nat) (s : State),
    (s.get (FAB_P_ID_PERS (e.val / 3)) ≠ 1 → ∃ t, exec (.ethCtlWrite e v) s = .next t ∧ t.get (ETH_CTL_EN e) = bits v 0 1
      ∧ t.get (ETH_CTL_MAXFRAME e) = bits v 16 14
      ∧ t.maxFrame e = (if 64 ≤ bits v 16 14 ∧ bits v 16 14 ≤ 9216 then bits v 16 14 else 1518)
      ∧ (bits v 0 1 = 0 → t.get (ETH_STATUS_LINK e) = 0 ∧ t.get (ETH_STATUS_FEC_LOCK e) = 0)
      ∧ OnlyFields s t [ETH_CTL_EN e, ETH_CTL_PMD e, ETH_CTL_AN e, ETH_CTL_PFC_EN e, ETH_CTL_MAXFRAME e, ETH_STATUS_LINK e,
          ETH_STATUS_FEC_LOCK e, ETH_STATUS_AN_DONE e, PWR_DOM_STATE (156 + e.val / 3)])
    ∧ (s.get (FAB_P_ID_PERS (e.val / 3)) = 1 → exec (.ethCtlWrite e v) s = .next s)
    ∧ (s.isEth e = true → s.is (ETH_CTL_EN e) = true → ∃ t, exec (.ethLinkUp e) s = .next t ∧ t.get (ETH_STATUS_LINK e) = 1
      ∧ t.get (ETH_STATUS_FEC_LOCK e) = 1 ∧ OnlyFields s t [ETH_STATUS_LINK e, ETH_STATUS_FEC_LOCK e, ETH_STATUS_AN_DONE e])
    ∧ (∃ t, exec (.ethLinkLoss e) s = .next t ∧ t.get (ETH_STATUS_LINK e) = 0 ∧ t.get (ETH_STATUS_FEC_LOCK e) = 0
      ∧ OnlyFields s t [ETH_STATUS_LINK e, ETH_STATUS_FEC_LOCK e])

/-- A frame with a wrong FCS is counted and dropped; a PAUSE frame is counted; a frame to a MAC address of a tunnel entry leaves as one
ETH_PACKET to the entry's chip; and one that matches nothing takes the next receive descriptor, or is dropped where the ring has
none (what then is log 77). Where PFC_EN is 1, a priority-based flow control frame may follow (log 109, the model's choice). No memory stack
sleeps: the command would wait for them (R486). -/
def FramesArrive : Prop :=
  ∀ (e : EthNo) (frame l : List Byte) (corr bad : Nat) (s : State), s.stacksAsleep = false → s.ethUp e = true → 64 ≤ frame.length →
    frame.length ≤ s.maxFrame e → l = frame.take (frame.length - 4) →
    (leAt frame (frame.length - 4) 4 ≠ crc32 l → ∃ t, exec (.ethFrameRx e frame corr bad) s = .next t
      ∧ t.get (ETH_CNT_RX_FCS_N e) = (s.get (ETH_CNT_RX_FCS_N e) + 1) % 2 ^ 64
      ∧ OnlyFields s t [ETH_CNT_FEC_CORR_N e, ETH_CNT_FEC_UNCORR_N e, ETH_CNT_RX_FCS_N e])
    ∧ (leAt frame (frame.length - 4) 4 = crc32 l → etherType l = 0x8808 → macOpcode l = 1 →
      ∃ t, exec (.ethFrameRx e frame corr bad) s = .next t
        ∧ t.get (ETH_CNT_RX_FRAMES_N e) = (s.get (ETH_CNT_RX_FRAMES_N e) + 1) % 2 ^ 64
        ∧ t.get (ETH_CNT_RX_PAUSE_N e) = (s.get (ETH_CNT_RX_PAUSE_N e) + 1) % 2 ^ 64
        ∧ OnlyFields s t [ETH_CNT_FEC_CORR_N e, ETH_CNT_FEC_UNCORR_N e, ETH_CNT_RX_FRAMES_N e, ETH_CNT_RX_PAUSE_N e])
    ∧ (leAt frame (frame.length - 4) 4 = crc32 l → etherType l ≠ 0x8808 →
      (∀ i, s.ethMatch l = some i → s.is (FAB_ETH_FWD_LOCAL i) = false → l.length ≤ 4096 → s.get (FAB_ETH_FWD_CHIP i) ≠ s.chip →
        ∃ t, exec (.ethFrameRx e frame corr bad) s = .next t
          ∧ t.fab.inq = s.fab.inq ++ [{ port := 6, vc := 4, flits := 0, start := s.epoch,
                                        pkt := { ptype := 7, cls := 2, len := l.length, dst := s.get (FAB_ETH_FWD_CHIP i), src := s.chip,
                                                 tag := s.get (FAB_ETH_FWD_ETHPORT i), payload := l } }]
          ∧ t.get (ETH_CNT_TUN_TX_N e) = (s.get (ETH_CNT_TUN_TX_N e) + 1) % 2 ^ 64
          ∧ OnlyFab s t [ETH_CNT_FEC_CORR_N e, ETH_CNT_FEC_UNCORR_N e, ETH_CNT_RX_FRAMES_N e, ETH_CNT_TUN_TX_N e])
      ∧ (s.ethMatch l = none → ethRingOk (s.get (ETH_RX_RING_SIZE e)) = false → ∃ t, exec (.ethFrameRx e frame corr bad) s = .next t
          ∧ t.get (ETH_CNT_RX_DROP_N e) = (s.get (ETH_CNT_RX_DROP_N e) + 1) % 2 ^ 64
          ∧ (s.is (ETH_CTL_PFC_EN e) = false → OnlyFields s t [ETH_CNT_FEC_CORR_N e, ETH_CNT_FEC_UNCORR_N e, ETH_CNT_RX_FRAMES_N e, ETH_CNT_RX_DROP_N e]))
      ∧ (∀ u r a, s.ethMatch l = none → ethRingOk (s.get (ETH_RX_RING_SIZE e)) = true →
          (s.get (ETH_RX_RING_TAIL e) + 1) % s.get (ETH_RX_RING_SIZE e) ≠ s.get (ETH_RX_RING_HEAD e) →
          u = ((s.add (ETH_CNT_FEC_CORR_N e) corr).add (ETH_CNT_FEC_UNCORR_N e) bad).add (ETH_CNT_RX_FRAMES_N e) 1 →
          a = s.get (ETH_RX_BASE_ADDR e) + 32 * s.get (ETH_RX_RING_TAIL e) → r = (u.devRead a 32).1 → descRefused r = false →
          ∃ t, exec (.ethFrameRx e frame corr bad) s = .next t
            ∧ t = ((((u.devRead a 32).2.set (ETH_RX_RING_TAIL e) ((s.get (ETH_RX_RING_TAIL e) + 1) % s.get (ETH_RX_RING_SIZE e))).devWrite
                (leAt r.data 0 8) l false).descDone a l.length (leAt r.data 10 1 % 4 / 2 * 2) (some s.epoch)).pfcSend e
            ∧ t.get (ETH_RX_RING_TAIL e) = (s.get (ETH_RX_RING_TAIL e) + 1) % s.get (ETH_RX_RING_SIZE e)))

/-- The next transmit descriptor's frame leaves with its FCS, padded to 60 bytes (log 76, deduced), and is counted; a tunnelled frame leaves
the port that its TAG names, or is counted as dropped where that port is not up. -/
def FramesLeave : Prop :=
  (∀ (e : EthNo) (s u : State) (a len : Nat) (r f : RdData), s.stacksAsleep = false → s.ethUp e = true →
    ethRingOk (s.get (ETH_TX_RING_SIZE e)) = true →
    s.get (ETH_TX_RING_HEAD e) ≠ s.get (ETH_TX_RING_TAIL e) % s.get (ETH_TX_RING_SIZE e) →
    a = s.get (ETH_TX_BASE_ADDR e) + 32 * s.get (ETH_TX_RING_HEAD e) → r = (s.devRead a 32).1 → descRefused r = false →
    u = (s.devRead a 32).2.set (ETH_TX_RING_HEAD e) ((s.get (ETH_TX_RING_HEAD e) + 1) % s.get (ETH_TX_RING_SIZE e)) →
    len = leAt r.data 8 2 → f = (u.devRead (leAt r.data 0 8) len).1 → f.status = 0 → s.pfcPaused e (framePrio f.data) = false →
    f.pois.any id = false → len + 4 ≤ s.maxFrame e →
    ∃ t, exec (.ethFrameTx e) s = .next t ∧ t.fab.frameOut = some (e.val, withFcs (slice f.data 0 (max 60 f.data.length)))
      ∧ t.get (ETH_CNT_TX_FRAMES_N e) = (s.get (ETH_CNT_TX_FRAMES_N e) + 1) % 2 ^ 64
      ∧ t.get (ETH_TX_RING_HEAD e) = (s.get (ETH_TX_RING_HEAD e) + 1) % s.get (ETH_TX_RING_SIZE e) ∧ t.looms = s.looms)
  ∧ (∀ (s : State) (i : InPkt), (s.firstIn fun i => i.pkt.ptype == 7) = some i → i.pkt.tag % 32 < 18 →
    (s.ethUp (i.pkt.tag % 32) = true → i.pkt.poison = false → i.pkt.payload.length + 4 ≤ s.maxFrame (i.pkt.tag % 32) →
      s.pfcPaused (i.pkt.tag % 32) (framePrio i.pkt.payload) = false → ∃ t, exec .ethPacket s = .next t
        ∧ t.fab.inbox = s.fab.inbox.erase i
        ∧ t.fab.frameOut = some (i.pkt.tag % 32, withFcs (slice i.pkt.payload 0 (max 60 i.pkt.payload.length)))
        ∧ OnlyFab s t [ETH_CNT_TX_FRAMES_N (i.pkt.tag % 32)])
    ∧ (s.ethUp (i.pkt.tag % 32) = false → ∃ t, exec .ethPacket s = .next t ∧ t.fab.inbox = s.fab.inbox.erase i
        ∧ t.get (ETH_CNT_TUN_DROP_N (i.pkt.tag % 32)) = (s.get (ETH_CNT_TUN_DROP_N (i.pkt.tag % 32)) + 1) % 2 ^ 64
        ∧ OnlyFab s t [ETH_CNT_TUN_DROP_N (i.pkt.tag % 32)]))

/-! ### The Card image (R424 to R427) -/

/-- A load has begun: it is under way as l says, and nothing but CRD_CTL and CRD_STATUS shows it. -/
def LoadBegun (s t : State) (kind : Nat) (l : CardLoad) : Prop :=
  t.get CRD_STATUS_BUSY = 1 ∧ t.get CRD_CTL_KIND = kind ∧ t.crd = some l
    ∧ SameFields s t [CRD_CTL_KIND, CRD_CTL_SRC_FLASH, CRD_STATUS_OPEN_DEFER, CRD_STATUS_BUSY] ∧ SameMemory s t ∧ t.looms = s.looms

/-- A load was refused at once because its preconditions do not hold. -/
def LoadNotReady (s t : State) : Prop :=
  t.get CRD_LOAD_STS_STS = 0x11 ∧ t.get CRD_CNT_REFUSED_N = (s.get CRD_CNT_REFUSED_N + 1) % 2 ^ 64 ∧ t.crd = none
    ∧ SameFields s t [CRD_CTL_KIND, CRD_CTL_SRC_FLASH, CRD_STATUS_OPEN_DEFER, CRD_STATUS_BUSY, CRD_LOAD_STS_STS, CRD_LOAD_STS_SECT,
        CRD_LOAD_STS_INDEX, CRD_CNT_REFUSED_N] ∧ SameMemory s t ∧ t.looms = s.looms

/-- A load of either kind begins where its preconditions hold, with the source that CRD_CTL names, flash only for Selvedge; else it is refused
at once with status STATE (0x11) and counted. -/
def CardLoadsBegin : Prop :=
  ∀ (s : State) (req : Requester), s.crd = none →
    (s.fullReady = true → ∃ t, exec (.cardLoadFull req) s = .next t ∧ LoadBegun s t 0
      { full := true, mask := 0, addr := s.get CRD_SRC_ADDR, flash := if req = .selvedge then s.cardSrc else none })
    ∧ (s.fullReady = false → ∃ t, exec (.cardLoadFull req) s = .next t ∧ LoadNotReady s t)
    ∧ (s.functionReady [] (s.get CRD_FUNC_BOLTS_MASK) = true → ∃ t, exec (.cardLoadFunction req) s = .next t ∧ LoadBegun s t 1
      { full := false, mask := s.get CRD_FUNC_BOLTS_MASK, addr := s.get CRD_SRC_ADDR, flash := if req = .selvedge then s.cardSrc else none })
    ∧ (s.functionReady [] (s.get CRD_FUNC_BOLTS_MASK) = false → ∃ t, exec (.cardLoadFunction req) s = .next t ∧ LoadNotReady s t)

/-- A load that is refused with a status, a section and an index: it is over and counted, and the image in force, the looms and LOADED are as
before. -/
def LoadRefused (s t : State) (b : CardBad) : Prop :=
  t.crd = none ∧ t.get CRD_STATUS_BUSY = 0 ∧ t.get CRD_LOAD_STS_STS = b.1 % 2 ^ CRD_LOAD_STS_STS.width
    ∧ (b.1 ≠ 0 → t.get CRD_CNT_REFUSED_N = (s.get CRD_CNT_REFUSED_N + 1) % 2 ^ 64) ∧ t.get CRD_CNT_LOADS_N = s.get CRD_CNT_LOADS_N
    ∧ t.get CRD_STATUS_LOADED = s.get CRD_STATUS_LOADED ∧ t.card = s.card ∧ t.looms = s.looms

/-- A load under way whose image, as it was read, fails a check of R426 is refused with that check's status; one read from flash in vain with
FORMAT (1). One whose image passes them all commits: its sections are in force, its ID, SVN and digest are shown, and each loom's
ACC_STATUS.COMPAT follows the Draft that it binds (R99, R420). One with a profile on another device reads it first. Where R426 names no place,
the checks stand where log 71 puts them (deduced). -/
def CardLoadsEnd : Prop :=
  ∀ (s r u : State) (l : CardLoad) (flashBad failed : Bool) (img : List Byte) (len : Nat) (ds : List (Nat × List Byte)),
    s.crd = some l → s.cardOp.waiting = false → s.stacksAsleep = false → s.cardRead l flashBad = (img, len, failed, r) →
    (∀ area, l.flash = some area → flashBad = true → ∃ t, exec (.cardCommit flashBad) s = .next t ∧ LoadRefused s t (1, 0, 0))
    ∧ (∀ b, r.cardChecks img len failed = (some b, ds, u) → ∃ t, exec (.cardCommit flashBad) s = .next t ∧ LoadRefused s t b)
    ∧ (r.cardChecks img len failed = (none, ds, u) →
      (∀ a n, profileReads (secsOf img) ((List.range 64).filter (sValid (secsOf img))) s.cardOp.got u = .need a n →
        ∃ t, exec (.cardCommit flashBad) s = .next t ∧ t.crd = some l ∧ t.cardOp.waiting = true ∧ t.card = s.card ∧ t.looms = s.looms
          ∧ t.flds = s.flds ∧ SameMemory s t)
      ∧ (∀ ps rest v, profileReads (secsOf img) ((List.range 64).filter (sValid (secsOf img))) s.cardOp.got u = .done ps rest v →
        (∀ b, v.cardLate l (secsOf img) ps = some b → ∃ t, exec (.cardCommit flashBad) s = .next t ∧ LoadRefused s t b)
        ∧ (v.cardLate l (secsOf img) ps = none → ∃ t, exec (.cardCommit flashBad) s = .next t ∧ t.crd = none
          ∧ t.get CRD_STATUS_BUSY = 0 ∧ t.get CRD_LOAD_STS_STS = 0 ∧ t.get CRD_STATUS_LOADED = 1 ∧ t.card = secsOf img
          ∧ t.get CRD_ACTIVE_ID_ID = leAt img 8 8 ∧ t.get CRD_ACTIVE_SVN_SVN = leAt img 28 4
          ∧ (∀ i, i < 6 → t.get (CRD_ACTIVE_DIGEST_DIGEST i) = leAt (sha384 (img.take (leAt img 20 4))) (8 * i) 8)
          ∧ t.get CRD_CNT_LOADS_N = (s.get CRD_CNT_LOADS_N + 1) % 2 ^ 64 ∧ t.get CRD_CNT_REFUSED_N = s.get CRD_CNT_REFUSED_N
          ∧ (∀ n, n < 144 → t.boltOf n = none → t.get (ACC_STATUS_COMPAT n) = 0)
          ∧ (v.tiers.map = [] → ∀ n, n < 144 → t.boltOf n ≠ none → t.get (ACC_STATUS_COMPAT n) = bits (t.draftNat n 0 4) 5 1))))

/-! ### Selvedge's commands (R444 to R449, R457 to R467) -/

/-- A command of an OP, from SLV_CMD or from a CMD message that an open session sends to the device, finds Selvedge free: the Ingot runs, the
device is not in standby, and no command is under way. -/
def SelvedgeFree (s : State) (src : CmdSrc) (op : Nat) : Prop :=
  s.ingotRuns = true ∧ s.power.standby = false ∧ s.mgmt.cmd = none
    ∧ match src with
      | .regs => True
      | .port h o _ => s.hears h = true ∧ hdrBad h = false ∧ s.mgmt.session = some h.session ∧ o = op

/-- The command of an OP that SLV_CMD or the message gives. -/
def cmdOf (s : State) (src : CmdSrc) (op : Nat) : SlvCmd :=
  match src with
  | .regs => { op, args := (List.range 4).map fun i => s.get (SLV_CMD_ARG_ARG i), hdr := none }
  | .port h _ args => { op, args := (List.range 4).map fun i => args.getD i 0 % 2 ^ 64, hdr := some h }

/-- Selvedge's commands from a source. -/
def selvedgeCommands (src : CmdSrc) : List Instr :=
  [.stage src, .commit src, .fuseAdvance src, .cardPersist src, .assay src, .test src, .bench (.command src), .unbench src, .selfReset src,
    .provision src]

/-- A command has ended at once with a status. -/
def EndsWith (t : State) (op st : Nat) : Prop :=
  t.get SLV_CMD_STS_BUSY = 0 ∧ t.get SLV_CMD_STS_STATUS = st ∧ t.get SLV_CMD_STS_OP = op ∧ t.mgmt.cmd = none

/-- STAGE begins, and BUSY rises. So does CARD_PERSIST once it has read the image at ARG0 and found it to be the one in force; a range outside
HBM ends it with status 1, another image with 8. ASSAY waits for its signature pair, or ends with status 0xC where the identity keys do not
unwrap. FUSE_ADVANCE begins, the fuse supply on where something is burnt; and PROVISION of a device that is manufactured, once its digests are
read, with the supply on. Once every rail is off until cold reset a command that would burn ends with 0xC. COMMIT of a staged image writes its
state record and erases the area; with none it ends with status STATE (0xC). While a command is under way a write of SLV_CMD sets CMD_LOST and
nothing else of Selvedge's, and a CMD message is answered IN_PROGRESS (2). When COMMIT erases and CARD_PERSIST reads is log 80, when the fuse
supply is on log 93, and when the pair is made log 125 (all deduced). -/
def SelvedgeCommandsBegin : Prop :=
  ∀ (s : State) (src : CmdSrc), s.stacksAsleep = false →
    (SelvedgeFree s src 1 → ∃ t, exec (.stage src) s = .next t ∧ t.get SLV_CMD_STS_BUSY = 1
      ∧ t.mgmt = { s.mgmt with cmd := some (cmdOf s src 1) } ∧ SameFields s t [SLV_CMD_STS_BUSY] ∧ LoomsStay s t)
    ∧ (SelvedgeFree s src 4 → ∀ a u, a = (cmdOf s src 4).arg 0 →
      (inHbm a 64 = false → ∃ t, exec (.cardPersist src) s = .next t ∧ EndsWith t 4 1 ∧ t.mgmt.flash = s.mgmt.flash ∧ LoomsStay s t)
      ∧ (∀ l, inHbm a 64 = true → (s.slvBegin (cmdOf s src 4)).slvImage a 0x1000000 = (l, u) →
        (∀ img, l = some img → u.is CRD_STATUS_LOADED = true → sha384 (img.take (leAt img 20 4)) = u.cardDigest →
          ∃ t, exec (.cardPersist src) s = .next t ∧ t.get SLV_CMD_STS_BUSY = 1 ∧ t.mgmt.cmd = some (cmdOf s src 4)
            ∧ t.mgmt.persisting = img ∧ t.mgmt.flash = s.mgmt.flash ∧ LoomsStay s t)
        ∧ (l = none ∨ u.is CRD_STATUS_LOADED = false → ∃ t, exec (.cardPersist src) s = .next t ∧ EndsWith t 4 8
            ∧ t.mgmt.flash = s.mgmt.flash ∧ LoomsStay s t)))
    ∧ (SelvedgeFree s src 5 →
      (s.identityOk = true → ∃ t, exec (.assay src) s = .next t ∧ t.get SLV_CMD_STS_BUSY = 1 ∧ t.mgmt.cmd = some (cmdOf s src 5)
        ∧ (s.mgmt.signing.isSome = true → t.mgmt.signs = s.mgmt.signs ++ [.command])
        ∧ (s.mgmt.signing = none → s.mgmt.signs = [] → t.mgmt.signing = some (.command, s.now + signTime))
        ∧ SameFields s t [SLV_CMD_STS_BUSY] ∧ LoomsStay s t)
      ∧ (s.identityOk = false → ∃ t, exec (.assay src) s = .next t ∧ EndsWith t 5 0xC ∧ LoomsStay s t))
    ∧ (SelvedgeFree s src 3 → ∀ f v, (f, v) = s.fuseTarget (cmdOf s src 3) →
      (s.get f < v → v ≤ 64 → s.power.locked = true → ∃ t, exec (.fuseAdvance src) s = .next t ∧ EndsWith t 3 0xC
        ∧ bitOf t.power.rails 15 = false ∧ LoomsStay s t)
      ∧ (v ≤ s.get f ∨ 64 < v ∨ s.power.locked = false → ∃ t, exec (.fuseAdvance src) s = .next t ∧ t.get SLV_CMD_STS_BUSY = 1
        ∧ t.mgmt = { s.mgmt with cmd := some (cmdOf s src 3) } ∧ SameFields s t [SLV_CMD_STS_BUSY] ∧ LoomsStay s t
        ∧ (s.get f < v → v ≤ 64 → bitOf t.power.rails 15 = true) ∧ (v ≤ s.get f ∨ 64 < v → t.power = s.power)))
    ∧ (SelvedgeFree s src 0xA → ∀ a, a = (cmdOf s src 0xA).arg 0 →
      (∀ l bad u, s.get SEC_LIFECYCLE_STATE = 1 → s.power.locked = false → inHbm a 96 = true →
        (s.slvBegin (cmdOf s src 0xA)).slvRead a 96 = (l, bad, u) →
        (bad = false → ∃ t, exec (.provision src) s = .next t ∧ t.get SLV_CMD_STS_BUSY = 1 ∧ t.mgmt.cmd = some (cmdOf s src 0xA)
          ∧ t.mgmt.persisting = l ∧ bitOf t.power.rails 15 = true ∧ LoomsStay s t)
        ∧ (bad = true → ∃ t, exec (.provision src) s = .next t ∧ EndsWith t 0xA 1 ∧ bitOf t.power.rails 15 = false ∧ LoomsStay s t))
      ∧ (s.get SEC_LIFECYCLE_STATE = 1 → s.power.locked = false → inHbm a 96 = false → ∃ t, exec (.provision src) s = .next t
        ∧ EndsWith t 0xA 1 ∧ LoomsStay s t)
      ∧ (s.get SEC_LIFECYCLE_STATE ≠ 1 ∨ s.power.locked = true → ∃ t, exec (.provision src) s = .next t ∧ EndsWith t 0xA 0xC ∧ LoomsStay s t))
    ∧ (SelvedgeFree s src 2 →
      (∀ len, s.mgmt.staged = some len → s.mgmt.recPos < 256 → ∃ t, exec (.commit src) s = .next t ∧ t.get SLV_CMD_STS_BUSY = 1
        ∧ t.mgmt.cmd = some (cmdOf s src 2) ∧ t.mgmt.record.copying = true ∧ t.mgmt.record.digest = ingotM s.stagedImage
        ∧ (∀ a, flashIngot ≤ a → a < flashIngot + sectorsLen len → tget 0xFF t.mgmt.flash a = 0xFF)
        ∧ (∀ a, 0x10000 ≤ a → a < flashIngot ∨ flashIngot + sectorsLen len ≤ a → tget 0xFF t.mgmt.flash a = tget 0xFF s.mgmt.flash a)
        ∧ SameFields s t [SLV_CMD_STS_BUSY] ∧ LoomsStay s t)
      ∧ (s.mgmt.staged = none → ∃ t, exec (.commit src) s = .next t ∧ EndsWith t 2 0xC ∧ t.mgmt.flash = s.mgmt.flash ∧ LoomsStay s t))
    ∧ (s.ingotRuns = true → s.power.standby = false → s.mgmt.cmd ≠ none →
      (∀ c ∈ selvedgeCommands .regs, ∃ t, exec c s = .next t ∧ t.get SLV_ERR_CMD_LOST = 1 ∧ t.mgmt = s.mgmt
        ∧ SameFields s t [SLV_ERR_CMD_LOST] ∧ LoomsStay s t)
      ∧ (∀ h o args, s.hears h = true → hdrBad h = false → s.mgmt.session = some h.session →
          ∀ c ∈ selvedgeCommands (.port h o args), exec c s = .next (s.answerPort h 7 2 [])))

/-- SLV_COMMAND_DONE ends the command under way: BUSY falls, OP names it, and none is under way. A STAGE that ends with status 0 leaves a
staged image, and with another none; a COMMIT or a CARD_PERSIST whose flash fails ends with status 9; a CARD_PERSIST that ends well gives
the area with the lower CARD_SEQ the next one; a FUSE_ADVANCE whose target is above the counter, and no more than 64, burns it forward
while the fuse supply is on; PROVISION burns the two digests that it has read, and LIFECYCLE becomes OWNED; with the supply off a burn ends
with status 0xC. An ASSAY ends once the security engine has come to its pair, with one more pair
counted. When CARD_PERSIST writes is log 80, when the fuse supply is on log 93, and when a pair is made log 125 (all deduced); that a burn without
its supply ends so is log 142, the model's choice. -/
def SelvedgeCommandsEnd : Prop :=
  ∀ (s : State) (c : SlvCmd) (flashBad : Bool), s.mgmt.cmd = some c → s.stacksAsleep = false →
    (c.op ∈ [1, 2, 3, 4, 0xA] →
    ∃ t, exec (.slvCommandDone flashBad) s = .next t ∧ t.get SLV_CMD_STS_BUSY = 0 ∧ t.get SLV_CMD_STS_OP = c.op ∧ t.mgmt.cmd = none
      ∧ (c.op = 1 → (t.get SLV_CMD_STS_STATUS = 0 ↔ t.mgmt.staged ≠ none))
      ∧ (c.op = 2 → flashBad = true → t.get SLV_CMD_STS_STATUS = 9)
      ∧ (c.op = 3 → s.get (s.fuseTarget c).1 < (s.fuseTarget c).2 → (s.fuseTarget c).2 ≤ 64 →
          (bitOf s.power.rails 15 = true → t.get (s.fuseTarget c).1 = (s.fuseTarget c).2 ∧ t.get SLV_CMD_STS_STATUS = 0)
          ∧ (bitOf s.power.rails 15 = false → t.get (s.fuseTarget c).1 = s.get (s.fuseTarget c).1 ∧ t.get SLV_CMD_STS_STATUS = 0xC))
      ∧ (c.op = 4 → t.get SLV_CMD_STS_STATUS = (if flashBad then 9 else 0) ∧ (flashBad = false →
          (if s.mgmt.record.cardSeqA ≤ s.mgmt.record.cardSeqB then t.mgmt.record.cardSeqA else t.mgmt.record.cardSeqB)
            = max s.mgmt.record.cardSeqA s.mgmt.record.cardSeqB + 1))
      ∧ (c.op = 0xA → bitOf s.power.rails 15 = true → t.get SLV_CMD_STS_STATUS = 0 ∧ t.get SEC_LIFECYCLE_STATE = 2
          ∧ t.get (SEC_ROOT_DIGEST 3) = leNat (slice s.mgmt.persisting 0 48)
          ∧ t.get (SEC_ROOT_DIGEST 4) = leNat (slice s.mgmt.persisting 48 48))
      ∧ (c.op = 0xA → bitOf s.power.rails 15 = false → t.get SLV_CMD_STS_STATUS = 0xC ∧ t.get SEC_LIFECYCLE_STATE = s.get SEC_LIFECYCLE_STATE)
      ∧ t.looms = s.looms)
    ∧ (c.op = 5 → ∀ x nonce, s.mgmt.signing = some (.command, x) →
      nonce = ((List.range 4).flatMap fun i => leBytes 8 (s.get (SLV_NONCE_NONCE i))) →
      ∃ t, exec (.slvCommandDone flashBad) s = .next t ∧ t.mgmt.cmd = none ∧ t.looms = s.looms
        ∧ (∀ n, n = (s.signDone.assayOf nonce).length →
          (n ≤ c.arg 1 → inHbm (c.arg 0) n = true → EndsWith t 5 0 ∧ t.get SEC_CNT_SIGN_N = (s.get SEC_CNT_SIGN_N + 1) % 2 ^ 64)
          ∧ (c.arg 1 < n ∨ inHbm (c.arg 0) n = false → EndsWith t 5 1)))

/-- BENCH takes a loom, a stack, a port or a channel out of service, UNBENCH clears its bit in the bench map and leaves the unit out; a unit
that does not exist is refused with status 1. A loom that asks to be benched is, while the Ingot runs. -/
def UnitsBench : Prop :=
  ∀ (s : State) (src : CmdSrc) (u : Nat),
    (SelvedgeFree s src 7 → u = (cmdOf s src 7).arg 0 →
      (unitOk benchKinds u = true → ∃ t, exec (.bench (.command src)) s = .next t ∧ EndsWith t 7 0
        ∧ (u % 16 = 0 → t.get (LOOM_STATUS_BENCHED (u / 256)) = 1 ∧ bitOf t.mgmt.record.loomMap (u / 256) = true)
        ∧ (u % 16 = 2 → t.get (HBM_STATUS_BENCHED (u / 256)) = 1 ∧ bitOf t.mgmt.record.stackMap (u / 256) = true ∧ t.looms = s.looms)
        ∧ (u % 16 = 3 → bitOf t.mgmt.outPorts (u / 256) = true ∧ t.get (FAB_P_CTL_DISABLE (u / 256)) = 1
            ∧ t.get (FAB_P_STATE_STATE (u / 256)) = 0 ∧ LoomsStay s t)
        ∧ (u % 16 = 4 → bitOf t.mgmt.outChans (u / 256) = true ∧ LoomsStay s t)
        ∧ (∀ m, m < 144 → m ≠ u / 256 ∨ u % 16 ≠ 0 → t.get (LOOM_STATUS_BENCHED m) = s.get (LOOM_STATUS_BENCHED m)))
      ∧ (unitOk benchKinds u = false → ∃ t, exec (.bench (.command src)) s = .next t ∧ EndsWith t 7 1
        ∧ t.mgmt.record = s.mgmt.record ∧ LoomsStay s t))
    ∧ (SelvedgeFree s src 8 → u = (cmdOf s src 8).arg 0 →
      (unitOk benchKinds u = true → ∃ t, exec (.unbench src) s = .next t ∧ EndsWith t 8 0
        ∧ (u % 16 = 0 → bitOf t.mgmt.record.loomMap (u / 256) = false) ∧ (u % 16 = 2 → bitOf t.mgmt.record.stackMap (u / 256) = false)
        ∧ (u % 16 = 3 → bitOf t.mgmt.record.portMap (u / 256) = false) ∧ (u % 16 = 4 → bitOf t.mgmt.record.chanMap (u / 256) = false)
        ∧ (∀ m, m < 144 → t.get (LOOM_STATUS_BENCHED m) = s.get (LOOM_STATUS_BENCHED m))
        ∧ t.mgmt.outPorts = s.mgmt.outPorts ∧ t.mgmt.outChans = s.mgmt.outChans ∧ LoomsStay s t)
      ∧ (unitOk benchKinds u = false → ∃ t, exec (.unbench src) s = .next t ∧ EndsWith t 8 1
        ∧ t.mgmt.record = s.mgmt.record ∧ LoomsStay s t))
    ∧ (∀ n : LoomNo, s.is (SPD_STATUS_BENCH_REQ n) = true → s.ingotRuns = true → s.is (LOOM_STATUS_BENCHED n) = false →
      ∃ t, exec (.bench (.request n)) s = .next t
      ∧ t.get (LOOM_STATUS_BENCHED n) = 1 ∧ (∀ m, m < 144 → m ≠ n.val → t.get (LOOM_STATUS_BENCHED m) = s.get (LOOM_STATUS_BENCHED m)))

/-- TEST of a unit that may be tested drains its scope: the OPEN bolts of the scope become DRAINING, and the test waits. A unit or a test that
does not exist ends it with status 1, and a unit whose state does not allow the test with 0xC. -/
def TestsBegin : Prop :=
  ∀ (s : State) (src : CmdSrc) (u k : Nat), SelvedgeFree s src 6 → u = (cmdOf s src 6).arg 0 → k = (cmdOf s src 6).arg 1 →
    (unitOk (testKinds k) u = true → s.testAllowed u k = true → ∃ t, exec (.test src) s = .next t ∧ t.get SLV_CMD_STS_BUSY = 1
      ∧ t.mgmt.cmd = some (cmdOf s src 6)
      ∧ (∃ x, t.mgmt.test = some x ∧ x.unit = u ∧ x.test = k ∧ x.looms = s.testLooms u k
          ∧ (∀ b ∈ x.bolts, s.get (BLT_STATE b) = 1 ∧ t.get (BLT_STATE b) = 2)
          ∧ ∀ b, b < 64 → b ∉ x.bolts → t.get (BLT_STATE b) = s.get (BLT_STATE b))
      ∧ SameFields s t (SLV_CMD_STS_BUSY :: (List.range 64).map BLT_STATE) ∧ LoomsStay s t)
    ∧ (unitOk (testKinds k) u = false → ∃ t, exec (.test src) s = .next t ∧ EndsWith t 6 1 ∧ t.mgmt.test = s.mgmt.test ∧ LoomsStay s t)
    ∧ (unitOk (testKinds k) u = true → s.testAllowed u k = false → ∃ t, exec (.test src) s = .next t ∧ EndsWith t 6 0xC
      ∧ t.mgmt.test = s.mgmt.test ∧ LoomsStay s t)

/-- A test whose scope is idle runs: with no failure its status is 0 and its command ends so; a failure ends it with 0xB and benches the stack
that was tested. A scope that is not idle in time ends it with 0xA. -/
def TestsEnd : Prop :=
  ∀ (s : State) (x : TestRun) (c : SlvCmd), s.stacksAsleep = false → s.mgmt.test = some x → s.mgmt.cmd = some c → x.test < 256 → x.unit < 65536 → c.op < 256 →
    (s.testIdle x = true → ∃ t, exec (.testStart none) s = .next t ∧ t.get SLV_TEST_STS_STATUS = 0 ∧ t.get SLV_TEST_STS_TEST = x.test
      ∧ t.get SLV_TEST_STS_UNIT = x.unit ∧ t.mgmt.test = none ∧ t.mgmt.cmd = none ∧ t.get SLV_CMD_STS_STATUS = 0
      ∧ (x.test ≠ 1 → LoomsStay s t))
    ∧ (∀ f, s.testIdle x = true → x.unit % 16 = 2 → x.unit / 256 < 12 → x.test ≠ 1 → ∃ t, exec (.testStart (some f)) s = .next t
      ∧ t.get SLV_TEST_STS_STATUS = 0xB ∧ t.mgmt.test = none ∧ t.get SLV_CMD_STS_STATUS = 0xB ∧ t.get (HBM_STATUS_BENCHED (x.unit / 256)) = 1
      ∧ t.looms = s.looms)
    ∧ (s.testIdle x = false → ∃ t, exec .testDrainTimeout s = .next t ∧ t.get SLV_TEST_STS_STATUS = 0xA ∧ t.mgmt.test = none
      ∧ t.get SLV_CMD_STS_STATUS = 0xA ∧ t.mgmt.cmd = none ∧ LoomsStay s t)

/-! ### The Selvedge resets and the watchdog (R431, R432) -/

/-- SELF_RESET, a lockstep mismatch, and a watchdog event reset Selvedge alone: the ROM runs stage 2 next, no command, no session and no Ingot in
SRAM is left, LAST is 4, and the looms stay; the third watchdog event within 60 s enters recovery with REASON 4. Without REFCLK_MGMT Selvedge
is in reset, and a mismatch does nothing (R527). -/
def SelvedgeResets : Prop :=
  ∀ s : State,
    (∀ c, (∃ src, c = Instr.selfReset src ∧ SelvedgeFree s src 9) ∨ (c = .lockstepMismatch ∧ s.mgmt.nextStage ≠ 1) ∨ (c = .watchdogExpire ∧ s.ingotRuns = true
        ∧ (pushTime s.now (windowOf 60000) s.mgmt.dogs).length < 3) →
      ∃ t, exec c s = .next t ∧ t.mgmt.nextStage = 2 ∧ t.mgmt.cmd = none ∧ t.mgmt.session = none ∧ t.mgmt.recovery = none
        ∧ t.mgmt.sram = [] ∧ t.mgmt.signs = [] ∧ t.mgmt.signing = none
        ∧ t.get SLV_STATUS_STAGE = 1 ∧ t.get SLV_RST_STS_LAST = 4 ∧ (c = .lockstepMismatch → t.get SLV_ERR_LOCKSTEP = 1)
        ∧ (c = .watchdogExpire → t.mgmt.dogs = pushTime s.now (windowOf 60000) s.mgmt.dogs)
        ∧ t.mgmt.flash = s.mgmt.flash ∧ LoomsStay s t)
    ∧ (s.ingotRuns = true → 3 ≤ (pushTime s.now (windowOf 60000) s.mgmt.dogs).length → ∃ t, exec .watchdogExpire s = .next t
      ∧ t.mgmt.recovery = some (4, 0) ∧ t.mgmt.nextStage = 0 ∧ t.mgmt.dogs = [] ∧ t.power.mainEn = false ∧ t.looms = [])
    ∧ (s.mgmt.nextStage = 1 → exec .lockstepMismatch s = .next s)

/-! ### Boot (R440 to R443, R498, R526) -/

/-- The fields that a cold reset gives values of their own: the counts and maps of the state record, the log's positions, the straps and what
they show, whether REFCLK_RACK is there, and the first stage. -/
def coldFields : List Fld :=
  (List.range 5).map SLV_BENCH_LOOM_MAP ++ [SLV_BENCH_UNIT_STACK, SLV_BENCH_UNIT_PORT, SLV_BENCH_CH_CHANNEL, SLV_BOOT_CNT_N, SLV_LOG_HEAD_SEQ,
    SLV_LOG_PERSIST_SEQ, SLV_LOG_LOST_N, SLV_ERR_IDENTITY, FAB_ID_CHIP, FAB_ID_STRAP_BAD, FAB_ERR_STRAP, FAB_SYNC_STS_REFCLK_LOST,
    SLV_STATUS_STAGE]

/-- A cold reset, and power falling out: memory and the looms are empty, the boot flash outside the STATE area stays, and every field that
neither shows a fuse nor is among those above holds its Reset value. The chip ID is that of the straps, the boot that the state record in
flash names is counted, and the ROM's stage 1 has run; without REFCLK_MGMT Selvedge does not leave
reset, nor does its flash. The model's choices: what straps and fuses give (log 3), that memory reads as zero (log 4); deduced: the boot that is
counted (log 78), the stage (log 79) and the clocks (log 128). -/
def Obligations.ColdResetStarts : Prop :=
  ∀ (s : State) (straps : BitVec 15) (recovery clock : Bool) (c : Instr),
    c = .coldReset straps recovery clock ∨ c = .powerOnDetect straps recovery clock →
    ∃ t, exec c s = .next t ∧ t.mgmt.forced = recovery ∧ (∀ a, 0x10000 ≤ a → tget 0xFF t.mgmt.flash a = tget 0xFF s.mgmt.flash a)
      ∧ t.looms = [] ∧ t.mem = [] ∧ t.poison = [] ∧ t.power = { rackLost := s.power.rackLost, xspiReset := clock } ∧ t.pending = s.pending
      ∧ (clock = true → t.get FAB_ID_CHIP = straps.toNat % 2 ^ 14 ∧ t.get SLV_STATUS_STAGE = 1 ∧ t.mgmt.nextStage = 2
          ∧ t.get SLV_BOOT_CNT_N = (s.readRec.mgmt.record.bootCnt + 1) % 2 ^ 32
          ∧ (strapOdd straps = true → t.get FAB_ID_STRAP_BAD = 1 ∧ t.get FAB_ERR_STRAP = 1))
      ∧ (clock = false → t.mgmt.nextStage = 1 ∧ t.mgmt.flash = s.mgmt.flash)
      ∧ (∀ f : Fld, fuseKey f.key = false → f.key ∉ coldFields.map Fld.key → t.get f = f.reset % 2 ^ f.width)

/-- Stage 2: with RECOVERY_N low at the reset the ROM enters recovery with REASON 3; else an Ingot that R440 refuses enters it with REASON 1,
or 2 for an old SVN, and the status; one that passes runs from SRAM, its version is shown, and bring-up goes on at stage 3 unless the boot
repeats none or every rail is off until cold reset. -/
def RomVerifiesIngot : Prop :=
  ∀ s : State, s.mgmt.nextStage = 2 → s.mgmt.recovery = none →
    (s.mgmt.forced = true → ∃ t, exec .bootVerify s = .next t ∧ t.mgmt.recovery = some (3, 0) ∧ t.mgmt.nextStage = 0
      ∧ t.power.mainEn = false ∧ t.looms = [])
    ∧ (s.mgmt.forced = false → ∃ t, exec .bootVerify s = .next t
      ∧ ((s.ingotCheck s.flashImage).1 ≠ 0 → t.mgmt.recovery = some (if (s.ingotCheck s.flashImage).1 = 6 then 2 else 1,
          (s.ingotCheck s.flashImage).1) ∧ t.mgmt.nextStage = 0 ∧ t.looms = [])
      ∧ ((s.ingotCheck s.flashImage).1 = 0 → t.mgmt.recovery = none ∧ t.mgmt.ingot = ingotM s.flashImage ∧ t.mgmt.sram = ingotSram s.flashImage
          ∧ t.get SLV_INGOT_VER_VERSION = leAt s.flashImage 8 8 ∧ t.get SLV_INGOT_SVN_SVN = leAt s.flashImage 24 4
          ∧ t.mgmt.nextStage = (if s.mgmt.resume = 9 ∨ s.mgmt.resume = 0 ∨ s.power.locked = true then 0 else 3)))

/-- Boot stage k is due. -/
def StageDue (s : State) (k : Nat) : Prop := s.mgmt.nextStage = k ∧ s.mgmt.recovery = none

/-- Stages 3 to 9, each where it is due: the rails come up, or bring-up stops, the fuse supply of a burn under way staying on, and no rail
comes up after a shutdown; stacks train, and one that fails is benched; ports whose lanes fail are benched, and every one of either without
REFCLK_RACK; the channels that train say so; with no Card image NO_CARD is set; the host cores run; and the last stage ends the reset. That a
shutdown lasts to the cold reset is log 86, and what the clocks hold log 128 (both deduced). -/
def Obligations.BootStagesRun : Prop :=
  ∀ s : State,
    (StageDue s 3 → s.power.locked = false → (∃ t, exec (.bootRails true) s = .next t ∧ t.get SLV_STATUS_STAGE = 3 ∧ t.mgmt.nextStage = 4
        ∧ t.power.rails = s.power.rails / 2 ^ 15 * 2 ^ 15 + 0x7FFF
        ∧ t.power.mainEn = true ∧ t.get (PWR_DOM_STATE 163) = 3
        ∧ (∀ n, n < 144 → bitOf s.mgmt.record.loomMap n = true → t.get (LOOM_STATUS_BENCHED n) = 1) ∧ LoomsStay s t)
      ∧ (∃ t, exec (.bootRails false) s = .next t ∧ t.mgmt.nextStage = 0
        ∧ t.power.rails = s.power.rails / 2 ^ 15 * 2 ^ 15 + 1 ∧ t.power.mainEn = false ∧ LoomsStay s t))
    ∧ (s.power.locked = true → ∀ ok, exec (.bootRails ok) s = .next s)
    ∧ (StageDue s 4 → ∀ fails, ∃ t, exec (.bootHbm fails) s = .next t ∧ t.get SLV_STATUS_STAGE = 4 ∧ t.mgmt.nextStage = 5
      ∧ ∀ k, k < 12 → t.get (PWR_DOM_STATE (144 + k)) = 3
        ∧ (s.is (HBM_STATUS_BENCHED k) = false → bitOf fails k = false → s.power.rackLost = false → t.get (HBM_STATUS_TRAINED k) = 1
            ∧ t.get (HBM_STATUS_REFRESH_2X k) = b2n (decide (16 * 85 ≤ s.tempOf (64 + k))))
        ∧ (s.is (HBM_STATUS_BENCHED k) = false → bitOf fails k = true ∨ s.power.rackLost = true → t.get (HBM_ERR_TRAIN_FAIL k) = 1 ∧ t.get (HBM_STATUS_BENCHED k) = 1))
    ∧ (StageDue s 5 → ∀ fails, ∃ t, exec (.bootPhy fails) s = .next t ∧ t.get SLV_STATUS_STAGE = 5 ∧ t.mgmt.nextStage = 6 ∧ LoomsStay s t
      ∧ ∀ p, p < 6 → (bitOf fails p = true ∨ s.power.rackLost = true → bitOf s.mgmt.outPorts p = false → bitOf t.mgmt.outPorts p = true ∧ t.get (FAB_P_CTL_DISABLE p) = 1)
        ∧ (bitOf fails p = false → s.power.rackLost = false → t.get (FAB_P_CTL_DISABLE p) = s.get (FAB_P_CTL_DISABLE p)))
    ∧ (StageDue s 6 → ∀ chans, ∃ t, exec (.bootNand chans) s = .next t ∧ t.get SLV_STATUS_STAGE = 6 ∧ t.mgmt.nextStage = 7 ∧ LoomsStay s t
      ∧ ∀ c ∈ chans, bitOf s.mgmt.outChans c.chan = false → t.get (FTL_CH_STATUS_TRAINED c.chan) = 1)
    ∧ (StageDue s 7 → s.stacksAsleep = false → ∀ bad, ∃ t, exec (.bootCard bad) s = .next t ∧ t.get SLV_STATUS_STAGE = 7 ∧ t.mgmt.nextStage = 8
      ∧ (t.get CRD_STATUS_LOADED = 0 → t.get SLV_STATUS_NO_CARD = 1)
      ∧ (s.cardAreas = [] → s.is CRD_STATUS_LOADED = false → t.get SLV_STATUS_NO_CARD = 1 ∧ LoomsStay s t))
    ∧ (StageDue s 8 → (∃ t, exec (.bootHost true) s = .next t ∧ t.get SLV_STATUS_STAGE = 8 ∧ t.mgmt.nextStage = 9 ∧ t.power.cores = true
        ∧ t.get (PWR_DOM_STATE 162) = 3 ∧ t.mgmt.loader = sha384 s.mgmt.hostSeg.2 ∧ t.looms = s.looms)
      ∧ (∃ t, exec (.bootHost false) s = .next t ∧ t.mgmt.nextStage = 0 ∧ t.power.cores = s.power.cores ∧ LoomsStay s t))
    ∧ (StageDue s 9 → ∃ t, exec .bootRun s = .next t ∧ t.get SLV_STATUS_STAGE = 9 ∧ t.mgmt.nextStage = 0 ∧ t.get SLV_RST_STS_BUSY = 0
      ∧ LoomsStay s t)

/-! ### Warm, function and loom resets (R499 to R504) -/

/-- A warm reset of a device that runs its cold boot's Ingot sets BUSY and LAST 1, is counted, empties the looms and every memory below HBM, and
boot goes on at stage 4; a command of Selvedge goes on. With another Ingot it is refused with status 1, and
while BUSY, which lasts to stage 9 (log 82, deduced), with status 2. -/
def WarmResetRuns : Prop :=
  ∀ s : State,
    (s.is SLV_RST_STS_BUSY = false → s.ingotRuns = true → s.power.standby = false → s.mgmt.nextStage = 0 → s.power.mainEn = true →
      (s.mgmt.ingot = s.mgmt.coldIngot → ∃ t, exec .warmReset s = .next t ∧ t.get SLV_RST_STS_BUSY = 1 ∧ t.get SLV_RST_STS_LAST = 1
        ∧ t.get SLV_RST_STS_STATUS = 0 ∧ t.get SLV_RST_STS_WARM_CNT = min (2 ^ 16 - 1) (s.get SLV_RST_STS_WARM_CNT + 1)
        ∧ t.mgmt.nextStage = 4 ∧ t.looms = [] ∧ (∀ a, a < hbmBase → t.byteAt a = 0) ∧ t.ledger = [] ∧ t.power.cores = false
        ∧ (s.mgmt.test = none → t.mgmt.cmd = s.mgmt.cmd ∧ t.mgmt.persisting = s.mgmt.persisting))
      ∧ (s.mgmt.ingot ≠ s.mgmt.coldIngot → ∃ t, exec .warmReset s = .next t ∧ t.get SLV_RST_STS_STATUS = 1
        ∧ OnlyFields s t [SLV_RST_STS_STATUS]))
    ∧ (s.is SLV_RST_STS_BUSY = true → s.stacksAsleep = false → ∀ c ∈ [Instr.warmReset, .functionReset], ∃ t, exec c s = .next t ∧ t.get SLV_RST_STS_STATUS = 2
        ∧ OnlyFields s t [SLV_RST_STS_STATUS])

/-- A function reset of bolts that are idle and bound by no stream clears their looms, and is refused with status 1 else; a loom reset clears one
loom, and leaves the array, the accumulators and the sequencer of every other, and all memory outside its own window.
Each takes one step (log 83, deduced). -/
def FunctionAndLoomResets : Prop :=
  ∀ s : State, s.is SLV_RST_STS_BUSY = false → s.stacksAsleep = false →
    (s.functionOk (s.get SLV_RST_BOLTS_MASK) = true → ∃ t, exec .functionReset s = .next t ∧ t.get SLV_RST_STS_LAST = 2
      ∧ t.get SLV_RST_STS_STATUS = 0
      ∧ (∀ b, b < 64 → bitOf (s.get SLV_RST_BOLTS_MASK) b = true → t.get (BLT_STEP b) = 0
          ∧ ∀ n ∈ s.boltLooms b, t.get (LOOM_STATUS_FAULT n) = 0 ∧ (t.lm n).seq.pause = none ∧ (t.lm n).arr = Loom.reset.arr))
    ∧ (s.functionOk (s.get SLV_RST_BOLTS_MASK) = false → ∃ t, exec .functionReset s = .next t ∧ t.get SLV_RST_STS_STATUS = 1
      ∧ OnlyFields s t [SLV_RST_STS_STATUS])
    ∧ (∀ n : LoomNo, s.is (LOOM_CTL_RUN n) = false → ∃ t, exec (.loomReset n) s = .next t ∧ t.get SLV_RST_STS_LAST = 3
      ∧ t.get SLV_RST_STS_STATUS = 0 ∧ t.get (LOOM_STATUS_RUN n) = 0 ∧ t.get (LOOM_STATUS_FAULT n) = 0 ∧ t.get (LOOM_PC_PC n) = 0
      ∧ (t.lm n).seq.pause = none ∧ (t.lm n).arr = Loom.reset.arr ∧ (t.lm n).spd.fifo.length ≤ (s.lm n).spd.fifo.length
      ∧ (∀ m, m ≠ n.val → (t.lm m).seq = (s.lm m).seq ∧ (t.lm m).arr = (s.lm m).arr)
      ∧ (∀ a, a < lwin n ∨ lwin n + 0x1000000 ≤ a → t.byteAt a = s.byteAt a))

/-! ### The log (R453 to R456, R509) -/

/-- The oldest record that waits is written to the log at the next SEQ, unless 256 like it were in this second; the end of a second with nothing
suppressed and nothing dropped only clears the counts; persisting, where no flash write delays it and none was lost, leaves no record
unpersisted. -/
def Obligations.LogKeepsRecords : Prop :=
  ∀ s : State,
    (∀ r rest, s.errs = r :: rest → (∀ e ∈ s.mgmt.rate, e.1 = (r.src, r.inst, r.code) → e.2 < 256) →
      (s.get SLV_LOG_HEAD_SEQ + 2 ^ 32 - s.get SLV_LOG_PERSIST_SEQ) % 2 ^ 32 < 16384 →
      ∃ t, exec .errorRecordDeliver s = .next t ∧ t.errs = rest ∧ t.get SLV_LOG_HEAD_SEQ = (s.get SLV_LOG_HEAD_SEQ + 1) % 2 ^ 32
        ∧ tget [] t.mgmt.log (s.get SLV_LOG_HEAD_SEQ % 16384)
            = logBytes r.sev r.src r.inst (s.get SLV_LOG_HEAD_SEQ) s.svcTime r.code (s.get SLV_BOOT_CNT_N) (errData r)
        ∧ LoomsStay s t)
    ∧ ((∀ e ∈ s.mgmt.rate, e.2 ≤ 256) → s.errDropped = [] → ∃ t, exec .logSuppressWindow s = .next t
      ∧ t = { s with mgmt := { s.mgmt with rate := [] } })
    ∧ (s.flashBusy = false → s.mgmt.lost = (0, 0) → ∀ c ∈ [Instr.logPersist, .logFlush], ∃ t, exec c s = .next t
      ∧ t.get SLV_LOG_PERSIST_SEQ = s.get SLV_LOG_HEAD_SEQ ∧ t.mgmt.log = s.mgmt.log
      ∧ SameFields s t [SLV_LOG_PERSIST_SEQ] ∧ LoomsStay s t ∧ SameMemory s t)

/-! ### The management port (R450 to R452) -/

/-- The port has answered a request to the requester. -/
def Answered (s t : State) (h : MgmtHdr) (op status : Nat) (body : List Byte) : Prop :=
  ∃ m, t.mgmt.sent = s.mgmt.sent ++ [m] ∧ m.src = s.mgmtAddr ∧ m.dst = h.src.toNat ∧ m.resp = true ∧ m.op = op ∧ m.seq = h.seq ∧ m.status = status
    ∧ m.body = body

/-- The requests of the management port, with their OPs, under a header. -/
def portRequests (h : MgmtHdr) (a b : Nat) (gap : BitVec 32) (l : List Byte) (fb : Bool) : List (Nat × Instr) :=
  [(2, .logRead h a b), (3, .sensors h), (4, .assayGet h l a), (5, .auth h l), (6, .data h a gap l), (8, .endRecovery h a fb)]
    ++ (selvedgeCommands (.port h a [])).map fun c => (7, c)

/-- From s to t only what Selvedge holds beside its registers changes. -/
def OnlyMgmt (s t : State) : Prop := { t with mgmt := s.mgmt } = s

/-- HELLO goes out in recovery. LOG_READ and SENSORS are answered while the ROM or the Ingot runs; DATA of an open session, or in recovery,
fills the stage buffer and no longer leaves a staged image; AUTH without a proof is answered with a fresh nonce, and with one opens a session
exactly where it verifies; ASSAY_GET is answered with a part of the report for its nonce, has one made, or is told that another is being made;
a request whose header R6 or R7 refuses, or whose OP is reserved, is answered INVALID (1) and does nothing, and one that is not for the device
is not heard; the end of a session and of a try at 25 Gb/s are noted. What the bodies hold is log 89, and which headers are refused or not
heard log 127 (both deduced). -/
def ManagementPortAnswers : Prop :=
  ∀ (s : State) (h : MgmtHdr), s.romRuns = true → s.stacksAsleep = false →
    (∀ x, s.mgmt.recovery = some x → ∃ t m, exec .hello s = .next t ∧ t.mgmt.sent = s.mgmt.sent ++ [m] ∧ m.src = s.mgmtAddr
      ∧ m.dst = 0xFF02 * 2 ^ 112 + 1 ∧ m.resp = false ∧ m.op = 1 ∧ OnlyMgmt s t)
    ∧ (s.hears h = true → hdrBad h = false →
      (∀ first count, 0 < count → count ≤ 22 → ∃ t l, exec (.logRead h first count) s = .next t ∧ Answered s t h 2 0 l ∧ OnlyMgmt s t)
      ∧ (∃ t l, exec (.sensors h) s = .next t ∧ Answered s t h 3 0 l ∧ l.length = 190 ∧ OnlyMgmt s t)
      ∧ (∀ off gap d, s.power.standby = false → s.mgmt.recovery ≠ none ∨ s.mgmt.session = some h.session → off % 1024 = 0 → d.length ≤ 1024 →
        off + d.length ≤ 0x800000 → ∃ t, exec (.data h off gap d) s = .next t ∧ Answered s t h 6 0 [] ∧ t.stageBytes off d.length = d
          ∧ t.mgmt.staged = none ∧ (∀ a, a < off ∨ off + d.length ≤ a → tget 0 t.mgmt.stage a = tget 0 s.mgmt.stage a) ∧ OnlyMgmt s t)
      ∧ (s.power.standby = false → s.mgmt.recovery = none →
        (∃ t, exec (.auth h []) s = .next t ∧ Answered s t h 5 0 (leBytes 32 (s.freeBits 256))
          ∧ t.mgmt.challenge = some (leBytes 32 (s.freeBits 256)) ∧ t.flds = s.flds ∧ LoomsStay s t)
        ∧ (∀ pr nonce v, pr ≠ [] → s.mgmt.challenge = some nonce →
          v = s.verdict .operator (pr.take (pr.length - 16608)) (sha384 (nonce ++ leBytes 8 (s.get SEC_SERIAL_SERIAL)))
            (slice pr (pr.length - 16608) 384) (slice pr (pr.length - 16608 + 384) 16224) →
          ∃ t, exec (.auth h pr) s = .next t ∧ t.mgmt.challenge = none
            ∧ (v = 0 → t.mgmt.session = some (leBytes 16 (s.freeBits 128)) ∧ t.get SLV_STATUS_SESSION = 1
                ∧ Answered s t h 5 0 (leBytes 16 (s.freeBits 128)))
            ∧ (v ≠ 0 → t.mgmt.session = s.mgmt.session ∧ Answered s t h 5 (2 + v) []) ∧ LoomsStay s t)
        ∧ (∀ nonce off, nonce.length = 32 →
          (s.identityOk = false → ∃ t, exec (.assayGet h nonce off) s = .next t ∧ Answered s t h 4 0xC [] ∧ OnlyMgmt s t)
          ∧ (∀ l, s.identityOk = true → s.reportOf nonce = some l → ∃ t, exec (.assayGet h nonce off) s = .next t
            ∧ Answered s t h 4 0 (slice l off (min 1408 (l.length - off))) ∧ OnlyMgmt s t)
          ∧ (s.identityOk = true → s.reportOf nonce = none → s.mgmt.making = none → s.assayRuns = false →
            ∃ t, exec (.assayGet h nonce off) s = .next t ∧ t.mgmt.making = some (nonce, [(h, off)]) ∧ t.mgmt.sent = s.mgmt.sent
              ∧ OnlyMgmt s t)
          ∧ (∀ n w, s.identityOk = true → s.reportOf nonce = none → s.mgmt.making = some (n, w) → n ≠ nonce →
            ∃ t, exec (.assayGet h nonce off) s = .next t ∧ Answered s t h 4 2 [] ∧ OnlyMgmt s t))))
    ∧ (∀ a b gap l fb, ∀ x ∈ portRequests h a b gap l fb,
        (s.hears h = true → hdrBad h = true → exec x.2 s = .next (s.answerPort h (opOf h x.1) 1 []))
        ∧ (s.hears h = false → exec x.2 s = .next s))
    ∧ (∃ t, exec .sessionTimeout s = .next t ∧ t.mgmt.session = none ∧ t.get SLV_STATUS_SESSION = 0 ∧ SameFields s t [SLV_STATUS_SESSION]
      ∧ LoomsStay s t)
    ∧ (∃ t, exec .mgmtLinkFallback s = .next t ∧ t.mgmt.slow = true ∧ OnlyMgmt s t)

/-- END in recovery checks the image in the stage buffer: one that R440 refuses is answered with its status, and recovery goes on; one that passes is
committed, and Selvedge resets, unless the flash fails, which is status 9
(the body is log 89, deduced). -/
def RecoveryEnds : Prop :=
  ∀ (s : State) (h : MgmtHdr) (len st : Nat) (x : Nat × Nat), s.romRuns = true → s.hears h = true → hdrBad h = false →
    s.power.standby = false → s.mgmt.recovery = some x → s.mgmt.recPos < 256 →
    len ≤ 0x800000 → st = (s.ingotCheck (s.stageBytes 0 len)).1 →
    (∃ t, exec (.endRecovery h len true) s = .next t ∧ Answered s t h 8 (if st = 0 then 9 else st) [] ∧ t.mgmt.recovery = some x
      ∧ LoomsStay s t)
    ∧ (∃ t, exec (.endRecovery h len false) s = .next t ∧ Answered s t h 8 st [] ∧ (st ≠ 0 → t.mgmt.recovery = some x)
      ∧ (st = 0 → t.mgmt.nextStage = 2 ∧ t.mgmt.recovery = none ∧ t.mgmt.recovered = true
          ∧ ∀ i, i < len → tget 0xFF t.mgmt.flash (flashIngot + i) = tget 0 s.mgmt.stage i) ∧ LoomsStay s t)

/-! ### Operating points and Temper (R471 to R483) -/

/-- The fields of a loom's operating point. -/
def oppFields (n : Nat) : List Fld :=
  [PWR_LOOM_OPP_F_MHZ n, PWR_LOOM_OPP_ROW n, PWR_LOOM_OPP_SLEWING n, PWR_LOOM_OPP_PEND_MHZ n, PWR_LOOM_OPP_PEND n]

/-- From s to t only the listed fields change, beside what a frozen step remembers of a loom below the floor. -/
def OnlyClock (s t : State) (fs : List Fld) : Prop :=
  { t.svc with plans := s.svc.plans } = s.svc ∧ OnlyFields { s with svc := t.svc } t fs

/-- A command for an operating point shows its status; a refused one changes nothing else. A lower clock takes effect at once and a higher one
waits; a lower voltage row slews at once and a higher one waits. -/
def OperatingPointCommands : Prop :=
  ∀ (n : LoomNo) (v : Nat) (s : State),
    (s.dvfsStatus false n v = 0 → s.asleep n = false → ∃ t, exec (.dvfsFreq n v) s = .next t ∧ t.get PWR_DVFS_STS_STS = 0
      ∧ t.get PWR_DVFS_STS_LOOM = n.val
      ∧ (v ≤ s.get (PWR_LOOM_OPP_F_MHZ n) → t.get (PWR_LOOM_OPP_F_MHZ n) = v ∧ t.get (PWR_LOOM_OPP_PEND n) = 0)
      ∧ (s.get (PWR_LOOM_OPP_F_MHZ n) < v → t.get (PWR_LOOM_OPP_PEND n) = 1 ∧ t.get (PWR_LOOM_OPP_PEND_MHZ n) = v
          ∧ t.get (PWR_LOOM_OPP_F_MHZ n) = s.get (PWR_LOOM_OPP_F_MHZ n))
      ∧ OnlyClock s t ([PWR_DVFS_STS_STS, PWR_DVFS_STS_LOOM] ++ oppFields n))
    ∧ (s.dvfsStatus true n v = 0 → s.asleep n = false → ∃ t, exec (.dvfsVolt n v) s = .next t ∧ t.get PWR_DVFS_STS_STS = 0
      ∧ t.get (PWR_LOOM_OPP_ROW n) = s.get (PWR_LOOM_OPP_ROW n)
      ∧ (v < s.get (PWR_LOOM_OPP_ROW n) → t.get (PWR_LOOM_OPP_SLEWING n) = 1 ∧ tget 0 t.voltTo n = v + 1)
      ∧ (s.get (PWR_LOOM_OPP_ROW n) < v → t.get (PWR_LOOM_OPP_PEND n) = 1 ∧ tget 0 t.voltTo n = v + 1)
      ∧ SameFields s t ([PWR_DVFS_STS_STS, PWR_DVFS_STS_LOOM] ++ oppFields n) ∧ SameMemory s t ∧ t.looms = s.looms)
    ∧ (∀ volt loom, s.dvfsStatus volt loom v ≠ 0 → ∃ t, exec (if volt then .dvfsVolt loom v else .dvfsFreq loom v) s = .next t
      ∧ t.get PWR_DVFS_STS_STS = s.dvfsStatus volt loom v ∧ OnlyFields s t [PWR_DVFS_STS_STS, PWR_DVFS_STS_LOOM])

/-- A command that waits takes effect once the loom holds no credits: the clock is reached, or the voltage slews. When a slew ends, the loom is at
its row. -/
def OperatingPointsReached : Prop :=
  ∀ (n : LoomNo) (s : State),
    (s.get (LDG_CREDIT_HELD n) = 0 → s.asleep n = false → s.is (PWR_LOOM_OPP_PEND n) = true → ∃ t, exec (.dvfsApply n) s = .next t
      ∧ t.get (PWR_LOOM_OPP_PEND n) = 0
      ∧ (tget 0 s.voltTo n = 0 → t.get (PWR_LOOM_OPP_F_MHZ n) = s.get (PWR_LOOM_OPP_PEND_MHZ n))
      ∧ (tget 0 s.voltTo n ≠ 0 → t.get (PWR_LOOM_OPP_SLEWING n) = 1 ∧ t.get (PWR_LOOM_OPP_F_MHZ n) = s.get (PWR_LOOM_OPP_F_MHZ n))
      ∧ OnlyClock s t (oppFields n))
    ∧ (s.get (LDG_CREDIT_HELD n) ≠ 0 → exec (.dvfsApply n) s = .next s)
    ∧ (s.is (PWR_LOOM_OPP_SLEWING n) = true → ∃ t, exec (.voltSlewDone n) s = .next t
      ∧ t.get (PWR_LOOM_OPP_ROW n) = (tget 0 s.voltTo n - 1) % 8
      ∧ (s.temperRuns = false → t.get (PWR_LOOM_OPP_SLEWING n) = 0 ∧ tget 0 t.voltTo n = 0)
      ∧ SameFields s t ([PWR_DVFS_STS_STS, PWR_DVFS_STS_LOOM, PWR_DOM_STATE n] ++ oppFields n) ∧ SameMemory s t ∧ t.looms = s.looms)

/-- Each period Temper moves the clock cap and the credit cut of a die that is not tripped as R480 says, and the budget follows the
larger cut, no lower than the effective minimum and no higher than 6,400. -/
def TemperPeriodSteps : Prop :=
  ∀ (s : State) (d cap cut lim : Nat), s.temperRuns = true → s.is TMP_CTL_EN = true → d < 2 → s.is (TMP_DIE_TRIP d) = false →
    (cap, cut, lim) = temperStep (s.hot d) (s.cool d) s.floorMhz (6400 - s.effectiveMin) s.stepMhz (s.get TMP_STEP_STEP_CR) s.emergMs
      (min (s.get (TMP_DIE_CAP d)) (s.topMhz d)) (s.get (TMP_DIE_CUT d)) (tget 0 s.power.lim d) →
    ∃ t, exec .temperPeriod s = .next t ∧ t.get (TMP_DIE_CAP d) = cap % 2 ^ 12 ∧ t.get (TMP_DIE_CUT d) = cut % 2 ^ 13
      ∧ tget 0 t.power.lim d = lim ∧ (s.hot d = true → t.get (TMP_DIE_HOT d) = 1)
      ∧ t.get LDG_BUDGET_BUDGET = min 6400 (max s.effectiveMin (6400 - max (t.get (TMP_DIE_CUT 0)) (t.get (TMP_DIE_CUT 1))))
      ∧ SameMemory s t ∧ t.looms = s.looms

/-! ### Sensors, trips and rails (R433, R483, R526, R528) -/

/-- A sample is shown. A die sensor at 115 °C trips its die: its looms run at 900 MHz on row 0 at once. A sensor at its shutdown level drives
THERMTRIP_N, and everything but the always-on island loses its supply, which nothing brings back before a cold reset (log 86, deduced); memory
without a supply reads as zero (log 4, the model's choice). When a trip acts is log 84, deduced. -/
def SensorsWatch : Prop :=
  ∀ s : State,
    (∀ (r : Fin 16) (mv : Nat), ∃ t, exec (.sensorSample (.rail r mv)) s = .next t ∧ t.get (SLV_RAIL_MV r) = mv % 2 ^ 16
      ∧ SameFields s t [SLV_RAIL_MV r] ∧ SameMemory s t ∧ t.looms = s.looms)
    ∧ (∀ (k : Fin 3) (a : Nat), ∃ t, exec (.sensorSample (.icore k a)) s = .next t ∧ t.get (SLV_ICORE_A k) = a % 2 ^ 16
      ∧ OnlyFields s t [SLV_ICORE_A k])
    ∧ (∀ (i : Fin 76) (deg : BitVec 16), (s.set (SLV_TEMP_DEG i) deg.toNat).tooHot = false →
      ∃ t, exec (.sensorSample (.temp i deg)) s = .next t ∧ t.get (SLV_TEMP_DEG i) = deg.toNat ∧ SameMemory s t ∧ t.looms = s.looms
        ∧ (∀ d, d < 2 → i.val / 24 = d → s.is (TMP_DIE_TRIP d) = false → 16 * 115 ≤ deg.toInt → t.get (TMP_DIE_TRIP d) = 1
            ∧ t.get TMP_ERR_TRIP = 1
            ∧ ∀ n, n < 72 → t.get (PWR_LOOM_OPP_F_MHZ (72 * d + n)) = 900 ∧ t.get (PWR_LOOM_OPP_ROW (72 * d + n)) = 0))
    ∧ (∀ (i : Fin 76) (deg : BitVec 16), (s.set (SLV_TEMP_DEG i) deg.toNat).tooHot = true → s.power.thermtrip = false →
      ∃ t, exec (.sensorSample (.temp i deg)) s = .next t ∧ t.power.thermtrip = true ∧ t.power.mainEn = false ∧ t.looms = []
        ∧ t.mem = [] ∧ t.power.locked = true
        ∧ t.mgmt.nextStage = (if s.mgmt.nextStage = 1 ∨ s.mgmt.nextStage = 2 then s.mgmt.nextStage else 0))

/-- A rail that has been out of range for three samples in a row, and one whose regulator reports a fault, stop the device but for the always-on
island; an alert without a fault does nothing. What stays off is log 86, deduced, and that memory reads as zero log 4, the model's choice. -/
def RailsFail : Prop :=
  ∀ (r : Fin 16) (s : State), s.power.mainEn = true → r.val ≠ 0 → r.val ≠ 15 →
    (∀ c, (c = Instr.railFault r ∧ 3 ≤ tget 0 s.power.railBad r) ∨ c = .pmbAlert r true → ∃ t, exec c s = .next t ∧ t.power.mainEn = false
      ∧ t.power.rails = 1 ∧ t.power.locked = true ∧ t.looms = [] ∧ t.mem = [] ∧ t.mgmt.flash = s.mgmt.flash
      ∧ t.mgmt.nextStage = (if s.mgmt.nextStage = 1 ∨ s.mgmt.nextStage = 2 then s.mgmt.nextStage else 0))
    ∧ (tget 0 s.power.railBad r < 3 → exec (.railFault r) s = .next s) ∧ exec (.pmbAlert r false) s = .next s

/-! ### Domains, standby and wake (R484 to R492) -/

/-- A domain that is idle for its quiet time, where the policy allows, begins to save, a stack with all the others; when the save is done it is LOW,
or WAKING where a wake was held; when a wake is done it is ON. A software vote is kept, and under VOTE wakes a domain that is LOW. -/
def Obligations.DomainsMove : Prop :=
  ∀ (d : Fin 164) (s : State),
    (s.domainIdle d = true → s.mayDrop d = true → (∀ x ∈ withDomain d, s.get (PWR_DOM_STATE x) = 3) →
      ∃ t, exec (.domainQuietExpire d) s = .next t ∧ (∀ x ∈ withDomain d, t.get (PWR_DOM_STATE x) = 4)
        ∧ OnlyFields s t ((withDomain d).map PWR_DOM_STATE))
    ∧ (s.get (PWR_DOM_STATE d) = 4 → (∀ x ∈ withDomain d, s.power.held.contains x = false) → ∃ t, exec (.domainSaveDone d) s = .next t
      ∧ (∀ x ∈ withDomain d, t.get (PWR_DOM_STATE x) = 1) ∧ t.looms = s.looms
      ∧ (d.val < 144 ∨ 156 ≤ d.val → OnlyFields s t [PWR_DOM_STATE d]))
    ∧ (s.get (PWR_DOM_STATE d) = 4 → s.power.held.contains d.val = true → ∃ t, exec (.domainSaveDone d) s = .next t
      ∧ t.get (PWR_DOM_STATE d) = 2 ∧ t.power.held.contains d.val = false ∧ t.looms = s.looms)
    ∧ (s.get (PWR_DOM_STATE d) = 2 → s.held = [] → ∃ t, exec (.domainWakeDone d) s = .next t ∧ t.get (PWR_DOM_STATE d) = 3
      ∧ OnlyClock s t ((withDomain d).map PWR_DOM_STATE ++ oppFields d))
    ∧ (∀ v, ∃ t, exec (.swvotesWrite d v) s = .next t ∧ t.get (PWR_DOM_SWVOTES d) = v % 256
      ∧ (s.is PWR_CTL_POLICY = true → v % 256 ≠ 0 → s.get (PWR_DOM_STATE d) = 1 → t.get (PWR_DOM_STATE d) = 2)
      ∧ (s.is PWR_CTL_POLICY = false → OnlyFields s t [PWR_DOM_SWVOTES d]))

/-- Standby, where its conditions hold, leaves the always-on island alone with its supply; else it is refused. A fabric wake pattern is counted
and wakes as source 1, an Ethernet signal as 2, the management port as 3, and the third brown-out within 60 s as 4; an earlier one resets
Selvedge and is counted. Memory without a supply reads as zero (log 4, the model's choice); no wake leaves a shutdown (log 86, deduced). -/
def Obligations.StandbyAndWake : Prop :=
  ∀ s : State,
    (s.power.standby = false → s.mayStandby = true → s.ingotRuns = true → s.mgmt.nextStage = 0 → s.power.locked = false →
      ∃ t, exec .standby s = .next t
      ∧ t.power.standby = true ∧ t.power.mainEn = false ∧ t.looms = [] ∧ t.mem = [] ∧ t.mgmt.flash = s.mgmt.flash)
    ∧ (s.power.standby = false → s.mayStandby = false → ∃ t, exec .standby s = .next t ∧ t.get PWR_ERR_STBY_REFUSED = 1
      ∧ t.power = s.power ∧ SameFields s t [PWR_ERR_STBY_REFUSED] ∧ LoomsStay s t)
    ∧ (s.power.standby = true → s.mgmt.nextStage ≠ 2 → s.power.locked = false → ∀ c k, (∃ p : PortNo, c = Instr.wakePattern p ∧ k = 1 ∧ s.power.fabAwake.contains p.val = true)
        ∨ (∃ e : EthNo, c = Instr.ethSignalDetect e ∧ k = 2 ∧ s.power.ethAwake.contains e.val = true) ∨ (c = Instr.mgmtWake ∧ k = 3) →
      ∃ t, exec c s = .next t ∧ t.power.standby = false ∧ t.get PWR_STATUS_WAKE_SRC = k ∧ t.mgmt.nextStage = 3
        ∧ (k = 1 → t.get PWR_CNT_WAKE_N = (s.get PWR_CNT_WAKE_N + 1) % 2 ^ 64) ∧ LoomsStay s t)
    ∧ (s.power.standby = true → ∃ t, exec .brownOut s = .next t ∧ t.get PWR_ERR_BROWNOUT = 1
      ∧ t.get PWR_CNT_BROWNOUT_N = min (2 ^ 32 - 1) (s.get PWR_CNT_BROWNOUT_N + 1) ∧ t.mgmt.nextStage = 2
      ∧ ((pushTime s.now (windowOf 60000) s.mgmt.brownouts).length < 3 → t.power.standby = true)
      ∧ (3 ≤ (pushTime s.now (windowOf 60000) s.mgmt.brownouts).length → t.power.standby = false ∧ t.get PWR_STATUS_WAKE_SRC = 4
          ∧ t.mgmt.resume = 3) ∧ LoomsStay s t)
    ∧ (∀ ports, exec (.wakeTx ports) s
        = .next { s with power := { s.power with wakeSent := (List.range 6).filter fun p => bitOf ports p && !s.portUp p } })

/-! ### The test access port (R531) -/

/-- A TCK cycle moves the controller as IEEE 1149.1 says and touches nothing else; five with TMS 1 reach Test-Logic-Reset from any state; TRST_N
resets it. In Shift-DR a code that selects no boundary scan passes TDI through one bit. In Capture-DR of a boundary scan the 717 cells take
the levels of their lands, before stage 3 has completed those of the always-on group. The codes and the chain's order are the model's
(log 20: R531 names the standards). -/
def Obligations.TestAccessPortMoves : Prop :=
  ∀ (s : State) (tms tdi : Bool) (pins : Nat),
    (∃ t, exec (.testAccessPort false tms tdi pins) s = .next t
      ∧ t.tap.state = (if tms then (tapNext.getD s.tap.state (0, 0)).2 else (tapNext.getD s.tap.state (0, 0)).1) ∧ { t with tap := s.tap, freeCount := s.freeCount } = s
      ∧ (s.tap.state = 4 → tms = false → 3 < s.tap.ir → t.tap.tdo = tdi)
      ∧ (s.tap.state = 3 → s.tap.ir ≤ 3 → t.tap.shift.length = 717
          ∧ ∀ i, i < 717 → s.power.mainEn = true ∨ aonCell i = true → t.tap.shift.getD i false = bitOf pins i))
    ∧ (∃ t, exec (.testAccessPort true tms tdi pins) s = .next t ∧ t.tap.state = 0 ∧ t.tap.ir = 0xFF ∧ { t with tap := s.tap } = s)
    ∧ (s.tap.state < 16 → ∃ t, exec (.testAccessPort false true tdi pins) s = .next t ∧ ∃ t2, exec (.testAccessPort false true tdi pins) t = .next t2 ∧ ∃ t3, exec (.testAccessPort false true tdi pins) t2 = .next t3
      ∧ ∃ t4, exec (.testAccessPort false true tdi pins) t3 = .next t4 ∧ ∃ t5, exec (.testAccessPort false true tdi pins) t4 = .next t5
      ∧ t5.tap.state = 0 ∧ t5.tap.ir = 0xFF)

/-! ### Rules stated whole -/

/-- The looms' kinds and dies (R20): loom n lies on die n / 72, and is a Warp loom exactly where n mod 72 is below 48, so that looms 0 to 47
and 72 to 119 are Warp looms and the others Weft looms; LOOM_ID shows the kind. -/
def Obligations.LoomsByNumber : Prop :=
  ∀ n : LoomNo, dieOf n = n.val / 72 ∧ (kindOf n = 0 ∨ kindOf n = 1) ∧ (kindOf n = 0 ↔ n.val % 72 < 48)
    ∧ (kindOf n = 0 ↔ n.val ≤ 47 ∨ (72 ≤ n.val ∧ n.val ≤ 119))
    ∧ (kindOf n = 1 ↔ (48 ≤ n.val ∧ n.val ≤ 71) ∨ (120 ≤ n.val ∧ n.val ≤ 143)) ∧ State.reset.get (LOOM_ID_KIND n) = kindOf n

/-- Packed trits (R59): every byte that the DMA packs is at most 242; a byte from 243 to 255 decodes to the five trits of the byte minus
243; and a load's status is that of its header and table, whatever the payload's bytes, so that none raises an alarm. -/
def Obligations.TritBytesDecode : Prop :=
  (∀ (fuel : Nat) (l : List Int), (∀ x ∈ l, x = -1 ∨ x = 0 ∨ x = 1) → ∀ b ∈ packTrits fuel l, b.toNat ≤ 242)
  ∧ (∀ b : Byte, 243 ≤ b.toNat → unpack5 b.toNat = unpack5 (b.toNat - 243) ∧ ∀ i : Fin 5, (unpack5 b.toNat)[i.val]? = some (((b.toNat / 3 ^ i.val) % 3 : Nat) - 1))
  ∧ (∀ (s t : State) (n : LoomNo) (slot a : Nat), s.spRead n a 16 = t.spRead n a 16 → s.tableAt n slot = t.tableAt n slot →
      (s.tloadResult n slot a).1 = (t.tloadResult n slot a).1)

/-- The header's check word (R107): a header that passes the checks before it passes this one exactly where its last word is the complement of
the sum of the seven words before, which is where its eight words sum to 0xFFFF; a load's status is that of its header and table, so that
nothing checks the payload. -/
def Obligations.HeaderCheckWord : Prop :=
  (∀ (kind h : Nat) (table : Option CodeTable), hdrStatus kind table h ∉ [1, 2, 3, 4] →
    (hdrStatus kind table h ≠ 5 ↔ bits h 112 16 = 65535 - ((List.range 7).map fun i => bits h (16 * i) 16).sum % 65536))
  ∧ (∀ h : Nat, bits h 112 16 = 65535 - ((List.range 7).map fun i => bits h (16 * i) 16).sum % 65536
      ↔ ((List.range 8).map fun i => bits h (16 * i) 16).sum % 65536 = 0xFFFF)
  ∧ (∀ (s t : State) (n : LoomNo) (slot a : Nat), s.spRead n a 16 = t.spRead n a 16 → s.tableAt n slot = t.tableAt n slot →
      (s.tloadResult n slot a).1 = (t.tloadResult n slot a).1)

/-- The floor clock (R305): SVC_FLOOR_MHZ accepts the values from 900 to 1,850 and ignores the others. -/
def FloorClockAccepts : Prop :=
  ∀ (v : Nat) (s : State),
    (900 ≤ v → v ≤ 1850 → ∃ t, exec (.svcFloorMhzWrite v) s = .next t ∧ t.get SVC_FLOOR_MHZ_MHZ = v ∧ SameMemory s t ∧ t.looms = s.looms)
    ∧ (v < 900 ∨ 1850 < v → exec (.svcFloorMhzWrite v) s = .next s)

/-! ### Statements together -/

/-- An engine's word runs whatever memory events it meets, and one that does not issue meets none. One that issues does what it does without
events on the memory whose words in error have been found; then the accesses of the engines at work in its Draft cycles land and their
conflicts count, and a corrected read and a conflict each hold the loom. Which accesses fall due in a cycle comes with the command (log 108,
the model's choice). A word found uncorrectable: its poison mark is set before the operation runs, which takes it poisoned, SPD_CNT_UNCORR
goes up by one, UNCORR and the address are shown, no byte changes, and it causes no hold. A word corrected by its read counts in
SPD_CNT_CORR and, by what its second read shows, as transient or lasting; once the operation has issued, the loom holds for 3 cycles with
cause ECC (0), at once or after the holds under way. The accesses of the engines at work in a Draft cycle of an operation that issues: every
extra access of a bank counts in SPD_CNT_CONFLICT; where there is one, ERR.CONFLICT is set and the loom holds for the largest k − 1 with
cause CONFLICT (1), at once or after the holds under way; without one they change nothing. Where two writes of one Draft cycle cover the
same byte, that of the port that comes first in R251 stands. -/
def Obligations.MemoryEventsMeet : Prop := EventsCompose ∧ UncorrectableWordsPoison ∧ CorrectedWordsHold ∧ BankConflictsHold ∧ FirstPortStands

/-- After reset every register field holds the Reset column of its table, no command waits, and no memory byte, poison mark or loom state
differs from what it holds at reset. Memory is in canonical form after reset. Accumulators and loops are within their bounds, and the Ledger
balances, after reset. -/
def Obligations.ResetLeaves : Prop := ResetState ∧ ResetMemoryCanonical ∧ ResetWithinBounds

/-- NOP, STEP and REPAY at issue: LOOM_PC names the word, the next word follows, and its DELTA has passed; STEP idles issue until a launch,
and REPAY empties the pool and pauses for what the chain has not slipped of its slack. LOOP pushes its count with the index of the word
after it; ENDLOOP goes back to that word while iterations are left, and pops the loop at the last one; a fifth level, a count of 0 and an
ENDLOOP without a LOOP are Draft faults with cause LOOP (7). SKIPZ with a lawful target jumps to it when the tally total that ARG[23:16]
names is 0, and otherwise goes on with the next word. WAIT of class TALLY and of class WRITES, and END, pause issue for what they name with
the word's BUDGET and SLACK, while no peer has faulted; with PEER_FAULT set each stops the sequencer instead. A WAIT of class TALLY inside a
span sets XFER and is a Draft fault with cause ENGINE (4) on the SEQ unit (0). WAIT of class COLL: the loom pauses for the collective that
the word names with the word's BUDGET and SLACK, and the collective engine's read of its source segment, at SRC_OFF and of the length that
R396 fixes now, joins the loom's inbound FIFO. A loom that takes no part in the collective pauses alone (log 75, the model's choice); inside
a span the word sets XFER and is a Draft fault with cause ENGINE (4) on the SEQ unit (0); and a loom with PEER_FAULT stops. The port takes
the collective engine's read from the loom's FIFO: the loom's segment is its contribution, and where an ALLREDUCE still waits for another
loom of this device, nothing is reduced yet. A read whose step has ended meanwhile goes nowhere. -/
def Obligations.SequencerWordsRun : Prop := SequencerWordsIssue ∧ LoopsNest ∧ SkipzJumpsOnZero ∧ WaitsPauseIssue ∧ WaitCollJoins ∧ SourceSegmentsJoin

/-- RUN written 1 on a stopped, awake loom of a bolt with a lawful header starts the sequencer at ENTRY; a header that R230 refuses is a
Draft fault with cause HEADER (1) and PC 0 (log 17, deduced). A loom in no bolt runs no Draft (R22): RUN starts nothing there. The write to
a loom that is asleep waits until the loom has woken (R486). RUN written 0 asks a running sequencer to stop after its next END and changes
nothing else; CNT_CLR clears the hold counters and nothing else. -/
def Obligations.RunControls : Prop := RunStartsAtEntry ∧ RunStopAndCounterClear

/-- A launch that has reached a running loom at STEP starts the step: the step number is latched, IN_STEP is set, and the registers of the
last step clear. Once the step's operations have completed and its writes are acknowledged, END reports: LOOM_STEP_ACTUAL takes the step's
cycles, no fewer than a window load under way needs (R234), IN_STEP falls, and the Draft goes on at ENTRY; where RUN was written 0 the
sequencer stops. -/
def Obligations.StepsLaunchAndReport : Prop := LaunchStartsStep ∧ EndReports

/-- A WAIT for writes that outlasts its BUDGET and SLACK becomes a hold with cause REMOTE (4); one whose writes are acknowledged ends after
its BUDGET, and within its SLACK. A hold of fixed length ends after its cycles: they are counted under its cause, and HOLD falls. A running
loom with PEER_FAULT set that pauses in a WAIT or an END stops: RUN falls, its pause and its holds end, and no other loom and no byte of
memory changes. -/
def Obligations.HoldsAndPausesEnd : Prop := PausesEnd ∧ HoldEnds ∧ PeerFaultStops

/-- A TILE word asks the ledger for the credits of its LMODE with its bolt's class and waits in the order of arrival; a request beyond the
effective minimum less RESERVE sets OVERSIZE and is a Draft fault with cause ENGINE (4) and UNIT SEQ (0). Where a ledger cycle ends, and the
class of a loom in no bolt, are log 110, the model's choices. The request at the head that fits the free credits is granted whole: the loom
of a TILE word that waits for it takes the credits and its tile starts; a request that does not fit blocks every request behind it.
LDG_CNT_WAIT counts the NoC cycles in which one waited, which the command brings (log 25, deduced). The barrier of a TILE word's tile falls:
no tile is open, the loom holds no credits, and they no longer count as outstanding. -/
def Obligations.LedgerGrants : Prop := TileAsksLedger ∧ LedgerGrantsInOrder ∧ BarrierReturnsCredits

/-- An ARRAY word whose block R74 and R239 accept starts its operation behind those in flight and asks the ledger for the tile's credits
(without memory events, whose effect MemoryEventsMeet states); one that names rows beyond the accumulator memory sets ROW_RANGE and is a
Draft fault with cause ENGINE (4). Where a ledger cycle ends, and the class of a loom in no bolt, are log 110, the model's choices. A row
cycle of a SUM on a dense tile gives every accumulator of its row the exact sum of its value, or of 0 where INIT begins the row anew, and
the cycle's aligned block sums, saturated once to ±(2^39 − 1), R79 to R81; a column that saturates sets SAT_ANY. The oldest cycle in flight
lands: its row of the active set takes the row update of R79, R97 or R183, the cycle leaves the operation, and memory and the other looms
stay. -/
def Obligations.ArrayRuns : Prop := ArrayWordsStart ∧ RowCyclesAdd ∧ ArrayCyclesLand

/-- WINLOAD gives the 512 window exponents of the set that it names the words at its scratchpad address, adjusted by the guard, keeps the
ACC unit busy for 4 cycles, and stores nothing. SWAP exchanges the active and the shadow set while nothing is in flight, no drain runs and
no row cycle is under way; in each of these three cases it sets SWAP_EARLY and is a Draft fault with cause ENGINE (4) on the ACC unit (2).
That the sets exchange in IAL-1 mode too is log 129, the model's choice. A host core's write of bytes of one accumulator through the view of
a loom in service whose domain is ON and whose port is free merges them into the accumulator's 8-byte value, which a write of all 8 bytes
replaces, saturates it, and leaves the row's other accumulators; while the port is not free the write waits in the loom's FIFO, and to a
benched loom it is BENCHED (2) and writes nothing. A window write and a clear of the counts change their registers and nothing else. -/
def Obligations.AccumulatorsChange : Prop := WinloadSetsWindows ∧ SwapExchangesSets ∧ AccumulatorRegistersWrite

/-- TLOAD checks the header of the tile and starts the load: DMA_LOAD_STS takes the status, TILE_BUSY is set, the buffer is not valid
meanwhile, and nothing is stored. TBLLOAD checks 128 bytes as a code table and starts the load: the slot will take the table, or nothing
where the status is not 0. The ends of the two loads: the buffer, or the table slot, becomes what the load found, its VALID bit says whether
that is anything, and the DMA unit is free. -/
def Obligations.WeightsAndTablesLoad : Prop := TileLoadStarts ∧ TableLoadStarts ∧ LoadsEnd

/-- LOAD and STORE start their transfer: the word has issued, and the DMA unit performs the operation with the table slot that it names. A
descriptor that R154 refuses is a Draft fault with cause ENGINE (4) and sets DESC. A raw STORE of whole bytes, at most a page, to a
scratchpad of this device joins that loom's inbound FIFO as one write of those bytes under the descriptor's tenant; the store's last
acknowledgement is awaited. DMA_DONE ends the transfer under way once it waits for no read. -/
def Obligations.TransfersRun : Prop := TransfersStart ∧ RawStoreSends ∧ TransferEnds

/-- SCORE starts phase 0 and latches its parameters, or PV phase 1; a page whose descriptor R160 refuses is named in ATT_STS; neither stores
anything. ADRAIN with both phases done starts a Bronze operation (OP 2), clears the outputs, SCORED and PV_DONE, and stores only its output
rows and LSE list; before PV is done it sets ORDER and is a Draft fault with cause ENGINE (4). -/
def Obligations.AttentionRuns : Prop := AttentionPhasesStart ∧ AttentionDrains

/-- EMBED issues and starts its operation (OP 5): BUSY reads 1 whether its reads are answered at once or come from outside. DRAIN of rows of
the shadow set starts a Bronze operation (OP 1) with DRAIN_BUSY; where ZERO (bit 9) is set, every row drained reads as zeros afterwards.
Rows beyond the accumulator memory set ROW_RANGE, and on IAL-1 partial rows beyond the scratchpad PSUM_RANGE; each is a Draft fault with
cause ENGINE (4) on the Bronze unit (5). That the rows are zeros from the issue on is log 7, what a partial row of IAL-1 takes log 12, and
how a row drains log 114: the model's choices. -/
def Obligations.RowsEnterAndLeave : Prop := EmbedStarts ∧ DrainEmptiesRows

/-- TDOT, PRED and SDOT, where R222 accepts the descriptor, run: BUSY and OP say so, the word has issued, and only the output rows are
stored to; a correlated SDOT has status 1. A descriptor that R222 refuses sets DESC with its status and is a Draft fault with cause ENGINE
(4) on unit 6. On a loom that nothing holds, the end of a phase, a drain, a Bronze operation, a Bobbin operation and a Shuttle operation
that wait for nothing clear BUSY. BRZ_CNT_OPS counts every Bronze operation, drains among them, BOB_CNT_OPS every Bobbin operation, and
ATT_CNT_OPS an attention operation when its ADRAIN ends; no register counts a phase or a Shuttle operation. SCORE's end sets SCORED, PV's
sets PV_DONE. That an ADRAIN ends by BRZ_OP_DONE is log 27, the model's choice. -/
def Obligations.BobbinAndOperationEnds : Prop := BobbinWordsRun ∧ OperationsEnd

/-- GBEGIN opens a span with the word's layer and threshold set, its counters at zero, and the totals cleared where CNT_CLR was written
while the span before it was open (R206); a second one inside it sets NEST and is a Draft fault with cause ENGINE (4). GCHECK inside a span
pauses for the verdict with a budget of 96 cycles, its vote sent at once where nothing is in flight, no drain runs and every operation that
was issued in the span has completed (R190); outside one it sets NONE and is a Draft fault. What GBEGIN latches, and which operations the
vote waits for, is log 19, deduced. When every loom of the guard group has voted, the verdict is the OR of the votes (bit 4 of what each has
sent), and every loom of the group acts on it: its span closes, the verdict is shown, and a loom in NORMAL mode restarts in REPLAY, one in
REPLAY in FALLBACK, exactly where the verdict is 1; else the mode is NORMAL. A write to GRD_CTL gives EN the bit written; CNT_CLR (bit 2 of
byte 1) clears the guard's totals, and while a span is open only marks that the next GBEGIN clears them (R206). Memory and the rest of the
loom stay. -/
def Obligations.SpansRun : Prop := SpansOpenAndVote ∧ VerdictReachesGroup ∧ GuardControlWrites

/-- Every Shuttle word with a lawful block and operands issues and starts its operation: BUSY and OP say so. A transfer (SCATTER, TALLY,
RETURN) inside a span sets XFER and is a Draft fault with cause ENGINE (4); operands of any word out of range set RANGE and are one on unit
8; what reaches beyond the scratchpad is one with cause PARAM (3). ROUTE writes, for each row, 64 bytes of entries: no byte outside them
changes, no other loom does, and of the register fields only the counts of choices and of poisoned reads, the NaN flag, and what the issue
sets. MASKSET gives the keep register of each panel the number of set bits of its masks, and the run register the same number, or 1 where
none is set and the panel is audited in this step. TALLY of one map entry with one replica on a loom of this device that is not benched puts
one tally of kind 0 with the entry's counts into that loom's FIFO. -/
def Obligations.ShuttleWordsRun : Prop := ShuttleWordsStart ∧ RouteStoresEntries ∧ MasksetCounts ∧ TallySends

/-- The head of the FIFO, where it is a token record or a return row that the windows allow and R281 accepts, lands: its half counts one
record more, and SHT_CNT_LANDED advances; one that R281 refuses is counted in SHT_CNT_LAND_BAD, sets LAND and stores nothing. The cycles for
which the port put it off count (R255). A record is judged by its first packet, a return row by the first packet of it that arrives (log 33,
presumed). The same of the first packet of a return row: it lies within the return area of its queue's source, or it is discarded. A tally
at the head of the FIFO, where no tally packet waits for the loom, is judged: one that R282 refuses sets TALLY and is counted; one that it
accepts adds its count to its half's sum and one to the tallies that have come. No byte of memory changes. A claim at the head is answered
to a loom of this device with a slot of the overflow region while its counter was below OVF_N, and with 0xFFFF else. An answer at the head
removes the claim that it names.How a message names its loom is log 32, the model's choice. -/
def Obligations.ShuttleInboundLands : Prop := RecordsLand ∧ ReturnRowsLand ∧ ShuttleMessagesTaken

/-- The NC port serves the head of the FIFO: a write that the windows allow lands in the scratchpad and nowhere else; one that they do not
sets INWIN_DENY and stores nothing. SPD_CNT_NC_DEFER counts the cycles for which it was put off. With scrubbing on and no hold, the scrubber
reads the bank's next line: its place advances by one line of that bank, and a line without an error changes nothing else but the count of
passes. -/
def Obligations.ScratchpadServed : Prop := InboundServed ∧ ScrubberAdvances

/-- An access by a host core within 64 KiB is answered: a read of the Draft store of an unbenched loom whose domain is ON gives its bytes
and changes nothing else; a write to a benched loom's is BENCHED (2), and a read of addresses from 0x40000000 that nothing occupies is
UNMAPPED (1) and reads zeros; neither changes memory, a register or a loom. The order of the statuses is log 95, deduced. A host core's
write of four bytes to SPD_LAST_THR of a loom whose domain is ON and that is not benched is answered OK and gives the register the bytes
written (R258, R10); a loom engine's is DENIED (3) and changes no register (R33). That an access waits while the domain is not ON is log 96,
the model's choice. -/
def Obligations.LocalSpaceAnswers : Prop := AccessesAnswered ∧ RegisterWritesTake

/-- A host core's write within one line, on an unbenched stack that is awake and outside every region, is answered OK and leaves the line
holding the bytes written between the bytes that it held before; a read gives the line's bytes. An access that the region table refuses is
answered DENIED (3) and changes no byte of memory; the HBM controller (12) of the stack writes an error record of class ACCESS, where no
equal one and fewer than four wait (R509), with code 0x303 and the address. An access that meets its stack asleep waits: it is held, what is
held before it stays before it, and a stack that is LOW begins to wake (R486). No byte of memory and no loom changes. Where it is held is
log 97, deduced. CACHE_FLUSH sets FLUSH_BUSY and nothing else; at its end no line of the stack is cached and FLUSH_BUSY reads 0. A write of
LOOP takes a value other than 3 unless the stack is in use and the value is not 0; else nothing changes. -/
def Obligations.HbmAndCachesServe : Prop := HbmHoldsWrites ∧ HbmRefuses ∧ SleepersWait ∧ CacheAndLoopCommands

/-- A region command that R332 accepts replaces the entry (a clear with zeros), reports status 0, and changes besides only the HBM use of
the old and the new tenant; one that it refuses reports its status and leaves every field of the entry. KEY_LOAD puts the staged pair into
its slot, which is then valid; a pair whose halves are equal is refused with status 1 and changes no slot. KEY_ZERO leaves the slot not
valid and its key zero. -/
def Obligations.RegionsAndKeysChange : Prop := RegionCommandsDecide ∧ KeySlotsChange

/-- ADMIT without a variant: one that R303 refuses early is counted and reported with its status; one whose promise holds takes a free
stream, the first one (log 144, the model's choice), which is then WAITING with the tenant and slot of the request, and is counted. The ring
goes on in either case. CANCEL of a stream that no frozen step holds ends it; of one that a step holds, sets CANCEL_REQ; EVICT of a slot
that is not loading and has no streams leaves it EMPTY; BOLT opens a bolt that is not DOWN and has no benched loom, and closes one that no
stream is bound to, each unless STRETCH would change under streams that are bound (R306, 0x11); a bolt with a stream bound to it is not
closed (0x0C). That a benched loom keeps its bolt closed, and a DOWN bolt closes, is log 123, deduced. -/
def Obligations.RequestsAnswered : Prop := AdmitAnswers ∧ RequestsTake

/-- A load whose copy has ended with status 0 and all of whose writes are acknowledged leaves its slot RESIDENT and is counted; one that
ended with another status leaves it EMPTY. STEP_FREEZE of a live bolt whose group has no frozen step and has work: every bolt of the group
is in the step, with one step number above the last of any of them (log 56, deduced), and every loom of the group is launched with it; the
group's price is the largest of its bolts' (log 49, deduced). STEP_SEAL of a bolt whose frozen step every loom of its group has reported
ends the step: the bolt is in no step. STEP_TIMEOUT of a step that a bench, a fault or its time has ended aborts it: ABORT is set, and the
bolt is in no step. -/
def Obligations.ServingStepsRun : Prop := VariantLoadsEnd ∧ StepsFreeze ∧ StepsEnd

/-- CREATE makes an object of a free ID with the command's tenant and capacity; DELETE of the tenant's own object takes it away with all its
units; STAT answers its length and changes no object; each completes at once, and the engine goes on. A command that moves data, where its
checks pass, is under way in its engine, which goes on to the next entry: WRITE, READ, READIMG, WRITEBACK and COPYIMG. A command whose data
has moved and whose writes are all acknowledged completes: its engine is free, and the entry is answered with its status and result, and
recorded where it is refused and nothing that failed in it has been recorded already. A ring size that is no power of two from 64 to 65,536
sets RING_BAD. Garbage collection, read refresh and wear leveling move units between blocks and erase; they lose none: a unit that is mapped
stays so, and the objects and their bytes stay; of memory only the map's region changes. Each does what R356 names; which block each takes,
and in what order blocks fill, is log 45, the model's choice. A collection erases the block with the fewest valid units, here one with none,
and condemns it where the erase fails; before a refresh or a leveling, collections keep a reserve; a block that has reached its reads is
refreshed and counted; the least erased block that holds data is emptied where two erase counts differ by more than the bound. -/
def Obligations.TierCommandsRun : Prop := ObjectCommandsComplete ∧ DataCommandsStart ∧ TierCommandsEnd ∧ FlashUpkeepKeepsData

/-- OFFER takes an entry that is FREE or LOST, the first one (log 54, deduced); RECLAIM makes an ACTIVE lease RECLAIMING; REVOKE makes one
of either LOST, and counts it; each as the message says. ACCEPT makes an OFFERED lease ACTIVE and lends its region to the peer; DECLINE
frees an OFFERED one, and RELEASE an ACTIVE or RECLAIMING one. The runtime's lease commands: LEND offers the region that it names, in the
lowest FREE entry (log 54, deduced), and completes with the peer's answer (log 53, deduced); ACCEPT takes an OFFERED lease within the
tenant's quota; DECLINE frees it; RECLAIM asks for an ACTIVE lent lease back; RELEASE frees a clean one; CLEAN completes. Each lets the
engine go on. A keepalive period counts one missed period for every lease that is ACTIVE or RECLAIMING on either side; a deadline that
passes, and a peer that has missed its periods, end the lease: FREE at the lender, LOST at the borrower. -/
def Obligations.LeasesChange : Prop := LeaseMessagesToBorrower ∧ LeaseMessagesToLender ∧ LeaseCommandsTake ∧ LeaseTimesPass

/-- In NEGOTIATE a port sends its capability word, and takes the peer's: the first cause for which R386 refuses it quarantines the port; an
acceptable one fixes LEVEL and the common features, and the port enters AUTH with a fresh nonce, or QUARANTINE where the identity keys do
not unwrap. In AUTH a challenge asks the security engine for the signature pair of a proof, before every Assay that waits; the last fragment
of a proof is verified: one that passes brings the port UP once the peer has passed this side, and one that fails quarantines it with the
cause of its failure. So do a result that is not a pass (10) and the time limit (8). Which fragment is the last, and the body of a result,
are log 67, and when a signature pair is made log 125 (both deduced). -/
def Obligations.PortsAuthenticate : Prop := CapabilityWords ∧ AuthenticationDecides

/-- A flit that the FEC could not correct, and one whose CRC is wrong, are counted and not taken: the next SEQ expected stays, and no packet
is taken in. On an UP port that replays nothing, a DATA flit with the SEQ expected that holds a whole well-formed packet for this device is
taken: the packet waits at this device's endpoint, the next SEQ is expected, and the flit is counted. A first NAK on an UP port below its
limits is counted; every flit after the acknowledged one leaves again, in order, counted as sent, and stays for further replays. -/
def Obligations.FlitsHandled : Prop := FlitsRefused ∧ FlitsTaken ∧ NaksReplay

/-- A memory packet for an unbenched loom's window that neither a domain nor a full FIFO keeps waiting joins that loom's FIFO as its access:
a WRITE as what R274 makes of it, a READ, and an ATOMIC of either operation. Its RTY counts at the loom. The depth of the FIFO is log 112,
and the 16-byte masked atomic log 113: the model's choices. A response ends the request of its TAG: a waiting read of a loom gets its bytes,
and a loom's write is acknowledged. A request whose response does not come in time is counted, and its read gets poison. -/
def Obligations.RequestsAndResponses : Prop := MemoryPacketsWait ∧ ResponsesComplete

/-- A COLL message of a collective that is not valid is counted as stale and discarded, and one whose body header R6 or R7 refuses is
recorded. The last contribution to an ALLREDUCE reaches its root, whose one loom has joined: the reduced elements go to that loom's inbound
FIFO as a write at DST_OFF. The body's layout is log 48, and that an element's identity stands for a missing one log 74, the model's
choices. The last write of a result at the head of a loom's FIFO, which the port serves: its bytes land, and the loom's WAIT ends. A HOSTMSG
that fits the mailbox ring is written there behind its header, and the tail goes on; one for which there is no room is counted as dropped
and changes nothing but the endpoint. -/
def Obligations.MessagesLand : Prop := CollectivesCombine ∧ ResultsLand ∧ HostMessagesTaken

/-- ETH_CTL of a port that is not of the FABRIC personality takes its fields, a MAXFRAME out of range acts and reads as 1,518, and EN
written 0 takes the link down; a FABRIC port ignores the write. A link comes up on an enabled port of the ETH personality, and goes down. A
frame with a wrong FCS is counted and dropped; a PAUSE frame is counted; a frame to a MAC address of a tunnel entry leaves as one ETH_PACKET
to the entry's chip; and one that matches nothing takes the next receive descriptor, or is dropped where the ring has none (what then is log
77). Where PFC_EN is 1, a priority-based flow control frame may follow (log 109, the model's choice). No memory stack sleeps: the command
would wait for them (R486). The next transmit descriptor's frame leaves with its FCS, padded to 60 bytes (log 76, deduced), and is counted;
a tunnelled frame leaves the port that its TAG names, or is counted as dropped where that port is not up. -/
def Obligations.EthernetRuns : Prop := EthernetLinks ∧ FramesArrive ∧ FramesLeave

/-- A load of either kind begins where its preconditions hold, with the source that CRD_CTL names, flash only for Selvedge; else it is
refused at once with status STATE (0x11) and counted. A load under way whose image, as it was read, fails a check of R426 is refused with
that check's status; one read from flash in vain with FORMAT (1). One whose image passes them all commits: its sections are in force, its
ID, SVN and digest are shown, and each loom's ACC_STATUS.COMPAT follows the Draft that it binds (R99, R420). One with a profile on another
device reads it first. Where R426 names no place, the checks stand where log 71 puts them (deduced). -/
def Obligations.CardLoadsRun : Prop := CardLoadsBegin ∧ CardLoadsEnd

/-- STAGE begins, and BUSY rises. So does CARD_PERSIST once it has read the image at ARG0 and found it to be the one in force; a range
outside HBM ends it with status 1, another image with 8. ASSAY waits for its signature pair, or ends with status 0xC where the identity keys
do not unwrap. FUSE_ADVANCE begins, the fuse supply on where something is burnt; and PROVISION of a device that is manufactured, once its
digests are read, with the supply on. Once every rail is off until cold reset a command that would burn ends with 0xC. COMMIT of a staged
image writes its state record and erases the area; with none it ends with status STATE (0xC). While a command is under way a write of
SLV_CMD sets CMD_LOST and nothing else of Selvedge's, and a CMD message is answered IN_PROGRESS (2). When COMMIT erases and CARD_PERSIST
reads is log 80, when the fuse supply is on log 93, and when the pair is made log 125 (all deduced). SLV_COMMAND_DONE ends the command under
way: BUSY falls, OP names it, and none is under way. A STAGE that ends with status 0 leaves a staged image, and with another none; a COMMIT
or a CARD_PERSIST whose flash fails ends with status 9; a CARD_PERSIST that ends well gives the area with the lower CARD_SEQ the next one; a
FUSE_ADVANCE whose target is above the counter, and no more than 64, burns it forward while the fuse supply is on; PROVISION burns the two
digests that it has read, and LIFECYCLE becomes OWNED; with the supply off a burn ends with status 0xC. An ASSAY ends once the security
engine has come to its pair, with one more pair counted. When CARD_PERSIST writes is log 80, when the fuse supply is on log 93, and when a
pair is made log 125 (all deduced); that a burn without its supply ends so is log 142, the model's choice. -/
def Obligations.SelvedgeCommandsRun : Prop := SelvedgeCommandsBegin ∧ SelvedgeCommandsEnd

/-- BENCH takes a loom, a stack, a port or a channel out of service, UNBENCH clears its bit in the bench map and leaves the unit out; a unit
that does not exist is refused with status 1. A loom that asks to be benched is, while the Ingot runs. TEST of a unit that may be tested
drains its scope: the OPEN bolts of the scope become DRAINING, and the test waits. A unit or a test that does not exist ends it with status
1, and a unit whose state does not allow the test with 0xC. A test whose scope is idle runs: with no failure its status is 0 and its command
ends so; a failure ends it with 0xB and benches the stack that was tested. A scope that is not idle in time ends it with 0xA. -/
def Obligations.UnitsBenchAndTest : Prop := UnitsBench ∧ TestsBegin ∧ TestsEnd

/-- SELF_RESET, a lockstep mismatch, and a watchdog event reset Selvedge alone: the ROM runs stage 2 next, no command, no session and no
Ingot in SRAM is left, LAST is 4, and the looms stay; the third watchdog event within 60 s enters recovery with REASON 4. Without
REFCLK_MGMT Selvedge is in reset, and a mismatch does nothing (R527). Stage 2: with RECOVERY_N low at the reset the ROM enters recovery with
REASON 3; else an Ingot that R440 refuses enters it with REASON 1, or 2 for an old SVN, and the status; one that passes runs from SRAM, its
version is shown, and bring-up goes on at stage 3 unless the boot repeats none or every rail is off until cold reset. -/
def Obligations.IngotVerifiesOnReset : Prop := SelvedgeResets ∧ RomVerifiesIngot

/-- A warm reset of a device that runs its cold boot's Ingot sets BUSY and LAST 1, is counted, empties the looms and every memory below HBM,
and boot goes on at stage 4; a command of Selvedge goes on. With another Ingot it is refused with status 1, and while BUSY, which lasts to
stage 9 (log 82, deduced), with status 2. A function reset of bolts that are idle and bound by no stream clears their looms, and is refused
with status 1 else; a loom reset clears one loom, and leaves the array, the accumulators and the sequencer of every other, and all memory
outside its own window. Each takes one step (log 83, deduced). -/
def Obligations.ResetsRun : Prop := WarmResetRuns ∧ FunctionAndLoomResets

/-- HELLO goes out in recovery. LOG_READ and SENSORS are answered while the ROM or the Ingot runs; DATA of an open session, or in recovery,
fills the stage buffer and no longer leaves a staged image; AUTH without a proof is answered with a fresh nonce, and with one opens a
session exactly where it verifies; ASSAY_GET is answered with a part of the report for its nonce, has one made, or is told that another is
being made; a request whose header R6 or R7 refuses, or whose OP is reserved, is answered INVALID (1) and does nothing, and one that is not
for the device is not heard; the end of a session and of a try at 25 Gb/s are noted. What the bodies hold is log 89, and which headers are
refused or not heard log 127 (both deduced). END in recovery checks the image in the stage buffer: one that R440 refuses is answered with
its status, and recovery goes on; one that passes is committed, and Selvedge resets, unless the flash fails, which is status 9 (the body is
log 89, deduced). -/
def Obligations.ManagementPortServes : Prop := ManagementPortAnswers ∧ RecoveryEnds

/-- A command for an operating point shows its status; a refused one changes nothing else. A lower clock takes effect at once and a higher
one waits; a lower voltage row slews at once and a higher one waits. A command that waits takes effect once the loom holds no credits: the
clock is reached, or the voltage slews. When a slew ends, the loom is at its row. Each period Temper moves the clock cap and the credit cut
of a die that is not tripped as R480 says, and the budget follows the larger cut, no lower than the effective minimum and no higher than
6,400. -/
def Obligations.OperatingPointsMove : Prop := OperatingPointCommands ∧ OperatingPointsReached ∧ TemperPeriodSteps

/-- A sample is shown. A die sensor at 115 °C trips its die: its looms run at 900 MHz on row 0 at once. A sensor at its shutdown level
drives THERMTRIP_N, and everything but the always-on island loses its supply, which nothing brings back before a cold reset (log 86,
deduced); memory without a supply reads as zero (log 4, the model's choice). When a trip acts is log 84, deduced. A rail that has been out
of range for three samples in a row, and one whose regulator reports a fault, stop the device but for the always-on island; an alert without
a fault does nothing. What stays off is log 86, deduced, and that memory reads as zero log 4, the model's choice. -/
def Obligations.SensorsAndRails : Prop := SensorsWatch ∧ RailsFail

/-- Each of these Bronze words, where its block and operands are lawful, issues and starts its operation: BUSY and OP say so; it stores
within its output rows only, counts specials, guard events and poisoned reads, and touches no other loom. That the rows stand while the unit
is BUSY is log 7, and the number format of an input is log 14: the model's choices. An ELEM word with FP32 output leaves its function's
results, element by element, at its output; a DOT word with FP32 output and rows that do not overlap leaves in row i the dot products of row
i of A with every row of B. They stand from the word's issue on (log 7, the model's choice). -/
def Obligations.BronzeWordsRun : Prop := BronzeWordsStart ∧ BronzeResultsStore

/-- Registers of the serving controller and the ledger whose writes do more: an allowance or the overhead takes its bytes, and the times of
every valid slot are priced anew (R304); a floor clock inside 900 to 1,850 is taken, with the same effect, and one outside is ignored; a
ring size that is no power of two from 64 to 65,536 sets RQ_BAD; the minimum budget is taken with its effective value, which raises the
budget to it, never above 6,400; the clears clear; each bucket is filled by RATE up to DEPTH once a millisecond. The floor clock (R305):
SVC_FLOOR_MHZ accepts the values from 900 to 1,850 and ignores the others. -/
def Obligations.ServingRegistersTake : Prop := ServingRegistersChange ∧ FloorClockAccepts

end Obligations
end

