-- ==== Sys2Proof/Laws/Tables.lean ====
section
/-! SUPPORT. Sparse tables: what a key holds after a put, and the canonical form that every put keeps. -/
namespace Sys2Proof.Machine

variable {β : Type}

/-- After taking a key out, it holds the default. -/
@[simp] theorem tget_tdel_same (d : β) (m : List (Nat × β)) (a : Nat) : tget d (tdel m a) a = d := by
  induction m with
  | nil => rfl
  | cons e t ih =>
    obtain ⟨k, v⟩ := e
    by_cases h : k = a <;> simp [tdel, tget, h, ih]

/-- Taking a key out leaves the others. -/
theorem tget_tdel_ne (d : β) (m : List (Nat × β)) {a b : Nat} (h : b ≠ a) : tget d (tdel m a) b = tget d m b := by
  induction m with
  | nil => rfl
  | cons e t ih =>
    obtain ⟨k, v⟩ := e
    by_cases hk : k = a
    · subst hk
      simp [tdel, tget, ih, Ne.symm h]
    · by_cases hb : k = b
      · subst hb
        simp [tdel, tget, h]
      · simp [tdel, tget, hk, hb, ih]

/-- A key that an insertion wrote holds what was written. -/
@[simp] theorem tget_tins_same (d : β) (m : List (Nat × β)) (a : Nat) (v : β) : tget d (tins a v m) a = v := by
  induction m with
  | nil => simp [tins, tget]
  | cons e t ih =>
    obtain ⟨k, w⟩ := e
    rw [tins]
    split
    · simp [tget]
    · split
      · simp [tget]
      · rename_i hne
        simp [tget, ih, Ne.symm hne]

/-- An insertion leaves the other keys. -/
theorem tget_tins_ne (d : β) (m : List (Nat × β)) {a b : Nat} (v : β) (h : b ≠ a) : tget d (tins a v m) b = tget d m b := by
  induction m with
  | nil => simp [tins, tget, Ne.symm h]
  | cons e t ih =>
    obtain ⟨k, w⟩ := e
    rw [tins]
    split
    · simp [tget, Ne.symm h]
    · split
      · rename_i hk
        subst hk
        simp [tget, Ne.symm h]
      · by_cases hb : k = b <;> simp [tget, hb, ih]

/-- A key that a put wrote holds what was put. -/
@[simp] theorem tget_tput_same [DecidableEq β] (d : β) (m : List (Nat × β)) (a : Nat) (v : β) : tget d (tput d m a v) a = v := by
  unfold tput
  split
  · rename_i h
    simp [h]
  · simp

/-- A put leaves the other keys, whatever an unlisted one holds. -/
theorem tget_tput_ne [DecidableEq β] (d d' : β) (m : List (Nat × β)) {a b : Nat} (v : β) (h : b ≠ a) :
    tget d (tput d' m a v) b = tget d m b := by
  unfold tput
  split
  · exact tget_tdel_ne d m h
  · exact tget_tins_ne d m v h

/-! ### The canonical form -/

/-- An entry left after a key is taken out was there before. -/
theorem mem_tdel {m : List (Nat × β)} {a : Nat} {e : Nat × β} (h : e ∈ tdel m a) : e ∈ m := by
  induction m with
  | nil => simp [tdel] at h
  | cons x t ih =>
    obtain ⟨k, v⟩ := x
    by_cases hk : k = a
    · simp only [tdel, hk, if_true] at h
      exact List.mem_cons_of_mem _ (ih h)
    · simp only [tdel, hk, if_false, List.mem_cons] at h
      rcases h with h | h
      · exact h ▸ List.mem_cons_self
      · exact List.mem_cons_of_mem _ (ih h)

/-- An entry after an insertion is the inserted one or was there before. -/
theorem mem_tins {m : List (Nat × β)} {a : Nat} {v : β} {e : Nat × β} (h : e ∈ tins a v m) : e = (a, v) ∨ e ∈ m := by
  induction m with
  | nil => simpa [tins] using h
  | cons x t ih =>
    obtain ⟨k, w⟩ := x
    rw [tins] at h
    split at h
    · simpa using h
    · split at h
      · rcases List.mem_cons.1 h with h | h
        · exact .inl h
        · exact .inr (List.mem_cons_of_mem _ h)
      · rcases List.mem_cons.1 h with h | h
        · exact .inr (h ▸ List.mem_cons_self)
        · exact (ih h).imp id (List.mem_cons_of_mem _)

/-- Taking a key out keeps the order. -/
theorem tsorted_tdel {m : List (Nat × β)} (a : Nat) (h : tsorted m = true) : tsorted (tdel m a) = true := by
  induction m with
  | nil => rfl
  | cons e t ih =>
    obtain ⟨k, v⟩ := e
    simp only [tsorted, Bool.and_eq_true, List.all_eq_true, decide_eq_true_eq] at h
    by_cases hk : k = a
    · simpa [tdel, hk] using ih h.2
    · simp only [tdel, hk, if_false, tsorted, Bool.and_eq_true, List.all_eq_true, decide_eq_true_eq]
      exact ⟨fun e he => h.1 e (mem_tdel he), ih h.2⟩

/-- An insertion keeps the order. -/
theorem tsorted_tins {m : List (Nat × β)} (a : Nat) (v : β) (h : tsorted m = true) : tsorted (tins a v m) = true := by
  induction m with
  | nil => simp [tins, tsorted]
  | cons e t ih =>
    obtain ⟨k, w⟩ := e
    have h' := h
    simp only [tsorted, Bool.and_eq_true, List.all_eq_true, decide_eq_true_eq] at h
    rw [tins]
    split
    · rename_i hak
      rw [tsorted]
      simp only [Bool.and_eq_true, List.all_eq_true, decide_eq_true_eq]
      refine ⟨fun e he => ?_, h'⟩
      rcases List.mem_cons.1 he with he | he
      · exact he ▸ hak
      · exact Nat.lt_trans hak (h.1 e he)
    · split
      · rename_i hak
        subst hak
        rw [tsorted]
        simp only [Bool.and_eq_true, List.all_eq_true, decide_eq_true_eq]
        exact h
      · rename_i h1 h2
        rw [tsorted]
        simp only [Bool.and_eq_true, List.all_eq_true, decide_eq_true_eq]
        refine ⟨fun e he => ?_, ih h.2⟩
        rcases mem_tins he with he | he
        · subst he
          omega
        · exact h.1 e he

/-- A put keeps the canonical form. -/
theorem twf_tput [DecidableEq β] {d : β} {m : List (Nat × β)} (a : Nat) (v : β) (h : twf d m = true) : twf d (tput d m a v) = true := by
  simp only [twf, Bool.and_eq_true, List.all_eq_true, decide_eq_true_eq] at h ⊢
  unfold tput
  split
  · exact ⟨tsorted_tdel a h.1, fun e he => h.2 e (mem_tdel he)⟩
  · rename_i hv
    refine ⟨tsorted_tins a v h.1, fun e he => ?_⟩
    rcases mem_tins he with he | he
    · exact he ▸ hv
    · exact h.2 e he

/-- A filter keeps the order. -/
theorem tsorted_filter {m : List (Nat × β)} (p : Nat × β → Bool) (h : tsorted m = true) : tsorted (m.filter p) = true := by
  induction m with
  | nil => rfl
  | cons e t ih =>
    obtain ⟨k, v⟩ := e
    simp only [tsorted, Bool.and_eq_true, List.all_eq_true, decide_eq_true_eq] at h
    rw [List.filter_cons]
    split
    · simp only [tsorted, Bool.and_eq_true, List.all_eq_true, decide_eq_true_eq]
      exact ⟨fun e he => h.1 e (List.mem_filter.1 he).1, ih h.2⟩
    · exact ih h.2

/-- A filter keeps the canonical form. -/
theorem twf_filter [DecidableEq β] {d : β} {m : List (Nat × β)} (p : Nat × β → Bool) (h : twf d m = true) : twf d (m.filter p) = true := by
  simp only [twf, Bool.and_eq_true, List.all_eq_true, decide_eq_true_eq] at h ⊢
  exact ⟨tsorted_filter p h.1, fun e he => h.2 e (List.mem_filter.1 he).1⟩

end Sys2Proof.Machine
end

