-- ==== Sys2Proof/Laws/State.lean ====
section
/-! SUPPORT. What each update of the state leaves as it was: one lemma per field and update, and what the register fields and the looms
hold after an update. -/
namespace Sys2Proof.Machine

variable (s : State)

/-! ### set -/

@[simp] theorem State.set_mem (f : Fld) (v : Nat) : (s.set f v).mem = s.mem := rfl
@[simp] theorem State.set_poison (f : Fld) (v : Nat) : (s.set f v).poison = s.poison := rfl
@[simp] theorem State.set_looms (f : Fld) (v : Nat) : (s.set f v).looms = s.looms := rfl
@[simp] theorem State.set_ledger (f : Fld) (v : Nat) : (s.set f v).ledger = s.ledger := rfl
@[simp] theorem State.set_voltTo (f : Fld) (v : Nat) : (s.set f v).voltTo = s.voltTo := rfl
@[simp] theorem State.set_cache (f : Fld) (v : Nat) : (s.set f v).cache = s.cache := rfl
@[simp] theorem State.set_keys (f : Fld) (v : Nat) : (s.set f v).keys = s.keys := rfl
@[simp] theorem State.set_errs (f : Fld) (v : Nat) : (s.set f v).errs = s.errs := rfl
@[simp] theorem State.set_errDropped (f : Fld) (v : Nat) : (s.set f v).errDropped = s.errDropped := rfl
@[simp] theorem State.set_card (f : Fld) (v : Nat) : (s.set f v).card = s.card := rfl
@[simp] theorem State.set_fab (f : Fld) (v : Nat) : (s.set f v).fab = s.fab := rfl
@[simp] theorem State.set_tiers (f : Fld) (v : Nat) : (s.set f v).tiers = s.tiers := rfl
@[simp] theorem State.set_svc (f : Fld) (v : Nat) : (s.set f v).svc = s.svc := rfl
@[simp] theorem State.set_crd (f : Fld) (v : Nat) : (s.set f v).crd = s.crd := rfl
@[simp] theorem State.set_mgmt (f : Fld) (v : Nat) : (s.set f v).mgmt = s.mgmt := rfl
@[simp] theorem State.set_power (f : Fld) (v : Nat) : (s.set f v).power = s.power := rfl
@[simp] theorem State.set_tap (f : Fld) (v : Nat) : (s.set f v).tap = s.tap := rfl
@[simp] theorem State.set_pfc (f : Fld) (v : Nat) : (s.set f v).pfc = s.pfc := rfl
@[simp] theorem State.set_held (f : Fld) (v : Nat) : (s.set f v).held = s.held := rfl
@[simp] theorem State.set_posts (f : Fld) (v : Nat) : (s.set f v).posts = s.posts := rfl
@[simp] theorem State.set_waiting (f : Fld) (v : Nat) : (s.set f v).waiting = s.waiting := rfl
@[simp] theorem State.set_stalled (f : Fld) (v : Nat) : (s.set f v).stalled = s.stalled := rfl
@[simp] theorem State.set_plat (f : Fld) (v : Nat) : (s.set f v).plat = s.plat := rfl
@[simp] theorem State.set_coreExc (f : Fld) (v : Nat) : (s.set f v).coreExc = s.coreExc := rfl
@[simp] theorem State.set_resp (f : Fld) (v : Nat) : (s.set f v).resp = s.resp := rfl
@[simp] theorem State.set_freeCount (f : Fld) (v : Nat) : (s.set f v).freeCount = s.freeCount := rfl
@[simp] theorem State.set_pending (f : Fld) (v : Nat) : (s.set f v).pending = s.pending := rfl
@[simp] theorem State.set_lm (f : Fld) (v : Nat) (m : Nat) : (s.set f v).lm m = s.lm m := rfl

/-! ### add -/

@[simp] theorem State.add_mem (f : Fld) (k : Nat) : (s.add f k).mem = s.mem := rfl
@[simp] theorem State.add_poison (f : Fld) (k : Nat) : (s.add f k).poison = s.poison := rfl
@[simp] theorem State.add_looms (f : Fld) (k : Nat) : (s.add f k).looms = s.looms := rfl
@[simp] theorem State.add_ledger (f : Fld) (k : Nat) : (s.add f k).ledger = s.ledger := rfl
@[simp] theorem State.add_voltTo (f : Fld) (k : Nat) : (s.add f k).voltTo = s.voltTo := rfl
@[simp] theorem State.add_cache (f : Fld) (k : Nat) : (s.add f k).cache = s.cache := rfl
@[simp] theorem State.add_keys (f : Fld) (k : Nat) : (s.add f k).keys = s.keys := rfl
@[simp] theorem State.add_errs (f : Fld) (k : Nat) : (s.add f k).errs = s.errs := rfl
@[simp] theorem State.add_errDropped (f : Fld) (k : Nat) : (s.add f k).errDropped = s.errDropped := rfl
@[simp] theorem State.add_card (f : Fld) (k : Nat) : (s.add f k).card = s.card := rfl
@[simp] theorem State.add_fab (f : Fld) (k : Nat) : (s.add f k).fab = s.fab := rfl
@[simp] theorem State.add_tiers (f : Fld) (k : Nat) : (s.add f k).tiers = s.tiers := rfl
@[simp] theorem State.add_svc (f : Fld) (k : Nat) : (s.add f k).svc = s.svc := rfl
@[simp] theorem State.add_crd (f : Fld) (k : Nat) : (s.add f k).crd = s.crd := rfl
@[simp] theorem State.add_mgmt (f : Fld) (k : Nat) : (s.add f k).mgmt = s.mgmt := rfl
@[simp] theorem State.add_power (f : Fld) (k : Nat) : (s.add f k).power = s.power := rfl
@[simp] theorem State.add_tap (f : Fld) (k : Nat) : (s.add f k).tap = s.tap := rfl
@[simp] theorem State.add_pfc (f : Fld) (k : Nat) : (s.add f k).pfc = s.pfc := rfl
@[simp] theorem State.add_held (f : Fld) (k : Nat) : (s.add f k).held = s.held := rfl
@[simp] theorem State.add_posts (f : Fld) (k : Nat) : (s.add f k).posts = s.posts := rfl
@[simp] theorem State.add_waiting (f : Fld) (k : Nat) : (s.add f k).waiting = s.waiting := rfl
@[simp] theorem State.add_stalled (f : Fld) (k : Nat) : (s.add f k).stalled = s.stalled := rfl
@[simp] theorem State.add_plat (f : Fld) (k : Nat) : (s.add f k).plat = s.plat := rfl
@[simp] theorem State.add_coreExc (f : Fld) (k : Nat) : (s.add f k).coreExc = s.coreExc := rfl
@[simp] theorem State.add_resp (f : Fld) (k : Nat) : (s.add f k).resp = s.resp := rfl
@[simp] theorem State.add_freeCount (f : Fld) (k : Nat) : (s.add f k).freeCount = s.freeCount := rfl
@[simp] theorem State.add_pending (f : Fld) (k : Nat) : (s.add f k).pending = s.pending := rfl
@[simp] theorem State.add_lm (f : Fld) (k : Nat) (m : Nat) : (s.add f k).lm m = s.lm m := rfl

/-! ### addHold -/

@[simp] theorem State.addHold_mem (f : Fld) (k : Nat) : (s.addHold f k).mem = s.mem := rfl
@[simp] theorem State.addHold_poison (f : Fld) (k : Nat) : (s.addHold f k).poison = s.poison := rfl
@[simp] theorem State.addHold_looms (f : Fld) (k : Nat) : (s.addHold f k).looms = s.looms := rfl
@[simp] theorem State.addHold_ledger (f : Fld) (k : Nat) : (s.addHold f k).ledger = s.ledger := rfl
@[simp] theorem State.addHold_voltTo (f : Fld) (k : Nat) : (s.addHold f k).voltTo = s.voltTo := rfl
@[simp] theorem State.addHold_cache (f : Fld) (k : Nat) : (s.addHold f k).cache = s.cache := rfl
@[simp] theorem State.addHold_keys (f : Fld) (k : Nat) : (s.addHold f k).keys = s.keys := rfl
@[simp] theorem State.addHold_errs (f : Fld) (k : Nat) : (s.addHold f k).errs = s.errs := rfl
@[simp] theorem State.addHold_errDropped (f : Fld) (k : Nat) : (s.addHold f k).errDropped = s.errDropped := rfl
@[simp] theorem State.addHold_card (f : Fld) (k : Nat) : (s.addHold f k).card = s.card := rfl
@[simp] theorem State.addHold_fab (f : Fld) (k : Nat) : (s.addHold f k).fab = s.fab := rfl
@[simp] theorem State.addHold_tiers (f : Fld) (k : Nat) : (s.addHold f k).tiers = s.tiers := rfl
@[simp] theorem State.addHold_svc (f : Fld) (k : Nat) : (s.addHold f k).svc = s.svc := rfl
@[simp] theorem State.addHold_crd (f : Fld) (k : Nat) : (s.addHold f k).crd = s.crd := rfl
@[simp] theorem State.addHold_mgmt (f : Fld) (k : Nat) : (s.addHold f k).mgmt = s.mgmt := rfl
@[simp] theorem State.addHold_power (f : Fld) (k : Nat) : (s.addHold f k).power = s.power := rfl
@[simp] theorem State.addHold_tap (f : Fld) (k : Nat) : (s.addHold f k).tap = s.tap := rfl
@[simp] theorem State.addHold_pfc (f : Fld) (k : Nat) : (s.addHold f k).pfc = s.pfc := rfl
@[simp] theorem State.addHold_held (f : Fld) (k : Nat) : (s.addHold f k).held = s.held := rfl
@[simp] theorem State.addHold_posts (f : Fld) (k : Nat) : (s.addHold f k).posts = s.posts := rfl
@[simp] theorem State.addHold_waiting (f : Fld) (k : Nat) : (s.addHold f k).waiting = s.waiting := rfl
@[simp] theorem State.addHold_stalled (f : Fld) (k : Nat) : (s.addHold f k).stalled = s.stalled := rfl
@[simp] theorem State.addHold_plat (f : Fld) (k : Nat) : (s.addHold f k).plat = s.plat := rfl
@[simp] theorem State.addHold_coreExc (f : Fld) (k : Nat) : (s.addHold f k).coreExc = s.coreExc := rfl
@[simp] theorem State.addHold_resp (f : Fld) (k : Nat) : (s.addHold f k).resp = s.resp := rfl
@[simp] theorem State.addHold_freeCount (f : Fld) (k : Nat) : (s.addHold f k).freeCount = s.freeCount := rfl
@[simp] theorem State.addHold_pending (f : Fld) (k : Nat) : (s.addHold f k).pending = s.pending := rfl
@[simp] theorem State.addHold_lm (f : Fld) (k : Nat) (m : Nat) : (s.addHold f k).lm m = s.lm m := rfl

/-! ### clear -/

@[simp] theorem State.clear_mem (f : Fld) : (s.clear f).mem = s.mem := rfl
@[simp] theorem State.clear_poison (f : Fld) : (s.clear f).poison = s.poison := rfl
@[simp] theorem State.clear_looms (f : Fld) : (s.clear f).looms = s.looms := rfl
@[simp] theorem State.clear_ledger (f : Fld) : (s.clear f).ledger = s.ledger := rfl
@[simp] theorem State.clear_voltTo (f : Fld) : (s.clear f).voltTo = s.voltTo := rfl
@[simp] theorem State.clear_cache (f : Fld) : (s.clear f).cache = s.cache := rfl
@[simp] theorem State.clear_keys (f : Fld) : (s.clear f).keys = s.keys := rfl
@[simp] theorem State.clear_errs (f : Fld) : (s.clear f).errs = s.errs := rfl
@[simp] theorem State.clear_errDropped (f : Fld) : (s.clear f).errDropped = s.errDropped := rfl
@[simp] theorem State.clear_card (f : Fld) : (s.clear f).card = s.card := rfl
@[simp] theorem State.clear_fab (f : Fld) : (s.clear f).fab = s.fab := rfl
@[simp] theorem State.clear_tiers (f : Fld) : (s.clear f).tiers = s.tiers := rfl
@[simp] theorem State.clear_svc (f : Fld) : (s.clear f).svc = s.svc := rfl
@[simp] theorem State.clear_crd (f : Fld) : (s.clear f).crd = s.crd := rfl
@[simp] theorem State.clear_mgmt (f : Fld) : (s.clear f).mgmt = s.mgmt := rfl
@[simp] theorem State.clear_power (f : Fld) : (s.clear f).power = s.power := rfl
@[simp] theorem State.clear_tap (f : Fld) : (s.clear f).tap = s.tap := rfl
@[simp] theorem State.clear_pfc (f : Fld) : (s.clear f).pfc = s.pfc := rfl
@[simp] theorem State.clear_held (f : Fld) : (s.clear f).held = s.held := rfl
@[simp] theorem State.clear_posts (f : Fld) : (s.clear f).posts = s.posts := rfl
@[simp] theorem State.clear_waiting (f : Fld) : (s.clear f).waiting = s.waiting := rfl
@[simp] theorem State.clear_stalled (f : Fld) : (s.clear f).stalled = s.stalled := rfl
@[simp] theorem State.clear_plat (f : Fld) : (s.clear f).plat = s.plat := rfl
@[simp] theorem State.clear_coreExc (f : Fld) : (s.clear f).coreExc = s.coreExc := rfl
@[simp] theorem State.clear_resp (f : Fld) : (s.clear f).resp = s.resp := rfl
@[simp] theorem State.clear_freeCount (f : Fld) : (s.clear f).freeCount = s.freeCount := rfl
@[simp] theorem State.clear_pending (f : Fld) : (s.clear f).pending = s.pending := rfl
@[simp] theorem State.clear_lm (f : Fld) (m : Nat) : (s.clear f).lm m = s.lm m := rfl

/-! ### setLm -/

@[simp] theorem State.setLm_flds (n : Nat) (l : Loom) : (s.setLm n l).flds = s.flds := rfl
@[simp] theorem State.setLm_mem (n : Nat) (l : Loom) : (s.setLm n l).mem = s.mem := rfl
@[simp] theorem State.setLm_poison (n : Nat) (l : Loom) : (s.setLm n l).poison = s.poison := rfl
@[simp] theorem State.setLm_ledger (n : Nat) (l : Loom) : (s.setLm n l).ledger = s.ledger := rfl
@[simp] theorem State.setLm_voltTo (n : Nat) (l : Loom) : (s.setLm n l).voltTo = s.voltTo := rfl
@[simp] theorem State.setLm_cache (n : Nat) (l : Loom) : (s.setLm n l).cache = s.cache := rfl
@[simp] theorem State.setLm_keys (n : Nat) (l : Loom) : (s.setLm n l).keys = s.keys := rfl
@[simp] theorem State.setLm_errs (n : Nat) (l : Loom) : (s.setLm n l).errs = s.errs := rfl
@[simp] theorem State.setLm_errDropped (n : Nat) (l : Loom) : (s.setLm n l).errDropped = s.errDropped := rfl
@[simp] theorem State.setLm_card (n : Nat) (l : Loom) : (s.setLm n l).card = s.card := rfl
@[simp] theorem State.setLm_fab (n : Nat) (l : Loom) : (s.setLm n l).fab = s.fab := rfl
@[simp] theorem State.setLm_tiers (n : Nat) (l : Loom) : (s.setLm n l).tiers = s.tiers := rfl
@[simp] theorem State.setLm_svc (n : Nat) (l : Loom) : (s.setLm n l).svc = s.svc := rfl
@[simp] theorem State.setLm_crd (n : Nat) (l : Loom) : (s.setLm n l).crd = s.crd := rfl
@[simp] theorem State.setLm_mgmt (n : Nat) (l : Loom) : (s.setLm n l).mgmt = s.mgmt := rfl
@[simp] theorem State.setLm_power (n : Nat) (l : Loom) : (s.setLm n l).power = s.power := rfl
@[simp] theorem State.setLm_tap (n : Nat) (l : Loom) : (s.setLm n l).tap = s.tap := rfl
@[simp] theorem State.setLm_pfc (n : Nat) (l : Loom) : (s.setLm n l).pfc = s.pfc := rfl
@[simp] theorem State.setLm_held (n : Nat) (l : Loom) : (s.setLm n l).held = s.held := rfl
@[simp] theorem State.setLm_posts (n : Nat) (l : Loom) : (s.setLm n l).posts = s.posts := rfl
@[simp] theorem State.setLm_waiting (n : Nat) (l : Loom) : (s.setLm n l).waiting = s.waiting := rfl
@[simp] theorem State.setLm_stalled (n : Nat) (l : Loom) : (s.setLm n l).stalled = s.stalled := rfl
@[simp] theorem State.setLm_plat (n : Nat) (l : Loom) : (s.setLm n l).plat = s.plat := rfl
@[simp] theorem State.setLm_coreExc (n : Nat) (l : Loom) : (s.setLm n l).coreExc = s.coreExc := rfl
@[simp] theorem State.setLm_resp (n : Nat) (l : Loom) : (s.setLm n l).resp = s.resp := rfl
@[simp] theorem State.setLm_freeCount (n : Nat) (l : Loom) : (s.setLm n l).freeCount = s.freeCount := rfl
@[simp] theorem State.setLm_pending (n : Nat) (l : Loom) : (s.setLm n l).pending = s.pending := rfl
@[simp] theorem State.setLm_get (n : Nat) (l : Loom) (g : Fld) : (s.setLm n l).get g = s.get g := rfl
@[simp] theorem State.setLm_is (n : Nat) (l : Loom) (g : Fld) : (s.setLm n l).is g = s.is g := rfl

/-! ### modSeq -/

@[simp] theorem State.modSeq_flds (n : Nat) (f : Seq → Seq) : (s.modSeq n f).flds = s.flds := rfl
@[simp] theorem State.modSeq_mem (n : Nat) (f : Seq → Seq) : (s.modSeq n f).mem = s.mem := rfl
@[simp] theorem State.modSeq_poison (n : Nat) (f : Seq → Seq) : (s.modSeq n f).poison = s.poison := rfl
@[simp] theorem State.modSeq_ledger (n : Nat) (f : Seq → Seq) : (s.modSeq n f).ledger = s.ledger := rfl
@[simp] theorem State.modSeq_voltTo (n : Nat) (f : Seq → Seq) : (s.modSeq n f).voltTo = s.voltTo := rfl
@[simp] theorem State.modSeq_cache (n : Nat) (f : Seq → Seq) : (s.modSeq n f).cache = s.cache := rfl
@[simp] theorem State.modSeq_keys (n : Nat) (f : Seq → Seq) : (s.modSeq n f).keys = s.keys := rfl
@[simp] theorem State.modSeq_errs (n : Nat) (f : Seq → Seq) : (s.modSeq n f).errs = s.errs := rfl
@[simp] theorem State.modSeq_errDropped (n : Nat) (f : Seq → Seq) : (s.modSeq n f).errDropped = s.errDropped := rfl
@[simp] theorem State.modSeq_card (n : Nat) (f : Seq → Seq) : (s.modSeq n f).card = s.card := rfl
@[simp] theorem State.modSeq_fab (n : Nat) (f : Seq → Seq) : (s.modSeq n f).fab = s.fab := rfl
@[simp] theorem State.modSeq_tiers (n : Nat) (f : Seq → Seq) : (s.modSeq n f).tiers = s.tiers := rfl
@[simp] theorem State.modSeq_svc (n : Nat) (f : Seq → Seq) : (s.modSeq n f).svc = s.svc := rfl
@[simp] theorem State.modSeq_crd (n : Nat) (f : Seq → Seq) : (s.modSeq n f).crd = s.crd := rfl
@[simp] theorem State.modSeq_mgmt (n : Nat) (f : Seq → Seq) : (s.modSeq n f).mgmt = s.mgmt := rfl
@[simp] theorem State.modSeq_power (n : Nat) (f : Seq → Seq) : (s.modSeq n f).power = s.power := rfl
@[simp] theorem State.modSeq_tap (n : Nat) (f : Seq → Seq) : (s.modSeq n f).tap = s.tap := rfl
@[simp] theorem State.modSeq_pfc (n : Nat) (f : Seq → Seq) : (s.modSeq n f).pfc = s.pfc := rfl
@[simp] theorem State.modSeq_held (n : Nat) (f : Seq → Seq) : (s.modSeq n f).held = s.held := rfl
@[simp] theorem State.modSeq_posts (n : Nat) (f : Seq → Seq) : (s.modSeq n f).posts = s.posts := rfl
@[simp] theorem State.modSeq_waiting (n : Nat) (f : Seq → Seq) : (s.modSeq n f).waiting = s.waiting := rfl
@[simp] theorem State.modSeq_stalled (n : Nat) (f : Seq → Seq) : (s.modSeq n f).stalled = s.stalled := rfl
@[simp] theorem State.modSeq_plat (n : Nat) (f : Seq → Seq) : (s.modSeq n f).plat = s.plat := rfl
@[simp] theorem State.modSeq_coreExc (n : Nat) (f : Seq → Seq) : (s.modSeq n f).coreExc = s.coreExc := rfl
@[simp] theorem State.modSeq_resp (n : Nat) (f : Seq → Seq) : (s.modSeq n f).resp = s.resp := rfl
@[simp] theorem State.modSeq_freeCount (n : Nat) (f : Seq → Seq) : (s.modSeq n f).freeCount = s.freeCount := rfl
@[simp] theorem State.modSeq_pending (n : Nat) (f : Seq → Seq) : (s.modSeq n f).pending = s.pending := rfl
@[simp] theorem State.modSeq_get (n : Nat) (f : Seq → Seq) (g : Fld) : (s.modSeq n f).get g = s.get g := rfl
@[simp] theorem State.modSeq_is (n : Nat) (f : Seq → Seq) (g : Fld) : (s.modSeq n f).is g = s.is g := rfl

/-! ### modArr -/

@[simp] theorem State.modArr_flds (n : Nat) (f : Arr → Arr) : (s.modArr n f).flds = s.flds := rfl
@[simp] theorem State.modArr_mem (n : Nat) (f : Arr → Arr) : (s.modArr n f).mem = s.mem := rfl
@[simp] theorem State.modArr_poison (n : Nat) (f : Arr → Arr) : (s.modArr n f).poison = s.poison := rfl
@[simp] theorem State.modArr_ledger (n : Nat) (f : Arr → Arr) : (s.modArr n f).ledger = s.ledger := rfl
@[simp] theorem State.modArr_voltTo (n : Nat) (f : Arr → Arr) : (s.modArr n f).voltTo = s.voltTo := rfl
@[simp] theorem State.modArr_cache (n : Nat) (f : Arr → Arr) : (s.modArr n f).cache = s.cache := rfl
@[simp] theorem State.modArr_keys (n : Nat) (f : Arr → Arr) : (s.modArr n f).keys = s.keys := rfl
@[simp] theorem State.modArr_errs (n : Nat) (f : Arr → Arr) : (s.modArr n f).errs = s.errs := rfl
@[simp] theorem State.modArr_errDropped (n : Nat) (f : Arr → Arr) : (s.modArr n f).errDropped = s.errDropped := rfl
@[simp] theorem State.modArr_card (n : Nat) (f : Arr → Arr) : (s.modArr n f).card = s.card := rfl
@[simp] theorem State.modArr_fab (n : Nat) (f : Arr → Arr) : (s.modArr n f).fab = s.fab := rfl
@[simp] theorem State.modArr_tiers (n : Nat) (f : Arr → Arr) : (s.modArr n f).tiers = s.tiers := rfl
@[simp] theorem State.modArr_svc (n : Nat) (f : Arr → Arr) : (s.modArr n f).svc = s.svc := rfl
@[simp] theorem State.modArr_crd (n : Nat) (f : Arr → Arr) : (s.modArr n f).crd = s.crd := rfl
@[simp] theorem State.modArr_mgmt (n : Nat) (f : Arr → Arr) : (s.modArr n f).mgmt = s.mgmt := rfl
@[simp] theorem State.modArr_power (n : Nat) (f : Arr → Arr) : (s.modArr n f).power = s.power := rfl
@[simp] theorem State.modArr_tap (n : Nat) (f : Arr → Arr) : (s.modArr n f).tap = s.tap := rfl
@[simp] theorem State.modArr_pfc (n : Nat) (f : Arr → Arr) : (s.modArr n f).pfc = s.pfc := rfl
@[simp] theorem State.modArr_held (n : Nat) (f : Arr → Arr) : (s.modArr n f).held = s.held := rfl
@[simp] theorem State.modArr_posts (n : Nat) (f : Arr → Arr) : (s.modArr n f).posts = s.posts := rfl
@[simp] theorem State.modArr_waiting (n : Nat) (f : Arr → Arr) : (s.modArr n f).waiting = s.waiting := rfl
@[simp] theorem State.modArr_stalled (n : Nat) (f : Arr → Arr) : (s.modArr n f).stalled = s.stalled := rfl
@[simp] theorem State.modArr_plat (n : Nat) (f : Arr → Arr) : (s.modArr n f).plat = s.plat := rfl
@[simp] theorem State.modArr_coreExc (n : Nat) (f : Arr → Arr) : (s.modArr n f).coreExc = s.coreExc := rfl
@[simp] theorem State.modArr_resp (n : Nat) (f : Arr → Arr) : (s.modArr n f).resp = s.resp := rfl
@[simp] theorem State.modArr_freeCount (n : Nat) (f : Arr → Arr) : (s.modArr n f).freeCount = s.freeCount := rfl
@[simp] theorem State.modArr_pending (n : Nat) (f : Arr → Arr) : (s.modArr n f).pending = s.pending := rfl
@[simp] theorem State.modArr_get (n : Nat) (f : Arr → Arr) (g : Fld) : (s.modArr n f).get g = s.get g := rfl
@[simp] theorem State.modArr_is (n : Nat) (f : Arr → Arr) (g : Fld) : (s.modArr n f).is g = s.is g := rfl

/-! ### modDma -/

@[simp] theorem State.modDma_flds (n : Nat) (f : Dma → Dma) : (s.modDma n f).flds = s.flds := rfl
@[simp] theorem State.modDma_mem (n : Nat) (f : Dma → Dma) : (s.modDma n f).mem = s.mem := rfl
@[simp] theorem State.modDma_poison (n : Nat) (f : Dma → Dma) : (s.modDma n f).poison = s.poison := rfl
@[simp] theorem State.modDma_ledger (n : Nat) (f : Dma → Dma) : (s.modDma n f).ledger = s.ledger := rfl
@[simp] theorem State.modDma_voltTo (n : Nat) (f : Dma → Dma) : (s.modDma n f).voltTo = s.voltTo := rfl
@[simp] theorem State.modDma_cache (n : Nat) (f : Dma → Dma) : (s.modDma n f).cache = s.cache := rfl
@[simp] theorem State.modDma_keys (n : Nat) (f : Dma → Dma) : (s.modDma n f).keys = s.keys := rfl
@[simp] theorem State.modDma_errs (n : Nat) (f : Dma → Dma) : (s.modDma n f).errs = s.errs := rfl
@[simp] theorem State.modDma_errDropped (n : Nat) (f : Dma → Dma) : (s.modDma n f).errDropped = s.errDropped := rfl
@[simp] theorem State.modDma_card (n : Nat) (f : Dma → Dma) : (s.modDma n f).card = s.card := rfl
@[simp] theorem State.modDma_fab (n : Nat) (f : Dma → Dma) : (s.modDma n f).fab = s.fab := rfl
@[simp] theorem State.modDma_tiers (n : Nat) (f : Dma → Dma) : (s.modDma n f).tiers = s.tiers := rfl
@[simp] theorem State.modDma_svc (n : Nat) (f : Dma → Dma) : (s.modDma n f).svc = s.svc := rfl
@[simp] theorem State.modDma_crd (n : Nat) (f : Dma → Dma) : (s.modDma n f).crd = s.crd := rfl
@[simp] theorem State.modDma_mgmt (n : Nat) (f : Dma → Dma) : (s.modDma n f).mgmt = s.mgmt := rfl
@[simp] theorem State.modDma_power (n : Nat) (f : Dma → Dma) : (s.modDma n f).power = s.power := rfl
@[simp] theorem State.modDma_tap (n : Nat) (f : Dma → Dma) : (s.modDma n f).tap = s.tap := rfl
@[simp] theorem State.modDma_pfc (n : Nat) (f : Dma → Dma) : (s.modDma n f).pfc = s.pfc := rfl
@[simp] theorem State.modDma_held (n : Nat) (f : Dma → Dma) : (s.modDma n f).held = s.held := rfl
@[simp] theorem State.modDma_posts (n : Nat) (f : Dma → Dma) : (s.modDma n f).posts = s.posts := rfl
@[simp] theorem State.modDma_waiting (n : Nat) (f : Dma → Dma) : (s.modDma n f).waiting = s.waiting := rfl
@[simp] theorem State.modDma_stalled (n : Nat) (f : Dma → Dma) : (s.modDma n f).stalled = s.stalled := rfl
@[simp] theorem State.modDma_plat (n : Nat) (f : Dma → Dma) : (s.modDma n f).plat = s.plat := rfl
@[simp] theorem State.modDma_coreExc (n : Nat) (f : Dma → Dma) : (s.modDma n f).coreExc = s.coreExc := rfl
@[simp] theorem State.modDma_resp (n : Nat) (f : Dma → Dma) : (s.modDma n f).resp = s.resp := rfl
@[simp] theorem State.modDma_freeCount (n : Nat) (f : Dma → Dma) : (s.modDma n f).freeCount = s.freeCount := rfl
@[simp] theorem State.modDma_pending (n : Nat) (f : Dma → Dma) : (s.modDma n f).pending = s.pending := rfl
@[simp] theorem State.modDma_get (n : Nat) (f : Dma → Dma) (g : Fld) : (s.modDma n f).get g = s.get g := rfl
@[simp] theorem State.modDma_is (n : Nat) (f : Dma → Dma) (g : Fld) : (s.modDma n f).is g = s.is g := rfl

/-! ### modAtt -/

@[simp] theorem State.modAtt_flds (n : Nat) (f : Att → Att) : (s.modAtt n f).flds = s.flds := rfl
@[simp] theorem State.modAtt_mem (n : Nat) (f : Att → Att) : (s.modAtt n f).mem = s.mem := rfl
@[simp] theorem State.modAtt_poison (n : Nat) (f : Att → Att) : (s.modAtt n f).poison = s.poison := rfl
@[simp] theorem State.modAtt_ledger (n : Nat) (f : Att → Att) : (s.modAtt n f).ledger = s.ledger := rfl
@[simp] theorem State.modAtt_voltTo (n : Nat) (f : Att → Att) : (s.modAtt n f).voltTo = s.voltTo := rfl
@[simp] theorem State.modAtt_cache (n : Nat) (f : Att → Att) : (s.modAtt n f).cache = s.cache := rfl
@[simp] theorem State.modAtt_keys (n : Nat) (f : Att → Att) : (s.modAtt n f).keys = s.keys := rfl
@[simp] theorem State.modAtt_errs (n : Nat) (f : Att → Att) : (s.modAtt n f).errs = s.errs := rfl
@[simp] theorem State.modAtt_errDropped (n : Nat) (f : Att → Att) : (s.modAtt n f).errDropped = s.errDropped := rfl
@[simp] theorem State.modAtt_card (n : Nat) (f : Att → Att) : (s.modAtt n f).card = s.card := rfl
@[simp] theorem State.modAtt_fab (n : Nat) (f : Att → Att) : (s.modAtt n f).fab = s.fab := rfl
@[simp] theorem State.modAtt_tiers (n : Nat) (f : Att → Att) : (s.modAtt n f).tiers = s.tiers := rfl
@[simp] theorem State.modAtt_svc (n : Nat) (f : Att → Att) : (s.modAtt n f).svc = s.svc := rfl
@[simp] theorem State.modAtt_crd (n : Nat) (f : Att → Att) : (s.modAtt n f).crd = s.crd := rfl
@[simp] theorem State.modAtt_mgmt (n : Nat) (f : Att → Att) : (s.modAtt n f).mgmt = s.mgmt := rfl
@[simp] theorem State.modAtt_power (n : Nat) (f : Att → Att) : (s.modAtt n f).power = s.power := rfl
@[simp] theorem State.modAtt_tap (n : Nat) (f : Att → Att) : (s.modAtt n f).tap = s.tap := rfl
@[simp] theorem State.modAtt_pfc (n : Nat) (f : Att → Att) : (s.modAtt n f).pfc = s.pfc := rfl
@[simp] theorem State.modAtt_held (n : Nat) (f : Att → Att) : (s.modAtt n f).held = s.held := rfl
@[simp] theorem State.modAtt_posts (n : Nat) (f : Att → Att) : (s.modAtt n f).posts = s.posts := rfl
@[simp] theorem State.modAtt_waiting (n : Nat) (f : Att → Att) : (s.modAtt n f).waiting = s.waiting := rfl
@[simp] theorem State.modAtt_stalled (n : Nat) (f : Att → Att) : (s.modAtt n f).stalled = s.stalled := rfl
@[simp] theorem State.modAtt_plat (n : Nat) (f : Att → Att) : (s.modAtt n f).plat = s.plat := rfl
@[simp] theorem State.modAtt_coreExc (n : Nat) (f : Att → Att) : (s.modAtt n f).coreExc = s.coreExc := rfl
@[simp] theorem State.modAtt_resp (n : Nat) (f : Att → Att) : (s.modAtt n f).resp = s.resp := rfl
@[simp] theorem State.modAtt_freeCount (n : Nat) (f : Att → Att) : (s.modAtt n f).freeCount = s.freeCount := rfl
@[simp] theorem State.modAtt_pending (n : Nat) (f : Att → Att) : (s.modAtt n f).pending = s.pending := rfl
@[simp] theorem State.modAtt_get (n : Nat) (f : Att → Att) (g : Fld) : (s.modAtt n f).get g = s.get g := rfl
@[simp] theorem State.modAtt_is (n : Nat) (f : Att → Att) (g : Fld) : (s.modAtt n f).is g = s.is g := rfl

/-! ### modGrd -/

@[simp] theorem State.modGrd_flds (n : Nat) (f : Grd → Grd) : (s.modGrd n f).flds = s.flds := rfl
@[simp] theorem State.modGrd_mem (n : Nat) (f : Grd → Grd) : (s.modGrd n f).mem = s.mem := rfl
@[simp] theorem State.modGrd_poison (n : Nat) (f : Grd → Grd) : (s.modGrd n f).poison = s.poison := rfl
@[simp] theorem State.modGrd_ledger (n : Nat) (f : Grd → Grd) : (s.modGrd n f).ledger = s.ledger := rfl
@[simp] theorem State.modGrd_voltTo (n : Nat) (f : Grd → Grd) : (s.modGrd n f).voltTo = s.voltTo := rfl
@[simp] theorem State.modGrd_cache (n : Nat) (f : Grd → Grd) : (s.modGrd n f).cache = s.cache := rfl
@[simp] theorem State.modGrd_keys (n : Nat) (f : Grd → Grd) : (s.modGrd n f).keys = s.keys := rfl
@[simp] theorem State.modGrd_errs (n : Nat) (f : Grd → Grd) : (s.modGrd n f).errs = s.errs := rfl
@[simp] theorem State.modGrd_errDropped (n : Nat) (f : Grd → Grd) : (s.modGrd n f).errDropped = s.errDropped := rfl
@[simp] theorem State.modGrd_card (n : Nat) (f : Grd → Grd) : (s.modGrd n f).card = s.card := rfl
@[simp] theorem State.modGrd_fab (n : Nat) (f : Grd → Grd) : (s.modGrd n f).fab = s.fab := rfl
@[simp] theorem State.modGrd_tiers (n : Nat) (f : Grd → Grd) : (s.modGrd n f).tiers = s.tiers := rfl
@[simp] theorem State.modGrd_svc (n : Nat) (f : Grd → Grd) : (s.modGrd n f).svc = s.svc := rfl
@[simp] theorem State.modGrd_crd (n : Nat) (f : Grd → Grd) : (s.modGrd n f).crd = s.crd := rfl
@[simp] theorem State.modGrd_mgmt (n : Nat) (f : Grd → Grd) : (s.modGrd n f).mgmt = s.mgmt := rfl
@[simp] theorem State.modGrd_power (n : Nat) (f : Grd → Grd) : (s.modGrd n f).power = s.power := rfl
@[simp] theorem State.modGrd_tap (n : Nat) (f : Grd → Grd) : (s.modGrd n f).tap = s.tap := rfl
@[simp] theorem State.modGrd_pfc (n : Nat) (f : Grd → Grd) : (s.modGrd n f).pfc = s.pfc := rfl
@[simp] theorem State.modGrd_held (n : Nat) (f : Grd → Grd) : (s.modGrd n f).held = s.held := rfl
@[simp] theorem State.modGrd_posts (n : Nat) (f : Grd → Grd) : (s.modGrd n f).posts = s.posts := rfl
@[simp] theorem State.modGrd_waiting (n : Nat) (f : Grd → Grd) : (s.modGrd n f).waiting = s.waiting := rfl
@[simp] theorem State.modGrd_stalled (n : Nat) (f : Grd → Grd) : (s.modGrd n f).stalled = s.stalled := rfl
@[simp] theorem State.modGrd_plat (n : Nat) (f : Grd → Grd) : (s.modGrd n f).plat = s.plat := rfl
@[simp] theorem State.modGrd_coreExc (n : Nat) (f : Grd → Grd) : (s.modGrd n f).coreExc = s.coreExc := rfl
@[simp] theorem State.modGrd_resp (n : Nat) (f : Grd → Grd) : (s.modGrd n f).resp = s.resp := rfl
@[simp] theorem State.modGrd_freeCount (n : Nat) (f : Grd → Grd) : (s.modGrd n f).freeCount = s.freeCount := rfl
@[simp] theorem State.modGrd_pending (n : Nat) (f : Grd → Grd) : (s.modGrd n f).pending = s.pending := rfl
@[simp] theorem State.modGrd_get (n : Nat) (f : Grd → Grd) (g : Fld) : (s.modGrd n f).get g = s.get g := rfl
@[simp] theorem State.modGrd_is (n : Nat) (f : Grd → Grd) (g : Fld) : (s.modGrd n f).is g = s.is g := rfl

/-! ### modBob -/

@[simp] theorem State.modBob_flds (n : Nat) (f : Bob → Bob) : (s.modBob n f).flds = s.flds := rfl
@[simp] theorem State.modBob_mem (n : Nat) (f : Bob → Bob) : (s.modBob n f).mem = s.mem := rfl
@[simp] theorem State.modBob_poison (n : Nat) (f : Bob → Bob) : (s.modBob n f).poison = s.poison := rfl
@[simp] theorem State.modBob_ledger (n : Nat) (f : Bob → Bob) : (s.modBob n f).ledger = s.ledger := rfl
@[simp] theorem State.modBob_voltTo (n : Nat) (f : Bob → Bob) : (s.modBob n f).voltTo = s.voltTo := rfl
@[simp] theorem State.modBob_cache (n : Nat) (f : Bob → Bob) : (s.modBob n f).cache = s.cache := rfl
@[simp] theorem State.modBob_keys (n : Nat) (f : Bob → Bob) : (s.modBob n f).keys = s.keys := rfl
@[simp] theorem State.modBob_errs (n : Nat) (f : Bob → Bob) : (s.modBob n f).errs = s.errs := rfl
@[simp] theorem State.modBob_errDropped (n : Nat) (f : Bob → Bob) : (s.modBob n f).errDropped = s.errDropped := rfl
@[simp] theorem State.modBob_card (n : Nat) (f : Bob → Bob) : (s.modBob n f).card = s.card := rfl
@[simp] theorem State.modBob_fab (n : Nat) (f : Bob → Bob) : (s.modBob n f).fab = s.fab := rfl
@[simp] theorem State.modBob_tiers (n : Nat) (f : Bob → Bob) : (s.modBob n f).tiers = s.tiers := rfl
@[simp] theorem State.modBob_svc (n : Nat) (f : Bob → Bob) : (s.modBob n f).svc = s.svc := rfl
@[simp] theorem State.modBob_crd (n : Nat) (f : Bob → Bob) : (s.modBob n f).crd = s.crd := rfl
@[simp] theorem State.modBob_mgmt (n : Nat) (f : Bob → Bob) : (s.modBob n f).mgmt = s.mgmt := rfl
@[simp] theorem State.modBob_power (n : Nat) (f : Bob → Bob) : (s.modBob n f).power = s.power := rfl
@[simp] theorem State.modBob_tap (n : Nat) (f : Bob → Bob) : (s.modBob n f).tap = s.tap := rfl
@[simp] theorem State.modBob_pfc (n : Nat) (f : Bob → Bob) : (s.modBob n f).pfc = s.pfc := rfl
@[simp] theorem State.modBob_held (n : Nat) (f : Bob → Bob) : (s.modBob n f).held = s.held := rfl
@[simp] theorem State.modBob_posts (n : Nat) (f : Bob → Bob) : (s.modBob n f).posts = s.posts := rfl
@[simp] theorem State.modBob_waiting (n : Nat) (f : Bob → Bob) : (s.modBob n f).waiting = s.waiting := rfl
@[simp] theorem State.modBob_stalled (n : Nat) (f : Bob → Bob) : (s.modBob n f).stalled = s.stalled := rfl
@[simp] theorem State.modBob_plat (n : Nat) (f : Bob → Bob) : (s.modBob n f).plat = s.plat := rfl
@[simp] theorem State.modBob_coreExc (n : Nat) (f : Bob → Bob) : (s.modBob n f).coreExc = s.coreExc := rfl
@[simp] theorem State.modBob_resp (n : Nat) (f : Bob → Bob) : (s.modBob n f).resp = s.resp := rfl
@[simp] theorem State.modBob_freeCount (n : Nat) (f : Bob → Bob) : (s.modBob n f).freeCount = s.freeCount := rfl
@[simp] theorem State.modBob_pending (n : Nat) (f : Bob → Bob) : (s.modBob n f).pending = s.pending := rfl
@[simp] theorem State.modBob_get (n : Nat) (f : Bob → Bob) (g : Fld) : (s.modBob n f).get g = s.get g := rfl
@[simp] theorem State.modBob_is (n : Nat) (f : Bob → Bob) (g : Fld) : (s.modBob n f).is g = s.is g := rfl

/-! ### modSht -/

@[simp] theorem State.modSht_flds (n : Nat) (f : Sht → Sht) : (s.modSht n f).flds = s.flds := rfl
@[simp] theorem State.modSht_mem (n : Nat) (f : Sht → Sht) : (s.modSht n f).mem = s.mem := rfl
@[simp] theorem State.modSht_poison (n : Nat) (f : Sht → Sht) : (s.modSht n f).poison = s.poison := rfl
@[simp] theorem State.modSht_ledger (n : Nat) (f : Sht → Sht) : (s.modSht n f).ledger = s.ledger := rfl
@[simp] theorem State.modSht_voltTo (n : Nat) (f : Sht → Sht) : (s.modSht n f).voltTo = s.voltTo := rfl
@[simp] theorem State.modSht_cache (n : Nat) (f : Sht → Sht) : (s.modSht n f).cache = s.cache := rfl
@[simp] theorem State.modSht_keys (n : Nat) (f : Sht → Sht) : (s.modSht n f).keys = s.keys := rfl
@[simp] theorem State.modSht_errs (n : Nat) (f : Sht → Sht) : (s.modSht n f).errs = s.errs := rfl
@[simp] theorem State.modSht_errDropped (n : Nat) (f : Sht → Sht) : (s.modSht n f).errDropped = s.errDropped := rfl
@[simp] theorem State.modSht_card (n : Nat) (f : Sht → Sht) : (s.modSht n f).card = s.card := rfl
@[simp] theorem State.modSht_fab (n : Nat) (f : Sht → Sht) : (s.modSht n f).fab = s.fab := rfl
@[simp] theorem State.modSht_tiers (n : Nat) (f : Sht → Sht) : (s.modSht n f).tiers = s.tiers := rfl
@[simp] theorem State.modSht_svc (n : Nat) (f : Sht → Sht) : (s.modSht n f).svc = s.svc := rfl
@[simp] theorem State.modSht_crd (n : Nat) (f : Sht → Sht) : (s.modSht n f).crd = s.crd := rfl
@[simp] theorem State.modSht_mgmt (n : Nat) (f : Sht → Sht) : (s.modSht n f).mgmt = s.mgmt := rfl
@[simp] theorem State.modSht_power (n : Nat) (f : Sht → Sht) : (s.modSht n f).power = s.power := rfl
@[simp] theorem State.modSht_tap (n : Nat) (f : Sht → Sht) : (s.modSht n f).tap = s.tap := rfl
@[simp] theorem State.modSht_pfc (n : Nat) (f : Sht → Sht) : (s.modSht n f).pfc = s.pfc := rfl
@[simp] theorem State.modSht_held (n : Nat) (f : Sht → Sht) : (s.modSht n f).held = s.held := rfl
@[simp] theorem State.modSht_posts (n : Nat) (f : Sht → Sht) : (s.modSht n f).posts = s.posts := rfl
@[simp] theorem State.modSht_waiting (n : Nat) (f : Sht → Sht) : (s.modSht n f).waiting = s.waiting := rfl
@[simp] theorem State.modSht_stalled (n : Nat) (f : Sht → Sht) : (s.modSht n f).stalled = s.stalled := rfl
@[simp] theorem State.modSht_plat (n : Nat) (f : Sht → Sht) : (s.modSht n f).plat = s.plat := rfl
@[simp] theorem State.modSht_coreExc (n : Nat) (f : Sht → Sht) : (s.modSht n f).coreExc = s.coreExc := rfl
@[simp] theorem State.modSht_resp (n : Nat) (f : Sht → Sht) : (s.modSht n f).resp = s.resp := rfl
@[simp] theorem State.modSht_freeCount (n : Nat) (f : Sht → Sht) : (s.modSht n f).freeCount = s.freeCount := rfl
@[simp] theorem State.modSht_pending (n : Nat) (f : Sht → Sht) : (s.modSht n f).pending = s.pending := rfl
@[simp] theorem State.modSht_get (n : Nat) (f : Sht → Sht) (g : Fld) : (s.modSht n f).get g = s.get g := rfl
@[simp] theorem State.modSht_is (n : Nat) (f : Sht → Sht) (g : Fld) : (s.modSht n f).is g = s.is g := rfl

/-! ### modPend -/

@[simp] theorem State.modPend_flds (n : Nat) (f : List Pend → List Pend) : (s.modPend n f).flds = s.flds := rfl
@[simp] theorem State.modPend_mem (n : Nat) (f : List Pend → List Pend) : (s.modPend n f).mem = s.mem := rfl
@[simp] theorem State.modPend_poison (n : Nat) (f : List Pend → List Pend) : (s.modPend n f).poison = s.poison := rfl
@[simp] theorem State.modPend_ledger (n : Nat) (f : List Pend → List Pend) : (s.modPend n f).ledger = s.ledger := rfl
@[simp] theorem State.modPend_voltTo (n : Nat) (f : List Pend → List Pend) : (s.modPend n f).voltTo = s.voltTo := rfl
@[simp] theorem State.modPend_cache (n : Nat) (f : List Pend → List Pend) : (s.modPend n f).cache = s.cache := rfl
@[simp] theorem State.modPend_keys (n : Nat) (f : List Pend → List Pend) : (s.modPend n f).keys = s.keys := rfl
@[simp] theorem State.modPend_errs (n : Nat) (f : List Pend → List Pend) : (s.modPend n f).errs = s.errs := rfl
@[simp] theorem State.modPend_errDropped (n : Nat) (f : List Pend → List Pend) : (s.modPend n f).errDropped = s.errDropped := rfl
@[simp] theorem State.modPend_card (n : Nat) (f : List Pend → List Pend) : (s.modPend n f).card = s.card := rfl
@[simp] theorem State.modPend_fab (n : Nat) (f : List Pend → List Pend) : (s.modPend n f).fab = s.fab := rfl
@[simp] theorem State.modPend_tiers (n : Nat) (f : List Pend → List Pend) : (s.modPend n f).tiers = s.tiers := rfl
@[simp] theorem State.modPend_svc (n : Nat) (f : List Pend → List Pend) : (s.modPend n f).svc = s.svc := rfl
@[simp] theorem State.modPend_crd (n : Nat) (f : List Pend → List Pend) : (s.modPend n f).crd = s.crd := rfl
@[simp] theorem State.modPend_mgmt (n : Nat) (f : List Pend → List Pend) : (s.modPend n f).mgmt = s.mgmt := rfl
@[simp] theorem State.modPend_power (n : Nat) (f : List Pend → List Pend) : (s.modPend n f).power = s.power := rfl
@[simp] theorem State.modPend_tap (n : Nat) (f : List Pend → List Pend) : (s.modPend n f).tap = s.tap := rfl
@[simp] theorem State.modPend_pfc (n : Nat) (f : List Pend → List Pend) : (s.modPend n f).pfc = s.pfc := rfl
@[simp] theorem State.modPend_held (n : Nat) (f : List Pend → List Pend) : (s.modPend n f).held = s.held := rfl
@[simp] theorem State.modPend_posts (n : Nat) (f : List Pend → List Pend) : (s.modPend n f).posts = s.posts := rfl
@[simp] theorem State.modPend_waiting (n : Nat) (f : List Pend → List Pend) : (s.modPend n f).waiting = s.waiting := rfl
@[simp] theorem State.modPend_stalled (n : Nat) (f : List Pend → List Pend) : (s.modPend n f).stalled = s.stalled := rfl
@[simp] theorem State.modPend_plat (n : Nat) (f : List Pend → List Pend) : (s.modPend n f).plat = s.plat := rfl
@[simp] theorem State.modPend_coreExc (n : Nat) (f : List Pend → List Pend) : (s.modPend n f).coreExc = s.coreExc := rfl
@[simp] theorem State.modPend_resp (n : Nat) (f : List Pend → List Pend) : (s.modPend n f).resp = s.resp := rfl
@[simp] theorem State.modPend_freeCount (n : Nat) (f : List Pend → List Pend) : (s.modPend n f).freeCount = s.freeCount := rfl
@[simp] theorem State.modPend_pending (n : Nat) (f : List Pend → List Pend) : (s.modPend n f).pending = s.pending := rfl
@[simp] theorem State.modPend_get (n : Nat) (f : List Pend → List Pend) (g : Fld) : (s.modPend n f).get g = s.get g := rfl
@[simp] theorem State.modPend_is (n : Nat) (f : List Pend → List Pend) (g : Fld) : (s.modPend n f).is g = s.is g := rfl

/-! ### modSpd -/

@[simp] theorem State.modSpd_flds (n : Nat) (f : Spd → Spd) : (s.modSpd n f).flds = s.flds := rfl
@[simp] theorem State.modSpd_mem (n : Nat) (f : Spd → Spd) : (s.modSpd n f).mem = s.mem := rfl
@[simp] theorem State.modSpd_poison (n : Nat) (f : Spd → Spd) : (s.modSpd n f).poison = s.poison := rfl
@[simp] theorem State.modSpd_ledger (n : Nat) (f : Spd → Spd) : (s.modSpd n f).ledger = s.ledger := rfl
@[simp] theorem State.modSpd_voltTo (n : Nat) (f : Spd → Spd) : (s.modSpd n f).voltTo = s.voltTo := rfl
@[simp] theorem State.modSpd_cache (n : Nat) (f : Spd → Spd) : (s.modSpd n f).cache = s.cache := rfl
@[simp] theorem State.modSpd_keys (n : Nat) (f : Spd → Spd) : (s.modSpd n f).keys = s.keys := rfl
@[simp] theorem State.modSpd_errs (n : Nat) (f : Spd → Spd) : (s.modSpd n f).errs = s.errs := rfl
@[simp] theorem State.modSpd_errDropped (n : Nat) (f : Spd → Spd) : (s.modSpd n f).errDropped = s.errDropped := rfl
@[simp] theorem State.modSpd_card (n : Nat) (f : Spd → Spd) : (s.modSpd n f).card = s.card := rfl
@[simp] theorem State.modSpd_fab (n : Nat) (f : Spd → Spd) : (s.modSpd n f).fab = s.fab := rfl
@[simp] theorem State.modSpd_tiers (n : Nat) (f : Spd → Spd) : (s.modSpd n f).tiers = s.tiers := rfl
@[simp] theorem State.modSpd_svc (n : Nat) (f : Spd → Spd) : (s.modSpd n f).svc = s.svc := rfl
@[simp] theorem State.modSpd_crd (n : Nat) (f : Spd → Spd) : (s.modSpd n f).crd = s.crd := rfl
@[simp] theorem State.modSpd_mgmt (n : Nat) (f : Spd → Spd) : (s.modSpd n f).mgmt = s.mgmt := rfl
@[simp] theorem State.modSpd_power (n : Nat) (f : Spd → Spd) : (s.modSpd n f).power = s.power := rfl
@[simp] theorem State.modSpd_tap (n : Nat) (f : Spd → Spd) : (s.modSpd n f).tap = s.tap := rfl
@[simp] theorem State.modSpd_pfc (n : Nat) (f : Spd → Spd) : (s.modSpd n f).pfc = s.pfc := rfl
@[simp] theorem State.modSpd_held (n : Nat) (f : Spd → Spd) : (s.modSpd n f).held = s.held := rfl
@[simp] theorem State.modSpd_posts (n : Nat) (f : Spd → Spd) : (s.modSpd n f).posts = s.posts := rfl
@[simp] theorem State.modSpd_waiting (n : Nat) (f : Spd → Spd) : (s.modSpd n f).waiting = s.waiting := rfl
@[simp] theorem State.modSpd_stalled (n : Nat) (f : Spd → Spd) : (s.modSpd n f).stalled = s.stalled := rfl
@[simp] theorem State.modSpd_plat (n : Nat) (f : Spd → Spd) : (s.modSpd n f).plat = s.plat := rfl
@[simp] theorem State.modSpd_coreExc (n : Nat) (f : Spd → Spd) : (s.modSpd n f).coreExc = s.coreExc := rfl
@[simp] theorem State.modSpd_resp (n : Nat) (f : Spd → Spd) : (s.modSpd n f).resp = s.resp := rfl
@[simp] theorem State.modSpd_freeCount (n : Nat) (f : Spd → Spd) : (s.modSpd n f).freeCount = s.freeCount := rfl
@[simp] theorem State.modSpd_pending (n : Nat) (f : Spd → Spd) : (s.modSpd n f).pending = s.pending := rfl
@[simp] theorem State.modSpd_get (n : Nat) (f : Spd → Spd) (g : Fld) : (s.modSpd n f).get g = s.get g := rfl
@[simp] theorem State.modSpd_is (n : Nat) (f : Spd → Spd) (g : Fld) : (s.modSpd n f).is g = s.is g := rfl

/-! ### takeFree -/

@[simp] theorem State.takeFree_flds : (s.takeFree).flds = s.flds := rfl
@[simp] theorem State.takeFree_mem : (s.takeFree).mem = s.mem := rfl
@[simp] theorem State.takeFree_poison : (s.takeFree).poison = s.poison := rfl
@[simp] theorem State.takeFree_looms : (s.takeFree).looms = s.looms := rfl
@[simp] theorem State.takeFree_ledger : (s.takeFree).ledger = s.ledger := rfl
@[simp] theorem State.takeFree_voltTo : (s.takeFree).voltTo = s.voltTo := rfl
@[simp] theorem State.takeFree_cache : (s.takeFree).cache = s.cache := rfl
@[simp] theorem State.takeFree_keys : (s.takeFree).keys = s.keys := rfl
@[simp] theorem State.takeFree_errs : (s.takeFree).errs = s.errs := rfl
@[simp] theorem State.takeFree_errDropped : (s.takeFree).errDropped = s.errDropped := rfl
@[simp] theorem State.takeFree_card : (s.takeFree).card = s.card := rfl
@[simp] theorem State.takeFree_fab : (s.takeFree).fab = s.fab := rfl
@[simp] theorem State.takeFree_tiers : (s.takeFree).tiers = s.tiers := rfl
@[simp] theorem State.takeFree_svc : (s.takeFree).svc = s.svc := rfl
@[simp] theorem State.takeFree_crd : (s.takeFree).crd = s.crd := rfl
@[simp] theorem State.takeFree_mgmt : (s.takeFree).mgmt = s.mgmt := rfl
@[simp] theorem State.takeFree_power : (s.takeFree).power = s.power := rfl
@[simp] theorem State.takeFree_tap : (s.takeFree).tap = s.tap := rfl
@[simp] theorem State.takeFree_pfc : (s.takeFree).pfc = s.pfc := rfl
@[simp] theorem State.takeFree_held : (s.takeFree).held = s.held := rfl
@[simp] theorem State.takeFree_posts : (s.takeFree).posts = s.posts := rfl
@[simp] theorem State.takeFree_waiting : (s.takeFree).waiting = s.waiting := rfl
@[simp] theorem State.takeFree_stalled : (s.takeFree).stalled = s.stalled := rfl
@[simp] theorem State.takeFree_plat : (s.takeFree).plat = s.plat := rfl
@[simp] theorem State.takeFree_coreExc : (s.takeFree).coreExc = s.coreExc := rfl
@[simp] theorem State.takeFree_resp : (s.takeFree).resp = s.resp := rfl
@[simp] theorem State.takeFree_pending : (s.takeFree).pending = s.pending := rfl
@[simp] theorem State.takeFree_get (g : Fld) : (s.takeFree).get g = s.get g := rfl
@[simp] theorem State.takeFree_is (g : Fld) : (s.takeFree).is g = s.is g := rfl
@[simp] theorem State.takeFree_lm (m : Nat) : (s.takeFree).lm m = s.lm m := rfl

/-! ### modTiers -/

@[simp] theorem State.modTiers_flds (f : Tiers → Tiers) : (s.modTiers f).flds = s.flds := rfl
@[simp] theorem State.modTiers_mem (f : Tiers → Tiers) : (s.modTiers f).mem = s.mem := rfl
@[simp] theorem State.modTiers_poison (f : Tiers → Tiers) : (s.modTiers f).poison = s.poison := rfl
@[simp] theorem State.modTiers_looms (f : Tiers → Tiers) : (s.modTiers f).looms = s.looms := rfl
@[simp] theorem State.modTiers_ledger (f : Tiers → Tiers) : (s.modTiers f).ledger = s.ledger := rfl
@[simp] theorem State.modTiers_voltTo (f : Tiers → Tiers) : (s.modTiers f).voltTo = s.voltTo := rfl
@[simp] theorem State.modTiers_cache (f : Tiers → Tiers) : (s.modTiers f).cache = s.cache := rfl
@[simp] theorem State.modTiers_keys (f : Tiers → Tiers) : (s.modTiers f).keys = s.keys := rfl
@[simp] theorem State.modTiers_errs (f : Tiers → Tiers) : (s.modTiers f).errs = s.errs := rfl
@[simp] theorem State.modTiers_errDropped (f : Tiers → Tiers) : (s.modTiers f).errDropped = s.errDropped := rfl
@[simp] theorem State.modTiers_card (f : Tiers → Tiers) : (s.modTiers f).card = s.card := rfl
@[simp] theorem State.modTiers_fab (f : Tiers → Tiers) : (s.modTiers f).fab = s.fab := rfl
@[simp] theorem State.modTiers_svc (f : Tiers → Tiers) : (s.modTiers f).svc = s.svc := rfl
@[simp] theorem State.modTiers_crd (f : Tiers → Tiers) : (s.modTiers f).crd = s.crd := rfl
@[simp] theorem State.modTiers_mgmt (f : Tiers → Tiers) : (s.modTiers f).mgmt = s.mgmt := rfl
@[simp] theorem State.modTiers_power (f : Tiers → Tiers) : (s.modTiers f).power = s.power := rfl
@[simp] theorem State.modTiers_tap (f : Tiers → Tiers) : (s.modTiers f).tap = s.tap := rfl
@[simp] theorem State.modTiers_pfc (f : Tiers → Tiers) : (s.modTiers f).pfc = s.pfc := rfl
@[simp] theorem State.modTiers_held (f : Tiers → Tiers) : (s.modTiers f).held = s.held := rfl
@[simp] theorem State.modTiers_posts (f : Tiers → Tiers) : (s.modTiers f).posts = s.posts := rfl
@[simp] theorem State.modTiers_waiting (f : Tiers → Tiers) : (s.modTiers f).waiting = s.waiting := rfl
@[simp] theorem State.modTiers_stalled (f : Tiers → Tiers) : (s.modTiers f).stalled = s.stalled := rfl
@[simp] theorem State.modTiers_plat (f : Tiers → Tiers) : (s.modTiers f).plat = s.plat := rfl
@[simp] theorem State.modTiers_coreExc (f : Tiers → Tiers) : (s.modTiers f).coreExc = s.coreExc := rfl
@[simp] theorem State.modTiers_resp (f : Tiers → Tiers) : (s.modTiers f).resp = s.resp := rfl
@[simp] theorem State.modTiers_freeCount (f : Tiers → Tiers) : (s.modTiers f).freeCount = s.freeCount := rfl
@[simp] theorem State.modTiers_pending (f : Tiers → Tiers) : (s.modTiers f).pending = s.pending := rfl
@[simp] theorem State.modTiers_get (f : Tiers → Tiers) (g : Fld) : (s.modTiers f).get g = s.get g := rfl
@[simp] theorem State.modTiers_is (f : Tiers → Tiers) (g : Fld) : (s.modTiers f).is g = s.is g := rfl
@[simp] theorem State.modTiers_lm (f : Tiers → Tiers) (m : Nat) : (s.modTiers f).lm m = s.lm m := rfl

/-! ### modFab -/

@[simp] theorem State.modFab_flds (f : Fab → Fab) : (s.modFab f).flds = s.flds := rfl
@[simp] theorem State.modFab_mem (f : Fab → Fab) : (s.modFab f).mem = s.mem := rfl
@[simp] theorem State.modFab_poison (f : Fab → Fab) : (s.modFab f).poison = s.poison := rfl
@[simp] theorem State.modFab_looms (f : Fab → Fab) : (s.modFab f).looms = s.looms := rfl
@[simp] theorem State.modFab_ledger (f : Fab → Fab) : (s.modFab f).ledger = s.ledger := rfl
@[simp] theorem State.modFab_voltTo (f : Fab → Fab) : (s.modFab f).voltTo = s.voltTo := rfl
@[simp] theorem State.modFab_cache (f : Fab → Fab) : (s.modFab f).cache = s.cache := rfl
@[simp] theorem State.modFab_keys (f : Fab → Fab) : (s.modFab f).keys = s.keys := rfl
@[simp] theorem State.modFab_errs (f : Fab → Fab) : (s.modFab f).errs = s.errs := rfl
@[simp] theorem State.modFab_errDropped (f : Fab → Fab) : (s.modFab f).errDropped = s.errDropped := rfl
@[simp] theorem State.modFab_card (f : Fab → Fab) : (s.modFab f).card = s.card := rfl
@[simp] theorem State.modFab_tiers (f : Fab → Fab) : (s.modFab f).tiers = s.tiers := rfl
@[simp] theorem State.modFab_svc (f : Fab → Fab) : (s.modFab f).svc = s.svc := rfl
@[simp] theorem State.modFab_crd (f : Fab → Fab) : (s.modFab f).crd = s.crd := rfl
@[simp] theorem State.modFab_mgmt (f : Fab → Fab) : (s.modFab f).mgmt = s.mgmt := rfl
@[simp] theorem State.modFab_power (f : Fab → Fab) : (s.modFab f).power = s.power := rfl
@[simp] theorem State.modFab_tap (f : Fab → Fab) : (s.modFab f).tap = s.tap := rfl
@[simp] theorem State.modFab_pfc (f : Fab → Fab) : (s.modFab f).pfc = s.pfc := rfl
@[simp] theorem State.modFab_held (f : Fab → Fab) : (s.modFab f).held = s.held := rfl
@[simp] theorem State.modFab_posts (f : Fab → Fab) : (s.modFab f).posts = s.posts := rfl
@[simp] theorem State.modFab_waiting (f : Fab → Fab) : (s.modFab f).waiting = s.waiting := rfl
@[simp] theorem State.modFab_stalled (f : Fab → Fab) : (s.modFab f).stalled = s.stalled := rfl
@[simp] theorem State.modFab_plat (f : Fab → Fab) : (s.modFab f).plat = s.plat := rfl
@[simp] theorem State.modFab_coreExc (f : Fab → Fab) : (s.modFab f).coreExc = s.coreExc := rfl
@[simp] theorem State.modFab_resp (f : Fab → Fab) : (s.modFab f).resp = s.resp := rfl
@[simp] theorem State.modFab_freeCount (f : Fab → Fab) : (s.modFab f).freeCount = s.freeCount := rfl
@[simp] theorem State.modFab_pending (f : Fab → Fab) : (s.modFab f).pending = s.pending := rfl
@[simp] theorem State.modFab_get (f : Fab → Fab) (g : Fld) : (s.modFab f).get g = s.get g := rfl
@[simp] theorem State.modFab_is (f : Fab → Fab) (g : Fld) : (s.modFab f).is g = s.is g := rfl
@[simp] theorem State.modFab_lm (f : Fab → Fab) (m : Nat) : (s.modFab f).lm m = s.lm m := rfl

/-! ### modSvc -/

@[simp] theorem State.modSvc_flds (f : Svc → Svc) : (s.modSvc f).flds = s.flds := rfl
@[simp] theorem State.modSvc_mem (f : Svc → Svc) : (s.modSvc f).mem = s.mem := rfl
@[simp] theorem State.modSvc_poison (f : Svc → Svc) : (s.modSvc f).poison = s.poison := rfl
@[simp] theorem State.modSvc_looms (f : Svc → Svc) : (s.modSvc f).looms = s.looms := rfl
@[simp] theorem State.modSvc_ledger (f : Svc → Svc) : (s.modSvc f).ledger = s.ledger := rfl
@[simp] theorem State.modSvc_voltTo (f : Svc → Svc) : (s.modSvc f).voltTo = s.voltTo := rfl
@[simp] theorem State.modSvc_cache (f : Svc → Svc) : (s.modSvc f).cache = s.cache := rfl
@[simp] theorem State.modSvc_keys (f : Svc → Svc) : (s.modSvc f).keys = s.keys := rfl
@[simp] theorem State.modSvc_errs (f : Svc → Svc) : (s.modSvc f).errs = s.errs := rfl
@[simp] theorem State.modSvc_errDropped (f : Svc → Svc) : (s.modSvc f).errDropped = s.errDropped := rfl
@[simp] theorem State.modSvc_card (f : Svc → Svc) : (s.modSvc f).card = s.card := rfl
@[simp] theorem State.modSvc_fab (f : Svc → Svc) : (s.modSvc f).fab = s.fab := rfl
@[simp] theorem State.modSvc_tiers (f : Svc → Svc) : (s.modSvc f).tiers = s.tiers := rfl
@[simp] theorem State.modSvc_crd (f : Svc → Svc) : (s.modSvc f).crd = s.crd := rfl
@[simp] theorem State.modSvc_mgmt (f : Svc → Svc) : (s.modSvc f).mgmt = s.mgmt := rfl
@[simp] theorem State.modSvc_power (f : Svc → Svc) : (s.modSvc f).power = s.power := rfl
@[simp] theorem State.modSvc_tap (f : Svc → Svc) : (s.modSvc f).tap = s.tap := rfl
@[simp] theorem State.modSvc_pfc (f : Svc → Svc) : (s.modSvc f).pfc = s.pfc := rfl
@[simp] theorem State.modSvc_held (f : Svc → Svc) : (s.modSvc f).held = s.held := rfl
@[simp] theorem State.modSvc_posts (f : Svc → Svc) : (s.modSvc f).posts = s.posts := rfl
@[simp] theorem State.modSvc_waiting (f : Svc → Svc) : (s.modSvc f).waiting = s.waiting := rfl
@[simp] theorem State.modSvc_stalled (f : Svc → Svc) : (s.modSvc f).stalled = s.stalled := rfl
@[simp] theorem State.modSvc_plat (f : Svc → Svc) : (s.modSvc f).plat = s.plat := rfl
@[simp] theorem State.modSvc_coreExc (f : Svc → Svc) : (s.modSvc f).coreExc = s.coreExc := rfl
@[simp] theorem State.modSvc_resp (f : Svc → Svc) : (s.modSvc f).resp = s.resp := rfl
@[simp] theorem State.modSvc_freeCount (f : Svc → Svc) : (s.modSvc f).freeCount = s.freeCount := rfl
@[simp] theorem State.modSvc_pending (f : Svc → Svc) : (s.modSvc f).pending = s.pending := rfl
@[simp] theorem State.modSvc_get (f : Svc → Svc) (g : Fld) : (s.modSvc f).get g = s.get g := rfl
@[simp] theorem State.modSvc_is (f : Svc → Svc) (g : Fld) : (s.modSvc f).is g = s.is g := rfl
@[simp] theorem State.modSvc_lm (f : Svc → Svc) (m : Nat) : (s.modSvc f).lm m = s.lm m := rfl

/-! ### modMgmt -/

@[simp] theorem State.modMgmt_flds (f : Mgmt → Mgmt) : (s.modMgmt f).flds = s.flds := rfl
@[simp] theorem State.modMgmt_mem (f : Mgmt → Mgmt) : (s.modMgmt f).mem = s.mem := rfl
@[simp] theorem State.modMgmt_poison (f : Mgmt → Mgmt) : (s.modMgmt f).poison = s.poison := rfl
@[simp] theorem State.modMgmt_looms (f : Mgmt → Mgmt) : (s.modMgmt f).looms = s.looms := rfl
@[simp] theorem State.modMgmt_ledger (f : Mgmt → Mgmt) : (s.modMgmt f).ledger = s.ledger := rfl
@[simp] theorem State.modMgmt_voltTo (f : Mgmt → Mgmt) : (s.modMgmt f).voltTo = s.voltTo := rfl
@[simp] theorem State.modMgmt_cache (f : Mgmt → Mgmt) : (s.modMgmt f).cache = s.cache := rfl
@[simp] theorem State.modMgmt_keys (f : Mgmt → Mgmt) : (s.modMgmt f).keys = s.keys := rfl
@[simp] theorem State.modMgmt_errs (f : Mgmt → Mgmt) : (s.modMgmt f).errs = s.errs := rfl
@[simp] theorem State.modMgmt_errDropped (f : Mgmt → Mgmt) : (s.modMgmt f).errDropped = s.errDropped := rfl
@[simp] theorem State.modMgmt_card (f : Mgmt → Mgmt) : (s.modMgmt f).card = s.card := rfl
@[simp] theorem State.modMgmt_fab (f : Mgmt → Mgmt) : (s.modMgmt f).fab = s.fab := rfl
@[simp] theorem State.modMgmt_tiers (f : Mgmt → Mgmt) : (s.modMgmt f).tiers = s.tiers := rfl
@[simp] theorem State.modMgmt_svc (f : Mgmt → Mgmt) : (s.modMgmt f).svc = s.svc := rfl
@[simp] theorem State.modMgmt_crd (f : Mgmt → Mgmt) : (s.modMgmt f).crd = s.crd := rfl
@[simp] theorem State.modMgmt_power (f : Mgmt → Mgmt) : (s.modMgmt f).power = s.power := rfl
@[simp] theorem State.modMgmt_tap (f : Mgmt → Mgmt) : (s.modMgmt f).tap = s.tap := rfl
@[simp] theorem State.modMgmt_pfc (f : Mgmt → Mgmt) : (s.modMgmt f).pfc = s.pfc := rfl
@[simp] theorem State.modMgmt_held (f : Mgmt → Mgmt) : (s.modMgmt f).held = s.held := rfl
@[simp] theorem State.modMgmt_posts (f : Mgmt → Mgmt) : (s.modMgmt f).posts = s.posts := rfl
@[simp] theorem State.modMgmt_waiting (f : Mgmt → Mgmt) : (s.modMgmt f).waiting = s.waiting := rfl
@[simp] theorem State.modMgmt_stalled (f : Mgmt → Mgmt) : (s.modMgmt f).stalled = s.stalled := rfl
@[simp] theorem State.modMgmt_plat (f : Mgmt → Mgmt) : (s.modMgmt f).plat = s.plat := rfl
@[simp] theorem State.modMgmt_coreExc (f : Mgmt → Mgmt) : (s.modMgmt f).coreExc = s.coreExc := rfl
@[simp] theorem State.modMgmt_resp (f : Mgmt → Mgmt) : (s.modMgmt f).resp = s.resp := rfl
@[simp] theorem State.modMgmt_freeCount (f : Mgmt → Mgmt) : (s.modMgmt f).freeCount = s.freeCount := rfl
@[simp] theorem State.modMgmt_pending (f : Mgmt → Mgmt) : (s.modMgmt f).pending = s.pending := rfl
@[simp] theorem State.modMgmt_get (f : Mgmt → Mgmt) (g : Fld) : (s.modMgmt f).get g = s.get g := rfl
@[simp] theorem State.modMgmt_is (f : Mgmt → Mgmt) (g : Fld) : (s.modMgmt f).is g = s.is g := rfl
@[simp] theorem State.modMgmt_lm (f : Mgmt → Mgmt) (m : Nat) : (s.modMgmt f).lm m = s.lm m := rfl

/-! ### modPower -/

@[simp] theorem State.modPower_flds (f : Power → Power) : (s.modPower f).flds = s.flds := rfl
@[simp] theorem State.modPower_mem (f : Power → Power) : (s.modPower f).mem = s.mem := rfl
@[simp] theorem State.modPower_poison (f : Power → Power) : (s.modPower f).poison = s.poison := rfl
@[simp] theorem State.modPower_looms (f : Power → Power) : (s.modPower f).looms = s.looms := rfl
@[simp] theorem State.modPower_ledger (f : Power → Power) : (s.modPower f).ledger = s.ledger := rfl
@[simp] theorem State.modPower_voltTo (f : Power → Power) : (s.modPower f).voltTo = s.voltTo := rfl
@[simp] theorem State.modPower_cache (f : Power → Power) : (s.modPower f).cache = s.cache := rfl
@[simp] theorem State.modPower_keys (f : Power → Power) : (s.modPower f).keys = s.keys := rfl
@[simp] theorem State.modPower_errs (f : Power → Power) : (s.modPower f).errs = s.errs := rfl
@[simp] theorem State.modPower_errDropped (f : Power → Power) : (s.modPower f).errDropped = s.errDropped := rfl
@[simp] theorem State.modPower_card (f : Power → Power) : (s.modPower f).card = s.card := rfl
@[simp] theorem State.modPower_fab (f : Power → Power) : (s.modPower f).fab = s.fab := rfl
@[simp] theorem State.modPower_tiers (f : Power → Power) : (s.modPower f).tiers = s.tiers := rfl
@[simp] theorem State.modPower_svc (f : Power → Power) : (s.modPower f).svc = s.svc := rfl
@[simp] theorem State.modPower_crd (f : Power → Power) : (s.modPower f).crd = s.crd := rfl
@[simp] theorem State.modPower_mgmt (f : Power → Power) : (s.modPower f).mgmt = s.mgmt := rfl
@[simp] theorem State.modPower_tap (f : Power → Power) : (s.modPower f).tap = s.tap := rfl
@[simp] theorem State.modPower_pfc (f : Power → Power) : (s.modPower f).pfc = s.pfc := rfl
@[simp] theorem State.modPower_held (f : Power → Power) : (s.modPower f).held = s.held := rfl
@[simp] theorem State.modPower_posts (f : Power → Power) : (s.modPower f).posts = s.posts := rfl
@[simp] theorem State.modPower_waiting (f : Power → Power) : (s.modPower f).waiting = s.waiting := rfl
@[simp] theorem State.modPower_stalled (f : Power → Power) : (s.modPower f).stalled = s.stalled := rfl
@[simp] theorem State.modPower_plat (f : Power → Power) : (s.modPower f).plat = s.plat := rfl
@[simp] theorem State.modPower_coreExc (f : Power → Power) : (s.modPower f).coreExc = s.coreExc := rfl
@[simp] theorem State.modPower_resp (f : Power → Power) : (s.modPower f).resp = s.resp := rfl
@[simp] theorem State.modPower_freeCount (f : Power → Power) : (s.modPower f).freeCount = s.freeCount := rfl
@[simp] theorem State.modPower_pending (f : Power → Power) : (s.modPower f).pending = s.pending := rfl
@[simp] theorem State.modPower_get (f : Power → Power) (g : Fld) : (s.modPower f).get g = s.get g := rfl
@[simp] theorem State.modPower_is (f : Power → Power) (g : Fld) : (s.modPower f).is g = s.is g := rfl
@[simp] theorem State.modPower_lm (f : Power → Power) (m : Nat) : (s.modPower f).lm m = s.lm m := rfl

/-! ### modPlat -/

@[simp] theorem State.modPlat_flds (f : Plat → Plat) : (s.modPlat f).flds = s.flds := rfl
@[simp] theorem State.modPlat_mem (f : Plat → Plat) : (s.modPlat f).mem = s.mem := rfl
@[simp] theorem State.modPlat_poison (f : Plat → Plat) : (s.modPlat f).poison = s.poison := rfl
@[simp] theorem State.modPlat_looms (f : Plat → Plat) : (s.modPlat f).looms = s.looms := rfl
@[simp] theorem State.modPlat_ledger (f : Plat → Plat) : (s.modPlat f).ledger = s.ledger := rfl
@[simp] theorem State.modPlat_voltTo (f : Plat → Plat) : (s.modPlat f).voltTo = s.voltTo := rfl
@[simp] theorem State.modPlat_cache (f : Plat → Plat) : (s.modPlat f).cache = s.cache := rfl
@[simp] theorem State.modPlat_keys (f : Plat → Plat) : (s.modPlat f).keys = s.keys := rfl
@[simp] theorem State.modPlat_errs (f : Plat → Plat) : (s.modPlat f).errs = s.errs := rfl
@[simp] theorem State.modPlat_errDropped (f : Plat → Plat) : (s.modPlat f).errDropped = s.errDropped := rfl
@[simp] theorem State.modPlat_card (f : Plat → Plat) : (s.modPlat f).card = s.card := rfl
@[simp] theorem State.modPlat_fab (f : Plat → Plat) : (s.modPlat f).fab = s.fab := rfl
@[simp] theorem State.modPlat_tiers (f : Plat → Plat) : (s.modPlat f).tiers = s.tiers := rfl
@[simp] theorem State.modPlat_svc (f : Plat → Plat) : (s.modPlat f).svc = s.svc := rfl
@[simp] theorem State.modPlat_crd (f : Plat → Plat) : (s.modPlat f).crd = s.crd := rfl
@[simp] theorem State.modPlat_mgmt (f : Plat → Plat) : (s.modPlat f).mgmt = s.mgmt := rfl
@[simp] theorem State.modPlat_power (f : Plat → Plat) : (s.modPlat f).power = s.power := rfl
@[simp] theorem State.modPlat_tap (f : Plat → Plat) : (s.modPlat f).tap = s.tap := rfl
@[simp] theorem State.modPlat_pfc (f : Plat → Plat) : (s.modPlat f).pfc = s.pfc := rfl
@[simp] theorem State.modPlat_held (f : Plat → Plat) : (s.modPlat f).held = s.held := rfl
@[simp] theorem State.modPlat_posts (f : Plat → Plat) : (s.modPlat f).posts = s.posts := rfl
@[simp] theorem State.modPlat_waiting (f : Plat → Plat) : (s.modPlat f).waiting = s.waiting := rfl
@[simp] theorem State.modPlat_stalled (f : Plat → Plat) : (s.modPlat f).stalled = s.stalled := rfl
@[simp] theorem State.modPlat_coreExc (f : Plat → Plat) : (s.modPlat f).coreExc = s.coreExc := rfl
@[simp] theorem State.modPlat_resp (f : Plat → Plat) : (s.modPlat f).resp = s.resp := rfl
@[simp] theorem State.modPlat_freeCount (f : Plat → Plat) : (s.modPlat f).freeCount = s.freeCount := rfl
@[simp] theorem State.modPlat_pending (f : Plat → Plat) : (s.modPlat f).pending = s.pending := rfl
@[simp] theorem State.modPlat_get (f : Plat → Plat) (g : Fld) : (s.modPlat f).get g = s.get g := rfl
@[simp] theorem State.modPlat_is (f : Plat → Plat) (g : Fld) : (s.modPlat f).is g = s.is g := rfl
@[simp] theorem State.modPlat_lm (f : Plat → Plat) (m : Nat) : (s.modPlat f).lm m = s.lm m := rfl

/-! ### answer -/

@[simp] theorem State.answer_flds (st : Nat) (d : List Byte) (p : Bool) : (s.answer st d p).flds = s.flds := rfl
@[simp] theorem State.answer_mem (st : Nat) (d : List Byte) (p : Bool) : (s.answer st d p).mem = s.mem := rfl
@[simp] theorem State.answer_poison (st : Nat) (d : List Byte) (p : Bool) : (s.answer st d p).poison = s.poison := rfl
@[simp] theorem State.answer_looms (st : Nat) (d : List Byte) (p : Bool) : (s.answer st d p).looms = s.looms := rfl
@[simp] theorem State.answer_ledger (st : Nat) (d : List Byte) (p : Bool) : (s.answer st d p).ledger = s.ledger := rfl
@[simp] theorem State.answer_voltTo (st : Nat) (d : List Byte) (p : Bool) : (s.answer st d p).voltTo = s.voltTo := rfl
@[simp] theorem State.answer_cache (st : Nat) (d : List Byte) (p : Bool) : (s.answer st d p).cache = s.cache := rfl
@[simp] theorem State.answer_keys (st : Nat) (d : List Byte) (p : Bool) : (s.answer st d p).keys = s.keys := rfl
@[simp] theorem State.answer_errs (st : Nat) (d : List Byte) (p : Bool) : (s.answer st d p).errs = s.errs := rfl
@[simp] theorem State.answer_errDropped (st : Nat) (d : List Byte) (p : Bool) : (s.answer st d p).errDropped = s.errDropped := rfl
@[simp] theorem State.answer_card (st : Nat) (d : List Byte) (p : Bool) : (s.answer st d p).card = s.card := rfl
@[simp] theorem State.answer_fab (st : Nat) (d : List Byte) (p : Bool) : (s.answer st d p).fab = s.fab := rfl
@[simp] theorem State.answer_tiers (st : Nat) (d : List Byte) (p : Bool) : (s.answer st d p).tiers = s.tiers := rfl
@[simp] theorem State.answer_svc (st : Nat) (d : List Byte) (p : Bool) : (s.answer st d p).svc = s.svc := rfl
@[simp] theorem State.answer_crd (st : Nat) (d : List Byte) (p : Bool) : (s.answer st d p).crd = s.crd := rfl
@[simp] theorem State.answer_mgmt (st : Nat) (d : List Byte) (p : Bool) : (s.answer st d p).mgmt = s.mgmt := rfl
@[simp] theorem State.answer_power (st : Nat) (d : List Byte) (p : Bool) : (s.answer st d p).power = s.power := rfl
@[simp] theorem State.answer_tap (st : Nat) (d : List Byte) (p : Bool) : (s.answer st d p).tap = s.tap := rfl
@[simp] theorem State.answer_pfc (st : Nat) (d : List Byte) (p : Bool) : (s.answer st d p).pfc = s.pfc := rfl
@[simp] theorem State.answer_held (st : Nat) (d : List Byte) (p : Bool) : (s.answer st d p).held = s.held := rfl
@[simp] theorem State.answer_posts (st : Nat) (d : List Byte) (p : Bool) : (s.answer st d p).posts = s.posts := rfl
@[simp] theorem State.answer_waiting (st : Nat) (d : List Byte) (p : Bool) : (s.answer st d p).waiting = s.waiting := rfl
@[simp] theorem State.answer_stalled (st : Nat) (d : List Byte) (p : Bool) : (s.answer st d p).stalled = s.stalled := rfl
@[simp] theorem State.answer_plat (st : Nat) (d : List Byte) (p : Bool) : (s.answer st d p).plat = s.plat := rfl
@[simp] theorem State.answer_coreExc (st : Nat) (d : List Byte) (p : Bool) : (s.answer st d p).coreExc = s.coreExc := rfl
@[simp] theorem State.answer_freeCount (st : Nat) (d : List Byte) (p : Bool) : (s.answer st d p).freeCount = s.freeCount := rfl
@[simp] theorem State.answer_pending (st : Nat) (d : List Byte) (p : Bool) : (s.answer st d p).pending = s.pending := rfl
@[simp] theorem State.answer_get (st : Nat) (d : List Byte) (p : Bool) (g : Fld) : (s.answer st d p).get g = s.get g := rfl
@[simp] theorem State.answer_is (st : Nat) (d : List Byte) (p : Bool) (g : Fld) : (s.answer st d p).is g = s.is g := rfl
@[simp] theorem State.answer_lm (st : Nat) (d : List Byte) (p : Bool) (m : Nat) : (s.answer st d p).lm m = s.lm m := rfl

/-! ### memWrite -/

@[simp] theorem State.memWrite_flds (a : Nat) (l : List Byte) (p : Bool) : (s.memWrite a l p).flds = s.flds := rfl
@[simp] theorem State.memWrite_looms (a : Nat) (l : List Byte) (p : Bool) : (s.memWrite a l p).looms = s.looms := rfl
@[simp] theorem State.memWrite_ledger (a : Nat) (l : List Byte) (p : Bool) : (s.memWrite a l p).ledger = s.ledger := rfl
@[simp] theorem State.memWrite_voltTo (a : Nat) (l : List Byte) (p : Bool) : (s.memWrite a l p).voltTo = s.voltTo := rfl
@[simp] theorem State.memWrite_cache (a : Nat) (l : List Byte) (p : Bool) : (s.memWrite a l p).cache = s.cache := rfl
@[simp] theorem State.memWrite_keys (a : Nat) (l : List Byte) (p : Bool) : (s.memWrite a l p).keys = s.keys := rfl
@[simp] theorem State.memWrite_errs (a : Nat) (l : List Byte) (p : Bool) : (s.memWrite a l p).errs = s.errs := rfl
@[simp] theorem State.memWrite_errDropped (a : Nat) (l : List Byte) (p : Bool) : (s.memWrite a l p).errDropped = s.errDropped := rfl
@[simp] theorem State.memWrite_card (a : Nat) (l : List Byte) (p : Bool) : (s.memWrite a l p).card = s.card := rfl
@[simp] theorem State.memWrite_fab (a : Nat) (l : List Byte) (p : Bool) : (s.memWrite a l p).fab = s.fab := rfl
@[simp] theorem State.memWrite_tiers (a : Nat) (l : List Byte) (p : Bool) : (s.memWrite a l p).tiers = s.tiers := rfl
@[simp] theorem State.memWrite_svc (a : Nat) (l : List Byte) (p : Bool) : (s.memWrite a l p).svc = s.svc := rfl
@[simp] theorem State.memWrite_crd (a : Nat) (l : List Byte) (p : Bool) : (s.memWrite a l p).crd = s.crd := rfl
@[simp] theorem State.memWrite_mgmt (a : Nat) (l : List Byte) (p : Bool) : (s.memWrite a l p).mgmt = s.mgmt := rfl
@[simp] theorem State.memWrite_power (a : Nat) (l : List Byte) (p : Bool) : (s.memWrite a l p).power = s.power := rfl
@[simp] theorem State.memWrite_tap (a : Nat) (l : List Byte) (p : Bool) : (s.memWrite a l p).tap = s.tap := rfl
@[simp] theorem State.memWrite_pfc (a : Nat) (l : List Byte) (p : Bool) : (s.memWrite a l p).pfc = s.pfc := rfl
@[simp] theorem State.memWrite_held (a : Nat) (l : List Byte) (p : Bool) : (s.memWrite a l p).held = s.held := rfl
@[simp] theorem State.memWrite_posts (a : Nat) (l : List Byte) (p : Bool) : (s.memWrite a l p).posts = s.posts := rfl
@[simp] theorem State.memWrite_waiting (a : Nat) (l : List Byte) (p : Bool) : (s.memWrite a l p).waiting = s.waiting := rfl
@[simp] theorem State.memWrite_stalled (a : Nat) (l : List Byte) (p : Bool) : (s.memWrite a l p).stalled = s.stalled := rfl
@[simp] theorem State.memWrite_plat (a : Nat) (l : List Byte) (p : Bool) : (s.memWrite a l p).plat = s.plat := rfl
@[simp] theorem State.memWrite_coreExc (a : Nat) (l : List Byte) (p : Bool) : (s.memWrite a l p).coreExc = s.coreExc := rfl
@[simp] theorem State.memWrite_resp (a : Nat) (l : List Byte) (p : Bool) : (s.memWrite a l p).resp = s.resp := rfl
@[simp] theorem State.memWrite_freeCount (a : Nat) (l : List Byte) (p : Bool) : (s.memWrite a l p).freeCount = s.freeCount := rfl
@[simp] theorem State.memWrite_pending (a : Nat) (l : List Byte) (p : Bool) : (s.memWrite a l p).pending = s.pending := rfl
@[simp] theorem State.memWrite_get (a : Nat) (l : List Byte) (p : Bool) (g : Fld) : (s.memWrite a l p).get g = s.get g := rfl
@[simp] theorem State.memWrite_is (a : Nat) (l : List Byte) (p : Bool) (g : Fld) : (s.memWrite a l p).is g = s.is g := rfl
@[simp] theorem State.memWrite_lm (a : Nat) (l : List Byte) (p : Bool) (m : Nat) : (s.memWrite a l p).lm m = s.lm m := rfl

/-! ### Register fields -/

/-- A field's value fits its width. -/
theorem State.get_lt (f : Fld) : s.get f < 2 ^ f.width := Nat.mod_lt _ (Nat.two_pow_pos _)

/-- A field that was set holds the value cut to its width. -/
@[simp] theorem State.get_set_same (f : Fld) (v : Nat) : (s.set f v).get f = v % 2 ^ f.width := by
  simp [State.get, State.set]

/-- Setting a field leaves the fields at other places. -/
theorem State.get_set_ne {f g : Fld} (v : Nat) (h : g.key ≠ f.key) : (s.set f v).get g = s.get g := congrArg (· % 2 ^ g.width) (tget_tput_ne _ _ _ _ h)

/-- A field that was advanced holds the sum cut to its width. -/
@[simp] theorem State.get_add_same (f : Fld) (k : Nat) : (s.add f k).get f = (s.get f + k) % 2 ^ f.width := State.get_set_same _ _ _

/-- Advancing a field leaves the fields at other places. -/
theorem State.get_add_ne {f g : Fld} (k : Nat) (h : g.key ≠ f.key) : (s.add f k).get g = s.get g := State.get_set_ne _ _ h

/-- Clearing a field leaves the fields at other places. -/
theorem State.get_clear_ne {f g : Fld} (h : g.key ≠ f.key) : (s.clear f).get g = s.get g := State.get_set_ne _ _ h

/-! ### Looms -/

/-- The loom whose state was set holds it. -/
@[simp] theorem State.lm_setLm_same (n : Nat) (l : Loom) : (s.setLm n l).lm n = l := tget_tput_same _ _ _ _

/-- Setting one loom's state leaves the others. -/
theorem State.lm_setLm_ne {n m : Nat} (l : Loom) (h : m ≠ n) : (s.setLm n l).lm m = s.lm m := tget_tput_ne _ _ _ _ h

@[simp] theorem State.lm_modSeq_same (n : Nat) (f : Seq → Seq) : (s.modSeq n f).lm n = { s.lm n with seq := f (s.lm n).seq } :=
  State.lm_setLm_same _ _ _
theorem State.lm_modSeq_ne {n m : Nat} (f : Seq → Seq) (h : m ≠ n) : (s.modSeq n f).lm m = s.lm m := State.lm_setLm_ne _ _ h
@[simp] theorem State.lm_modArr_same (n : Nat) (f : Arr → Arr) : (s.modArr n f).lm n = { s.lm n with arr := f (s.lm n).arr } :=
  State.lm_setLm_same _ _ _
theorem State.lm_modArr_ne {n m : Nat} (f : Arr → Arr) (h : m ≠ n) : (s.modArr n f).lm m = s.lm m := State.lm_setLm_ne _ _ h
@[simp] theorem State.lm_modDma_same (n : Nat) (f : Dma → Dma) : (s.modDma n f).lm n = { s.lm n with dma := f (s.lm n).dma } :=
  State.lm_setLm_same _ _ _
theorem State.lm_modDma_ne {n m : Nat} (f : Dma → Dma) (h : m ≠ n) : (s.modDma n f).lm m = s.lm m := State.lm_setLm_ne _ _ h
@[simp] theorem State.lm_modAtt_same (n : Nat) (f : Att → Att) : (s.modAtt n f).lm n = { s.lm n with att := f (s.lm n).att } :=
  State.lm_setLm_same _ _ _
theorem State.lm_modAtt_ne {n m : Nat} (f : Att → Att) (h : m ≠ n) : (s.modAtt n f).lm m = s.lm m := State.lm_setLm_ne _ _ h
@[simp] theorem State.lm_modGrd_same (n : Nat) (f : Grd → Grd) : (s.modGrd n f).lm n = { s.lm n with grd := f (s.lm n).grd } :=
  State.lm_setLm_same _ _ _
theorem State.lm_modGrd_ne {n m : Nat} (f : Grd → Grd) (h : m ≠ n) : (s.modGrd n f).lm m = s.lm m := State.lm_setLm_ne _ _ h
@[simp] theorem State.lm_modBob_same (n : Nat) (f : Bob → Bob) : (s.modBob n f).lm n = { s.lm n with bob := f (s.lm n).bob } :=
  State.lm_setLm_same _ _ _
theorem State.lm_modBob_ne {n m : Nat} (f : Bob → Bob) (h : m ≠ n) : (s.modBob n f).lm m = s.lm m := State.lm_setLm_ne _ _ h
@[simp] theorem State.lm_modSht_same (n : Nat) (f : Sht → Sht) : (s.modSht n f).lm n = { s.lm n with sht := f (s.lm n).sht } :=
  State.lm_setLm_same _ _ _
theorem State.lm_modSht_ne {n m : Nat} (f : Sht → Sht) (h : m ≠ n) : (s.modSht n f).lm m = s.lm m := State.lm_setLm_ne _ _ h
@[simp] theorem State.lm_modPend_same (n : Nat) (f : List Pend → List Pend) : (s.modPend n f).lm n = { s.lm n with pend := f (s.lm n).pend } :=
  State.lm_setLm_same _ _ _
theorem State.lm_modPend_ne {n m : Nat} (f : List Pend → List Pend) (h : m ≠ n) : (s.modPend n f).lm m = s.lm m := State.lm_setLm_ne _ _ h
@[simp] theorem State.lm_modSpd_same (n : Nat) (f : Spd → Spd) : (s.modSpd n f).lm n = { s.lm n with spd := f (s.lm n).spd } :=
  State.lm_setLm_same _ _ _
theorem State.lm_modSpd_ne {n m : Nat} (f : Spd → Spd) (h : m ≠ n) : (s.modSpd n f).lm m = s.lm m := State.lm_setLm_ne _ _ h

end Sys2Proof.Machine
end

