-- ==== Sys2Proof/Laws/Memory.lean ====
section
/-! SUPPORT. Memory: what a write leaves to be read, and that every memory operation keeps the canonical form. -/
namespace Sys2Proof.Machine

/-! ### Bytes -/

/-- Inside the bytes stored the new byte is read, and outside the old one. -/
theorem tget_putBytes (l : List Byte) : ∀ (m : List Host.Cell) (a x : Nat),
    tget 0 (putBytes m a l) x = if a ≤ x ∧ x < a + l.length then l.getD (x - a) 0 else tget 0 m x := by
  induction l with
  | nil =>
    intro m a x
    have h : ¬ (a ≤ x ∧ x < a + ([] : List Byte).length) := by simp only [List.length_nil]; omega
    rw [putBytes, if_neg h]
  | cons b t ih =>
    intro m a x
    rw [putBytes, ih]
    by_cases hx : x = a
    · subst hx
      have h1 : ¬ (x + 1 ≤ x ∧ x < x + 1 + t.length) := by omega
      rw [if_neg h1, if_pos (by simp only [List.length_cons]; omega), tget_tput_same]
      simp
    · rw [tget_tput_ne _ _ _ _ hx]
      by_cases h : a + 1 ≤ x ∧ x < a + 1 + t.length
      · have h2 : a ≤ x ∧ x < a + (b :: t).length := by simp only [List.length_cons]; omega
        obtain ⟨k, hk⟩ : ∃ k, x - a = k + 1 := ⟨x - a - 1, by omega⟩
        have h3 : x - (a + 1) = k := by omega
        rw [if_pos h, if_pos h2, hk, h3, List.getD_cons_succ]
      · have h2 : ¬ (a ≤ x ∧ x < a + (b :: t).length) := by simp only [List.length_cons]; omega
        rw [if_neg h, if_neg h2]

theorem twf_putBytes (l : List Byte) : ∀ (m : List Host.Cell) (a : Nat), twf 0 m = true → twf 0 (putBytes m a l) = true := by
  induction l with
  | nil => intro m a h; exact h
  | cons b t ih => intro m a h; exact ih _ _ (twf_tput _ _ h)

theorem twf_markRange (m : List (Nat × Nat)) (a n : Nat) (p : Bool) (h : twf 0 m = true) : twf 0 (markRange m a n p) = true := by
  unfold markRange
  split
  · exact h
  · dsimp only
    generalize List.range _ = l
    induction l generalizing m with
    | nil => exact h
    | cons i t ih =>
      rw [List.foldl_cons]
      apply ih
      split
      · exact twf_tput _ _ h
      · split
        · exact twf_tput _ _ h
        · exact h

/-! ### Writes to memory -/

theorem State.byteAt_memWrite (s : State) (a : Nat) (l : List Byte) (p : Bool) (x : Nat) :
    (s.memWrite a l p).byteAt x = if a ≤ x ∧ x < a + l.length then l.getD (x - a) 0 else s.byteAt x := tget_putBytes l s.mem a x

theorem State.byteAt_memWrite_inside (s : State) (a : Nat) (l : List Byte) (p : Bool) (i : Nat) (h : i < l.length) :
    (s.memWrite a l p).byteAt (a + i) = l[i] := by
  rw [State.byteAt_memWrite, if_pos (by omega)]
  simp [h]

theorem State.byteAt_memWrite_outside (s : State) (a : Nat) (l : List Byte) (p : Bool) : SameOutside s (s.memWrite a l p) a l.length := by
  intro x hx
  rw [State.byteAt_memWrite, if_neg (by omega)]

theorem State.bytesAt_memWrite_same (s : State) (a : Nat) (l : List Byte) (p : Bool) : (s.memWrite a l p).bytesAt a l.length = l := by
  apply List.ext_getElem
  · simp [State.bytesAt]
  · intro i h1 h2
    simp only [State.bytesAt, List.getElem_map, List.getElem_range]
    exact s.byteAt_memWrite_inside a l p i h2

theorem State.memWrite_memWf (s : State) (a : Nat) (l : List Byte) (p : Bool) (h : s.memWf) : (s.memWrite a l p).memWf :=
  ⟨twf_putBytes l _ _ h.1, twf_markRange _ _ _ _ h.2⟩

/-! ### Writes to a scratchpad -/

theorem State.spWrite_memWf (s : State) (n a : Nat) (l : List Byte) (p : Bool) (h : s.memWf) : (s.spWrite n a l p).memWf :=
  s.memWrite_memWf _ _ _ h

theorem State.spWrite_outside (s : State) (n a : Nat) (l : List Byte) (p : Bool) :
    SameOutside s (s.spWrite n a l p) (lwin n + a) (min l.length (spadSize n - a)) := by
  have h := s.byteAt_memWrite_outside (lwin n + a) (l.take (spadSize n - a)) p
  rw [List.length_take, Nat.min_comm] at h
  exact h

/-- A scratchpad holds what was written to it. -/
theorem State.spRead_spWrite_same (s : State) (n a : Nat) (l : List Byte) (p : Bool) (h : a + l.length ≤ spadSize n) :
    (s.spWrite n a l p).spRead n a l.length = l := by
  have ht : l.take (spadSize n - a) = l := List.take_of_length_le (by omega)
  apply List.ext_getElem
  · simp [State.spRead]
  · intro i h1 h2
    simp only [State.spRead, List.getElem_map, List.getElem_range]
    rw [if_pos (by omega), State.spWrite, ht]
    exact s.byteAt_memWrite_inside _ l p i h2

@[simp] theorem State.spWrite_get (s : State) (n a : Nat) (l : List Byte) (p : Bool) (f : Fld) : (s.spWrite n a l p).get f = s.get f := rfl
@[simp] theorem State.spWrite_looms (s : State) (n a : Nat) (l : List Byte) (p : Bool) : (s.spWrite n a l p).looms = s.looms := rfl
@[simp] theorem State.spWrite_lm (s : State) (n a : Nat) (l : List Byte) (p : Bool) (m : Nat) : (s.spWrite n a l p).lm m = s.lm m := rfl

/-! ### The empty memory -/

/-- Memory is in canonical form after reset; the device's own copy of this is a statement about `State.reset`. -/
theorem twf_nil_cells : twf (0 : Byte) ([] : List Host.Cell) = true := rfl

end Sys2Proof.Machine
end

