-- ==== Sys2Proof/Laws/Ops.lean ====
section
/-! SUPPORT. What each shared operation of the machine can do, said once: its frame, and the values that it leaves. -/
namespace Sys2Proof.Machine

/-! ### Frames of register updates -/

theorem SameFields.refl (s : State) (fs : List Fld) : SameFields s s fs := fun _ _ => rfl

theorem SameFields.trans {s t u : State} {fs : List Fld} (h1 : SameFields s t fs) (h2 : SameFields t u fs) : SameFields s u fs :=
  fun f hf => (h2 f hf).trans (h1 f hf)

theorem SameFields.mono {s t : State} {fs gs : List Fld} (h : SameFields s t fs) (hs : fs ⊆ gs) : SameFields s t gs :=
  fun f hf => h f fun hm => hf (by obtain ⟨x, hx, he⟩ := List.mem_map.1 hm; exact List.mem_map.2 ⟨x, hs hx, he⟩)

theorem State.set_sameFields (s : State) (f : Fld) (v : Nat) (fs : List Fld) (h : f ∈ fs) : SameFields s (s.set f v) fs :=
  fun _ hg => State.get_set_ne s v fun he => hg (he ▸ List.mem_map_of_mem h)

/-- A register update changes its own field and nothing else. -/
theorem State.set_onlyFields (s : State) (f : Fld) (v : Nat) : OnlyFields s (s.set f v) [f] :=
  ⟨rfl, s.set_sameFields f v [f] (List.mem_singleton.2 rfl)⟩

theorem OnlyFields.refl (s : State) (fs : List Fld) : OnlyFields s s fs := ⟨rfl, SameFields.refl s fs⟩

theorem OnlyFields.trans {s t u : State} {fs : List Fld} (h1 : OnlyFields s t fs) (h2 : OnlyFields t u fs) : OnlyFields s u fs :=
  ⟨by
    have e1 := h1.1
    have e2 := h2.1
    rw [← e1, ← e2], h1.2.trans h2.2⟩

theorem OnlyFields.mono {s t : State} {fs gs : List Fld} (h : OnlyFields s t fs) (hs : fs ⊆ gs) : OnlyFields s t gs := ⟨h.1, h.2.mono hs⟩

/-- One more register update from the list. -/
theorem OnlyFields.set {s t : State} {fs : List Fld} (h : OnlyFields s t fs) (f : Fld) (v : Nat) (hf : f ∈ fs) :
    OnlyFields s (t.set f v) fs :=
  h.trans ⟨rfl, t.set_sameFields f v fs hf⟩

theorem OnlyFields.sameMemory {s t : State} {fs : List Fld} (h : OnlyFields s t fs) : SameMemory s t := by
  have e := h.1
  exact ⟨fun a => by rw [← e]; rfl, by rw [← e]⟩

theorem OnlyFields.looms {s t : State} {fs : List Fld} (h : OnlyFields s t fs) : t.looms = s.looms := by
  have e := h.1
  rw [← e]

/-! ### A loom's own state -/

/-- Changing one loom's own state leaves the other looms and every register field. -/
theorem State.setLm_onlyLoom (s : State) (n : Nat) (l : Loom) : OnlyLoom s (s.setLm n l) n [] :=
  ⟨rfl, fun _ h => State.lm_setLm_ne s l h, SameFields.refl _ _⟩

theorem OnlyLoom.trans {s t u : State} {n : Nat} {fs : List Fld} (h1 : OnlyLoom s t n fs) (h2 : OnlyLoom t u n fs) : OnlyLoom s u n fs :=
  ⟨by
    have e1 := h1.1
    have e2 := h2.1
    rw [← e1, ← e2], fun m hm => (h2.2.1 m hm).trans (h1.2.1 m hm), h1.2.2.trans h2.2.2⟩

theorem OnlyLoom.mono {s t : State} {n : Nat} {fs gs : List Fld} (h : OnlyLoom s t n fs) (hs : fs ⊆ gs) : OnlyLoom s t n gs :=
  ⟨h.1, h.2.1, h.2.2.mono hs⟩

theorem OnlyLoom.set {s t : State} {n : Nat} {fs : List Fld} (h : OnlyLoom s t n fs) (f : Fld) (v : Nat) (hf : f ∈ fs) :
    OnlyLoom s (t.set f v) n fs :=
  h.trans ⟨rfl, fun _ _ => rfl, t.set_sameFields f v fs hf⟩

theorem OnlyLoom.setLm {s t : State} {n : Nat} {fs : List Fld} (h : OnlyLoom s t n fs) (l : Loom) : OnlyLoom s (t.setLm n l) n fs :=
  h.trans ((t.setLm_onlyLoom n l).mono (List.nil_subset fs))

theorem OnlyLoom.sameMemory {s t : State} {n : Nat} {fs : List Fld} (h : OnlyLoom s t n fs) : SameMemory s t := by
  have e := h.1
  exact ⟨fun a => by rw [← e]; rfl, by rw [← e]⟩

/-- A change of registers alone is a change of a loom and registers. -/
theorem OnlyFields.onlyLoom {s t : State} {fs : List Fld} (h : OnlyFields s t fs) (n : Nat) : OnlyLoom s t n fs := by
  refine ⟨?_, fun m _ => ?_, h.2⟩
  · have e := h.1
    rw [← e]
  · rw [State.lm, State.lm, h.looms]

/-! ### Error records -/

/-- Reporting touches the waiting records and their counts alone. -/
theorem State.report_frame (s : State) (r : ErrRec) : { s.report r with errs := s.errs, errDropped := s.errDropped } = s := by
  unfold State.report
  split
  · rfl
  · split <;> rfl

@[simp] theorem State.report_mem (s : State) (r : ErrRec) : (s.report r).mem = s.mem := by unfold State.report; split <;> (try split) <;> rfl
@[simp] theorem State.report_poison (s : State) (r : ErrRec) : (s.report r).poison = s.poison := by unfold State.report; split <;> (try split) <;> rfl
@[simp] theorem State.report_flds (s : State) (r : ErrRec) : (s.report r).flds = s.flds := by unfold State.report; split <;> (try split) <;> rfl
@[simp] theorem State.report_looms (s : State) (r : ErrRec) : (s.report r).looms = s.looms := by unfold State.report; split <;> (try split) <;> rfl
@[simp] theorem State.report_ledger (s : State) (r : ErrRec) : (s.report r).ledger = s.ledger := by unfold State.report; split <;> (try split) <;> rfl
@[simp] theorem State.report_fab (s : State) (r : ErrRec) : (s.report r).fab = s.fab := by unfold State.report; split <;> (try split) <;> rfl
@[simp] theorem State.report_svc (s : State) (r : ErrRec) : (s.report r).svc = s.svc := by unfold State.report; split <;> (try split) <;> rfl
@[simp] theorem State.report_tiers (s : State) (r : ErrRec) : (s.report r).tiers = s.tiers := by unfold State.report; split <;> (try split) <;> rfl
@[simp] theorem State.report_mgmt (s : State) (r : ErrRec) : (s.report r).mgmt = s.mgmt := by unfold State.report; split <;> (try split) <;> rfl
@[simp] theorem State.report_power (s : State) (r : ErrRec) : (s.report r).power = s.power := by unfold State.report; split <;> (try split) <;> rfl
@[simp] theorem State.report_cache (s : State) (r : ErrRec) : (s.report r).cache = s.cache := by unfold State.report; split <;> (try split) <;> rfl
@[simp] theorem State.report_card (s : State) (r : ErrRec) : (s.report r).card = s.card := by unfold State.report; split <;> (try split) <;> rfl
@[simp] theorem State.report_crd (s : State) (r : ErrRec) : (s.report r).crd = s.crd := by unfold State.report; split <;> (try split) <;> rfl
@[simp] theorem State.report_held (s : State) (r : ErrRec) : (s.report r).held = s.held := by unfold State.report; split <;> (try split) <;> rfl
@[simp] theorem State.report_resp (s : State) (r : ErrRec) : (s.report r).resp = s.resp := by unfold State.report; split <;> (try split) <;> rfl
@[simp] theorem State.report_pending (s : State) (r : ErrRec) : (s.report r).pending = s.pending := by unfold State.report; split <;> (try split) <;> rfl
@[simp] theorem State.report_voltTo (s : State) (r : ErrRec) : (s.report r).voltTo = s.voltTo := by unfold State.report; split <;> (try split) <;> rfl

@[simp] theorem State.report_get (s : State) (r : ErrRec) (f : Fld) : (s.report r).get f = s.get f := by simp [State.get]
@[simp] theorem State.report_lm (s : State) (r : ErrRec) (n : Nat) : (s.report r).lm n = s.lm n := by simp [State.lm]
@[simp] theorem State.report_byteAt (s : State) (r : ErrRec) (a : Nat) : (s.report r).byteAt a = s.byteAt a := by simp [State.byteAt]

/-! ### The ledger -/

/-- Showing the ledger's state writes FREE and HEAD alone. -/
theorem State.ledgerShow_onlyFields (s : State) :
    OnlyFields s s.ledgerShow [LDG_STATUS_FREE, LDG_HEAD_VALID, LDG_HEAD_LOOM, LDG_HEAD_REQ] := by
  unfold State.ledgerShow
  dsimp only
  split <;> exact ((((OnlyFields.refl s _).set _ _ (by simp)).set _ _ (by simp)).set _ _ (by simp)).set _ _ (by simp)

/-- Taking credits counts them as held and outstanding, and changes nothing else but what shows it. -/
theorem State.takeCredits_onlyFields (s : State) (n k : Nat) : OnlyFields s (s.takeCredits n k)
    [LDG_CREDIT_HELD n, LDG_STATUS_OUTSTANDING, LDG_STATUS_FREE, LDG_HEAD_VALID, LDG_HEAD_LOOM, LDG_HEAD_REQ] := by
  unfold State.takeCredits
  exact (((OnlyFields.refl s _).set _ _ (by simp)).set _ _ (by simp)).trans ((State.ledgerShow_onlyFields _).mono (by simp))

/-- Returning credits changes what takeCredits changes. -/
theorem State.returnCredits_onlyFields (s : State) (n : Nat) : OnlyFields s (s.returnCredits n)
    [LDG_CREDIT_HELD n, LDG_STATUS_OUTSTANDING, LDG_STATUS_FREE, LDG_HEAD_VALID, LDG_HEAD_LOOM, LDG_HEAD_REQ] := by
  unfold State.returnCredits
  exact (((OnlyFields.refl s _).set _ _ (by simp)).set _ _ (by simp)).trans ((State.ledgerShow_onlyFields _).mono (by simp))

/-- Closing a tile returns its credits and leaves no tile open. -/
theorem State.closeTile_onlyLoom (s : State) (n : Nat) : OnlyLoom s (s.closeTile n) n
    [LDG_CREDIT_HELD n, LDG_STATUS_OUTSTANDING, LDG_STATUS_FREE, LDG_HEAD_VALID, LDG_HEAD_LOOM, LDG_HEAD_REQ] := by
  unfold State.closeTile State.modSeq
  exact ((s.returnCredits_onlyFields n).onlyLoom n).setLm _

@[simp] theorem State.closeTile_tile (s : State) (n : Nat) : ((s.closeTile n).lm n).seq.tile = none := by simp [State.closeTile]

/-- A stopped loom's settling changes its own state and the ledger's fields at most. -/
theorem State.settle_onlyLoom (s : State) (n : Nat) : OnlyLoom s (s.settle n) n
    [LDG_CREDIT_HELD n, LDG_STATUS_OUTSTANDING, LDG_STATUS_FREE, LDG_HEAD_VALID, LDG_HEAD_LOOM, LDG_HEAD_REQ] := by
  unfold State.settle
  split
  · exact s.closeTile_onlyLoom n
  · exact (OnlyFields.refl s _).onlyLoom n

/-- Settling leaves every field but the ledger's. -/
theorem State.settle_get (s : State) (n : Nat) {f : Fld}
    (h : f.key ∉ [LDG_CREDIT_HELD n, LDG_STATUS_OUTSTANDING, LDG_STATUS_FREE, LDG_HEAD_VALID, LDG_HEAD_LOOM, LDG_HEAD_REQ].map Fld.key) :
    (s.settle n).get f = s.get f := (s.settle_onlyLoom n).2.2 f h

/-- A loom that has not faulted has nothing to settle. -/
theorem State.settle_of_not_fault (s : State) (n : Nat) (h : s.is (LOOM_STATUS_FAULT n) = false) : s.settle n = s := by
  simp [State.settle, h]

/-! ### Issue, holds and faults of the sequencer -/

/-- A word's issue changes its own loom and LOOM_PC. -/
theorem State.advance_onlyLoom (s : State) (n : Nat) (w : DWord) : OnlyLoom s (s.advance n w) n [LOOM_PC_PC n] := by
  unfold State.advance State.spanUnit State.modGrd State.modSeq
  exact ((((OnlyFields.refl s _).onlyLoom n).setLm _).setLm _).set _ _ (by simp)

/-- The unit's mark for the open span leaves the sequencer. -/
@[simp] theorem State.spanUnit_seq (s : State) (n u : Nat) : ((s.spanUnit n u).lm n).seq = (s.lm n).seq := by simp [State.spanUnit]

@[simp] theorem State.advance_next (s : State) (n : Nat) (w : DWord) : ((s.advance n w).lm n).seq.next = (s.lm n).seq.next + 1 := by
  simp [State.advance]

@[simp] theorem State.advance_cycles (s : State) (n : Nat) (w : DWord) :
    ((s.advance n w).lm n).seq.cycles = (s.lm n).seq.cycles + w.delta := by
  simp [State.advance]

@[simp] theorem State.advance_pc (s : State) (n : Nat) (w : DWord) :
    (s.advance n w).get (LOOM_PC_PC n) = (s.lm n).seq.next % 2 ^ 16 := by
  simp [State.advance, LOOM_PC_PC]

/-- An issue of a word that the sequencer finds lawful is what the operation makes of it. -/
theorem State.issue_ok {s : State} {n unit op : Nat} {w : DWord} {k : DWord → State} (h : s.fetchWord n unit op = .ok w) :
    s.issue n unit op k = k w := by
  simp [State.issue, h]

/-- A hold shown changes its counters and LOOM_STATUS alone. -/
theorem State.showHold_onlyFields (s : State) (n c : Nat) (h : ∀ x l, (s.lm n).seq.holds = x :: l → x.cause = c) :
    OnlyFields s (s.showHold n)
      [LOOM_STATUS_HOLD n, LOOM_STATUS_HOLD_CAUSE n, LOOM_HOLD_CNT_EVENTS n c, LOOM_STEP_HOLD_EVENTS n c] := by
  unfold State.showHold
  split
  · exact (OnlyFields.refl s _).set _ _ (by simp)
  · rename_i x l hx
    rw [h x l hx]
    exact ((((OnlyFields.refl s _).set _ _ (by simp)).set _ _ (by simp)).set _ _ (by simp)).set _ _ (by simp)

/-- A Draft fault stops the sequencer and says where and why. -/
theorem State.draftFault_status (s : State) (n pc unit cause : Nat) :
    (s.draftFault n pc unit cause).get (LOOM_STATUS_FAULT n) = 1 ∧ (s.draftFault n pc unit cause).get (LOOM_STATUS_RUN n) = 0
      ∧ (s.draftFault n pc unit cause).get (LOOM_FAULT_CAUSE n) = cause % 2 ^ (LOOM_FAULT_CAUSE n).width
      ∧ (s.draftFault n pc unit cause).get (LOOM_FAULT_UNIT n) = unit % 2 ^ (LOOM_FAULT_UNIT n).width
      ∧ (s.draftFault n pc unit cause).get (LOOM_FAULT_PC n) = pc % 2 ^ (LOOM_FAULT_PC n).width := by
  have k1 : (LOOM_STATUS_RUN n).key ≠ (LOOM_STATUS_FAULT n).key := by simp only [LOOM_STATUS_RUN, LOOM_STATUS_FAULT]; omega
  have k2 : (LOOM_FAULT_CAUSE n).key ≠ (LOOM_STATUS_FAULT n).key := by simp only [LOOM_FAULT_CAUSE, LOOM_STATUS_FAULT]; omega
  have k3 : (LOOM_FAULT_CAUSE n).key ≠ (LOOM_STATUS_RUN n).key := by simp only [LOOM_FAULT_CAUSE, LOOM_STATUS_RUN]; omega
  have k4 : (LOOM_FAULT_UNIT n).key ≠ (LOOM_STATUS_FAULT n).key := by simp only [LOOM_FAULT_UNIT, LOOM_STATUS_FAULT]; omega
  have k5 : (LOOM_FAULT_UNIT n).key ≠ (LOOM_STATUS_RUN n).key := by simp only [LOOM_FAULT_UNIT, LOOM_STATUS_RUN]; omega
  have k6 : (LOOM_FAULT_UNIT n).key ≠ (LOOM_FAULT_CAUSE n).key := by simp only [LOOM_FAULT_UNIT, LOOM_FAULT_CAUSE]; omega
  have k7 : (LOOM_FAULT_PC n).key ≠ (LOOM_STATUS_FAULT n).key := by simp only [LOOM_FAULT_PC, LOOM_STATUS_FAULT]; omega
  have k8 : (LOOM_FAULT_PC n).key ≠ (LOOM_STATUS_RUN n).key := by simp only [LOOM_FAULT_PC, LOOM_STATUS_RUN]; omega
  have k9 : (LOOM_FAULT_PC n).key ≠ (LOOM_FAULT_CAUSE n).key := by simp only [LOOM_FAULT_PC, LOOM_FAULT_CAUSE]; omega
  have k10 : (LOOM_FAULT_PC n).key ≠ (LOOM_FAULT_UNIT n).key := by simp only [LOOM_FAULT_PC, LOOM_FAULT_UNIT]; omega
  unfold State.draftFault
  refine ⟨?_, ?_, ?_, ?_, ?_⟩
  · rw [State.settle_get _ _ (by simp [LOOM_STATUS_FAULT, LDG_CREDIT_HELD, LDG_STATUS_OUTSTANDING, LDG_STATUS_FREE, LDG_HEAD_VALID, LDG_HEAD_LOOM, LDG_HEAD_REQ]; omega), State.get_set_same]; rfl
  · rw [State.settle_get _ _ (by simp [LOOM_STATUS_RUN, LDG_CREDIT_HELD, LDG_STATUS_OUTSTANDING, LDG_STATUS_FREE, LDG_HEAD_VALID, LDG_HEAD_LOOM, LDG_HEAD_REQ]; omega), State.get_set_ne _ _ k1, State.get_set_same]; rfl
  · rw [State.settle_get _ _ (by simp [LOOM_FAULT_CAUSE, LDG_CREDIT_HELD, LDG_STATUS_OUTSTANDING, LDG_STATUS_FREE, LDG_HEAD_VALID, LDG_HEAD_LOOM, LDG_HEAD_REQ]; omega), State.get_set_ne _ _ k2, State.get_set_ne _ _ k3, State.get_set_same]
  · rw [State.settle_get _ _ (by simp [LOOM_FAULT_UNIT, LDG_CREDIT_HELD, LDG_STATUS_OUTSTANDING, LDG_STATUS_FREE, LDG_HEAD_VALID, LDG_HEAD_LOOM, LDG_HEAD_REQ]; omega), State.get_set_ne _ _ k4, State.get_set_ne _ _ k5, State.get_set_ne _ _ k6, State.get_set_same]
  · rw [State.settle_get _ _ (by simp [LOOM_FAULT_PC, LDG_CREDIT_HELD, LDG_STATUS_OUTSTANDING, LDG_STATUS_FREE, LDG_HEAD_VALID, LDG_HEAD_LOOM, LDG_HEAD_REQ]; omega), State.get_set_ne _ _ k7, State.get_set_ne _ _ k8, State.get_set_ne _ _ k9, State.get_set_ne _ _ k10, State.get_set_same]

/-! ### Domains -/

/-- A wake event touches the domain's state, or the list of wakes held, alone. -/
theorem State.wakeOne_frame (s : State) (d : Nat) :
    { s.wakeOne d with flds := s.flds, power := s.power } = s ∧ SameFields s (s.wakeOne d) [PWR_DOM_STATE d] := by
  unfold State.wakeOne
  split
  · exact ⟨rfl, s.set_sameFields _ _ _ (by simp)⟩
  · exact ⟨rfl, SameFields.refl _ _⟩
  · exact ⟨rfl, SameFields.refl _ _⟩

end Sys2Proof.Machine
end

