-- ==== Sys2Proof/Laws/Fabric.lean ====
section
/-! SUPPORT. What the fabric's shared operations can do: sending touches the fabric, and flit counters where a flit leaves. -/
namespace Sys2Proof.Machine

/-! ### Ports -/

@[simp] theorem State.port_modPort_same (s : State) (p : Nat) (f : PortSt → PortSt) : (s.modPort p f).port p = f (s.port p) :=
  tget_tput_same _ _ _ _

theorem State.port_modPort_ne (s : State) {p q : Nat} (f : PortSt → PortSt) (h : q ≠ p) : (s.modPort p f).port q = s.port q :=
  tget_tput_ne _ _ _ _ h

@[simp] theorem State.modPort_get (s : State) (p : Nat) (f : PortSt → PortSt) (g : Fld) : (s.modPort p f).get g = s.get g := rfl
@[simp] theorem State.set_port (s : State) (f : Fld) (v p : Nat) : (s.set f v).port p = s.port p := rfl
@[simp] theorem State.report_port (s : State) (r : ErrRec) (p : Nat) : (s.report r).port p = s.port p := by simp [State.port]

/-- Changing a port changes the fabric alone. -/
theorem State.modPort_frame (s : State) (p : Nat) (f : PortSt → PortSt) : { s.modPort p f with fab := s.fab } = s := rfl

/-! ### Sending -/

/-- A flit that leaves changes the fabric alone. -/
theorem State.wireOut_frame (s : State) (p ftype : Nat) (f : TxFlit) : { s.wireOut p ftype f with fab := s.fab } = s := rfl

/-- Flits that leave change the fabric alone. -/
theorem State.wireOuts_frame (p : Nat) (l : List TxFlit) : ∀ s : State, { l.foldl (fun s f => s.wireOut p 1 f) s with fab := s.fab } = s := by
  induction l with
  | nil => intro s; rfl
  | cons f l ih => intro s; exact congrArg (fun x : State => { x with fab := s.fab }) (ih (s.wireOut p 1 f))

/-- Sending flits changes the fabric and the port's flit counter. -/
theorem State.sendFlits_frame (s : State) (p : Nat) (l : List TxFlit) :
    { s.sendFlits p l with fab := s.fab, flds := s.flds } = s ∧ SameFields s (s.sendFlits p l) [FAB_P_CNT_TXFLIT_N p] := by
  have h := State.wireOuts_frame p l (s.modPort p fun t => { t with txSeq := (t.txSeq + l.length) % 4096, retry := t.retry ++ l })
  refine ⟨congrArg (fun x : State => { x with fab := s.fab, flds := s.flds }) h, fun f hf => ?_⟩
  refine (State.get_add_ne _ _ fun e => hf (by simp [e])).trans ?_
  have g := congrArg State.flds h
  exact congrArg (fun l => tget f.reset l f.key % 2 ^ f.width) g

/-- Sending a packet's flits changes the fabric and the port's flit counter. -/
theorem State.transmit_frame (s : State) (p vc : Nat) (k : Packet) :
    { s.transmit p vc k with fab := s.fab, flds := s.flds } = s ∧ SameFields s (s.transmit p vc k) [FAB_P_CNT_TXFLIT_N p] := by
  have h := State.sendFlits_frame (s.modPort p fun t => { t with credits := t.credits.set vc (t.credits.getD vc 0 - k.flits)
                                                                 cutLeft := tput 0 t.cutLeft vc (k.flits - k.flits) })
    p ((flitsOf ((s.modPort p fun t => { t with credits := t.credits.set vc (t.credits.getD vc 0 - k.flits)
                                                cutLeft := tput 0 t.cutLeft vc (k.flits - k.flits) }).port p).txSeq vc k).take k.flits)
  exact ⟨congrArg (fun x : State => { x with fab := s.fab, flds := s.flds }) h.1, h.2⟩

theorem State.pumpN_frame (p k : Nat) : ∀ s : State,
    { s.pumpN p k with fab := s.fab, flds := s.flds } = s ∧ SameFields s (s.pumpN p k) [FAB_P_CNT_TXFLIT_N p] := by
  induction k with
  | zero => intro s; exact ⟨rfl, SameFields.refl _ _⟩
  | succ k ih =>
    intro s
    unfold State.pumpN
    split
    · exact ⟨rfl, SameFields.refl _ _⟩
    · split
      · obtain ⟨h1, h2⟩ := ih ((s.transmit p 0 _).modPort p _)
        exact ⟨by
          have e := congrArg (fun x : State => { x with fab := s.fab, flds := s.flds }) h1
          exact e.trans (s.transmit_frame p 0 _).1, (s.transmit_frame p 0 _).2.trans h2⟩
      · exact ⟨rfl, SameFields.refl _ _⟩

/-- A message to a neighbour changes the fabric and the port's flit counter. -/
theorem State.linkMsg_frame (s : State) (p type : Nat) (body : List Byte) :
    { s.linkMsg p type body with fab := s.fab, flds := s.flds } = s ∧ SameFields s (s.linkMsg p type body) [FAB_P_CNT_TXFLIT_N p] := by
  obtain ⟨h1, h2⟩ := State.pumpN_frame p ((s.modPort p fun t => { t with txq := t.txq ++
    [{ s.msg (s.neighbour p) 0 type body with level := if s.get (FAB_P_STATE_LEVEL p) = 1 then 1 else 2 }] }).port p).txq.length
    (s.modPort p fun t => { t with txq := t.txq ++
    [{ s.msg (s.neighbour p) 0 type body with level := if s.get (FAB_P_STATE_LEVEL p) = 1 then 1 else 2 }] })
  exact ⟨congrArg (fun x : State => { x with fab := s.fab, flds := s.flds }) h1, h2⟩

/-- A packet of this device joins an endpoint or the router, and nothing else changes. -/
theorem State.send_frame (s : State) (k : Packet) : { s.send k with fab := s.fab } = s := rfl

theorem State.request_frame (s : State) (b : ReqBy) (k : Packet) : { s.request b k with fab := s.fab } = s := rfl

theorem State.takeIn_frame (s : State) (i : InPkt) : { s.takeIn i with fab := s.fab } = s := rfl

@[simp] theorem State.send_get (s : State) (k : Packet) (f : Fld) : (s.send k).get f = s.get f := rfl
@[simp] theorem State.send_lm (s : State) (k : Packet) (n : Nat) : (s.send k).lm n = s.lm n := rfl
@[simp] theorem State.request_get (s : State) (b : ReqBy) (k : Packet) (f : Fld) : (s.request b k).get f = s.get f := rfl
@[simp] theorem State.request_lm (s : State) (b : ReqBy) (k : Packet) (n : Nat) : (s.request b k).lm n = s.lm n := rfl
@[simp] theorem State.takeIn_get (s : State) (i : InPkt) (f : Fld) : (s.takeIn i).get f = s.get f := rfl
@[simp] theorem State.takeIn_lm (s : State) (i : InPkt) (n : Nat) : (s.takeIn i).lm n = s.lm n := rfl
@[simp] theorem State.takeIn_inbox (s : State) (i : InPkt) : (s.takeIn i).fab.inbox = s.fab.inbox.erase i := rfl

/-! ### Looms' FIFOs -/

/-- What is put into a loom's FIFO comes last, and nothing else of the device changes. -/
@[simp] theorem State.enqueue_fifo (s : State) (m : Nat) (i : Inbound) : ((s.enqueue m i).lm m).spd.fifo = (s.lm m).spd.fifo ++ [i] := by
  simp [State.enqueue]

theorem State.enqueue_onlyLoom (s : State) (m : Nat) (i : Inbound) : OnlyLoom s (s.enqueue m i) m [] := s.setLm_onlyLoom m _

@[simp] theorem State.popFifo_fifo (s : State) (n : Nat) : ((s.popFifo n).lm n).spd.fifo = (s.lm n).spd.fifo.drop 1 := by
  simp [State.popFifo]

theorem State.popFifo_onlyLoom (s : State) (n : Nat) : OnlyLoom s (s.popFifo n) n [] := s.setLm_onlyLoom n _

/-! ### Canonical memory -/

/-- What keeps the cells and the poison marks keeps their canonical form. -/
theorem State.memWf_of_eq {s t : State} (hm : t.mem = s.mem) (hp : t.poison = s.poison) (h : s.memWf) : t.memWf := by
  unfold State.memWf
  rw [hm, hp]
  exact h

/-! ### The step -/

/-- With a command in front a step is its effect. -/
theorem step_cons (s : State) (c : Instr) (rest : List Instr) (h : s.pending = c :: rest) :
    step s = exec c { s with pending := rest } := by
  simp [step, h]

end Sys2Proof.Machine
end

