-- ==== Sys2Proof/WellFormed.lean ====
section
/-! DEFINITION. Which commands are well formed: operands that fit the fields, ranges and messages the spec gives them. A command that
is not well formed names nothing that can happen on the device. -/
namespace Sys2Proof

/-- An access lies in the 50-bit local address space, carries a tenant ID of ten bits, and a write's length is that of its bytes. -/
def accessWf (a : Access) : Bool :=
  decide (a.addr + (if a.write then a.data.length else a.len) ≤ 2 ^ 50) && decide (a.tenant < 1024) && (!a.write || a.len == a.data.length)

/-- A scratchpad word is eight bytes, aligned. -/
def spadEvWf (e : SpadEv) : Bool := e.addr % 8 == 0

/-- The bytes that a port moves in a loom cycle (R251). -/
def portBytes (p : Fin 7) : Nat := [256, 256, 256, 256, 128, 64, 8].getD p.val 0

/-- An access of an engine is a run of bytes that its port moves in one cycle, aligned to its own size and in the port's direction
(R251). -/
def portAccessWf (a : PortAccess) : Bool :=
  decide (1 ≤ a.len) && decide (a.len ≤ portBytes a.port) && a.addr % a.len == 0 && decide (a.addr + a.len ≤ 0xC00000)
    && (!a.write || (a.port != 0 && a.port != 2 && a.port != 5)) && (a.data.isEmpty || (a.write && a.data.length == a.len))

/-- The memory events of an operation. -/
def cycleEvsWf (e : CycleEvs) : Bool := (e.ecc.all fun l => l.all spadEvWf) && e.cycles.all fun l => l.all portAccessWf

/-- An HBM sector is 64 bytes, aligned. -/
def hbmEvWf (e : HbmEv) : Bool := e.addr % 64 == 0

/-- A stream of a seal and its tokens are within the Stream Table and 32-bit token IDs. -/
def sealWf (o : SealOut) : Bool := decide (o.stream < 16384) && o.tokens.all fun t => decide (t < 2 ^ 32)

/-- A management message carries a 16-bit LEN, a 32-bit SEQ and a 16-byte SESSION. -/
def hdrWf (h : MgmtHdr) : Bool := decide (h.len < 2 ^ 16) && decide (h.seq < 2 ^ 32) && h.session.length == 16
  && (match h.badOp with | none => true | some o => decide (o.toNat < 2) || decide (8 < o.toNat))

/-- A CMD message carries the command's OP `op` or a reserved one, and four arguments of 64 bits. -/
def srcWf (op : Nat) (c : CmdSrc) : Bool :=
  match c with
  | .regs => true
  | .port h o args => hdrWf h && (o == op || o == 0 || (decide (0xA < o) && decide (o < 256))) && args.length == 4 && args.all fun a => decide (a < 2 ^ 64)

/-- A bench by command or by request. -/
def benchWf (w : BenchWhy) : Bool :=
  match w with
  | .command src => srcWf 7 src
  | .request _ => true

/-- A sample fits its register: millivolts and amperes of 16 bits. -/
def sampleWf (x : Sample) : Bool :=
  match x with
  | .temp _ _ => true
  | .rail _ mv => decide (mv < 2 ^ 16)
  | .icore _ amps => decide (amps < 2 ^ 16)

/-- The command is well formed. -/
def Instr.wf (i : Instr) : Bool :=
  match i with
  | .registerWrite _ addr bs => decide (addr + bs.length ≤ 2 ^ 50)
  | .localAccess a _ ecc => accessWf a && ecc.all spadEvWf
  | .ledgerGrant _ _ => true
  | .accViewWrite _ off bs _ tenant => decide (off + bs.length ≤ 0x200000) && decide (tenant < 1024)
  | .accWinWrite _ _ _ value => decide (value < 512)
  | .arraySum _ evs => cycleEvsWf evs
  | .drain _ evs => cycleEvsWf evs
  | .load _ evs => cycleEvsWf evs
  | .grdCtlWrite n addr bs => decide (0x80F80000 + 0x1000000 * n.val ≤ addr) && decide (addr + bs.length ≤ 0x80F90000 + 0x1000000 * n.val)
  | .draftStoreWrite _ _ off bs tenant => decide (tenant < 1024) && decide (off + bs.length ≤ 0x100000)
  | .scrubLine _ _ evs => evs.all fun e => spadEvWf e && e.kind != .merged
  | .svcAllowWrite addr bs => decide (0x1000020 ≤ addr) && decide (addr + bs.length ≤ 0x1000034)
  | .svcFloorMhzWrite value => decide (value < 2 ^ 12)
  | .svcRqSizeWrite value => decide (value < 2 ^ 17)
  | .stepSeal _ outs poisoned => outs.all sealWf && poisoned.all fun x => decide (x < 16384)
  | .hbmAccess a ecc => accessWf a && ecc.all hbmEvWf
  | .hbmLoopWrite _ value => decide (value < 4)
  | .tierRingSizeWrite _ value => decide (value < 2 ^ 17)
  | .flitReceive _ flit _ _ => flit.length == 256
  | .nak _ ack => decide (ack < 4096)
  | .ethFrameRx _ frame _ _ => decide (frame.length ≤ 9216 + 18)
  | .sensorSample x => sampleWf x
  | .bootHbm fails => decide (fails < 2 ^ 12)
  | .bootPhy fails => decide (fails < 2 ^ 6)
  | .bootNand chans => (chans.map fun c => c.chan).Nodup
  | .bootCard flashBad => decide (flashBad < 4)
  | .logRead h first _ => hdrWf h && decide (first < 2 ^ 32)
  | .sensors h => hdrWf h
  | .assayGet h nonce _ => hdrWf h && nonce.length == 32
  | .auth h _ => hdrWf h
  | .data h off _ bs => hdrWf h && h.len == 8 + bs.length && decide (off < 2 ^ 32)
  | .endRecovery h len _ => hdrWf h && decide (len < 2 ^ 32)
  | .stage src => srcWf 1 src
  | .commit src => srcWf 2 src
  | .fuseAdvance src => srcWf 3 src
  | .cardPersist src => srcWf 4 src
  | .assay src => srcWf 5 src
  | .test src => srcWf 6 src
  | .bench why => benchWf why
  | .unbench src => srcWf 8 src
  | .selfReset src => srcWf 9 src
  | .provision src => srcWf 10 src
  | .dvfsFreq loom value => decide (loom < 256) && decide (value < 4096)
  | .dvfsVolt loom value => decide (loom < 256) && decide (value < 4096)
  | .ldgBudgetMinWrite value => decide (value < 2 ^ 13)
  | .swvotesWrite _ value => decide (value < 256)
  | .wakeTx ports => decide (ports < 64)
  | .ethCtlWrite _ value => decide (value < 2 ^ 32)
  | .testAccessPort _ _ _ pins => decide (pins < 2 ^ 717)
  | .arrayMax _ evs => cycleEvsWf evs
  | .arrayMin _ evs => cycleEvsWf evs
  | .winload _ evs => cycleEvsWf evs
  | .tload _ evs => cycleEvsWf evs
  | .tblload _ evs => cycleEvsWf evs
  | .store _ evs => cycleEvsWf evs
  | .score _ evs => cycleEvsWf evs
  | .pv _ evs => cycleEvsWf evs
  | .adrain _ evs => cycleEvsWf evs
  | .combine _ evs => cycleEvsWf evs
  | .dot _ evs => cycleEvsWf evs
  | .normRms _ evs => cycleEvsWf evs
  | .normLayer _ evs => cycleEvsWf evs
  | .embed _ evs => cycleEvsWf evs
  | .elemAdd _ evs => cycleEvsWf evs
  | .elemMul _ evs => cycleEvsWf evs
  | .elemFma _ evs => cycleEvsWf evs
  | .elemDiv _ evs => cycleEvsWf evs
  | .elemRecip _ evs => cycleEvsWf evs
  | .elemRsqrt _ evs => cycleEvsWf evs
  | .elemExp2 _ evs => cycleEvsWf evs
  | .elemLog2 _ evs => cycleEvsWf evs
  | .tdot _ evs => cycleEvsWf evs
  | .pred _ evs => cycleEvsWf evs
  | .sdot _ evs => cycleEvsWf evs
  | .route _ evs => cycleEvsWf evs
  | .scatter _ evs => cycleEvsWf evs
  | .tally _ evs => cycleEvsWf evs
  | .shtReturn _ evs => cycleEvsWf evs
  | .maskset _ evs => cycleEvsWf evs
  | .audit _ evs => cycleEvsWf evs
  | .exit _ evs => cycleEvsWf evs
  | .fill _ evs => cycleEvsWf evs
  | .ncInboundServe _ _ ecc => ecc.all spadEvWf
  | .recordLanding _ _ ecc => ecc.all spadEvWf
  | .holdResume _ _ | .slackExpire _ _ | .pauseBudgetExpire _ _ | .accCntClr _ | .arrayResultLand _ | .tileBarrier _ | .swap _
  | .drainDone _ | .tloadDone _ | .tblloadDone _ | .dmaDone _ | .attPhaseDone _ | .brzOpDone _ | .gbegin _ | .gcheck _
  | .gcheckVerdict _ | .bobDone _ | .runStart _ | .runStop _ | .loomCntClr _ | .nop _ | .step _ | .stepLaunch _ | .endStep _
  | .endReport _ _ | .loop _ | .endloop _ | .skipz _ | .waitTally _ | .waitColl _ | .waitWrites _ | .tile _ | .repay _
  | .peerFaultStop _ | .shtOpDone _ | .tallyMsg _ | .ovfClaim _ | .ovfGrant _ | .admitRq | .cancel | .evict | .boltOpen
  | .boltClose | .variantLoadDone _ | .variantLoadFail _ | .svcCntClr | .stepFreeze _ | .stepTimeout _ | .tokenRefill
  | .regionWrite _ | .regionClear _ | .cacheFlush _ | .cacheFlushDone _ | .keyLoad _ | .keyZero _ | .create | .write _
  | .read _ _ | .readimg _ _ | .delete | .stat | .readRefresh _ _ | .wearLevel _ | .lend | .accept | .decline | .reclaim
  | .writeback | .clean | .release | .copyimg | .leaseOffer | .leaseAccept | .leaseDecline | .leaseReclaim | .leaseRelease
  | .leaseRevoke | .leaseKeepalive | .keepaliveSend | .reclaimDeadline _ | .keepaliveMiss _ _ | .linkTrained _ | .trainFail _
  | .lossOfSignal _ | .retrain _ | .portDisableWrite _ _ | .capSend _ | .cap _ | .negotiateTimeout _ | .authChal _
  | .authProof _ | .authResult _ | .authTimeout _ | .packetForward _ _ | .packetWrite | .packetRead | .fetchAdd | .masked
  | .readresp | .wrack | .atomresp | .requestTimeout _ | .syncSend | .sync | .syncResp | .refclkLoss | .coll | .hostmsg
  | .ethPacket | .ethFrameTx _ | .fabCntClr | .cardLoadFull _ | .cardLoadFunction _ | .cardCommit _ | .lockstepMismatch
  | .watchdogExpire | .railFault _ | .pmbAlert _ _ | .coldReset _ _ _ | .powerOnDetect _ _ _ | .bootVerify | .bootRails _
  | .bootHost _ | .bootRun | .hello | .sessionTimeout | .mgmtLinkFallback | .testStart _ | .testDrainTimeout
  | .errorRecordDeliver | .logSuppressWindow | .logPersist | .logFlush | .temperPeriod | .dvfsApply _ | .voltSlewDone _
  | .ldgCntClr | .domainQuietExpire _ | .domainSaveDone _ | .domainWakeDone _ | .standby | .wakePattern _ | .ethSignalDetect _
  | .mgmtWake | .brownOut | .warmReset | .functionReset | .loomReset _ | .slvCommandDone _ | .tierCommandDone _ | .ethLinkUp _
  | .ethLinkLoss _ | .refclkRestore | .garbageCollection _ => true

end Sys2Proof
end

