-- ==== Sys2Proof/Tests/Slice0.lean ====
section
/-! SUPPORT. The model's own tests: the refusals of WellFormed, a state that meets the hypotheses of each statement's clauses, and what some
commands do in a small state. -/
namespace Sys2Proof.Tests
set_option Elab.async false
open Sys2Proof Sys2Proof.Machine

/-! ### States for the tests -/

/-- A Draft word of R233 as a number. -/
def word (unit op arg : Nat) (budget slack lmode layer : Nat := 0) : Nat :=
  1 + unit * 2 ^ 16 + op * 2 ^ 20 + budget * 2 ^ 32 + slack * 2 ^ 48 + lmode * 2 ^ 64 + layer * 2 ^ 72 + arg * 2 ^ 96

/-- The bytes of a Draft at the start of loom n's store: its header and its words. -/
def draftBytes (n : Nat) (words : List Nat) : List Byte :=
  leBytes 64 (2 + kindOf n * 2 ^ 4 + words.length * 2 ^ 16) ++ words.flatMap (leBytes 16)

/-- Loom n with a Draft, stopped. -/
def loaded (n : Nat) (words : List Nat) : State := State.reset.memWrite (draftAddr n 0) (draftBytes n words) false

/-- Loom n running a Draft at its first word. -/
def running (n : Nat) (words : List Nat) : State := (loaded n words).set (LOOM_STATUS_RUN n) 1

/-- With an open tile that covers every engine. -/
def inTile (n : Nat) (s : State) : State := s.modSeq n fun q => { q with tile := some ⟨0x3F, 4, true, 0, 0, 0, false, false⟩ }

/-- With a parameter block, 128 bytes into the Draft store. -/
def withBlock (n : Nat) (s : State) (hdr : Nat) (slots : List Nat) : State :=
  s.memWrite (draftAddr n 128) (leBytes 4 hdr ++ (slots ++ List.replicate (15 - slots.length) 0).flatMap (leBytes 4)) false

/-- With bytes in loom n's scratchpad. -/
def withPad (n a : Nat) (l : List Byte) (s : State) : State := s.memWrite (lwin n + a) l false

/-- A value is the next state of an outcome. -/
def nextIs (o : Host.Outcome State Fault Refusal) (p : State → Bool) : Bool :=
  match o with
  | .next t => p t
  | _ => false

/-- With these register fields set. -/
def sets (l : List (Fld × Nat)) (s : State) : State := l.foldl (fun s e => s.set e.1 e.2) s

/-! ### The statements' hypotheses are met: the interface and the sequencer -/

theorem meets_EmptyQueueTicks : State.reset.pending = [] ∧ State.reset.waiting = [] ∧ State.reset.held = [] ∧ State.reset.posts = []
    ∧ (∀ p, p < 6 → State.reset.linkAlive p = true → State.reset.creditOut p = none) ∧ State.reset.plat.mode = [] ∧ State.reset.svc.plans = [] ∧ State.reset.mgmt.signing = none
    ∧ State.reset.is PWR_CTL_POLICY = false ∧ State.reset.fab.counting = false ∧ State.reset.fab.slew = 0 ∧ State.reset.fab.rateAcc = 0
    ∧ State.reset.get FAB_SYNC_RATE_PPB = 0 ∧ (State.reset.modFab fun f => { f with counting := true }).fab.counting = true := by decide +kernel

/-- A command waits for the stacks, which are ON or LOW. -/
def awaitsStacks (k : Nat) : State := { sets ((List.range 12).map fun i => (PWR_DOM_STATE (144 + i), k)) State.reset with waiting := [.nop 0] }

theorem meets_EmptyQueueTicks_waiting : (awaitsStacks 3).pending = [] ∧ (awaitsStacks 3).waiting = [.nop 0] ∧ (awaitsStacks 3).stacksAsleep = false
    ∧ (awaitsStacks 1).waiting = [.nop 0] ∧ (awaitsStacks 1).stacksAsleep = true := by decide +kernel

theorem meets_StepKeepsMemoryCanonical : State.reset.memWf ∧ ∃ t, step State.reset = .next t := ⟨⟨rfl, rfl⟩, _, rfl⟩

theorem one_entry {α : Type} (d v : α) (a k : Nat) : tget d [(a, v)] k = if a = k then v else d := by
  by_cases h : a = k <;> simp [tget, h]

/-- Loom 0 has an accumulator at its bound and four open loops. -/
def fullLoom : Loom := { seq := { loops := List.replicate 4 (1, 1) }, arr := { acc := [(0, [2 ^ 39 - 1])] } }

theorem meets_StepKeepsBounds : WithinBounds { State.reset with looms := [(0, fullLoom)] } ∧ ∃ t, step { State.reset with looms := [(0, fullLoom)] } = .next t := by
  have h : ∀ m, State.lm { State.reset with looms := [(0, fullLoom)] } m = if m = 0 then fullLoom else Loom.reset := fun m => by
    by_cases e : m = 0
    · subst e; rfl
    · simp only [State.lm, one_entry, e, Ne.symm e, if_false]
  refine ⟨⟨fun n set row a ha => ?_, fun n => ?_⟩, _, rfl⟩
  · have e : ∀ k, tget (List.replicate 512 (0 : Int)) (if n = 0 then fullLoom else Loom.reset).arr.acc k = [2 ^ 39 - 1]
        ∨ tget (List.replicate 512 (0 : Int)) (if n = 0 then fullLoom else Loom.reset).arr.acc k = List.replicate 512 0 := fun k => by
      by_cases e : n = 0
      · by_cases f : k = 0
        · subst f; rw [if_pos e]; exact .inl rfl
        · rw [if_pos e, fullLoom, one_entry, if_neg (Ne.symm f)]; exact .inr rfl
      · rw [if_neg e]; exact .inr rfl
    rw [State.accRow, h] at ha
    rcases e (rowKey set row) with e | e <;> rw [e] at ha
    · simp only [List.mem_singleton] at ha; subst ha; decide
    · rw [List.eq_of_mem_replicate ha]; decide
  · rw [h]; by_cases e : n = 0 <;> simp [e, fullLoom, Loom.reset]

/-- Loom 143 holds five credits, and a test of loom 0 is under way. -/
def balanced : State := (sets [(LDG_CREDIT_HELD 143, 5), (LDG_STATUS_OUTSTANDING, 5)] State.reset).modMgmt fun m => { m with test := some ⟨0, 1, [], [0]⟩ }

theorem meets_StepKeepsLedgerBalanced : LedgerBalanced { balanced with ledger := [⟨143, 2, 0, false⟩] }
    ∧ ∃ t, step { balanced with ledger := [⟨143, 2, 0, false⟩] } = .next t := by
  refine ⟨⟨by decide +kernel, by decide +kernel, fun x hx => ?_⟩, _, rfl⟩
  cases hx; decide +kernel

theorem meets_SequencerWordsIssue_nop : (running 0 [word 0 0 0]).fetchWord 0 0 0 = .ok (wordOf (word 0 0 0)) := by decide +kernel
theorem meets_SequencerWordsIssue_step : (running 143 [word 0 1 0]).fetchWord 143 0 1 = .ok (wordOf (word 0 1 0)) := by decide +kernel
theorem meets_SequencerWordsIssue_repay : (running 0 [word 0 8 77]).fetchWord 0 0 8 = .ok (wordOf (word 0 8 77)) := by decide +kernel

/-- A loop of three iterations is open. -/
def inLoop : State := (running 0 [word 0 3 3, word 0 4 0]).modSeq 0 fun q => { q with next := 1, loops := [(1, 3)] }

theorem meets_LoopsNest_loop : (running 0 [word 0 3 3]).fetchWord 0 0 3 = .ok (wordOf (word 0 3 3)) ∧ (wordOf (word 0 3 3)).arg ≠ 0
    ∧ ((running 0 [word 0 3 3]).lm 0).seq.loops.length < 4 := by decide +kernel
theorem meets_LoopsNest_zero : (running 0 [word 0 3 0]).fetchWord 0 0 3 = .ok (wordOf (word 0 3 0)) ∧ (wordOf (word 0 3 0)).arg = 0 := by
  decide +kernel
theorem meets_LoopsNest_deep : ((running 0 [word 0 3 3]).modSeq 0 fun q => { q with loops := List.replicate 4 (1, 1) }).fetchWord 0 0 3 = .ok (wordOf (word 0 3 3))
    ∧ 4 ≤ (((running 0 [word 0 3 3]).modSeq 0 fun q => { q with loops := List.replicate 4 (1, 1) }).lm 0).seq.loops.length := by decide +kernel
theorem meets_LoopsNest_endloop : inLoop.fetchWord 0 0 4 = .ok (wordOf (word 0 4 0)) ∧ (inLoop.lm 0).seq.loops = [(1, 3)] := by
  decide +kernel
theorem meets_LoopsNest_unopened : (running 0 [word 0 4 0]).fetchWord 0 0 4 = .ok (wordOf (word 0 4 0))
    ∧ ((running 0 [word 0 4 0]).lm 0).seq.loops = [] := by decide +kernel

/-- SKIPZ over one word. -/
def skips : State := running 0 [word 0 5 2, word 0 0 0, word 0 0 0]

theorem meets_SkipzJumpsOnZero : skips.fetchWord 0 0 5 = .ok (wordOf (word 0 5 2)) ∧ (skips.lm 0).seq.next < 2 ∧ 2 < skips.draftWords 0
    ∧ skips.depthAfter 0 (2 - (skips.lm 0).seq.next - 1) ((skips.lm 0).seq.next + 1) 0 = some 0 := by decide +kernel

/-- WAIT of class TALLY, WRITES and COLL, and END, at the first word. -/
def waits (arg : Nat) : State := running 0 [word 0 6 arg 9 5]
def atEnd : State := running 0 [word 0 2 0]

theorem meets_WaitsPauseIssue_tally : (waits 0x300).fetchWord 0 0 6 = .ok (wordOf (word 0 6 0x300 9 5)) ∧ (waits 0x300).is (GRD_STATUS_SPAN_OPEN 0) = false
    ∧ (waits 0x300).is (LOOM_STATUS_PEER_FAULT 0) = false := by decide +kernel
theorem meets_WaitsPauseIssue_writes : (waits 2).fetchWord 0 0 6 = .ok (wordOf (word 0 6 2 9 5)) ∧ (waits 2).is (LOOM_STATUS_PEER_FAULT 0) = false := by
  decide +kernel
theorem meets_WaitsPauseIssue_span : ((waits 0x300).set (GRD_STATUS_SPAN_OPEN 0) 1).fetchWord 0 0 6 = .ok (wordOf (word 0 6 0x300 9 5))
    ∧ ((waits 0x300).set (GRD_STATUS_SPAN_OPEN 0) 1).is (GRD_STATUS_SPAN_OPEN 0) = true := by decide +kernel
theorem meets_WaitsPauseIssue_stop : ∀ a ∈ [0x300, 2], ((waits a).set (LOOM_STATUS_PEER_FAULT 0) 1).fetchWord 0 0 6 = .ok (wordOf (word 0 6 a 9 5))
    ∧ ((waits a).set (LOOM_STATUS_PEER_FAULT 0) 1).is (GRD_STATUS_SPAN_OPEN 0) = false
    ∧ ((waits a).set (LOOM_STATUS_PEER_FAULT 0) 1).is (LOOM_STATUS_PEER_FAULT 0) = true := by decide +kernel
theorem meets_WaitsPauseIssue_end : atEnd.fetchWord 0 0 2 = .ok (wordOf (word 0 2 0)) ∧ atEnd.is (LOOM_STATUS_PEER_FAULT 0) = false := by
  decide +kernel
theorem meets_WaitsPauseIssue_peer : (atEnd.set (LOOM_STATUS_PEER_FAULT 0) 1).fetchWord 0 0 2 = .ok (wordOf (word 0 2 0))
    ∧ (atEnd.set (LOOM_STATUS_PEER_FAULT 0) 1).is (LOOM_STATUS_PEER_FAULT 0) = true := by decide +kernel
theorem meets_WaitCollJoins : (waits 0x701).fetchWord 0 0 6 = .ok (wordOf (word 0 6 0x701 9 5)) ∧ (waits 0x701).is (GRD_STATUS_SPAN_OPEN 0) = false
    ∧ (waits 0x701).is (LOOM_STATUS_PEER_FAULT 0) = false ∧ (waits 0x701).collHas 7 0 = false := by decide +kernel

/-- Looms 0 and 1 take part in an ALLREDUCE, which loom 0 joins first. -/
def joining : State := sets [(FAB_COLL_VALID 7, 1), (FAB_COLL_LOOMS 7, 3)] (waits 0x701)

theorem meets_WaitCollJoins_part : joining.fetchWord 0 0 6 = .ok (wordOf (word 0 6 0x701 9 5)) ∧ joining.is (GRD_STATUS_SPAN_OPEN 0) = false
    ∧ joining.is (LOOM_STATUS_PEER_FAULT 0) = false ∧ joining.collHas 7 0 = true ∧ joining.get (FAB_COLL_OP 7) = 0
    ∧ (∀ x ∈ (joining.collStep 7 (joining.stepOf 0)).parts, x.from_ ≠ joining.collIndex 7 0)
    ∧ (∃ m ∈ joining.collLooms 7, joining.collIndex 7 m ≠ joining.collIndex 7 0
        ∧ (joining.collStep 7 (joining.stepOf 0)).part (joining.collIndex 7 m) = none) := by decide +kernel
theorem meets_WaitCollJoins_fault : ((waits 0x701).set (GRD_STATUS_SPAN_OPEN 0) 1).is (GRD_STATUS_SPAN_OPEN 0) = true
    ∧ ((waits 0x701).set (GRD_STATUS_SPAN_OPEN 0) 1).fetchWord 0 0 6 = .ok (wordOf (word 0 6 0x701 9 5))
    ∧ ((waits 0x701).set (LOOM_STATUS_PEER_FAULT 0) 1).is (LOOM_STATUS_PEER_FAULT 0) = true
    ∧ ((waits 0x701).set (LOOM_STATUS_PEER_FAULT 0) 1).fetchWord 0 0 6 = .ok (wordOf (word 0 6 0x701 9 5)) := by decide +kernel

/-- Loom 0 waits in that collective, and its source segment's read heads its FIFO, of a step. -/
def sourcing (step : Nat) : State :=
  (joining.modSeq 0 fun q => { q with pause := some ⟨.coll 7 false, 9, 5, false⟩ }).enqueue 0 ⟨.source 7 step, 64, 8, [], false, 0, .collective, none, 0, false⟩

theorem meets_SourceSegmentsJoin : (sourcing 0).ncOpen 0 = true ∧ ((sourcing 0).lm 0).spd.fifo = [⟨.source 7 0, 64, 8, [], false, 0, .collective, none, 0, false⟩]
    ∧ 0 = (sourcing 0).stepOf 0 ∧ ((sourcing 0).lm 0).seq.pause = some ⟨.coll 7 false, 9, 5, false⟩ ∧ (sourcing 0).is (LOOM_STATUS_BENCHED 0) = false
    ∧ 64 + 8 ≤ spadSize (0 : LoomNo) ∧ (sourcing 0).get (FAB_COLL_OP 7) = 0
    ∧ (∀ y ∈ ((sourcing 0).collStep 7 0).parts, y.from_ ≠ (sourcing 0).collIndex 7 0)
    ∧ (∃ m ∈ (sourcing 0).collLooms 7, (sourcing 0).collIndex 7 m ≠ (sourcing 0).collIndex 7 0
        ∧ ((sourcing 0).collStep 7 0).part ((sourcing 0).collIndex 7 m) = none) := by decide +kernel
theorem meets_SourceSegmentsJoin_late : (sourcing 1).ncOpen 0 = true ∧ 1 ≠ (sourcing 1).stepOf 0
    ∧ ((sourcing 1).lm 0).spd.fifo = [⟨.source 7 1, 64, 8, [], false, 0, .collective, none, 0, false⟩] := by decide +kernel

/-- A Card image whose bolts 0 and 1 are defined: bolt 0 holds loom 0, bolt 1 loom 48. -/
def bolts : List Byte := leBytes 8 18 ++ leBytes 56 1 ++ leBytes 8 18 ++ leBytes 56 (2 ^ 48)
def withBolts (s : State) : State := { s with card := [(3, bolts)] }

/-- A loom that runs no Draft and nothing has stopped. -/
def idleLoom (s : State) : Bool :=
  !s.is (LOOM_STATUS_RUN 0) && !s.is (LOOM_STATUS_FAULT 0) && !s.is (LOOM_STATUS_PEER_FAULT 0) && !s.is (LOOM_STATUS_BENCHED 0)

theorem meets_RunStartsAtEntry_asleep : idleLoom (State.reset.set (PWR_DOM_STATE 0) 1) = true ∧ (State.reset.set (PWR_DOM_STATE 0) 1).asleep 0 = true
    ∧ (loaded 0 [word 0 0 0]).asleep 0 = false ∧ (withBolts (loaded 0 [word 0 0 0])).asleep 0 = false ∧ (withBolts State.reset).asleep 0 = false := by
  decide +kernel
theorem meets_RunStartsAtEntry : idleLoom (withBolts (loaded 0 [word 0 0 0])) = true ∧ ((withBolts (loaded 0 [word 0 0 0])).boltOf 0).isSome = true
    ∧ (withBolts (loaded 0 [word 0 0 0])).headerBad 0 = false := by decide +kernel
theorem meets_RunStartsAtEntry_bad : idleLoom (withBolts State.reset) = true ∧ ((withBolts State.reset).boltOf 0).isSome = true
    ∧ (withBolts State.reset).headerBad 0 = true ∧ idleLoom (loaded 0 [word 0 0 0]) = true ∧ (loaded 0 [word 0 0 0]).boltOf 0 = none := by decide +kernel

theorem meets_DraftStoreWrites : 0xFFFFF + [(1 : Byte)].length ≤ 0x100000 ∧ [(1 : Byte)] ≠ [] ∧ ((loaded 0 []).set (PWR_DOM_STATE 0) 3).is (LOOM_STATUS_BENCHED 0) = false
    ∧ ((loaded 0 []).set (PWR_DOM_STATE 0) 3).get (PWR_DOM_STATE 0) = 3 ∧ reachesRegs .host 0 = true
    ∧ ((loaded 0 []).set (PWR_DOM_STATE 0) 3).is (LOOM_STATUS_RUN 0) = false := by decide +kernel
theorem meets_DraftStoreWrites_denied : reachesRegs (.loomEngine 1 3) 0 = false ∧ ((running 0 []).set (PWR_DOM_STATE 0) 3).is (LOOM_STATUS_RUN 0) = true
    ∧ ((running 0 []).set (PWR_DOM_STATE 0) 3).is (LOOM_STATUS_BENCHED 0) = false
    ∧ ((running 0 []).set (LOOM_STATUS_BENCHED 0) 1).is (LOOM_STATUS_BENCHED 0) = true
    ∧ State.reset.is (LOOM_STATUS_BENCHED 0) = false ∧ State.reset.get (PWR_DOM_STATE 0) ≠ 3 := by decide +kernel
theorem meets_DraftStoreWrites_read : ((running 0 []).set (PWR_DOM_STATE 0) 3).is (LOOM_STATUS_BENCHED 0) = false
    ∧ ((running 0 []).set (PWR_DOM_STATE 0) 3).get (PWR_DOM_STATE 0) = 3 ∧ 0 < 16 ∧ 0xFFFF0 % 65536 + 16 ≤ 65536 ∧ 0xFFFF0 + 16 ≤ 0x100000 := by
  decide +kernel

/-- A loom at STEP that a launch has reached. -/
def launched : State := (running 0 [word 0 1 0]).modSeq 0 fun q => { q with atStep := true, launch := some 5 }

theorem meets_LaunchStartsStep : (launched.lm 0).seq.launch = some 5 ∧ (launched.lm 0).seq.atStep = true ∧ launched.is (LOOM_STATUS_RUN 0) = true
    ∧ launched.frozen 0 = false ∧ launched.asleep 0 = false := by decide +kernel

/-- A loom that pauses, of the named kind. -/
def pausing (k : PauseKind) (budget slack : Nat) : State := (running 0 [word 0 2 0]).modSeq 0 fun q => { q with pause := some ⟨k, budget, slack, false⟩ }

theorem meets_EndReports : ((pausing .endStep 0 0).lm 0).seq.pause = some ⟨.endStep, 0, 0, false⟩ ∧ (pausing .endStep 0 0).opsIdle 0 = true
    ∧ ((pausing .endStep 0 0).lm 0).seq.writesOut = 0 ∧ (pausing .endStep 0 0).frozen 0 = false := by decide +kernel

/-- A loom that waits for a write. -/
def awaiting : State := (pausing .writes 9 5).modSeq 0 fun q => { q with writesOut := 1 }

theorem meets_PausesEnd_slack : (awaiting.lm 0).seq.pause = some ⟨.writes, 9, 5, false⟩ ∧ awaiting.frozen 0 = false
    ∧ (awaiting.lm 0).seq.writesOut ≠ 0 := by decide +kernel
theorem meets_PausesEnd_budget : ((pausing .writes 9 5).lm 0).seq.pause = some ⟨.writes, 9, 5, false⟩ ∧ (pausing .writes 9 5).frozen 0 = false
    ∧ ((pausing .writes 9 5).lm 0).seq.writesOut = 0 := by decide +kernel

/-- A loom in an ECC hold. -/
def held : State := (running 0 []).modSeq 0 fun q => { q with holds := [⟨0, some 3⟩] }

theorem meets_HoldEnds : (0 : Nat) < 5 ∧ (held.lm 0).seq.slip = 0 ∧ (held.lm 0).seq.holds = [⟨0, some 3⟩] := by decide +kernel

theorem meets_PeerFaultStops : ((pausing .writes 0 0).set (LOOM_STATUS_PEER_FAULT 0) 1).is (LOOM_STATUS_PEER_FAULT 0) = true
    ∧ ((pausing .writes 0 0).set (LOOM_STATUS_PEER_FAULT 0) 1).is (LOOM_STATUS_RUN 0) = true
    ∧ (((pausing .writes 0 0).set (LOOM_STATUS_PEER_FAULT 0) 1).lm 0).seq.pause = some ⟨.writes, 0, 0, false⟩ ∧ PauseKind.writes ≠ .grant := by
  decide +kernel

/-! ### Tiles and the ledger -/

/-- A TILE word with every LMODE bit. -/
def tileWord : Nat := word 0 7 0 10 0 0x3F
def tiling : State := running 0 [tileWord]

theorem meets_TileAsksLedger : tiling.fetchWord 0 0 7 = .ok (wordOf tileWord) ∧ 0 < tiling.requestSize 0 (wordOf tileWord).lmode
    ∧ tiling.requestSize 0 (wordOf tileWord).lmode ≤ tiling.get LDG_BUDGET_MIN_EFFECTIVE - tiling.get LDG_RESERVE_RESERVE := by decide +kernel
theorem meets_TileAsksLedger_oversize : (tiling.set LDG_BUDGET_MIN_EFFECTIVE 1).fetchWord 0 0 7 = .ok (wordOf tileWord)
    ∧ (tiling.set LDG_BUDGET_MIN_EFFECTIVE 1).get LDG_BUDGET_MIN_EFFECTIVE - (tiling.set LDG_BUDGET_MIN_EFFECTIVE 1).get LDG_RESERVE_RESERVE
        < (tiling.set LDG_BUDGET_MIN_EFFECTIVE 1).requestSize 0 (wordOf tileWord).lmode := by decide +kernel

/-- A TILE word's tile that waits for its grant of k credits. -/
def asked (k : Nat) : State :=
  { (pausing .grant 0 0).modSeq 0 fun q => { q with tile := some ⟨0x3F, k, false, 10, 0, 0, false, false⟩ } with ledger := [⟨0, k, 0, true⟩] }

theorem meets_LedgerGrantsInOrder : (asked 5).ledger = [⟨0, 5, 0, true⟩] ∧ 5 ≤ (asked 5).poolFree ∧ ((asked 5).lm 0).seq.pause = some ⟨.grant, 0, 0, false⟩
    ∧ ((asked 5).lm 0).seq.tile = some ⟨0x3F, 5, false, 10, 0, 0, false, false⟩ := by decide +kernel
theorem meets_LedgerGrantsInOrder_blocked : (asked 6401).ledger = [⟨0, 6401, 0, true⟩] ∧ (asked 6401).poolFree < 6401 := by decide +kernel

theorem meets_BarrierReturnsCredits : (inTile 0 (running 0 [])).frozen 0 = false
    ∧ ((inTile 0 (running 0 [])).lm 0).seq.tile = some ⟨0x3F, 4, true, 0, 0, 0, false, false⟩ := by decide +kernel

/-! ### The array and the accumulators -/

/-- A weight buffer with no trit. -/
def noTrits : WBuf := ⟨[], 0, 0, 52, false⟩

/-- An ARRAY word with one row of FP4 activations, of the reduction, from row r. -/
def arraying (reduce r : Nat) : State :=
  (withBlock 0 (running 0 [word 1 0 128 100 0 1]) (0x412 + reduce * 256) [1 + r * 65536]).modArr 0 fun a => { a with bufs := [some noTrits, none] }

theorem meets_ArrayWordsStart : (arraying 1 0).fetchWord 0 1 0 = .ok (wordOf (word 1 0 128 100 0 1)) ∧ (arraying 1 0).blockMisplaced 0 128 = false
    ∧ arrBlockBad 0 ((arraying 1 0).blockBytes 0 128) = false ∧ (arrOpOf ((arraying 1 0).blockBytes 0 128)).reduce = 1
    ∧ rowsBad (arrOpOf ((arraying 1 0).blockBytes 0 128)) = false ∧ (arraying 1 0).fmtBad 0 (arrOpOf ((arraying 1 0).blockBytes 0 128)) = false
    ∧ (arraying 1 0).bufEmpty 0 (arrOpOf ((arraying 1 0).blockBytes 0 128)) = false
    ∧ (arraying 1 0).psumBad 0 (arrOpOf ((arraying 1 0).blockBytes 0 128)) = false
    ∧ inSpad 0 ((arraying 1 0).arrRanges 0 (arrOpOf ((arraying 1 0).blockBytes 0 128))) = true ∧ 0 < (arraying 1 0).requestSize 0 1
    ∧ (arraying 1 0).requestSize 0 1 ≤ (arraying 1 0).get LDG_BUDGET_MIN_EFFECTIVE - (arraying 1 0).get LDG_RESERVE_RESERVE := by decide +kernel
theorem meets_ArrayWordsStart_sum : (arraying 0 0).fetchWord 0 1 0 = .ok (wordOf (word 1 0 128 100 0 1)) ∧ (arrOpOf ((arraying 0 0).blockBytes 0 128)).reduce = 0
    ∧ arrBlockBad 0 ((arraying 0 0).blockBytes 0 128) = false ∧ rowsBad (arrOpOf ((arraying 0 0).blockBytes 0 128)) = false
    ∧ (arraying 0 0).fmtBad 0 (arrOpOf ((arraying 0 0).blockBytes 0 128)) = false := by decide +kernel
/-- A MIN word whose one row of two would be row 512. -/
def wideRows : State := withBlock 0 (arraying 2 0) 0x612 [2 + 511 * 65536]

theorem meets_ArrayWordsStart_rows : wideRows.fetchWord 0 1 0 = .ok (wordOf (word 1 0 128 100 0 1)) ∧ wideRows.blockMisplaced 0 128 = false
    ∧ arrBlockBad 0 (wideRows.blockBytes 0 128) = false ∧ (arrOpOf (wideRows.blockBytes 0 128)).reduce = 2
    ∧ rowsBad (arrOpOf (wideRows.blockBytes 0 128)) = true ∧ rowsBad (arrOpOf ((arraying 2 511).blockBytes 0 128)) = false := by decide +kernel

/-- An operation with one row cycle in flight. -/
def oneCycle : ArrOp :=
  { fmt := 1, reduce := 0, init := true, wbuf := 0, rows := 1, row0 := 7, kbase := 0, actE := 0, actS := 0, eStride := 0, sStride := 0, olEn := false,
    osegs := 1, okbase := 0, olist := 0, olStride := 0, chainFirst := false, oslack := 0, psum := 0, window := 0, keep := 0, tArr := 1, eT := 0,
    buf := noTrits, items := [.row 0 0 [] [] false], barrier := false, span := false, found := [] }

def flying : State := (running 0 []).modArr 0 fun a => { a with ops := [oneCycle] }

theorem meets_ArrayCyclesLand : flying.arrStill 0 = false ∧ flying.compat 0 = false ∧ (flying.lm 0).arr.ops = [oneCycle]
    ∧ oneCycle.items = [.row 0 0 [] [] false] := by decide +kernel

/-- A dense buffer of one block group whose 512 columns hold one trit each, and an operation with one row cycle of one lane. -/
def oneTrit : WBuf := ⟨[List.replicate 512 [1]], 0, 0, 52, false⟩
def laneCycle : ArrOp := { oneCycle with buf := oneTrit, items := [.row 0 0 [[5]] [127] false] }
def adding : State := (running 0 []).modArr 0 fun a => { a with ops := [laneCycle] }

theorem meets_RowCyclesAdd : adding.arrStill 0 = false ∧ adding.compat 0 = false ∧ (adding.lm 0).arr.ops = [laneCycle]
    ∧ laneCycle.items = [.row 0 0 [[5]] [127] false] ∧ laneCycle.keep = 0 ∧ laneCycle.reduce = 0
    ∧ (∀ g, g < 1 → (laneCycle.buf.trits.getD g []).length = 512) ∧ (adding.accRow 0 (adding.activeSet 0) (laneCycle.row0 + 0)).length = 512
    ∧ 511 < 512 ∧ cycleSum oneTrit 0 [[5]] [127] (-1) 511 = 5 ∧ cycleSum oneTrit 0 [[5]] [255] (-1) 511 = 0
    ∧ cycleSum oneTrit 2 [[5]] [127] (-1) 511 = 0 ∧ cycleSum oneTrit 0 [[-5]] [127] 0 511 = -3 := by decide +kernel

theorem meets_WinloadSetsWindows : (running 0 [word 2 0 0x1000000]).fetchWord 0 2 0 = .ok (wordOf (word 2 0 0x1000000))
    ∧ inSpad 0 [(64 * bits 0x1000000 0 24, 1024)] = true ∧ 511 < 512 := by decide +kernel

def swapping : State := running 0 [word 2 1 0]

theorem meets_SwapExchangesSets : swapping.fetchWord 0 2 1 = .ok (wordOf (word 2 1 0)) ∧ swapping.is (ACC_STATUS_IN_FLIGHT 0) = false
    ∧ swapping.is (ACC_STATUS_DRAIN_BUSY 0) = false ∧ swapping.is (ARR_STATUS_BUSY 0) = false := by decide +kernel
theorem meets_SwapExchangesSets_early : (swapping.set (ACC_STATUS_IN_FLIGHT 0) 1).fetchWord 0 2 1 = .ok (wordOf (word 2 1 0))
    ∧ (swapping.set (ACC_STATUS_IN_FLIGHT 0) 1).is (ACC_STATUS_IN_FLIGHT 0) = true
    ∧ (swapping.set (ACC_STATUS_DRAIN_BUSY 0) 1).fetchWord 0 2 1 = .ok (wordOf (word 2 1 0))
    ∧ (swapping.set (ACC_STATUS_DRAIN_BUSY 0) 1).is (ACC_STATUS_DRAIN_BUSY 0) = true
    ∧ (swapping.set (ARR_STATUS_BUSY 0) 1).fetchWord 0 2 1 = .ok (wordOf (word 2 1 0))
    ∧ (swapping.set (ARR_STATUS_BUSY 0) 1).is (ARR_STATUS_BUSY 0) = true := by decide +kernel

theorem meets_AccumulatorRegistersWrite : 511 < 512 ∧ 0 < (leBytes 8 (2 ^ 64 - 1)).length ∧ 0 + (leBytes 8 (2 ^ 64 - 1)).length ≤ 8
    ∧ 0 < [(7 : Byte)].length ∧ 7 + [(7 : Byte)].length ≤ 8
    ∧ (State.reset.set (PWR_DOM_STATE 0) 3).is (LOOM_STATUS_BENCHED 0) = false ∧ (State.reset.set (PWR_DOM_STATE 0) 3).get (PWR_DOM_STATE 0) = 3
    ∧ (State.reset.set (PWR_DOM_STATE 0) 3).portFree 0 = true ∧ (State.reset.set (LOOM_STATUS_BENCHED 0) 1).is (LOOM_STATUS_BENCHED 0) = true := by decide +kernel
/-- A write waits before the port. -/
def portBusy : State := (State.reset.set (PWR_DOM_STATE 0) 3).enqueue 0 ⟨.write, 0, 1, [7], false, 0, .host, none, 0, false⟩
theorem meets_AccumulatorRegistersWrite_waits : portBusy.is (LOOM_STATUS_BENCHED 0) = false ∧ portBusy.get (PWR_DOM_STATE 0) = 3
    ∧ portBusy.portFree 0 = false := by decide +kernel

/-- What a word's memory events meet. -/
def someEvents : CycleEvs := ⟨[[⟨64, .uncorrectable⟩]], [[⟨2, 64, 64, false, []⟩, ⟨5, 64, 64, false, []⟩]]⟩
def winloading : State := running 0 [word 2 0 0x1000000]

/-- The word has issued in the step's next state. -/
def issuedNow (s : State) (o : Host.Outcome State Fault Refusal) : Bool := nextIs o fun t => (t.lm 0).seq.next != (s.lm 0).seq.next

theorem meets_UncorrectableWordsPoison : (eventWords 0 ⟨[[⟨71, .uncorrectable⟩]], []⟩)[3]? = some (.winload 0 ⟨[[⟨71, .uncorrectable⟩]], []⟩)
    ∧ (eventWords 0 {})[3]? = some (.winload 0 {}) ∧ 64 = 71 / 8 * 8 ∧ tget 0 winloading.poison (lwin 0 + 64) = 0
    ∧ issuedNow winloading (exec (.winload 0 {}) winloading) = true := by decide +kernel
/-- The same in a hold: a transient or lasting error is found there too. -/
def winloadingHeld : State := winloading.modSeq 0 fun q => { q with holds := [⟨4, none⟩] }
theorem meets_CorrectedWordsHold : (∀ k ∈ [EccKind.transient, .lasting], (eventWords 0 ⟨[[⟨64, k⟩]], []⟩)[3]? = some (.winload 0 ⟨[[⟨64, k⟩]], []⟩)
      ∧ nextIs (exec (.winload 0 {}) (winloading.eccEvents 0 [⟨64, k⟩])) (fun u => (u.lm 0).seq.next != (winloading.lm 0).seq.next && !u.frozen 0) = true)
    ∧ tget 0 winloading.poison (lwin 0 + 64 / 8 * 8) = 0 ∧ issuedNow winloading (exec (.winload 0 {}) winloading) = true := by decide +kernel
/-- Two accesses of the window load's port, to one bank or to two. -/
def bankAccesses (b : Nat) : List PortAccess := [⟨1, 64, 64, false, []⟩, ⟨1, b, 64, false, []⟩]
theorem meets_BankConflictsHold : (∀ e ∈ [(320, 1), (128, 0)], (eventWords 0 ⟨[], [bankAccesses e.1]⟩)[3]? = some (.winload 0 ⟨[], [bankAccesses e.1]⟩)
      ∧ ((List.range 48).map (extraOf (bankAccesses e.1))).foldl max 0 = e.2 ∧ ((List.range 48).map (extraOf (bankAccesses e.1))).sum = e.2
      ∧ nextIs (exec (.winload 0 {}) winloading) (fun u => (u.lm 0).seq.next != (winloading.lm 0).seq.next && !u.frozen 0
          && (bankAccesses e.1).all fun a => u.portActive 0 a.port && a.data.isEmpty) = true) := by decide +kernel
/-- Writes of one byte by the array's port and by the Bronze unit's. -/
def meeting : List PortAccess := [⟨1, 64, 1, true, [7]⟩, ⟨3, 64, 1, true, [9]⟩]
theorem meets_FirstPortStands : (eventWords 0 ⟨[], [meeting]⟩)[3]? = some (.winload 0 ⟨[], [meeting]⟩)
    ∧ nextIs (exec (.winload 0 {}) (winloading.set (BRZ_STATUS_BUSY 0) 1)) (fun u => (u.lm 0).seq.next != (winloading.lm 0).seq.next
      && u.portActive 0 1 && u.portActive 0 3) = true ∧ (1 : Fin 7) < 3 ∧ 64 < spadSize (0 : LoomNo) := by decide +kernel

theorem meets_MemoryEventsMeet : (eventWords 0 someEvents)[35]? = some (.fill 0 someEvents) ∧ (eventWords 0 {})[35]? = some (.fill 0 {})
    ∧ (eventWords 0 someEvents)[3]? = some (.winload 0 someEvents) ∧ (eventWords 0 {})[3]? = some (.winload 0 {})
    ∧ nextIs (exec (.winload 0 {}) winloading) (fun t => (t.lm 0).seq.next != (winloading.lm 0).seq.next) = true
    ∧ nextIs (exec (.fill 0 {}) winloading) (fun t => (t.lm 0).seq.next == (winloading.lm 0).seq.next) = true
    ∧ nextIs (exec (.winload 0 {}) (winloading.eccEvents 0 someEvents.ecc.flatten)) (fun u => (u.lm 0).seq.next != (winloading.lm 0).seq.next) = true := by
  decide +kernel

/-! ### The loom DMA -/

/-- A DMA word of the operation with a block in a tile. -/
def moving (op : Nat) (slots : List Nat) : State := inTile 0 (withBlock 0 (running 0 [word 3 op 128]) 2 slots)

theorem meets_TileLoadStarts : (moving 0 [1, 3, 0x7FFFF0]).fetchWord 0 3 0 = .ok (wordOf (word 3 0 128))
    ∧ LawfulBlock (moving 0 [1, 3, 0x7FFFF0]) 0 (wordOf (word 3 0 128)) 0xCF0 3
    ∧ (blockOf ((moving 0 [1, 3, 0x7FFFF0]).blockBytes 0 128)).slot 1 ≤ 3 ∧ (blockOf ((moving 0 [1, 3, 0x7FFFF0]).blockBytes 0 128)).slot 0 ≤ 1
    ∧ inSpad 0 [((blockOf ((moving 0 [1, 3, 0x7FFFF0]).blockBytes 0 128)).slot 2, 16)] = true := by
  unfold LawfulBlock; decide +kernel
theorem meets_TableLoadStarts : (moving 3 [3, 64]).fetchWord 0 3 3 = .ok (wordOf (word 3 3 128))
    ∧ LawfulBlock (moving 3 [3, 64]) 0 (wordOf (word 3 3 128)) 0xCF0 2 ∧ (blockOf ((moving 3 [3, 64]).blockBytes 0 128)).slot 0 ≤ 3
    ∧ inSpad 0 [((blockOf ((moving 3 [3, 64]).blockBytes 0 128)).slot 1, 128)] = true := by
  unfold LawfulBlock; decide +kernel

def loading : State := (running 0 []).modDma 0 fun d => { d with tload := some (1, some noTrits, 0), tbl := some (3, 0, none), op := some (2, none) }

theorem meets_LoadsEnd : loading.frozen 0 = false ∧ (loading.lm 0).dma.tload = some (1, some noTrits, 0) ∧ 1 < 2
    ∧ (loading.lm 0).dma.tbl = some (3, 0, none) ∧ 3 < 4 ∧ 0 < 16 := by decide +kernel
theorem meets_TransferEnds : loading.frozen 0 = false ∧ (loading.lm 0).dma.op ≠ none ∧ loading.pendOf 0 3 = none := by decide +kernel

/-- A DMA transfer of 64 bytes whose block is lawful, to or from an address; its descriptor names nothing but level 2. -/
def transferring (op raw : Nat) : State := withPad 0 0x1000 [2] (moving op [0x1000, 0, 64, 0x2000, 0, 0, 1, 0, 0, 0, raw % 2 ^ 32, raw / 2 ^ 32, 0])

/-- The block and the descriptor of that transfer. -/
def transferBlock (op raw : Nat) : Block := blockOf ((transferring op raw).blockBytes 0 128)
def transferDesc (op raw : Nat) : Desc := descOf ((transferring op raw).spRead 0 0x1000 256)

theorem meets_TransfersStart_load : (transferring 1 0x81000000).fetchWord 0 3 1 = .ok (wordOf (word 3 1 128))
    ∧ MoveLawful (transferring 1 0x81000000) 0 (wordOf (word 3 1 128)) false (transferBlock 1 0x81000000) (transferDesc 1 0x81000000) := by
  unfold MoveLawful LawfulBlock; decide +kernel
theorem meets_RawStoreSends : (transferring 2 0x81000000).fetchWord 0 3 2 = .ok (wordOf (word 3 2 128))
    ∧ MoveLawful (transferring 2 0x81000000) 0 (wordOf (word 3 2 128)) true (transferBlock 2 0x81000000) (transferDesc 2 0x81000000)
    ∧ (transferBlock 2 0x81000000).raw ≠ 0 ∧ (transferDesc 2 0x81000000).unit ≠ 2 ∧ (transferBlock 2 0x81000000).slot 5 = 0
    ∧ (transferBlock 2 0x81000000).slot 6 = 1 ∧ 0 < (transferBlock 2 0x81000000).slot 2
    ∧ (transferBlock 2 0x81000000).slot 2 ≤ 4096 - (transferBlock 2 0x81000000).raw % 4096
    ∧ fabChip (transferBlock 2 0x81000000).raw = (transferring 2 0x81000000).chip
    ∧ placeOf (fabLocal (transferBlock 2 0x81000000).raw) = .spad 1 0 ∧ (transferring 2 0x81000000).is (LOOM_STATUS_BENCHED 1) = false
    ∧ (transferring 2 0x81000000).spPoisoned 0 0x2000 64 = false := by
  unfold MoveLawful LawfulBlock; decide +kernel

/-- A STORE whose descriptor has level 0. -/
def badDesc : State := moving 2 [0x1000, 0, 64, 0x2000, 0, 0, 1]

theorem meets_TransfersStart_desc : badDesc.fetchWord 0 3 2 = .ok (wordOf (word 3 2 128))
    ∧ LawfulBlock badDesc 0 (wordOf (word 3 2 128)) 0xCF0 13 ∧ inSpad 0 [((blockOf (badDesc.blockBytes 0 128)).slot 0, 256)] = true
    ∧ (blockOf (badDesc.blockBytes 0 128)).slot 12 ≤ 3 ∧ (blockOf (badDesc.blockBytes 0 128)).slot 5 ≤ 2
    ∧ (blockOf (badDesc.blockBytes 0 128)).slot 6 ≤ 4 ∧ (blockOf (badDesc.blockBytes 0 128)).slot 8 ≤ 128
    ∧ (blockOf (badDesc.blockBytes 0 128)).slot 9 ≤ 128
    ∧ descBad (badDesc.spRead 0 ((blockOf (badDesc.blockBytes 0 128)).slot 0) 256) = true := by
  unfold LawfulBlock; decide +kernel

/-! ### The attention unit -/

/-- SCORE (0) or PV (1) of one query row over one page. -/
def attending (op owin : Nat) : State :=
  inTile 0 (withBlock 0 (running 0 [word 4 op 128]) 2 [1, 1, 64, 0x1000, 0x2000, 64, 64, 0x3000, 1, 0, 0, 0, 0, 0x3F800000 * (1 - op), owin])

def attBlock (op owin : Nat) : Block := blockOf ((attending op owin).blockBytes 0 128)

theorem meets_AttentionPhasesStart_score : (attending 0 0).fetchWord 0 4 0 = .ok (wordOf (word 4 0 128))
    ∧ LawfulBlock (attending 0 0) 0 (wordOf (word 4 0 128)) 0x1CF0 15 ∧ attShapeBad (attParams (attBlock 0 0)) none = false
    ∧ scaleOk ((attBlock 0 0).slot 13) = true ∧ (attending 0 0).is (ATT_STATUS_PV_DONE 0) = false
    ∧ inSpad 0 [rowsRange ((attBlock 0 0).slot 3) ((attBlock 0 0).slot 5) 1 32, rowsRange ((attBlock 0 0).slot 4) ((attBlock 0 0).slot 6) 1 2,
      ((attParams (attBlock 0 0)).pages, 4)] = true := by
  unfold LawfulBlock; decide +kernel
theorem meets_AttentionPhasesStart_page : firstPage 0 (((attending 0 0).pageList 0 (attParams (attBlock 0 0))).map fun a =>
    pageStatus (attParams (attBlock 0 0)) ((attending 0 0).spRead 0 (a + descOff 64) 64) ((attending 0 0).spPoisoned 0 (a + descOff 64) 64))
      = some (0, 1) := by decide +kernel

/-- The same with the first phase done and its parameters latched. -/
def scored : State := ((attending 1 0).set (ATT_STATUS_SCORED 0) 1).modAtt 0 fun a => { a with params := some (attParams (attBlock 1 0)) }

theorem meets_AttentionPhasesStart_pv : scored.fetchWord 0 4 1 = .ok (wordOf (word 4 1 128))
    ∧ LawfulBlock scored 0 (wordOf (word 4 1 128)) 0x1CF0 15 ∧ attShapeBad (attParams (attBlock 1 0)) (some (toSigned 32 ((attBlock 1 0).slot 14))) = false
    ∧ scored.is (ATT_STATUS_SCORED 0) = true ∧ (scored.lm 0).att.params = some (attParams (blockOf (scored.blockBytes 0 128)))
    ∧ inSpad 0 [((attParams (attBlock 1 0)).pages, 4)] = true := by
  unfold LawfulBlock; decide +kernel

/-- ADRAIN in FP32 of one row, with its phases done or not. -/
def adraining (done : Nat) : State :=
  ((inTile 0 (withBlock 0 (running 0 [word 5 1 128]) 0x52 [0x1000, 0, 256, 0, 0x2000, 0])).set (ATT_STATUS_PV_DONE 0) done).modAtt 0
    fun a => { a with params := some (attParams (attBlock 0 0)) }

theorem meets_AttentionDrains : (adraining 1).fetchWord 0 5 1 = .ok (wordOf (word 5 1 128))
    ∧ LawfulBlock (adraining 1) 0 (wordOf (word 5 1 128)) 0x0CF0 6 ∧ bits (blockOf ((adraining 1).blockBytes 0 128)).hdr 4 4 = 5
    ∧ ((adraining 1).lm 0).att.params = some (attParams (attBlock 0 0)) ∧ (adraining 1).is (ATT_STATUS_PV_DONE 0) = true
    ∧ inSpad 0 ((⟨5, some 0, 0x1000, 0, 256, 0, none, 0, 0, false⟩ : OutPlan).ranges 1 64 ++ [(0x2000, 4)]) = true := by
  unfold LawfulBlock; decide +kernel
theorem meets_AttentionDrains_order : (adraining 0).fetchWord 0 5 1 = .ok (wordOf (word 5 1 128))
    ∧ LawfulBlock (adraining 0) 0 (wordOf (word 5 1 128)) 0x0CF0 6 ∧ (adraining 0).is (ATT_STATUS_PV_DONE 0) = false := by
  unfold LawfulBlock; decide +kernel

/-! ### The Bronze unit, the Bobbin, and the ends of operations -/

/-- A Bronze word of the operation with a block in FP32. -/
def bronzing (op : Nat) (slots : List Nat) : State := inTile 0 (withBlock 0 (running 0 [word 5 op 128]) 0x52 slots)
def bronzeBlock (op : Nat) (slots : List Nat) : Block := blockOf ((bronzing op slots).blockBytes 0 128)

def elemSlots : List Nat := [0, 4, 0x1000, 0x2000, 0, 0x3000]
def combineSlots : List Nat := [2, 1, 4, 0x1000, 0x2000, 0x3000, 64, 0x4000]
def dotSlots : List Nat := [1, 1, 16, 5, 0x1000, 64, 5, 0x2000, 64, 0x3000, 64]
def normSlots : List Nat := [0x10000, 16, 0x1000, 0, 0x2000, 0, 0, 0x3000, 0, 64, 0, 0, 0, 0, 0]

theorem meets_BronzeWordsRun_elem : (bronzing 6 elemSlots).fetchWord 0 5 6 = .ok (wordOf (word 5 6 128))
    ∧ LawfulBlock (bronzing 6 elemSlots) 0 (wordOf (word 5 6 128)) 0x0CF0 6 ∧ bits (bronzeBlock 6 elemSlots).hdr 4 4 = 5 := by
  unfold LawfulBlock; decide +kernel
theorem meets_BronzeWordsRun_elem_lawful : (elemWord 0 (bronzeBlock 6 elemSlots) (0, Instr.elemAdd 0 {})).lawful = true := by
  simp only [elemWord]
  generalize Config.operandFp32 2 = f
  revert f
  decide +kernel
theorem meets_BronzeWordsRun_combine : (bronzing 2 combineSlots).fetchWord 0 5 2 = .ok (wordOf (word 5 2 128))
    ∧ LawfulBlock (bronzing 2 combineSlots) 0 (wordOf (word 5 2 128)) 0x0CF0 8 ∧ (combineWord 0 (bronzeBlock 2 combineSlots)).lawful = true := by
  unfold LawfulBlock; decide +kernel
theorem meets_BronzeWordsRun_dot : (bronzing 3 dotSlots).fetchWord 0 5 3 = .ok (wordOf (word 5 3 128))
    ∧ LawfulBlock (bronzing 3 dotSlots) 0 (wordOf (word 5 3 128)) 0x0CF0 11 ∧ (dotWord 0 (bronzeBlock 3 dotSlots)).lawful = true
    ∧ 4 * (bronzeBlock 3 dotSlots).slot 1 ≤ (bronzeBlock 3 dotSlots).slot 10 := by
  unfold LawfulBlock; decide +kernel
theorem meets_BronzeWordsRun_norm : (bronzing 4 normSlots).fetchWord 0 5 4 = .ok (wordOf (word 5 4 128))
    ∧ LawfulBlock (bronzing 4 normSlots) 0 (wordOf (word 5 4 128)) 0x2CF0 15 := by
  unfold LawfulBlock; decide +kernel
theorem meets_BronzeWordsRun_norm_lawful : (normWord (bronzing 4 normSlots) 0 (bronzeBlock 4 normSlots) false).lawful = true := by
  simp only [normWord]
  generalize Config.operandFp32 0 = f
  generalize Config.operandFp32 1 = g
  revert f g
  decide +kernel

def embedSlots : List Nat := [1, 0x1000, 0, 0, 0, 64, 0, 0x3000]

theorem meets_EmbedStarts : (bronzing 5 embedSlots).fetchWord 0 5 5 = .ok (wordOf (word 5 5 128))
    ∧ LawfulBlock (bronzing 5 embedSlots) 0 (wordOf (word 5 5 128)) 0x0CF0 12
    ∧ inSpad 0 (((bronzeBlock 5 embedSlots).slot 1, 4 * (bronzeBlock 5 embedSlots).slot 0)
      :: (embedPlan ((bronzing 5 embedSlots).get (GRD_STATUS_MODE 0)) ((bronzing 5 embedSlots).spanOpen 0) (bronzeBlock 5 embedSlots)).ranges ((bronzeBlock 5 embedSlots).slot 0) ((bronzeBlock 5 embedSlots).slot 5)) = true := by
  unfold LawfulBlock; decide +kernel

/-- DRAIN of rows from r in FP32, with ZERO. -/
def draining (r rows : Nat) : State :=
  inTile 0 (withBlock 0 (running 0 [word 5 0 128]) 0x252 [r, rows, 0x1000, 0, 2048])
def drainBlock (r rows : Nat) : Block := blockOf ((draining r rows).blockBytes 0 128)

theorem meets_DrainEmptiesRows : (draining 511 1).fetchWord 0 5 0 = .ok (wordOf (word 5 0 128))
    ∧ LawfulBlock (draining 511 1) 0 (wordOf (word 5 0 128)) 0x2FF0 13 ∧ 0 < (drainBlock 511 1).slot 1
    ∧ (drainBlock 511 1).slot 0 + (drainBlock 511 1).slot 1 ≤ 512 ∧ (drainBlock 511 1).slot 10 % 64 = 0 ∧ bitOf (drainBlock 511 1).hdr 8 = false
    ∧ bitOf (drainBlock 511 1).hdr 9 = true ∧ (draining 511 1).compat 0 = false
    ∧ inSpad 0 (((draining 511 1).drainPlan 0 (drainBlock 511 1)).ranges 1 512) = true
    ∧ (((List.range 1).any fun i => tget 0 ((draining 511 1).lm 0).arr.kinds (rowKey (1 - (draining 511 1).activeSet 0) (511 + i)) != 0) = false) := by
  unfold LawfulBlock; decide +kernel
theorem meets_DrainEmptiesRows_range : (draining 511 2).fetchWord 0 5 0 = .ok (wordOf (word 5 0 128))
    ∧ LawfulBlock (draining 511 2) 0 (wordOf (word 5 0 128)) 0x2FF0 13 ∧ 512 < (drainBlock 511 2).slot 0 + (drainBlock 511 2).slot 1 := by
  unfold LawfulBlock; decide +kernel

/-- DRAIN with scales and an index plane of a row of the shadow set whose kind is MAX. -/
def selDraining : State :=
  (inTile 0 (withBlock 0 (running 0 [word 5 0 128]) 0x352 [0, 1, 0x1000, 0, 2048, 0, 0x4000, 0, 0, 0, 0, 0x5000, 1024])).modArr 0
    fun a => { a with kinds := [(rowKey 1 0, 1)] }

theorem meets_DrainEmptiesRows_select : selDraining.fetchWord 0 5 0 = .ok (wordOf (word 5 0 128))
    ∧ LawfulBlock selDraining 0 (wordOf (word 5 0 128)) 0x2FF0 13 ∧ bitOf (blockOf (selDraining.blockBytes 0 128)).hdr 8 = true
    ∧ inSpad 0 [((blockOf (selDraining.blockBytes 0 128)).slot 6, 1024)] = true ∧ selDraining.compat 0 = false
    ∧ tget 0 (selDraining.lm 0).arr.kinds (rowKey (1 - selDraining.activeSet 0) 0) ≠ 0
    ∧ inSpad 0 [rowsRange ((blockOf (selDraining.blockBytes 0 128)).slot 11) ((blockOf (selDraining.blockBytes 0 128)).slot 12) 1 1024] = true
    ∧ inSpad 0 ((selDraining.drainPlan 0 (blockOf (selDraining.blockBytes 0 128))).ranges 1 512) = true := by
  unfold LawfulBlock; decide +kernel
/-- In IAL-1 mode the partial rows lie where the block's base puts them: within the scratchpad at 0, and beyond it at its end. -/
theorem meets_DrainEmptiesRows_partial : ((draining 511 1).set (ACC_STATUS_COMPAT 0) 1).compat 0 = true
    ∧ (∀ p, p = 0 → inSpad 0 [(p % 2 ^ 24 + 511 * 4096, 1 * 4096)] = true) ∧ (∀ p, p = 0x7FF000 → inSpad 0 [(p % 2 ^ 24 + 511 * 4096, 1 * 4096)] = false) := by
  refine ⟨by decide +kernel, ?_, ?_⟩ <;> rintro _ rfl <;> decide +kernel

/-- A Bobbin word whose descriptor is at 0x1000 of the scratchpad. -/
def bobbing (op out log2l n : Nat) : State :=
  withPad 0 0x1000 (leBytes 8 (2 + op * 2 ^ 4 + 2 ^ 8 + out * 2 ^ 12 + log2l * 2 ^ 16 + 2 ^ 40) ++ leBytes 4 7 ++ leBytes 2 32 ++ leBytes 2 n ++ leBytes 8 0
    ++ leBytes 4 0x2000 ++ leBytes 4 0x2040 ++ leBytes 4 0x3000 ++ leBytes 4 (if op = 2 then 0x3040 else 0) ++ leBytes 4 0x4000 ++ leBytes 20 0)
    (inTile 0 (running 0 [word 6 0 0x1000]))

theorem meets_BobbinWordsRun : (bobbing 0 1 6 1).fetchWord 0 6 0 = .ok (wordOf (word 6 0 0x1000))
    ∧ (bobDesc ((bobbing 0 1 6 1).spRead 0 0x1000 64)).op = 0 ∧ bobCheck 0 0x1000 ((bobbing 0 1 6 1).spRead 0 0x1000 64) = 0 := by decide +kernel
theorem meets_BobbinWordsRun_correlated : (bobbing 2 1 6 0).fetchWord 0 6 0 = .ok (wordOf (word 6 0 0x1000))
    ∧ (bobDesc ((bobbing 2 1 6 0).spRead 0 0x1000 64)).op = 2 ∧ bobCheck 0 0x1000 ((bobbing 2 1 6 0).spRead 0 0x1000 64) = 0
    ∧ (bobDesc ((bobbing 2 1 6 0).spRead 0 0x1000 64)).genA = (bobDesc ((bobbing 2 1 6 0).spRead 0 0x1000 64)).genB := by decide +kernel
theorem meets_BobbinWordsRun_range : (bobbing 0 1 5 1).fetchWord 0 6 0 = .ok (wordOf (word 6 0 0x1000))
    ∧ (bobDesc ((bobbing 0 1 5 1).spRead 0 0x1000 64)).op = 0 ∧ bobCheck 0 0x1000 ((bobbing 0 1 5 1).spRead 0 0x1000 64) = 4 := by decide +kernel

/-- A loom whose engines all run. -/
def busy : State :=
  (((((running 0 []).set (ATT_STATUS_BUSY 0) 1).set (ACC_STATUS_DRAIN_BUSY 0) 1).set (BRZ_STATUS_BUSY 0) 1).set (BOB_STATUS_BUSY 0) 1).set
    (SHT_STATUS_BUSY 0) 1

theorem meets_OperationsEnd : busy.frozen 0 = false ∧ busy.is (ATT_STATUS_BUSY 0) = true ∧ busy.is (ATT_STATUS_PHASE 0) = false
    ∧ (busy.set (ATT_STATUS_PHASE 0) 1).is (ATT_STATUS_PHASE 0) = true ∧ busy.is (ACC_STATUS_DRAIN_BUSY 0) = true
    ∧ busy.is (BRZ_STATUS_BUSY 0) = true ∧ busy.get (BRZ_STATUS_OP 0) ≠ 1 ∧ busy.pendOf 0 5 = none ∧ busy.is (BOB_STATUS_BUSY 0) = true
    ∧ busy.is (SHT_STATUS_BUSY 0) = true ∧ busy.pendOf 0 8 = none ∧ (busy.lm 0).sht.claims = [] := by decide +kernel

/-! ### The precision guard -/

def spans (op openNow : Nat) : State := (running 0 [word 7 op 0 0 0 0 9]).set (GRD_STATUS_SPAN_OPEN 0) openNow

theorem meets_SpansOpenAndVote_gbegin : (spans 0 0).fetchWord 0 7 0 = .ok (wordOf (word 7 0 0 0 0 0 9)) ∧ (spans 0 0).is (GRD_STATUS_SPAN_OPEN 0) = false := by
  decide +kernel
theorem meets_SpansOpenAndVote_nest : (spans 0 1).fetchWord 0 7 0 = .ok (wordOf (word 7 0 0 0 0 0 9)) ∧ (spans 0 1).is (GRD_STATUS_SPAN_OPEN 0) = true := by
  decide +kernel
theorem meets_SpansOpenAndVote_gcheck : (spans 1 1).fetchWord 0 7 1 = .ok (wordOf (word 7 1 0 0 0 0 9)) ∧ (spans 1 1).is (GRD_STATUS_SPAN_OPEN 0) = true
    ∧ (spans 1 1).is (LOOM_STATUS_PEER_FAULT 0) = false := by decide +kernel
theorem meets_SpansOpenAndVote_none : (spans 1 0).fetchWord 0 7 1 = .ok (wordOf (word 7 1 0 0 0 0 9)) ∧ (spans 1 0).is (GRD_STATUS_SPAN_OPEN 0) = false := by
  decide +kernel
theorem meets_VerdictReachesGroup : (∀ m ∈ (pausing (.gcheck (some 16) none) 96 0).groupOf 0, ((pausing (.gcheck (some 16) none) 96 0).sentVote m).isSome = true)
    ∧ (pausing (.gcheck (some 16) none) 96 0).groupOf 0 ≠ []
    ∧ ((pausing (.gcheck (some 16) none) 96 0).groupOf 0).any (fun k => bitOf (((pausing (.gcheck (some 16) none) 96 0).sentVote k).getD 0) 4) = true := by
  decide +kernel
theorem meets_GuardControlWrites : bits 0x400 10 1 = 1 ∧ bits 1 10 1 = 0 ∧ (spans 0 0).is (GRD_STATUS_SPAN_OPEN 0) = false
    ∧ (spans 0 1).is (GRD_STATUS_SPAN_OPEN 0) = true := by decide +kernel

/-! ### The Shuttle -/

/-- A Shuttle word with its block, one valid map entry for loom 1, and one valid queue. -/
def shuttling (op : Nat) (slots : List Nat) : State :=
  ((((inTile 0 (withBlock 0 (running 0 [word 8 op 128]) 2 slots)).set (SHT_EMAP_VALID 0 0) 1).set (SHT_EMAP_LOOM 0 0) 1).set (SHT_QUEUE_VALID 0 0) 1)

/-- Slots that serve each operation. -/
def shuttleSlots : List (Nat × List Nat) :=
  [(0, [1, 1, 1, 0, 0x1000, 0, 0, 0x2000, 0]), (1, [1, 1, 0x1000, 32, 0x2000, 64, 0x3000, 64, 0, 0x4000, 1, 0x5000]), (2, [1, 0]),
    (3, [0, 0x1000, 64, 0, 32]), (4, [1, 0x1000, 64, 1, 0, 0, 0]), (5, [1, 0x1000, 1024, 0x2000, 64, 0, 31]),
    (6, [1, 0x1000, 0, 0x10100, 0x10020, 0x2000, 0x3000, 0, 0x4000, 0x5000, 1, 0, 0, 31]), (7, [0x1000, 0, 64, 0x10000, 0, 0])]

theorem meets_ShuttleWordsStart : ∀ e ∈ shuttleSlots, (shuttling e.1 e.2).fetchWord 0 8 e.1 = .ok (wordOf (word 8 e.1 128))
    ∧ (∃ x ∈ shuttleWords (shuttling e.1 e.2) 0 (blockOf ((shuttling e.1 e.2).blockBytes 0 128)), x.op = e.1 ∧ x.lawful = true
        ∧ LawfulBlock (shuttling e.1 e.2) 0 (wordOf (word 8 e.1 128)) 0 x.nslots)
    ∧ (shuttling e.1 e.2).is (GRD_STATUS_SPAN_OPEN 0) = false := by
  unfold LawfulBlock; decide +kernel
theorem meets_ShuttleWordsStart_span : ∀ e ∈ shuttleSlots, ((shuttling e.1 e.2).set (GRD_STATUS_SPAN_OPEN 0) 1).fetchWord 0 8 e.1 = .ok (wordOf (word 8 e.1 128))
    ∧ ((shuttling e.1 e.2).set (GRD_STATUS_SPAN_OPEN 0) 1).is (GRD_STATUS_SPAN_OPEN 0) = true := by decide +kernel
theorem meets_ShuttleWordsStart_far : (shuttling 4 [1, 0x7FFFF0, 64, 1, 0, 0, 0]).fetchWord 0 8 4 = .ok (wordOf (word 8 4 128))
    ∧ (∃ x ∈ shuttleWords (shuttling 4 [1, 0x7FFFF0, 64, 1, 0, 0, 0]) 0 (blockOf ((shuttling 4 [1, 0x7FFFF0, 64, 1, 0, 0, 0]).blockBytes 0 128)),
        x.op = 4 ∧ x.ok = true ∧ x.lawful = false ∧ LawfulBlock (shuttling 4 [1, 0x7FFFF0, 64, 1, 0, 0, 0]) 0 (wordOf (word 8 4 128)) 0 x.nslots) := by
  unfold LawfulBlock; decide +kernel
theorem meets_ShuttleWordsStart_range : (shuttling 2 [0, 0]).fetchWord 0 8 2 = .ok (wordOf (word 8 2 128)) ∧ (shuttling 2 [0, 0]).is (GRD_STATUS_SPAN_OPEN 0) = false
    ∧ (∃ x ∈ shuttleWords (shuttling 2 [0, 0]) 0 (blockOf ((shuttling 2 [0, 0]).blockBytes 0 128)), x.op = 2 ∧ x.ok = false
        ∧ LawfulBlock (shuttling 2 [0, 0]) 0 (wordOf (word 8 2 128)) 0 x.nslots) := by
  unfold LawfulBlock; decide +kernel
theorem meets_MasksetCounts : 0 < (blockOf ((shuttling 4 [1, 0x1000, 64, 1, 0, 0, 0]).blockBytes 0 128)).slot 3
    ∧ ((List.range 1).map fun r => popcount ((shuttling 4 [1, 0x1000, 64, 1, 0, 0, 0]).spRead 0 (0x1000 + r * 64) 64)).sum < 65536 := by decide +kernel
theorem meets_TallySends : (blockOf ((shuttling 2 [1, 0]).blockBytes 0 128)).slot 0 = 1 ∧ (shuttling 2 [1, 0]).mapOk 0 0 = true
    ∧ (shuttling 2 [1, 0]).get (SHT_EMAP_CHIP 0 0) = (shuttling 2 [1, 0]).chip ∧ (shuttling 2 [1, 0]).get (SHT_EMAP_LOOM 0 0) = 1
    ∧ (shuttling 2 [1, 0]).get (SHT_EMAP_REPL_M1 0 0) = 0 ∧ (shuttling 2 [1, 0]).is (LOOM_STATUS_BENCHED 1) = false := by decide +kernel

/-! ### What lands at a loom -/

/-- A token record of step 0 for slot 1 of queue 0, and the loom whose FIFO it heads. -/
def recordFor (level : Nat) : Inbound := ⟨.record 0, 0x10000 + 192, 192, leBytes 192 (level + 2 ^ 112), false, 0, .host, none, 1, false⟩
def landing (i : Inbound) : State :=
  (sets [(SHT_QUEUE_VALID 0 0, 1), (SHT_QUEUE_QBASE 0 0, 0x10000), (SHT_QUEUE_CAP 0 0, 4), (SHT_QUEUE_NSRC 0 0, 1), (SHT_QUEUE_RSZ_64 0 0, 3),
    (SHT_SRC_QUOTA 0 0, 4)] State.reset).enqueue 0 i

theorem meets_RecordsLand : (landing (recordFor 2)).ncOpen 0 = true ∧ ((landing (recordFor 2)).lm 0).spd.fifo = [recordFor 2]
    ∧ (recordFor 2).kind = .record 0 ∧ (landing (recordFor 2)).inwinOk 0 .host 0 true (0x10000 + 192) 192 = true
    ∧ (landing (recordFor 2)).insideSlot 0 0 (0x10000 + 192) = none
    ∧ (landing (recordFor 2)).recordOk 0 0 (0x10000 + 192) (recordFor 2).data = some (0, 1) ∧ (recordFor 2).data.length = 192 := by decide +kernel
theorem meets_RecordsLand_bad : (landing (recordFor 1)).ncOpen 0 = true ∧ ((landing (recordFor 1)).lm 0).spd.fifo = [recordFor 1]
    ∧ (landing (recordFor 1)).inwinOk 0 .host 0 true (0x10000 + 192) 192 = true ∧ (landing (recordFor 1)).insideSlot 0 0 (0x10000 + 192) = none
    ∧ (landing (recordFor 1)).recordOk 0 0 (0x10000 + 192) (recordFor 1).data = none := by decide +kernel

/-- The first packet of a return row of step 0 for queue 0, from a source of another loom's. -/
def rowFor (src : Nat) : Inbound := ⟨.retRow 0 0 src, 0x20000, 64, leBytes 64 9, false, 0, .host, none, 1, false⟩
def rowLanding (src : Nat) : State := sets [(SHT_SRC_RET_BASE 0 0, 0x20000), (SHT_SRC_RET_STRIDE_64 0 0, 1)] (landing (rowFor src))

theorem meets_ReturnRowsLand : (rowLanding 0).ncOpen 0 = true ∧ ((rowLanding 0).lm 0).spd.fifo = [rowFor 0] ∧ (rowFor 0).kind = .retRow 0 0 0
    ∧ (rowLanding 0).inwinOk 0 .host 0 true 0x20000 64 = true
    ∧ (((rowLanding 0).lm 0).sht.rows.any fun r => r.goesOn ((rowLanding 0).sender (rowFor 0)) 0 0 0 0x20000) = false
    ∧ (rowLanding 0).retOk 0 0 0 0 0x20000 64 = true ∧ 0x20000 + (rowFor 0).data.length ≤ spadSize (0 : LoomNo) := by decide +kernel
theorem meets_ReturnRowsLand_bad : (rowLanding 5).ncOpen 0 = true ∧ ((rowLanding 5).lm 0).spd.fifo = [rowFor 5]
    ∧ (rowLanding 5).inwinOk 0 .host 0 true 0x20000 64 = true
    ∧ (((rowLanding 5).lm 0).sht.rows.any fun r => r.goesOn ((rowLanding 5).sender (rowFor 5)) 0 0 5 0x20000) = false
    ∧ (rowLanding 5).retOk 0 0 0 5 0x20000 64 = false := by decide +kernel

/-- A message of a Shuttle at the head of the FIFO, of a kind. -/
def message (k : InKind) : Inbound := ⟨k, 0, 16, leBytes 16 0, false, 0, .loomEngine 1 8, none, 0, false⟩
def aClaim : Claim := ⟨9, 0, 0, 0, [], false, 0, 0⟩

theorem meets_ShuttleMessagesTaken_tally : (landing (message .tally)).ncOpen 0 = true ∧ ((landing (message .tally)).lm 0).spd.fifo = [message .tally]
    ∧ ((landing (message .tally)).firstIn fun i => isMsg 1 none i && i.pkt.tag % 256 == (0 : LoomNo).val) = none ∧ tallyBad (landing (message .tally)) 0 (leNat ((message .tally).data.take 16)) = true := by decide +kernel
/-- A lawful tally of kind 0 with a count of two. -/
def goodTally : Inbound := { message .tally with data := leBytes 16 (2 + 2 * 2 ^ 64) }
theorem meets_ShuttleMessagesTaken_tally_ok : (landing goodTally).ncOpen 0 = true ∧ ((landing goodTally).lm 0).spd.fifo = [goodTally]
    ∧ goodTally.kind = .tally ∧ ((landing goodTally).firstIn fun i => isMsg 1 none i && i.pkt.tag % 256 == (0 : LoomNo).val) = none
    ∧ tallyBad (landing goodTally) 0 (leNat (goodTally.data.take 16)) = false := by decide +kernel
theorem meets_ShuttleMessagesTaken_claim : ((landing (message (.claim 0 0 0 9 1 0 1))).lm 0).spd.fifo = [message (.claim 0 0 0 9 1 0 1)]
    ∧ (message (.claim 0 0 0 9 1 0 1)).kind = .claim 0 0 0 9 1 (landing (message (.claim 0 0 0 9 1 0 1))).chip 1
    ∧ ((landing (message (.claim 0 0 0 9 1 0 1))).firstIn fun i => isMsg 2 none i && leAt i.pkt.payload 3 1 == (0 : LoomNo).val) = none := by decide +kernel
theorem meets_ShuttleMessagesTaken_answer :
    ((((landing (message (.grant 9 0xFFFF))).modSht 0 fun h => { h with claims := [aClaim] }).lm 0).sht.claims.find? fun c => c.choice == 9) = some aClaim
    ∧ (((landing (message (.grant 9 0xFFFF))).modSht 0 fun h => { h with claims := [aClaim] }).lm 0).spd.fifo = [message (.grant 9 0xFFFF)]
    ∧ (((landing (message (.grant 9 0xFFFF))).modSht 0 fun h => { h with claims := [aClaim] }).firstIn fun i => isMsg 3 none i && leAt i.pkt.payload 4 1 == (0 : LoomNo).val) = none := by
  decide +kernel

/-- A write to the last byte of a scratchpad, by the host or by another loom's engine. -/
def aWrite (r : Requester) : Inbound := ⟨.write, 0x7FFFFF, 1, [0xAB], false, 0, r, none, 0, false⟩

theorem meets_InboundServed : (landing (aWrite .host)).ncOpen 0 = true ∧ ((landing (aWrite .host)).lm 0).spd.fifo = [aWrite .host]
    ∧ (landing (aWrite .host)).inwinOk 0 .host 0 true 0x7FFFFF 1 = true ∧ 0x7FFFFF + (aWrite .host).data.length ≤ spadSize 0
    ∧ 0x7FFFFF + (aWrite .host).data.length ≤ 0xC00000 := by decide +kernel
theorem meets_InboundServed_denied : ((landing (aWrite (.loomEngine 1 3))).lm 0).spd.fifo = [aWrite (.loomEngine 1 3)]
    ∧ (landing (aWrite (.loomEngine 1 3))).inwinOk 0 (.loomEngine 1 3) 0 true 0x7FFFFF 1 = false := by decide +kernel
theorem meets_ScrubberAdvances : (sets [(SPD_SCRUB_CTL_EN 143, 1)] State.reset).is (SPD_SCRUB_CTL_EN 143) = true
    ∧ (sets [(SPD_SCRUB_CTL_EN 143, 1)] State.reset).frozen 143 = false ∧ 47 < spadSize 143 / 0x40000 := by decide +kernel

/-! ### Accesses and registers -/

/-- Loom 0's domain is ON, and the loom is benched or not. -/
def domainOn (benched : Nat) : State := sets [(PWR_DOM_STATE 0, 3), (LOOM_STATUS_BENCHED 0, benched)] State.reset

theorem meets_AccessesAnswered : 0 < 16 ∧ 0xFFFF0 % 65536 + 16 ≤ 65536 ∧ 0xFFFF0 < 0x100000 ∧ (domainOn 0).is (LOOM_STATUS_BENCHED 0) = false
    ∧ (domainOn 0).get (PWR_DOM_STATE 0) = 3 ∧ 0x7FFFFFF0 + 16 ≤ 0x80000000 ∧ 0x7FFFFFF0 % 65536 + 16 ≤ 65536 := by decide +kernel
theorem meets_AccessesAnswered_benched : (domainOn 1).is (LOOM_STATUS_BENCHED 0) = true := by decide +kernel
theorem meets_RegisterWritesTake : (domainOn 0).is (LOOM_STATUS_BENCHED 0) = false ∧ (domainOn 0).get (PWR_DOM_STATE 0) = 3 := by decide +kernel

/-- The two middle bytes of loom 0's SPD_LAST_THR. -/
theorem meets_RegisterAccessTypes : ∀ w ∈ [true, false], ∃ h, findReg ((SPD_LAST_THR_THR 0).key / 8 + 1) = some h
    ∧ (∀ i, i < 2 → findReg ((SPD_LAST_THR_THR 0).key / 8 + 1 + i) = some { h with byte := h.byte + i }) ∧ h.byte + 2 ≤ h.shape.bytes
    ∧ placeOf ((SPD_LAST_THR_THR 0).key / 8 + 1) = .regs 0 ∧ (∀ d, domainAt ((SPD_LAST_THR_THR 0).key / 8 + 1) = some d → (domainOn 0).notOn d = false)
    ∧ ethIdle (domainOn 0) h = false ∧ actsOnWrite h.shape.base = false ∧ showsElse h.shape.base = false
    ∧ (domainOn 0).regStatus ⟨.host, w, (SPD_LAST_THR_THR 0).key / 8 + 1, 2, if w then [7, 9] else [], 0, false, false⟩ ((SPD_LAST_THR_THR 0).key / 8 + 1) (some h) = 0 := by
  intro w hw
  refine ⟨_, rfl, ?_, ?_, ?_, ?_, ?_, ?_, ?_, ?_⟩
  · intro i hi; interval_cases i <;> rfl
  · decide +kernel
  · decide +kernel
  · intro d hd
    cases (show domainAt ((SPD_LAST_THR_THR 0).key / 8 + 1) = some 0 by decide +kernel).symm.trans hd
    decide +kernel
  · decide +kernel
  · decide +kernel
  · decide +kernel
  · revert w; decide +kernel

/-! ### HBM -/

theorem meets_HbmHoldsWrites : hbmBase ≤ hbmEnd - 4 ∧ (hbmEnd - 4) + [(1 : Byte), 2, 3, 4].length ≤ hbmEnd ∧ (hbmEnd - 4) % 256 + 4 ≤ 256
    ∧ State.reset.asleep (144 + stackOf (hbmEnd - 4)) = false ∧ State.reset.hbmDecide .host 0 false (hbmEnd - 4) = (0, none) := by decide +kernel

/-- Region 0 is one 64 KiB block of tenant 5 at the base of HBM. -/
def withRegion : State := sets [(HBM_RGN_VALID 0, 1), (HBM_RGN_TENANT 0, 5), (HBM_RGN_SIZE_64K 0, 1)] State.reset

theorem meets_HbmRefuses : hbmBase + [(1 : Byte)].length ≤ hbmEnd ∧ withRegion.asleep (144 + stackOf hbmBase) = false
    ∧ ∃ rg, withRegion.hbmDecide .host 6 false hbmBase = (3, rg) := ⟨by decide +kernel, by decide +kernel, _, rfl⟩

theorem meets_HbmRefuses_record : withRegion.errs = [] ∧ (withRegion.errs.filter fun e => e.src == 12 && e.inst == stackOf hbmBase).length < 4 := by decide +kernel
theorem meets_SleepersWait : hbmBase ≤ hbmEnd - 4 ∧ (hbmEnd - 4) + 4 ≤ hbmEnd ∧ (awaitsStacks 1).asleep (144 + stackOf (hbmEnd - 4)) = true
    ∧ (awaitsStacks 4).asleep (144 + stackOf hbmBase) = true := by decide +kernel

/-- A staged entry of tenant 0: one 64 KiB block at the base of HBM. -/
def staged : State := sets [(HBM_RGN_STAGE_ENTRY, 2 + 2 ^ 4 + 2 ^ 64)] State.reset

theorem meets_RegionCommandsDecide : staged.regionStatus 4095 (staged.get HBM_RGN_STAGE_ENTRY) = 0 ∧ staged.is (HBM_RGN_FIXED 4095) = false
    ∧ staged.is (HBM_RGN_LENT 4095) = false := by decide +kernel
theorem meets_RegionCommandsDecide_refused : (sets [(HBM_RGN_FIXED 7, 1)] staged).regionStatus 7 ((sets [(HBM_RGN_FIXED 7, 1)] staged).get HBM_RGN_STAGE_ENTRY) ≠ 0
    ∧ (sets [(HBM_RGN_FIXED 7, 1)] staged).is (HBM_RGN_FIXED 7) = true := by decide +kernel
theorem meets_KeySlotsChange : bits ((sets [(SEC_KEY_DATA_KEYS, 1)] State.reset).get SEC_KEY_DATA_KEYS) 0 256
      ≠ bits ((sets [(SEC_KEY_DATA_KEYS, 1)] State.reset).get SEC_KEY_DATA_KEYS) 256 256
    ∧ bits (State.reset.get SEC_KEY_DATA_KEYS) 0 256 = bits (State.reset.get SEC_KEY_DATA_KEYS) 256 256 := by decide +kernel
theorem meets_CacheAndLoopCommands : (sets [(MSC_STATUS_FLUSH_BUSY 11, 1)] State.reset).is (MSC_STATUS_FLUSH_BUSY 11) = true ∧ 2 % 4 ≠ 3
    ∧ State.reset.is (HBM_STATUS_TRAINED 11) = false ∧ State.reset.is (HBM_STATUS_BENCHED 11) = false
    ∧ (sets [(HBM_STATUS_TRAINED 11, 1)] State.reset).is (HBM_STATUS_TRAINED 11) = true := by decide +kernel

/-! ### The serving controller -/

theorem meets_ServingRegistersTake : 900 ≤ 1850 ∧ 1850 ≤ 1850 ∧ (899 < 900 ∨ 1850 < 899) ∧ ringOk (63 % 2 ^ 17) = false ∧ ringOk (65536 % 2 ^ 17) = true
    ∧ (sets [(FAB_EPOCH_T, 10000000)] State.reset).svc.refilled < (sets [(FAB_EPOCH_T, 10000000)] State.reset).svcTime / 1000000 := by decide +kernel

/-- A Warp bolt 0 and a Weft bolt 1 that are OPEN, a resident slot that names them with a profile, and requests admitted. -/
def serving : State :=
  (sets [(SVC_CTL_ADMIT_EN, 1), (SVC_RQ_SIZE_ENTRIES, 64), (SVC_RQ_BASE_ADDR, hbmBase), (SVC_RQ_TAIL_TAIL, 1), (BLT_STATE 0, 1), (BLT_STATE 1, 1),
    (BLT_KV_FREE 1, 9), (RES_VALID 0, 1), (RES_WBOLT 0, 0), (RES_DBOLT 0, 1), (RES_STATE 0, 2), (TEN_VALID 0, 1), (TEN_MODELS 0, 1),
    (TEN_MAX_STREAMS 0, 1), (TEN_LEVEL 0, 100)] State.reset).modSvc
      fun v => { v with profiles := [(0, leBytes 18 (2 ^ 128) ++ leBytes 2 8 ++ leBytes 4 0 ++ leBytes 4 1000)] }

/-- A request of an OP at the head of the ring. -/
def request (op : Nat) (words : List (Nat × Nat)) (s : State) : State :=
  words.foldl (fun s e => s.memWrite (hbmBase + e.1) (leBytes 4 e.2) false) (s.memWrite hbmBase (leBytes 4 (2 + op * 16)) false)

/-- The request at the head is well formed, of the OP, and what it says of the state after its read holds. -/
def requestMeets (s : State) (op : Nat) (p : State → List Byte → Bool) : Bool :=
  match s.rqEntry with
  | some (_, r, u) => !s.stacksAsleep && bits (leAt r.data 0 4) 4 4 == op && !rqBadEntry r && p u r.data
  | none => false

/-- ADMIT of 10 prompt tokens and one more for tenant 0 and slot 0. -/
def admitting : State := request 0 [(16, 10), (20, 1), (48, 4096)] serving

theorem meets_AdmitAnswers_early : requestMeets (request 0 [] serving) 0 (fun u l => u.admitEarly l != 0) = true := by decide +kernel
theorem meets_AdmitAnswers : requestMeets admitting 0 (fun u l => u.admitEarly l == 0 && leAt l 56 8 == 0
    && (match u.admitLate l none with | .inr _ => true | .inl _ => false)
    && ((List.range 16384).find? fun x => u.get (STR_STATE x) == 0) == some 0) = true := by decide +kernel

/-- A stream 5 with TAG 7. -/
def streaming : State := sets [(STR_STATE 5, 3), (STR_TAG 5, 7)] serving

theorem meets_RequestsTake_cancel : requestMeets (request 1 [(8, 7), (52, 5)] streaming) 1 (fun u l => u.get (STR_STATE (leAt l 52 4)) != 0
    && u.get (STR_TAG (leAt l 52 4)) == leAt l 8 8 && !u.is (STR_CANCEL_REQ (leAt l 52 4)) && !u.inPlan (leAt l 52 4)) = true := by decide +kernel
theorem meets_RequestsTake_cancel_frozen : requestMeets ((request 1 [(8, 7), (52, 5)] streaming).modSvc fun v => { v with plans := [⟨1, some 0, [(5, 0)], [], 0, [], false⟩] })
    1 (fun u l => u.inPlan (leAt l 52 4) && !u.is (STR_CANCEL_REQ (leAt l 52 4))) = true := by decide +kernel
theorem meets_RequestsTake_evict : requestMeets (request 2 [] serving) 2 (fun u l => u.is (RES_VALID (bits (leAt l 4 4) 10 6))
    && u.get (RES_STREAMS (bits (leAt l 4 4) 10 6)) == 0 && u.get (RES_STATE (bits (leAt l 4 4) 10 6)) != 1) = true := by decide +kernel

theorem meets_RequestsTake_bolt : requestMeets (request 3 [(0, 2 + 48 + 2 ^ 9)] (withBolts serving)) 3 (fun u l => bitOf (leAt l 0 4) 9
    && u.boltValid (bits (leAt l 4 4) 16 6) && u.get (BLT_STATE (bits (leAt l 4 4) 16 6)) != 3 && u.validStreams.isEmpty
    && !(u.boltLooms (bits (leAt l 4 4) 16 6)).any fun n => u.is (LOOM_STATUS_BENCHED n)) = true
    ∧ requestMeets (request 3 [] ((withBolts serving).set (BLT_STATE 0) 3)) 3 (fun u l => !bitOf (leAt l 0 4) 9
    && u.boltValid (bits (leAt l 4 4) 16 6) && u.get (BLT_STATE (bits (leAt l 4 4) 16 6)) == 3 && u.validStreams.isEmpty) = true := by decide +kernel

/-- A stream is bound to slot 0, whose bolts are 0 and 1. -/
def bound (s : State) : State := sets [(STR_STATE 5, 3), (STR_SLOT 5, 0)] (withBolts s)

/-- Where a stream is bound: bolt 2, which is no bolt of its slot's, closes without changing STRETCH; bolt 0, which is one, does not. -/
theorem meets_RequestsTake_bound : requestMeets (request 3 [(4, 2 ^ 16)] (bound serving)) 3 (fun u l => !bitOf (leAt l 0 4) 9
      && u.boltValid (bits (leAt l 4 4) 16 6) && (u.set (BLT_STATE (bits (leAt l 4 4) 16 6)) 0).stretch == u.stretch
      && u.validStreams.all fun x => u.binds (u.get (STR_SLOT x)) (bits (leAt l 4 4) 16 6)) = true
    ∧ requestMeets (request 3 [(4, 2 ^ 16)] ((bound serving).set (RES_DBOLT 0) 0)) 3 (fun u l => !bitOf (leAt l 0 4) 9
      && u.boltValid (bits (leAt l 4 4) 16 6) && (u.set (BLT_STATE (bits (leAt l 4 4) 16 6)) 0).stretch == u.stretch
      && u.validStreams.all fun x => !u.binds (u.get (STR_SLOT x)) (bits (leAt l 4 4) 16 6)) = true := by decide +kernel
/-- Slot 0 loads; the copy has ended with a status. -/
def slotLoading (st : Nat) : State :=
  { serving.modSvc fun v => { v with loads := [⟨0, 0, 4096, hbmBase, 0, 0⟩] } with
    tiers := { ops := [(2, { cmd := List.replicate 64 0, entry := 0, done := some (st, 0) })] } }

theorem meets_VariantLoadsEnd : ((slotLoading 0).tierGoOn 2).loadOver 0 = some (⟨0, 0, 4096, hbmBase, 0, 0⟩, 0) := by decide +kernel
theorem meets_VariantLoadsEnd_failed : ((slotLoading 5).tierGoOn 2).loadOver 0 = some (⟨0, 0, 4096, hbmBase, 0, 0⟩, 5)
    ∧ ((slotLoading 5).tierGoOn 2).streamsOf 0 = [] := by decide +kernel

/-- Bolt 0 has a stream with ten prompt tokens left. -/
def freezing : State := sets [(STR_STATE 5, 1), (STR_PROMPT_LEN 5, 10)] (withBolts serving)

theorem meets_StepsFreeze : 0 ∈ freezing.groupBolts 0 ∧ (∀ c ∈ freezing.groupBolts 0, freezing.planOf c = none)
    ∧ (∃ c ∈ freezing.groupBolts 0, (freezing.makePlan c).items ≠ []) := by decide +kernel

/-- Bolt 0's step is frozen, and its loom has reported or has faulted. -/
def frozenStep (reported : Bool) (fault : Nat) : State :=
  sets [(LOOM_STATUS_FAULT 0, fault)] (((withBolts serving).modSvc fun v => { v with plans := [⟨0, some 0, [], [], 0, [], false⟩] }).modSeq 0 fun q => { q with reported })

theorem meets_StepsEnd : (frozenStep true 0).planOf 0 = some ⟨0, some 0, [], [], 0, [], false⟩ ∧ ∀ q ∈ (frozenStep true 0).svc.plans,
    (frozenStep true 0).groupNo q.bolt = (frozenStep true 0).groupNo 0 → ∀ n ∈ (frozenStep true 0).boltLooms q.bolt, ((frozenStep true 0).lm n).seq.reported = true := by
  decide +kernel
theorem meets_StepsEnd_fault : (frozenStep false 1).planOf 0 = some ⟨0, some 0, [], [], 0, [], false⟩ ∧ (frozenStep false 1).mustAbort 0 ≠ 0 := by decide +kernel

/-! ### The tiers -/

/-- A tier command as R348 lays it out. -/
def tierWord (op : Nat) (id tenant addr len offset arg : Nat := 0) : Nat :=
  2 + op * 2 ^ 4 + tenant * 2 ^ 32 + addr * 2 ^ 64 + len * 2 ^ 128 + id * 2 ^ 192 + offset * 2 ^ 256 + arg * 2 ^ 320

/-- An engine whose ring is at the base of HBM, with one command waiting. -/
def tierAsks (nbt : Bool) (w : Nat) (s : State) : State :=
  (sets [(ringSize nbt, 64), (ringBase nbt, hbmBase), (ringTail nbt, 1)] s).memWrite hbmBase (leBytes 64 w) false

/-- The entry at the head meets EntryAt, and what it says of the state after its read holds. -/
def entryMeets (s : State) (nbt : Bool) (p : State → TierCmd → Bool) : Bool :=
  match s.ringEntry nbt with
  | some (_, r, u) =>
    let c := tierCmdOf r.data
    !s.stacksAsleep && !tierEntryBad r.data && r.status == 0 && !r.pois.any id && (!nbt || (c.offset % 4096 == 0 && c.len % 4096 == 0 && decide (c.id < 65536)))
      && (nbt || !s.chanDrains c.id) && p u c
  | none => false

/-- The flash tier, enabled, with one channel of two 4-unit blocks and object 7 of tenant 0. -/
def flash : State :=
  { sets [(FTL_CTL_EN, 1)] State.reset with
    card := [(1, leBytes 20 0 ++ leBytes 2 (2 ^ 15))], tiers := { chans := [(0, ⟨4, 2, 16, 1, []⟩)], objs := [⟨7, 0, 65536, 0⟩] } }

theorem meets_ObjectCommandsComplete_create : entryMeets (tierAsks false (tierWord 1 9) flash) false (fun u c => c.op == 1 && c.id == 9
    && (u.flashObj c.id).isNone) = true := by decide +kernel
theorem meets_ObjectCommandsComplete : entryMeets (tierAsks false (tierWord 5 7) flash) false (fun u c => c.op == 5 && c.id != 0
      && (match u.flashObj c.id with | some o => !foreign c o.tenant | none => false)) = true
    ∧ entryMeets (tierAsks false (tierWord 6 7) flash) false (fun u c => c.op == 6 && c.id != 0
      && (match u.flashObj c.id with | some o => !foreign c o.tenant | none => false)) = true
    ∧ entryMeets (tierAsks false (tierWord 6 9) flash) false (fun u c => c.op == 6 && c.id != 0 && (u.flashObj c.id).isNone) = true := by
  decide +kernel
theorem meets_DataCommandsStart_write : entryMeets (tierAsks false (tierWord 2 7 (len := 4096) (addr := hbmBase)) flash) false
    (fun u c => c.op == 2 && u.writeStatus c == 0) = true := by decide +kernel
theorem meets_DataCommandsStart_read : entryMeets (tierAsks false (tierWord 3 7 (addr := hbmBase)) flash) false
      (fun u c => c.op == 3 && u.readStatus c == 0 && c.offset % 64 == 0 && c.len % 64 == 0
        && decide (c.offset + c.len ≤ ceil64 (((u.flashObj c.id).map FlashObj.len).getD 0))) = true
    ∧ entryMeets (tierAsks false (tierWord 4 7 (addr := hbmBase)) flash) false (fun u c => c.op == 4 && u.readStatus c == 0) = true := by
  decide +kernel

/-- Borrowed lease 0 and lent lease 0, each of one page with chip 1, in the states given; a route leads to chip 1. -/
def leased (b l : Nat) : State :=
  sets [(NBT_BORROW_STATE 0, b), (NBT_BORROW_PEER 0, 1), (NBT_BORROW_LEASE 0, 3), (NBT_BORROW_PAGES 0, 1), (NBT_BORROW_BITMAP 0, hbmBase + 4096),
    (NBT_LEND_STATE 0, l), (NBT_LEND_PEER 0, 1), (NBT_LEND_LEASE 0, 3), (NBT_LEND_BASE 0, hbmBase), (FAB_CTL_EN, 1), (FAB_RT_PORT0 1, 0), (FAB_P_STATE_STATE 0, 4),
    (FAB_P_FEAT_FEATURES 0, 63), (HBM_RGN_VALID 0, 1), (HBM_RGN_SIZE_64K 0, 1)] State.reset

theorem meets_DataCommandsStart_writeback : entryMeets (tierAsks true (tierWord 0x15 3 (len := 4096)) (leased 2 0)) true
      (fun u c => c.op == 0x15 && (match u.leaseFor c [2, 3] with | .inl i => !u.leaseRangeBad c i | .inr _ => false)) = true
    ∧ entryMeets (tierAsks true (tierWord 0x18) (leased 2 0)) true (fun _ c => c.op == 0x18) = true := by decide +kernel
theorem meets_TierCommandsEnd : (flash.modTiers fun t => { t with ops := [(0, { cmd := [], entry := hbmBase, done := some (0, 5) })] }).tiers.ops.find?
      (fun y => y.1 == b2n false) = some (0, { cmd := [], entry := hbmBase, done := some (0, 5) })
    ∧ ringOk (65536 % 2 ^ (ringSize false).width) = true ∧ ringOk (63 % 2 ^ (ringSize true).width) = false := by decide +kernel

/-- Block 0 holds nothing valid, block 1 one unit. -/
def worn : State := flash.modTiers fun t => { t with
  blks := [(0, { prog := 4, reads := 2 ^ 40, erases := 2 ^ 40 }), (1, { prog := 1, erases := 1 })], map := [(objKey 7 0, 2)] }

theorem meets_FlashUpkeepKeepsData : worn.gcVictim = some 0 ∧ worn.blkUnitsOf 0 = [] ∧ worn.get FTL_RD_THR_READS ≤ (worn.flashBlk 0).reads
    ∧ worn.blkGood 0 = true ∧ (worn.flashBlk 0).prog ≠ 0 ∧ worn.leastWorn = some (1, 1) ∧ 2 ^ 40 ∈ worn.eraseCounts ∧ 1 ∈ worn.eraseCounts
    ∧ worn.get FTL_WL_DELTA_ERASES < 2 ^ 40 - 1 := by
  decide +kernel

/-! ### Leases -/

/-- A message packet from chip 1 waits. -/
def messaged (msgtype : Nat) (b : List Byte) (s : State) : State :=
  s.modFab fun f => { f with inbox := f.inbox ++ [⟨0, 0, 1, 0, { ptype := 6, cls := 0, len := b.length, dst := s.chip, src := 1, msgtype, payload := b }, 0⟩] }
/-- A lease message of a type about lease 3. -/
def leaseTells (type : Nat) (s : State) : State := messaged 0x10 (leBytes 32 (2 + 16 * type + 3 * 2 ^ 16 + 9 * 2 ^ 160)) s
/-- The first lease message of the type is well formed, and what it says of the state after it is taken holds. -/
def leaseMeets (s : State) (type : Nat) (p : State → Nat → List Byte → Bool) : Bool :=
  match s.firstIn fun i => i.pkt.ptype == 6 && i.pkt.msgtype == 0x10 && leAt i.pkt.payload 0 1 / 16 == type with
  | some i =>
    let b := i.pkt.payload
    b.length == 32 && leAt b 0 1 % 16 == 2 && leAt b 1 1 == 0 && bits (leAt b 4 4) 10 22 == 0 && allZero (slice b 24 8) && allZero (slice b 1 1)
      && p (s.takeIn i) i.pkt.src b
  | none => false

theorem meets_LeaseMessagesToBorrower_offer : leaseMeets (leaseTells 1 State.reset) 1 (fun u _ _ =>
    ((List.range 256).find? fun i => u.get (NBT_BORROW_STATE i) == 0 || u.get (NBT_BORROW_STATE i) == 4) == some 0) = true := by decide +kernel
theorem meets_LeaseMessagesToBorrower : leaseMeets (leaseTells 4 (leased 2 0)) 4 (fun u src b => u.borrowedFrom src (leAt b 2 2) == some 0
      && u.get (NBT_BORROW_STATE 0) == 2) = true
    ∧ leaseMeets (leaseTells 6 (leased 3 0)) 6 (fun u src b => u.borrowedFrom src (leAt b 2 2) == some 0 && u.get (NBT_BORROW_STATE 0) != 1) = true
    ∧ leaseMeets (leaseTells 7 (leased 2 0)) 7 (fun u src b => u.borrowedFrom src (leAt b 2 2) == some 0) = true := by decide +kernel
theorem meets_LeaseMessagesToLender : leaseMeets (leaseTells 2 (leased 0 1)) 2 (fun u src b => u.lentTo src (leAt b 2 2) == some 0
      && u.get (NBT_LEND_STATE 0) == 1 && u.regionAt (u.get (NBT_LEND_BASE 0)) == some 0) = true
    ∧ leaseMeets (leaseTells 3 (leased 0 1)) 3 (fun u src b => u.lentTo src (leAt b 2 2) == some 0 && u.get (NBT_LEND_STATE 0) == 1) = true
    ∧ leaseMeets (leaseTells 5 (leased 0 2)) 5 (fun u src b => u.lentTo src (leAt b 2 2) == some 0) = true := by decide +kernel
theorem meets_LeaseCommandsTake_lend : entryMeets (tierAsks true (tierWord 0x11 (addr := hbmBase) (len := 65536) (arg := 1)) (leased 0 0)) true
    (fun u c => c.op == 0x11 && u.lendRegion c == some 0 && ((List.range 256).find? fun i => u.get (NBT_LEND_STATE i) == 0) == some 0
      && !((List.range 256).any fun i => u.get (NBT_LEND_STATE i) != 0 && u.get (NBT_LEND_BASE i) == c.addr) && decide (c.arg < 2 ^ 14)
      && c.arg != u.chip && u.reachable c.arg) = true := by decide +kernel
theorem meets_LeaseCommandsTake_accept : entryMeets (tierAsks true (tierWord 0x12 3 (arg := hbmBase + 4096)) (leased 1 0)) true
    (fun u c => c.op == 0x12 && u.leaseFor c [1] == .inl 0 && decide (hbmBase ≤ c.arg)
      && decide (c.arg + 2 * u.get (NBT_BORROW_PAGES 0) ≤ hbmEnd) && c.tenant == 0 && u.reachable (u.get (NBT_BORROW_PEER 0))) = true
    ∧ entryMeets (tierAsks true (tierWord 0x13 3) (leased 1 0)) true (fun u c => c.op == 0x13 && u.leaseFor c [1] == .inl 0) = true := by
  decide +kernel
theorem meets_LeaseCommandsTake : entryMeets (tierAsks true (tierWord 0x14 3 (arg := 100)) (leased 0 2)) true
      (fun u c => c.op == 0x14 && u.lent c.id [2] == some 0 && !foreign c (u.get (NBT_LEND_TENANT 0)) && decide (c.arg < 2 ^ 32) && u.reachable (u.get (NBT_LEND_PEER 0))) = true
    ∧ entryMeets (tierAsks true (tierWord 0x16 3) (leased 2 0)) true
      (fun u c => c.op == 0x16 && u.leaseFor c [2, 3] == .inl 0 && !u.leaseRangeBad c 0) = true
    ∧ entryMeets (tierAsks true (tierWord 0x17 3) (leased 2 0)) true
      (fun u c => c.op == 0x17 && u.leaseFor c [2, 3] == .inl 0 && !(List.range (16 * u.get (NBT_BORROW_PAGES 0))).any (u.subDirty 0)
        && u.reachable (u.get (NBT_BORROW_PEER 0))) = true := by decide +kernel
theorem meets_LeaseTimesPass : (leased 2 3).get (NBT_LEND_STATE (0 : Fin 256)) = 3
    ∧ max 1 ((leased 2 3).get NBT_CTL_KA_MISS) ≤ tget 0 ((leased 2 3).modTiers fun t => { t with missed := [(0, 65535), (256, 65535)] }).tiers.missed 256
    ∧ max 1 ((leased 2 3).get NBT_CTL_KA_MISS) ≤ tget 0 ((leased 2 3).modTiers fun t => { t with missed := [(0, 65535), (256, 65535)] }).tiers.missed 0 := by
  decide +kernel

/-! ### The fabric -/

/-- Port 0 in a state. -/
def portIn (k : Nat) : State := sets [(FAB_P_STATE_STATE 0, k)] State.reset

theorem meets_PortStatesChange : (portIn 1).portIs (0 : PortNo) 1 = true ∧ (portIn 5).get (FAB_P_STATE_STATE (0 : PortNo)) ∈ [2, 3, 4, 5]
    ∧ (portIn 6).portIs (0 : PortNo) 0 = false ∧ (portIn 2).portIs (0 : PortNo) 2 = true ∧ (sets [(FAB_P_ID_PERS 0, 1)] (portIn 0)).portIs (0 : PortNo) 0 = true
    ∧ (sets [(FAB_P_ID_PERS 0, 1)] (portIn 0)).get (FAB_P_ID_PERS (0 : PortNo)) = 1 ∧ bitOf (sets [(FAB_P_ID_PERS 0, 1)] (portIn 0)).mgmt.outPorts (0 : PortNo) = false
    ∧ (sets [(FAB_P_ID_PERS 0, 1)] (portIn 0)).is FAB_ID_STRAP_BAD = false := by decide +kernel

/-- A message that only neighbours exchange has come by port 0. -/
def linkTells (k type : Nat) (b : List Byte) : State := messaged type b (portIn k)
/-- Something holds of the first message of the type that came by port 0. -/
def messageMeets (s : State) (type : Nat) (p : InPkt → Bool) : Bool := (s.firstIn (isMsg type (some 0))).any p

theorem meets_CapabilityWords_refused : (linkTells 2 0x40 (leBytes 16 0)).portIs (0 : PortNo) 2 = true
    ∧ messageMeets (linkTells 2 0x40 (leBytes 16 0)) 0x40 (fun i => (linkTells 2 0x40 (leBytes 16 0)).capCause 0 (slice i.pkt.payload 0 16) != 0) = true := by
  decide +kernel
theorem meets_CapabilityWords : messageMeets (linkTells 2 0x40 (leBytes 16 (2 + 2 ^ 22))) 0x40
    (fun i => (linkTells 2 0x40 (leBytes 16 (2 + 2 ^ 22))).capCause 0 (slice i.pkt.payload 0 16) == 0) = true := by decide +kernel
theorem meets_SendsOn : ((portIn 2).modPort 0 fun t => { t with credits := [1] }).canSend 0 0
      (linkPacket ((portIn 2).modPort 0 fun t => { t with credits := [1] }) 0 0x40 (State.reset.capWord 0)) = true
    ∧ (((portIn 2).modPort 0 fun t => { t with credits := [1] }).port 0).txq = [] := by decide +kernel
theorem meets_AuthenticationDecides : (portIn 3).portIs (0 : PortNo) 3 = true ∧ messageMeets (linkTells 3 0x41 (leBytes 32 9)) 0x41 (fun _ => true) = true
    ∧ messageMeets (linkTells 3 0x42 (leBytes 64 9)) 0x42 (fun i => i.pkt.payload.length != 4096
        && (linkTells 3 0x42 (leBytes 64 9)).verdict .identity [] (authDigest [] [] [] []) [] [] != 0) = true
    ∧ messageMeets (linkTells 3 0x43 [1]) 0x43 (fun i => leAt i.pkt.payload 0 1 == 1) = true
    ∧ messageMeets (linkTells 3 0x43 [0]) 0x43 (fun i => leAt i.pkt.payload 0 1 != 1) = true := by decide +kernel
theorem meets_AuthenticationDecides_fragment : messageMeets (linkTells 3 0x42 (List.replicate 4096 7)) 0x42 (fun i => i.pkt.payload.length == 4096) = true := by
  decide +kernel
theorem meets_AuthenticationDecides_pair : (linkTells 3 0x41 (leBytes 32 9)).mgmt.signing = none ∧ (linkTells 3 0x41 (leBytes 32 9)).mgmt.signs.any SignJob.isProof = false
    ∧ ((linkTells 3 0x41 (leBytes 32 9)).modMgmt fun m => { m with signing := some (.command, 0) }).mgmt.signing.isSome = true := by decide +kernel

/-- Port 0 is UP, with the features given, and leads to the parent clock. -/
def syncing (features : Nat) : State := sets [(FAB_SYNC_CTL_PARENT, 0), (FAB_P_FEAT_FEATURES 0, features)] (portIn 4)
/-- The words of an exchange's message. -/
def syncBody (s : State) (i : InPkt) : List Byte := slice i.pkt.payload 0 8 ++ leBytes 8 i.start ++ leBytes 8 s.epoch

theorem meets_TimeExchanges_send : (syncing 63).syncPort = some 0 ∧ (syncing 0).syncPort = some 0
    ∧ (syncing 63).linkCarries 0 ((syncing 63).msg ((syncing 63).neighbour 0) 0 0x20 (leBytes 8 (syncing 63).epoch)) = true
    ∧ (syncing 0).linkCarries 0 ((syncing 0).msg ((syncing 0).neighbour 0) 0 0x20 (leBytes 8 (syncing 0).epoch)) = false
    ∧ (syncing 0).get (FAB_P_STATE_QCAUSE 0) = 0 ∧ (syncing 63).is FAB_SYNC_STS_REFCLK_LOST = false := by decide +kernel
theorem meets_TimeExchanges_sync : ((messaged 0x20 (leBytes 8 1) (syncing 63)).firstIn (isMsg 0x20 none)).any
    (fun i => decide (i.port < 6) && (messaged 0x20 (leBytes 8 1) (syncing 63)).portUp i.port
      && (messaged 0x20 (leBytes 8 1) (syncing 63)).linkCarries i.port ((messaged 0x20 (leBytes 8 1) (syncing 63)).msg
        ((messaged 0x20 (leBytes 8 1) (syncing 63)).neighbour i.port) 0 0x21 (syncBody (messaged 0x20 (leBytes 8 1) (syncing 63)) i))) = true := by decide +kernel
theorem meets_TimeExchanges_answer : ((messaged 0x21 (leBytes 24 (2 ^ 64 * 9)) (syncing 63)).firstIn (isMsg 0x21 none)).any
      (fun i => (messaged 0x21 (leBytes 24 (2 ^ 64 * 9)) (syncing 63)).syncPort == some i.port) = true
    ∧ (0 : Int) ≤ ((9 - 0 : Int) + (0 - 0)).tdiv 2 ∧ ((0 - 9 : Int) + (0 - 0)).tdiv 2 < 0
    ∧ 2 ≤ ((syncing 63).modFab fun f => { f with exchanges := 2 }).fab.exchanges := by decide +kernel

/-- A packet whose every field holds the largest value of R373. -/
def fullPacket : Packet :=
  { level := 15, ptype := 15, cls := 3, ackreq := true, poison := true, status := 15, len := 65535, dst := 16383, src := 16383, addr := 2 ^ 64 - 1
    tenant := 1023, tag := 65535, msgtype := 255, hops := 255, rty := 255, payload := [7] }

theorem meets_PacketsReadBack : PacketFits fullPacket := by unfold PacketFits; decide +kernel

/-- A DATA flit of one whole packet: a lease message for chip 0 from chip 1. -/
def flitBody : List Byte :=
  leBytes 8 (1 + 2 ^ 5 + 2 ^ 6 + 32 * 2 ^ 48 + 2 * 2 ^ 56)
    ++ ({ ptype := 6, cls := 0, len := 0, dst := 0, src := 1, msgtype := 0x10 } : Packet).bytes ++ List.replicate 212 0
def flit : List Byte := flitBody ++ leBytes 4 (crc32 flitBody)

/-- Port 0 is UP at level 2. -/
def upPort : State := sets [(FAB_P_STATE_LEVEL 0, 2)] (portIn 4)

theorem meets_FlitsRefused : upPort.get (FAB_P_STATE_STATE (0 : PortNo)) ∈ [2, 3, 4, 5] ∧ flit.length = 256
    ∧ (List.replicate 256 (7 : Byte)).length = 256 ∧ crc32 ((List.replicate 256 (7 : Byte)).take 252) ≠ leAt (List.replicate 256 7) 252 4 := by decide +kernel
theorem meets_FlitsTaken_flit : flit.length = 256 ∧ crc32 (flit.take 252) = leAt flit 252 4 ∧ upPort.flitRefused 0 (leAt flit 0 8) flit = false
    ∧ bits (leAt flit 0 8) 0 2 = 1 ∧ bitOf (leAt flit 0 8) 35 = false ∧ bitOf (leAt flit 0 8) 5 = true ∧ bitOf (leAt flit 0 8) 6 = true
    ∧ 2 * bits (leAt flit 0 8) 3 2 + bits (leAt flit 0 8) 2 1 = 0 ∧ bits (leAt flit 0 8) 8 12 = (upPort.port 0).rxSeq := by decide +kernel
theorem meets_FlitsTaken : upPort.portUp (0 : PortNo) = true ∧ (upPort.port 0).nak = none ∧ (upPort.port 0).replayTo = none ∧ (upPort.port 0).replay = none
    ∧ (upPort.port 0).txq = [] ∧ (tget {} (upPort.port 0).rx 0).flits = 0 ∧ upPort.bufUsed 0 0 < vcSize 0 ∧ upPort.get (FAB_P_STATE_LEVEL 0) ≠ 1
    ∧ upPort.malformed 2 0 ((slice flit 8 240).take (bits (leAt flit 0 8) 48 8)) = none
    ∧ (packetOf ((slice flit 8 240).take (bits (leAt flit 0 8) 48 8))).dst = upPort.chip ∧ bits (leAt flit 0 8) 48 8 ≤ 240 := by decide +kernel

/-- Port 0 with a sent flit 5 that its peer has not acknowledged. -/
def sent : State := (sets [(FAB_P_RETRY_THR_THR 0, 4)] upPort).modPort 0 fun t => { t with retry := [⟨4, 0, true, true, 32, []⟩, ⟨5, 0, true, true, 32, []⟩] }

theorem meets_NaksReplay : sent.portUp (0 : PortNo) = true ∧ (sent.port 0).replay = none ∧ (sent.port 0).txq = []
    ∧ ackTo 4 (sent.port 0).retry = [⟨5, 0, true, true, 32, []⟩]
    ∧ (pushTime sent.now (windowOf (sent.get (FAB_P_RETRY_THR_WIN_MS 0))) (sent.port 0).retryTimes).length ≤ sent.get (FAB_P_RETRY_THR_THR 0) := by decide +kernel

/-- A packet of the device's own for chip 1 waits at the router, with or without a route. -/
def leaving (routed : Bool) : State :=
  ((sets [(FAB_CTL_EN, b2n routed), (FAB_RT_PORT0 1, 0), (FAB_P_FEAT_FEATURES 0, 63)] upPort).modPort 0 fun t => { t with credits := [1] }).modFab
    fun f => { f with inq := [⟨6, 0, 0, 0, { ptype := 6, cls := 0, len := 0, dst := 1, src := 0, msgtype := 0x10 }, 0⟩] }

theorem meets_PacketsForwarded : ((leaving true).headPkt (6 : Fin 7) (0 : Fin 8)).any (fun i => (leaving true).route i.pkt == some (0, 0)
      && (leaving true).canSend 0 0 i.pkt && (leaving true).turn 0 48 0 ((leaving true).ready 0)) = true
    ∧ ((leaving false).headPkt (6 : Fin 7) (0 : Fin 8)).any (fun i => (leaving false).route i.pkt == none && !wantsResponse i.pkt) = true := by decide +kernel

/-- A packet of five flits from chip 2 for chip 1 is arriving by port 0, of which the first flit has come; port 1 leads there. -/
def cutting : State :=
  ((sets [(FAB_CTL_EN, 1), (FAB_RT_PORT0 1, 1), (FAB_P_FEAT_FEATURES 1, 63), (FAB_P_STATE_STATE 1, 4), (FAB_P_STATE_LEVEL 1, 2)] upPort).modPort 0 fun t =>
      { t with rx := [(0, { data := ({ ptype := 6, cls := 0, len := 1000, dst := 1, src := 2, msgtype := 0x50 } : Packet).bytes, flits := 1 })] }).modPort 1
    fun t => { t with credits := [8] }

theorem meets_PacketsForwarded_cut : cutting.headPkt (0 : Fin 7) (0 : Fin 8) = none
    ∧ (cutting.cutHead (0 : Fin 7) (0 : Fin 8)).any (fun i => cutting.route i.pkt == some (1, 0) && cutting.canSend 1 0 i.pkt
      && cutting.turn 1 0 0 (cutting.ready 1) && i.flits == 1) = true := by decide +kernel

/-- A packet for this device waits. -/
def arrived (k : Packet) (s : State) : State := s.modFab fun f => { f with inbox := [⟨0, 2, 1, 0, k, 0⟩] }
/-- A memory packet of chip 1 for loom 0's scratchpad. -/
def padPacket (ptype msgtype len : Nat) (b : List Byte) : Packet :=
  { ptype, cls := 1, ackreq := ptype == 0, len, dst := 0, src := 1, addr := lwin 0 + 64, tag := 5, msgtype, payload := b }

theorem meets_MemoryPacketsWait : ∀ e ∈ [(padPacket 0 0 4 [1, 2, 3, 4], 4), (padPacket 1 0 64 [], 64), (padPacket 4 1 8 (leBytes 8 1), 8),
      (padPacket 4 2 16 (leBytes 16 1), atomicWidth 2 (leBytes 16 1))],
    ((arrived e.1 (domainOn 0)).firstIn fun i => i.pkt.ptype == e.1.ptype && i.pkt.msgtype == e.1.msgtype) = some ⟨0, 2, 1, 0, e.1, 0⟩
      ∧ (arrived e.1 (domainOn 0)).packetWaits e.1 e.2 = false ∧ padOf (fabLocal e.1.addr) e.2 = some (0, 64)
      ∧ (arrived e.1 (domainOn 0)).is (LOOM_STATUS_BENCHED 0) = false := by decide +kernel

/-- A read of loom 0's DMA, or a write of loom 0, waits for its response, which has come. -/
def answered (ptype : Nat) (by_ : ReqBy) : State :=
  (arrived { ptype, cls := 1, len := 0, dst := 0, src := 1, tag := 5 } State.reset).modFab fun f => { f with reqs := [⟨5, by_, true, 0, 0⟩] }

theorem meets_ResponsesComplete : ∀ e ∈ [(2, ReqBy.loomRead 0 3), (3, .loomWrite 0), (5, .loomRead 0 8)],
    ((answered e.1 e.2).firstIn fun i => i.pkt.ptype == e.1).any (fun i => ((answered e.1 e.2).fab.reqs.find? fun r => r.tag == i.pkt.tag) == some ⟨5, e.2, true, 0, 0⟩)
      = true ∧ ((answered e.1 e.2).fab.reqs.find? fun r => r.tag == (5 : Fin 65536).val) = some ⟨5, e.2, true, 0, 0⟩ := by decide +kernel

/-- Loom 0 is the only participant of collective 0 here, at its root, and has one child by port 0, whose contribution has come. -/
def reducing (valid : Nat) : State :=
  ((messaged 0x30 (leBytes 32 (18 * 2 ^ 128) ++ leBytes 8 3) (sets [(FAB_DIMS_DX_M1, 1), (FAB_COLL_VALID 0, valid), (FAB_COLL_PARENT 0, 7), (FAB_COLL_LOOMS 0, 1),
    (FAB_COLL_CHILDREN 0, 1), (FAB_COLL_MAXLEN 0, 64), (FAB_COLL_DST_OFF 0, 256)] State.reset)).modFab fun f =>
      { f with colls := [(0, [{ step := 0, parts := [⟨0, 8, leBytes 8 4, false, true⟩], joined := [0] }])] }).modSeq 0
        fun q => { q with pause := some ⟨.coll 0 false, 0, 0, false⟩ }

theorem meets_CollectivesCombine_stale : (reducing 0).is (FAB_COLL_VALID 0) = false
    ∧ ((reducing 0).firstIn (isMsg 0x30 none)).any (fun i => leAt i.pkt.payload 0 1 == 0 && !collHdrBad i.pkt.payload) = true := by decide +kernel
theorem meets_CollectivesCombine : (reducing 1).is (FAB_COLL_VALID 0) = true ∧ (reducing 1).collFresh 0 0 = true ∧ (reducing 1).get (FAB_COLL_OP 0) = 0
    ∧ (reducing 1).collRoot 0 = true ∧ (reducing 1).collLooms 0 = [0] ∧ (reducing 1).collChildren 0 = [0] ∧ (reducing 1).neighbour 0 ≠ (reducing 1).chip
    ∧ (reducing 1).collIndex 0 0 < 65536 ∧ ((reducing 1).collStep 0 0).sentUp = false
    ∧ ((reducing 1).collStep 0 0).part ((reducing 1).collIndex 0 0) = some ⟨0, 8, leBytes 8 4, false, true⟩
    ∧ (∀ x ∈ ((reducing 1).collStep 0 0).parts, x.from_ ≠ childKey 0) ∧ ((reducing 1).lm 0).seq.pause = some ⟨.coll 0 false, 0, 0, false⟩
    ∧ (reducing 1).portFree 0 = true ∧ (reducing 1).is (LOOM_STATUS_BENCHED 0) = false := by decide +kernel
theorem meets_CollectivesCombine_sizes : ((reducing 1).firstIn (isMsg 0x30 none)).any (fun i => leAt i.pkt.payload 0 1 == 0 && leAt i.pkt.payload 4 4 == 0
      && i.port == 0 && leAt i.pkt.payload 8 4 == 0 && bitOf (leAt i.pkt.payload 16 1) 4 && !collHdrBad i.pkt.payload
      && (collZip 0 0 (ownElems 0 0 (leBytes 8 4)) (elems (partSize 0 0) (i.pkt.payload.drop 32))).length == 1) = true
    ∧ (reducing 1).get (FAB_COLL_DTYPE 0) = 0 ∧ (reducing 1).get (FAB_COLL_RED 0) = 0 ∧ 8 ≤ (reducing 1).get (FAB_COLL_MAXLEN 0)
    ∧ (reducing 1).get (FAB_COLL_DST_OFF 0) + 8 ≤ spadSize (0 : LoomNo) ∧ (reducing 1).get (FAB_COLL_DST_OFF 0) + 8 ≤ 0xC00000 := by decide +kernel
/-- A message whose body header has level 0. -/
theorem meets_CollectivesCombine_header : ((messaged 0x30 (leBytes 40 0) State.reset).firstIn (isMsg 0x30 none)).any (fun i => collHdrBad i.pkt.payload) = true
    ∧ (messaged 0x30 (leBytes 40 0) State.reset).errs = [] := by decide +kernel
/-- The last write of loom 0's result heads its FIFO. -/
def resulting : State := ((reducing 1).modSeq 0 fun q => { q with pause := some ⟨.coll 0 false, 0, 0, false⟩ }).enqueue 0
  ⟨.result 0 true, 256, 8, leBytes 8 7, false, 0, .collective, none, 0, false⟩
theorem meets_ResultsLand : resulting.ncOpen 0 = true ∧ (resulting.lm 0).spd.fifo = [⟨.result 0 true, 256, 8, leBytes 8 7, false, 0, .collective, none, 0, false⟩]
    ∧ resulting.inwinOk 0 .collective 0 true 256 8 = true ∧ 256 + (leBytes 8 7).length ≤ spadSize (0 : LoomNo)
    ∧ (resulting.lm 0).seq.pause = some ⟨.coll 0 false, 0, 0, false⟩ := by decide +kernel
theorem meets_HostMessagesTaken : ((messaged 0x50 [1] (sets [(FAB_MBX_SIZE_ENTRIES, 16)] State.reset)).firstIn (isMsg 0x50 none)).any
      (fun i => !i.pkt.ackreq && decide (i.pkt.payload.length ≤ 4032)) = true
    ∧ (sets [(FAB_MBX_SIZE_ENTRIES, 16)] State.reset).mbxSize ≠ 0
    ∧ ((sets [(FAB_MBX_SIZE_ENTRIES, 16)] State.reset).get FAB_MBX_TAIL_TAIL + 1) % (sets [(FAB_MBX_SIZE_ENTRIES, 16)] State.reset).mbxSize
      ≠ (sets [(FAB_MBX_SIZE_ENTRIES, 16)] State.reset).get FAB_MBX_HEAD_HEAD := by decide +kernel
theorem meets_HostMessagesTaken_dropped : ((messaged 0x50 [1] State.reset).firstIn (isMsg 0x50 none)).any (fun i => !i.pkt.ackreq) = true
    ∧ (messaged 0x50 [1] State.reset).mbxSize = 0 := by decide +kernel

/-! ### Ethernet -/

/-- Port 1 has the ETH personality, and its first Ethernet port, 3, is up. -/
def ethernet : State := sets [(FAB_P_ID_PERS 1, 2), (ETH_CTL_EN 3, 1), (ETH_STATUS_LINK 3, 1), (ETH_CTL_MAXFRAME 3, 1518)] State.reset

theorem meets_EthernetLinks : ethernet.get (FAB_P_ID_PERS ((3 : EthNo).val / 3)) ≠ 1 ∧ bits (2 ^ 16 * 63) 16 14 < 64 ∧ bits (2 ^ 16 * 9217) 16 14 > 9216
    ∧ bits (2 ^ 16 * 9216 + 1) 16 14 ≤ 9216 ∧ bits (2 ^ 16 * 64) 0 1 = 0 ∧ ethernet.isEth (3 : EthNo) = true ∧ ethernet.is (ETH_CTL_EN (3 : EthNo)) = true
    ∧ (sets [(FAB_P_ID_PERS 5, 1)] State.reset).get (FAB_P_ID_PERS ((17 : EthNo).val / 3)) = 1 := by decide +kernel

/-- A frame of an EtherType and an opcode, with its FCS. -/
def frameOf (type op : Nat) : List Byte :=
  withFcs (leBytes 12 7 ++ [BitVec.ofNat 8 (type / 256), BitVec.ofNat 8 type, BitVec.ofNat 8 (op / 256), BitVec.ofNat 8 op] ++ List.replicate 44 0)

/-- An entry of the forwarding table takes the frame's MAC address to chip 1. -/
def tunnelling : State := sets [(FAB_ETH_FWD_VALID 0, 1), (FAB_ETH_FWD_MAC 0, 7), (FAB_ETH_FWD_CHIP 0, 1)] ethernet
/-- The receive ring of 64 posted descriptors at the base of HBM. -/
def receiving : State := (sets [(ETH_RX_RING_SIZE 3, 64), (ETH_RX_BASE_ADDR 3, hbmBase)] ethernet).memWrite hbmBase (leBytes 32 (hbmBase + 65536 + 2 * 2 ^ 88)) false

theorem meets_FramesArrive : ethernet.stacksAsleep = false ∧ ethernet.ethUp (3 : EthNo) = true ∧ 64 ≤ (frameOf 0x8808 1).length
    ∧ (frameOf 0x8808 1).length ≤ ethernet.maxFrame (3 : EthNo) ∧ (frameOf 0x0800 1).length ≤ tunnelling.maxFrame (3 : EthNo)
    ∧ (frameOf 0x0800 1).length ≤ receiving.maxFrame (3 : EthNo) ∧ tunnelling.stacksAsleep = false ∧ receiving.stacksAsleep = false
    ∧ leAt (frameOf 0x8808 1) 60 4 = crc32 ((frameOf 0x8808 1).take 60) ∧ etherType ((frameOf 0x8808 1).take 60) = 0x8808
    ∧ macOpcode ((frameOf 0x8808 1).take 60) = 1 ∧ leAt (List.replicate 64 (9 : Byte)) 60 4 ≠ crc32 ((List.replicate 64 (9 : Byte)).take 60) := by decide +kernel
theorem meets_FramesArrive_tunnel : tunnelling.ethUp (3 : EthNo) = true ∧ leAt (frameOf 0x0800 1) 60 4 = crc32 ((frameOf 0x0800 1).take 60)
    ∧ etherType ((frameOf 0x0800 1).take 60) ≠ 0x8808 ∧ tunnelling.ethMatch ((frameOf 0x0800 1).take 60) = some 0 ∧ tunnelling.is (FAB_ETH_FWD_LOCAL 0) = false
    ∧ tunnelling.get (FAB_ETH_FWD_CHIP 0) ≠ tunnelling.chip := by decide +kernel
theorem meets_FramesArrive_local : ethernet.ethMatch ((frameOf 0x0800 1).take 60) = none ∧ ethRingOk (ethernet.get (ETH_RX_RING_SIZE (3 : EthNo))) = false
    ∧ receiving.ethMatch ((frameOf 0x0800 1).take 60) = none ∧ ethRingOk (receiving.get (ETH_RX_RING_SIZE (3 : EthNo))) = true
    ∧ (receiving.get (ETH_RX_RING_TAIL (3 : EthNo)) + 1) % receiving.get (ETH_RX_RING_SIZE (3 : EthNo)) ≠ receiving.get (ETH_RX_RING_HEAD (3 : EthNo))
    ∧ descRefused ((((receiving.add (ETH_CNT_FEC_CORR_N (3 : EthNo)) 0).add (ETH_CNT_FEC_UNCORR_N (3 : EthNo)) 0).add (ETH_CNT_RX_FRAMES_N (3 : EthNo)) 1).devRead
        (receiving.get (ETH_RX_BASE_ADDR (3 : EthNo)) + 32 * receiving.get (ETH_RX_RING_TAIL (3 : EthNo))) 32).1 = false := by decide +kernel

/-- A transmit ring at the base of HBM whose first descriptor names a 60-byte frame. -/
def transmitting : State :=
  (sets [(ETH_TX_RING_SIZE 3, 64), (ETH_TX_BASE_ADDR 3, hbmBase), (ETH_TX_RING_TAIL 3, 1)] ethernet).memWrite hbmBase
    (leBytes 32 (hbmBase + 65536 + 60 * 2 ^ 64 + 2 * 2 ^ 88)) false

theorem meets_FramesLeave : transmitting.stacksAsleep = false ∧ transmitting.ethUp (3 : EthNo) = true ∧ ethRingOk (transmitting.get (ETH_TX_RING_SIZE (3 : EthNo))) = true
    ∧ transmitting.get (ETH_TX_RING_HEAD (3 : EthNo)) ≠ transmitting.get (ETH_TX_RING_TAIL (3 : EthNo)) % transmitting.get (ETH_TX_RING_SIZE (3 : EthNo))
    ∧ descRefused (transmitting.devRead hbmBase 32).1 = false ∧ leAt (transmitting.devRead hbmBase 32).1.data 8 2 = 60
    ∧ (fun f : RdData => f.status = 0 ∧ transmitting.pfcPaused (3 : EthNo) (framePrio f.data) = false ∧ f.pois.any id = false)
        (((transmitting.devRead hbmBase 32).2.set (ETH_TX_RING_HEAD (3 : EthNo)) 1).devRead (leAt (transmitting.devRead hbmBase 32).1.data 0 8) 60).1
    ∧ 60 + 4 ≤ transmitting.maxFrame (3 : EthNo) := by decide +kernel

/-- A tunnelled frame for Ethernet port 3 has come. -/
def tunnelled (s : State) : State := arrived { ptype := 7, cls := 2, len := 60, dst := 0, src := 1, tag := 3, payload := leBytes 60 7 } s

theorem meets_FramesLeave_tunnelled : ((tunnelled ethernet).firstIn fun i => i.pkt.ptype == 7).any (fun i => decide (i.pkt.tag % 32 < 18)
      && (tunnelled ethernet).ethUp (i.pkt.tag % 32) && !i.pkt.poison && decide (i.pkt.payload.length + 4 ≤ (tunnelled ethernet).maxFrame (i.pkt.tag % 32))
      && !(tunnelled ethernet).pfcPaused (i.pkt.tag % 32) (framePrio i.pkt.payload)) = true
    ∧ ((tunnelled State.reset).firstIn fun i => i.pkt.ptype == 7).any (fun i => decide (i.pkt.tag % 32 < 18) && !(tunnelled State.reset).ethUp (i.pkt.tag % 32))
      = true := by decide +kernel

/-! ### The Card image -/

theorem meets_CardLoadsBegin : State.reset.crd = none ∧ State.reset.fullReady = true ∧ (sets [(BLT_STATE 0, 1)] State.reset).fullReady = false := by decide +kernel
theorem meets_CardLoadsBegin_function : State.reset.functionReady [] (State.reset.get CRD_FUNC_BOLTS_MASK) = false
    ∧ (sets [(CRD_STATUS_LOADED, 1)] State.reset).functionReady [] ((sets [(CRD_STATUS_LOADED, 1)] State.reset).get CRD_FUNC_BOLTS_MASK) = true
    ∧ (sets [(CRD_STATUS_LOADED, 1)] State.reset).crd = none := by decide +kernel
/-- A load is under way, from HBM at an address or from CARD_A in flash. -/
def cardLoading (a : Nat) (flash : Option Nat) : State := { State.reset with crd := some ⟨true, 0, a, flash⟩ }

theorem meets_CardLoadsEnd : (cardLoading 0 (some 0)).crd = some ⟨true, 0, 0, some 0⟩ ∧ (cardLoading 0 (some 0)).cardOp.waiting = false
    ∧ (cardLoading 0 none).crd = some ⟨true, 0, 0, none⟩ ∧ (cardLoading 0 none).cardOp.waiting = false ∧ (cardLoading 0 none).stacksAsleep = false
    ∧ ((cardLoading 0 none).cardRead ⟨true, 0, 0, none⟩ false).2.2.1 = true
    ∧ ((cardLoading 0 none).cardChecks [] 0 true).1 = some (1, 0, 0) := by decide +kernel

/-- A load from flash, whatever flash holds: the load is under way, its source does not fail, and an image with no valid slot waits for no
profile. What the clause of a commit adds is that the image passes its checks, whose signatures no test holds (NOTES.md). -/
theorem meets_CardLoadsEnd_commit (flash : List Host.Cell) (c : CardSecs) (got : List ReadRes) (u : State) :
    ((cardLoading 0 (some 0)).modMgmt fun m => { m with flash }).crd = some ⟨true, 0, 0, some 0⟩
    ∧ ((cardLoading 0 (some 0)).modMgmt fun m => { m with flash }).cardOp.waiting = false
    ∧ ((cardLoading 0 (some 0)).modMgmt fun m => { m with flash }).stacksAsleep = false
    ∧ (((cardLoading 0 (some 0)).modMgmt fun m => { m with flash }).cardRead ⟨true, 0, 0, some 0⟩ false).2.2.1 = false
    ∧ profileReads c [] got u = .done [] got u := ⟨rfl, rfl, rfl, rfl, rfl⟩

/-- A DEVICE entry of one chip whose clock has no parent, a POWER entry, tenant 0, and no bolt, slot, region or queue. -/
def smallCard : CardSecs :=
  [(1, leBytes 8 0 ++ leBytes 8 (7 + 7 * 8) ++ leBytes 4 1 ++ leBytes 44 0), (2, leBytes 2 1 ++ leBytes 2 64 ++ leBytes 4 0 ++ leBytes 2 900 ++ leBytes 54 0),
    (6, leBytes 64 (2 + 2 ^ 4))]

/-- The checks from PROFILE on: these sections pass those whose length does not count, and a slot in no bolt fails. An image that passes
them all carries two signatures, of 384 and of 16,224 bytes, and tables of 180 KiB, beyond what a test should hold. -/
theorem meets_CardLoadsEnd_late : deviceBad smallCard = false ∧ powerBad smallCard = false ∧ tenantBad smallCard 0 = false ∧ keepSum smallCard = 0
    ∧ coverCheck smallCard = none ∧ queuesCheck smallCard = none ∧ State.reset.quotaCheck smallCard = none ∧ State.reset.fullReady = true
    ∧ State.reset.cardLate ⟨true, 0, 0, none⟩ ((5, leBytes 128 (2 + 2 ^ 4)) :: smallCard) [(0, { status := 0, data := [], pois := [] })] = some (0xE, 5, 0) := by decide +kernel

/-! ### Selvedge -/

/-- The Ingot runs; the registers hold the arguments of a command. -/
def managed (a0 a1 : Nat) : State :=
  { sets [(SLV_CMD_ARG_ARG 0, a0), (SLV_CMD_ARG_ARG 1, a1), (SEC_LIFECYCLE_STATE, 1)] State.reset with mgmt := { nextStage := 0 } }

theorem meets_SelvedgeCommandsBegin : (managed 3 0).stacksAsleep = false ∧ SelvedgeFree (managed 3 0) .regs 1 ∧ (managed 3 0).get (SLV_CMD_ARG_ARG 0) ≤ 3 ∧ (managed 3 0).mgmt.staged = none
    ∧ ((managed 0 0).modMgmt fun m => { m with staged := some 4096 }).mgmt.staged = some 4096 ∧ SelvedgeFree ((managed 0 0).modMgmt fun m => { m with staged := some 4096 }) .regs 2
    ∧ (managed 0 0).mgmt.recPos < 256 := by
  unfold SelvedgeFree; decide +kernel
theorem meets_SelvedgeCommandsBegin_provision : SelvedgeFree (managed hbmBase 0) .regs 0xA ∧ (managed hbmBase 0).get SEC_LIFECYCLE_STATE = 1
    ∧ inHbm ((cmdOf (managed hbmBase 0) .regs 0xA).arg 0) 96 = true ∧ (managed hbmBase 0).power.locked = false
    ∧ (((managed hbmBase 0).slvBegin (cmdOf (managed hbmBase 0) .regs 0xA)).slvRead hbmBase 96).2.1 = false
    ∧ inHbm ((cmdOf (managed 3 0) .regs 0xA).arg 0) 96 = false
    ∧ SelvedgeFree ((managed hbmBase 0).set SEC_LIFECYCLE_STATE 2) .regs 0xA ∧ ((managed hbmBase 0).set SEC_LIFECYCLE_STATE 2).get SEC_LIFECYCLE_STATE ≠ 1 := by
  unfold SelvedgeFree; decide +kernel
/-- The 96 bytes at the base of HBM are poisoned; every rail is off until cold reset. -/
def poisonedHbm : State := (managed hbmBase 0).memWrite hbmBase (leBytes 96 1) true
def railsLocked (a0 a1 : Nat) : State := (managed a0 a1).modPower fun p => { p with locked := true }
theorem meets_SelvedgeCommandsBegin_provision_bad : SelvedgeFree poisonedHbm .regs 0xA ∧ poisonedHbm.get SEC_LIFECYCLE_STATE = 1 ∧ poisonedHbm.power.locked = false
    ∧ ((poisonedHbm.slvBegin (cmdOf poisonedHbm .regs 0xA)).slvRead hbmBase 96).2.1 = true
    ∧ SelvedgeFree (railsLocked hbmBase 0) .regs 0xA ∧ (railsLocked hbmBase 0).power.locked = true := by
  unfold SelvedgeFree; decide +kernel
/-- The Card image of no bytes is in force. -/
def persistent (loaded : Nat) : State :=
  sets ((CRD_STATUS_LOADED, loaded) :: (List.range 6).map fun i => (CRD_ACTIVE_DIGEST_DIGEST i, leAt (sha384 []) (8 * i) 8)) (managed hbmBase 0)
theorem meets_SelvedgeCommandsBegin_persist : SelvedgeFree (managed 3 0) .regs 4 ∧ inHbm ((cmdOf (managed 3 0) .regs 4).arg 0) 64 = false
    ∧ SelvedgeFree (persistent 1) .regs 4 ∧ inHbm ((cmdOf (persistent 1) .regs 4).arg 0) 64 = true
    ∧ (fun p : Option (List Byte) × State => p.1.isSome = true ∧ p.2.is CRD_STATUS_LOADED = true ∧ sha384 ((p.1.getD []).take (leAt (p.1.getD []) 20 4)) = p.2.cardDigest)
        (((persistent 1).slvBegin (cmdOf (persistent 1) .regs 4)).slvImage hbmBase 0x1000000)
    ∧ (((persistent 0).slvBegin (cmdOf (persistent 0) .regs 4)).slvImage hbmBase 0x1000000).2.is CRD_STATUS_LOADED = false := by
  unfold SelvedgeFree; decide +kernel
/-- Without keys in the IDENTITY area, and with any that unwrap, a pair being made or not. -/
theorem meets_SelvedgeCommandsBegin_assay : SelvedgeFree (managed 0 0) .regs 5 ∧ (managed 0 0).identityOk = false
    ∧ (managed 0 0).mgmt.signing = none ∧ (managed 0 0).mgmt.signs = []
    ∧ ∀ (flash : List Host.Cell) (sg : Option (SignJob × Nat)), ((managed 0 0).modMgmt fun m => { m with flash, signing := sg }).identityOk = true →
      SelvedgeFree ((managed 0 0).modMgmt fun m => { m with flash, signing := sg }) .regs 5
        ∧ ((managed 0 0).modMgmt fun m => { m with flash, signing := sg }).mgmt.signing = sg := by
  refine ⟨?_, ?_, ?_, ?_, fun _ _ _ => ⟨⟨?_, ?_, ?_, trivial⟩, rfl⟩⟩
  · unfold SelvedgeFree; decide +kernel
  · decide +kernel
  · decide +kernel
  · decide +kernel
  all_goals rfl
theorem meets_SelvedgeCommandsBegin_fuse : SelvedgeFree (managed 2 64) .regs 3
    ∧ (managed 2 64).get ((managed 2 64).fuseTarget (cmdOf (managed 2 64) .regs 3)).1 < ((managed 2 64).fuseTarget (cmdOf (managed 2 64) .regs 3)).2
    ∧ ((managed 2 64).fuseTarget (cmdOf (managed 2 64) .regs 3)).2 ≤ 64 ∧ 64 < ((managed 2 65).fuseTarget (cmdOf (managed 2 65) .regs 3)).2
    ∧ (managed 2 64).power.locked = false ∧ SelvedgeFree (railsLocked 2 64) .regs 3 ∧ (railsLocked 2 64).power.locked = true
    ∧ (railsLocked 2 64).get ((railsLocked 2 64).fuseTarget (cmdOf (railsLocked 2 64) .regs 3)).1 < ((railsLocked 2 64).fuseTarget (cmdOf (railsLocked 2 64) .regs 3)).2
    ∧ ((managed 2 0).fuseTarget (cmdOf (managed 2 0) .regs 3)).2 ≤ (managed 2 0).get ((managed 2 0).fuseTarget (cmdOf (managed 2 0) .regs 3)).1 := by
  unfold SelvedgeFree; decide +kernel

/-- A request to the device with SEQ 5 in the session of zeros, and the session. -/
def heard (s : State) : MgmtHdr := ⟨7, BitVec.ofNat 128 s.mgmtAddr, 7411, 0x544D4C53, 2, false, false, 8, 5, List.replicate 16 0, none⟩
def inSession (s : State) : State := s.modMgmt fun m => { m with session := some (List.replicate 16 0) }

theorem meets_SelvedgeCommandsBegin_port : ∀ op ∈ [1, 2, 3, 4, 5, 6, 7, 8, 9, 0xA],
    SelvedgeFree (inSession (managed 0 0)) (.port (heard (managed 0 0)) op [3, 0, 0, 0]) op := by unfold SelvedgeFree; decide +kernel

/-- A command is under way. -/
def commanding (op a0 a1 : Nat) : State := (managed a0 a1).modMgmt fun m => { m with cmd := some ⟨op, [a0, a1, 0, 0], none⟩ }

theorem meets_SelvedgeCommandsBegin_lost : (commanding 1 0 0).ingotRuns = true ∧ (commanding 1 0 0).power.standby = false ∧ (commanding 1 0 0).mgmt.cmd ≠ none := by
  decide +kernel
theorem meets_SelvedgeCommandsEnd : (∀ op ∈ [1, 2, 3, 4, 5, 0xA], (commanding op 2 64).mgmt.cmd = some ⟨op, [2, 64, 0, 0], none⟩)
    ∧ (commanding 3 2 64).get ((commanding 3 2 64).fuseTarget ⟨3, [2, 64, 0, 0], none⟩).1 < ((commanding 3 2 64).fuseTarget ⟨3, [2, 64, 0, 0], none⟩).2
    ∧ ((commanding 3 2 64).fuseTarget ⟨3, [2, 64, 0, 0], none⟩).2 ≤ 64 ∧ (commanding 3 2 64).stacksAsleep = false
    ∧ bitOf (commanding 3 2 64).power.rails 15 = false ∧ bitOf ((commanding 3 2 64).modPower fun p => { p with rails := 2 ^ 15 }).power.rails 15 = true := by decide +kernel
/-- The ASSAY command's pair is being made; its report goes to the base of HBM with 1 MiB of room, or nowhere. -/
def assaying (a : Nat) : State := (commanding 5 a (2 ^ 20)).modMgmt fun m => { m with signing := some (.command, 0) }
theorem meets_SelvedgeCommandsEnd_assay : (assaying hbmBase).mgmt.cmd = some ⟨5, [hbmBase, 2 ^ 20, 0, 0], none⟩
    ∧ (assaying hbmBase).mgmt.signing = some (.command, 0) ∧ inHbm hbmBase (2 ^ 20) = true ∧ inHbm 0 0 = false
    ∧ (assaying 0).mgmt.cmd = some ⟨5, [0, 2 ^ 20, 0, 0], none⟩ := by decide +kernel
theorem meets_UnitsBench : (∀ u ∈ [0, 143 * 256, 2, 11 * 256 + 2, 3, 5 * 256 + 3, 4, 15 * 256 + 4], SelvedgeFree (managed u 0) .regs 7 ∧ (cmdOf (managed u 0) .regs 7).arg 0 = u
      ∧ unitOk benchKinds u = true)
    ∧ (∀ u ∈ [144 * 256, 12 * 256 + 2, 6 * 256 + 3, 16 * 256 + 4, 1, 5], SelvedgeFree (managed u 0) .regs 7 ∧ (cmdOf (managed u 0) .regs 7).arg 0 = u
      ∧ unitOk benchKinds u = false) ∧ SelvedgeFree (managed 0 0) .regs 8
    ∧ ((managed 0 0).set (SPD_STATUS_BENCH_REQ 143) 1).is (SPD_STATUS_BENCH_REQ (143 : LoomNo)) = true
    ∧ ((managed 0 0).set (SPD_STATUS_BENCH_REQ 143) 1).ingotRuns = true ∧ ((managed 0 0).set (SPD_STATUS_BENCH_REQ 143) 1).is (LOOM_STATUS_BENCHED (143 : LoomNo)) = false := by
  unfold SelvedgeFree; decide +kernel
theorem meets_TestsBegin : ∀ e ∈ [(143 * 256, 1), (5 * 256 + 3, 4), (15 * 256 + 4, 5), (6, 6)], SelvedgeFree (managed e.1 e.2) .regs 6
    ∧ (cmdOf (managed e.1 e.2) .regs 6).arg 0 = e.1 ∧ (cmdOf (managed e.1 e.2) .regs 6).arg 1 = e.2 ∧ unitOk (testKinds e.2) e.1 = true
    ∧ (managed e.1 e.2).testAllowed e.1 e.2 = true := by unfold SelvedgeFree; decide +kernel
theorem meets_TestsBegin_refused : SelvedgeFree (managed (144 * 256) 1) .regs 6 ∧ unitOk (testKinds ((cmdOf (managed (144 * 256) 1) .regs 6).arg 1)) (144 * 256) = false
    ∧ unitOk (testKinds 2) 2 = true ∧ (managed 2 2).testAllowed 2 2 = false := by unfold SelvedgeFree; decide +kernel

/-- A test of a unit waits for its scope. -/
def testing (u k : Nat) (s : State) : State := s.modMgmt fun m => { m with test := some ⟨u, k, [], []⟩, cmd := some ⟨6, [u, k, 0, 0], none⟩ }

theorem meets_TestsEnd : (testing 2 2 (managed 2 2)).mgmt.test = some ⟨2, 2, [], []⟩ ∧ (testing 2 2 (managed 2 2)).mgmt.cmd = some ⟨6, [2, 2, 0, 0], none⟩
    ∧ (testing 2 2 (managed 2 2)).stacksAsleep = false ∧ (testing 6 6 streaming).stacksAsleep = false
    ∧ (testing 2 2 (managed 2 2)).testIdle ⟨2, 2, [], []⟩ = true ∧ (testing 6 6 streaming).testIdle ⟨6, 6, [], []⟩ = false := by decide +kernel
theorem meets_SelvedgeResets : SelvedgeFree (managed 0 0) .regs 9 ∧ (managed 0 0).mgmt.nextStage ≠ 1 ∧ (State.reset.modMgmt fun m => { m with nextStage := 1 }).mgmt.nextStage = 1 ∧ (managed 0 0).ingotRuns = true
    ∧ (pushTime (managed 0 0).now (windowOf 60000) (managed 0 0).mgmt.dogs).length < 3
    ∧ 3 ≤ (pushTime 0 (windowOf 60000) ((managed 0 0).modMgmt fun m => { m with dogs := [0, 0] }).mgmt.dogs).length
    ∧ ((managed 0 0).modMgmt fun m => { m with dogs := [0, 0] }).now = 0 := by unfold SelvedgeFree; decide +kernel

/-! ### Boot and resets -/

theorem meets_ColdResetStarts : strapOdd 1#15 = true ∧ strapOdd 3#15 = false ∧ fuseKey (LOOM_STATUS_RUN 0).key = false
    ∧ (LOOM_STATUS_RUN 0).key ∉ coldFields.map Fld.key := by decide +kernel

/-- A boot stage is due. -/
def booting (k : Nat) : State := State.reset.modMgmt fun m => { m with nextStage := k }

theorem meets_RomVerifiesIngot : (booting 2).mgmt.nextStage = 2 ∧ (booting 2).mgmt.recovery = none ∧ (booting 2).mgmt.forced = false
    ∧ ((booting 2).modMgmt fun m => { m with forced := true }).mgmt.forced = true := by decide +kernel
theorem meets_RomVerifiesIngot_refused : ((booting 2).ingotCheck (List.replicate 64 0xFF)).1 ≠ 0 := by decide +kernel
theorem meets_BootStagesRun : (∀ k ∈ [3, 4, 5, 6, 7, 8, 9], StageDue (booting k) k) ∧ (booting 7).cardAreas = [] ∧ (booting 7).is CRD_STATUS_LOADED = false
    ∧ bitOf ((booting 3).modMgmt fun m => { m with record := { m.record with loomMap := 2 ^ 143 } }).mgmt.record.loomMap 143 = true
    ∧ (booting 4).is (HBM_STATUS_BENCHED 11) = false ∧ bitOf (2 ^ 11) 11 = true ∧ bitOf (2 ^ 11) 0 = false ∧ (booting 4).is FAB_SYNC_STS_REFCLK_LOST = false
    ∧ (booting 3).power.locked = false ∧ ((booting 3).modPower fun p => { p with locked := true }).power.locked = true
    ∧ (booting 4).power.rackLost = false ∧ ((booting 4).modPower fun p => { p with rackLost := true }).power.rackLost = true
    ∧ (booting 7).stacksAsleep = false ∧ bitOf (booting 5).mgmt.outPorts 5 = false ∧ bitOf (booting 6).mgmt.outChans 15 = false := by unfold StageDue; decide +kernel

/-- The device is up: it runs its cold boot's Ingot, or another. -/
def runningDevice (ingot : List Byte) : State := { State.reset with mgmt := { nextStage := 0, ingot }, power := { mainEn := true, rails := 0x7FFF } }

theorem meets_WarmResetRuns : (runningDevice []).is SLV_RST_STS_BUSY = false ∧ (runningDevice []).ingotRuns = true ∧ (runningDevice []).power.standby = false
    ∧ (runningDevice []).mgmt.nextStage = 0 ∧ (runningDevice []).power.mainEn = true ∧ (runningDevice []).mgmt.test = none ∧ (runningDevice []).mgmt.ingot = (runningDevice []).mgmt.coldIngot
    ∧ (runningDevice [1]).mgmt.ingot ≠ (runningDevice [1]).mgmt.coldIngot ∧ (sets [(SLV_RST_STS_BUSY, 1)] State.reset).is SLV_RST_STS_BUSY = true
    ∧ (sets [(SLV_RST_STS_BUSY, 1)] State.reset).stacksAsleep = false := by decide +kernel

/-- Bolt 0 holds loom 0, and SLV_RST_BOLTS names it; it is in a state. -/
def resetting (k : Nat) : State := sets [(SLV_RST_BOLTS_MASK, 1), (BLT_STATE 0, k)] (withBolts State.reset)

theorem meets_FunctionAndLoomResets : (resetting 0).is SLV_RST_STS_BUSY = false ∧ (resetting 0).stacksAsleep = false ∧ (resetting 1).stacksAsleep = false ∧ (resetting 0).functionOk ((resetting 0).get SLV_RST_BOLTS_MASK) = true
    ∧ bitOf ((resetting 0).get SLV_RST_BOLTS_MASK) 0 = true ∧ 0 ∈ (resetting 0).boltLooms 0
    ∧ (resetting 1).functionOk ((resetting 1).get SLV_RST_BOLTS_MASK) = false ∧ (resetting 1).is SLV_RST_STS_BUSY = false
    ∧ (resetting 0).is (LOOM_CTL_RUN (143 : LoomNo)) = false := by decide +kernel

/-! ### The log and the management port -/

/-- One record waits. -/
def recording : State := { State.reset with errs := [mkRec 14 0 0x100 1 none 0 0 []] }

theorem meets_LogKeepsRecords : recording.errs = [mkRec 14 0 0x100 1 none 0 0 []] ∧ (∀ e ∈ recording.mgmt.rate, e.2 < 256) ∧ recording.mgmt.rate = []
    ∧ (recording.get SLV_LOG_HEAD_SEQ + 2 ^ 32 - recording.get SLV_LOG_PERSIST_SEQ) % 2 ^ 32 < 16384 ∧ recording.errDropped = []
    ∧ recording.flashBusy = false ∧ recording.mgmt.lost = (0, 0) := by decide +kernel

/-- The device is in recovery. -/
def recovering : State := State.reset.modMgmt fun m => { m with nextStage := 0, recovery := some (3, 0) }

theorem meets_ManagementPortAnswers : recovering.romRuns = true ∧ recovering.stacksAsleep = false ∧ (runningDevice []).stacksAsleep = false ∧ recovering.mgmt.recovery = some (3, 0) ∧ recovering.power.standby = false
    ∧ recovering.hears (heard recovering) = true ∧ hdrBad (heard recovering) = false
    ∧ 0x800000 - 1024 + (List.replicate 1024 (7 : Byte)).length ≤ 0x800000 ∧ (0x800000 - 1024) % 1024 = 0
    ∧ (runningDevice []).romRuns = true ∧ (runningDevice []).hears (heard (runningDevice [])) = true
    ∧ (inSession (runningDevice [])).mgmt.session = some (heard (runningDevice [])).session
    ∧ (runningDevice []).mgmt.recovery = none ∧ (runningDevice []).power.standby = false
    ∧ ((runningDevice []).modMgmt fun m => { m with challenge := some [5] }).mgmt.challenge = some [5] := by decide +kernel
theorem meets_ManagementPortAnswers_header : hdrBad { heard recovering with level := 1 } = true ∧ hdrBad { heard recovering with len := 1409 } = true
    ∧ hdrBad { heard recovering with len := 1408 } = false ∧ recovering.hears { heard recovering with level := 1 } = true
    ∧ recovering.hears { heard recovering with udp := 7412 } = false ∧ recovering.hears { heard recovering with resp := true } = false := by decide +kernel
/-- No report is held, another one is being made, or one is held; the keys do not unwrap, or any that do lie in flash. -/
theorem meets_ManagementPortAnswers_report : (leBytes 32 9).length = 32 ∧ (runningDevice []).identityOk = false ∧ (runningDevice []).reportOf (leBytes 32 9) = none
    ∧ (runningDevice []).mgmt.making = none ∧ (runningDevice []).assayRuns = false
    ∧ ((runningDevice []).modMgmt fun m => { m with making := some (leBytes 32 8, []) }).mgmt.making = some (leBytes 32 8, []) ∧ leBytes 32 8 ≠ leBytes 32 9
    ∧ ((runningDevice []).modMgmt fun m => { m with assay := some (leBytes 32 9, [1]) }).reportOf (leBytes 32 9) = some [1] := by decide +kernel
theorem meets_ManagementPortAnswers_auth : (runningDevice []).verdict .operator [] (sha384 (leBytes 8 0)) [] [] ≠ 0 := by decide +kernel
theorem meets_RecoveryEnds : recovering.romRuns = true ∧ recovering.hears (heard recovering) = true ∧ hdrBad (heard recovering) = false
    ∧ recovering.power.standby = false ∧ recovering.mgmt.recovery = some (3, 0) ∧ recovering.mgmt.recPos < 256
    ∧ (recovering.ingotCheck (recovering.stageBytes 0 64)).1 ≠ 0 := by decide +kernel

/-! ### Power -/

/-- Loom 0 is ON at 900 MHz on a row; a command may wait. -/
def clocked (row pend slew : Nat) : State :=
  { sets [(PWR_DOM_STATE 0, 3), (PWR_LOOM_OPP_F_MHZ 0, 900), (PWR_LOOM_OPP_ROW 0, row), (PWR_LOOM_OPP_PEND 0, pend), (PWR_LOOM_OPP_PEND_MHZ 0, 925),
    (PWR_LOOM_OPP_SLEWING 0, slew)] State.reset with voltTo := if slew = 0 then [] else [(0, row)] }

theorem meets_OperatingPointCommands : (clocked 7 0 0).dvfsStatus false 0 900 = 0 ∧ (clocked 7 0 0).dvfsStatus false 0 1850 = 0
    ∧ (clocked 7 0 0).get (PWR_LOOM_OPP_F_MHZ (0 : LoomNo)) = 900 ∧ (clocked 7 0 0).asleep (0 : LoomNo) = false
    ∧ (clocked 3 0 0).dvfsStatus true 0 7 = 0 ∧ (clocked 3 0 0).dvfsStatus true 0 0 = 0 ∧ (clocked 3 0 0).get (PWR_LOOM_OPP_ROW (0 : LoomNo)) = 3
    ∧ (clocked 7 0 0).dvfsStatus false 144 900 ≠ 0 ∧ (clocked 7 0 0).dvfsStatus true 0 8 ≠ 0 := by decide +kernel
theorem meets_OperatingPointsReached : (clocked 7 1 0).get (LDG_CREDIT_HELD (0 : LoomNo)) = 0 ∧ (clocked 7 1 0).asleep (0 : LoomNo) = false
    ∧ (clocked 7 1 0).is (PWR_LOOM_OPP_PEND (0 : LoomNo)) = true ∧ tget 0 (clocked 7 1 0).voltTo 0 = 0 ∧ tget 0 (clocked 7 1 1).voltTo 0 ≠ 0
    ∧ (sets [(LDG_CREDIT_HELD 0, 1)] (clocked 7 1 0)).get (LDG_CREDIT_HELD (0 : LoomNo)) ≠ 0 ∧ (clocked 7 0 1).is (PWR_LOOM_OPP_SLEWING (0 : LoomNo)) = true
    ∧ (clocked 7 0 1).temperRuns = false := by decide +kernel
theorem meets_TemperPeriodSteps : (sets [(TMP_CTL_EN, 1)] (runningDevice [])).temperRuns = true ∧ (sets [(TMP_CTL_EN, 1)] (runningDevice [])).is TMP_CTL_EN = true
    ∧ (sets [(TMP_CTL_EN, 1)] (runningDevice [])).is (TMP_DIE_TRIP 1) = false
    ∧ (sets [(SLV_TEMP_DEG 0, 16 * 114)] (runningDevice [])).hot 0 = true := by decide +kernel
theorem meets_SensorsWatch : (State.reset.set (SLV_TEMP_DEG (0 : Fin 76)) (1840#16).toNat).tooHot = false ∧ State.reset.is (TMP_DIE_TRIP 0) = false
    ∧ 16 * 115 ≤ (1840#16).toInt ∧ (State.reset.set (SLV_TEMP_DEG (75 : Fin 76)) (1760#16).toNat).tooHot = true ∧ State.reset.power.thermtrip = false := by
  decide +kernel
theorem meets_RailsFail : (runningDevice []).power.mainEn = true ∧ (14 : Fin 16).val ≠ 0 ∧ (14 : Fin 16).val ≠ 15
    ∧ 3 ≤ tget 0 ((runningDevice []).modPower fun p => { p with railBad := [(14, 3)] }).power.railBad 14 ∧ tget 0 (runningDevice []).power.railBad 14 < 3 := by
  decide +kernel

/-- Domains in a state; those listed have a wake held. -/
def domains (l : List Nat) (k : Nat) (held : List Nat) : State :=
  { sets (l.map fun d => (PWR_DOM_STATE d, k)) State.reset with mgmt := { nextStage := 0 }, power := { held } }

theorem meets_DomainsMove_quiet : (∀ d ∈ [143, 155, 162], (domains (withDomain d) 3 []).domainIdle d = true
      ∧ (sets [(PWR_IDLE_US_US, 1)] (domains (withDomain d) 3 [])).mayDrop d = true ∧ ∀ x ∈ withDomain d, (domains (withDomain d) 3 []).get (PWR_DOM_STATE x) = 3)
    ∧ (sets [(PWR_IDLE_US_US, 1)] (domains [143] 3 [])).domainIdle 143 = true := by decide +kernel
theorem meets_DomainsMove : (∀ d ∈ [143, 155, 163], (domains (withDomain d) 4 []).get (PWR_DOM_STATE d) = 4
      ∧ (∀ x ∈ withDomain d, (domains (withDomain d) 4 []).power.held.contains x = false) ∧ (domains (withDomain d) 4 [d]).power.held.contains d = true
      ∧ (domains (withDomain d) 2 []).get (PWR_DOM_STATE d) = 2 ∧ (domains (withDomain d) 2 []).held = [])
    ∧ (sets [(PWR_CTL_POLICY, 1)] (domains [0] 1 [])).is PWR_CTL_POLICY = true ∧ 255 % 256 ≠ 0
    ∧ (sets [(PWR_CTL_POLICY, 1)] (domains [0] 1 [])).get (PWR_DOM_STATE 0) = 1 ∧ (domains [0] 1 []).is PWR_CTL_POLICY = false := by decide +kernel

/-- The device is in standby, to be woken by fabric port 0 and Ethernet port 3; brown-outs have come. -/
def standing (n : Nat) : State :=
  { State.reset with mgmt := { nextStage := 0, brownouts := List.replicate n 0 }, power := { standby := true, fabAwake := [0], ethAwake := [3] } }

theorem meets_StandbyAndWake : (runningDevice []).power.standby = false ∧ (runningDevice []).mayStandby = true ∧ (runningDevice []).ingotRuns = true ∧ (runningDevice []).power.locked = false
    ∧ (runningDevice []).mgmt.nextStage = 0 ∧ (sets [(BLT_STATE 0, 1)] (runningDevice [])).mayStandby = false := by decide +kernel
theorem meets_StandbyAndWake_wake : (standing 0).power.standby = true ∧ (standing 0).mgmt.nextStage ≠ 2 ∧ (standing 0).power.locked = false ∧ (standing 0).power.fabAwake.contains (0 : PortNo).val = true
    ∧ (standing 0).power.ethAwake.contains (3 : EthNo).val = true
    ∧ (pushTime (standing 0).now (windowOf 60000) (standing 0).mgmt.brownouts).length < 3
    ∧ 3 ≤ (pushTime (standing 2).now (windowOf 60000) (standing 2).mgmt.brownouts).length ∧ (standing 2).power.standby = true := by decide +kernel
theorem meets_TestAccessPortMoves_capture : ({ State.reset with tap := { state := 3, ir := 3 } } : State).tap.state = 3
    ∧ ({ State.reset with tap := { state := 3, ir := 3 } } : State).tap.ir ≤ 3 ∧ (runningDevice []).power.mainEn = true := by decide +kernel
theorem meets_TestAccessPortMoves : ({ State.reset with tap := { state := 4, ir := 0xFF } } : State).tap.state = 4
    ∧ 3 < ({ State.reset with tap := { state := 4, ir := 0xFF } } : State).tap.ir ∧ ({ State.reset with tap := { state := 15 } } : State).tap.state < 16 := by decide +kernel

/-! ### Rules stated whole -/

theorem meets_TritBytesDecode : (∀ x ∈ [(-1 : Int), 0, 1], x = -1 ∨ x = 0 ∨ x = 1) ∧ 243 ≤ (243#8 : Byte).toNat ∧ 243 ≤ (255#8 : Byte).toNat := by decide +kernel
theorem meets_HeaderCheckWord : hdrStatus 0 none (2 + 2 ^ 4) ∉ [1, 2, 3, 4] ∧ hdrStatus 0 none (2 + 2 ^ 4) = 5 ∧ hdrStatus 0 none (2 + 2 ^ 4 + 0xFFED * 2 ^ 112) ≠ 5 := by decide +kernel
theorem meets_FloorClockAccepts : 900 ≤ 900 ∧ 900 ≤ 1850 ∧ 1850 ≤ 1850 ∧ (899 < 900 ∨ 1850 < 899) ∧ (1851 < 900 ∨ 1850 < 1851) := by decide

/-! ### Ill-formed commands -/

theorem test_wf_register_write : (Instr.registerWrite .host (2 ^ 50 - 3) [1, 2, 3, 4]).wf = false := by decide
theorem test_wf_access_end : (Instr.localAccess ⟨.host, false, 2 ^ 50 - 4, 8, [], 0, false, false⟩ 0).wf = false := by decide
theorem test_wf_access_tenant : (Instr.localAccess ⟨.host, false, 0, 8, [], 1024, false, false⟩ 0).wf = false := by decide
theorem test_wf_access_length : (Instr.hbmAccess ⟨.host, true, 0, 8, [1], 0, false, false⟩ []).wf = false := by decide
theorem test_wf_hbm_event : (Instr.hbmAccess ⟨.host, false, 0, 8, [], 0, false, false⟩ [⟨32, .transient⟩]).wf = false := by decide
theorem test_wf_acc_view : (Instr.accViewWrite 0 0x1FFFFC [1, 2, 3, 4, 5]).wf = false := by decide
theorem test_wf_acc_win : (Instr.accWinWrite 0 0 0 512).wf = false := by decide
theorem test_wf_spad_event : (Instr.arraySum 0 ⟨[[⟨4, .transient⟩]], []⟩).wf = false := by decide
theorem test_wf_port_access : (Instr.drain 0 ⟨[], [[⟨0, 0, 256, true, []⟩]]⟩).wf = false ∧ (Instr.load 0 ⟨[], [[⟨5, 0, 128, false, []⟩]]⟩).wf = false
    ∧ (Instr.store 0 ⟨[], [[⟨4, 0xC00000, 128, false, []⟩]]⟩).wf = false ∧ (Instr.drain 0 ⟨[], [[⟨3, 256, 256, true, [7]⟩]]⟩).wf = false ∧ (Instr.drain 0 ⟨[], [[⟨3, 256, 256, true, []⟩]]⟩).wf = true := by decide
theorem test_wf_scrub : (Instr.scrubLine 0 0 [⟨9, .lasting⟩]).wf = false := by decide
theorem test_wf_grd_ctl : (Instr.grdCtlWrite 1 0x80F80000 [0]).wf = false ∧ (Instr.grdCtlWrite 0 0x80F8FFFF [0, 0]).wf = false := by decide
theorem test_wf_draft_store : (Instr.draftStoreWrite 0 .host 0xFFFFF [0, 0]).wf = false := by decide
theorem test_wf_svc_allow : (Instr.svcAllowWrite 0x100001F [0]).wf = false ∧ (Instr.svcAllowWrite 0x1000034 [0]).wf = false := by decide
theorem test_wf_svc_values : (Instr.svcFloorMhzWrite 4096).wf = false ∧ (Instr.svcRqSizeWrite (2 ^ 17)).wf = false := by decide
theorem test_wf_seal : (Instr.stepSeal 0 [⟨16384, []⟩] []).wf = false ∧ (Instr.stepSeal 0 [⟨0, [2 ^ 32]⟩] []).wf = false
    ∧ (Instr.stepSeal 0 [] [16384]).wf = false := by decide
theorem test_wf_small_values : (Instr.hbmLoopWrite 0 4).wf = false ∧ (Instr.tierRingSizeWrite true (2 ^ 17)).wf = false ∧ (Instr.nak 0 4096).wf = false
    ∧ (Instr.ldgBudgetMinWrite 8192).wf = false ∧ (Instr.swvotesWrite 0 256).wf = false ∧ (Instr.wakeTx 64).wf = false := by decide
theorem test_wf_flit : (Instr.flitReceive 0 [] 0 false).wf = false := by decide
theorem test_wf_frame : (Instr.ethFrameRx 0 (List.replicate 9235 0) 0 0).wf = false := by decide +kernel
theorem test_wf_sample : (Instr.sensorSample (.rail 0 65536)).wf = false ∧ (Instr.sensorSample (.icore 0 65536)).wf = false := by decide
theorem test_wf_boot : (Instr.bootHbm 4096).wf = false ∧ (Instr.bootPhy 64).wf = false ∧ (Instr.bootCard 4).wf = false
    ∧ (Instr.bootNand [⟨0, 4, 2, 16, 1, 0, []⟩, ⟨0, 4, 2, 16, 1, 0, []⟩]).wf = false := by decide
/-- The header of a message to the management port. -/
def header (len seq : Nat) : MgmtHdr := ⟨0, 0, 7411, 0x544D4C53, 2, false, false, len, seq, List.replicate 16 0, none⟩
theorem test_wf_port_seq : (Instr.logRead (header 8 (2 ^ 32)) 0 0).wf = false ∧ (Instr.sensors (header (2 ^ 16) 0)).wf = false
    ∧ (Instr.auth { header 0 0 with session := [] } []).wf = false ∧ (Instr.endRecovery (header 8 0) (2 ^ 32) false).wf = false
    ∧ (Instr.assayGet (header 40 0) [] 0).wf = false ∧ (Instr.data (header 9 0) 0 0 []).wf = false ∧ (Instr.data (header 8 0) 0 0 []).wf = true
    ∧ (Instr.sensors { header 0 0 with badOp := some 5#8 }).wf = false ∧ (Instr.sensors { header 0 0 with badOp := some 9#8 }).wf = true := by decide
theorem test_wf_port_command : (Instr.stage (.port (header 40 0) 1 [0, 0, 0])).wf = false ∧ (Instr.stage (.port (header 40 0) 2 [0, 0, 0, 0])).wf = false
    ∧ (Instr.stage (.port (header 40 0) 0xB [0, 0, 0, 0])).wf = true ∧ (Instr.test (.port (header 40 0) 6 [2 ^ 64, 0, 0, 0])).wf = false := by decide
theorem test_wf_dvfs : (Instr.dvfsFreq 256 0).wf = false ∧ (Instr.dvfsVolt 0 4096).wf = false := by decide
theorem test_wf_eth_ctl : (Instr.ethCtlWrite 0 (2 ^ 32)).wf = false := by decide
theorem test_wf_test_port : (Instr.testAccessPort false false false (2 ^ 717)).wf = false := by decide +kernel
theorem test_wf_good : (Instr.registerWrite .host (2 ^ 50 - 4) [1, 2, 3, 4]).wf = true ∧ (Instr.nop 143).wf = true := by decide

/-! ### The spec's worked examples -/

/-- The values of the block of "Number formats and packings", as FP32 holds them. -/
def exampleBlock : List FVal :=
  [0x40300000, 0xBFA66666, 0x3DCCCCCD, 0x3E4CCCCD, 0xBF19999A, 0x3F800000, 0x3E000000, 0xC0100000].map f32Val ++ List.replicate 24 (f32Val 0)

/-- R48, R49: the block's element bytes, its scale byte, and its two zeroed elements. -/
theorem test_quantise_example : (quantRow 1 none none exampleBlock).elems = [0xD7, 0x10, 0x4A, 0xE0] ++ List.replicate 12 0
    ∧ (quantRow 1 none none exampleBlock).scales = [0x7E] ∧ (quantRow 1 none none exampleBlock).counts.asat = 0
    ∧ (quantRow 1 none none exampleBlock).counts.azero = 2 := by decide +kernel

/-- R79 to R84: one block into three windows. -/
theorem test_block_windows : blockSum [12, -6, 0, 1, -2, 4, 0, -8] [1, 1, -1, 0, -1, 1, 1, -1] = 20
    ∧ alignTerm 20 (blockShift 0x7E (-4) 0) = (80, false) ∧ alignTerm 20 (blockShift 0x7E 0 0) = (5, false) ∧ alignTerm 20 (blockShift 0x7E 1 0) = (2, false) := by
  decide +kernel

/-- The cancellation example's steps. -/
theorem test_cancellation : alignTerm 384 (blockShift 0x95 (-4) 0) = (12884901888, false) ∧ alignTerm 3 (blockShift 0x7F (-4) 0) = (24, false)
    ∧ alignTerm 1 (blockShift 0x7A (-4) 0) = (0, true) ∧ alignTerm (-1) (blockShift 0x7A (-4) 0) = (-1, true) := by decide +kernel

/-- R86: two passes of an INT8 block. -/
theorem test_two_passes : alignTerm (-11) (blockShift 0x80 (-4) 1) = (-176, false) ∧ alignTerm 1 (blockShift 0x80 (-4) 2) = (1, false)
    ∧ alignTerm (-11) (blockShift 0x80 (-2) 1) = (-44, false) ∧ alignTerm 1 (blockShift 0x80 (-2) 2) = (0, true) := by decide +kernel

/-- R168: the log-sum of the worked example's three scores. -/
theorem test_log_sum : logTree 2 [some (-96), some 64, some (-320), none] = some 142 ∧ probCode 64 (-96) = 10 ∧ probCode 64 64 = 0 ∧ probCode 64 (-320) = 24 := by
  decide +kernel

/-- R182: BF16 50.0 with a window of −4. -/
theorem test_outlier : (outlierInt 0x4248 (-4)).map Prod.fst = some 800 := by decide +kernel

/-- The candidates of expert e0 in the routing example (R276): tokens 0, 1, 3 and 2 are kept in token order, 4 and 6 are dropped. -/
theorem test_keep_order : keepDrop 4 0 ([⟨0, 0, 0x40000000⟩, ⟨1, 0, 0x3FC00000⟩, ⟨2, 1, 0x3F000000⟩, ⟨3, 0, 0x3F800000⟩, ⟨4, 0, 0x3F000000⟩,
      ⟨6, 0, 0x3F000000⟩].foldl (fun l c => insCand c l) [])
    = ([(⟨0, 0, 0x40000000⟩, 0), (⟨1, 0, 0x3FC00000⟩, 1), (⟨3, 0, 0x3F800000⟩, 3), (⟨2, 1, 0x3F000000⟩, 2)],
      [⟨4, 0, 0x3F000000⟩, ⟨6, 0, 0x3F000000⟩]) := by decide +kernel
/-- Token 1 of the same example: e0 ranks first where the scores tie. -/
theorem test_top_experts : topExperts 2 [(0, 0x3FC00000), (1, 0x3FC00000), (2, 0), (3, 0x3E4CCCCD)] = [(0, 0x3FC00000), (1, 0x3FC00000)] := by decide +kernel

/-- R480: the periods of the hot die. -/
theorem test_temper_example : temperStep true false 1500 1600 50 160 10 1700 0 0 = (1650, 0, 0) ∧ temperStep true false 1500 1600 50 160 10 1500 0 0 = (1500, 160, 0)
    ∧ temperStep false false 1500 1600 50 160 10 1500 160 0 = (1500, 160, 0) ∧ temperStep false true 1500 1600 50 160 10 1500 160 0 = (1500, 0, 0)
    ∧ temperStep false true 1500 1600 50 160 10 1500 0 0 = (1550, 0, 0) := by decide

/-- The address examples of R20 to R30, and the straps of the device at (3, 5, 2) (R381, R498). -/
theorem test_addresses : lwin 77 + 0x20040 = 0xCD020040 ∧ kindOf 77 = 0 ∧ dieOf 77 = 1 ∧ 1107 * 2 ^ 50 + 0xCD020040 = 0x114C0000CD020040
    ∧ coordsOf 1107 = (3, 5, 2) ∧ stackOf 0x10000035000 = 5 ∧ saddrOf 0x10000035000 = 0x4000 ∧ strapOdd (BitVec.ofNat 15 (1107 + 2 ^ 14)) = false := by
  decide +kernel

/-! ### Steps -/

/-- R31, R70: a write of 2^40 to an accumulator stores 2^39 − 1. -/
theorem test_acc_write_bounds : nextIs (exec (.accViewWrite 0 0 (leBytes 8 (2 ^ 40)) .host 0) (State.reset.set (PWR_DOM_STATE 0) 3)) (fun t => (t.accRow 0 0 0).head? == some (2 ^ 39 - 1)) = true := by
  decide +kernel
/-- R232: the Draft store takes no write while its loom runs. -/
theorem test_draft_write_refused : nextIs (exec (.draftStoreWrite 0 .host 64 [5]) ((running 0 []).set (PWR_DOM_STATE 0) 3)) (fun t => t.byteAt (draftAddr 0 64) == 0) = true
    ∧ nextIs (exec (.draftStoreWrite 0 .host 64 [5]) (State.reset.set (PWR_DOM_STATE 0) 3)) (fun t => t.byteAt (draftAddr 0 64) == 5) = true := by decide +kernel
/-- A step takes the front command and leaves the rest. -/
theorem test_step_front : nextIs (step { State.reset with pending := [.accWinWrite 0 0 5 511, .nop 0] })
    (fun t => t.pending == [.nop 0] && t.get (ACC_WIN0_WIN 0 5) == 511) = true := by decide +kernel

end Sys2Proof.Tests
end

section
namespace Sys2Proof.Machine

/-! ### What reset leaves (R10, R11, R498) -/

/-- A field holds its Reset value after reset. -/
theorem State.reset_get (f : Fld) : State.reset.get f = f.reset % 2 ^ f.width := rfl

theorem State.reset_lm (n : Nat) : State.reset.lm n = Loom.reset := rfl

theorem resetState : ResetState :=
  ⟨State.reset_get, rfl, fun _ => rfl, rfl, State.reset_lm, rfl⟩

/-- Every accumulator of a device right after reset is 0. -/
theorem State.reset_accRow (n set row : Nat) : ∀ a ∈ State.reset.accRow n set row, a = 0 := by
  intro a ha
  exact List.eq_of_mem_replicate ha

theorem withinBounds_reset : WithinBounds State.reset := by
  refine ⟨fun n set row a ha => ?_, fun n => ⟨Nat.zero_le _, Nat.zero_le _⟩⟩
  rw [State.reset_accRow n set row a ha]
  omega

/-- No loom holds credits after reset, and none is outstanding. -/
theorem ledgerBalanced_reset : LedgerBalanced State.reset := by
  have hheld : ∀ n, State.reset.get (LDG_CREDIT_HELD n) = 0 := fun n => rfl
  refine ⟨?_, fun r hr => absurd hr List.not_mem_nil, fun x hx => nomatch hx⟩
  simp only [hheld, List.map_const', List.sum_replicate, smul_zero]
  rfl

/-- Settles O3: the empty tables of the reset state read as their defaults. -/
theorem resetLeaves : Obligations.ResetLeaves :=
  ⟨resetState, ⟨twf_nil_cells, rfl⟩, withinBounds_reset, ledgerBalanced_reset⟩

end Sys2Proof.Machine
end

section
/-! A cycle of REFCLK_RACK in which nothing waits for its turn (R393, R486): each of the tick's parts but the two clocks leaves the state. -/
namespace Sys2Proof.Machine

/-! ### The parts of a cycle that find nothing to do -/

/-- Ports without a credit to return, and ports without a link, send no IDLE flit. -/
theorem State.idleTick_of_none_owed (s : State) (h : ∀ p, p < 6 → s.linkAlive p = true → s.creditOut p = none) : s.idleTick = s := by
  have hp : ∀ p ∈ List.range 6, (if (s.creditOut p).isSome then s.idleOut p else s) = s := by
    intro p hp
    by_cases ha : s.linkAlive p = true
    · simp [h p (List.mem_range.1 hp) ha]
    · simp [State.idleOut, ha]
  unfold State.idleTick
  generalize List.range 6 = l at hp
  induction l with
  | nil => rfl
  | cons p l ih =>
    rw [List.foldl_cons, hp p List.mem_cons_self]
    exact ih fun q hq => hp q (List.mem_cons_of_mem _ hq)

theorem State.signTick_of_none (s : State) (h : s.mgmt.signing = none) : s.signTick = s := by simp [State.signTick, h]

theorem State.voteWake_of_timer (s : State) (h : s.is PWR_CTL_POLICY = false) : s.voteWake = s := by simp [State.voteWake, h]

theorem State.svcWatch_of_no_plans (s : State) (h : s.svc.plans = []) : s.svcWatch = s := by
  unfold State.svcWatch
  generalize List.range 64 = l
  induction l with
  | nil => rfl
  | cons b l ih => simpa [State.planOf, h] using ih

theorem State.aplicLook_of_inactive (s : State) (h : s.plat.mode = []) : s.aplicLook = s := by simp [State.aplicLook, h]

theorem State.servePosts_of_none (s : State) (h : s.posts = []) : s.servePosts = s := by simp [State.servePosts, h]

theorem State.serveHeld_of_none (s : State) (ecc : List SpadEv) (hp : s.posts = []) (hh : s.held = []) : s.serveHeld ecc = s := by
  rw [State.serveHeld, s.servePosts_of_none hp, hh, List.foldl_nil, ← hh]

/-! ### The clocks -/

/-- The credits that a port owes are told by the port's state, the packets that wait, and whether it is UP. -/
theorem State.creditOut_congr {s t : State} (p : Nat) (hport : t.fab.ports = s.fab.ports) (hq : t.fab.inq = s.fab.inq)
    (hi : t.fab.inbox = s.fab.inbox) (hup : t.portUp p = s.portUp p) : t.creditOut p = s.creditOut p := by
  have howed : t.owed p = s.owed p := by
    have hp : t.port p = s.port p := by rw [State.port, State.port, hport]
    funext vc
    have hgranted : t.granted p vc = s.granted p vc := by rw [State.granted, State.granted, hup]
    have hused : t.bufUsed p vc = s.bufUsed p vc := by rw [State.bufUsed, State.bufUsed, hp, hq, hi]
    rw [State.owed, State.owed, hgranted, hused, hp]
  unfold State.creditOut
  rw [howed]

/-- From s to t the fabric changes at most in its clock, and no register field but FAB_EPOCH. -/
def OnlyEpoch (s t : State) : Prop :=
  { t with fab := s.fab, flds := s.flds } = s ∧ t.fab.ports = s.fab.ports ∧ t.fab.inq = s.fab.inq ∧ t.fab.inbox = s.fab.inbox
    ∧ SameFields s t [FAB_EPOCH_T]

theorem State.countEpoch_onlyEpoch (s : State) : OnlyEpoch s s.countEpoch := by
  unfold State.countEpoch
  split
  · exact ⟨rfl, rfl, rfl, rfl, SameFields.refl _ _⟩
  · exact ⟨rfl, rfl, rfl, rfl, State.set_sameFields _ _ _ _ (List.mem_singleton.2 rfl)⟩

theorem OnlyEpoch.creditOut {s t : State} (h : OnlyEpoch s t) (p : Nat) : t.linkAlive p = s.linkAlive p ∧ t.creditOut p = s.creditOut p := by
  obtain ⟨-, hport, hq, hi, hf⟩ := h
  have hst : t.get (FAB_P_STATE_STATE p) = s.get (FAB_P_STATE_STATE p) :=
    hf _ (by simp only [FAB_P_STATE_STATE, FAB_EPOCH_T, List.map_cons, List.map_nil, List.mem_singleton]; omega)
  have hup : ∀ k, t.portIs p k = s.portIs p k := fun k => by simp only [State.portIs, hst]
  exact ⟨by simp only [State.linkAlive, hup], State.creditOut_congr p hport hq hi (hup 4)⟩

/-- FAB_EPOCH stays while no time has been set (R410). -/
theorem State.countEpoch_of_unset (s : State) (h : s.fab.counting = false) : s.countEpoch = s := by simp [State.countEpoch, h]

/-- Without a correction of its rate or its offset FAB_EPOCH goes on by 32 units, and the fabric stays (R393). -/
theorem State.countEpoch_of_steady (s : State) (hc : s.fab.counting = true) (hs : s.fab.slew = 0) (ha : s.fab.rateAcc = 0)
    (hr : s.get FAB_SYNC_RATE_PPB = 0) : s.countEpoch = s.add FAB_EPOCH_T 32 := by
  have hstep : rateStep 0 (toSigned 32 0) = (0, 0) := by decide
  have hfab : s.modFab (fun f => { f with slew := f.slew - 0, rateAcc := 0 }) = s :=
    congrArg (fun a => ({ s with fab := { s.fab with rateAcc := a } } : State)) ha.symm
  simp only [State.countEpoch, hc, hs, ha, hr, hstep, Nat.zero_min]
  exact congrArg (fun t : State => t.add FAB_EPOCH_T 32) hfab

/-- The time since power-on goes on by one cycle (R454). -/
def State.upTick (s : State) : State := s.modMgmt fun m => { m with upTime := m.upTime + 32 }

/-- Where nothing waits for its turn, a cycle is its two clocks. -/
theorem State.tick_of_quiet (s : State) (hheld : s.held = []) (hposts : s.posts = []) (hplans : s.svc.plans = [])
    (hsign : s.mgmt.signing = none) (hpol : s.is PWR_CTL_POLICY = false)
    (howed : ∀ p, p < 6 → s.linkAlive p = true → s.creditOut p = none) (hmode : s.plat.mode = []) : s.tick = s.upTick.countEpoch := by
  have h := s.upTick.countEpoch_onlyEpoch
  have hidle := State.idleTick_of_none_owed s.upTick.countEpoch fun p hp => by
    rw [(h.creditOut p).1, (h.creditOut p).2]
    exact howed p hp
  obtain ⟨hrest, -, -, -, hf⟩ := h
  have hpol' : s.upTick.countEpoch.is PWR_CTL_POLICY = false := by
    rw [State.is, hf PWR_CTL_POLICY (by decide)]
    exact hpol
  have hrest' : ∀ {β : Type} (g : State → β), (∀ t : State, g { t with fab := s.upTick.fab, flds := s.upTick.flds } = g t) →
      g s.upTick.countEpoch = g s.upTick := fun g hg => (hg _).symm.trans (congrArg g hrest)
  have hsign' : s.upTick.countEpoch.mgmt.signing = none := (hrest' (fun t => t.mgmt.signing) fun _ => rfl).trans hsign
  have hplans' : s.upTick.countEpoch.svc.plans = [] := (hrest' (fun t => t.svc.plans) fun _ => rfl).trans hplans
  have hmode' : s.upTick.countEpoch.plat.mode = [] := (hrest' (fun t => t.plat.mode) fun _ => rfl).trans hmode
  have hposts' : s.upTick.countEpoch.posts = [] := (hrest' (fun t => t.posts) fun _ => rfl).trans hposts
  have hheld' : s.upTick.countEpoch.held = [] := (hrest' (fun t => t.held) fun _ => rfl).trans hheld
  change s.upTick.countEpoch.idleTick.signTick.voteWake.svcWatch.aplicLook.serveHeld [] = s.upTick.countEpoch
  rw [hidle, State.signTick_of_none _ hsign', State.voteWake_of_timer _ hpol', State.svcWatch_of_no_plans _ hplans',
    State.aplicLook_of_inactive _ hmode', State.serveHeld_of_none _ _ hposts' hheld']

/-- A quiet cycle changes the time since power-on and FAB_EPOCH's clock alone. -/
theorem State.upTick_countEpoch_frame (s : State) : s.upTick.countEpoch.mgmt.upTime = s.mgmt.upTime + 32
    ∧ { s.upTick.countEpoch with mgmt := { s.upTick.countEpoch.mgmt with upTime := s.mgmt.upTime }, fab := s.fab, flds := s.flds } = s
    ∧ SameFields s s.upTick.countEpoch [FAB_EPOCH_T] := by
  obtain ⟨hrest, -, -, -, hf⟩ := s.upTick.countEpoch_onlyEpoch
  have hm : s.upTick.countEpoch.mgmt = s.upTick.mgmt := (congrArg State.mgmt hrest :)
  exact ⟨by rw [hm]; rfl, congrArg (fun t : State => { t with mgmt := { t.mgmt with upTime := s.mgmt.upTime } }) hrest, hf⟩

/-- Settles O2: on an empty queue a step is a cycle, whose parts but the clocks find nothing to do; or it is the first command that waits
for the stacks. -/
theorem emptyQueueTicks : Obligations.EmptyQueueTicks := by
  intro s hpend
  have hstep : step s = s.idle := by simp [step, hpend]
  refine ⟨fun hw => ⟨s.tick, by simp [hstep, State.idle, hw], rfl, ?_⟩, fun c rest hw => ⟨fun ha => ?_, fun ha => ?_⟩⟩
  · intro hheld hposts hplans hsign hpol howed hmode
    rw [s.tick_of_quiet hheld hposts hplans hsign hpol howed hmode]
    obtain ⟨hup, hrest, hf⟩ := s.upTick_countEpoch_frame
    refine ⟨hup, hrest, hf, fun hc => ?_, fun hc hs ha hr => ?_⟩
    · rw [s.upTick.countEpoch_of_unset hc]
      exact ⟨rfl, rfl⟩
    · rw [s.upTick.countEpoch_of_steady hc hs ha hr]
      exact ⟨rfl, State.get_add_same _ _ _⟩
  · simp [hstep, State.idle, hw, ha]
  · simp [hstep, State.idle, hw, ha]

end Sys2Proof.Machine
end

section
/-! Bits of the numbers that bytes spell (R9), and of a number in which a range of bits is replaced. -/
namespace Sys2Proof.Machine

theorem testBit_bits (v lo w j : Nat) : (bits v lo w).testBit j = (decide (j < w) && v.testBit (lo + j)) := by
  rw [bits, Nat.testBit_mod_two_pow, Nat.testBit_shiftRight]

/-- A number is its bits above, in and below a range. -/
theorem split_bits (v lo w : Nat) : v = 2 ^ (lo + w) * (v / 2 ^ (lo + w)) + (bits v lo w * 2 ^ lo + v % 2 ^ lo) := by
  have h1 : v / 2 ^ lo / 2 ^ w = v / 2 ^ (lo + w) := by rw [Nat.div_div_eq_div_mul, Nat.pow_add]
  have h2 := Nat.div_add_mod v (2 ^ lo)
  have h3 := Nat.div_add_mod (v / 2 ^ lo) (2 ^ w)
  rw [bits, Nat.shiftRight_eq_div_pow, ← h1, Nat.pow_add]
  calc v = 2 ^ lo * (2 ^ w * (v / 2 ^ lo / 2 ^ w) + v / 2 ^ lo % 2 ^ w) + v % 2 ^ lo := by rw [h3, h2]
    _ = _ := by ring

/-- Replacing a range of bits gives the range the new bits and leaves the others. -/
theorem testBit_putBits (v lo w x j : Nat) :
    (putBits v lo w x).testBit j = if lo ≤ j ∧ j < lo + w then x.testBit (j - lo) else v.testBit j := by
  have hlow : ∀ m, m % 2 ^ w * 2 ^ lo + v % 2 ^ lo < 2 ^ (lo + w) := fun m => by
    calc m % 2 ^ w * 2 ^ lo + v % 2 ^ lo
      _ < m % 2 ^ w * 2 ^ lo + 2 ^ lo := Nat.add_lt_add_left (Nat.mod_lt v (Nat.two_pow_pos lo)) _
      _ = (m % 2 ^ w + 1) * 2 ^ lo := (Nat.succ_mul _ _).symm
      _ ≤ 2 ^ w * 2 ^ lo := Nat.mul_le_mul_right _ (Nat.mod_lt m (Nat.two_pow_pos w))
      _ = 2 ^ (lo + w) := by rw [Nat.pow_add, Nat.mul_comm]
  have hbits : bits v lo w % 2 ^ w = bits v lo w := Nat.mod_mod _ _
  have hput : putBits v lo w x = 2 ^ (lo + w) * (v / 2 ^ (lo + w)) + (x % 2 ^ w * 2 ^ lo + v % 2 ^ lo) := by
    have h := split_bits v lo w
    rw [putBits]
    omega
  have htest : ∀ m, (2 ^ (lo + w) * (v / 2 ^ (lo + w)) + (m % 2 ^ w * 2 ^ lo + v % 2 ^ lo)).testBit j
      = if j < lo + w then (if j < lo then (v % 2 ^ lo).testBit j else (m % 2 ^ w).testBit (j - lo)) else v.testBit j := fun m => by
    rw [Nat.testBit_two_pow_mul_add _ (hlow m), Nat.mul_comm (m % 2 ^ w), Nat.testBit_two_pow_mul_add _ (Nat.mod_lt v (Nat.two_pow_pos lo))]
    split
    · rfl
    · rw [← Nat.testBit_add]
      congr 1
      omega
  rw [hput, htest]
  by_cases h1 : j < lo + w
  · by_cases h2 : j < lo
    · simp [h1, h2, Nat.testBit_mod_two_pow, Nat.not_le.2 h2]
    · simp only [h1, h2, if_true, if_false, Nat.not_lt.1 h2, and_self, Nat.testBit_mod_two_pow]
      simp [show j - lo < w by omega]
  · simp [h1]

/-- What is left of a number when the bits that another has are taken out. -/
theorem testBit_sub_and (b x j : Nat) : (b - (b &&& x)).testBit j = (b.testBit j && !x.testBit j) := by
  induction j generalizing b x with
  | zero =>
    have hle : b &&& x ≤ b := Nat.and_le_left
    have hpar := Nat.and_mod_two_eq_one (a := b) (b := x)
    have hand : ((b &&& x) % 2 = 1) ↔ (b % 2 = 1 ∧ x % 2 = 1) := hpar
    simp only [Nat.testBit_zero]
    by_cases hb : b % 2 = 1 <;> by_cases hx : x % 2 = 1 <;> simp only [hb, hx] at hand ⊢ <;> simp at hand ⊢ <;> omega
  | succ j ih =>
    have hle : b &&& x ≤ b := Nat.and_le_left
    have hdiv : (b &&& x) / 2 = b / 2 &&& x / 2 := Nat.and_div_two
    have hand : (b &&& x) % 2 ≤ b % 2 := by
      have h : ((b &&& x) % 2 = 1) ↔ (b % 2 = 1 ∧ x % 2 = 1) := Nat.and_mod_two_eq_one
      omega
    simp only [Nat.testBit_succ]
    rw [← ih, ← hdiv]
    congr 1
    omega

theorem testBit_leNat_cons (b : Byte) (l : List Byte) (j : Nat) :
    (leNat (b :: l)).testBit j = if j < 8 then b.toNat.testBit j else (leNat l).testBit (j - 8) := by
  rw [leNat, Nat.add_comm]
  exact Nat.testBit_two_pow_mul_add (leNat l) b.isLt j

/-- The low bytes of a number spell the number cut to them. -/
theorem leNat_leBytes (n v : Nat) : leNat (leBytes n v) = v % 256 ^ n := by
  induction n generalizing v with
  | zero => simp [leBytes, leNat, Nat.mod_one]
  | succ n ih =>
    rw [leBytes, leNat, ih, BitVec.toNat_ofNat, pow_succ' 256 n, Nat.mod_mul]

@[simp] theorem leBytes_length (n v : Nat) : (leBytes n v).length = n := by
  induction n generalizing v with
  | zero => rfl
  | succ n ih => simp [leBytes, ih]

/-- The whole of a string is its bytes from 0 on. -/
@[simp] theorem slice_self (l : List Byte) : slice l 0 l.length = l := by simp [slice]

end Sys2Proof.Machine
end

section
/-! The register map's shape (R28, R34): the fields of every register lie one after another and do not overlap; and what a byte written to a
register, or read from it, does to each bit of its fields (R10, R535). -/
namespace Sys2Proof.Machine

/-! ### The map -/

/-- The fields of a list lie one after another, from bit `lo` after bit A of the address space on, and none is empty. -/
inductive FieldsFrom (A : Nat) : Nat → List (Fld × Acc) → Prop
  | nil {lo : Nat} : FieldsFrom A lo []
  | cons {lo o w reset : Nat} {acc : Acc} {rest : List (Fld × Acc)} (hlo : lo ≤ o) (hw : 0 < w) (h : FieldsFrom A (o + w) rest) :
      FieldsFrom A lo ((⟨A + o, w, reset⟩, acc) :: rest)

/-- Every register of the map has its fields one after another. -/
theorem regMap_fieldsFrom : ∀ r ∈ regMap, ∀ n i, ∃ A, FieldsFrom A 0 (r.flds n i) := by
  simp only [regMap, regMapLoom0, regMapLoom1, regMapLoom2, regMapLoom3, regMapLoom4, regMapLoom5, regMapHub0, regMapHub1, regMapHub2,
    regMapHub3, regMapFabric0, regMapFabric1, regMapFabric2, regMapMgmt0, regMapMgmt1, regMapMgmt2, regMapMgmt3, List.forall_mem_append,
    List.forall_mem_cons, List.not_mem_nil, IsEmpty.forall_iff, implies_true, and_true]
  and_intros
  all_goals
    intro n i
    apply Exists.intro
    constructorm* FieldsFrom _ _ _
    all_goals decide

/-- Field `b` lies above field `a`, which is not empty. -/
def Above (a b : Fld × Acc) : Prop := a.1.key + a.1.width ≤ b.1.key ∧ 0 < a.1.width

theorem FieldsFrom.le_key {A lo : Nat} {l : List (Fld × Acc)} (h : FieldsFrom A lo l) : ∀ fa ∈ l, A + lo ≤ fa.1.key := by
  induction h with
  | nil => exact fun fa hfa => absurd hfa List.not_mem_nil
  | cons hlo hw _ ih =>
    rintro fa hfa
    rcases List.mem_cons.1 hfa with rfl | hfa
    · exact Nat.add_le_add_left hlo A
    · have := ih fa hfa
      omega

theorem FieldsFrom.pairwise {A lo : Nat} {l : List (Fld × Acc)} (h : FieldsFrom A lo l) : l.Pairwise Above := by
  induction h with
  | nil => exact List.Pairwise.nil
  | cons hlo hw hrest ih => exact List.Pairwise.cons (fun fa hfa => ⟨by have := hrest.le_key fa hfa; simp only at this ⊢; omega, hw⟩) ih

theorem findIn_shape_mem {l : List RegShape} {a : Nat} {h : RegHit} (hf : findIn l a = some h) : h.shape ∈ l := by
  induction l with
  | nil => exact nomatch hf
  | cons r t ih =>
    rw [findIn] at hf
    split at hf
    · cases hf
      exact List.mem_cons_self
    · exact List.mem_cons_of_mem r (ih hf)

/-- The fields of a register that an address hits lie one after another. -/
theorem RegHit.fields_pairwise {a : Nat} {h : RegHit} (hf : findReg a = some h) : h.fields.Pairwise Above :=
  (regMap_fieldsFrom h.shape (findIn_shape_mem hf) h.inst h.idx).elim fun _ hA => hA.pairwise

theorem Above.key_ne {a b : Fld × Acc} (h : Above a b) : a.1.key ≠ b.1.key := by
  have := h.1
  have := h.2
  omega

/-! ### A byte written -/

/-- The bit that byte b at address a gives place y of the address space. -/
def byteBit (a : Nat) (b : Byte) (y : Nat) : Option Bool := if 8 * a ≤ y ∧ y < 8 * a + 8 then some (b.toNat.testBit (y - 8 * a)) else none

/-- Writing a byte to a field changes that field alone. -/
theorem State.writeField_onlyFields (s : State) (a : Nat) (b : Byte) (fa : Fld × Acc) : OnlyFields s (s.writeField a b fa) [fa.1] := by
  unfold State.writeField
  split
  · exact OnlyFields.refl _ _
  · dsimp only
    split
    · exact s.set_onlyFields _ _
    · exact s.set_onlyFields _ _
    · exact s.set_onlyFields _ _
    · exact OnlyFields.refl _ _
    · exact OnlyFields.refl _ _

/-- The part of a field that a byte carries: the bits of the field from `q` on, which are those of the byte from `p` on. -/
theorem fieldByte_some {f : Fld} {a p q w : Nat} (h : fieldByte f a = some (p, q, w)) {j : Nat} (hj : j < f.width) :
    (q ≤ j ∧ j < q + w ↔ 8 * a ≤ f.key + j ∧ f.key + j < 8 * a + 8) ∧ (q ≤ j → p + (j - q) = f.key + j - 8 * a) := by
  unfold fieldByte at h
  dsimp only at h
  split at h
  · simp only [Option.some.injEq, Prod.mk.injEq] at h
    omega
  · exact nomatch h

theorem fieldByte_none {f : Fld} {a : Nat} (h : fieldByte f a = none) {j : Nat} (hj : j < f.width) :
    ¬ (8 * a ≤ f.key + j ∧ f.key + j < 8 * a + 8) := by
  unfold fieldByte at h
  dsimp only at h
  split at h
  · exact nomatch h
  · omega

/-- A bit of a field after a byte is written, by the field's access type (R10). -/
theorem State.testBit_writeField (s : State) (a : Nat) (b : Byte) (fa : Fld × Acc) {j : Nat} (hj : j < fa.1.width) :
    ((s.writeField a b fa).get fa.1).testBit j = bitAfter fa.2 ((s.get fa.1).testBit j) (byteBit a b (fa.1.key + j)) := by
  obtain ⟨f, acc⟩ := fa
  simp only at hj
  match hfb : fieldByte f a with
  | none => cases acc <;> simp [State.writeField, hfb, bitAfter, byteBit, fieldByte_none hfb hj]
  | some (p, q, w) =>
    obtain ⟨hin, hat⟩ := fieldByte_some hfb hj
    by_cases hc : 8 * a ≤ f.key + j ∧ f.key + j < 8 * a + 8
    · obtain ⟨hq, hw⟩ := hin.2 hc
      have hoff : j - q < w := by omega
      have hback : q + (j - q) = j := by omega
      cases acc <;>
        simp [State.writeField, hfb, bitAfter, byteBit, hc, hj, Nat.testBit_mod_two_pow, testBit_putBits, hq, hw, testBit_bits, hoff, hat hq,
          testBit_sub_and, hback]
    · have hput : ∀ v x, (putBits v q w x).testBit j = v.testBit j := fun v x => by rw [testBit_putBits, if_neg (mt hin.1 hc)]
      cases acc <;> simp [State.writeField, hfb, bitAfter, byteBit, hc, hj, Nat.testBit_mod_two_pow, hput]

/-- Writing a byte to the fields of a list changes those fields alone. -/
theorem State.writeFields_onlyFields (a : Nat) (b : Byte) (l : List (Fld × Acc)) :
    ∀ s : State, OnlyFields s (l.foldl (fun s fa => s.writeField a b fa) s) (l.map Prod.fst) := by
  induction l with
  | nil => exact fun s => OnlyFields.refl s _
  | cons fa l ih =>
    intro s
    exact ((s.writeField_onlyFields a b fa).mono (by simp)).trans ((ih _).mono (by simp))

/-- Writing a byte to fields that lie apart gives each of their bits what the byte has for it. -/
theorem State.testBit_writeFields (a : Nat) (b : Byte) (l : List (Fld × Acc)) (hl : l.Pairwise Above) :
    ∀ s : State, ∀ fa ∈ l, ∀ j, j < fa.1.width → ((l.foldl (fun s fa => s.writeField a b fa) s).get fa.1).testBit j
      = bitAfter fa.2 ((s.get fa.1).testBit j) (byteBit a b (fa.1.key + j)) := by
  induction l with
  | nil => exact fun s fa hfa => absurd hfa List.not_mem_nil
  | cons x l ih =>
    intro s fa hfa j hj
    obtain ⟨hx, hl⟩ := List.pairwise_cons.1 hl
    rcases List.mem_cons.1 hfa with rfl | hfa
    · have hkeep : (l.foldl (fun s fa => s.writeField a b fa) (s.writeField a b fa)).get fa.1 = (s.writeField a b fa).get fa.1 := by
        refine (State.writeFields_onlyFields a b l _).2 fa.1 fun hm => ?_
        obtain ⟨f, hf, he⟩ := List.mem_map.1 hm
        obtain ⟨y, hy, rfl⟩ := List.mem_map.1 hf
        exact (hx y hy).key_ne he.symm
      rw [List.foldl_cons, hkeep]
      exact s.testBit_writeField a b fa hj
    · have hkeep : (s.writeField a b x).get fa.1 = s.get fa.1 :=
        (s.writeField_onlyFields a b x).2 fa.1 fun hm => (hx fa hfa).key_ne (List.mem_singleton.1 hm).symm
      rw [List.foldl_cons, ih hl _ fa hfa j hj, hkeep]

/-! ### Bytes written -/

/-- The bytes from x on lie in the register whose fields are `fs`. -/
def HitsFields (x n : Nat) (fs : List (Fld × Acc)) : Prop := ∀ i, i < n → ∃ h, findReg (x + i) = some h ∧ h.fields = fs

theorem HitsFields.tail {x n : Nat} {fs : List (Fld × Acc)} (h : HitsFields x (n + 1) fs) : HitsFields (x + 1) n fs := fun i hi => by
  obtain ⟨r, hr, hfs⟩ := h (i + 1) (by omega)
  exact ⟨r, by rw [← hr]; congr 1; omega, hfs⟩

theorem bitWritten_cons (x : Nat) (b : Byte) (l : List Byte) (y : Nat) :
    bitWritten x (b :: l) y = (byteBit x b y).or (bitWritten (x + 1) l y) := by
  simp only [bitWritten, byteBit, List.length_cons, testBit_leNat_cons]
  by_cases h0 : 8 * x ≤ y ∧ y < 8 * x + 8
  · rw [if_pos (by omega), if_pos h0, if_pos (by omega)]
    rfl
  · rw [if_neg h0, Option.none_or]
    by_cases h1 : 8 * (x + 1) ≤ y ∧ y < 8 * (x + 1 + l.length)
    · rw [if_pos (by omega), if_pos h1, if_neg (by omega)]
      congr 2
    · rw [if_neg (by omega), if_neg h1]

/-- Two writes of which the second does not meet a bit that the first has given act as one. -/
theorem bitAfter_bitAfter (acc : Acc) (old : Bool) (u v : Option Bool) (h : u = none ∨ v = none) :
    bitAfter acc (bitAfter acc old u) v = bitAfter acc old (u.or v) := by
  rcases h with rfl | rfl
  · cases acc <;> simp [bitAfter]
  · cases acc <;> simp [bitAfter]

theorem byteBit_none_or_bitWritten_none (x : Nat) (b : Byte) (l : List Byte) (y : Nat) :
    byteBit x b y = none ∨ bitWritten (x + 1) l y = none := by
  by_cases h : 8 * x ≤ y ∧ y < 8 * x + 8
  · exact .inr (if_neg (by omega))
  · exact .inl (if_neg h)

theorem State.regPutByte_of_hit {a : Nat} {h : RegHit} (s : State) (b : Byte) (hf : findReg a = some h) :
    s.regPutByte a b = h.fields.foldl (fun s fa => s.writeField a b fa) s := by
  simp only [State.regPutByte, hf]

/-- Bytes written to a register change its fields alone. -/
theorem State.regPut_onlyFields (fs : List (Fld × Acc)) (data : List Byte) :
    ∀ (s : State) (x : Nat), HitsFields x data.length fs → OnlyFields s (s.regPut x data) (fs.map Prod.fst) := by
  induction data with
  | nil => exact fun s x _ => OnlyFields.refl s _
  | cons b data ih =>
    intro s x hx
    obtain ⟨h, hf : findReg x = some h, rfl⟩ := hx 0 (by simp)
    rw [State.regPut, s.regPutByte_of_hit b hf]
    exact (State.writeFields_onlyFields _ b h.fields s).trans (ih _ _ hx.tail)

/-- Bytes written to a register give each bit of its fields what R10 says of its access type. -/
theorem State.testBit_regPut (fs : List (Fld × Acc)) (data : List Byte) :
    ∀ (s : State) (x : Nat), HitsFields x data.length fs → ∀ fa ∈ fs, ∀ j, j < fa.1.width →
      ((s.regPut x data).get fa.1).testBit j = bitAfter fa.2 ((s.get fa.1).testBit j) (bitWritten x data (fa.1.key + j)) := by
  induction data with
  | nil =>
    intro s x _ fa _ j _
    have hw : bitWritten x [] (fa.1.key + j) = none := if_neg (by simp only [List.length_nil]; omega)
    rw [hw]
    cases fa.2 <;> simp [State.regPut, bitAfter]
  | cons b data ih =>
    intro s x hx fa hfa j hj
    obtain ⟨h, hf : findReg x = some h, rfl⟩ := hx 0 (by simp)
    rw [State.regPut, s.regPutByte_of_hit b hf, ih _ _ hx.tail fa hfa j hj,
      State.testBit_writeFields _ b h.fields (RegHit.fields_pairwise hf) s fa hfa j hj,
      bitAfter_bitAfter _ _ _ _ (byteBit_none_or_bitWritten_none x b data _), bitWritten_cons]

end Sys2Proof.Machine
end

section
/-! What a register reads as (R10), and the registers whose accesses do no more than R10 and R535 say. -/
namespace Sys2Proof.Machine

/-! ### A byte read -/

/-- The field shows a 1 at place y of the address space. -/
def State.showsBit (s : State) (y : Nat) (fa : Fld × Acc) : Bool :=
  fa.2 != .wo && decide (fa.1.key ≤ y) && decide (y < fa.1.key + fa.1.width) && (s.get fa.1).testBit (y - fa.1.key)

/-- The byte at address a with the part of one more field. -/
def State.addShown (s : State) (a v : Nat) (fa : Fld × Acc) : Nat :=
  match fa.2, fieldByte fa.1 a with
  | .wo, _ => v
  | _, some (p, q, w) => v + bits (s.get fa.1) q w * 2 ^ p
  | _, none => v

theorem State.regByte_of_hit {a : Nat} {h : RegHit} (s : State) (hf : findReg a = some h) :
    s.regByte a = BitVec.ofNat 8 (h.fields.foldl (s.addShown a) 0) := by
  simp only [State.regByte, hf]
  rfl

theorem State.addShown_of_wo (s : State) (a v : Nat) {fa : Fld × Acc} (h : fa.2 = .wo) : s.addShown a v fa = v := by
  simp [State.addShown, h]

theorem State.addShown_of_none (s : State) (a v : Nat) {fa : Fld × Acc} (h : fieldByte fa.1 a = none) : s.addShown a v fa = v := by
  unfold State.addShown
  rw [h]
  split <;> simp_all

theorem State.addShown_of_some (s : State) (a v : Nat) {fa : Fld × Acc} {p q w : Nat} (ha : fa.2 ≠ .wo) (h : fieldByte fa.1 a = some (p, q, w)) :
    s.addShown a v fa = 2 ^ p * bits (s.get fa.1) q w + v := by
  rw [Nat.mul_comm, Nat.add_comm]
  unfold State.addShown
  rw [h]
  split <;> simp_all

/-- A field above what a byte holds so far adds its own bits to it. -/
theorem State.addShown_spec (s : State) (a v lo : Nat) (fa : Fld × Acc) (hlo : lo ≤ fa.1.key) (hv : v < 2 ^ (lo - 8 * a)) :
    s.addShown a v fa < 2 ^ (fa.1.key + fa.1.width - 8 * a)
      ∧ ∀ j, j < 8 → (s.addShown a v fa).testBit j = (v.testBit j || s.showsBit (8 * a + j) fa) := by
  have hbound : v < 2 ^ (fa.1.key + fa.1.width - 8 * a) := Nat.lt_of_lt_of_le hv (Nat.pow_le_pow_right (by omega) (by omega))
  by_cases hwo : fa.2 = .wo
  · rw [s.addShown_of_wo a v hwo]
    exact ⟨hbound, fun j _ => by simp [State.showsBit, hwo]⟩
  match hfb : fieldByte fa.1 a with
  | none =>
    rw [s.addShown_of_none a v hfb]
    refine ⟨hbound, fun j hj => ?_⟩
    have hout : ¬ (fa.1.key ≤ 8 * a + j ∧ 8 * a + j < fa.1.key + fa.1.width) := fun ⟨h1, h2⟩ =>
      fieldByte_none hfb (j := 8 * a + j - fa.1.key) (by omega) (by omega)
    by_cases h1 : fa.1.key ≤ 8 * a + j
    · have h2 : ¬ 8 * a + j < fa.1.key + fa.1.width := fun h2 => hout ⟨h1, h2⟩
      simp [State.showsBit, h2]
    · simp [State.showsBit, h1]
  | some (p, q, w) =>
    rw [s.addShown_of_some a v hwo hfb]
    have hplace : 8 * a + p = max fa.1.key (8 * a) ∧ fa.1.key + q = max fa.1.key (8 * a)
        ∧ 8 * a + p + w = min (fa.1.key + fa.1.width) (8 * a + 8) := by
      unfold fieldByte at hfb
      dsimp only at hfb
      split at hfb
      · simp only [Option.some.injEq, Prod.mk.injEq] at hfb
        omega
      · exact nomatch hfb
    obtain ⟨hp, hq, hw⟩ := hplace
    have hvp : v < 2 ^ p := Nat.lt_of_lt_of_le hv (Nat.pow_le_pow_right (by omega) (by omega))
    have hb : bits (s.get fa.1) q w < 2 ^ w := Nat.mod_lt _ (Nat.two_pow_pos w)
    refine ⟨?_, fun j hj => ?_⟩
    · calc 2 ^ p * bits (s.get fa.1) q w + v
        _ < 2 ^ p * bits (s.get fa.1) q w + 2 ^ p := Nat.add_lt_add_left hvp _
        _ = 2 ^ p * (bits (s.get fa.1) q w + 1) := (Nat.mul_succ _ _).symm
        _ ≤ 2 ^ p * 2 ^ w := Nat.mul_le_mul_left _ hb
        _ = 2 ^ (p + w) := (Nat.pow_add 2 p w).symm
        _ ≤ 2 ^ (fa.1.key + fa.1.width - 8 * a) := Nat.pow_le_pow_right (by omega) (by omega)
    · rw [Nat.testBit_two_pow_mul_add _ hvp]
      by_cases hjp : j < p
      · have hk : ¬ fa.1.key ≤ 8 * a + j := by omega
        simp [State.showsBit, hjp, hk]
      · have hvj : v.testBit j = false :=
          Nat.testBit_eq_false_of_lt (Nat.lt_of_lt_of_le hvp (Nat.pow_le_pow_right (by omega) (by omega)))
        have hk : fa.1.key ≤ 8 * a + j := by omega
        have hend : (j - p < w) = (8 * a + j < fa.1.key + fa.1.width) := by
          simp only [eq_iff_iff]
          omega
        have hat : q + (j - p) = 8 * a + j - fa.1.key := by omega
        have hne : (fa.2 != .wo) = true := bne_iff_ne.2 hwo
        simp [State.showsBit, hjp, hvj, hk, hne, testBit_bits, hat, hend]

/-- The fields of a register that lie apart each give a byte of it their own bits. -/
theorem State.testBit_addShowns (s : State) (a : Nat) (l : List (Fld × Acc)) (hl : l.Pairwise Above) :
    ∀ v lo, (∀ fa ∈ l, lo ≤ fa.1.key) → v < 2 ^ (lo - 8 * a) → ∀ j, j < 8 →
      (l.foldl (s.addShown a) v).testBit j = (v.testBit j || l.any (s.showsBit (8 * a + j))) := by
  induction l with
  | nil => simp
  | cons fa l ih =>
    intro v lo hlo hv j hj
    obtain ⟨habove, hl⟩ := List.pairwise_cons.1 hl
    obtain ⟨hlt, hbit⟩ := s.addShown_spec a v lo fa (hlo fa List.mem_cons_self) hv
    rw [List.foldl_cons, ih hl _ (fa.1.key + fa.1.width) (fun x hx => (habove x hx).1) hlt j hj, hbit j hj, List.any_cons, Bool.or_assoc]

/-- A bit of a register as it reads: that of the field that lies there, unless it is WO (R10). -/
theorem State.testBit_regByte {a : Nat} {h : RegHit} (s : State) (hf : findReg a = some h) {j : Nat} (hj : j < 8) :
    (s.regByte a).toNat.testBit j = h.fields.any (s.showsBit (8 * a + j)) := by
  rw [s.regByte_of_hit hf, BitVec.toNat_ofNat, Nat.testBit_mod_two_pow, decide_eq_true hj, Bool.true_and,
    s.testBit_addShowns a _ (RegHit.fields_pairwise hf) 0 0 (fun _ _ => Nat.zero_le _) (Nat.two_pow_pos _) j hj, Nat.zero_testBit, Bool.false_or]

/-! ### Registers whose accesses do nothing else -/

/-- A write to a register whose writes do no more than R535 says is a write to its fields. -/
theorem State.putReg_of_plain (s : State) (w : RegW) (ha : actsOnWrite w.hit.shape.base = false) (he : ethIdle s w.hit = false) :
    s.putReg w = s.regPut w.addr w.data := by
  simp only [actsOnWrite, List.contains_eq_mem, decide_eq_false_iff_not, List.mem_cons, List.not_mem_nil, or_false, not_or] at ha
  have hf : (if 0x7000000 ≤ w.hit.shape.base && w.hit.shape.base < 0x7010000 then if s.ethOff w.hit.inst then s else s.plainPut w
      else s.plainPut w) = s.plainPut w := by
    unfold ethIdle at he
    split
    · simp_all
    · rfl
  simp only [State.putReg, State.putLoom, State.putFabric, State.putHub, State.putMgmt, ha, if_false, hf, decide_false, Bool.or_self, ite_self,
    Bool.false_eq_true]
  rfl

/-- A register that shows what its fields hold is read as it stands. -/
theorem State.shown_of_plain (s : State) (h : RegHit) (hs : showsElse h.shape.base = false) (he : ethIdle s h = false) : s.shown h = s := by
  simp only [showsElse, List.contains_eq_mem, decide_eq_false_iff_not, List.mem_cons, List.not_mem_nil, or_false, not_or] at hs
  unfold ethIdle at he
  simp only [State.shown, State.readsAs, hs, if_false, he, Bool.false_eq_true]

/-- What a read takes back is no field and no byte. -/
theorem State.readSeen_of_plain (s : State) (h : RegHit) (hs : showsElse h.shape.base = false) :
    (s.readSeen h.shape.base h.inst).flds = s.flds ∧ (s.readSeen h.shape.base h.inst).looms = s.looms
      ∧ SameMemory s (s.readSeen h.shape.base h.inst) := by
  simp only [showsElse, List.contains_eq_mem, decide_eq_false_iff_not, List.mem_cons, List.not_mem_nil, or_false, not_or] at hs
  simp only [State.readSeen, hs, decide_false, Bool.false_and, Bool.false_eq_true, if_false]
  split
  · exact ⟨rfl, rfl, fun _ => rfl, rfl⟩
  · split <;> exact ⟨rfl, rfl, fun _ => rfl, rfl⟩

end Sys2Proof.Machine
end

section
/-! Accesses of one piece that lie in no scratchpad and no accumulator view (R31, R534, R535): where its domain is ON such an access is
performed at once. -/
namespace Sys2Proof.Machine

/-- No loom's scratchpad or accumulator view holds the address. -/
def OutsidePads (x : Nat) : Prop := ∀ m off, placeOf x ≠ .spad m off ∧ placeOf x ≠ .acc m off

theorem OutsidePads.of_place {x : Nat} {p : Place} (h : placeOf x = p) (hp : ∀ m off, p ≠ .spad m off ∧ p ≠ .acc m off) : OutsidePads x := fun m off => by
  rw [h]
  exact hp m off

theorem accessCuts_of_le_pieceLen {x n : Nat} (hn : 0 < n) (hl : n ≤ pieceLen x) : accessCuts n x n = [(x, n)] := by
  match n with
  | k + 1 =>
    have hm : min (k + 1) (max 1 (pieceLen x)) = k + 1 := by omega
    have hrest : ∀ k y, accessCuts k y 0 = [] := fun k y => by cases k <;> simp [accessCuts]
    simp [accessCuts, hm, hrest]

theorem padOf_of_outsidePads {x : Nat} (n : Nat) (h : OutsidePads x) : padOf x n = none := by
  unfold padOf
  split
  · rfl
  · split
    · rename_i m off _ _ hp _
      exact absurd hp (h m off).1
    · rename_i m off _ _ hp _
      exact absurd hp (h m off).2
    · rfl

theorem crossedPads_of_outsidePads {x n : Nat} (hn : 0 < n) (hl : n ≤ pieceLen x) (h : OutsidePads x) : crossedPads x n = [] := by
  rw [crossedPads, padOf_of_outsidePads n h, accessCuts_of_le_pieceLen hn hl, Option.isSome_none, if_neg Bool.false_ne_true,
    List.filterMap_eq_nil_iff]
  intro y hy
  rw [List.mem_singleton.1 hy]
  split
  · rename_i m off hp
    exact absurd hp (h m off).1
  · rename_i m off hp
    exact absurd hp (h m off).2
  · rfl

/-- An access of one piece outside the pads, whose domain is ON, is performed at once. -/
theorem State.accessAfter_of_piece (s : State) (a : Access) (deferred : Nat) (ecc : List SpadEv) (hn : 0 < accSize a)
    (hl : accSize a ≤ pieceLen a.addr) (hp : OutsidePads a.addr) (hd : ∀ d, domainAt a.addr = some d → s.notOn d = false) :
    s.accessAfter a deferred ecc = s.performNow a := by
  have hcross := crossedPads_of_outsidePads hn hl hp
  have hwait : s.mustWait a = false := by
    simp only [State.mustWait, State.portWaits, accDomains, accessCuts_of_le_pieceLen hn hl, hcross, List.any_nil, Bool.or_false,
      List.any_eq_false, List.mem_filterMap, List.mem_singleton]
    rintro d ⟨y, rfl, hy⟩
    simp [hd d hy]
  simp [State.accessAfter, hwait, State.doAccess, padOf_of_outsidePads _ hp, hcross, State.performPads]

/-- What an access leaves whose one piece answers `r` and leaves `t`. -/
def State.answered (t : State) (a : Access) (r : AccRes) : State :=
  { (if a.write then t.recordBad a r.bad else (t.recordBad a r.bad).readPoison a.req a.fetch a.addr r.poison) with
    resp := ⟨statusOf r.bad, r.data, r.poison⟩ }

theorem State.performNow_of_piece (s : State) (a : Access) {r : AccRes} {t : State} (hn : 0 < accSize a) (hl : accSize a ≤ pieceLen a.addr)
    (h : s.piece a a.addr (accSize a) {} = (r, t)) : s.performNow a = t.answered a r := by
  simp [State.performNow, State.perform, State.performPieces, accessCuts_of_le_pieceLen hn hl, h, State.answered]

theorem State.recordBad_frame (s : State) (a : Access) (bad : Option (Nat × Nat)) :
    (s.recordBad a bad).flds = s.flds ∧ (s.recordBad a bad).looms = s.looms ∧ SameMemory s (s.recordBad a bad) := by
  unfold State.recordBad
  split
  · exact ⟨State.report_flds _ _, State.report_looms _ _, fun x => State.report_byteAt _ _ x, State.report_poison _ _⟩
  · exact ⟨rfl, rfl, fun _ => rfl, rfl⟩

theorem State.readPoison_frame (s : State) (req : Requester) (fetch : Bool) (x : Nat) (p : Bool) :
    (s.readPoison req fetch x p).flds = s.flds ∧ (s.readPoison req fetch x p).looms = s.looms ∧ SameMemory s (s.readPoison req fetch x p) := by
  unfold State.readPoison
  split
  · split
    · exact ⟨State.report_flds _ _, State.report_looms _ _, fun x => State.report_byteAt _ _ x, State.report_poison _ _⟩
    · exact ⟨rfl, rfl, fun _ => rfl, rfl⟩
  · exact ⟨rfl, rfl, fun _ => rfl, rfl⟩
  · exact ⟨rfl, rfl, fun _ => rfl, rfl⟩

/-- Answering an access changes no register field, no loom and no memory. -/
theorem State.answered_frame (t : State) (a : Access) (r : AccRes) :
    (t.answered a r).flds = t.flds ∧ (t.answered a r).looms = t.looms ∧ SameMemory t (t.answered a r) := by
  obtain ⟨h1, h2, h3, h4⟩ := t.recordBad_frame a r.bad
  unfold State.answered
  split
  · exact ⟨h1, h2, h3, h4⟩
  · obtain ⟨g1, g2, g3, g4⟩ := (t.recordBad a r.bad).readPoison_frame a.req a.fetch a.addr r.poison
    exact ⟨g1.trans h1, g2.trans h2, fun x => (g3 x).trans (h3 x), g4.trans h4⟩

theorem State.answered_resp (t : State) (a : Access) (r : AccRes) : (t.answered a r).resp = ⟨statusOf r.bad, r.data, r.poison⟩ := rfl

/-! ### Accesses to registers -/

/-- The registers lie outside the pads, and a register is one piece. -/
theorem outsidePads_of_reg {x : Nat} (h : placeOf x = .mmio ∨ ∃ m, placeOf x = .regs m) : OutsidePads x := by
  rcases h with h | ⟨m, h⟩ <;> exact .of_place h (by simp)

theorem pieceLen_of_reg {x : Nat} {h : RegHit} (hp : placeOf x = .mmio ∨ ∃ m, placeOf x = .regs m) (hf : findReg x = some h) :
    pieceLen x = h.shape.bytes - h.byte := by
  rcases hp with hp | ⟨m, hp⟩ <;> simp [pieceLen, hp, hf]

theorem State.piece_of_reg (s : State) (a : Access) {x : Nat} (n : Nat) (r : AccRes) (hp : placeOf x = .mmio ∨ ∃ m, placeOf x = .regs m) :
    s.piece a x n r = s.regPiece a x n r := by
  rcases hp with hp | ⟨m, hp⟩ <;> simp [State.piece, hp]

end Sys2Proof.Machine
end

section
/-! The access types of R10 over the register map. -/
namespace Sys2Proof.Machine

/-- The access that a write of a register makes, as tenant 0. -/
def regWriteAccess (req : Requester) (x : Nat) (data : List Byte) : Access := ⟨req, true, x, data.length, data, 0, false, false⟩

/-- A register access is performed at once where the bytes lie in one register and its domain is ON. -/
theorem State.accessAfter_of_reg (s : State) (a : Access) (deferred : Nat) {h : RegHit} (hne : 0 < accSize a)
    (hp : placeOf a.addr = .mmio ∨ ∃ m, placeOf a.addr = .regs m) (hf : findReg a.addr = some h)
    (hl : h.byte + accSize a ≤ h.shape.bytes) (hd : ∀ d, domainAt a.addr = some d → s.notOn d = false) {r : AccRes} {t : State}
    (hr : s.regPiece a a.addr (accSize a) {} = (r, t)) : s.accessAfter a deferred = t.answered a r := by
  have hpiece : accSize a ≤ pieceLen a.addr := by
    rw [pieceLen_of_reg hp hf]
    omega
  rw [s.accessAfter_of_piece a deferred [] hne hpiece (outsidePads_of_reg hp) hd]
  exact s.performNow_of_piece a hne hpiece ((s.piece_of_reg a _ _ hp).trans hr)

theorem State.regPiece_of_taken (s : State) (a : Access) (x n : Nat) (r : AccRes) {h : RegHit} (hw : a.write = true)
    (hf : findReg x = some h) (hst : s.regStatus a x (some h) = 0) :
    s.regPiece a x n r = (r.put x 0 [] false, s.putReg ⟨a.req, h, x, accPart a x n⟩) := by
  simp [State.regPiece, hf, hst, hw]

theorem State.regPiece_of_refused (s : State) (a : Access) (x n : Nat) (r : AccRes) {h : RegHit} (hw : a.write = true)
    (hf : findReg x = some h) (hst : s.regStatus a x (some h) ≠ 0) :
    s.regPiece a x n r = (r.put x (s.regStatus a x (some h)) [] false, s) := by
  simp [State.regPiece, hf, hst, hw]

/-- A write that a register takes, and that does no more than R535 says, gives its fields the bytes and is answered OK. -/
theorem exec_registerWrite_taken (s : State) (x : Nat) (h : RegHit) (data : List Byte) (hne : data ≠ [])
    (hp : placeOf x = .mmio ∨ ∃ m, placeOf x = .regs m) (hf : findReg x = some h) (hl : h.byte + data.length ≤ h.shape.bytes)
    (hd : ∀ d, domainAt x = some d → s.notOn d = false) (he : ethIdle s h = false)
    (hst : s.regStatus (regWriteAccess .host x data) x (some h) = 0) (ha : actsOnWrite h.shape.base = false) :
    exec (.registerWrite .host x data) s = .next { s.regPut x data with resp := ⟨0, [], false⟩ } := by
  have hpart : accPart (regWriteAccess .host x data) x data.length = data := by simp [accPart, regWriteAccess]
  have hput := s.putReg_of_plain ⟨.host, h, x, data⟩ ha he
  have hr : s.regPiece (regWriteAccess .host x data) x data.length {} = (({} : AccRes).put x 0 [] false, s.regPut x data) := by
    rw [s.regPiece_of_taken _ x _ {} rfl hf hst, hpart]
    exact congrArg (Prod.mk _) hput
  exact congrArg Host.Outcome.next
    (s.accessAfter_of_reg (regWriteAccess .host x data) 0 (List.length_pos_iff.2 hne) hp hf hl hd hr)

/-- A write that a register refuses changes neither a register, nor a loom, nor memory, and is answered with its status. -/
theorem exec_registerWrite_refused (s : State) (req : Requester) (x : Nat) (h : RegHit) (data : List Byte) (hne : data ≠ [])
    (hp : placeOf x = .mmio ∨ ∃ m, placeOf x = .regs m) (hf : findReg x = some h) (hl : h.byte + data.length ≤ h.shape.bytes)
    (hd : ∀ d, domainAt x = some d → s.notOn d = false) {st : Nat} (hst : s.regStatus (regWriteAccess req x data) x (some h) = st) (h0 : st ≠ 0) :
    ∃ t, exec (.registerWrite req x data) s = .next t ∧ t.resp.status = st ∧ t.flds = s.flds ∧ t.looms = s.looms ∧ SameMemory s t := by
  have hr : s.regPiece (regWriteAccess req x data) x data.length {} = (({} : AccRes).put x st [] false, s) := by
    rw [s.regPiece_of_refused _ x _ {} rfl hf (hst ▸ h0), hst]
  refine ⟨_, congrArg Host.Outcome.next
    (s.accessAfter_of_reg (regWriteAccess req x data) 0 (List.length_pos_iff.2 hne) hp hf hl hd hr), ?_, s.answered_frame _ _⟩
  simp [State.answered_resp, AccRes.put, h0, statusOf]

/-- A host core's read that a register grants is answered OK with the register's bytes, and changes no field, no loom and no memory. -/
theorem exec_localAccess_read_reg (s : State) (x n deferred : Nat) (h : RegHit) (hne : 0 < n)
    (hp : placeOf x = .mmio ∨ ∃ m, placeOf x = .regs m) (hf : findReg x = some h) (hl : h.byte + n ≤ h.shape.bytes)
    (hd : ∀ d, domainAt x = some d → s.notOn d = false) (he : ethIdle s h = false)
    (hst : s.regStatus ⟨.host, false, x, n, [], 0, false, false⟩ x (some h) = 0) (hs : showsElse h.shape.base = false) :
    ∃ t, exec (.localAccess ⟨.host, false, x, n, [], 0, false, false⟩ deferred) s = .next t
      ∧ t.resp = ⟨0, (List.range n).map fun i => s.regByte (x + i), false⟩ ∧ t.flds = s.flds ∧ t.looms = s.looms ∧ SameMemory s t := by
  have hget : s.getReg h x n = (List.range n).map fun i => s.regByte (x + i) := by rw [State.getReg, s.shown_of_plain h hs he]
  have hr : s.regPiece ⟨.host, false, x, n, [], 0, false, false⟩ x n {}
      = (({} : AccRes).put x 0 ((List.range n).map fun i => s.regByte (x + i)) false, s.readSeen h.shape.base h.inst) := by
    simp [State.regPiece, hf, hst, hget]
  obtain ⟨hflds, hlooms, hbytes, hpoison⟩ := s.readSeen_of_plain h hs
  obtain ⟨gflds, glooms, gbytes, gpoison⟩ := (s.readSeen h.shape.base h.inst).answered_frame ⟨.host, false, x, n, [], 0, false, false⟩
    (({} : AccRes).put x 0 ((List.range n).map fun i => s.regByte (x + i)) false)
  refine ⟨_, congrArg Host.Outcome.next
    (s.accessAfter_of_reg ⟨.host, false, x, n, [], 0, false, false⟩ deferred hne hp hf hl hd hr), ?_, gflds.trans hflds, glooms.trans hlooms,
    fun a => (gbytes a).trans (hbytes a), gpoison.trans hpoison⟩
  simp [State.answered_resp, AccRes.put, statusOf]

/-- Settles O59: a write goes to the register's fields bit by bit, and a read collects them, since no two fields of a register overlap. -/
theorem registerAccessTypes : Obligations.RegisterAccessTypes := by
  intro s x deferred h data hne hp hhit hl hd he
  have hlen : 0 < data.length := List.length_pos_iff.2 hne
  have hf : findReg x = some h := hhit 0 hlen
  have hfields : HitsFields x data.length h.fields := fun i hi => ⟨_, hhit i hi, rfl⟩
  refine ⟨fun hst ha => ⟨_, exec_registerWrite_taken s x h data hne hp hf hl hd he hst ha, ?_, ?_⟩, fun hst hs => ?_⟩
  · obtain ⟨hrest, hkeep⟩ := s.regPut_onlyFields h.fields data x hfields
    exact ⟨congrArg (fun t : State => { t with resp := ⟨0, [], false⟩ }) hrest, hkeep⟩
  · exact s.testBit_regPut h.fields data x hfields
  · obtain ⟨t, ht, hresp, hframe⟩ := exec_localAccess_read_reg s x data.length deferred h hlen hp hf hl hd he hst hs
    obtain ⟨hflds, hlooms, hmem⟩ := hframe
    refine ⟨t, ht, by rw [hresp], by simp [hresp], by rw [hresp], hflds, hlooms, hmem, fun i j hi hj => ?_⟩
    have hbyte : t.resp.data.getD i 0 = s.regByte (x + i) := by simp [hresp, hi]
    rw [hbyte]
    exact s.testBit_regByte (hhit i hi) hj

end Sys2Proof.Machine
end

section
/-! Accesses to the local address space (R31, R33, R232, R258): a Draft store, addresses that nothing occupies, and SPD_LAST_THR. -/
namespace Sys2Proof.Machine

/-! ### Draft stores and addresses that nothing occupies -/

theorem placeOf_draftAddr (n : LoomNo) {off : Nat} (h : off < 0x100000) : placeOf (draftAddr n off) = .draft n off := by
  have hn := n.isLt
  have hdiv : (draftAddr n off - 0x80000000) / 0x1000000 = n := by
    simp only [draftAddr, lwin]
    omega
  have hmod : draftAddr n off % 0x1000000 = 0xE00000 + off := by
    simp only [draftAddr, lwin]
    omega
  have hlo : 0x80000000 ≤ draftAddr n off ∧ draftAddr n off < 0x110000000 := by
    simp only [draftAddr, lwin]
    omega
  unfold placeOf
  dsimp only
  rw [hdiv, hmod, if_neg (by omega), if_neg (by omega), if_pos hlo.2, if_neg (by omega), if_neg (by omega), if_pos (by omega),
    Nat.add_sub_cancel_left]

theorem placeOf_unoccupied {x : Nat} (h1 : 0x40000000 ≤ x) (h2 : x < 0x80000000) : placeOf x = .none := by
  unfold placeOf
  rw [if_neg (by omega), if_pos h2]

theorem domainAt_loom (n : LoomNo) {o : Nat} (h : o < 0x1000000) : domainAt (lwin n + o) = some n.val := by
  have hn := n.isLt
  have hdiv : (lwin n + o - 0x80000000) / 0x1000000 = n := by
    simp only [lwin]
    omega
  have hlo : 0x80000000 ≤ lwin n + o ∧ lwin n + o < 0x110000000 := by
    simp only [lwin]
    omega
  simp [domainAt, hlo, hdiv]

theorem domainAt_unoccupied {x : Nat} (h1 : 0x40000000 ≤ x) (h2 : x < 0x80000000) : domainAt x = none := by
  have e1 : ¬ 0x80000000 ≤ x := by omega
  have e2 : ¬ hbmBase ≤ x := by
    simp only [hbmBase]
    omega
  have e3 : ¬ x < 0x2C00000 := by omega
  have e4 : ¬ x < 0x3C00000 := by omega
  have e5 : ¬ x < 0xA000000 := by omega
  simp [domainAt, e1, e2, e3, e4, e5]

/-- A loom whose domain is ON, and a benched one, keep no access waiting. -/
theorem State.notOn_loom (s : State) (n : LoomNo) (h : s.get (PWR_DOM_STATE n) = 3 ∨ s.is (LOOM_STATUS_BENCHED n) = true) :
    s.notOn n = false := by
  rcases h with h | h <;> simp [State.notOn, n.isLt, h]

/-- Outside HBM and the registers a piece is the rest of 64 KiB. -/
theorem le_pieceLen_of_granule {x n : Nat} {p : Place} (hp : placeOf x = p) (hk : (∃ m off, p = .draft m off) ∨ p = .none)
    (h : x % 65536 + n ≤ 65536) : n ≤ pieceLen x := by
  rcases hk with ⟨m, off, rfl⟩ | rfl <;> (simp only [pieceLen, hp]; omega)

/-- An access that is not to registers, pads or HBM, and that does not cross 64 KiB, is answered with what its one piece gives. -/
theorem State.accessAfter_of_granule (s : State) (a : Access) (deferred : Nat) {p : Place} {r : AccRes} {t : State} (hn : 0 < accSize a)
    (hp : placeOf a.addr = p) (hk : (∃ m off, p = .draft m off) ∨ p = .none) (hl : a.addr % 65536 + accSize a ≤ 65536)
    (hd : ∀ d, domainAt a.addr = some d → s.notOn d = false) (hr : s.piece a a.addr (accSize a) {} = (r, t)) :
    s.accessAfter a deferred = t.answered a r := by
  have hpiece := le_pieceLen_of_granule hp hk hl
  have hout : OutsidePads a.addr := .of_place hp (by rcases hk with ⟨m, off, rfl⟩ | rfl <;> simp)
  rw [s.accessAfter_of_piece a deferred [] hn hpiece hout hd]
  exact s.performNow_of_piece a hn hpiece hr

/-- Where a Draft store's domain keeps nothing waiting, neither does it at an address of the store. -/
theorem State.notOn_draftAddr {s : State} {n : LoomNo} {off : Nat} (hoff : off < 0x100000) (h : s.notOn n = false) :
    ∀ d, domainAt (draftAddr n off) = some d → s.notOn d = false := fun d hd => by
  have hat : domainAt (draftAddr n off) = some n.val := by
    rw [draftAddr, Nat.add_assoc]
    exact domainAt_loom n (by omega)
  rw [hat] at hd
  exact Option.some.inj hd ▸ h

theorem draftAddr_granule (n : LoomNo) {off len : Nat} (h : off % 65536 + len ≤ 65536) : draftAddr n off % 65536 + len ≤ 65536 := by
  simp only [draftAddr, lwin]
  omega

theorem draftStore_read (s : State) {n off x len : Nat} (deferred : Nat) (hp : placeOf x = .draft n off) (hlen : 0 < len)
    (hgran : x % 65536 + len ≤ 65536) (hd : ∀ d, domainAt x = some d → s.notOn d = false) (hb : s.is (LOOM_STATUS_BENCHED n) = false) :
    ∃ t, exec (.localAccess ⟨.host, false, x, len, [], 0, false, false⟩ deferred) s = .next t
      ∧ t.resp = ⟨0, s.bytesAt (draftAddr n off) len, false⟩ ∧ t.flds = s.flds ∧ t.looms = s.looms ∧ SameMemory s t := by
  let a : Access := ⟨.host, false, x, len, [], 0, false, false⟩
  have hr : s.piece a x len {} = (({} : AccRes).put x 0 (s.bytesAt (draftAddr n off) len) false, s) := by
    simp [a, State.piece, hp, State.draftPiece, hb, reachesRegs]
  exact ⟨_, congrArg Host.Outcome.next (s.accessAfter_of_granule a deferred hlen hp (.inl ⟨n, off, rfl⟩) hgran hd hr), rfl,
    s.answered_frame _ _⟩

theorem draftStore_write_benched (s : State) {n off x : Nat} (len deferred : Nat) (data : List Byte) (hp : placeOf x = .draft n off)
    (hlen : 0 < data.length) (hgran : x % 65536 + data.length ≤ 65536) (hd : ∀ d, domainAt x = some d → s.notOn d = false)
    (hb : s.is (LOOM_STATUS_BENCHED n) = true) :
    ∃ t, exec (.localAccess ⟨.host, true, x, len, data, 0, false, false⟩ deferred) s = .next t
      ∧ t.resp.status = 2 ∧ t.flds = s.flds ∧ t.looms = s.looms ∧ SameMemory s t := by
  let a : Access := ⟨.host, true, x, len, data, 0, false, false⟩
  have hr : s.piece a x data.length {} = (({} : AccRes).put x 2 [] false, s) := by
    simp [a, State.piece, hp, State.draftPiece, hb]
  exact ⟨_, congrArg Host.Outcome.next (s.accessAfter_of_granule a deferred hlen hp (.inl ⟨n, off, rfl⟩) hgran hd hr), rfl,
    s.answered_frame _ _⟩

theorem unoccupied_read (s : State) {x len : Nat} (deferred : Nat) (hlen : 0 < len) (h1 : 0x40000000 ≤ x) (h2 : x < 0x80000000)
    (hgran : x % 65536 + len ≤ 65536) :
    ∃ t, exec (.localAccess ⟨.host, false, x, len, [], 0, false, false⟩ deferred) s = .next t
      ∧ t.resp = ⟨1, List.replicate len 0, false⟩ ∧ t.flds = s.flds ∧ t.looms = s.looms ∧ SameMemory s t := by
  let a : Access := ⟨.host, false, x, len, [], 0, false, false⟩
  have hr : s.piece a x len {} = (({} : AccRes).put x 1 (List.replicate len 0) false, s) := by
    simp [a, State.piece, placeOf_unoccupied h1 h2]
  exact ⟨_, congrArg Host.Outcome.next (s.accessAfter_of_granule a deferred hlen (placeOf_unoccupied h1 h2) (.inr rfl) hgran
    (fun d hd => nomatch (domainAt_unoccupied h1 h2).symm.trans hd) hr), rfl, s.answered_frame _ _⟩

theorem accessesAnswered : AccessesAnswered := by
  intro s n off len deferred hlen hgran hoff
  have hp := placeOf_draftAddr n hoff
  have hx := draftAddr_granule n hgran
  refine ⟨fun hb hon => ?_, fun hb => ?_, fun x h1 h2 hx => ?_⟩
  · exact draftStore_read s deferred hp hlen hx (State.notOn_draftAddr hoff (s.notOn_loom n (.inl hon))) hb
  · have hlength : (List.replicate len (0xAA : Byte)).length = len := List.length_replicate
    exact draftStore_write_benched s len deferred _ hp (by rwa [hlength]) (by rwa [hlength])
      (State.notOn_draftAddr hoff (s.notOn_loom n (.inr hb))) hb
  · exact unoccupied_read s deferred hlen h1 (by omega) hx

/-! ### Where SPD_LAST_THR lies -/

/-- Offset d from an instance of a row lies in one of its entries. -/
def RegShape.holdsOffset (r : RegShape) (d : Nat) : Bool :=
  let i := if r.stride = 0 then 0 else d / r.stride
  decide (i < r.count) && decide (d - i * r.stride < r.bytes)

theorem rowHit_eq_none {r : RegShape} {a : Nat} (hs : r.istride ≠ 0) (h : r.holdsOffset ((a - r.base) % r.istride) = false) :
    rowHit r a = none := by
  have hmod : a - r.base - (a - r.base) / r.istride * r.istride = (a - r.base) % r.istride := by
    rw [Nat.mod_eq_sub_div_mul]
  simp only [RegShape.holdsOffset] at h
  unfold rowHit
  split
  · rfl
  · simp only [hmod, Bool.and_assoc, h, Bool.and_false, Bool.false_eq_true, if_false]

/-- The row describes a register of each loom's window, and none of its bytes is that at offset o of the window. -/
def RegShape.missesOffset (r : RegShape) (o : Nat) : Bool :=
  r.istride == 0x1000000 && decide (0x80000000 ≤ r.base) && decide (r.base < 0x81000000)
    && !r.holdsOffset ((0x81000000 + o - r.base) % 0x1000000)

theorem rowHit_of_missesOffset {r : RegShape} {o : Nat} (h : r.missesOffset o = true) (n : Nat) : rowHit r (lwin n + o) = none := by
  simp only [RegShape.missesOffset, Bool.and_eq_true, beq_iff_eq, decide_eq_true_eq, Bool.not_eq_true'] at h
  obtain ⟨⟨⟨hs, hlo⟩, hhi⟩, hmiss⟩ := h
  by_cases hbelow : lwin n + o < r.base
  · simp [rowHit, hbelow]
  · refine rowHit_eq_none (by omega) ?_
    have heq : (lwin n + o - r.base) % r.istride = (0x81000000 + o - r.base) % 0x1000000 := by
      rw [hs]
      simp only [lwin] at hbelow ⊢
      omega
    rw [heq]
    exact hmiss

/-- Rows that an address misses are passed over. -/
theorem findIn_append_of_none {l m : List RegShape} {a : Nat} (h : ∀ r ∈ l, rowHit r a = none) : findIn (l ++ m) a = findIn m a := by
  induction l with
  | nil => rfl
  | cons r t ih =>
    rw [List.cons_append, findIn, h r List.mem_cons_self]
    exact ih fun r hr => h r (List.mem_cons_of_mem _ hr)

/-- The rows of the map before SPD_LAST_THR, its row, and the rows after it. -/
def rowsBeforeLastThr : List RegShape := regMapLoom0 ++ regMapLoom1 ++ regMapLoom2 ++ regMapLoom3 ++ regMapLoom4.take 2
def lastThrShape : RegShape := regMapLoom4[2]'(by decide)
def rowsAfterLastThr : List RegShape :=
  regMapLoom4.drop 3 ++ regMapLoom5 ++ regMapHub0 ++ regMapHub1 ++ regMapHub2 ++ regMapHub3 ++ regMapFabric0 ++ regMapFabric1 ++ regMapFabric2
    ++ regMapMgmt0 ++ regMapMgmt1 ++ regMapMgmt2 ++ regMapMgmt3

theorem regMap_split : regMap = rowsBeforeLastThr ++ lastThrShape :: rowsAfterLastThr := by
  have h : regMapLoom4 = regMapLoom4.take 2 ++ lastThrShape :: regMapLoom4.drop 3 := rfl
  rw [regMap, h]
  simp only [rowsBeforeLastThr, rowsAfterLastThr, List.append_assoc, List.cons_append]

theorem rowHit_lastThr {n i : Nat} (hn : n < 144) (hi : i < 4) : rowHit lastThrShape (lwin n + (0xF30068 + i)) = some (n, 0, i) := by
  have hd : lwin n + (0xF30068 + i) - lastThrShape.base = n * lastThrShape.istride + i := by
    change 0x80000000 + 0x1000000 * n + (0xF30068 + i) - 0x80F30068 = n * 0x1000000 + i
    omega
  have hq : (n * lastThrShape.istride + i) / lastThrShape.istride = n := by
    change (n * 0x1000000 + i) / 0x1000000 = n
    omega
  have hlt : ¬ lwin n + (0xF30068 + i) < lastThrShape.base := by
    change ¬ 0x80000000 + 0x1000000 * n + (0xF30068 + i) < 0x80F30068
    omega
  have hs : lastThrShape.istride ≠ 0 ∧ lastThrShape.stride = 0 := ⟨by decide, rfl⟩
  have hin : n < lastThrShape.icount ∧ 0 < lastThrShape.count ∧ i < lastThrShape.bytes := ⟨hn, Nat.one_pos, hi⟩
  simp only [rowHit, hd, hq, if_neg hlt, hs.1, hs.2, if_true, if_false, Nat.mul_zero, Nat.sub_zero, Nat.add_sub_cancel_left, hin, decide_true,
    Bool.and_self]

/-- The bytes of SPD_LAST_THR of loom n. -/
theorem findReg_lastThr (n : LoomNo) {i : Nat} (hi : i < 4) : findReg (lwin n + (0xF30068 + i)) = some ⟨lastThrShape, n, 0, i⟩ := by
  have hmiss : ∀ i < 4, ∀ r ∈ rowsBeforeLastThr, r.missesOffset (0xF30068 + i) = true := by decide +kernel
  rw [findReg, regMap_split, findIn_append_of_none fun r hr => rowHit_of_missesOffset (hmiss i hi r hr) n, findIn, rowHit_lastThr n.isLt hi]

theorem placeOf_lastThr (n : LoomNo) : placeOf (lwin n + 0xF30068) = .regs n := by
  have hn := n.isLt
  have hdiv : (lwin n + 0xF30068 - 0x80000000) / 0x1000000 = n := by
    simp only [lwin]
    omega
  have hmod : (lwin n + 0xF30068) % 0x1000000 = 0xF30068 := by
    simp only [lwin]
    omega
  have hlo : 0x80000000 ≤ lwin n + 0xF30068 ∧ lwin n + 0xF30068 < 0x110000000 := by
    simp only [lwin]
    omega
  unfold placeOf
  dsimp only
  rw [hdiv, hmod, if_neg (by omega), if_neg (by omega), if_pos hlo.2]
  rfl

/-- A place of the address space in the registers of a loom that is not benched: a write by a requester that reaches registers is OK, and
another's is DENIED. -/
theorem State.regStatus_loom (s : State) {n x : Nat} {h : RegHit} (req : Requester) (data : List Byte) (hx : 0x80000000 ≤ x)
    (hn : (x - 0x80000000) / 0x1000000 = n) (hb : s.is (LOOM_STATUS_BENCHED n) = false) (ht : loaderTable h.shape.base = false)
    (hc : (h.shape.base == 0x200018) = false) :
    s.regStatus (regWriteAccess req x data) x (some h) = if reachesRegs req 0 = true then 0 else 3 := by
  have hport : s.portOut x = false := by
    simp only [State.portOut, Bool.or_eq_false_iff, Bool.and_eq_false_iff, decide_eq_false_iff_not]
    exact ⟨.inl (.inr (by omega)), .inl (.inr (by omega))⟩
  have h1 : ¬ x < 0x40000000 := by omega
  have h2 : ¬ x < 0x100200 := by omega
  cases hreq : reachesRegs req 0 <;> simp [State.regStatus, regWriteAccess, hn, hb, hport, ht, hc, h1, h2, hx, hreq]

/-- The registers' bytes of SPD_LAST_THR of loom n, at its place x. -/
theorem hitsFields_lastThr (n : LoomNo) {x : Nat} (hx : x = lwin n + 0xF30068) : HitsFields x 4 [(SPD_LAST_THR_THR n, .rw)] := fun i hi => by
  refine ⟨⟨lastThrShape, n, 0, i⟩, ?_, rfl⟩
  rw [hx, Nat.add_assoc]
  exact findReg_lastThr n hi

/-- Four bytes written from the place of THR on give it their low 16 bits. -/
theorem bitWritten_lastThr (n : LoomNo) {x : Nat} (hx : x = lwin n + 0xF30068) (v : Nat) {j : Nat} (hj : j < 16) :
    bitWritten x (leBytes 4 v) ((SPD_LAST_THR_THR n).key + j) = some (v.testBit j) := by
  have hkey : (SPD_LAST_THR_THR n).key = 8 * x := by
    simp only [SPD_LAST_THR_THR, hx, lwin]
    omega
  have hmod : (v % 2 ^ 32).testBit j = v.testBit j := by
    rw [Nat.testBit_mod_two_pow, decide_eq_true (by omega), Bool.true_and]
  rw [bitWritten, hkey, leBytes_length, if_pos (by omega), Nat.add_sub_cancel_left, leNat_leBytes]
  exact congrArg some hmod

/-- An answer beside a change of registers leaves it one. -/
theorem OnlyFields.withResp {s t : State} {fs : List Fld} (h : OnlyFields s t fs) (r : Response) :
    OnlyFields { s with resp := r } { t with resp := r } fs :=
  ⟨congrArg (fun u : State => { u with resp := r }) h.1, h.2⟩

theorem State.regPut_lastThr (s : State) (n : LoomNo) {x : Nat} (hx : x = lwin n + 0xF30068) (v : Nat) :
    (s.regPut x (leBytes 4 v)).get (SPD_LAST_THR_THR n) = v % 2 ^ (SPD_LAST_THR_THR n).width := by
  have hfields : HitsFields x (leBytes 4 v).length [(SPD_LAST_THR_THR n, .rw)] := (leBytes_length 4 v).symm ▸ hitsFields_lastThr n hx
  have hlow : v % 2 ^ (SPD_LAST_THR_THR n).width < 2 ^ (SPD_LAST_THR_THR n).width := Nat.mod_lt _ (Nat.two_pow_pos _)
  refine Nat.eq_of_testBit_eq fun j => ?_
  by_cases hj : j < (SPD_LAST_THR_THR n).width
  · rw [s.testBit_regPut _ _ _ hfields _ (List.mem_singleton.2 rfl) j hj, bitWritten_lastThr n hx v hj, Nat.testBit_mod_two_pow,
      decide_eq_true hj, Bool.true_and]
    rfl
  · have hpow : 2 ^ (SPD_LAST_THR_THR n).width ≤ 2 ^ j := Nat.pow_le_pow_right Nat.two_pos (Nat.not_lt.1 hj)
    rw [Nat.testBit_eq_false_of_lt (Nat.lt_of_lt_of_le hlow hpow), Nat.testBit_eq_false_of_lt (Nat.lt_of_lt_of_le (State.get_lt _ _) hpow)]

theorem registerWritesTake : RegisterWritesTake := by
  intro s n v hb hon
  obtain ⟨x, hx⟩ : ∃ x, x = lwin n + 0xF30068 := ⟨_, rfl⟩
  have hkey : (SPD_LAST_THR_THR n).key / 8 = x := by
    simp only [SPD_LAST_THR_THR, hx, lwin]
    omega
  have hne : leBytes 4 v ≠ [] := List.ne_nil_of_length_pos (by simp)
  have hplace : placeOf x = .mmio ∨ ∃ m, placeOf x = .regs m := .inr ⟨n, hx ▸ placeOf_lastThr n⟩
  have hf : findReg x = some ⟨lastThrShape, n, 0, 0⟩ := by
    rw [hx]
    exact findReg_lastThr n (i := 0) (by decide)
  have hd : ∀ d, domainAt x = some d → s.notOn d = false := fun d hd => by
    rw [hx, domainAt_loom n (by decide)] at hd
    exact Option.some.inj hd ▸ s.notOn_loom n (.inl hon)
  have hlo : 0x80000000 ≤ x ∧ (x - 0x80000000) / 0x1000000 = n := by
    have hn := n.isLt
    simp only [hx, lwin]
    omega
  have hst : ∀ req, s.regStatus (regWriteAccess req x (leBytes 4 v)) x (some ⟨lastThrShape, n, 0, 0⟩)
      = if reachesRegs req 0 = true then 0 else 3 := fun req => s.regStatus_loom req _ hlo.1 hlo.2 hb rfl rfl
  have hl : (⟨lastThrShape, n, 0, 0⟩ : RegHit).byte + (leBytes 4 v).length ≤ lastThrShape.bytes := by
    rw [leBytes_length]
    exact Nat.le_refl 4
  have hfields : HitsFields x (leBytes 4 v).length [(SPD_LAST_THR_THR n, .rw)] := (leBytes_length 4 v).symm ▸ hitsFields_lastThr n hx
  rw [hkey]
  refine ⟨⟨_, exec_registerWrite_taken s x _ _ hne hplace hf hl hd rfl (hst .host) rfl, rfl, s.regPut_lastThr n hx v, ?_⟩, ?_⟩
  · exact ((s.regPut_onlyFields _ _ _ hfields).withResp ⟨0, [], false⟩).onlyLoom n
  · exact exec_registerWrite_refused s _ x _ _ hne hplace hf hl hd (hst (.loomEngine n 3)) (by decide)

/-- Settles O24: each of these accesses is one piece, performed at once, and its status is the first of R31's and R33's that applies. -/
theorem localSpaceAnswers : Obligations.LocalSpaceAnswers := ⟨accessesAnswered, registerWritesTake⟩

end Sys2Proof.Machine
end

section
/-! A cold reset (R498): what the boot flash's records, the log and the straps put into the fields, and that nothing else is left. -/
namespace Sys2Proof.Machine

/-! ### Filtered tables -/

/-- A table keeps the entry of a key that a filter keeps. -/
theorem tget_filter_of_kept {β : Type} (d : β) (m : List (Nat × β)) {p : Nat × β → Bool} {a : Nat} (h : ∀ v, p (a, v) = true) :
    tget d (m.filter p) a = tget d m a := by
  induction m with
  | nil => rfl
  | cons e t ih =>
    obtain ⟨k, v⟩ := e
    by_cases hk : k = a
    · subst hk
      simp [h v, tget]
    · by_cases hp : p (k, v) = true <;> simp [hp, tget, hk, ih]

/-- A key that a filter keeps no entry of holds the default. -/
theorem tget_filter_of_dropped {β : Type} (d : β) (m : List (Nat × β)) {p : Nat × β → Bool} {a : Nat} (h : ∀ v, p (a, v) = false) :
    tget d (m.filter p) a = d := by
  induction m with
  | nil => rfl
  | cons e t ih =>
    obtain ⟨k, v⟩ := e
    by_cases hp : p (k, v) = true
    · have hk : k ≠ a := fun e => by simp [e, h v] at hp
      simp [hp, tget, hk, ih]
    · simp [hp, ih]

/-- A register that is not kept reads as its reset value. -/
theorem State.keepRegs_get_dropped (s : State) {keep : Nat → Bool} {f : Fld} (h : keep f.key = false) :
    (s.keepRegs keep).get f = f.reset % 2 ^ f.width :=
  congrArg (· % 2 ^ f.width) (tget_filter_of_dropped f.reset s.flds fun _ => h)

/-! ### Boot flash -/

/-- Programming leaves the bytes that it does not name. -/
theorem tget_flashPut_outside (l : List Byte) : ∀ (m : List Host.Cell) (a x : Nat), x < a ∨ a + l.length ≤ x →
    tget 0xFF (flashPut m a l) x = tget 0xFF m x := by
  induction l with
  | nil => exact fun _ _ _ _ => rfl
  | cons b t ih =>
    intro m a x hx
    simp only [List.length_cons] at hx
    rw [flashPut, ih _ _ _ (by omega), tget_tput_ne _ _ _ _ (by omega)]

theorem State.flashWrite_outside (s : State) (a : Nat) (l : List Byte) {x : Nat} (h : x < a ∨ a + l.length ≤ x) :
    tget 0xFF (s.flashWrite a l).mgmt.flash x = tget 0xFF s.mgmt.flash x := tget_flashPut_outside l _ a x h

theorem State.flashErase_outside (s : State) (a n : Nat) {x : Nat} (h : x < a ∨ a + n ≤ x) :
    tget 0xFF (s.flashErase a n).mgmt.flash x = tget 0xFF s.mgmt.flash x :=
  tget_filter_of_kept _ _ fun _ => by
    simp only [Bool.not_eq_true', Bool.and_eq_false_iff, decide_eq_false_iff_not]
    omega

theorem slice_length (l : List Byte) (o n : Nat) : (slice l o n).length = n := by
  simp [slice]

/-- A state record's bytes without its CRC-32. -/
theorem StateRec.body_length (r : StateRec) : r.body.length = 252 := by
  simp [StateRec.body, slice_length]

/-! ### What a part of the reset changes -/

/-- From s to t the reset's work has changed no field but those of the list, no loom, memory or supply, and of Selvedge neither what the
next boot stage is nor boot flash beyond the STATE area. -/
structure BootOnly (fs : List Fld) (s t : State) : Prop where
  fields : SameFields s t fs
  looms : t.looms = s.looms
  mem : t.mem = s.mem
  poison : t.poison = s.poison
  power : t.power = s.power
  pending : t.pending = s.pending
  forced : t.mgmt.forced = s.mgmt.forced
  nextStage : t.mgmt.nextStage = s.mgmt.nextStage
  flash : ∀ a, 0x10000 ≤ a → tget 0xFF t.mgmt.flash a = tget 0xFF s.mgmt.flash a

theorem BootOnly.refl (fs : List Fld) (s : State) : BootOnly fs s s :=
  ⟨SameFields.refl s fs, rfl, rfl, rfl, rfl, rfl, rfl, rfl, fun _ _ => rfl⟩

theorem BootOnly.trans {fs : List Fld} {s t u : State} (h : BootOnly fs s t) (g : BootOnly fs t u) : BootOnly fs s u :=
  ⟨h.fields.trans g.fields, g.looms.trans h.looms, g.mem.trans h.mem, g.poison.trans h.poison, g.power.trans h.power,
    g.pending.trans h.pending, g.forced.trans h.forced, g.nextStage.trans h.nextStage, fun a ha => (g.flash a ha).trans (h.flash a ha)⟩

theorem BootOnly.mono {fs gs : List Fld} {s t : State} (h : BootOnly fs s t) (hs : fs ⊆ gs) : BootOnly gs s t :=
  { h with fields := h.fields.mono hs }

theorem BootOnly.get {fs : List Fld} {s t : State} (h : BootOnly fs s t) {f : Fld} (hf : f.key ∉ fs.map Fld.key) : t.get f = s.get f :=
  h.fields f hf

theorem State.set_bootOnly (s : State) (f : Fld) (v : Nat) {fs : List Fld} (hf : f ∈ fs) : BootOnly fs s (s.set f v) :=
  ⟨s.set_sameFields f v fs hf, rfl, rfl, rfl, rfl, rfl, rfl, rfl, fun _ _ => rfl⟩

theorem State.addHold_bootOnly (s : State) (f : Fld) (k : Nat) {fs : List Fld} (hf : f ∈ fs) : BootOnly fs s (s.addHold f k) :=
  s.set_bootOnly f _ hf

/-- Many parts, one after another. -/
theorem BootOnly.foldl {β : Type} {fs : List Fld} {g : State → β → State} (P : State → Prop) (hP : ∀ {s t}, P s → BootOnly fs s t → P t)
    (hg : ∀ s b, P s → BootOnly fs s (g s b)) (l : List β) : ∀ s, P s → BootOnly fs s (l.foldl g s) := by
  induction l with
  | nil => exact fun s _ => .refl fs s
  | cons b l ih => exact fun s hs => (hg s b hs).trans (ih _ (hP hs (hg s b hs)))

/-! ### The log while the error ring is off -/

/-- The error ring is off, as it is after reset (R515, R516). -/
def State.ErqOff (s : State) : Prop := s.get SLV_ERQ_SIZE_ENTRIES = 0

/-- The positions of the log and its count of lost records. -/
def logFields : List Fld := [SLV_LOG_HEAD_SEQ, SLV_LOG_PERSIST_SEQ, SLV_LOG_LOST_N]

/-- Work that leaves SLV_ERQ_SIZE leaves the error ring off. -/
theorem State.ErqOff.of_bootOnly {fs : List Fld} (hfs : SLV_ERQ_SIZE_ENTRIES.key ∉ fs.map Fld.key) {s t : State} (h : s.ErqOff)
    (g : BootOnly fs s t) : t.ErqOff := (g.get hfs).trans h

theorem State.toErq_of_off (s : State) (sev : Nat) (l : List Byte) (h : s.ErqOff) : s.toErq sev l = s := by
  have hsize : s.erqSize = 0 := by
    unfold State.ErqOff at h
    simp [State.erqSize, h]
  simp [State.toErq, hsize]

/-- The record that is not yet persisted, and that the next one overwrites, is lost (R455). -/
def State.logMakeRoom (s : State) : State :=
  if (s.get SLV_LOG_HEAD_SEQ + 2 ^ 32 - s.get SLV_LOG_PERSIST_SEQ) % 2 ^ 32 < 16384 then s
  else
    ((s.modMgmt fun m => { m with lost := (m.lost.1 + 1, if m.lost.1 = 0 then s.get SLV_LOG_PERSIST_SEQ else m.lost.2) }).addHold SLV_LOG_LOST_N 1).set
      SLV_LOG_PERSIST_SEQ (s.get SLV_LOG_PERSIST_SEQ + 1)

/-- A line goes into the log ring at its SEQ, and the next SEQ is shown. -/
def State.logStore (s : State) (seq : Nat) (l : List Byte) : State :=
  (s.modMgmt fun m => { m with log := tput [] m.log (seq % 16384) l }).set SLV_LOG_HEAD_SEQ (seq + 1)

/-- Writing a record is making room, storing its line, and copying it into the error ring. -/
theorem State.logPut_eq (s : State) (sev src inst code : Nat) (data : List Byte) :
    ∃ l, s.logPut sev src inst code data = (s.logMakeRoom.logStore (s.get SLV_LOG_HEAD_SEQ) l).toErq sev l := ⟨_, rfl⟩

/-- What Selvedge keeps of its log is none of what the reset reads. -/
theorem State.modMgmt_bootOnly (s : State) {f : Mgmt → Mgmt} (h1 : (f s.mgmt).forced = s.mgmt.forced)
    (h2 : (f s.mgmt).nextStage = s.mgmt.nextStage) (h3 : (f s.mgmt).flash = s.mgmt.flash) (fs : List Fld) : BootOnly fs s (s.modMgmt f) :=
  ⟨SameFields.refl _ _, rfl, rfl, rfl, rfl, rfl, h1, h2, fun a _ => congrArg (tget 0xFF · a) h3⟩

theorem State.logMakeRoom_bootOnly (s : State) : BootOnly logFields s s.logMakeRoom := by
  unfold State.logMakeRoom
  split
  · exact .refl _ _
  · exact ((s.modMgmt_bootOnly rfl rfl rfl _).trans (State.addHold_bootOnly _ _ _ (by simp [logFields]))).trans
      (State.set_bootOnly _ _ _ (by simp [logFields]))

theorem State.logStore_bootOnly (s : State) (seq : Nat) (l : List Byte) : BootOnly logFields s (s.logStore seq l) :=
  (s.modMgmt_bootOnly rfl rfl rfl _).trans (State.set_bootOnly _ _ _ (by simp [logFields]))

theorem State.logPut_bootOnly (s : State) (sev src inst code : Nat) (data : List Byte) (h : s.ErqOff) :
    BootOnly logFields s (s.logPut sev src inst code data) := by
  obtain ⟨l, hl⟩ := s.logPut_eq sev src inst code data
  have hstore := s.logMakeRoom_bootOnly.trans (s.logMakeRoom.logStore_bootOnly (s.get SLV_LOG_HEAD_SEQ) l)
  rw [hl, State.toErq_of_off _ _ _ (h.of_bootOnly (by decide) hstore)]
  exact hstore

theorem State.logRec_bootOnly (s : State) (sev src inst code : Nat) (data : List Byte) (h : s.ErqOff) :
    BootOnly logFields s (s.logRec sev src inst code data) := by
  unfold State.logRec
  dsimp only
  split
  · exact s.modMgmt_bootOnly rfl rfl rfl _
  · exact (s.modMgmt_bootOnly rfl rfl rfl _).trans (State.logPut_bootOnly _ _ _ _ _ _ h)

/-! ### The parts of the reset -/

theorem State.stage_bootOnly (s : State) (k : Nat) (h : s.ErqOff) : BootOnly (SLV_STATUS_STAGE :: logFields) s (s.stage k) := by
  have hset : BootOnly (SLV_STATUS_STAGE :: logFields) s (s.set SLV_STATUS_STAGE k) := s.set_bootOnly _ _ List.mem_cons_self
  exact hset.trans ((State.logRec_bootOnly _ _ _ _ _ _ (h.of_bootOnly (by decide) hset)).mono (List.subset_cons_self _ _))

theorem State.stage_get (s : State) {k : Nat} (hk : k < 16) (h : s.ErqOff) : (s.stage k).get SLV_STATUS_STAGE = k := by
  have hset : BootOnly [SLV_STATUS_STAGE] s (s.set SLV_STATUS_STAGE k) := s.set_bootOnly _ _ List.mem_cons_self
  have hlog := State.logRec_bootOnly (s.set SLV_STATUS_STAGE k) 0 18 0 1 (toBytes ([k, 0, 0, 0] ++ le32 (s.mgmt.upTime / 5000)))
    (h.of_bootOnly (by decide) hset)
  exact (hlog.get (by decide)).trans ((s.get_set_same _ _).trans (Nat.mod_eq_of_lt hk))

theorem State.checkIdentity_bootOnly (s : State) (h : s.ErqOff) : BootOnly (SLV_ERR_IDENTITY :: logFields) s s.checkIdentity := by
  unfold State.checkIdentity
  split
  · exact .refl _ _
  · have hset : BootOnly (SLV_ERR_IDENTITY :: logFields) s (s.set SLV_ERR_IDENTITY 1) := s.set_bootOnly _ _ List.mem_cons_self
    exact hset.trans ((State.logRec_bootOnly _ _ _ _ _ _ (h.of_bootOnly (by decide) hset)).mono (List.subset_cons_self _ _))

theorem State.report_bootOnly (s : State) (r : ErrRec) (fs : List Fld) : BootOnly fs s (s.report r) := by
  have hf := s.report_frame r
  have hpower : (s.report r).power = s.power := s.report_power r
  exact ⟨fun f _ => s.report_get r f, s.report_looms r, s.report_mem r, s.report_poison r, hpower, s.report_pending r,
    by rw [s.report_mgmt r], by rw [s.report_mgmt r], fun a _ => by rw [s.report_mgmt r]⟩

theorem State.strapBad_bootOnly (s : State) : BootOnly [FAB_ID_STRAP_BAD, FAB_ERR_STRAP] s s.strapBad :=
  ((s.set_bootOnly _ _ (by simp)).trans (State.set_bootOnly _ _ _ (by simp))).trans (State.report_bootOnly _ _ _)

theorem State.strapBad_get (s : State) : s.strapBad.get FAB_ID_STRAP_BAD = 1 ∧ s.strapBad.get FAB_ERR_STRAP = 1 := by
  have hne : FAB_ID_STRAP_BAD.key ≠ FAB_ERR_STRAP.key := by decide
  unfold State.strapBad
  rw [State.report_get, State.report_get, State.get_set_ne _ _ hne, State.get_set_same, State.get_set_same]
  decide

/-- The registers that show the bench map. -/
def mapFields : List Fld := (List.range 5).map SLV_BENCH_LOOM_MAP ++ [SLV_BENCH_UNIT_STACK, SLV_BENCH_UNIT_PORT, SLV_BENCH_CH_CHANNEL]

theorem State.showMap_bootOnly (s : State) : BootOnly mapFields s s.showMap := by
  have hmap : ∀ l : List Nat, (∀ i ∈ l, i < 5) → ∀ u : State,
      BootOnly mapFields u (l.foldl (fun u i => u.set (SLV_BENCH_LOOM_MAP i) (s.mgmt.record.loomMap / 2 ^ (32 * i))) u) := by
    intro l
    induction l with
    | nil => exact fun _ u => .refl _ u
    | cons i l ih =>
      intro hl u
      have hi : SLV_BENCH_LOOM_MAP i ∈ mapFields :=
        List.mem_append_left _ (List.mem_map_of_mem (List.mem_range.2 (hl i List.mem_cons_self)))
      exact (u.set_bootOnly _ _ hi).trans (ih (fun j hj => hl j (List.mem_cons_of_mem _ hj)) _)
  have hlast : ∀ f ∈ [SLV_BENCH_UNIT_STACK, SLV_BENCH_UNIT_PORT, SLV_BENCH_CH_CHANNEL], f ∈ mapFields := fun f hf => List.mem_append_right _ hf
  unfold State.showMap
  exact (((hmap (List.range 5) (fun i hi => List.mem_range.1 hi) s).trans (State.set_bootOnly _ SLV_BENCH_UNIT_STACK _ (hlast _ (by simp)))).trans
    (State.set_bootOnly _ SLV_BENCH_UNIT_PORT _ (hlast _ (by simp)))).trans (State.set_bootOnly _ SLV_BENCH_CH_CHANNEL _ (hlast _ (by simp)))

theorem State.reloadLog_bootOnly (s : State) (h : s.ErqOff) : BootOnly logFields s s.reloadLog := by
  unfold State.reloadLog
  dsimp only
  have hset : ∀ l v, BootOnly logFields s (((s.modMgmt fun m => { m with log := l }).set SLV_LOG_HEAD_SEQ v).set SLV_LOG_PERSIST_SEQ v) :=
    fun l v => ((s.modMgmt_bootOnly rfl rfl rfl _).trans (State.set_bootOnly _ SLV_LOG_HEAD_SEQ v (by simp [logFields]))).trans
      (State.set_bootOnly _ SLV_LOG_PERSIST_SEQ v (by simp [logFields]))
  exact (hset _ _).trans (BootOnly.foldl State.ErqOff (fun hu hv => hu.of_bootOnly (by decide) hv)
    (fun u g hu => u.logPut_bootOnly _ _ _ _ _ hu) _ _ (h.of_bootOnly (by decide) (hset _ _)))

theorem State.flashWrite_bootOnly (s : State) {a : Nat} {l : List Byte} (h : a + l.length ≤ 0x10000) (fs : List Fld) :
    BootOnly fs s (s.flashWrite a l) :=
  ⟨SameFields.refl _ _, rfl, rfl, rfl, rfl, rfl, rfl, rfl, fun _ hx => s.flashWrite_outside a l (.inr (Nat.le_trans h hx))⟩

theorem State.flashErase_bootOnly (s : State) {a n : Nat} (h : a + n ≤ 0x10000) (fs : List Fld) : BootOnly fs s (s.flashErase a n) :=
  ⟨SameFields.refl _ _, rfl, rfl, rfl, rfl, rfl, rfl, rfl, fun _ hx => s.flashErase_outside a n (.inr (Nat.le_trans h hx))⟩

/-- A state record goes into the STATE area, and the sector that is erased for the next one lies there. -/
theorem State.writeRec_bootOnly (s : State) (f : StateRec → StateRec) (h : s.mgmt.recPos < 256) (fs : List Fld) : BootOnly fs s (s.writeRec f) := by
  have herase : BootOnly fs s (if s.mgmt.recPos % 16 = 15 then s.flashErase (4096 * ((s.mgmt.recPos / 16 + 1) % 16)) 4096 else s) := by
    split
    · exact s.flashErase_bootOnly (by omega) fs
    · exact .refl fs s
  have hline : ∀ r : StateRec, 256 * s.mgmt.recPos + (r.body ++ leBytes 4 (crc32 r.body)).length ≤ 0x10000 := fun r => by
    rw [List.length_append, StateRec.body_length, leBytes_length]
    omega
  unfold State.writeRec
  exact (herase.trans (State.flashWrite_bootOnly _ (hline _) fs)).trans (State.modMgmt_bootOnly _ rfl rfl rfl fs)

theorem State.writeRec_record (s : State) (f : StateRec → StateRec) :
    (s.writeRec f).mgmt.record = { f s.mgmt.record with seq := s.mgmt.record.seq + 1 } := rfl

theorem State.readRec_bootOnly (s : State) (fs : List Fld) : BootOnly fs s s.readRec := by
  unfold State.readRec
  dsimp only
  refine ⟨SameFields.refl _ _, rfl, rfl, rfl, rfl, rfl, ?_, ?_, fun a _ => ?_⟩
  all_goals simp only [State.modMgmt]; split <;> rfl

theorem State.readRec_recPos (s : State) : s.readRec.mgmt.recPos < 256 := by
  unfold State.readRec
  simp only [State.modMgmt]
  split
  · exact Nat.mod_lt _ (by decide)
  · exact Nat.zero_lt_succ 255

/-- The record in force is told by boot flash. -/
theorem State.readRec_record_congr {s t : State} (h : t.mgmt.flash = s.mgmt.flash) : t.readRec.mgmt.record = s.readRec.mgmt.record := by
  have hring : t.recRing = s.recRing := by simp only [State.recRing, State.ringPlaces, State.flashBytes, h]
  unfold State.readRec
  simp only [State.modMgmt, hring]
  split <;> rfl

/-! ### The reset -/

/-- What a cold reset finds before the boot flash is read. -/
def State.coldStart (s : State) (recovery clock : Bool) : State :=
  ({ s.mainOff.keepRegs fuseKey with
      power := { rackLost := s.power.rackLost, xspiReset := clock }, tap := {}, resp := {}, fab := {}, svc := {}, errs := [], errDropped := []
      mgmt := { flash := s.mgmt.flash, logPos := s.mgmt.logPos, macBase := s.mgmt.macBase, kek := s.mgmt.kek, forced := recovery } } : State).showClock

/-- The boot that a state record names is counted and shown. -/
def State.countBoot (s : State) : State :=
  let t := s.readRec.writeRec fun r => { r with bootCnt := (r.bootCnt + 1) % 2 ^ 32 }
  t.set SLV_BOOT_CNT_N t.mgmt.record.bootCnt

/-- The straps give the chip ID, and the identity keys are looked at. -/
def State.readStraps (s : State) (straps : BitVec 15) : State := (s.set FAB_ID_CHIP (strapChip straps)).checkIdentity

/-- An odd number of ones in the straps is recorded. -/
def State.checkStraps (s : State) (straps : BitVec 15) : State := if strapOdd straps then s.strapBad else s

theorem State.coldReset_clocked (s : State) (straps : BitVec 15) (recovery : Bool) : s.coldReset straps recovery true
    = (((s.coldStart recovery true).countBoot.showMap.reloadLog.readStraps straps).checkStraps straps).stage 1 := rfl

theorem State.coldReset_unclocked (s : State) (straps : BitVec 15) (recovery : Bool) : s.coldReset straps recovery false
    = (s.coldStart recovery false).modMgmt fun m => { m with nextStage := 1 } := rfl

theorem State.coldStart_get (s : State) (recovery clock : Bool) {f : Fld} (h1 : fuseKey f.key = false)
    (h2 : f.key ≠ FAB_SYNC_STS_REFCLK_LOST.key) : (s.coldStart recovery clock).get f = f.reset % 2 ^ f.width :=
  (State.get_set_ne _ _ h2).trans (s.mainOff.keepRegs_get_dropped h1)

theorem State.coldStart_erqOff (s : State) (recovery clock : Bool) : (s.coldStart recovery clock).ErqOff :=
  s.coldStart_get recovery clock (by decide) (by decide)

theorem State.countBoot_bootOnly (s : State) : BootOnly [SLV_BOOT_CNT_N] s s.countBoot :=
  ((s.readRec_bootOnly _).trans (State.writeRec_bootOnly _ _ s.readRec_recPos _)).trans (State.set_bootOnly _ _ _ (by simp))

theorem State.countBoot_get (s : State) : s.countBoot.get SLV_BOOT_CNT_N = (s.readRec.mgmt.record.bootCnt + 1) % 2 ^ 32 := by
  refine (State.get_set_same _ _ _).trans ?_
  rw [State.writeRec_record]
  exact Nat.mod_mod _ _

theorem State.readStraps_bootOnly (s : State) (straps : BitVec 15) (h : s.ErqOff) :
    BootOnly (FAB_ID_CHIP :: SLV_ERR_IDENTITY :: logFields) s (s.readStraps straps) := by
  have hset : BootOnly (FAB_ID_CHIP :: SLV_ERR_IDENTITY :: logFields) s (s.set FAB_ID_CHIP (strapChip straps)) := s.set_bootOnly _ _ List.mem_cons_self
  exact hset.trans ((State.checkIdentity_bootOnly _ (h.of_bootOnly (by decide) hset)).mono (List.subset_cons_self _ _))

theorem State.readStraps_chip (s : State) (straps : BitVec 15) (h : s.ErqOff) : (s.readStraps straps).get FAB_ID_CHIP = strapChip straps := by
  have hset : BootOnly [FAB_ID_CHIP] s (s.set FAB_ID_CHIP (strapChip straps)) := s.set_bootOnly _ _ List.mem_cons_self
  refine ((State.checkIdentity_bootOnly _ (h.of_bootOnly (by decide) hset)).get (by decide)).trans ((s.get_set_same _ _).trans ?_)
  exact Nat.mod_mod _ _

theorem State.checkStraps_bootOnly (s : State) (straps : BitVec 15) : BootOnly [FAB_ID_STRAP_BAD, FAB_ERR_STRAP] s (s.checkStraps straps) := by
  unfold State.checkStraps
  split
  · exact s.strapBad_bootOnly
  · exact .refl _ _

/-- The fields that the reset gives values of their own, and what it does to the others' state. -/
theorem State.coldBoot_bootOnly (s : State) (straps : BitVec 15) (h : s.ErqOff) :
    BootOnly coldFields s (((s.countBoot.showMap.reloadLog.readStraps straps).checkStraps straps).stage 1) := by
  have herq : ∀ {u v : State}, u.ErqOff → BootOnly coldFields u v → v.ErqOff := fun hu hv => hu.of_bootOnly (by decide) hv
  have h1 : BootOnly coldFields s s.countBoot.showMap := (s.countBoot_bootOnly.mono (by decide)).trans (s.countBoot.showMap_bootOnly.mono (by decide))
  have h2 := h1.trans ((State.reloadLog_bootOnly _ (herq h h1)).mono (by decide))
  have h3 := h2.trans ((State.readStraps_bootOnly _ straps (herq h h2)).mono (by decide))
  have h4 := h3.trans ((State.checkStraps_bootOnly _ straps).mono (by decide))
  exact h4.trans ((State.stage_bootOnly _ 1 (herq h h4)).mono (by decide))

/-- What the reset with REFCLK_MGMT shows: the chip ID, the stage, the boot count, and an odd strap. -/
theorem State.coldBoot_shows (s : State) (straps : BitVec 15) (h : s.ErqOff) :
    ∀ t, t = ((s.countBoot.showMap.reloadLog.readStraps straps).checkStraps straps).stage 1 →
      t.get FAB_ID_CHIP = strapChip straps ∧ t.get SLV_STATUS_STAGE = 1
        ∧ t.get SLV_BOOT_CNT_N = (s.readRec.mgmt.record.bootCnt + 1) % 2 ^ 32
        ∧ (strapOdd straps = true → t.get FAB_ID_STRAP_BAD = 1 ∧ t.get FAB_ERR_STRAP = 1) := by
  rintro t rfl
  have hmap := s.countBoot.showMap_bootOnly
  have e1 : s.countBoot.showMap.ErqOff := (h.of_bootOnly (by decide) s.countBoot_bootOnly).of_bootOnly (by decide) hmap
  have hlog := s.countBoot.showMap.reloadLog_bootOnly e1
  have e2 := e1.of_bootOnly (by decide) hlog
  have hstraps := s.countBoot.showMap.reloadLog.readStraps_bootOnly straps e2
  have e3 := e2.of_bootOnly (by decide) hstraps
  have hcheck := (s.countBoot.showMap.reloadLog.readStraps straps).checkStraps_bootOnly straps
  have e4 := e3.of_bootOnly (by decide) hcheck
  have hstage := ((s.countBoot.showMap.reloadLog.readStraps straps).checkStraps straps).stage_bootOnly 1 e4
  refine ⟨?_, State.stage_get _ (by decide) e4, ?_, fun hodd => ?_⟩
  · exact (hstage.get (by decide)).trans ((hcheck.get (by decide)).trans (State.readStraps_chip _ straps e2))
  · exact (hstage.get (by decide)).trans ((hcheck.get (by decide)).trans ((hstraps.get (by decide)).trans
      ((hlog.get (by decide)).trans ((hmap.get (by decide)).trans s.countBoot_get))))
  · obtain ⟨hbad, herr⟩ := (s.countBoot.showMap.reloadLog.readStraps straps).strapBad_get
    have heq : (s.countBoot.showMap.reloadLog.readStraps straps).checkStraps straps
        = (s.countBoot.showMap.reloadLog.readStraps straps).strapBad := by simp [State.checkStraps, hodd]
    exact ⟨(hstage.get (by decide)).trans (heq ▸ hbad), (hstage.get (by decide)).trans (heq ▸ herr)⟩

/-- A cold reset leaves what it starts from but for the cold fields. -/
theorem State.coldReset_bootOnly (s : State) (straps : BitVec 15) (recovery clock : Bool) :
    BootOnly coldFields ((s.coldStart recovery clock).modMgmt fun m => { m with nextStage := if clock then 2 else 1 })
      (s.coldReset straps recovery clock) := by
  cases clock with
  | false => exact .refl _ _
  | true => exact s.coldReset_clocked straps recovery ▸ (s.coldStart recovery true).coldBoot_bootOnly straps (s.coldStart_erqOff recovery true)

/-- Settles O45: a cold reset empties everything but boot flash and the fuses, and what it then writes are the cold fields. -/
theorem coldResetStarts : Obligations.ColdResetStarts := by
  intro s straps recovery clock c hc
  have hexec : exec c s = .next (s.coldReset straps recovery clock) := by rcases hc with rfl | rfl <;> rfl
  have h := s.coldReset_bootOnly straps recovery clock
  refine ⟨_, hexec, h.forced, h.flash, h.looms, h.mem, h.poison, h.power, h.pending, fun hclock => ?_, fun hclock => ?_, fun f hfuse hcold => ?_⟩
  · subst hclock
    obtain ⟨hchip, hstage, hboot, hodd⟩ := (s.coldStart recovery true).coldBoot_shows straps (s.coldStart_erqOff recovery true) _
      (s.coldReset_clocked straps recovery)
    have hrec : (s.coldStart recovery true).readRec.mgmt.record = s.readRec.mgmt.record := State.readRec_record_congr rfl
    exact ⟨hchip, hstage, h.nextStage, hboot.trans (by rw [hrec]), hodd⟩
  · subst hclock
    exact ⟨rfl, rfl⟩
  · refine (h.get hcold).trans (s.coldStart_get recovery clock hfuse fun he => hcold ?_)
    rw [he]
    decide

end Sys2Proof.Machine
end

section
/-! PROOF. Messages to the endpoint (R397 to R400, R406): what the collective engine does with a body, results at a loom's port, and the mailbox. -/
namespace Sys2Proof.Machine

/-! ### Changes beside the looms and memory -/

/-- From s to t only the fabric but for its endpoint, the looms' RTY and FAB_ERR.COLL_NAN change. -/
structure CollOnly (s t : State) : Prop where
  frame : { t with fab := s.fab, svc := s.svc, flds := s.flds } = s
  inbox : t.fab.inbox = s.fab.inbox
  fields : SameFields s t [FAB_ERR_COLL_NAN]

theorem CollOnly.refl (s : State) : CollOnly s s := ⟨rfl, rfl, SameFields.refl _ _⟩

theorem CollOnly.trans {s t u : State} (h : CollOnly s t) (k : CollOnly t u) : CollOnly s u :=
  ⟨(congrArg (fun x : State => { x with fab := s.fab, svc := s.svc, flds := s.flds }) k.frame).trans h.frame, k.inbox.trans h.inbox, h.fields.trans k.fields⟩

theorem CollOnly.mem {s t : State} (h : CollOnly s t) : t.mem = s.mem := (congrArg State.mem h.frame :)

theorem CollOnly.poison {s t : State} (h : CollOnly s t) : t.poison = s.poison := (congrArg State.poison h.frame :)

theorem CollOnly.looms {s t : State} (h : CollOnly s t) : t.looms = s.looms := (congrArg State.looms h.frame :)

theorem CollOnly.lm {s t : State} (h : CollOnly s t) (n : Nat) : t.lm n = s.lm n := congrArg (fun l => tget Loom.reset l n) h.looms

theorem CollOnly.sameMemory {s t : State} (h : CollOnly s t) : SameMemory s t :=
  ⟨fun a => congrArg (fun m => tget 0 m a) h.mem, h.poison⟩

theorem CollOnly.get {s t : State} (h : CollOnly s t) {f : Fld} (hf : f.key ≠ FAB_ERR_COLL_NAN.key) : t.get f = s.get f :=
  h.fields f (by simpa using hf)

theorem CollOnly.is {s t : State} (h : CollOnly s t) {f : Fld} (hf : f.key ≠ FAB_ERR_COLL_NAN.key) : t.is f = s.is f :=
  congrArg (· != 0) (h.get hf)

theorem State.putColl_collOnly (s : State) (c : Nat) (e : CollStep) : CollOnly s (s.putColl c e) := ⟨rfl, rfl, SameFields.refl _ _⟩

theorem State.dropStep_collOnly (s : State) (c step : Nat) : CollOnly s (s.dropStep c step) := ⟨rfl, rfl, SameFields.refl _ _⟩

theorem State.setNan_collOnly (s : State) (v : Nat) : CollOnly s (s.set FAB_ERR_COLL_NAN v) :=
  ⟨rfl, rfl, s.set_sameFields _ _ _ (List.mem_singleton.2 rfl)⟩

/-- A packet for another chip does not come to the endpoint. -/
theorem State.send_collOnly (s : State) {k : Packet} (hk : k.dst ≠ s.chip) : CollOnly s (s.send k) :=
  ⟨rfl, by simp [State.send, State.modFab, hk], SameFields.refl _ _⟩

/-- Noting the RTY of a packet at several looms touches nothing else. -/
theorem State.noteRtys_frame (rty : Nat) (l : List Nat) : ∀ s : State,
    { l.foldl (fun s n => s.noteRty n rty) s with svc := s.svc } = s := by
  induction l with
  | nil => intro s; rfl
  | cons n l ih => intro s; exact congrArg (fun t : State => { t with svc := s.svc }) (ih (s.noteRty n rty))

theorem State.neighbour_collOnly {s t : State} (h : CollOnly s t) (p : Nat) : t.neighbour p = s.neighbour p := by
  simp only [State.neighbour, State.dims, State.chip, h.get (f := FAB_ID_CHIP) (by decide), h.get (f := FAB_DIMS_DX_M1) (by decide),
    h.get (f := FAB_DIMS_DY_M1) (by decide), h.get (f := FAB_DIMS_DZ_M1) (by decide)]

/-- What each step keeps, a fold keeps. -/
theorem CollOnly.foldl {α : Type} {s : State} {f : State → α → State} (h : ∀ t x, CollOnly s t → CollOnly s (f t x)) (l : List α) :
    ∀ t, CollOnly s t → CollOnly s (l.foldl f t) := by
  induction l with
  | nil => exact fun t ht => ht
  | cons x l ih => exact fun t ht => ih _ (h t x ht)

/-- A segment sent to another chip goes to the router alone. -/
theorem State.collSend_collOnly (s : State) (c step phase part port : Nat) (data : List Byte) (poison : Bool)
    (hp : s.neighbour port ≠ s.chip) : CollOnly s (s.collSend c step phase part port data poison) := by
  refine CollOnly.foldl (fun t i ht => ht.trans (t.send_collOnly ?_)) _ s (.refl s)
  show t.neighbour port ≠ t.get FAB_ID_CHIP
  rw [State.neighbour_collOnly ht, ht.get (by decide)]
  exact hp

/-! ### The tables of a collective -/

/-- The fields of an entry of the collective table lie beside FAB_ERR. -/
theorem collKey_ne {k c j : Nat} (hk : k = 8 * (0x6020000 + 64 * c) + j) : k ≠ FAB_ERR_COLL_NAN.key := by
  subst hk
  simp only [FAB_ERR_COLL_NAN]
  omega

theorem CollOnly.collLooms {s t : State} (h : CollOnly s t) (c : Nat) : t.collLooms c = s.collLooms c := by
  simp only [State.collLooms, h.get (f := FAB_COLL_LOOMS c) (collKey_ne rfl)]

theorem CollOnly.collChildren {s t : State} (h : CollOnly s t) (c : Nat) : t.collChildren c = s.collChildren c := by
  simp only [State.collChildren, h.get (f := FAB_COLL_CHILDREN c) (collKey_ne rfl)]

theorem CollOnly.collRoot {s t : State} (h : CollOnly s t) (c : Nat) : t.collRoot c = s.collRoot c := by
  simp only [State.collRoot, h.get (f := FAB_COLL_PARENT c) (collKey_ne rfl)]

theorem CollOnly.collIndex {s t : State} (h : CollOnly s t) (c n : Nat) : t.collIndex c n = s.collIndex c n := by
  simp only [State.collIndex, h.collLooms, h.get (f := FAB_COLL_PART0 c) (collKey_ne rfl)]

theorem CollOnly.stepOf {s t : State} (h : CollOnly s t) {n : Nat} (hn : (LOOM_STEP_STEP n).key ≠ FAB_ERR_COLL_NAN.key) :
    t.stepOf n = s.stepOf n := h.get hn

/-! ### The engine's state for a step -/

theorem State.collStep_step (s : State) (c step : Nat) : (s.collStep c step).step = step := by
  unfold State.collStep
  cases hf : (tget [] s.fab.colls c).find? fun e => e.step == step with
  | none => rfl
  | some e => exact beq_iff_eq.1 (List.find?_some (p := fun e : CollStep => e.step == step) hf)

/-- What was put for a step is there. -/
theorem State.collStep_putColl (s : State) (c step : Nat) (e : CollStep) (he : e.step = step) : (s.putColl c e).collStep c step = e := by
  have hnone : ∀ x ∈ (tget [] s.fab.colls c).filter (fun x => x.step != e.step), ¬(x.step == step) = true := fun x hx => by
    simpa [he] using (List.mem_filter.1 hx).2
  have hput : tget [] (s.putColl c e).fab.colls c = (tget [] s.fab.colls c).filter (fun x => x.step != e.step) ++ [e] := tget_tput_same _ _ _ _
  rw [State.collStep, hput, List.find?_append, List.find?_eq_none.2 hnone]
  simp [he]

/-- A sender's only message, whole: its part. -/
def wholePart (k total : Nat) (d : List Byte) (poison : Bool) : CollPart := { from_ := k, total, data := d, poison, last := true }

/-- The first message of a sender, which is its last: its part joins those of the others. -/
theorem CollStep.take_parts (e : CollStep) {k : Nat} (total : Nat) (d : List Byte) (poison : Bool) (hk : ∀ x ∈ e.parts, x.from_ ≠ k) :
    (e.take k total 0 d poison true).parts = e.parts ++ [wholePart k total d poison] := by
  have hfind : (e.parts.find? fun p => p.from_ == k) = none := List.find?_eq_none.2 fun x hx => by simpa using hk x hx
  have hfilter : (e.parts.filter fun p => p.from_ != k) = e.parts := List.filter_eq_self.2 fun x hx => by simpa using hk x hx
  simp [CollStep.take, hfind, hfilter, wholePart, slice]

theorem CollStep.part_take_self (e : CollStep) {k : Nat} (total : Nat) (d : List Byte) (poison : Bool) (hk : ∀ x ∈ e.parts, x.from_ ≠ k) :
    (e.take k total 0 d poison true).part k = some (wholePart k total d poison) := by
  have hfind : (e.parts.find? fun p => p.from_ == k && p.last) = none := List.find?_eq_none.2 fun x hx => by simp [hk x hx]
  simp [CollStep.part, e.take_parts total d poison hk, List.find?_append, hfind, wholePart]

theorem CollStep.part_take_of_some (e : CollStep) {j k : Nat} {p : CollPart} (total : Nat) (d : List Byte) (poison : Bool)
    (hk : ∀ x ∈ e.parts, x.from_ ≠ k) (hj : e.part j = some p) : (e.take k total 0 d poison true).part j = some p := by
  have hfind : (e.parts.find? fun p => p.from_ == j && p.last) = some p := hj
  simp [CollStep.part, e.take_parts total d poison hk, List.find?_append, hfind]

/-! ### Results -/

/-- The write of a result that one access carries. -/
def resultWrite (c off : Nat) (out : List Byte) (poison : Bool) : Inbound :=
  { kind := .result c true, off, len := out.length, data := out, poison, tenant := 0, req := .collective, tag := none }

/-- A result that fits MAXLEN and the scratchpad of a loom in service is one write at DST_OFF. -/
theorem State.collWrite_whole (s : State) (c n : Nat) (out : List Byte) (p : Bool) (hb : s.is (LOOM_STATUS_BENCHED n) = false)
    (h0 : 0 < out.length) (hmax : out.length ≤ s.get (FAB_COLL_MAXLEN c)) (hfit : s.get (FAB_COLL_DST_OFF c) + out.length ≤ spadSize n) :
    s.collWrite c n [(out, p)] = s.enqueue n (resultWrite c (s.get (FAB_COLL_DST_OFF c)) out p) := by
  have hne : out ≠ [] := List.ne_nil_of_length_pos h0
  have hputs : resultPuts (s.get (FAB_COLL_DST_OFF c)) (s.get (FAB_COLL_MAXLEN c)) 0 [(out, p)] = [(s.get (FAB_COLL_DST_OFF c), out, p)] := by
    simp [resultPuts, List.take_of_length_le hmax, hne]
  have hrec : s.collRecord n (s.get (FAB_COLL_DST_OFF c)) out.length = s := by
    simp [State.collRecord, State.collBad, hb, hfit]
  have htake : out.take (spadSize n - s.get (FAB_COLL_DST_OFF c)) = out := List.take_of_length_le (by omega)
  have hport : s.collPuts n [(s.get (FAB_COLL_DST_OFF c), out, p)] = [(s.get (FAB_COLL_DST_OFF c), out, p)] := by
    simp [State.collPuts, hb, htake, hne]
  unfold State.collWrite
  simp only [hputs, List.foldl_cons, List.foldl_nil, hrec, hport]
  rfl

/-- A result that fits MAXLEN is not cut. -/
theorem State.collTrunc_of_le (s : State) (c : Nat) (out : List Byte) (p : Bool) (hmax : out.length ≤ s.get (FAB_COLL_MAXLEN c)) :
    s.collTrunc c [(out, p)] = s := by
  simp [State.collTrunc, hmax]

/-- A collective with one participant here, whose result fits, ends with one write to it. -/
theorem State.collDone_one (s : State) (c step n : Nat) (out : List Byte) (p : Bool) (hl : s.collLooms c = [n])
    (hb : s.is (LOOM_STATUS_BENCHED n) = false) (h0 : 0 < out.length) (hmax : out.length ≤ s.get (FAB_COLL_MAXLEN c))
    (hfit : s.get (FAB_COLL_DST_OFF c) + out.length ≤ spadSize n) :
    s.collDone c step (fun _ => [(out, p)]) = (s.enqueue n (resultWrite c (s.get (FAB_COLL_DST_OFF c)) out p)).dropStep c step := by
  have hw := s.collWrite_whole c n out p hb h0 hmax hfit
  simp only [State.collDone, hl, List.foldl_cons, List.foldl_nil, hw]
  rw [State.collTrunc_of_le]
  exact hmax

/-! ### The reduction at the root -/

/-- The reduced elements as bytes: a BF16 element of a SUM, which travels as FP32, is rounded. -/
def reducedBytes (dtype red : Nat) (r : List Nat) : List Byte :=
  if dtype = 2 && red = 0 then r.flatMap (fun x => leBytes 2 (f32ToBf16 x)) else r.flatMap (leBytes (elemSize dtype))

/-- The last contribution to an ALLREDUCE at its root, where one loom and one child take part: what the two combine to goes down to the
child and is the result. -/
theorem State.tryReduce_root (s : State) (c step n port : Nat) (own kid : CollPart) (hup : (s.collStep c step).sentUp = false)
    (hl : s.collLooms c = [n]) (hc : s.collChildren c = [port]) (hroot : s.collRoot c = true)
    (hown : (s.collStep c step).part (s.collIndex c n) = some own) (hkid : (s.collStep c step).part (childKey port) = some kid) :
    ∃ t out, s.tryReduce c step = State.collDone (State.collSend t c step 1 0 port out (own.poison || kid.poison)) c step
        (fun _ => [(out, own.poison || kid.poison)]) ∧ CollOnly s t
      ∧ out = reducedBytes (s.get (FAB_COLL_DTYPE c)) (s.get (FAB_COLL_RED c))
        (collZip (s.get (FAB_COLL_DTYPE c)) (s.get (FAB_COLL_RED c)) (ownElems (s.get (FAB_COLL_DTYPE c)) (s.get (FAB_COLL_RED c)) own.data)
          (elems (partSize (s.get (FAB_COLL_DTYPE c)) (s.get (FAB_COLL_RED c))) kid.data)) := by
  unfold State.tryReduce
  simp only [hup, hl, hc, hown, hkid, List.map_cons, List.map_nil, List.cons_append, List.nil_append, List.any_cons, List.any_nil, Option.isNone_some,
    Bool.or_false, Bool.false_eq_true, if_false, List.filterMap_cons, List.filterMap_nil, id_eq, List.foldl_cons, List.foldl_nil]
  split
  · have h := s.setNan_collOnly 1
    rw [if_pos (h.collRoot c ▸ hroot), h.collChildren c, hc]
    exact ⟨_, _, rfl, h, rfl⟩
  · rw [hc]
    exact ⟨_, _, rfl, .refl s, rfl⟩

/-! ### COLL messages (R397, R400) -/

/-- The packet has left the endpoint, and the looms of its collective have noted its RTY (R392). -/
def State.heardColl (s : State) (i : InPkt) : State :=
  ((s.takeIn i).collLooms (leAt i.pkt.payload 0 1)).foldl (fun s n => s.noteRty n i.pkt.rty) (s.takeIn i)

theorem State.heardColl_frame (s : State) (i : InPkt) : { s.heardColl i with svc := s.svc } = s.takeIn i :=
  State.noteRtys_frame i.pkt.rty _ (s.takeIn i)

theorem State.heardColl_flds (s : State) (i : InPkt) : (s.heardColl i).flds = s.flds := (congrArg State.flds (s.heardColl_frame i) :)

theorem State.heardColl_collOnly (s : State) (i : InPkt) : CollOnly (s.takeIn i) (s.heardColl i) :=
  ⟨congrArg (fun x : State => { x with fab := (s.takeIn i).fab, svc := s.svc, flds := s.flds }) (s.heardColl_frame i),
    (congrArg (fun x : State => x.fab.inbox) (s.heardColl_frame i) :), fun f _ => congrArg (fun l => tget f.reset l f.key % 2 ^ f.width) (s.heardColl_flds i)⟩

/-- What a step of a collective holds does not depend on who heard of it. -/
theorem State.heardColl_collStep (s : State) (i : InPkt) (c step : Nat) : (s.heardColl i).collStep c step = s.collStep c step :=
  (congrArg (fun x : State => x.collStep c step) (s.heardColl_frame i) :)

section
variable {s : State} {i : InPkt}

/-- A message whose body header R6 or R7 refuses is recorded. -/
theorem execColl_refused (hi : s.firstIn (isMsg 0x30 none) = some i) (hbad : collHdrBad i.pkt.payload = true) :
    exec .coll s = .next ((s.heardColl i).report (mkRec 15 0 0x201 2 none (leAt i.pkt.payload 4 4) 0 [])) := by
  show execColl s = _
  simp [execColl, hi, hbad, State.heardColl]

/-- A message of a collective that is not valid is stale. -/
theorem execColl_stale (hi : s.firstIn (isMsg 0x30 none) = some i) (hbad : collHdrBad i.pkt.payload = false)
    (hv : s.is (FAB_COLL_VALID (leAt i.pkt.payload 0 1)) = false) :
    exec .coll s = .next ((s.heardColl i).add FAB_CNT_COLL_STALE_N 1) := by
  have hv' : (s.heardColl i).is (FAB_COLL_VALID (leAt i.pkt.payload 0 1)) = false := ((s.heardColl_collOnly i).is (collKey_ne rfl)).trans hv
  show execColl s = _
  rw [State.heardColl] at hv'
  simp [execColl, hi, hbad, State.heardColl, hv']

/-- A message of an ALLREDUCE from a child joins what has been contributed. -/
theorem execColl_reduce (hi : s.firstIn (isMsg 0x30 none) = some i) (hbad : collHdrBad i.pkt.payload = false)
    (hv : s.is (FAB_COLL_VALID (leAt i.pkt.payload 0 1)) = true) (hfresh : s.collFresh (leAt i.pkt.payload 0 1) (leAt i.pkt.payload 4 4) = true)
    (hop : s.get (FAB_COLL_OP (leAt i.pkt.payload 0 1)) = 0) (hchild : i.port ∈ s.collChildren (leAt i.pkt.payload 0 1)) :
    exec .coll s = .next (((s.heardColl i).putColl (leAt i.pkt.payload 0 1) (((s.heardColl i).collStep (leAt i.pkt.payload 0 1) (leAt i.pkt.payload 4 4)).take
      (childKey i.port) (leAt i.pkt.payload 12 4) (leAt i.pkt.payload 8 4) (i.pkt.payload.drop 32) i.pkt.poison (bitOf (leAt i.pkt.payload 16 1) 4))).tryReduce
        (leAt i.pkt.payload 0 1) (leAt i.pkt.payload 4 4)) := by
  have hmem := List.mem_filter.1 hchild
  have hport : i.port < 6 := List.mem_range.1 hmem.1
  have hbit : bitOf (s.get (FAB_COLL_CHILDREN (leAt i.pkt.payload 0 1))) i.port = true := hmem.2
  have hget : ∀ f, (s.heardColl i).get f = s.get f := fun f => congrArg (fun l => tget f.reset l f.key % 2 ^ f.width) (s.heardColl_flds i)
  have hv' : (s.heardColl i).is (FAB_COLL_VALID (leAt i.pkt.payload 0 1)) = true := (congrArg (· != 0) (hget _)).trans hv
  have hfresh' : (s.heardColl i).collFresh (leAt i.pkt.payload 0 1) (leAt i.pkt.payload 4 4) = true := by
    rw [← hfresh]
    simp only [State.collFresh, State.collLooms, State.stepOf, hget]
  have hop' := (hget (FAB_COLL_OP (leAt i.pkt.payload 0 1))).trans hop
  show execColl s = _
  rw [State.heardColl] at hv' hfresh' hop' ⊢
  simp [execColl, hi, hbad, hv', hfresh', hop', hbit, hport]

end

/-- What is put into a loom's FIFO leaves its sequencer. -/
theorem State.enqueue_seq (s : State) (m : Nat) (i : Inbound) : ((s.enqueue m i).lm m).seq = (s.lm m).seq := by
  simp [State.enqueue]

/-- A step's state after a child's whole message. -/
def CollStep.takeChild (e : CollStep) (i : InPkt) : CollStep :=
  e.take (childKey i.port) (leAt i.pkt.payload 12 4) 0 (i.pkt.payload.drop 32) i.pkt.poison true

/-- The part that a child's whole message is. -/
def childPart (i : InPkt) : CollPart := wholePart (childKey i.port) (leAt i.pkt.payload 12 4) (i.pkt.payload.drop 32) i.pkt.poison

@[simp] theorem childPart_poison (i : InPkt) : (childPart i).poison = i.pkt.poison := rfl
@[simp] theorem childPart_data (i : InPkt) : (childPart i).data = i.pkt.payload.drop 32 := rfl

/-- The last contribution to an ALLREDUCE at its root, a child's whole message: the reduced elements go to the loom's FIFO. -/
theorem execColl_completes {s : State} {i : InPkt} {n c step : Nat} {own : CollPart} {out : List Byte}
    (hi : s.firstIn (isMsg 0x30 none) = some i) (hc : c = leAt i.pkt.payload 0 1) (hstep : step = leAt i.pkt.payload 4 4)
    (hv : s.is (FAB_COLL_VALID c) = true) (hfresh : s.collFresh c step = true) (hop : s.get (FAB_COLL_OP c) = 0)
    (hroot : s.collRoot c = true) (hl : s.collLooms c = [n]) (hchild : s.collChildren c = [i.port]) (hn : n < 144)
    (haway : s.neighbour i.port ≠ s.chip) (hup : (s.collStep c step).sentUp = false) (hown : (s.collStep c step).part (s.collIndex c n) = some own)
    (hbench : s.is (LOOM_STATUS_BENCHED n) = false) (hbad : collHdrBad i.pkt.payload = false)
    (hparts : ∀ x ∈ (s.collStep c step).parts, x.from_ ≠ childKey i.port) (hoff : leAt i.pkt.payload 8 4 = 0)
    (hlast : bitOf (leAt i.pkt.payload 16 1) 4 = true)
    (hout : out = reducedBytes (s.get (FAB_COLL_DTYPE c)) (s.get (FAB_COLL_RED c))
      (collZip (s.get (FAB_COLL_DTYPE c)) (s.get (FAB_COLL_RED c)) (ownElems (s.get (FAB_COLL_DTYPE c)) (s.get (FAB_COLL_RED c)) own.data)
        (elems (partSize (s.get (FAB_COLL_DTYPE c)) (s.get (FAB_COLL_RED c))) (i.pkt.payload.drop 32))))
    (h0 : 0 < out.length) (hmax : out.length ≤ s.get (FAB_COLL_MAXLEN c)) (hfit : s.get (FAB_COLL_DST_OFF c) + out.length ≤ spadSize n) :
    ∃ t, exec .coll s = .next ((t.enqueue n (resultWrite c (s.get (FAB_COLL_DST_OFF c)) out (own.poison || i.pkt.poison))).dropStep c step)
      ∧ CollOnly (s.takeIn i) t := by
  have hu := s.heardColl_collOnly i
  have he : ((s.heardColl i).collStep c step) = s.collStep c step := s.heardColl_collStep i c step
  have hput := (s.heardColl i).putColl_collOnly c ((s.collStep c step).takeChild i)
  have hv1 := hu.trans hput
  have hcs : ((s.heardColl i).putColl c ((s.collStep c step).takeChild i)).collStep c step
      = (s.collStep c step).takeChild i :=
    State.collStep_putColl _ _ _ _ (s.collStep_step c step)
  obtain ⟨t, r, hred, ht, hr⟩ := State.tryReduce_root
    ((s.heardColl i).putColl c ((s.collStep c step).takeChild i))
    c step n i.port own (childPart i)
    (by rw [hcs]; exact hup) ((hv1.collLooms c).trans hl) ((hv1.collChildren c).trans hchild) ((hv1.collRoot c).trans hroot)
    (by rw [hcs, hv1.collIndex]; exact CollStep.part_take_of_some _ _ _ _ hparts hown) (by rw [hcs]; exact CollStep.part_take_self _ _ _ _ hparts)
  have hr' : r = out := by
    rw [hr, hout, hv1.get (collKey_ne rfl), hv1.get (collKey_ne rfl), childPart_data, State.takeIn_get, State.takeIn_get]
  subst hr'
  rw [childPart_poison] at hred
  have hst := hv1.trans ht
  have hsend : CollOnly (s.takeIn i) (t.collSend c step 1 0 i.port r (own.poison || i.pkt.poison)) := by
    refine hst.trans (t.collSend_collOnly c step 1 0 i.port r _ ?_)
    show t.neighbour i.port ≠ t.get FAB_ID_CHIP
    rw [State.neighbour_collOnly hst, hst.get (by decide)]
    exact haway
  refine ⟨_, ?_, hsend⟩
  rw [execColl_reduce hi hbad (hc ▸ hv) (hc ▸ hstep ▸ hfresh) (hc ▸ hop) (hc ▸ hchild ▸ List.mem_singleton.2 rfl), ← hc, ← hstep, hoff, hlast, he]
  refine (congrArg Host.Outcome.next hred).trans ?_
  have hdst := hsend.get (f := FAB_COLL_DST_OFF c) (collKey_ne rfl)
  have hml := hsend.get (f := FAB_COLL_MAXLEN c) (collKey_ne rfl)
  have hbk : (LOOM_STATUS_BENCHED n).key ≠ FAB_ERR_COLL_NAN.key := by
    simp only [LOOM_STATUS_BENCHED, FAB_ERR_COLL_NAN]
    omega
  rw [State.collDone_one _ c step n r _ ((hsend.collLooms c).trans hl) ((hsend.is hbk).trans hbench) h0 (hml.symm ▸ hmax) (by rw [hdst]; exact hfit), hdst, State.takeIn_get]

/-- What COLL messages do. -/
theorem collectivesCombine : CollectivesCombine := by
  intro s i c hi hc
  refine ⟨fun hbad => ?_, fun hbad hv => ?_, ?_⟩
  · have h := s.heardColl_collOnly i
    refine ⟨_, execColl_refused hi hbad, ?_, fun e he hnew hroom => ?_, ?_, ?_, ?_⟩
    · rw [State.report_fab]
      exact h.inbox
    · have herrs : (s.heardColl i).errs = s.errs := (congrArg State.errs h.frame :)
      subst he
      rw [State.report, herrs, if_neg (by simpa using hnew), if_neg (by simpa [mkRec] using hroom)]
    · rw [State.report_flds, State.heardColl_flds]
    · exact ⟨fun a => (State.report_byteAt _ _ _).trans (h.sameMemory.1 a), (State.report_poison _ _).trans h.poison⟩
    · rw [State.report_looms]
      exact h.looms
  · have h := s.heardColl_collOnly i
    have hget : ∀ f, (s.heardColl i).get f = s.get f := fun f => congrArg (fun l => tget f.reset l f.key % 2 ^ f.width) (s.heardColl_flds i)
    refine ⟨_, execColl_stale hi hbad (hc ▸ hv), h.inbox, ?_, ?_, h.sameMemory, h.looms⟩
    · rw [State.get_add_same, hget]
      rfl
    · exact fun f hf => (State.get_add_ne _ _ fun e => hf (by simp [e])).trans (hget f)
  · intro n own step dtype red r out hstep hv hfresh hop hroot hl hchild _ haway _ hup hown hbench hbad hparts hoff hlast hdt hred hr hout h0 hmax hfit
    obtain ⟨t, hexec, ht⟩ := execColl_completes hi hc hstep hv hfresh hop hroot hl hchild n.isLt haway hup hown hbench hbad hparts hoff hlast
      (hout.trans (by rw [hr, hdt, hred]; rfl)) h0 hmax hfit
    refine ⟨_, hexec, ht.inbox, ht.sameMemory, fun m hm => ?_, ?_, ?_⟩
    · exact ((t.enqueue_onlyLoom n.val _).2.1 m hm).trans (ht.lm m)
    · refine (State.enqueue_fifo t n.val _).trans ?_
      rw [ht.lm]
      rfl
    · exact (State.enqueue_seq t n.val _).trans (congrArg Loom.seq (ht.lm n.val))

/-! ### Results at a loom's port (R397) -/

/-- Only error records are written when an access goes beyond its view. -/
theorem State.beyondView_frame (s : State) (n : Nat) (i : Inbound) (len : Nat) :
    { (s.beyondView n i len).2 with errs := s.errs, errDropped := s.errDropped } = s := by
  unfold State.beyondView
  by_cases h : i.off + len ≤ viewEnd n i.off
  · simp [h]
  · simp only [h, if_false]
    exact State.report_frame _ _

/-- Bytes at the head of a loom's window go to its scratchpad; none go anywhere. -/
theorem State.winWrite_spad (s : State) (n off : Nat) (d : List Byte) (p : Bool) (h : off + d.length ≤ 0xC00000) :
    s.winWrite n off d p = s.spWrite n off d p ∨ (d = [] ∧ s.winWrite n off d p = s) := by
  unfold State.winWrite
  split
  · exact .inl rfl
  · have hd : d = [] := List.eq_nil_of_length_eq_zero (by omega)
    subst hd
    exact .inr ⟨rfl, rfl⟩

/-- A loom's windows and bolt are not among what its port counts. -/
theorem State.inwinOk_congr {s t : State} {n : Nat} (h : OnlyLoom s t n [SPD_CNT_NC_DEFER_DEFER n]) (req : Requester) (tenant : Nat) (write : Bool)
    (off len : Nat) : t.inwinOk n req tenant write off len = s.inwinOk n req tenant write off len := by
  have hcard : t.card = s.card := (congrArg State.card h.1 :)
  have hbolt : ∀ m, t.sameBolt n m = s.sameBolt n m := fun m => by
    simp only [State.sameBolt, State.boltOf, State.inBolt, State.boltValid, State.boltEntry, hcard]
  have hget : ∀ k w : Nat, w < 8 → k < 64 → ∀ f : Fld, f.key = 8 * (0x80F30200 + 0x1000000 * n + 8 * w) + k → t.get f = s.get f := fun k w hw hk f hf =>
    h.2.2 f (by simp only [List.map_cons, List.map_nil, List.mem_singleton, SPD_CNT_NC_DEFER_DEFER, hf]; omega)
  have hadm : ∀ w ∈ List.range 8, t.inwinAdmits n w req tenant write off len = s.inwinAdmits n w req tenant write off len := fun w hm => by
    have hw := List.mem_range.1 hm
    have hway : t.get (if write then SPD_INWIN_WR n w else SPD_INWIN_RD n w) = s.get (if write then SPD_INWIN_WR n w else SPD_INWIN_RD n w) := by
      cases write with
      | true => exact hget 25 w hw (by decide) _ rfl
      | false => exact hget 24 w hw (by decide) _ rfl
    simp only [State.inwinAdmits, State.is, hbolt, hway, hget 42 w hw (by decide) (SPD_INWIN_ANY_TENANT n w) rfl, hget 0 w hw (by decide) (SPD_INWIN_BASE_4K n w) rfl, hget 12 w hw (by decide) (SPD_INWIN_SIZE_4K n w) rfl,
      hget 26 w hw (by decide) (SPD_INWIN_SRC n w) rfl, hget 32 w hw (by decide) (SPD_INWIN_TENANT n w) rfl]
  have hany : ((List.range 8).any fun w => t.inwinAdmits n w req tenant write off len)
      = (List.range 8).any fun w => s.inwinAdmits n w req tenant write off len := by
    rw [Bool.eq_iff_iff, List.any_eq_true, List.any_eq_true]
    exact exists_congr fun w => and_congr_right fun hm => by rw [hadm w hm]
  unfold State.inwinOk
  rw [hany]

/-- The last write of a result that its loom admits: its bytes go to the window, and the loom's WAIT ends. -/
theorem State.performInbound_result (s : State) (n c : Nat) (i : Inbound) (hk : i.kind = .result c true)
    (hok : s.inwinOk n i.req i.tenant true i.off i.len = true) :
    s.performInbound n i = ((s.beyondView n i i.len).2.winWrite n i.off i.data i.poison).resultIn n c := by
  simp [State.performInbound, hk, hok]

theorem State.resultIn_pause (s : State) {n c b sl : Nat} {e : Bool} (h : (s.lm n).seq.pause = some ⟨.coll c false, b, sl, e⟩) :
    ((s.resultIn n c).lm n).seq.pause = some ⟨.coll c true, b, sl, e⟩ := by
  simp [State.resultIn, h]

theorem State.resultIn_spd (s : State) (n c : Nat) : ((s.resultIn n c).lm n).spd = (s.lm n).spd := by
  simp [State.resultIn]

theorem State.popFifo_seq (s : State) (n : Nat) : ((s.popFifo n).lm n).seq = (s.lm n).seq := by
  simp [State.popFifo]

theorem State.resultIn_onlyLoom (s : State) (n c : Nat) : OnlyLoom s (s.resultIn n c) n [] := s.setLm_onlyLoom n _

/-- A write to a loom's scratchpad that fits it, or a write of nothing: it holds the bytes, and the others stay. -/
theorem State.winWrite_fits (s : State) (n off : Nat) (d : List Byte) (p : Bool) (hpad : off + d.length ≤ spadSize n) (h : off + d.length ≤ 0xC00000) :
    (s.winWrite n off d p).looms = s.looms ∧ (s.winWrite n off d p).spRead n off d.length = d
      ∧ SameOutside s (s.winWrite n off d p) (lwin n + off) d.length := by
  rcases s.winWrite_spad n off d p h with hw | ⟨rfl, hw⟩
  · rw [hw]
    refine ⟨rfl, s.spRead_spWrite_same n off d p hpad, ?_⟩
    have hmin : min d.length (spadSize n - off) = d.length := Nat.min_eq_left (by omega)
    exact hmin ▸ s.spWrite_outside n off d p
  · rw [hw]
    exact ⟨rfl, rfl, fun _ _ => rfl⟩

/-- A loom's port that takes the head of its FIFO and meets no word in error. -/
theorem execNcInboundServe_result {s : State} {n : LoomNo} {i : Inbound} {rest : List Inbound} {c : Nat} (deferred : Nat) (ho : s.ncOpen n = true)
    (hf : (s.lm n).spd.fifo = i :: rest) (hk : i.kind = .result c true) :
    exec (.ncInboundServe n deferred []) s
      = .next ((((s.popFifo n).add (SPD_CNT_NC_DEFER_DEFER n) deferred).performInbound n i).eccSeen n) := by
  show execNcInboundServe n deferred s [] = _
  simp only [execNcInboundServe, ho, hf, hk, Bool.not_true, Bool.false_eq_true, if_false]
  rfl

/-- The last write of a result lands. -/
theorem resultsLand : ResultsLand := by
  intro n deferred c b sl e s i rest ho hf hk hok hpad hlen hp
  have hu : OnlyLoom s ((s.popFifo n).add (SPD_CNT_NC_DEFER_DEFER n) deferred) n [SPD_CNT_NC_DEFER_DEFER n] :=
    ((s.popFifo_onlyLoom n).mono (List.nil_subset _)).set _ _ (List.mem_singleton.2 rfl)
  have hperf := State.performInbound_result _ n.val c i hk ((State.inwinOk_congr hu i.req i.tenant true i.off i.len).trans hok)
  have hfifo : (((s.popFifo n).add (SPD_CNT_NC_DEFER_DEFER n) deferred).lm n).spd.fifo = rest :=
    (State.popFifo_fifo s n).trans (by rw [hf]; rfl)
  have hpause : (((s.popFifo n).add (SPD_CNT_NC_DEFER_DEFER n) deferred).lm n).seq.pause = some ⟨.coll c false, b, sl, e⟩ :=
    (congrArg Seq.pause (s.popFifo_seq n)).trans hp
  have hexec := execNcInboundServe_result deferred ho hf hk
  rw [hperf] at hexec
  generalize (s.popFifo n).add (SPD_CNT_NC_DEFER_DEFER n) deferred = u at hu hexec hfifo hpause
  have hv := u.beyondView_frame n i i.len
  generalize (u.beyondView n i i.len).2 = v at hv hexec
  have hvm : ∀ a, v.byteAt a = u.byteAt a := fun a => (congrArg (fun x : State => x.byteAt a) hv :)
  have hvl : ∀ m, v.lm m = u.lm m := fun m => (congrArg (fun x : State => x.lm m) hv :)
  obtain ⟨hwl, hread, hout⟩ := v.winWrite_fits n i.off i.data i.poison hpad hlen
  generalize v.winWrite n i.off i.data i.poison = w at hwl hread hout hexec
  have hlm : ∀ m, w.lm m = u.lm m := fun m => (congrArg (fun l => tget Loom.reset l m) hwl).trans (hvl m)
  have hseen : ((w.resultIn n c).eccSeen n).lm n = { (w.resultIn n c).lm n with spd := { ((w.resultIn n c).lm n).spd with fresh := [] } } :=
    State.lm_modSpd_same _ _ _
  refine ⟨_, hexec, ?_, hread, ?_, fun a ha => ?_, fun m hm => ?_⟩
  · rw [hseen]
    exact (congrArg Spd.fifo ((w.resultIn_spd n c).trans (congrArg Loom.spd (hlm n)))).trans hfifo
  · rw [hseen]
    exact w.resultIn_pause ((congrArg (fun l : Loom => l.seq.pause) (hlm n)).trans hpause)
  · exact (hout a (ha _ (List.mem_singleton.2 rfl))).trans ((hvm a).trans (hu.sameMemory.1 a))
  · exact (State.lm_modSpd_ne _ _ hm).trans (((w.resultIn_onlyLoom n c).2.1 m hm).trans ((hlm m).trans (hu.2.1 m hm)))

/-! ### The mailbox (R406) -/

/-- What HOSTMSG does. -/
theorem hostMessagesTaken : HostMessagesTaken := by
  intro s i hi hack
  have hsize : (s.takeIn i).mbxSize = s.mbxSize := rfl
  refine ⟨fun hring hroom hlen => ?_, fun hno => ?_⟩
  · show execHostmsg s = _
    simp [execHostmsg, hi, hack, hsize, hring, hroom, Nat.not_lt.2 hlen]
  · refine ⟨(s.takeIn i).add FAB_CNT_MBX_DROP_N 1, ?_, rfl, State.get_add_same _ _ _, rfl, State.set_sameFields (s.takeIn i) _ _ _ (List.mem_singleton.2 rfl)⟩
    show execHostmsg s = _
    simp only [execHostmsg, hi, hsize, State.takeIn_get, hack]
    rw [if_pos (by simpa [or_assoc] using hno)]
    rfl

/-- Settles O40, part by part: collectives combine, their results land at the looms, and host messages reach the mailbox. -/
theorem messagesLand : Obligations.MessagesLand := ⟨collectivesCombine, resultsLand, hostMessagesTaken⟩

end Sys2Proof.Machine
end

section
/-! PROOF. The management port (R450 to R452), and where its statement fails: what Selvedge writes to the error ring may write back a cached line. -/
namespace Sys2Proof.Machine

/-- A dirty line of the memory-side cache that lies below HBM, at address 0. No access caches such a line, but the statement is about every state. -/
def strayLine : CLine := { line := 0, tenant := 0, keep := false, dirty := true, data := [1], mask := 0 }

/-- The Ingot runs and has sent a nonce; the error ring lies at the base of HBM, where KEEP is the default hint, and the cache set of that
address is full of stray lines. -/
def strayCached : State :=
  { ((State.reset.set SLV_ERQ_SIZE_ENTRIES 64).set SLV_ERQ_BASE_ADDR hbmBase).set (MSC_CTL_DEF_HINT 0) 1 with
    cache := [(setKey hbmBase, List.replicate 16 strayLine)]
    mgmt := { State.reset.mgmt with nextStage := 0, challenge := some [] } }

/-- An AUTH request to the device. -/
def authHeader : MgmtHdr :=
  { src := 7, dst := BitVec.ofNat 128 strayCached.mgmtAddr, udp := 7411, magic := 0x544D4C53, level := 2, resp := false, reserved := false, len := 1, seq := 0,
    session := [] }

/-- The request is heard, and its proof is looked at. -/
theorem strayCached_hears : strayCached.romRuns = true ∧ strayCached.stacksAsleep = false ∧ strayCached.hears authHeader = true ∧ hdrBad authHeader = false
    ∧ strayCached.power.standby = false ∧ strayCached.mgmt.recovery = none ∧ strayCached.mgmt.challenge = some [] := by decide +kernel

/-- The byte at address 0 after a command. -/
def firstByteAfter (c : Instr) (s : State) : Option Byte :=
  match exec c s with
  | .next t => some (t.byteAt 0)
  | _ => none

theorem firstByteAfter_eq {c : Instr} {s t : State} (h : exec c s = .next t) : firstByteAfter c s = some (t.byteAt 0) := by
  simp [firstByteAfter, h]

/-- The AUTH record of a proof that fails goes to the error ring, and the line that its write evicts goes back to address 0. -/
theorem firstByteAfter_auth : firstByteAfter (.auth authHeader [0]) strayCached = some 1 := by decide +kernel

/-- Refutes O50, in the clause on AUTH with a proof: it has every byte below HBM stay, whatever the memory-side cache holds. In `strayCached`
the write of the AUTH record to the error ring evicts a dirty line that lies at address 0, and its write-back changes that byte. The state is not
one that the device's accesses, which cache HBM alone, bring about: the clause lacks the hypothesis that every cached line lies in HBM. -/
theorem not_managementPortServes : ¬ Obligations.ManagementPortServes := by
  intro ⟨hport, _⟩
  obtain ⟨hrom, hawake, hhears, hgood, hstandby, hrecovery, hchallenge⟩ := strayCached_hears
  obtain ⟨_, hrequests, _⟩ := hport strayCached authHeader hrom hawake
  obtain ⟨_, _, _, hsessions⟩ := hrequests hhears hgood
  obtain ⟨_, hproof, _⟩ := hsessions hstandby hrecovery
  obtain ⟨t, hexec, _, _, _, _, hbytes⟩ := hproof [0] [] _ (List.cons_ne_nil _ _) hchallenge rfl
  have hchanged : t.byteAt 0 = 1 := Option.some.inj ((firstByteAfter_eq hexec).symm.trans firstByteAfter_auth)
  have hstays : t.byteAt 0 = strayCached.byteAt 0 := hbytes 0 (by decide)
  exact absurd (hchanged.symm.trans hstays) (by decide)

end Sys2Proof.Machine
end


section
/-! PROOF. Looms by number (R20). -/
namespace Sys2Proof.Machine

/-- A loom is a Warp loom or a Weft loom, by its place on its die (R20). -/
theorem kindOf_cases (n : Nat) : (n % 72 < 48 ∧ kindOf n = 0) ∨ (48 ≤ n % 72 ∧ kindOf n = 1) := by
  unfold kindOf
  split
  · exact .inl ⟨‹_›, rfl⟩
  · exact .inr ⟨by omega, rfl⟩

/-- Settles O56: which of a die's 72 numbers are below 48 is arithmetic, and LOOM_ID is reset to the kind. -/
theorem loomsByNumber : Obligations.LoomsByNumber := by
  intro n
  have hkind := kindOf_cases n
  have hreset : State.reset.get (LOOM_ID_KIND n) = kindOf n := (State.reset_get _).trans (Nat.mod_eq_of_lt (by simp only [LOOM_ID_KIND]; omega))
  exact ⟨rfl, by omega, by omega, by omega, by omega, hreset⟩

end Sys2Proof.Machine
end

section
/-! PROOF. What a step keeps: the form of memory and the balance of the Ledger. The default proofs of hypotheses (`:= by …`) are evaluated while
earlier proofs may still be under way; `Elab.async false` has them done one after another, where each would else hold a thread that waits. -/
namespace Sys2Proof.Machine
set_option Elab.async false

/-! ### What a step keeps -/

/-- From s to t the canonical form of memory and the Ledger's balance carry over. -/
structure Keeps (s t : State) : Prop where
  memory : s.memWf → t.memWf
  ledger : LedgerBalanced s → LedgerBalanced t

/-- The outcome of a command, where it is a state, keeps what s has. -/
def KeepsNext (s : State) (o : Host.Outcome State Fault Refusal) : Prop := ∀ t, o = .next t → Keeps s t

/-- A field other than LDG_STATUS.OUTSTANDING that lies outside the looms' entries of LDG_CREDIT. -/
def Fld.offLedger (f : Fld) : Bool :=
  f.key != LDG_STATUS_OUTSTANDING.key && (Nat.blt f.key (LDG_CREDIT_HELD 0).key || Nat.ble (LDG_CREDIT_HELD 144).key f.key)

/-- A field of a register table that lies behind the Ledger's. -/
theorem offLedger_behind {a k lo w r : Nat} (h : Nat.ble 0x210440 a = true) : Fld.offLedger ⟨8 * (a + k) + lo, w, r⟩ = true := by
  simp only [Fld.offLedger, LDG_STATUS_OUTSTANDING, LDG_CREDIT_HELD, Nat.ble_eq, Nat.blt_eq, Bool.and_eq_true, Bool.or_eq_true, bne_iff_ne] at *
  omega

/-- A field of an array of registers that lies behind the Ledger's. -/
theorem offLedger_behind_entry {a k j lo w r : Nat} (h : Nat.ble 0x210440 a = true) : Fld.offLedger ⟨8 * (a + k + j) + lo, w, r⟩ = true := by
  simp only [Fld.offLedger, LDG_STATUS_OUTSTANDING, LDG_CREDIT_HELD, Nat.ble_eq, Nat.blt_eq, Bool.and_eq_true, Bool.or_eq_true, bne_iff_ne] at *
  omega

/-- A register field that lies behind the Ledger's. -/
theorem offLedger_at {a lo w r : Nat} (h : Nat.ble 0x210440 a = true) : Fld.offLedger ⟨8 * a + lo, w, r⟩ = true := offLedger_behind (k := 0) h

/-- A field of a table of registers that lies before the Ledger's. -/
theorem offLedger_before {a k i m lo w r : Nat} (hi : i < m) (h : Nat.blt (8 * (a + k * m) + lo) (8 * 0x210010) = true) :
    Fld.offLedger ⟨8 * (a + k * i) + lo, w, r⟩ = true := by
  have hle := Nat.mul_le_mul_left k hi.le
  simp only [Fld.offLedger, LDG_STATUS_OUTSTANDING, LDG_CREDIT_HELD, Nat.ble_eq, Nat.blt_eq, Bool.and_eq_true, Bool.or_eq_true, bne_iff_ne] at *
  omega

theorem offLedger_iff {f : Fld} : f.offLedger = true ↔
    f.key ≠ LDG_STATUS_OUTSTANDING.key ∧ (f.key < (LDG_CREDIT_HELD 0).key ∨ (LDG_CREDIT_HELD 144).key ≤ f.key) := by
  simp only [Fld.offLedger, Nat.ble_eq, Nat.blt_eq, Bool.and_eq_true, Bool.or_eq_true, bne_iff_ne]

theorem Fld.offLedger.ne_outstanding {f : Fld} (h : f.offLedger = true) : LDG_STATUS_OUTSTANDING.key ≠ f.key := (offLedger_iff.1 h).1.symm

theorem Fld.offLedger.ne_held {f : Fld} (h : f.offLedger = true) {n : Nat} (hn : n < 144) : (LDG_CREDIT_HELD n).key ≠ f.key := by
  have h' := (offLedger_iff.1 h).2
  simp only [LDG_CREDIT_HELD] at *
  omega

/-- The balance rests on the credit fields, the requests that wait, and the test under way. -/
theorem ledgerBalanced_congr {s t : State} (hout : t.get LDG_STATUS_OUTSTANDING = s.get LDG_STATUS_OUTSTANDING)
    (hheld : ∀ n, n < 144 → t.get (LDG_CREDIT_HELD n) = s.get (LDG_CREDIT_HELD n)) (hledger : t.ledger = s.ledger)
    (htest : t.mgmt.test = s.mgmt.test) (h : LedgerBalanced s) : LedgerBalanced t := by
  obtain ⟨hsum, hreq, hx⟩ := h
  refine ⟨?_, hledger ▸ hreq, htest ▸ hx⟩
  rw [hout, hsum]
  exact congrArg List.sum (List.map_congr_left fun n hn => (hheld n (List.mem_range.1 hn)).symm)

/-- What the invariants speak of. -/
def State.core (s : State) : List Host.Cell × List (Nat × Nat) × List (Nat × Nat) × List LdgReq × Option TestRun :=
  (s.mem, s.poison, s.flds, s.ledger, s.mgmt.test)

namespace Keeps
variable {s t u : State}

theorem refl (s : State) : Keeps s s := ⟨id, id⟩

theorem trans (h : Keeps s t) (g : Keeps t u) : Keeps s u := ⟨g.memory ∘ h.memory, g.ledger ∘ h.ledger⟩

/-- What memory, marks, fields, requests and the test under way have in common with t keeps what t keeps. -/
theorem frame (h : Keeps s t) (e : u.core = t.core := by rfl) : Keeps s u := by
  simp only [State.core, Prod.mk.injEq] at e
  obtain ⟨hm, hp, hf, hl, ht⟩ := e
  have hget (f : Fld) : u.get f = t.get f := by rw [State.get, State.get, hf]
  exact h.trans ⟨State.memWf_of_eq hm hp, ledgerBalanced_congr (hget _) (fun _ _ => hget _) hl ht⟩

/-- A change of memory that keeps its form. -/
theorem ofMemory (h : Keeps s t) (hm : t.memWf → u.memWf) (e : { u with mem := t.mem, poison := t.poison } = t := by rfl) : Keeps s u := by
  refine h.trans ⟨hm, ?_⟩
  have hf : u.flds = t.flds := (congrArg State.flds e :)
  have hget (f : Fld) : u.get f = t.get f := by rw [State.get, State.get, hf]
  exact ledgerBalanced_congr (hget _) (fun _ _ => hget _) (congrArg State.ledger e :) (congrArg (fun x : State => x.mgmt.test) e :)

/-! ### Choices and folds -/

theorem ite {c : Prop} [Decidable c] {a b : State} (ha : Keeps s a) (hb : Keeps s b) : Keeps s (if c then a else b) := by
  split
  · exact ha
  · exact hb

theorem iteOf {c : Prop} [Decidable c] {a b : State} (ha : c → Keeps s a) (hb : ¬c → Keeps s b) : Keeps s (if c then a else b) := by
  split
  · exact ha ‹_›
  · exact hb ‹_›

theorem iteSnd {α : Type} {c : Prop} [Decidable c] {a b : α × State} (ha : Keeps s a.2) (hb : Keeps s b.2) : Keeps s (if c then a else b).2 := by
  split
  · exact ha
  · exact hb

theorem foldl {β : Type} {l : List β} {f : State → β → State} (h : Keeps s t) (hf : ∀ t x, Keeps s t → Keeps s (f t x)) :
    Keeps s (l.foldl f t) := by
  induction l generalizing t with
  | nil => exact h
  | cons x l ih => exact ih (hf t x h)

theorem foldlMem {β : Type} {l : List β} {f : State → β → State} (h : Keeps s t) (hf : ∀ t, ∀ x ∈ l, Keeps s t → Keeps s (f t x)) :
    Keeps s (l.foldl f t) := by
  induction l generalizing t with
  | nil => exact h
  | cons x l ih => exact ih (hf t x List.mem_cons_self h) fun t y hy => hf t y (List.mem_cons_of_mem x hy)

theorem foldlSnd {α β : Type} {l : List β} {f : α × State → β → α × State} {a : α × State} (h : Keeps s a.2)
    (hf : ∀ p x, Keeps s p.2 → Keeps s (f p x).2) : Keeps s (l.foldl f a).2 := by
  induction l generalizing a with
  | nil => exact h
  | cons x l ih => exact ih (hf a x h)

theorem foldlSndSnd {α β γ : Type} {l : List γ} {f : α × β × State → γ → α × β × State} {a : α × β × State} (h : Keeps s a.2.2)
    (hf : ∀ p x, Keeps s p.2.2 → Keeps s (f p x).2.2) : Keeps s (l.foldl f a).2.2 := by
  induction l generalizing a with
  | nil => exact h
  | cons x l ih => exact ih (hf a x h)

/-! ### Register fields -/

theorem set {f : Fld} {v : Nat} (h : Keeps s t)
    (hf : f.offLedger = true := by first | rfl | exact offLedger_behind rfl | exact offLedger_behind_entry rfl) : Keeps s (t.set f v) :=
  h.trans ⟨id, ledgerBalanced_congr (State.get_set_ne _ _ (Fld.offLedger.ne_outstanding hf))
    (fun _ hn => State.get_set_ne _ _ (Fld.offLedger.ne_held hf hn)) rfl rfl⟩

/-- A field that the Ledger's balance says is not one of its own. -/
theorem setOf {f : Fld} {v : Nat} (h : Keeps s t) (hf : LedgerBalanced s → f.offLedger = true) : Keeps s (t.set f v) :=
  ⟨h.memory, fun hb => (h.set (v := v) (hf hb)).ledger hb⟩

theorem add {f : Fld} {k : Nat} (h : Keeps s t)
    (hf : f.offLedger = true := by first | rfl | exact offLedger_behind rfl | exact offLedger_behind_entry rfl) : Keeps s (t.add f k) :=
  h.set hf

theorem addHold {f : Fld} {k : Nat} (h : Keeps s t)
    (hf : f.offLedger = true := by first | rfl | exact offLedger_behind rfl | exact offLedger_behind_entry rfl) : Keeps s (t.addHold f k) :=
  h.set hf

theorem clear {f : Fld} (h : Keeps s t)
    (hf : f.offLedger = true := by first | rfl | exact offLedger_behind rfl | exact offLedger_behind_entry rfl) : Keeps s (t.clear f) :=
  h.set hf

theorem clearAll {l : List Fld} (h : Keeps s t) (hl : ∀ f ∈ l, f.offLedger = true) : Keeps s (t.clearAll l) :=
  h.foldlMem fun _ f hf h => h.clear (hl f hf)

theorem sub {f : Fld} {k : Nat} (h : Keeps s t)
    (hf : f.offLedger = true := by first | rfl | exact offLedger_behind rfl | exact offLedger_behind_entry rfl) : Keeps s (t.sub f k) :=
  h.set hf

theorem setMapBit {w : Nat → Fld} {j : Nat} (h : Keeps s t)
    (hf : (w (j / 32)).offLedger = true := by first | exact offLedger_behind rfl | exact offLedger_behind_entry rfl) :
    Keeps s (t.setMapBit w j) :=
  h.set hf

/-! ### Parts of the state -/

theorem withLooms {x} (h : Keeps s t) : Keeps s { t with looms := x } := h.frame
theorem withVoltTo {x} (h : Keeps s t) : Keeps s { t with voltTo := x } := h.frame
theorem withCache {x} (h : Keeps s t) : Keeps s { t with cache := x } := h.frame
theorem withKeys {x} (h : Keeps s t) : Keeps s { t with keys := x } := h.frame
theorem withErrs {x} (h : Keeps s t) : Keeps s { t with errs := x } := h.frame
theorem withErrDropped {x} (h : Keeps s t) : Keeps s { t with errDropped := x } := h.frame
theorem withCard {x} (h : Keeps s t) : Keeps s { t with card := x } := h.frame
theorem withFab {x} (h : Keeps s t) : Keeps s { t with fab := x } := h.frame
theorem withTiers {x} (h : Keeps s t) : Keeps s { t with tiers := x } := h.frame
theorem withSvc {x} (h : Keeps s t) : Keeps s { t with svc := x } := h.frame
theorem withCrd {x} (h : Keeps s t) : Keeps s { t with crd := x } := h.frame
theorem withPower {x} (h : Keeps s t) : Keeps s { t with power := x } := h.frame
theorem withTap {x} (h : Keeps s t) : Keeps s { t with tap := x } := h.frame
theorem withPfc {x} (h : Keeps s t) : Keeps s { t with pfc := x } := h.frame
theorem withHeld {x} (h : Keeps s t) : Keeps s { t with held := x } := h.frame
theorem withPosts {x} (h : Keeps s t) : Keeps s { t with posts := x } := h.frame
theorem withWaiting {x} (h : Keeps s t) : Keeps s { t with waiting := x } := h.frame
theorem withStalled {x} (h : Keeps s t) : Keeps s { t with stalled := x } := h.frame
theorem withPlat {x} (h : Keeps s t) : Keeps s { t with plat := x } := h.frame
theorem withCoreExc {x} (h : Keeps s t) : Keeps s { t with coreExc := x } := h.frame
theorem withResp {x} (h : Keeps s t) : Keeps s { t with resp := x } := h.frame
theorem withFreeCount {x} (h : Keeps s t) : Keeps s { t with freeCount := x } := h.frame
theorem withPending {x} (h : Keeps s t) : Keeps s { t with pending := x } := h.frame

theorem modMgmt {f : Mgmt → Mgmt} (h : Keeps s t) (hf : ∀ m, (f m).test = m.test := by exact fun _ => rfl) : Keeps s (t.modMgmt f) :=
  h.frame (by rw [State.core, State.core, State.modMgmt, hf])

/-! ### Memory -/

theorem memWrite {a : Nat} {l : List Byte} {p : Bool} (h : Keeps s t) : Keeps s (t.memWrite a l p) :=
  h.ofMemory (t.memWrite_memWf a l p)

theorem spWrite {n a : Nat} {l : List Byte} {p : Bool} (h : Keeps s t) : Keeps s (t.spWrite n a l p) := h.memWrite

/-- A poison mark more or less. -/
theorem putPoison {a v : Nat} (h : Keeps s t) : Keeps s { t with poison := tput 0 t.poison a v } :=
  h.ofMemory fun g => ⟨g.1, twf_tput _ _ g.2⟩

end Keeps

/-! ### Outcomes -/

theorem Keeps.after {s t : State} {o : Host.Outcome State Fault Refusal} (h : Keeps s t) (ho : KeepsNext s o) : Keeps s (t.after o) := by
  unfold State.after
  split
  · exact ho _ rfl
  · exact h

theorem KeepsNext.next {s t : State} (h : Keeps s t) : KeepsNext s (.next t) := fun _ e => Host.Outcome.next.inj e ▸ h

/-! ### Computations that read -/

/-- Where a computation that reads is done, it keeps what s has. -/
def RdOut.Keeps {α : Type} (s : State) : RdOut α → Prop
  | .done _ _ u => Machine.Keeps s u
  | .need _ _ => True

theorem RdOut.Keeps.ite {α : Type} {s : State} {c : Prop} [Decidable c] {a b : RdOut α} (ha : a.Keeps s) (hb : b.Keeps s) :
    RdOut.Keeps s (if c then a else b) := by
  split
  · exact ha
  · exact hb

/-- A computation that reads keeps what any state has. -/
def ReadKeeps {α : Type} (f : Rd α) : Prop := ∀ s l t, Keeps s t → (f l t).Keeps s

namespace ReadKeeps
variable {α β : Type} {s t : State}

theorem pure {a : α} : ReadKeeps (rdPure a) := fun _ _ _ h => h

theorem get {f : State → α} : ReadKeeps (rdGet f) := fun _ _ _ h => h

theorem mod {f : State → State} (hf : ∀ s t, Keeps s t → Keeps s (f t)) : ReadKeeps (rdMod f) := fun _ _ _ h => hf _ _ h

theorem bind {x : Rd α} {f : α → Rd β} (hx : ReadKeeps x) (hf : ∀ a, ReadKeeps (f a)) : ReadKeeps (rdBind x f) := by
  intro s l t h
  have hdone := hx s l t h
  unfold rdBind
  split
  next hout =>
    rw [hout] at hdone
    exact hf _ _ _ _ hdone
  next => trivial

theorem ite {c : Prop} [Decidable c] {f g : Rd α} (hf : ReadKeeps f) (hg : ReadKeeps g) : ReadKeeps (if c then f else g) := by
  split
  · exact hf
  · exact hg

theorem each {f : α → Rd Unit} {l : List α} (hf : ∀ a, ReadKeeps (f a)) : ReadKeeps (rdEach f l) := by
  induction l with
  | nil => exact pure
  | cons a l ih => exact bind (hf a) fun _ => ih

end ReadKeeps

/-- Bytes and marks that a filter takes out of memory. -/
theorem Keeps.filterMem {p : Host.Cell → Bool} {q : Nat × Nat → Bool} (h : Keeps s t) :
    Keeps s { t with mem := t.mem.filter p, poison := t.poison.filter q } :=
  h.ofMemory fun g => ⟨twf_filter p g.1, twf_filter q g.2⟩

/-- A unit that a command may name names one loom at most. -/
theorem lt_of_unitOk {kinds : List (Nat × Nat)} {u : Nat} (h : unitOk kinds u = true) (hk : ∀ k ∈ kinds, k.2 ≤ 144) : u < 256 * 144 := by
  simp only [unitOk, Bool.and_eq_true, List.any_eq_true, decide_eq_true_eq] at h
  obtain ⟨_, k, hmem, _, hu⟩ := h
  have := hk k hmem
  omega

end Sys2Proof.Machine
end

section
/-! PROOF. The credits of the looms and their sum (R36 to R39). -/
namespace Sys2Proof.Machine
set_option Elab.async false
variable {s t u : State}

/-- The credits that the looms hold, together. -/
def State.creditsHeld (s : State) : Nat := ((List.range 144).map fun n => s.get (LDG_CREDIT_HELD n)).sum

theorem outstanding_eq_creditsHeld (h : LedgerBalanced s) : s.get LDG_STATUS_OUTSTANDING = s.creditsHeld := h.1

theorem LDG_CREDIT_HELD_key_ne {n m : Nat} (h : n ≠ m) : (LDG_CREDIT_HELD n).key ≠ (LDG_CREDIT_HELD m).key := by
  simp only [LDG_CREDIT_HELD]
  omega

theorem LDG_CREDIT_HELD_key_ne_outstanding (n : Nat) : (LDG_CREDIT_HELD n).key ≠ LDG_STATUS_OUTSTANDING.key := by
  simp only [LDG_CREDIT_HELD, LDG_STATUS_OUTSTANDING]
  omega

theorem creditsHeld_split (s : State) {n : Nat} (hn : n < 144) :
    s.get (LDG_CREDIT_HELD n) + (((List.range 144).erase n).map fun m => s.get (LDG_CREDIT_HELD m)).sum = s.creditsHeld :=
  List.sum_map_erase (fun m => s.get (LDG_CREDIT_HELD m)) (List.mem_range.2 hn)

/-- Where one loom's credits change, the looms together hold what the others held and what that loom holds now. -/
theorem creditsHeld_change {n : Nat} (hn : n < 144) (h : ∀ m, m ≠ n → t.get (LDG_CREDIT_HELD m) = s.get (LDG_CREDIT_HELD m)) :
    t.creditsHeld + s.get (LDG_CREDIT_HELD n) = s.creditsHeld + t.get (LDG_CREDIT_HELD n) := by
  have hothers : ((List.range 144).erase n).map (fun m => t.get (LDG_CREDIT_HELD m)) = ((List.range 144).erase n).map fun m => s.get
      (LDG_CREDIT_HELD m) :=
    List.map_congr_left fun m hm => h m (List.Nodup.mem_erase_iff List.nodup_range |>.1 hm).1
  have hs := creditsHeld_split s hn
  have ht := creditsHeld_split t hn
  rw [hothers] at ht
  omega

theorem creditsHeld_ge (s : State) {n : Nat} (hn : n < 144) : s.get (LDG_CREDIT_HELD n) ≤ s.creditsHeld := by
  have := creditsHeld_split s hn
  omega

/-- A loom's credits and the outstanding count fall by the same number. -/
theorem ledgerBalanced_return {n : Nat} (hn : n < 144) (h : LedgerBalanced s) :
    LedgerBalanced ((s.set LDG_STATUS_OUTSTANDING (s.get LDG_STATUS_OUTSTANDING - s.get (LDG_CREDIT_HELD n))).set (LDG_CREDIT_HELD n) 0) := by
  have hchange := creditsHeld_change (s := s)
    (t := (s.set LDG_STATUS_OUTSTANDING (s.get LDG_STATUS_OUTSTANDING - s.get (LDG_CREDIT_HELD n))).set (LDG_CREDIT_HELD n) 0) hn fun m hm => by
      rw [State.get_set_ne _ _ (LDG_CREDIT_HELD_key_ne hm), State.get_set_ne _ _ (LDG_CREDIT_HELD_key_ne_outstanding m)]
  have hle := creditsHeld_ge s hn
  have hout := outstanding_eq_creditsHeld h
  have hbound : s.get LDG_STATUS_OUTSTANDING < 2 ^ LDG_STATUS_OUTSTANDING.width := Nat.mod_lt _ (by decide)
  refine ⟨?_, h.2⟩
  rw [State.get_set_same] at hchange
  change _ = State.creditsHeld _
  rw [State.get_set_ne _ _ (LDG_CREDIT_HELD_key_ne_outstanding n).symm, State.get_set_same, Nat.mod_eq_of_lt (Nat.lt_of_le_of_lt (Nat.sub_le _ _)
      hbound)]
  simp only [Nat.zero_mod, Nat.add_zero] at hchange
  omega

/-- A loom's credits and the outstanding count rise by the same number, which their widths hold. -/
theorem ledgerBalanced_take {n k : Nat} (hn : n < 144) (hk : s.get LDG_STATUS_OUTSTANDING + k < 2 ^ 13) (h : LedgerBalanced s) :
    LedgerBalanced ((s.add (LDG_CREDIT_HELD n) k).add LDG_STATUS_OUTSTANDING k) := by
  have hout := outstanding_eq_creditsHeld h
  have hle := creditsHeld_ge s hn
  have hheld : ((s.add (LDG_CREDIT_HELD n) k).add LDG_STATUS_OUTSTANDING k).get (LDG_CREDIT_HELD n) = s.get (LDG_CREDIT_HELD n) + k := by
    rw [State.add, State.get_set_ne _ _ (LDG_CREDIT_HELD_key_ne_outstanding n), State.add, State.get_set_same]
    exact Nat.mod_eq_of_lt (show _ < 2 ^ 13 by omega)
  have hsum : ((s.add (LDG_CREDIT_HELD n) k).add LDG_STATUS_OUTSTANDING k).get LDG_STATUS_OUTSTANDING = s.get LDG_STATUS_OUTSTANDING + k := by
    rw [State.add, State.get_set_same, State.add, State.get_set_ne _ _ (LDG_CREDIT_HELD_key_ne_outstanding n).symm]
    exact Nat.mod_eq_of_lt hk
  have hchange := creditsHeld_change (s := s) (t := (s.add (LDG_CREDIT_HELD n) k).add LDG_STATUS_OUTSTANDING k) hn fun m hm => by
    rw [State.add, State.get_set_ne _ _ (LDG_CREDIT_HELD_key_ne_outstanding m), State.add, State.get_set_ne _ _ (LDG_CREDIT_HELD_key_ne hm)]
  refine ⟨?_, h.2⟩
  change _ = State.creditsHeld _
  omega

end Sys2Proof.Machine
end

section
/-! PROOF. What a reset drops of the registers, the Ledger with them. -/
namespace Sys2Proof.Machine
set_option Elab.async false
variable {s t u : State}

/-- A bit address among the registers from LDG_STATUS to the last entry of LDG_CREDIT. -/
def InLedger (k : Nat) : Prop := 0x210010 ≤ k / 8 ∧ k / 8 < 0x210440

theorem inLedger_outstanding : InLedger LDG_STATUS_OUTSTANDING.key := ⟨by decide, by decide⟩

theorem inLedger_held {n : Nat} (hn : n < 144) : InLedger (LDG_CREDIT_HELD n).key := by
  simp only [InLedger, LDG_CREDIT_HELD]
  omega

/-- With no credits held and no request waiting the Ledger balances. -/
theorem ledgerBalanced_cleared (hget : ∀ f : Fld, InLedger f.key → t.get f = f.reset % 2 ^ f.width) (hledger : t.ledger = [])
    (htest : ∀ x, t.mgmt.test = some x → x.unit < 256 * 144 ∧ ∀ n ∈ x.looms, n < 144) : LedgerBalanced t := by
  refine ⟨?_, fun r hr => absurd (hledger ▸ hr) List.not_mem_nil, htest⟩
  have hheld : ((List.range 144).map fun n => t.get (LDG_CREDIT_HELD n)) = (List.range 144).map fun _ => 0 :=
    List.map_congr_left fun n hn => hget _ (inLedger_held (List.mem_range.1 hn))
  rw [hget _ inLedger_outstanding, hheld]
  simp [LDG_STATUS_OUTSTANDING]

theorem keyIn_of_inLedger {k lo hi : Nat} (h : InLedger k) (hr : hi ≤ 0x210010 ∨ 0x210440 ≤ lo) : keyIn k lo hi = false := by
  obtain ⟨_, _⟩ := h
  simp only [keyIn, Bool.and_eq_false_iff, decide_eq_false_iff_not]
  omega

theorem beq_key_of_inLedger {k c : Nat} (h : InLedger k) (hr : c < 8 * 0x210010 ∨ 8 * 0x210440 ≤ c) : (k == c) = false := by
  obtain ⟨_, _⟩ := h
  simp only [beq_eq_false_iff_ne]
  omega

theorem fuseKey_of_inLedger {k : Nat} (h : InLedger k) : fuseKey k = false := by
  rw [fuseKey, keyIn_of_inLedger h (.inl (by decide)), keyIn_of_inLedger h (.inl (by decide))]
  rfl

theorem strapKey_of_inLedger {k : Nat} (h : InLedger k) : strapKey k = false := by
  rw [strapKey, beq_key_of_inLedger h (.inr (by decide)), beq_key_of_inLedger h (.inr (by decide))]
  rfl

theorem powerKey_of_inLedger {k : Nat} (h : InLedger k) : powerKey k = false := by
  rw [powerKey, keyIn_of_inLedger h (.inl (by decide)), keyIn_of_inLedger h (.inr (by decide))]
  rfl

theorem benchKey_of_inLedger {k : Nat} (h : InLedger k) : benchKey k = false := by
  simp only [benchKey, Bool.or_eq_false_iff, List.any_eq_false, Bool.not_eq_true]
  refine ⟨fun n _ => beq_key_of_inLedger h (.inr ?_), fun i _ => beq_key_of_inLedger h (.inr ?_)⟩
  · simp only [LOOM_STATUS_BENCHED]
    omega
  · simp only [HBM_STATUS_BENCHED]
    omega

theorem aonKey_of_inLedger {k : Nat} (h : InLedger k) : aonKey k = false := by
  rw [aonKey, keyIn_of_inLedger h (.inl (by decide)), fuseKey_of_inLedger h, strapKey_of_inLedger h, powerKey_of_inLedger h,
    benchKey_of_inLedger h, beq_key_of_inLedger h (.inr (by decide))]
  rfl

theorem stickyKey_of_inLedger {k : Nat} (h : InLedger k) : stickyKey k = false := by
  rw [stickyKey, beq_key_of_inLedger h (.inl (by decide)), beq_key_of_inLedger h (.inl (by decide)), beq_key_of_inLedger h (.inl (by decide))]
  rfl

theorem logKey_of_inLedger {k : Nat} (h : InLedger k) : logKey k = false := by
  rw [logKey, keyIn_of_inLedger h (.inl (by decide)), keyIn_of_inLedger h (.inl (by decide)), keyIn_of_inLedger h (.inl (by decide))]
  rfl

theorem warmKey_of_inLedger {cmd : Bool} {k : Nat} (h : InLedger k) : warmKey cmd k = false := by
  rw [warmKey, fuseKey_of_inLedger h, strapKey_of_inLedger h, stickyKey_of_inLedger h, logKey_of_inLedger h, powerKey_of_inLedger h,
    beq_key_of_inLedger h (.inr (by decide)), benchKey_of_inLedger h, keyIn_of_inLedger h (.inl (by decide)), keyIn_of_inLedger h (.inl (by decide)),
    beq_key_of_inLedger h (.inl (by decide)), beq_key_of_inLedger h (.inl (by decide)), keyIn_of_inLedger h (.inl (by decide)), Bool.and_false]
  rfl

end Sys2Proof.Machine
end

section
/-! PROOF. Bounds, and the fields that a number picks. -/
namespace Sys2Proof.Machine
set_option Elab.async false
variable {s t u : State}

/-- No test is under way any more. -/
theorem Keeps.noTest {f : Mgmt → Mgmt} (h : Keeps s t) (hf : ∀ m, (f m).test = none) : Keeps s (t.modMgmt f) :=
  h.trans ⟨id, fun ⟨hsum, hreq, _⟩ => ⟨hsum, hreq, fun _ hx => nomatch (hf _).symm.trans hx⟩⟩

theorem lt_of_mem_withDomain {d x : Nat} (hd : d < 164) (h : x ∈ withDomain d) : x < 164 := by
  unfold withDomain at h
  split at h
  · obtain ⟨k, hk, rfl⟩ := List.mem_map.1 h
    have := List.mem_range.1 hk
    omega
  · exact List.mem_singleton.1 h ▸ hd

/-- The domains that go with d take a state. -/
theorem Keeps.setDomain {x v : Nat} (h : Keeps s t) (hx : x < 164) : Keeps s (t.set (PWR_DOM_STATE x) v) := h.set (offLedger_before hx rfl)

theorem lt_of_mem_boltLooms {b n : Nat} (h : n ∈ s.boltLooms b) : n < 144 := List.mem_range.1 (List.mem_of_mem_filter h)

theorem windowField_offLedger (n set row : Nat) : (if set = 0 then ACC_WIN0_WIN n row else ACC_WIN1_WIN n row).offLedger = true := by
  split
  · exact offLedger_behind_entry rfl
  · exact offLedger_behind_entry rfl

theorem wbufValid_offLedger (n wb : Nat) : (if wb = 0 then ARR_STATUS_WBUF0_VALID n else ARR_STATUS_WBUF1_VALID n).offLedger = true := by
  split
  · exact offLedger_behind rfl
  · exact offLedger_behind rfl

theorem stackOf_lt (a : Nat) : stackOf a < 12 := Nat.mod_lt _ (by decide)

end Sys2Proof.Machine
end

section
/-! PROOF. The functions of Machine/Ops.lean keep the form of memory and the balance of the Ledger. -/
namespace Sys2Proof.Machine
set_option Elab.async false
variable {s t u : State}

theorem Keeps.takeFree (h : Keeps s t) :
    Keeps s (t.takeFree) := h.withFreeCount

theorem Keeps.setLm {n : Nat} {l : Loom} (h : Keeps s t) :
    Keeps s (t.setLm n l) := h.withLooms

theorem Keeps.modSeq {n : Nat} {f : Seq → Seq} (h : Keeps s t) :
    Keeps s (t.modSeq n f) := h.setLm

theorem Keeps.modArr {n : Nat} {f : Arr → Arr} (h : Keeps s t) :
    Keeps s (t.modArr n f) := h.setLm

theorem Keeps.modDma {n : Nat} {f : Dma → Dma} (h : Keeps s t) :
    Keeps s (t.modDma n f) := h.setLm

theorem Keeps.modAtt {n : Nat} {f : Att → Att} (h : Keeps s t) :
    Keeps s (t.modAtt n f) := h.setLm

theorem Keeps.modGrd {n : Nat} {f : Grd → Grd} (h : Keeps s t) :
    Keeps s (t.modGrd n f) := h.setLm

theorem Keeps.modBob {n : Nat} {f : Bob → Bob} (h : Keeps s t) :
    Keeps s (t.modBob n f) := h.setLm

theorem Keeps.modSht {n : Nat} {f : Sht → Sht} (h : Keeps s t) :
    Keeps s (t.modSht n f) := h.setLm

theorem Keeps.modPend {n : Nat} {f : List Pend → List Pend} (h : Keeps s t) :
    Keeps s (t.modPend n f) :=
  h.setLm

theorem Keeps.modSpd {n : Nat} {f : Spd → Spd} (h : Keeps s t) :
    Keeps s (t.modSpd n f) := h.setLm

theorem Keeps.modTiers {f : Tiers → Tiers} (h : Keeps s t) :
    Keeps s (t.modTiers f) := h.withTiers

theorem Keeps.modTierOp {e : Nat} {f : TierOp → TierOp} (h : Keeps s t) :
    Keeps s (t.modTierOp e f) :=
  h.modTiers

theorem Keeps.countPoison {n : Nat} {ranges : List (Nat × Nat)} (h : Keeps s t) :
    Keeps s (t.countPoison n ranges) :=
  h.add

theorem Keeps.report {r : ErrRec} (h : Keeps s t) :
    Keeps s (t.report r) :=
  .ite h.withErrs (.ite h.withErrDropped h.withErrs)

theorem Keeps.refuseStruct {src : Nat} {n : Nat} {a : Nat} {fabric : Bool} (h : Keeps s t) :
    Keeps s (t.refuseStruct src n a fabric) :=
  h.report

theorem Keeps.dataReads {n : Nat} {unit : Nat} {ranges : List (Nat × Nat)} (h : Keeps s t) :
    Keeps s (t.dataReads n unit ranges) :=
  h.countPoison.foldl (fun _ _ h => h.report)

theorem Keeps.answer {status : Nat} {data : List Byte} {poison : Bool} (h : Keeps s t) :
    Keeps s (t.answer status data poison) :=
  h.withResp

/-- A wake event writes the state of one of the domains, which lie before the Ledger. -/
theorem Keeps.wakeOne {d : Nat} (h : Keeps s t) (hd : d < 256 := by omega) : Keeps s (t.wakeOne d) := by
  unfold State.wakeOne
  split
  · exact h.set (offLedger_before hd rfl)
  · exact h.withPower
  · exact h

theorem Keeps.wakeDomain {d : Nat} (h : Keeps s t) (hd : d < 256 := by omega) : Keeps s (t.wakeDomain d) := by
  unfold State.wakeDomain
  refine .ite (h.foldlMem fun _ k hk h => ?_) h.wakeOne
  have hk' := List.mem_range.1 hk
  exact h.wakeOne

theorem lt_of_domainAt {x d : Nat} (h : domainAt x = some d) : d < 256 := by
  have hstack := stackOf_lt x
  unfold domainAt at h
  split_ifs at h
  all_goals
    simp only [Option.some.injEq, Bool.and_eq_true, decide_eq_true_eq] at *
    omega

theorem lt_of_mem_accDomains {a : Access} {d : Nat} (h : d ∈ accDomains a) : d < 256 := by
  obtain ⟨x, _, hx⟩ := List.mem_filterMap.1 h
  exact lt_of_domainAt hx

/-- An access wakes the domains that it needs. -/
theorem Keeps.wakeDomains {a : Access} (h : Keeps s t) : Keeps s ((accDomains a).foldl State.wakeDomain t) :=
  h.foldlMem fun _ _ hd h => h.wakeDomain (lt_of_mem_accDomains hd)

end Sys2Proof.Machine
end

section
/-! PROOF. The functions of Machine/Sequencer.lean keep the form of memory and the balance of the Ledger. -/
namespace Sys2Proof.Machine
set_option Elab.async false
variable {s t u : State}

theorem Keeps.ledgerShow (h : Keeps s t) :
    Keeps s (t.ledgerShow) := by
  unfold State.ledgerShow
  dsimp only
  split
  · exact h.set.set.set.set
  · exact h.set.set.set.set

theorem Keeps.takeCredits {n k : Nat} (h : Keeps s t) (hn : LedgerBalanced s → n < 144)
    (hk : LedgerBalanced s → t.get LDG_STATUS_OUTSTANDING + k < 2 ^ 13) : Keeps s (t.takeCredits n k) :=
  .ledgerShow ⟨h.memory, fun hb => ledgerBalanced_take (hn hb) (hk hb) (h.ledger hb)⟩

theorem Keeps.returnCredits {n : Nat} (h : Keeps s t) (hn : LedgerBalanced s → n < 144 := by exact fun _ => by omega) : Keeps s (t.returnCredits n) :=
  .ledgerShow ⟨h.memory, fun hb => ledgerBalanced_return (hn hb) (h.ledger hb)⟩

theorem Keeps.closeTile {n : Nat} (h : Keeps s t) (hn : n < 144 := by omega) :
    Keeps s (t.closeTile n) :=
  h.returnCredits.modSeq

theorem Keeps.settle {n : Nat} (h : Keeps s t) (hn : n < 144 := by omega) :
    Keeps s (t.settle n) :=
  .ite h.closeTile h

theorem Keeps.draftFault {n : Nat} {pc : Nat} {unit : Nat} {cause : Nat} (h : Keeps s t) (hn : n < 144 := by omega) :
    Keeps s (t.draftFault n pc unit cause) :=
  .settle (.set (.set (.set (.set (.set (h.modSeq.report.foldl (fun _ _ h => h.set)))))))

theorem Keeps.wordFault {n : Nat} {unit : Nat} {cause : Nat} (h : Keeps s t) (hn : n < 144 := by omega) :
    Keeps s (t.wordFault n unit cause) :=
  h.draftFault

theorem Keeps.engineFault {n : Nat} {unit : Nat} {bit : Fld} (h : Keeps s t) (hn : n < 144 := by omega)
    (hbit : bit.offLedger = true := by first | rfl | exact offLedger_behind rfl | exact offLedger_behind_entry rfl) :
    Keeps s (t.engineFault n unit bit) := (h.set hbit).wordFault

theorem Keeps.showHold {n : Nat} (h : Keeps s t) :
    Keeps s (t.showHold n) := by
  unfold State.showHold
  split
  · exact h.set
  · exact h.add.add.set.set

theorem Keeps.addHolds {n : Nat} {l : List Hold} (h : Keeps s t) :
    Keeps s (t.addHolds n l) :=
  .ite h (.ite h.modSeq h.modSeq.showHold)

theorem Keeps.addSlip {n : Nat} {k : Nat} (h : Keeps s t) :
    Keeps s (t.addSlip n k) :=
  .ite h h.modSeq.add.set

theorem Keeps.tickLoom {n : Nat} {k : Nat} (h : Keeps s t) :
    Keeps s (t.tickLoom n k) := h.modSeq

theorem Keeps.eccLasting {n : Nat} {a : Nat} (h : Keeps s t) :
    Keeps s (t.eccLasting n a) := by
  unfold State.eccLasting
  dsimp only
  split
  · exact h.add.report.set.set
  · split
    · exact h.add.report.set.set.modSpd.addHold.set
    · exact h.add.report.set.set.modSpd.addHold

theorem Keeps.eccEvent {n : Nat} {e : SpadEv} (h : Keeps s t) : Keeps s (t.eccEvent n e) := by
  unfold State.eccEvent
  refine .ite h ?_
  dsimp only
  split
  · exact h.add.add
  · exact h.add.eccLasting
  · exact h.add
  · exact h.putPoison.modSpd.add.report.set.set

theorem Keeps.eccEvents {n : Nat} {l : List SpadEv} (h : Keeps s t) :
    Keeps s (t.eccEvents n l) :=
  h.foldl (fun _ _ h => h.eccEvent)

theorem Keeps.eccSeen {n : Nat} (h : Keeps s t) :
    Keeps s (t.eccSeen n) := h.modSpd

theorem Keeps.conflict {n : Nat} {l : List PortAccess} (h : Keeps s t) :
    Keeps s (t.conflict n l) := by
  unfold State.conflict
  split
  · exact h
  · exact .set (.set (.set (.set (.ite h.add h.add.modSeq.report))))

theorem Keeps.landFirst {n : Nat} {l : List PortAccess} {a : PortAccess} (h : Keeps s t) :
    Keeps s (t.landFirst n l a) :=
  h.foldl (fun _ _ h => .ite h.spWrite h)

theorem Keeps.landTogether {n : Nat} {l : List PortAccess} (h : Keeps s t) :
    Keeps s (t.landTogether n l) :=
  h.foldl (fun _ _ h => h.landFirst)

theorem Keeps.withEvents {n : Nat} {ev : CycleEvs} {f : State → State} (h : Keeps s t) (hk : ∀ x0, Keeps s x0 → Keeps s (f x0)) :
    Keeps s (t.withEvents n ev f) := by
  unfold State.withEvents
  dsimp only
  split
  · exact hk _ h
  · split
    · exact .eccSeen (hk _ h.eccEvents)
    · exact .addHolds (.foldl (.eccSeen (hk _ h.eccEvents)) (fun _ _ h => h.landTogether.conflict))

theorem Keeps.spanUnit {n : Nat} {u' : Nat} (h : Keeps s t) :
    Keeps s (t.spanUnit n u') := h.modGrd

theorem Keeps.advance {n : Nat} {w : DWord} (h : Keeps s t) :
    Keeps s (t.advance n w) :=
  h.spanUnit.modSeq.set

theorem Keeps.busyBit {n : Nat} {unit : Nat} {op : Nat} {cause : Nat} (h : Keeps s t) :
    Keeps s (t.busyBit n unit op cause) :=
  .ite h (.ite h.set (.ite h.set h))

theorem Keeps.issue {n : Nat} {unit : Nat} {op : Nat} {k : DWord → State} (h : Keeps s t) (hk : ∀ x0, Keeps s (k x0)) (hn : n < 144 := by omega) :
    Keeps s (t.issue n unit op k) := by
  unfold State.issue
  split
  · exact h
  · exact h.busyBit.draftFault
  · exact hk _

theorem Keeps.beginPause {n : Nat} {k : PauseKind} {budget : Nat} {slack : Nat} (h : Keeps s t) :
    Keeps s (t.beginPause n k budget slack) :=
  h.modSeq

theorem Keeps.endPause {n : Nat} {k : Nat} (h : Keeps s t) :
    Keeps s (t.endPause n k) := h.modSeq

theorem Keeps.stopSeq {n : Nat} (h : Keeps s t) :
    Keeps s (t.stopSeq n) := h.modSeq.set

end Sys2Proof.Machine
end

section
/-! PROOF. The functions of Machine/Flags.lean keep the form of memory and the balance of the Ledger. -/
namespace Sys2Proof.Machine
set_option Elab.async false
variable {s t u : State}

theorem Keeps.guardAdd {n : Nat} {span : Bool} {c : Counts} (h : Keeps s t) :
    Keeps s (t.guardAdd n span c) :=
  .ite h.addHold.addHold.addHold.addHold.addHold.addHold h.add.add

theorem Keeps.guardCount {n : Nat} {c : Counts} (h : Keeps s t) :
    Keeps s (t.guardCount n c) := h.guardAdd

theorem Keeps.guardZero {n : Nat} (h : Keeps s t) :
    Keeps s (t.guardZero n) :=
  h.clear.clear.clear.clear.clear.clear

theorem Keeps.setSat {n set row : Nat} (h : Keeps s t) : Keeps s (t.setSat n set row) := by
  refine h.setMapBit ?_
  split
  · exact offLedger_behind_entry rfl
  · exact offLedger_behind_entry rfl

theorem Keeps.clearSat {n set row : Nat} (h : Keeps s t) : Keeps s (t.clearSat n set row) := by
  refine .ite (h.set ?_) h
  split
  · exact offLedger_behind_entry rfl
  · exact offLedger_behind_entry rfl

end Sys2Proof.Machine
end

section
/-! PROOF. The functions of Machine/Array.lean keep the form of memory and the balance of the Ledger. -/
namespace Sys2Proof.Machine
set_option Elab.async false
variable {s t u : State}

theorem Keeps.putRow {n : Nat} {set : Nat} {row : Nat} {r : List Int} (h : Keeps s t) :
    Keeps s (t.putRow n set row r) :=
  h.modArr

theorem Keeps.markRow {n : Nat} {set : Nat} {row : Nat} {p : Bool} (h : Keeps s t) :
    Keeps s (t.markRow n set row p) :=
  h.modArr

theorem Keeps.noteKind {n : Nat} {set : Nat} {row : Nat} {k : Nat} (h : Keeps s t) :
    Keeps s (t.noteKind n set row k) :=
  h.modArr

theorem Keeps.outlierRefused {n : Nat} {o : ArrOp} (h : Keeps s t) :
    Keeps s (t.outlierRefused n o) := by
  unfold State.outlierRefused
  split
  · exact h
  · exact h.foldl (fun _ _ h => h.foldl (fun _ _ h1 => .ite h1 h1.refuseStruct))

theorem Keeps.startTile {n : Nat} {k : Nat} (h : Keeps s t) :
    Keeps s (t.startTile n k) := by
  unfold State.startTile
  dsimp only
  split
  · split
    · split
      · refine .set ?_
        refine .set ?_
        refine .set ?_
        refine .set ?_
        refine .set ?_
        split
        · exact h.endPause.modSeq.modSpd.countPoison.eccSeen.outlierRefused.modArr
        · exact h.endPause.modSeq.modSpd.countPoison.eccSeen.outlierRefused.modArr.set
      · exact h.endPause.modSeq
    · exact h.endPause.modSeq
  · exact h.endPause.modSeq

theorem mem_joinLedger {r x : LdgReq} {l : List LdgReq} (h : x ∈ joinLedger r l) : x = r ∨ x ∈ l := by
  induction l with
  | nil => exact .inl (List.mem_singleton.1 h)
  | cons y l ih =>
    rw [joinLedger] at h
    split at h
    · exact List.mem_cons.1 h
    · rcases List.mem_cons.1 h with rfl | h
      · exact .inr List.mem_cons_self
      · exact (ih h).imp_right (List.mem_cons_of_mem y)

/-- The requests that wait change to others of looms that exist. -/
theorem Keeps.setLedger {l : List LdgReq} (h : Keeps s t) (hl : LedgerBalanced s → ∀ r ∈ l, r.loom < 144) : Keeps s { t with ledger := l } :=
  ⟨h.memory, fun hb => ⟨(h.ledger hb).1, hl hb, (h.ledger hb).2.2⟩⟩

theorem Keeps.requestTile {n : Nat} {w : DWord} (h : Keeps s t) (h1 : Keeps s u) (hn : n < 144 := by omega) : Keeps s (t.requestTile u n w) := by
  unfold State.requestTile
  extract_lets c v x
  have hv : Keeps s v := h1.modSeq
  have hx : Keeps s x := hv.beginPause
  refine .ite h.engineFault (.ite hv.startTile (.ledgerShow (hx.setLedger fun hb r hr => ?_)))
  rcases mem_joinLedger hr with rfl | hr
  · exact hn
  · exact (hx.ledger hb).2.1 r hr

theorem Keeps.arrayIssue {n reduce : Nat} (h : Keeps s t) (hn : n < 144 := by omega) : Keeps s (t.arrayIssue n reduce) := by
  refine h.issue fun w => .ite h.wordFault (.ite h (.ite ?_ (.ite h.wordFault ?_)))
  · extract_lets u v x y
    have hu : Keeps s u := .ite h.set h
    have hv : Keeps s v := .ite hu.set hu
    have hx : Keeps s x := .ite hv.set hv
    have hy : Keeps s y := .ite hx.set hx
    exact hy.wordFault
  · exact h.requestTile (.ite h.advance.modArr.modSeq h.advance.modArr)

theorem Keeps.landItem {n : Nat} {o : ArrOp} {it : ArrItem} (h : Keeps s t) : Keeps s (t.landItem n o it) := by
  unfold State.landItem
  extract_lets b row set start poison u counted held cleared placed marked landed sat nan guarded done
  have hcounted : Keeps s counted := .ite h.countPoison h
  have hcleared : Keeps s cleared := .ite hcounted.clearSat.markRow hcounted
  have hplaced : Keeps s placed := hcleared.putRow.noteKind
  have hmarked : Keeps s marked := .ite hplaced.markRow hplaced
  have hlanded : Keeps s landed := .ite hcounted.spWrite (.ite hmarked hmarked.setSat)
  have hsat : Keeps s sat := .ite hlanded hlanded.set
  have hnan : Keeps s nan := .ite hsat.set hsat
  have hguarded : Keeps s guarded := .ite hnan hnan.guardAdd
  have hdone : Keeps s done := by
    unfold done
    split
    · exact .ite hguarded.add hguarded
    · exact hguarded.add
  exact hdone.addHold.addHold.add

theorem Keeps.arrShow {n : Nat} (h : Keeps s t) :
    Keeps s (t.arrShow n) :=
  .ite h.set.set.set h.set.set.set.set

theorem KeepsNext.execArrayResultLand {n : LoomNo} (h : Keeps s t) :
    KeepsNext s (execArrayResultLand n t) := by
  unfold Machine.execArrayResultLand
  refine .next ?_
  split
  · exact h
  · split
    · exact h
    · split
      · exact h
      · exact .settle (.arrShow (.ite h.landItem.modArr.add h.landItem.modArr))

theorem KeepsNext.execArraySum {n : LoomNo} {evs : CycleEvs} (h : Keeps s t) :
    KeepsNext s (execArraySum n evs t) :=
  .next (h.withEvents (fun _ h1 => h1.arrayIssue))

theorem KeepsNext.execArrayMax {n : LoomNo} {evs : CycleEvs} (h : Keeps s t) :
    KeepsNext s (execArrayMax n t evs) :=
  .next (h.withEvents (fun _ h1 => h1.arrayIssue))

theorem KeepsNext.execArrayMin {n : LoomNo} {evs : CycleEvs} (h : Keeps s t) :
    KeepsNext s (execArrayMin n t evs) :=
  .next (h.withEvents (fun _ h1 => h1.arrayIssue))

theorem Keeps.fallBarrier {n : Nat} (h : Keeps s t) (hn : n < 144 := by omega) :
    Keeps s (t.fallBarrier n) :=
  h.modArr.closeTile

theorem KeepsNext.execTileBarrier {n : LoomNo} (h : Keeps s t) :
    KeepsNext s (execTileBarrier n t) := by
  unfold Machine.execTileBarrier
  refine .next ?_
  split
  · exact h
  · split
    · exact h
    · exact .ite h (.ite h.fallBarrier h.modSeq.addSlip.addHolds)

theorem KeepsNext.execWinload {n : LoomNo} {evs : CycleEvs} (h : Keeps s t) : KeepsNext s (Machine.execWinload n t evs) :=
  .next (h.withEvents fun _ h => h.issue fun _ =>
    .ite h.wordFault (h.advance.countPoison.modSeq.foldl fun _ _ h => h.set (windowField_offLedger n _ _)))

theorem KeepsNext.execSwap {n : LoomNo} (h : Keeps s t) :
    KeepsNext s (execSwap n t) :=
  .next (h.issue (fun _ => .ite h.engineFault h.advance.set))

theorem Keeps.viewWrite {n : Nat} {off : Nat} {l : List Byte} (h : Keeps s t) :
    Keeps s (t.viewWrite n off l) :=
  .ite h (h.foldl (fun _ _ h => h.putRow))

theorem KeepsNext.execAccWinWrite {n : LoomNo} {set : Fin 2} {row : Fin 512} {value : Nat} (h : Keeps s t) :
    KeepsNext s (Machine.execAccWinWrite n set row value t) := .next (h.set (windowField_offLedger n set row))

theorem KeepsNext.execAccCntClr {n : LoomNo} (h : Keeps s t) :
    KeepsNext s (execAccCntClr n t) :=
  .next h.set.set

end Sys2Proof.Machine
end

section
/-! PROOF. The functions of Machine/Draft.lean keep the form of memory and the balance of the Ledger. -/
namespace Sys2Proof.Machine
set_option Elab.async false
variable {s t u : State}

theorem Keeps.startLoom {n : Nat} (h : Keeps s t) (hn : n < 144 := by omega) :
    Keeps s (t.startLoom n) :=
  .ite h.modSeq (.ite h.draftFault h.modSeq.set.set)

theorem KeepsNext.execRunStart {n : LoomNo} (h : Keeps s t) :
    KeepsNext s (execRunStart n t) :=
  .next (.ite h.wakeDomain.withHeld h.startLoom.set)

theorem KeepsNext.execRunStop {n : LoomNo} (h : Keeps s t) :
    KeepsNext s (execRunStop n t) :=
  .next h.modSeq.set

theorem KeepsNext.execLoomCntClr {n : LoomNo} (h : Keeps s t) : KeepsNext s (Machine.execLoomCntClr n t) := by
  refine .next (h.clearAll ?_)
  simp only [List.forall_mem_append, List.forall_mem_map]
  exact ⟨fun _ _ => offLedger_behind_entry rfl, fun _ _ => offLedger_behind_entry rfl⟩

theorem KeepsNext.execNop {n : LoomNo} (h : Keeps s t) :
    KeepsNext s (execNop n t) :=
  .next (h.issue (fun _ => h.advance))

theorem KeepsNext.execStep {n : LoomNo} (h : Keeps s t) :
    KeepsNext s (execStep n t) :=
  .next (h.issue (fun _ => h.advance.modSeq))

theorem stepFields_offLedger (n : Nat) : ∀ f ∈ stepFields n, f.offLedger = true := by
  simp only [stepFields, List.forall_mem_append, List.forall_mem_cons, List.forall_mem_map]
  and_intros
  all_goals first | exact offLedger_behind rfl | exact List.forall_mem_nil _ | exact fun _ _ => offLedger_behind_entry rfl

theorem KeepsNext.execStepLaunch {n : LoomNo} (h : Keeps s t) : KeepsNext s (Machine.execStepLaunch n t) := by
  refine .next ?_
  split
  · exact h
  · exact .ite h (.set (.set (.clearAll h.modSeq.modSht (stepFields_offLedger n))))

theorem KeepsNext.execEndStep {n : LoomNo} (h : Keeps s t) :
    KeepsNext s (execEndStep n t) :=
  .next (h.issue (fun _ => .ite h.stopSeq h.advance.beginPause))

theorem Keeps.modHalf {n : Nat} {q : Nat} {step : Nat} {f : QHalf → QHalf} (h : Keeps s t) :
    Keeps s (t.modHalf n q step f) :=
  h.modSht

theorem Keeps.resetHalves {n : Nat} {step : Nat} (h : Keeps s t) :
    Keeps s (t.resetHalves n step) := h.modSht

theorem KeepsNext.execEndReport {n : LoomNo} {cycles : Nat} (h : Keeps s t) :
    KeepsNext s (execEndReport n cycles t) := by
  unfold Machine.execEndReport
  refine .next ?_
  split
  · split
    · exact h
    · exact .set (.set (.ite h.endPause.modSeq.resetHalves.set h.endPause.modSeq.resetHalves))
  · exact h

theorem KeepsNext.execLoop {n : LoomNo} (h : Keeps s t) :
    KeepsNext s (execLoop n t) :=
  .next (h.issue (fun _ => .ite h.wordFault h.advance.modSeq))

theorem KeepsNext.execEndloop {n : LoomNo} (h : Keeps s t) :
    KeepsNext s (execEndloop n t) := by
  unfold Machine.execEndloop
  refine .next ?_
  refine .issue h (fun _ => ?_)
  split
  · exact h.wordFault
  · exact h.advance.modSeq

theorem KeepsNext.execSkipz {n : LoomNo} (h : Keeps s t) :
    KeepsNext s (execSkipz n t) :=
  .next (h.issue (fun _ => .ite h.wordFault (.ite h.advance.modSeq h.advance)))

theorem Keeps.xferFault {n : Nat} {unit : Nat} (h : Keeps s t) (hn : n < 144 := by omega) :
    Keeps s (t.xferFault n unit) :=
  h.engineFault

theorem KeepsNext.execWaitTally {n : LoomNo} (h : Keeps s t) :
    KeepsNext s (execWaitTally n t) :=
  .next (h.issue (fun _ => .ite h (.ite h.xferFault (.ite h.stopSeq h.advance.beginPause))))

theorem KeepsNext.execWaitWrites {n : LoomNo} (h : Keeps s t) :
    KeepsNext s (execWaitWrites n t) :=
  .next (h.issue (fun _ => .ite h (.ite h.stopSeq h.advance.beginPause)))

theorem KeepsNext.execTile {n : LoomNo} (h : Keeps s t) :
    KeepsNext s (execTile n t) :=
  .next (h.issue (fun _ => h.requestTile h.advance))

theorem KeepsNext.execRepay {n : LoomNo} (h : Keeps s t) :
    KeepsNext s (execRepay n t) :=
  .next (h.issue (fun _ => h.advance.modSeq))

theorem KeepsNext.execPeerFaultStop {n : LoomNo} (h : Keeps s t) :
    KeepsNext s (execPeerFaultStop n t) :=
  .next (.ite h (.set (.ite h.stopSeq.modSeq.set h)))

theorem Keeps.resumePause {n : Nat} {p : Pause} {k : Nat} (h : Keeps s t) :
    Keeps s (t.resumePause n p k) := by
  unfold State.resumePause
  split
  · exact h.endPause.modSeq
  · exact h.startTile
  · exact h.endPause

theorem KeepsNext.execSlackExpire {n : LoomNo} {cycles : Nat} (h : Keeps s t) :
    KeepsNext s (execSlackExpire n t cycles) := by
  unfold Machine.execSlackExpire
  refine .next ?_
  split
  · exact h
  · exact .ite h h.modSeq.tickLoom.addHolds

theorem KeepsNext.execPauseBudgetExpire {n : LoomNo} {cycles : Nat} (h : Keeps s t) :
    KeepsNext s (execPauseBudgetExpire n cycles t) := by
  unfold Machine.execPauseBudgetExpire
  refine .next ?_
  split
  · exact h
  · exact .ite h h.tickLoom.resumePause

theorem KeepsNext.execHoldResume {n : LoomNo} {cycles : Nat} (h : Keeps s t) :
    KeepsNext s (execHoldResume n cycles t) := by
  unfold Machine.execHoldResume
  dsimp only
  refine .next ?_
  split
  · exact h.modSeq.showHold.set
  · split
    · exact h
    · split
      · exact h
      · refine .add ?_
        refine .add ?_
        refine .showHold ?_
        split
        · exact h.modSeq.resumePause
        · exact h.modSeq

theorem Keeps.grantTile {n : Nat} {waited : Nat} (h : Keeps s t) :
    Keeps s (t.grantTile n waited) := by
  unfold State.grantTile
  split
  · exact .ite h.modSeq h.tickLoom.startTile
  · exact h

theorem outlierRefused_get (s : State) (n : Nat) (o : ArrOp) (f : Fld) : (s.outlierRefused n o).get f = s.get f := by
  unfold State.outlierRefused
  split
  · rfl
  · refine List.foldlRecOn (motive := fun t : State => t.get f = s.get f) _ _ rfl fun t ht r _ => ?_
    refine List.foldlRecOn (motive := fun t : State => t.get f = s.get f) _ _ ht fun t ht g _ => ?_
    dsimp only
    split
    · exact ht
    · exact (State.report_get ..).trans ht

theorem get_outstanding_set {f : Fld} {v k : Nat} (h : s.get LDG_STATUS_OUTSTANDING = k) (hf : f.offLedger = true := by exact offLedger_behind rfl) :
    (s.set f v).get LDG_STATUS_OUTSTANDING = k :=
  (State.get_set_ne _ _ (Fld.offLedger.ne_outstanding hf)).trans h

theorem countPoison_get_outstanding (s : State) (n : Nat) (l : List (Nat × Nat)) :
    ((s.countPoison n l).eccSeen n).get LDG_STATUS_OUTSTANDING = s.get LDG_STATUS_OUTSTANDING :=
  get_outstanding_set (s := s) rfl

theorem startTile_get_outstanding (s : State) (n k : Nat) : (s.startTile n k).get LDG_STATUS_OUTSTANDING = s.get LDG_STATUS_OUTSTANDING := by
  unfold State.startTile
  extract_lets u
  have hu : u.get LDG_STATUS_OUTSTANDING = s.get LDG_STATUS_OUTSTANDING := rfl
  split
  · split
    · split
      · extract_lets o x y z
        have hy : y.get LDG_STATUS_OUTSTANDING = s.get LDG_STATUS_OUTSTANDING := ((outlierRefused_get ..).trans (countPoison_get_outstanding
            ..)).trans hu
        have hz : z.get LDG_STATUS_OUTSTANDING = s.get LDG_STATUS_OUTSTANDING := by
          unfold z
          split
          · exact hy
          · exact get_outstanding_set hy
        exact get_outstanding_set (get_outstanding_set (get_outstanding_set (get_outstanding_set (get_outstanding_set hz))))
      · exact hu
    · exact hu
  · exact hu

theorem grantTile_get_outstanding (s : State) (n waited : Nat) :
    (s.grantTile n waited).get LDG_STATUS_OUTSTANDING = s.get LDG_STATUS_OUTSTANDING := by
  unfold State.grantTile
  split
  · split
    · rfl
    · exact startTile_get_outstanding ..
  · rfl

/-- What the pool still gives fits the outstanding count's width. -/
theorem outstanding_add_lt {k : Nat} (h : k ≤ s.poolFree) : s.get LDG_STATUS_OUTSTANDING + k < 2 ^ 13 := by
  have hbudget : s.get LDG_BUDGET_BUDGET < 2 ^ 13 := Nat.mod_lt _ (by decide)
  have hout : s.get LDG_STATUS_OUTSTANDING < 2 ^ 13 := Nat.mod_lt _ (by decide)
  unfold State.poolFree at h
  omega

theorem KeepsNext.execLedgerGrant {waited : Nat} {cycles : Nat} (h : Keeps s t) : KeepsNext s (Machine.execLedgerGrant waited t cycles) := by
  have haged {l : List LdgReq} (hl : LedgerBalanced s → ∀ r ∈ l, r.loom < 144) : LedgerBalanced s → ∀ r ∈ aged l, r.loom < 144 := by
    intro hb r hr
    obtain ⟨x, hx, rfl⟩ := List.mem_map.1 hr
    exact hl hb x hx
  refine .next ?_
  split
  · exact h
  next r rest hledger =>
    have hreq : LedgerBalanced s → ∀ x ∈ r :: rest, x.loom < 144 := fun hb => hledger ▸ (h.ledger hb).2.1
    refine .iteOf (fun hk => ?_) fun _ => (h.setLedger (haged hreq)).add
    have hgrant := (h.setLedger (haged fun hb x hx => hreq hb x (List.mem_cons_of_mem r hx))).grantTile (n := r.loom) (waited := waited)
    exact (hgrant.takeCredits (fun hb => hreq hb r List.mem_cons_self) fun _ =>
      (grantTile_get_outstanding ..).symm ▸ outstanding_add_lt hk).add.add

theorem KeepsNext.execScrubLine {n : LoomNo} {bank : Fin 48} {evs : List SpadEv} (h : Keeps s t) :
    KeepsNext s (execScrubLine n bank evs t) :=
  .next (.ite h (.ite h.eccEvents.eccSeen.modSpd.add h.eccEvents.eccSeen.modSpd))

end Sys2Proof.Machine
end

section
/-! PROOF. The functions of Machine/Hbm.lean keep the form of memory and the balance of the Ledger. -/
namespace Sys2Proof.Machine
set_option Elab.async false
variable {s t u : State}

theorem Keeps.putDram {l : Nat} {data : List Byte} {mask : Nat} (h : Keeps s t) :
    Keeps s (t.putDram l data mask) := by
  refine h.ofMemory fun g => ⟨twf_putBytes _ _ _ g.1, ?_⟩
  have hwf (L : List Nat) (m : List (Nat × Nat)) (hm : twf 0 m) :
      twf 0 (L.foldl (fun m i => tput 0 m (l + 64 * i) (b2n (bitOf mask i))) m) := by
    induction L generalizing m with
    | nil => exact hm
    | cons i L ih => exact ih _ (twf_tput _ _ hm)
  exact hwf _ _ g.2

theorem Keeps.putSet {l : Nat} {ls : List CLine} (h : Keeps s t) :
    Keeps s (t.putSet l ls) := h.withCache

theorem Keeps.keptBy {st : Nat} {c : CLine} {up : Bool} (h : Keeps s t) :
    Keeps s (t.keptBy st c up) :=
  .ite h h.set

theorem Keeps.dropLine {c : CLine} {wb : Bool} (h : Keeps s t) :
    Keeps s (t.dropLine c wb) :=
  .ite h.putSet.keptBy.putDram.add h.putSet.keptBy

theorem Keeps.allocLine {l : Nat} {tenant : Nat} {dirty : Bool} {data : List Byte} {mask : Nat} (h : Keeps s t) :
    Keeps s (t.allocLine l tenant dirty data mask) := by
  unfold State.allocLine
  refine .keptBy ?_
  refine .putSet ?_
  split
  · exact .ite h h.add
  · split
    · exact .dropLine (.ite h h.add)
    · split
      · exact .dropLine (.ite h h.add)
      · exact .ite h h.add

theorem Keeps.cacheRead {l : Nat} {tenant : Nat} {hint : Nat} (h : Keeps s t) :
    Keeps s (t.cacheRead l tenant hint).2 := by
  unfold State.cacheRead
  split
  · exact .ite h.add.putSet (.ite (.ite h.add.dropLine.add h.add.dropLine) h.add)
  · exact .ite h.add.allocLine h.add

theorem Keeps.cacheWrite {l : Nat} {tenant : Nat} {hint : Nat} {data : List Byte} {mask : Nat} (h : Keeps s t) :
    Keeps s (t.cacheWrite l tenant hint data mask) := by
  unfold State.cacheWrite
  split
  · exact h.add.putSet
  · exact .ite h.add.allocLine h.add.putDram

theorem Keeps.wakeStack {a : Nat} (h : Keeps s t) : Keeps s (t.wakeStack a) := by
  have ha := stackOf_lt a
  exact .ite h.wakeDomain h

theorem Keeps.readPiece {req : Requester} {tenant : Nat} {raw : Bool} {a : Nat} {n : Nat} {fresh : List Nat} (h : Keeps s t) :
    Keeps s (t.readPiece req tenant raw a n fresh).2 := by
  unfold State.readPiece
  split
  · exact h.wakeStack.cacheRead.add
  · exact h

theorem Keeps.writePiece {req : Requester} {tenant : Nat} {raw : Bool} {a : Nat} {d : List Byte} {pois : List Bool} (h : Keeps s t) :
    Keeps s (t.writePiece req tenant raw a d pois).2 := by
  unfold State.writePiece
  split
  · exact h.wakeStack.cacheWrite
  · exact h

theorem Keeps.hbmRefused {req : Requester} {tenant : Nat} {a : Nat} {status : Nat} (h : Keeps s t) :
    Keeps s (t.hbmRefused req tenant a status) :=
  h.report

theorem Keeps.hbmScan {req : Requester} {tenant : Nat} {raw : Bool} {a : Nat} {n : Nat} {fresh : List Nat} (h : Keeps s t) :
    Keeps s (t.hbmScan req tenant raw a n fresh).2.2 :=
  h.wakeStack.foldlSndSnd fun _ _ h => h.readPiece

theorem Keeps.hbmRead {req : Requester} {tenant : Nat} {raw : Bool} {a : Nat} {n : Nat} {fresh : List Nat} (h : Keeps s t) :
    Keeps s (t.hbmRead req tenant raw a n fresh).2 := by
  unfold State.hbmRead
  dsimp only
  split
  · exact h.hbmScan.hbmRefused
  · exact h.hbmScan

theorem Keeps.hbmStore {req : Requester} {tenant : Nat} {raw : Bool} {a : Nat} {d : List Byte} {pois : List Bool} (h : Keeps s t) :
    Keeps s (t.hbmStore req tenant raw a d pois).2.2 :=
  h.wakeStack.foldlSndSnd fun _ _ h => h.writePiece

theorem Keeps.hbmWrite {req : Requester} {tenant : Nat} {raw : Bool} {a : Nat} {d : List Byte} {pois : List Bool} (h : Keeps s t) :
    Keeps s (t.hbmWrite req tenant raw a d pois).2 := by
  unfold State.hbmWrite
  dsimp only
  split
  · exact h.hbmStore.hbmRefused
  · exact h.hbmStore

theorem Keeps.hbmPut {req : Requester} {tenant : Nat} {raw : Bool} {a : Nat} {d : List Byte} {p : Bool} (h : Keeps s t) :
    Keeps s (t.hbmPut req tenant raw a d p).2 :=
  h.hbmWrite

theorem Keeps.refusedAt {req : Requester} {tenant : Nat} {a : Nat} {status : Nat} (h : Keeps s t) :
    Keeps s (t.refusedAt req tenant a status) :=
  h.report

theorem Keeps.hbmPosted {req : Requester} {tenant : Nat} {raw : Bool} {a : Nat} {d : List Byte} {pois : List Bool} (h : Keeps s t) :
    Keeps s (t.hbmPosted req tenant raw a d pois).2.2 := by
  unfold State.hbmPosted
  split
  · exact h.wakeDomain.withPosts
  · exact h.hbmStore

theorem Keeps.hbmPost {req : Requester} {tenant : Nat} {raw : Bool} {a : Nat} {d : List Byte} {pois : List Bool} (h : Keeps s t) :
    Keeps s (t.hbmPost req tenant raw a d pois).2 := by
  unfold State.hbmPost
  dsimp only
  split
  · exact h.hbmPosted.hbmRefused
  · exact h.hbmPosted

theorem Keeps.servePosts (h : Keeps s t) :
    Keeps s (t.servePosts) :=
  .ite h (h.withPosts.foldl (fun _ _ h => h.hbmWrite))

theorem Keeps.devRead {a : Nat} {n : Nat} (h : Keeps s t) :
    Keeps s (t.devRead a n).2 := by
  unfold State.devRead
  dsimp only
  split
  · split
    · exact h
    · exact h.hbmScan
  · refine .refusedAt ?_
    split
    · exact h
    · exact h.hbmScan

theorem Keeps.devFetch {a : Nat} {n : Nat} (h : Keeps s t) :
    Keeps s (t.devFetch a n).2 :=
  .ite h.devRead.withStalled h.devRead

theorem Keeps.orWait {c : Instr} {k : State → State} (h : Keeps s t) (hk : ∀ x0, Keeps s x0 → Keeps s (k x0)) :
    Keeps s (t.orWait c k) :=
  .ite h.wakeDomain.withWaiting (hk _ h)

theorem Keeps.devWrite {a : Nat} {d : List Byte} {p : Bool} (h : Keeps s t) :
    Keeps s (t.devWrite a d p) := by
  unfold State.devWrite
  dsimp only
  split
  · split
    · exact h
    · exact h.hbmPosted
  · refine .refusedAt ?_
    split
    · exact h
    · exact h.hbmPosted

theorem Keeps.hbmEcc {tenant : Nat} {merge : Bool} {e : HbmEv} (h : Keeps s t) : Keeps s (t.hbmEcc tenant merge e) := by
  unfold State.hbmEcc
  dsimp only
  split
  · exact .ite h.add h.add.add
  · exact .ite h.add h.add.add.report.set.set
  · exact h.add
  · exact h.putPoison.add.report.set.set

theorem Keeps.readPoison {req : Requester} {fetch : Bool} {a : Nat} {poison : Bool} (h : Keeps s t) :
    Keeps s (t.readPoison req fetch a poison) := by
  unfold State.readPoison
  split
  · exact .ite h.report h
  · exact h.withCoreExc
  · exact h

theorem KeepsNext.execHbmAccess {a : Access} {ecc : List HbmEv} (h : Keeps s t) : KeepsNext s (Machine.execHbmAccess a ecc t) := by
  refine .next (.ite h (.ite h.wakeStack.withHeld ?_))
  have hecc : Keeps s ((t.eccHits a ecc).foldl (fun s e => s.hbmEcc a.tenant e.2 e.1) t) := h.foldl fun _ _ h => h.hbmEcc
  exact .ite hecc.hbmPut.withResp hecc.hbmRead.readPoison.withResp

theorem KeepsNext.execCacheFlush {k : StackNo} (h : Keeps s t) :
    KeepsNext s (execCacheFlush k t) :=
  .next h.set

theorem Keeps.flushStack {k : Nat} (h : Keeps s t) :
    Keeps s (t.flushStack k) :=
  h.foldl (fun _ _ h => h.dropLine)

theorem KeepsNext.execCacheFlushDone {k : StackNo} (h : Keeps s t) :
    KeepsNext s (execCacheFlushDone k t) :=
  .next (.ite h.flushStack.set h)

theorem KeepsNext.execHbmLoopWrite {k : StackNo} {value : Nat} (h : Keeps s t) :
    KeepsNext s (execHbmLoopWrite k value t) :=
  .next (.ite h h.set)

theorem rgnFields_offLedger (i : Nat) : ∀ f ∈ rgnFields i, f.1.offLedger = true := by
  simp only [rgnFields, List.forall_mem_cons]
  and_intros
  all_goals first | exact offLedger_behind rfl | exact List.forall_mem_nil _

theorem Keeps.putRegion {i : Nat} {v : Nat} (h : Keeps s t) : Keeps s (t.putRegion i v) :=
  h.foldlMem fun _ f hf h => h.set (rgnFields_offLedger i f hf)

theorem Keeps.regionDone {i : Nat} {st : Nat} {tenant : Nat} (h : Keeps s t) :
    Keeps s (t.regionDone i st tenant) :=
  .ite h.set.set h.set.set.report

theorem Keeps.commitRegion {i : Nat} {v : Nat} (h : Keeps s t) :
    Keeps s (t.commitRegion i v) :=
  h.set.putRegion.add

theorem KeepsNext.execRegionWrite {idx : Fin 4096} (h : Keeps s t) :
    KeepsNext s (execRegionWrite idx t) :=
  .next (.regionDone (.ite h.commitRegion h))

theorem KeepsNext.execRegionClear {idx : Fin 4096} (h : Keeps s t) :
    KeepsNext s (execRegionClear idx t) :=
  .next (.regionDone (.ite h.commitRegion h))

theorem KeepsNext.execKeyLoad {slot : Fin 1024} (h : Keeps s t) : KeepsNext s (Machine.execKeyLoad slot t) := by
  refine .next (.ite h.set (.set (.setMapBit h.withKeys ?_)))
  exact offLedger_before (m := 32) (by omega) rfl

theorem Keeps.zeroKey {k : Nat} (h : Keeps s t) (hk : k < 1024 := by omega) : Keeps s (t.zeroKey k) := by
  have hw : Keeps s { t with keys := tput 0 t.keys k 0 } := h.withKeys
  exact hw.set (offLedger_before (m := 32) (by omega) rfl)

theorem KeepsNext.execKeyZero {slot : Fin 1024} (h : Keeps s t) :
    KeepsNext s (execKeyZero slot t) :=
  .next h.zeroKey.set

end Sys2Proof.Machine
end

section
/-! PROOF. The functions of Machine/Log.lean keep the form of memory and the balance of the Ledger. -/
namespace Sys2Proof.Machine
set_option Elab.async false
variable {s t u : State}

theorem Keeps.modSvc {f : Svc → Svc} (h : Keeps s t) :
    Keeps s (t.modSvc f) := h.withSvc

theorem Keeps.modPower {f : Power → Power} (h : Keeps s t) :
    Keeps s (t.modPower f) := h.withPower

theorem Keeps.flashWrite {a : Nat} {l : List Byte} (h : Keeps s t) :
    Keeps s (t.flashWrite a l) := h.modMgmt

theorem Keeps.flashErase {a : Nat} {n : Nat} (h : Keeps s t) :
    Keeps s (t.flashErase a n) := h.modMgmt

theorem Keeps.writeRec {f : StateRec → StateRec} (h : Keeps s t) :
    Keeps s (t.writeRec f) := by
  unfold State.writeRec
  exact .modMgmt (.flashWrite (.ite h.flashErase h))

theorem Keeps.readRec (h : Keeps s t) : Keeps s t.readRec := by
  unfold State.readRec
  refine h.modMgmt fun m => ?_
  split
  · rfl
  · rfl

theorem Keeps.toErq {sev : Nat} {l : List Byte} (h : Keeps s t) :
    Keeps s (t.toErq sev l) :=
  .ite h (.ite h.addHold h.devWrite.set)

theorem Keeps.logPut {sev : Nat} {src : Nat} {inst : Nat} {code : Nat} {data : List Byte} (h : Keeps s t) :
    Keeps s (t.logPut sev src inst code data) :=
  .toErq (.set (.modMgmt (.ite h h.modMgmt.addHold.set)))

theorem Keeps.logRec {sev : Nat} {src : Nat} {inst : Nat} {code : Nat} {data : List Byte} (h : Keeps s t) :
    Keeps s (t.logRec sev src inst code data) :=
  .ite h.modMgmt h.modMgmt.logPut

theorem Keeps.fatal {src : Nat} {inst : Nat} {code : Nat} (h : Keeps s t) :
    Keeps s (t.fatal src inst code) :=
  h.logRec

theorem Keeps.slvEvent {code : Nat} {sev : Nat} {data : List Nat} (h : Keeps s t) :
    Keeps s (t.slvEvent code sev data) :=
  h.logRec

theorem Keeps.deliver (h : Keeps s t) :
    Keeps s (t.deliver) := by
  unfold State.deliver
  split
  · exact h
  · exact h.withErrs.logRec

theorem Keeps.deliverN {k : Nat} (h : Keeps s t) : Keeps s (t.deliverN k) := by
  induction k generalizing t with
  | zero => exact h
  | succ k ih => exact ih h.deliver

theorem Keeps.deliverAll (h : Keeps s t) :
    Keeps s (t.deliverAll) := h.deliverN

theorem KeepsNext.execErrorRecordDeliver (h : Keeps s t) :
    KeepsNext s (execErrorRecordDeliver t) :=
  .next h.deliver

theorem Keeps.suppressed {src : Nat} {inst : Nat} {code : Nat} {count : Nat} (h : Keeps s t) :
    Keeps s (t.suppressed src inst code count) :=
  h.logPut

theorem KeepsNext.execLogSuppressWindow (h : Keeps s t) :
    KeepsNext s (execLogSuppressWindow t) :=
  .next (.foldl (h.withErrDropped.modMgmt.foldl (fun _ _ h => h.suppressed)) (fun _ _ h => h.suppressed))

theorem Keeps.persistOne (h : Keeps s t) :
    Keeps s (t.persistOne) :=
  .set (.modMgmt (.flashWrite (.ite h.flashErase h)))

theorem Keeps.persistN {k : Nat} (h : Keeps s t) : Keeps s (t.persistN k) := by
  induction k generalizing t with
  | zero => exact h
  | succ k ih => exact ih h.persistOne

theorem Keeps.persistAll (h : Keeps s t) :
    Keeps s (t.persistAll) :=
  .ite h (.persistN (.ite h h.modMgmt.logPut))

theorem KeepsNext.execLogPersist (h : Keeps s t) :
    KeepsNext s (execLogPersist t) := .next h.persistAll

theorem KeepsNext.execLogFlush (h : Keeps s t) :
    KeepsNext s (execLogFlush t) := .next h.persistAll

theorem Keeps.reloadLog (h : Keeps s t) :
    Keeps s (t.reloadLog) :=
  h.modMgmt.set.set.foldl (fun _ _ h => h.logPut)

end Sys2Proof.Machine
end

section
/-! PROOF. The functions of Machine/Fabric.lean keep the form of memory and the balance of the Ledger. -/
namespace Sys2Proof.Machine
set_option Elab.async false
variable {s t u : State}

theorem Keeps.modPort {p : Nat} {f : PortSt → PortSt} (h : Keeps s t) :
    Keeps s (t.modPort p f) := h.withFab

theorem Keeps.modFab {f : Fab → Fab} (h : Keeps s t) :
    Keeps s (t.modFab f) := h.withFab

theorem Keeps.wireOut {p : Nat} {ftype : Nat} {f : TxFlit} (h : Keeps s t) :
    Keeps s (t.wireOut p ftype f) := by
  unfold State.wireOut
  exact h.modPort

theorem Keeps.idleOut {p : Nat} (h : Keeps s t) :
    Keeps s (t.idleOut p) := .ite h.wireOut h

theorem Keeps.portRecord {p : Nat} {code : Nat} {cls : Nat} (h : Keeps s t) :
    Keeps s (t.portRecord p code cls) :=
  h.report

theorem Keeps.holdover (h : Keeps s t) :
    Keeps s (t.holdover) := h.set

theorem Keeps.dropQueued {p : Nat} (h : Keeps s t) :
    Keeps s (t.dropQueued p) := .ite h.modFab h

theorem Keeps.cutOff {q : Nat} {ovc : Nat} (h : Keeps s t) :
    Keeps s (t.cutOff q ovc) := h.modPort

theorem Keeps.cutAll {p : Nat} (h : Keeps s t) :
    Keeps s (t.cutAll p) := by
  unfold State.cutAll
  refine .foldl h (fun _ _ h => ?_)
  split
  · exact h.modPort.cutOff
  · exact h

theorem Keeps.dropLink {p : Nat} {k : Nat} (h : Keeps s t) :
    Keeps s (t.dropLink p k) :=
  h.dropQueued.cutAll.modPort.set.set.set.holdover

theorem Keeps.quarantine {p : Nat} {cause : Nat} (h : Keeps s t) :
    Keeps s (t.quarantine p cause) :=
  h.dropQueued.cutAll.modPort.set.set.holdover.set.portRecord

theorem Keeps.portDown {p : Nat} (h : Keeps s t) :
    Keeps s (t.portDown p) :=
  h.portRecord.dropLink.set.addHold

theorem Keeps.sendFlits {p : Nat} {l : List TxFlit} (h : Keeps s t) :
    Keeps s (t.sendFlits p l) :=
  .add (h.modPort.foldl (fun _ _ h => h.wireOut))

theorem Keeps.transmitPart {p : Nat} {vc : Nat} {n : Nat} {k : Packet} (h : Keeps s t) :
    Keeps s (t.transmitPart p vc n k) :=
  h.modPort.sendFlits

theorem Keeps.transmit {p : Nat} {vc : Nat} {k : Packet} (h : Keeps s t) :
    Keeps s (t.transmit p vc k) :=
  h.transmitPart

theorem Keeps.pumpN {p k : Nat} (h : Keeps s t) : Keeps s (t.pumpN p k) := by
  induction k generalizing t with
  | zero => exact h
  | succ k ih =>
    unfold State.pumpN
    split
    · exact h
    · exact .ite (ih h.transmit.modPort) h

theorem Keeps.pump {p : Nat} (h : Keeps s t) :
    Keeps s (t.pump p) := h.pumpN

theorem Keeps.sendOn {p : Nat} {k : Packet} (h : Keeps s t) :
    Keeps s (t.sendOn p k) := h.modPort.pump

theorem Keeps.linkMsg {p : Nat} {msgtype : Nat} {body : List Byte} (h : Keeps s t) :
    Keeps s (t.linkMsg p msgtype body) :=
  h.sendOn

theorem Keeps.malPacket {p : Nat} {r : Nat} (h : Keeps s t) :
    Keeps s (t.malPacket p r) :=
  .ite h.add (.ite h.add.modPort.quarantine h.add.modPort)

theorem Keeps.packetIn {p : Nat} {vc : Nat} {part : RxPart} {l : List Byte} (h : Keeps s t) :
    Keeps s (t.packetIn p vc part l) := by
  unfold State.packetIn
  dsimp only
  split
  · split
    · exact h.modFab.malPacket
    · exact .ite h.modFab.modFab h.modFab.modFab
  · split
    · exact .ite h.modFab.modFab h.modFab.add
    · split
      · exact h.modFab.malPacket
      · exact .ite h.modFab.modFab h.modFab

theorem Keeps.cutFlit {q : Nat} {ovc : Nat} {eop : Bool} {vlen : Nat} {data : List Byte} (h : Keeps s t) :
    Keeps s (t.cutFlit q ovc eop vlen data) :=
  .ite h (.ite h.modPort.sendFlits.cutOff h.modPort.sendFlits)

theorem Keeps.cutThrough {p : Nat} {vc : Nat} {q : Nat} {ovc : Nat} {part : RxPart} {eop : Bool} {vlen : Nat} {data : List Byte} (h : Keeps s t) :
    Keeps s (t.cutThrough p vc q ovc part eop vlen data) := by
  unfold State.cutThrough
  dsimp only
  split
  · exact h.cutFlit.modPort
  · split
    · exact h.cutFlit.modPort.malPacket
    · exact h.cutFlit.modPort

theorem Keeps.dataFlit {p : Nat} {vc : Nat} {sop : Bool} {eop : Bool} {vlen : Nat} {data : List Byte} {rty : Nat} (h : Keeps s t) :
    Keeps s (t.dataFlit p vc sop eop vlen data rty) := by
  unfold State.dataFlit
  dsimp only
  split
  · refine .cutThrough ?_
    split
    · exact .cutOff (.ite h.modPort.malPacket h.modPort)
    · exact .ite h.modPort.malPacket h.modPort
  · split
    · refine .modPort ?_
      split
      · exact .cutOff (.ite h.modPort.malPacket h.modPort)
      · exact .ite h.modPort.malPacket h.modPort
    · refine .packetIn ?_
      refine .modPort ?_
      split
      · exact .cutOff (.ite h.modPort.malPacket h.modPort)
      · exact .ite h.modPort.malPacket h.modPort

theorem Keeps.takeAck {p : Nat} {ack : Nat} (h : Keeps s t) :
    Keeps s (t.takeAck p ack) := by
  unfold State.takeAck
  dsimp only
  split
  · exact .ite h.modPort h.modPort.add
  · exact h.modPort

theorem Keeps.takeNak {p : Nat} {ack : Nat} (h : Keeps s t) : Keeps s (t.takeNak p ack) := by
  have hack : Keeps s (t.takeAck p ack) := h.takeAck
  unfold State.takeNak
  generalize t.takeAck p ack = u at hack ⊢
  dsimp only
  split
  · exact hack
  · exact .ite hack.add.modPort.portDown (hack.add.modPort.foldl fun _ _ h => h.wireOut).add

theorem Keeps.discardFlit {p : Nat} {seq : Option Nat} (h : Keeps s t) :
    Keeps s (t.discardFlit p seq) := by
  unfold State.discardFlit
  split
  · exact h.modPort.wireOut
  · exact h.modPort

theorem Keeps.takeData {p : Nat} {h' : Nat} {data : List Byte} (h : Keeps s t) :
    Keeps s (t.takeData p h' data) :=
  .ite h.discardFlit h.add.modPort.dataFlit

theorem KeepsNext.execFlitReceive {p : PortNo} {flit : List Byte} {fecCorr : Nat} {fecBad : Bool} (h : Keeps s t) :
    KeepsNext s (Machine.execFlitReceive p flit fecCorr fecBad t) := by
  refine .next (.ite h ?_)
  extract_lets u hd v w x k y
  have hv : Keeps s v := .ite h.add.modPort h.add
  have hw : Keeps s w := .ite hv.takeNak hv.takeAck
  have hx : Keeps s x := .ite hw.takeData hw
  exact .ite h.add.add.discardFlit (.ite h.add.add.discardFlit (.ite hx.pump.idleOut hx.pump))

theorem KeepsNext.execNak {p : PortNo} {ack : Nat} (h : Keeps s t) :
    KeepsNext s (execNak p ack t) :=
  .next (.ite h.takeNak.pump h)

theorem Keeps.send {k : Packet} (h : Keeps s t) :
    Keeps s (t.send k) := by
  unfold State.send
  exact h.modFab

theorem Keeps.request {by_ : ReqBy} {k : Packet} (h : Keeps s t) :
    Keeps s (t.request by_ k) := h.modFab.send

theorem Keeps.completeReq {tag : Nat} {status : Nat} {data : List Byte} {poison : Bool} (h : Keeps s t) :
    Keeps s (t.completeReq tag status data poison) := by
  unfold State.completeReq
  dsimp only
  split
  · exact h
  · split
    · exact .modPend (.ite h.modFab h.modFab.report)
    · exact .modSeq (.ite h.modFab h.modFab.report)
    · exact .modTierOp (.ite h.modFab h.modFab.report)
    · exact .modTierOp (.ite h.modFab h.modFab.report)

theorem Keeps.noteUnroutable (h : Keeps s t) :
    Keeps s (t.noteUnroutable) := h.add.set

theorem Keeps.syncMsg {p : Nat} {msgtype : Nat} {body : List Byte} (h : Keeps s t) :
    Keeps s (t.syncMsg p msgtype body) :=
  .ite h.linkMsg h.noteUnroutable

theorem Keeps.unroutable {i : InPkt} (h : Keeps s t) :
    Keeps s (t.unroutable i) := by
  unfold State.unroutable
  split
  · exact h.noteUnroutable
  · exact .ite h.noteUnroutable.completeReq h.noteUnroutable.send

theorem Keeps.hasServed {q : Nat} {j : Nat} {ovc : Nat} {n : Nat} {ready : List (Nat × Nat × InPkt)} (h : Keeps s t) (h1 : Keeps s u) :
    Keeps s (t.hasServed q j ovc n ready u) := by
  unfold State.hasServed
  exact h1.modPort

theorem Keeps.cutStart {src : Nat} {vc : Nat} {q : Nat} {ovc : Nat} {i : InPkt} (h : Keeps s t) :
    Keeps s (t.cutStart src vc q ovc i) :=
  h.modPort.transmitPart

theorem KeepsNext.execPacketForward {src : Fin 7} {vc : Fin 8} (h : Keeps s t) :
    KeepsNext s (execPacketForward src vc t) := by
  unfold Machine.execPacketForward
  refine .next ?_
  split
  · split
    · exact h.modFab.unroutable
    · exact .ite h (h.hasServed h.modFab.transmit)
  · split
    · exact h
    · split
      · exact h
      · exact .ite h (h.hasServed h.cutStart)

theorem Keeps.takeIn {i : InPkt} (h : Keeps s t) :
    Keeps s (t.takeIn i) := h.modFab

theorem Keeps.takeResponse {ptype : Nat} (h : Keeps s t) :
    Keeps s (t.takeResponse ptype) := by
  unfold State.takeResponse
  split
  · exact h
  · exact h.takeIn.completeReq

theorem KeepsNext.execReadresp (h : Keeps s t) :
    KeepsNext s (execReadresp t) := .next h.takeResponse

theorem KeepsNext.execWrack (h : Keeps s t) :
    KeepsNext s (execWrack t) := .next h.takeResponse

theorem KeepsNext.execAtomresp (h : Keeps s t) :
    KeepsNext s (execAtomresp t) := .next h.takeResponse

theorem KeepsNext.execRequestTimeout {tag : Fin 65536} (h : Keeps s t) :
    KeepsNext s (execRequestTimeout tag t) :=
  .next (.ite h.add.set.completeReq h)

theorem KeepsNext.execFabCntClr (h : Keeps s t) :
    KeepsNext s (execFabCntClr t) :=
  .next h.clear.clear.clear.clear

end Sys2Proof.Machine
end

section
/-! PROOF. The functions of Machine/Transfer.lean keep the form of memory and the balance of the Ledger. -/
namespace Sys2Proof.Machine
set_option Elab.async false
variable {s t u : State}

theorem Keeps.markSub {i : Nat} {sub : Nat} (h : Keeps s t) :
    Keeps s (t.markSub i sub) :=
  .ite h.devRead h.devRead.devWrite.add

theorem Keeps.dirtyMark {i : Nat} {a : Nat} {n : Nat} (h : Keeps s t) :
    Keeps s (t.dirtyMark i a n) :=
  h.foldl (fun _ _ h => h.markSub)

theorem Keeps.leaseRefused {n : Nat} {unit : Nat} {tenant : Nat} {a : Nat} (h : Keeps s t) :
    Keeps s (t.leaseRefused n unit tenant a) :=
  h.report

theorem Keeps.enqueue {m : Nat} {i : Inbound} (h : Keeps s t) :
    Keeps s (t.enqueue m i) := h.modSpd

theorem Keeps.noteRty {n : Nat} {rty : Nat} (h : Keeps s t) :
    Keeps s (t.noteRty n rty) := h.withSvc

theorem Keeps.inwinDeny {n : Nat} {req : Requester} {tenant : Nat} {off : Nat} (h : Keeps s t) :
    Keeps s (t.inwinDeny n req tenant off) :=
  h.set.refusedAt

theorem Keeps.answerInbound {i : Inbound} {status : Nat} {data : List Byte} {poison : Bool} (h : Keeps s t) :
    Keeps s (t.answerInbound i status data poison) := by
  unfold State.answerInbound
  split
  · exact .ite h.answer (.ite h.modPend h.modSeq)
  · split
    · exact h
    · exact h.send
  · exact h.answer

theorem Keeps.winWrite {n : Nat} {off : Nat} {d : List Byte} {p : Bool} (h : Keeps s t) :
    Keeps s (t.winWrite n off d p) :=
  .ite h.spWrite h.viewWrite

theorem Keeps.resultIn {n : Nat} {c : Nat} (h : Keeps s t) :
    Keeps s (t.resultIn n c) := h.modSeq

theorem Keeps.beyondView {n : Nat} {i : Inbound} {len : Nat} (h : Keeps s t) :
    Keeps s (t.beyondView n i len).2 := by
  unfold State.beyondView
  dsimp only
  split
  · exact h
  · exact h.refusedAt

theorem Keeps.performInbound {n : Nat} {i : Inbound} (h : Keeps s t) : Keeps s (t.performInbound n i) := by
  have hview : Keeps s (t.beyondView n i i.len).2 := h.beyondView
  unfold State.performInbound
  refine .ite h.inwinDeny.answerInbound ?_
  generalize t.beyondView n i i.len = v at hview ⊢
  obtain ⟨st, u⟩ := v
  have hu : Keeps s u := hview
  dsimp only
  split
  · exact Keeps.answerInbound (.readPoison (.ite hu.countPoison hu))
  · exact Keeps.answerInbound (.winWrite (.ite hu.countPoison hu))
  · exact .ite hu.winWrite.resultIn hu.winWrite
  · exact hu.winWrite.answerInbound

theorem Keeps.popFifo {n : Nat} (h : Keeps s t) :
    Keeps s (t.popFifo n) := h.modSpd

theorem Keeps.throughPort {n : Nat} {deferred : Nat} {ecc : List SpadEv} {f : State → State} (h : Keeps s t) (hk : ∀ x0, Keeps s x0 → Keeps s (f
    x0)) :
    Keeps s (t.throughPort n deferred ecc f) :=
  .eccSeen (hk _ h.add.eccEvents)

theorem Keeps.portServes {n : Nat} {deferred : Nat} {ecc : List SpadEv} {f : State → State} (h : Keeps s t) (hk : ∀ x0, Keeps s x0 → Keeps s (f x0)) :
    Keeps s (t.portServes n deferred ecc f) :=
  h.popFifo.throughPort (fun _ h1 => hk _ h1)

theorem Keeps.localPut {n : Nat} {unit : Nat} {tenant : Nat} {a : Nat} {kind : InKind} {d : List Byte} {p : Bool} (h : Keeps s t) :
    Keeps s (t.localPut n unit tenant a kind d p) := by
  unfold State.localPut
  dsimp only
  split
  · exact h.hbmPost
  · exact .ite h.refusedAt h.enqueue.modSeq
  · exact .ite h.refusedAt h.enqueue.modSeq
  · exact h.refusedAt

theorem Keeps.remotePut {n : Nat} {unit : Nat} {cls : Nat} {tenant : Nat} {a : Nat} {tag : Nat} {d : List Byte} {p : Bool} (h : Keeps s t) :
    Keeps s (t.remotePut n unit cls tenant a tag d p) := by
  unfold State.remotePut
  split
  · exact h.request.modSeq
  · exact .ite h.leaseRefused h.dirtyMark.request.modSeq

theorem Keeps.engWrite {n : Nat} {unit : Nat} {cls : Nat} {tenant : Nat} {a : Nat} {d : List Byte} {p : Bool} (h : Keeps s t) :
    Keeps s (t.engWrite n unit cls tenant a d p) :=
  h.foldl (fun _ _ h => .ite h.localPut h.remotePut)

theorem Keeps.engMask {n : Nat} {unit : Nat} {cls : Nat} {tenant : Nat} {a : Nat} {value : Nat} {mask : Nat} (h : Keeps s t) :
    Keeps s (t.engMask n unit cls tenant a value mask) := by
  unfold State.engMask
  dsimp only
  split
  · split
    · exact .ite h.hbmRead h.hbmRead.hbmPut
    · exact h.localPut
  · split
    · exact h.request.modSeq
    · exact .ite h.leaseRefused h.dirtyMark.request.modSeq

theorem ReadKeeps.rdPiece {n unit tenant a len : Nat} : ReadKeeps (Machine.rdPiece n unit tenant a len) := by
  intro s l t h
  have houtside : RdOut.Keeps s (match l with
      | [] => .need a len
      | r :: l => .done (⟨r.status, slice r.data 0 len, List.replicate len (r.poison || r.status == 5)⟩ : RdData) l t) := by
    split
    · trivial
    · exact h
  unfold Machine.rdPiece
  refine .ite ?_ houtside
  dsimp only
  split
  · exact Keeps.hbmRead h
  · exact .ite houtside (Keeps.refusedAt h)

theorem ReadKeeps.rdPieces {n unit tenant : Nat} {l : List (Nat × Nat)} : ReadKeeps (Machine.rdPieces n unit tenant l) := by
  induction l with
  | nil => exact .pure
  | cons x l ih => exact .bind .rdPiece fun _ => .bind ih fun _ => .pure

theorem ReadKeeps.rdRange {n unit tenant a len : Nat} : ReadKeeps (Machine.rdRange n unit tenant a len) := .rdPieces

theorem Keeps.sendRead {n : Nat} {unit : Nat} {cls : Nat} {tenant : Nat} {a : Nat} {len : Nat} (h : Keeps s t) :
    Keeps s (t.sendRead n unit cls tenant a len) := by
  unfold State.sendRead
  dsimp only
  split
  · split
    · exact .ite h.refusedAt.modPend h.enqueue
    · exact .ite h.refusedAt.modPend h.enqueue
    · exact h
  · exact h.request

theorem Keeps.runOp {n : Nat} {cls : Nat} {tenant : Nat} {p : Pend} {f : Rd Unit} (h : Keeps s t) (hf : ReadKeeps f) :
    Keeps s (t.runOp n cls tenant p f) := by
  have hout := hf s p.got t h
  unfold State.runOp
  dsimp only
  split
  next hdone =>
    rw [hdone] at hout
    exact Keeps.modPend hout
  next => exact h.modPend.sendRead

end Sys2Proof.Machine
end

section
/-! PROOF. The functions of Machine/Collective.lean keep the form of memory and the balance of the Ledger. -/
namespace Sys2Proof.Machine
set_option Elab.async false
variable {s t u : State}

theorem Keeps.collSend {c : Nat} {step : Nat} {phase : Nat} {part : Nat} {port : Nat} {data : List Byte} {poison : Bool} (h : Keeps s t) :
    Keeps s (t.collSend c step phase part port data poison) :=
  h.foldl (fun _ _ h => h.send)

theorem Keeps.putColl {c : Nat} {e : CollStep} (h : Keeps s t) :
    Keeps s (t.putColl c e) := h.modFab

theorem Keeps.dropStep {c : Nat} {step : Nat} (h : Keeps s t) :
    Keeps s (t.dropStep c step) := h.modFab

theorem Keeps.collRecord {n : Nat} {off : Nat} {len : Nat} (h : Keeps s t) :
    Keeps s (t.collRecord n off len) := by
  unfold State.collRecord
  split
  · exact h.refusedAt
  · exact h

theorem Keeps.collWrite {c : Nat} {n : Nat} {l : List (List Byte × Bool)} (h : Keeps s t) :
    Keeps s (t.collWrite c n l) := by
  unfold State.collWrite
  dsimp only
  split
  · exact .resultIn (h.foldl (fun _ _ h => h.collRecord))
  · exact .foldl (h.foldl (fun _ _ h => h.collRecord)) (fun _ _ h => h.enqueue)

theorem Keeps.collTrunc {c : Nat} {l : List (List Byte × Bool)} (h : Keeps s t) :
    Keeps s (t.collTrunc c l) :=
  .ite h.set.report h

theorem Keeps.collDone {c : Nat} {step : Nat} {result : Nat → List (List Byte × Bool)} (h : Keeps s t) :
    Keeps s (t.collDone c step result) :=
  .dropStep (h.foldl (fun _ _ h => h.collWrite.collTrunc))

theorem Keeps.tryReduce {c : Nat} {step : Nat} (h : Keeps s t) : Keeps s (t.tryReduce c step) := by
  unfold State.tryReduce
  extract_lets e dtype red own kids own' kids' lists poison r u
  have hu : Keeps s u := .ite h.set h
  exact .ite h (.ite (hu.foldl fun _ _ h => h.collSend).collDone hu.putColl.collSend)

theorem Keeps.tryGather {c : Nat} {step : Nat} (h : Keeps s t) :
    Keeps s (t.tryGather c step) := by
  unfold State.tryGather
  dsimp only
  split
  · exact h
  · exact .collDone (h.foldl (fun _ _ h => h.foldl (fun _ _ h1 => h1.collSend)))

theorem Keeps.contribute {c : Nat} {step : Nat} {n : Nat} {data : List Byte} {poison : Bool} (h : Keeps s t) :
    Keeps s (t.contribute c step n data poison) :=
  .ite h.putColl.tryReduce (.ite h.putColl.tryGather h.putColl.collSend)

theorem Keeps.collServe {n : Nat} {c : Nat} {step : Nat} {i : Inbound} (h : Keeps s t) :
    Keeps s (t.collServe n c step i) :=
  .ite h h.collRecord.countPoison.contribute

theorem KeepsNext.execWaitColl {n : LoomNo} (h : Keeps s t) :
    KeepsNext s (execWaitColl n t) := by
  unfold Machine.execWaitColl
  refine .next ?_
  refine .issue h (fun _ => ?_)
  split
  · exact h
  · split
    · exact h.xferFault
    · exact .ite h.stopSeq (.ite h.advance.beginPause h.advance.beginPause.enqueue)

theorem KeepsNext.execColl (h : Keeps s t) :
    KeepsNext s (execColl t) := by
  unfold Machine.execColl
  dsimp only
  refine .next ?_
  split
  · exact h
  · split
    · exact .report (h.takeIn.foldl (fun _ _ h => h.noteRty))
    · split
      · exact .add (h.takeIn.foldl (fun _ _ h => h.noteRty))
      · split
        · split
          · exact .tryReduce (.putColl (h.takeIn.foldl (fun _ _ h => h.noteRty)))
          · split
            · exact .collDone (.foldl (.putColl (h.takeIn.foldl (fun _ _ h => h.noteRty))) (fun _ _ h => h.send))
            · exact .foldl (.putColl (h.takeIn.foldl (fun _ _ h => h.noteRty))) (fun _ _ h => h.send)
        · split
          · split
            · exact .tryGather (.putColl (h.takeIn.foldl (fun _ _ h => h.noteRty)))
            · exact .send (h.takeIn.foldl (fun _ _ h => h.noteRty))
          · split
            · exact .foldl (.putColl (h.takeIn.foldl (fun _ _ h => h.noteRty))) (fun _ _ h => h.send)
            · exact .collDone (.foldl (.putColl (h.takeIn.foldl (fun _ _ h => h.noteRty))) (fun _ _ h => h.send))

end Sys2Proof.Machine
end

section
/-! PROOF. The functions of Machine/Ethernet.lean keep the form of memory and the balance of the Ledger. -/
namespace Sys2Proof.Machine
set_option Elab.async false
variable {s t u : State}

theorem KeepsNext.execHostmsg (h : Keeps s t) :
    KeepsNext s (execHostmsg t) := by
  unfold Machine.execHostmsg
  dsimp only
  refine .next ?_
  split
  · exact h
  · split
    · exact .ite h.takeIn.add.send h.takeIn.add
    · exact .ite h.takeIn.devWrite.set.send h.takeIn.devWrite.set

theorem Keeps.ethDomain {p : Nat} (h : Keeps s t) (hp : LedgerBalanced s → p < 144 := by exact fun _ => by omega) : Keeps s (t.ethDomain p) :=
  .ite h (h.setOf fun hb => offLedger_before (m := 300) (by have := hp hb; omega) rfl)

theorem Keeps.ethCtl {e : Nat} {v : Nat} (h : Keeps s t) (he : e < 144 := by omega) : Keeps s (t.ethCtl e v) := by
  unfold State.ethCtl
  exact .ite h (.ethDomain (.ite h.set.set.set.set.set h.set.set.set.set.set.clear.clear.clear) fun _ => by omega)

theorem KeepsNext.execEthCtlWrite {e : EthNo} {value : Nat} (h : Keeps s t) :
    KeepsNext s (execEthCtlWrite e value t) :=
  .next h.ethCtl

theorem KeepsNext.execEthLinkUp {e : EthNo} (h : Keeps s t) :
    KeepsNext s (execEthLinkUp e t) :=
  .next (.ite h h.set.set.set)

theorem KeepsNext.execEthLinkLoss {e : EthNo} (h : Keeps s t) :
    KeepsNext s (execEthLinkLoss e t) :=
  .next h.clear.clear

theorem Keeps.descDone {a : Nat} {len : Nat} {flags : Nat} {time : Option Nat} (h : Keeps s t) :
    Keeps s (t.descDone a len flags time) := by
  unfold State.descDone
  refine .devWrite ?_
  split
  · exact h.devWrite.devWrite
  · exact h.devWrite

theorem Keeps.ethDeliver {e : Nat} {frame : List Byte} {time k : Nat} (h : Keeps s t) : Keeps s (t.ethDeliver e frame time k) := by
  induction k generalizing t with
  | zero => exact h
  | succ k ih =>
    unfold State.ethDeliver
    refine .ite h.add ?_
    exact .ite (ih h.devFetch.set.descDone) h.devFetch.set.devWrite.descDone

theorem Keeps.pfcPause {e : Nat} {l : List Byte} (h : Keeps s t) :
    Keeps s (t.pfcPause e l) := h.withPfc

theorem Keeps.ethSend {e : Nat} {l : List Byte} (h : Keeps s t) :
    Keeps s (t.ethSend e l) := h.add.modFab

theorem Keeps.pfcSend {e : Nat} (h : Keeps s t) :
    Keeps s (t.pfcSend e) :=
  .ite h (.ite h.takeFree.ethSend h.takeFree)

theorem KeepsNext.execEthFrameRx {e : EthNo} {frame : List Byte} {fecCorr : Nat} {fecBad : Nat} (h : Keeps s t) :
    KeepsNext s (execEthFrameRx e frame fecCorr fecBad t) := by
  unfold Machine.execEthFrameRx
  dsimp only
  refine .next ?_
  refine .orWait h (fun _ h1 => ?_)
  split
  · exact h1
  · split
    · exact h1.add.add
    · split
      · exact h1.add.add.add
      · split
        · exact h1.add.add.add.add
        · split
          · exact .ite h1.add.add.add.pfcPause h1.add.add.add
          · split
            · split
              · exact h1.add.add.add.ethDeliver.pfcSend
              · exact .ite h1.add.add.add.add h1.add.add.add.add.send
            · exact h1.add.add.add.ethDeliver.pfcSend

theorem KeepsNext.execEthFrameTx {e : EthNo} (h : Keeps s t) :
    KeepsNext s (execEthFrameTx e t) := by
  unfold Machine.execEthFrameTx
  dsimp only
  refine .next ?_
  refine .orWait h (fun _ h1 => ?_)
  split
  · exact h1
  · split
    · exact h1.devFetch.set.descDone
    · split
      · exact h1
      · split
        · exact h1.devFetch.set.devFetch.descDone
        · exact h1.devFetch.set.devFetch.ethSend.descDone

theorem KeepsNext.execEthPacket (h : Keeps s t) :
    KeepsNext s (execEthPacket t) := by
  unfold Machine.execEthPacket
  refine .next ?_
  split
  · exact h
  · exact .ite h.takeIn (.ite h.takeIn.add (.ite h h.takeIn.ethSend))

end Sys2Proof.Machine
end

section
/-! PROOF. The functions of Machine/Cert.lean keep the form of memory and the balance of the Ledger. -/
namespace Sys2Proof.Machine
set_option Elab.async false
variable {s t u : State}

theorem Keeps.verify {u' : Usage} {chain : List Byte} {m : List Byte} {rsa : List Byte} {slh : List Byte} (h : Keeps s t) :
    Keeps s (t.verify u' chain m rsa slh).2 :=
  .ite h.add h.add.add

theorem Keeps.verifyImage {u' : Usage} {img : List Byte} {sigOff : Nat} (h : Keeps s t) :
    Keeps s (t.verifyImage u' img sigOff).2 :=
  h.verify

theorem Keeps.signNext (h : Keeps s t) :
    Keeps s (t.signNext) := by
  unfold State.signNext
  split
  · exact h
  · split
    · exact h
    · exact h.modMgmt

theorem Keeps.sign {j : SignJob} (h : Keeps s t) :
    Keeps s (t.sign j) := h.modMgmt.signNext

theorem Keeps.signDone (h : Keeps s t) :
    Keeps s (t.signDone) := h.modMgmt.signNext

end Sys2Proof.Machine
end

section
/-! PROOF. The functions of Machine/Operands.lean keep the form of memory and the balance of the Ledger. -/
namespace Sys2Proof.Machine
set_option Elab.async false
variable {s t u : State}

theorem Keeps.countSpecial {n : Nat} {l : List Nat} (h : Keeps s t) :
    Keeps s (t.countSpecial n l) :=
  h.add.add

theorem Keeps.putOut {n : Nat} {p : OutPlan} {r : Nat} {vals : List FVal} {poison : Bool} (h : Keeps s t) :
    Keeps s (t.putOut n p r vals poison) := by
  unfold State.putOut
  split
  · exact h.spWrite.countSpecial
  · split
    · exact h.spWrite.countSpecial
    · split
      · exact h.spWrite.spWrite.foldl (fun _ _ h => h.spWrite)
      · exact .guardAdd (h.spWrite.spWrite.foldl (fun _ _ h => h.spWrite))

end Sys2Proof.Machine
end

section
/-! PROOF. The functions of Machine/Shuttle.lean keep the form of memory and the balance of the Ledger. -/
namespace Sys2Proof.Machine
set_option Elab.async false
variable {s t u : State}

theorem Keeps.shtStart {n : Nat} {op : Nat} (h : Keeps s t) :
    Keeps s (t.shtStart n op) := h.set.set

theorem Keeps.shtRange {n : Nat} (h : Keeps s t) (hn : n < 144 := by omega) :
    Keeps s (t.shtRange n) :=
  h.engineFault

theorem Keeps.shtIssue {n : Nat} {op : Nat} {nslots : Nat} {ok : Block → Bool} {ranges : Block → List (Nat × Nat)} {k : DWord → Block → State} (h :
    Keeps s t) (hk : ∀ x0 x1, Keeps s (k x0 x1)) (hn : n < 144 := by omega) :
    Keeps s (t.shtIssue n op nslots ok ranges k) := by
  unfold State.shtIssue
  dsimp only
  refine .issue h (fun _ => ?_)
  split
  · exact h.wordFault
  · exact .ite h.xferFault (.ite h.shtRange (.ite h.wordFault (hk _ _)))

theorem KeepsNext.execRoute {n : LoomNo} {evs : CycleEvs} (h : Keeps s t) :
    KeepsNext s (execRoute n t evs) := by
  unfold Machine.execRoute
  refine .next ?_
  refine .withEvents h (fun _ h1 => ?_)
  refine .shtIssue h1 (fun _ _ => ?_)
  refine .shtStart ?_
  refine .modSht ?_
  split
  · exact .add (.add (.add (h1.advance.countPoison.foldl (fun _ _ h2 => h2.spWrite))))
  · exact .set (.add (.add (.add (h1.advance.countPoison.foldl (fun _ _ h2 => h2.spWrite)))))

theorem Keeps.sendRecord {n : Nat} {m : Nat} {ovf : Bool} {choice : Nat} {gate : Nat} {stream : Nat} {slot : Nat} {body : List Byte} {poison : Bool}
    (h : Keeps s t) :
    Keeps s (t.sendRecord n m ovf choice gate stream slot body poison) := by
  unfold State.sendRecord
  exact .modSht (h.foldl (fun _ _ h => .ite h.localPut (h.foldl (fun _ _ h1 => h1.remotePut))))

theorem Keeps.zeroReturn {n : Nat} {at_ : Nat} {len : Nat} (h : Keeps s t) :
    Keeps s (t.zeroReturn n at_ len) :=
  h.engWrite

theorem Keeps.sendClaim {n : Nat} {c : Claim} (h : Keeps s t) :
    Keeps s (t.sendClaim n c) :=
  .ite h.modSht.enqueue h.modSht.send

theorem KeepsNext.execScatter {n : LoomNo} {evs : CycleEvs} (h : Keeps s t) :
    KeepsNext s (execScatter n t evs) :=
  .next (h.withEvents (fun _ h1 => h1.shtIssue (fun _ _ => .shtStart (.foldl (h1.advance.countPoison.foldl (fun _ _ h2 => .ite h2.sendRecord (.ite
      h2 h2.zeroReturn))) (fun _ _ h2 => h2.sendClaim)))))

theorem Keeps.sendTally {n : Nat} {chip : Nat} {loom : Nat} {l : List Byte} (h : Keeps s t) :
    Keeps s (t.sendTally n chip loom l) :=
  .ite (.ite h h.enqueue) h.send

theorem KeepsNext.execTally {n : LoomNo} {evs : CycleEvs} (h : Keeps s t) :
    KeepsNext s (execTally n t evs) :=
  .next (h.withEvents (fun _ h1 => h1.shtIssue (fun _ _ => .shtStart (h1.advance.foldl (fun _ _ h2 => h2.foldl (fun _ _ h3 => h3.sendTally))))))

theorem Keeps.sendReturn {n : Nat} {e : Nat} {q : Nat} {off : Nat} {l : List Byte} {poison : Bool} (h : Keeps s t) :
    Keeps s (t.sendReturn n e q off l poison) :=
  .ite h.localPut (h.foldl (fun _ _ h => h.remotePut))

theorem KeepsNext.execShtReturn {n : LoomNo} {evs : CycleEvs} (h : Keeps s t) :
    KeepsNext s (execShtReturn n t evs) :=
  .next (h.withEvents (fun _ h1 => h1.shtIssue (fun _ _ => .shtStart (.foldl (h1.advance.foldl (fun _ _ h2 => h2.countPoison.sendReturn.engWrite))
      (fun _ _ h2 => h2.sendTally)))))

theorem KeepsNext.execMaskset {n : LoomNo} {evs : CycleEvs} (h : Keeps s t) :
    KeepsNext s (execMaskset n t evs) :=
  .next (h.withEvents (fun _ h1 => h1.shtIssue (fun _ _ => .shtStart (h1.advance.countPoison.foldl (fun _ _ h2 => .set (.set (.ite h2
      h2.takeFree)))))))

theorem Keeps.auditPair {n : Nat} {miss : Bool} (h : Keeps s t) :
    Keeps s (t.auditPair n miss) :=
  .ite h.add.add (.ite h.add.add.set.set.set.set.set h.add.add.set.set.set.set)

theorem KeepsNext.execAudit {n : LoomNo} {evs : CycleEvs} (h : Keeps s t) :
    KeepsNext s (execAudit n t evs) := by
  unfold Machine.execAudit
  refine .next ?_
  refine .withEvents h (fun _ h1 => ?_)
  refine .shtIssue h1 (fun _ _ => ?_)
  refine .shtStart ?_
  split
  · exact h1.advance
  · exact h1.advance.countPoison.foldl (fun _ _ h2 => h2.foldl (fun _ _ h3 => .ite h3 h3.auditPair))

theorem ReadKeeps.markPending {n dh pos entry : Nat} : ReadKeeps (Machine.markPending n dh pos entry) :=
  .bind .rdRange fun _ => .bind .rdRange fun _ => .ite .pure (.ite (.mod fun _ _ h => h.refuseStruct) (.ite .pure (.mod fun _ _ h => h.engMask)))

theorem ReadKeeps.exitRow {n : Nat} {b : Block} {block : List Byte} {p : ExitPar} {r : Nat} : ReadKeeps (Machine.exitRow n b block p r) := by
  refine .bind .get fun _ => .ite .pure (.ite (.mod fun _ _ h => h.refuseStruct) (.ite (.mod fun _ _ h => h.add) ?_))
  refine .bind (.mod fun _ _ h => ?_) fun _ => .bind (.each fun _ => .markPending) fun _ => .mod fun _ _ h => h.spWrite.spWrite
  exact (h.setMapBit.add.modSht.countPoison.spWrite).spWrite

theorem ReadKeeps.exitRun {n : Nat} {block : List Byte} : ReadKeeps (Machine.exitRun n block) :=
  .bind (.each fun _ => .exitRow) fun _ => .mod fun _ _ h => h.set

theorem KeepsNext.execExit {n : LoomNo} {evs : CycleEvs} (h : Keeps s t) : KeepsNext s (Machine.execExit n t evs) :=
  .next (h.withEvents fun _ h => h.shtIssue fun _ _ => h.advance.countPoison.shtStart.runOp .exitRun)

theorem ReadKeeps.fillOne {n : Nat} {b : Block} {nl nkv hsz e : Nat} {lh : Nat × Nat} : ReadKeeps (Machine.fillOne n b nl nkv hsz e lh) := by
  unfold Machine.fillOne
  refine .bind .get fun _ => .bind .rdRange fun _ => .bind .rdRange fun _ => .ite (.mod fun _ _ h => ?_) (.mod fun _ _ h => ?_)
  · exact .add (.ite h.refuseStruct h)
  · exact h.dataReads.engWrite.engWrite.engWrite.engWrite.engMask

theorem ReadKeeps.fillRun {n : Nat} {block : List Byte} : ReadKeeps (Machine.fillRun n block) := by
  unfold Machine.fillRun
  exact .bind .get fun _ => .ite (.mod fun _ _ h => h.refuseStruct)
    (.each fun _ => .bind (.mod fun _ _ h => h.dataReads) fun _ => .each fun _ => .fillOne)

theorem KeepsNext.execFill {n : LoomNo} {evs : CycleEvs} (h : Keeps s t) : KeepsNext s (Machine.execFill n t evs) :=
  .next (h.withEvents fun _ h => h.shtIssue fun _ _ => h.advance.countPoison.shtStart.runOp .fillRun)

theorem ReadKeeps.shtRun {n : Nat} {p : Pend} : ReadKeeps (Machine.shtRun n p) := .ite .exitRun .fillRun

theorem KeepsNext.execShtOpDone {n : LoomNo} (h : Keeps s t) : KeepsNext s (Machine.execShtOpDone n t) := by
  refine .next (.ite h ?_)
  extract_lets u
  have hu : Keeps s u := by
    unfold u
    split
    · exact .ite h (h.runOp .shtRun)
    · exact h
  exact .ite hu hu.set.set.settle

theorem Keeps.landBad {n : Nat} {off : Nat} (h : Keeps s t) :
    Keeps s (t.landBad n off) := h.add.set.report

theorem Keeps.landOk {n : Nat} {q : Nat} {step : Nat} {slot : Option Nat} {i : Inbound} (h : Keeps s t) :
    Keeps s (t.landOk n q step slot i) :=
  h.winWrite.modHalf.add

theorem Keeps.expectRest {n : Nat} {q : Nat} {src : Nat} {half : Nat} {i : Inbound} {ok : Bool} (h : Keeps s t) :
    Keeps s (t.expectRest n q src half i ok) := by
  unfold State.expectRest
  exact h.modSht

theorem Keeps.landRest {n : Nat} {q : Nat} {i : Inbound} (h : Keeps s t) :
    Keeps s (t.landRest n q i) := by
  unfold State.landRest
  split
  · exact h.landBad
  · exact .expectRest (.ite h.winWrite h)

theorem Keeps.landRecord {n : Nat} {q : Nat} {i : Inbound} (h : Keeps s t) :
    Keeps s (t.landRecord n q i) := by
  unfold State.landRecord
  split
  · exact h.landRest
  · split
    · exact h.landOk.expectRest
    · exact h.landBad.expectRest

theorem Keeps.landRow {n : Nat} {q : Nat} {step : Nat} {src : Nat} {i : Inbound} (h : Keeps s t) :
    Keeps s (t.landRow n q step src i) := by
  unfold State.landRow
  refine .modSht ?_
  split
  · exact .ite h.landOk h.landBad
  · exact .ite h (.ite h.winWrite h.landBad)

theorem Keeps.landIf {n : Nat} {i : Inbound} {f : State → State} (h : Keeps s t) (hk : ∀ x0, Keeps s x0 → Keeps s (f x0)) :
    Keeps s (t.landIf n i f) :=
  .ite (.answerInbound (hk _ h.beyondView)) h.inwinDeny.answerInbound

theorem KeepsNext.execRecordLanding {n : LoomNo} {deferred : Nat} {ecc : List SpadEv} (h : Keeps s t) :
    KeepsNext s (execRecordLanding n t deferred ecc) := by
  unfold Machine.execRecordLanding
  refine .next ?_
  split
  · exact h
  · split
    · exact h
    · split
      · exact h.portServes (fun _ h1 => h1.landIf (fun _ h2 => h2.landRecord))
      · exact h.portServes (fun _ h1 => h1.landIf (fun _ h2 => h2.landRow))
      · exact h

theorem Keeps.takeTally {n : Nat} {l : List Byte} (h : Keeps s t) :
    Keeps s (t.takeTally n l) :=
  .ite h.set.add h.modHalf

theorem Keeps.shtPacket {n : Nat} {msgtype : Nat} {loomOf : Packet → Nat} {kindOf : Packet → InKind} (h : Keeps s t) :
    Keeps s (t.shtPacket n msgtype loomOf kindOf) := by
  unfold State.shtPacket
  split
  · exact h
  · exact .ite h.takeIn (.ite h h.takeIn.noteRty.enqueue)

theorem Keeps.takeHead {n : Nat} {f : Inbound → Option (State → State)} (h : Keeps s t)
    (hk : ∀ i g u, f i = some g → Keeps s u → Keeps s (g u)) : Keeps s (t.takeHead n f) := by
  unfold State.takeHead
  refine .ite h ?_
  split
  · exact h
  · split
    next hg => exact hk _ _ _ hg h.popFifo
    next => exact h

theorem KeepsNext.execTallyMsg {n : LoomNo} (h : Keeps s t) : KeepsNext s (Machine.execTallyMsg n t) := by
  refine .next (h.shtPacket.takeHead fun i g u hg hu => ?_)
  split at hg
  · cases hg
    exact hu.takeTally
  · contradiction

theorem Keeps.takeClaim {n q half src choice repl chip loom : Nat} (h : Keeps s t) : Keeps s (t.takeClaim n q half src choice repl chip loom) := by
  unfold State.takeClaim
  extract_lets k ok slot u v
  have hu : Keeps s u := h.modHalf
  have hv : Keeps s v := .ite (hu.foldl fun _ _ h => h.modHalf) hu
  exact .ite hv.enqueue hv.send

theorem KeepsNext.execOvfClaim {n : LoomNo} (h : Keeps s t) : KeepsNext s (Machine.execOvfClaim n t) := by
  refine .next (h.shtPacket.takeHead fun i g u hg hu => ?_)
  split at hg
  · cases hg
    exact hu.takeClaim
  · contradiction

theorem Keeps.takeGrant {n : Nat} {choice : Nat} {slot : Nat} (h : Keeps s t) :
    Keeps s (t.takeGrant n choice slot) := by
  unfold State.takeGrant
  split
  · exact h
  · exact .ite h.modSht.add.zeroReturn h.modSht.add.add.sendRecord

theorem KeepsNext.execOvfGrant {n : LoomNo} (h : Keeps s t) : KeepsNext s (Machine.execOvfGrant n t) := by
  refine .next (h.shtPacket.takeHead fun i g u hg hu => ?_)
  split at hg
  · cases hg
    exact hu.takeGrant
  · contradiction

end Sys2Proof.Machine
end

section
/-! PROOF. The functions of Machine/LoomReset.lean keep the form of memory and the balance of the Ledger. -/
namespace Sys2Proof.Machine
set_option Elab.async false
variable {s t u : State}

theorem Keeps.zeroQueues {n : Nat} (h : Keeps s t) :
    Keeps s (t.zeroQueues n) :=
  h.foldl (fun _ _ h => h.spWrite)

/-- Requests leave the order of arrival. -/
theorem Keeps.filterLedger {p : LdgReq → Bool} (h : Keeps s t) : Keeps s { t with ledger := t.ledger.filter p } := by
  refine h.trans ⟨id, fun ⟨hsum, hreq, htest⟩ => ⟨hsum, fun r hr => hreq r (List.mem_of_mem_filter hr), htest⟩⟩

theorem Keeps.forgetWaits {n : Nat} (h : Keeps s t) : Keeps s (t.forgetWaits n) := by
  have hfifo : Keeps s ((t.looms.map Prod.fst).foldl (fun s m => s.modSpd m fun p =>
      { p with fifo := p.fifo.filter fun i => !(i.kind == .read && (match i.req with | .loomEngine m _ => m.val == n | _ => false)) }) t) :=
    h.foldl fun _ _ h => h.modSpd
  exact hfifo.filterLedger.modFab.ledgerShow

theorem Keeps.haltLoom {n : Nat} (h : Keeps s t) (hn : LedgerBalanced s → n < 144 := by exact fun _ => by omega) : Keeps s (t.haltLoom n) :=
  (h.forgetWaits.returnCredits hn).setLm

theorem loomResetFields_offLedger (n : Nat) : ∀ f ∈ loomResetFields n, f.offLedger = true := by
  simp only [loomResetFields, List.forall_mem_append, List.forall_mem_cons, List.forall_mem_map]
  and_intros
  all_goals first | exact offLedger_behind rfl | exact List.forall_mem_nil _ | exact fun _ _ => offLedger_behind_entry rfl

theorem Keeps.clearLoom {n : Nat} (h : Keeps s t) (hn : n < 144 := by omega) : Keeps s (t.clearLoom n) := by
  unfold State.clearLoom
  exact (h.forgetWaits.returnCredits.setLm.clearAll (loomResetFields_offLedger n)).zeroQueues

theorem Keeps.loomReset {n : Nat} (h : Keeps s t) (hn : n < 144 := by omega) :
    Keeps s (t.loomReset n) := by
  unfold State.loomReset
  exact .ite h.clearLoom.startLoom h.clearLoom

theorem Keeps.benchRecord {kind : Nat} {index : Nat} {cause : Nat} (h : Keeps s t) :
    Keeps s (t.benchRecord kind index cause) :=
  h.slvEvent

theorem Keeps.benchLoomUnit {n : Nat} {cause : Nat} (h : Keeps s t) (hn : LedgerBalanced s → n < 144 := by exact fun _ => by omega) :
    Keeps s (t.benchLoomUnit n cause) := by
  unfold State.benchLoomUnit
  have hmap : Keeps s (t.setMapBit SLV_BENCH_LOOM_MAP n) := h.setOf fun hb => offLedger_before (m := 144) (by have := hn hb; omega) rfl
  refine .writeRec (.benchRecord (.setOf (.set (.clear (.clear (.clear (hmap.haltLoom hn))))) fun hb => offLedger_before (hn hb) rfl))

end Sys2Proof.Machine
end

section
/-! PROOF. The functions of Machine/RegAccess.lean keep the form of memory and the balance of the Ledger. -/
namespace Sys2Proof.Machine
set_option Elab.async false
variable {s t u : State}

/-- The fields that a write of a byte changes. -/
def Acc.writable : Acc → Bool
  | .rw | .rws | .w1c => true
  | .ro | .wo => false

theorem Keeps.writeField {a : Nat} {b : Byte} {fa : Fld × Acc} (h : Keeps s t) (hf : fa.2.writable = true → fa.1.offLedger = true) :
    Keeps s (t.writeField a b fa) := by
  obtain ⟨f, acc⟩ := fa
  unfold State.writeField
  split
  · exact h
  · cases acc with
    | rw => exact h.set (hf rfl)
    | rws => exact h.set (hf rfl)
    | w1c => exact h.set (hf rfl)
    | ro => exact h
    | wo => exact h

/-- Every byte address of the register lies before the end of LDG_CREDIT. -/
def RegShape.before (r : RegShape) : Bool :=
  Nat.blt 0 r.icount && Nat.blt 0 r.count && Nat.ble (r.base + (r.icount - 1) * r.istride + (r.count - 1) * r.stride + r.bytes) 0x210440

/-- A register has a field of the Ledger's counts only for reading, and at no address behind them. -/
def RegShape.offLedger (r : RegShape) : Prop :=
  ∀ n i, n < r.icount → i < r.count → ∀ fa ∈ r.flds n i, fa.1.offLedger = true ∨ (fa.2.writable = false ∧ r.before = true)

theorem regMapLoom_offLedger : ∀ r ∈ regMapLoom0 ++ regMapLoom1 ++ regMapLoom2 ++ regMapLoom3 ++ regMapLoom4 ++ regMapLoom5, r.offLedger := by
  simp only [regMapLoom0, regMapLoom1, regMapLoom2, regMapLoom3, regMapLoom4, regMapLoom5, List.forall_mem_append, List.forall_mem_cons,
    List.not_mem_nil, IsEmpty.forall_iff, implies_true, and_true]
  and_intros
  all_goals
    intro n i hn hi
    simp only [List.forall_mem_cons, List.not_mem_nil, IsEmpty.forall_iff, implies_true, and_true]
    and_intros
    all_goals first
      | exact .inl (offLedger_behind rfl)
      | exact .inl (offLedger_behind_entry rfl)

theorem regMapHub_offLedger : ∀ r ∈ regMapHub0 ++ regMapHub1 ++ regMapHub2 ++ regMapHub3 ++ regMapFabric0 ++ regMapFabric1 ++ regMapFabric2,
    r.offLedger := by
  simp only [regMapHub0, regMapHub1, regMapHub2, regMapHub3, regMapFabric0, regMapFabric1, regMapFabric2, List.forall_mem_append,
      List.forall_mem_cons,
    List.not_mem_nil, IsEmpty.forall_iff, implies_true, and_true]
  and_intros
  all_goals
    intro n i hn hi
    simp only [List.forall_mem_cons, List.not_mem_nil, IsEmpty.forall_iff, implies_true, and_true]
    and_intros
    all_goals first
      | exact .inl (offLedger_at rfl)
      | exact .inl (offLedger_behind rfl)
      | exact .inl (offLedger_behind_entry rfl)

theorem regMapMgmt_offLedger : ∀ r ∈ regMapMgmt0 ++ regMapMgmt1 ++ regMapMgmt2 ++ regMapMgmt3, r.offLedger := by
  simp only [regMapMgmt0, regMapMgmt1, regMapMgmt2, regMapMgmt3, List.forall_mem_append, List.forall_mem_cons,
    List.not_mem_nil, IsEmpty.forall_iff, implies_true, and_true]
  and_intros
  all_goals
    intro n i hn hi
    simp only [List.forall_mem_cons, List.not_mem_nil, IsEmpty.forall_iff, implies_true, and_true]
    and_intros
    all_goals first
      | exact .inl (offLedger_at rfl)
      | exact .inl (offLedger_before hi rfl)
      | exact .inl (offLedger_behind rfl)
      | exact .inl rfl
      | exact .inr ⟨rfl, rfl⟩

theorem regMap_offLedger : ∀ r ∈ regMap, r.offLedger := by
  have hloom := regMapLoom_offLedger
  have hhub := regMapHub_offLedger
  have hmgmt := regMapMgmt_offLedger
  simp only [regMap, List.forall_mem_append] at hloom hhub hmgmt ⊢
  tauto

/-- The number of a unit and that of an entry lie within the register's counts, and the address lies in the entry. -/
theorem rowHit_bounds {r : RegShape} {a n i b : Nat} (h : rowHit r a = some (n, i, b)) :
    n < r.icount ∧ i < r.count ∧ a < r.base + n * r.istride + i * r.stride + r.bytes := by
  unfold rowHit at h
  split at h
  · contradiction
  · dsimp only at h
    rw [Option.ite_none_right_eq_some] at h
    obtain ⟨hc, h⟩ := h
    simp only [Bool.and_eq_true, decide_eq_true_eq] at hc
    simp only [Option.some.injEq, Prod.mk.injEq] at h
    obtain ⟨rfl, rfl, rfl⟩ := h
    omega

theorem findIn_bounds {l : List RegShape} {a : Nat} {h : RegHit} (hf : findIn l a = some h) :
    h.inst < h.shape.icount ∧ h.idx < h.shape.count ∧ a < h.shape.base + h.inst * h.shape.istride + h.idx * h.shape.stride + h.shape.bytes := by
  induction l with
  | nil => exact nomatch hf
  | cons r t ih =>
    rw [findIn] at hf
    split at hf
    next hrow =>
      cases hf
      exact rowHit_bounds hrow
    next => exact ih hf

/-- A byte written changes no field of the Ledger's counts, which are for reading only. -/
theorem RegHit.offLedger_of_writable {a : Nat} {h : RegHit} (hf : findReg a = some h) {fa : Fld × Acc} (hfa : fa ∈ h.fields)
    (hw : fa.2.writable = true) : fa.1.offLedger = true := by
  obtain ⟨hinst, hidx, _⟩ := findIn_bounds hf
  rcases regMap_offLedger h.shape (findIn_shape_mem hf) _ _ hinst hidx fa hfa with hoff | ⟨hro, _⟩
  · exact hoff
  · exact absurd (hro.symm.trans hw) Bool.false_ne_true

theorem lt_of_before {r : RegShape} {n i a : Nat} (h : r.before = true) (hn : n < r.icount) (hi : i < r.count)
    (ha : a < r.base + n * r.istride + i * r.stride + r.bytes) : a < 0x210440 := by
  simp only [RegShape.before, Bool.and_eq_true, Nat.ble_eq] at h
  have hni := Nat.mul_le_mul_right r.istride (Nat.le_sub_one_of_lt hn)
  have hii := Nat.mul_le_mul_right r.stride (Nat.le_sub_one_of_lt hi)
  omega

/-- No register behind the Ledger's has a field of its counts. -/
theorem RegHit.offLedger_of_behind {a : Nat} {h : RegHit} (hf : findReg a = some h) (ha : 0x210440 ≤ a) {fa : Fld × Acc} (hfa : fa ∈ h.fields) :
    fa.1.offLedger = true := by
  obtain ⟨hinst, hidx, hlt⟩ := findIn_bounds hf
  rcases regMap_offLedger h.shape (findIn_shape_mem hf) _ _ hinst hidx fa hfa with hoff | ⟨_, hbefore⟩
  · exact hoff
  · have := lt_of_before hbefore hinst hidx hlt
    omega

theorem Keeps.regPutByte {a : Nat} {b : Byte} (h : Keeps s t) : Keeps s (t.regPutByte a b) := by
  unfold State.regPutByte
  split
  · exact h
  next hit hf => exact h.foldlMem fun _ fa hfa h => h.writeField (hit.offLedger_of_writable hf hfa)

theorem Keeps.regPut {a : Nat} {l : List Byte} (h : Keeps s t) : Keeps s (t.regPut a l) := by
  induction l generalizing a t with
  | nil => exact h
  | cons b l ih => exact ih h.regPutByte

end Sys2Proof.Machine
end

section
/-! PROOF. The functions of Machine/Tiers.lean keep the form of memory and the balance of the Ledger. -/
namespace Sys2Proof.Machine
set_option Elab.async false
variable {s t u : State}

theorem Keeps.tierPutPiece {e : Nat} {tenant : Nat} {raw : Bool} {a : Nat} {d : List Byte} {pois : List Bool} (h : Keeps s t) :
    Keeps s (t.tierPutPiece e tenant raw a d pois).2 := by
  unfold State.tierPutPiece
  dsimp only
  split
  · split
    · exact h.hbmPost
    · dsimp only
      exact h.refusedAt
  · split
    · dsimp only
      exact h.request.modTierOp
    · split
      · dsimp only
        exact h.report
      · dsimp only
        exact h.dirtyMark.request.modTierOp

theorem Keeps.tierPut {e : Nat} {tenant : Nat} {raw : Bool} {a : Nat} {d : List Byte} {pois : List Bool} (h : Keeps s t) :
    Keeps s (t.tierPut e tenant raw a d pois).2 :=
  h.foldlSnd (fun _ _ h => h.tierPutPiece)

theorem Keeps.ringEntry {nbt : Bool} {a : Nat} {r : RdData} (h : Keeps s t) (hu : t.ringEntry nbt = some (a, r, u)) : Keeps s u := by
  unfold State.ringEntry at hu
  dsimp only at hu
  split at hu
  · contradiction
  · have hread : Keeps s (t.devRead (t.get (ringBase nbt) + 64 * t.get (ringHead nbt)) 64).2 := h.devRead
    simp only [Option.some.injEq, Prod.mk.injEq] at hu
    exact hu.2.2 ▸ hread

theorem Keeps.answerTier {entry : Nat} {status : Nat} {result : Nat} (h : Keeps s t) :
    Keeps s (t.answerTier entry status result) :=
  h.devWrite.devWrite

theorem Keeps.recordTier {nbt : Bool} {status : Nat} {tenant : Nat} {id : Nat} (h : Keeps s t) :
    Keeps s (t.recordTier nbt status tenant id) :=
  .ite h h.report

theorem Keeps.endTier {nbt : Bool} {entry : Nat} {status : Nat} {result : Nat} {tenant : Nat} {id : Nat} (h : Keeps s t) :
    Keeps s (t.endTier nbt entry status result tenant id) :=
  h.answerTier.recordTier

theorem Keeps.nextEntry {nbt : Bool} (h : Keeps s t) : Keeps s (t.nextEntry nbt) := by
  cases nbt with
  | true => exact h.set
  | false => exact h.set

theorem Keeps.ringTake {nbt : Bool} {op : Nat} {k : Nat → TierCmd → List Byte → State → State} (h : Keeps s t)
    (hk : ∀ a c l u, Keeps s u → Keeps s (k a c l u)) : Keeps s (t.ringTake nbt op k) := by
  unfold State.ringTake
  split
  · exact h
  next he =>
    have hu := h.ringEntry he
    exact .ite hu (.ite h (.ite hu.endTier.nextEntry (.ite h (hk _ _ _ _ hu))))

theorem Keeps.ringDo {nbt : Bool} {op : Nat} {k : TierCmd → State → Nat × Nat × State} (h : Keeps s t) (hk : ∀ x0 x1, Keeps s x1 → Keeps s (k x0
    x1).2.2) :
    Keeps s (t.ringDo nbt op k) :=
  h.ringTake (fun _ _ _ _ h1 => .nextEntry (.endTier (hk _ _ h1)))

theorem Keeps.runTier {e : Nat} {o : TierOp} {f : Rd (Nat × Nat)} (h : Keeps s t) (hf : ReadKeeps f) : Keeps s (t.runTier e o f) := by
  have hops : Keeps s (t.modTiers fun x => { x with ops := x.ops.filter (fun y => y.1 != e) ++ [(e, o)] }) := h.modTiers
  have hout := hf s o.got _ hops
  unfold State.runTier
  dsimp only
  split
  next hdone =>
    rw [hdone] at hout
    exact Keeps.modTierOp hout
  next => exact hops.modTierOp.request

theorem Keeps.modBlk {k : Nat} {f : FlashBlk → FlashBlk} (h : Keeps s t) :
    Keeps s (t.modBlk k f) :=
  h.modTiers

theorem Keeps.flashShow {tenant : Nat} (h : Keeps s t) :
    Keeps s (t.flashShow tenant) := h.set.set.set

theorem Keeps.mapShow {key : Nat} (h : Keeps s t) :
    Keeps s (t.mapShow key) := by
  unfold State.mapShow
  split
  · exact h
  · exact .ite h h.memWrite

theorem Keeps.progUnit {key : Nat} {blk : Nat} (h : Keeps s t) :
    Keeps s (t.progUnit key blk) :=
  h.modTiers.mapShow.modBlk.add

theorem Keeps.readUnit {blk : Nat} (h : Keeps s t) :
    Keeps s (t.readUnit blk) := h.modBlk.add

theorem Keeps.condemn {blk : Nat} {id : Nat} (h : Keeps s t) :
    Keeps s (t.condemn blk id) :=
  h.modBlk.addHold.set.report.flashShow

theorem Keeps.placeUnits {fails : List Nat} {avoid : Nat → Bool} {k : Nat} {l : List (Nat × Bool)} (h : Keeps s t) :
    Keeps s (State.placeUnits fails avoid k l t) := by
  induction k generalizing l t with
  | zero => exact h
  | succ k ih =>
    match l with
    | [] => exact h
    | (key, move) :: l =>
      unfold State.placeUnits
      split
      · exact ih h
      · refine .ite (ih h.condemn) (ih (.progUnit (.ite h.readUnit h)))

theorem Keeps.place {fails : List Nat} {avoid : Nat → Bool} {l : List (Nat × Bool)} (h : Keeps s t) : Keeps s (t.place fails avoid l) :=
  h.placeUnits

theorem Keeps.relocate {fails : List Nat} {blk : Nat} (h : Keeps s t) :
    Keeps s (t.relocate fails blk) :=
  h.place

theorem Keeps.eraseBlk {fails : List Nat} {blk : Nat} (h : Keeps s t) :
    Keeps s (t.eraseBlk fails blk) :=
  .ite h (.ite h.add.condemn h.add.modBlk)

theorem Keeps.collect {fails : List Nat} (h : Keeps s t) :
    Keeps s (t.collect fails) := by
  unfold State.collect
  split
  · exact h
  · exact h.relocate.eraseBlk

theorem Keeps.makeRoom {fails : List Nat} {k : Nat} (h : Keeps s t) : Keeps s (State.makeRoom fails k t) := by
  induction k generalizing t with
  | zero => exact h
  | succ k ih => exact .ite h (ih h.collect)

theorem Keeps.keepReserve {fails : List Nat} (h : Keeps s t) :
    Keeps s (t.keepReserve fails) := h.makeRoom

theorem KeepsNext.execGarbageCollection {fails : List Nat} (h : Keeps s t) :
    KeepsNext s (execGarbageCollection t fails) :=
  .next h.collect

theorem KeepsNext.execReadRefresh {block : Nat} {fails : List Nat} (h : Keeps s t) :
    KeepsNext s (execReadRefresh block t fails) :=
  .next (.ite h.keepReserve.relocate.eraseBlk.add h)

theorem KeepsNext.execWearLevel {fails : List Nat} (h : Keeps s t) :
    KeepsNext s (execWearLevel t fails) := by
  unfold Machine.execWearLevel
  dsimp only
  refine .next ?_
  split
  · exact h
  · split
    · exact h.keepReserve.relocate.eraseBlk
    · exact h.keepReserve

theorem Keeps.placeUnit {fails : List Nat} {key : Nat} (h : Keeps s t) (hu : t.placeUnit fails key = some u) : Keeps s u := by
  unfold State.placeUnit at hu
  dsimp only at hu
  split at hu
  · contradiction
  · exact Option.some.inj hu ▸ h.modTiers.keepReserve.place

theorem Keeps.placeAll {fails : List Nat} {l : List Nat} (h : Keeps s t) : Keeps s (State.placeAll fails l t).2 := by
  induction l generalizing t with
  | nil => exact h
  | cons k l ih =>
    unfold State.placeAll
    split
    next hu => exact ih (h.placeUnit hu)
    next => exact h

theorem Keeps.objPut {id : Nat} {o : Nat} {d : List Byte} {pois : List Bool} (h : Keeps s t) :
    Keeps s (t.objPut id o d pois) :=
  h.modTiers

theorem KeepsNext.execCreate (h : Keeps s t) :
    KeepsNext s (execCreate t) := by
  unfold Machine.execCreate
  refine .next ?_
  refine .ringDo h (fun _ _ h1 => ?_)
  split
  · exact h1
  · split
    · exact h1
    · dsimp only
      exact h1.modTiers

theorem KeepsNext.execDelete (h : Keeps s t) :
    KeepsNext s (execDelete t) := by
  unfold Machine.execDelete
  refine .next ?_
  refine .ringDo h (fun _ _ h1 => ?_)
  split
  · exact h1
  · split
    · exact h1
    · exact .flashShow (h1.modTiers.foldl (fun _ _ h1 => h1.mapShow))

theorem KeepsNext.execStat (h : Keeps s t) :
    KeepsNext s (execStat t) := by
  unfold Machine.execStat
  refine .next ?_
  refine .ringDo h (fun _ _ h1 => ?_)
  split
  · exact h1
  · split
    · exact h1
    · exact h1

theorem Keeps.flashUncorr {id : Nat} {cws : List Nat} {tenant : Nat} {uncorr : List Nat} (h : Keeps s t) :
    Keeps s (t.flashUncorr id cws tenant uncorr) :=
  h.foldl (fun _ _ h => h.add.set.report)

theorem Keeps.flashRetries {l : List Nat} {uncorr : List Nat} {retried : Nat} (h : Keeps s t) :
    Keeps s (t.flashRetries l uncorr retried) :=
  h.add

theorem Keeps.readUnits {id : Nat} {o : Nat} {n : Nat} (h : Keeps s t) :
    Keeps s (t.readUnits id o n) :=
  h.foldl (fun _ _ h => .ite h h.readUnit)

theorem Keeps.leaseMsg {dst : Nat} {type : Nat} {lease : Nat} {tenant : Nat} {base : Nat} {pages : Nat} {dl : Nat} (h : Keeps s t) :
    Keeps s (t.leaseMsg dst type lease tenant base pages dl) :=
  h.send

theorem Keeps.lendMsg {i : Nat} {type : Nat} {dl : Nat} (h : Keeps s t) :
    Keeps s (t.lendMsg i type dl) :=
  h.leaseMsg

theorem Keeps.borrowMsg {i : Nat} {type : Nat} (h : Keeps s t) :
    Keeps s (t.borrowMsg i type) := h.leaseMsg

theorem Keeps.forget {k : Nat} (h : Keeps s t) :
    Keeps s (t.forget k) := h.modTiers

theorem Keeps.unborrow {i : Nat} (h : Keeps s t) :
    Keeps s (t.unborrow i) := h.set

theorem borrowFields_offLedger (i : Nat) : ∀ f ∈ borrowFields i, f.offLedger = true := by
  simp only [borrowFields, List.forall_mem_cons]
  and_intros
  all_goals first | exact offLedger_behind rfl | exact List.forall_mem_nil _

theorem Keeps.freeBorrow {i : Nat} (h : Keeps s t) : Keeps s (t.freeBorrow i) := (h.clearAll (borrowFields_offLedger i)).forget

theorem lendFields_offLedger (i : Nat) : ∀ f ∈ lendFields i, f.offLedger = true := by
  simp only [lendFields, List.forall_mem_cons]
  and_intros
  all_goals first | exact offLedger_behind rfl | exact List.forall_mem_nil _

theorem Keeps.freeLend {i : Nat} (h : Keeps s t) : Keeps s (t.freeLend i) := by
  refine .forget (.clearAll ?_ (lendFields_offLedger i))
  split
  · exact .ite h h.set.set
  · exact h

theorem Keeps.loseLease {i : Nat} (h : Keeps s t) :
    Keeps s (t.loseLease i) :=
  h.modTierOp.unborrow.set.forget.set.set.add.report

theorem KeepsNext.execLend (h : Keeps s t) :
    KeepsNext s (execLend t) := by
  unfold Machine.execLend
  dsimp only
  refine .next ?_
  refine .ringTake h (fun _ _ _ _ h1 => ?_)
  split
  · split
    · exact h1.endTier.nextEntry
    · split
      · exact h1.endTier.nextEntry
      · exact h1.set.set.set.set.set.set.modTiers.lendMsg.nextEntry
  · exact h1.endTier.nextEntry

theorem KeepsNext.execAccept (h : Keeps s t) :
    KeepsNext s (execAccept t) := by
  unfold Machine.execAccept
  dsimp only
  refine .next ?_
  refine .ringDo h (fun _ _ h1 => ?_)
  split
  · exact h1
  · split
    · exact h1
    · split
      · exact h1
      · split
        · exact h1
        · exact h1.set.set.set.set.borrowMsg

theorem KeepsNext.execDecline (h : Keeps s t) :
    KeepsNext s (execDecline t) := by
  unfold Machine.execDecline
  refine .next ?_
  refine .ringDo h (fun _ _ h1 => ?_)
  split
  · exact h1
  · exact h1.borrowMsg.freeBorrow

theorem KeepsNext.execReclaim (h : Keeps s t) :
    KeepsNext s (execReclaim t) := by
  unfold Machine.execReclaim
  refine .next ?_
  refine .ringDo h (fun _ _ h1 => ?_)
  split
  · exact h1
  · split
    · exact h1
    · split
      · exact h1
      · split
        · exact h1
        · exact h1.set.set.modTiers.lendMsg

theorem Keeps.cleanSub {i : Nat} {sub : Nat} (h : Keeps s t) :
    Keeps s (t.cleanSub i sub) :=
  h.devRead.devWrite

theorem Keeps.writebackGo {e : Nat} {o : TierOp} (h : Keeps s t) : Keeps s (t.writebackGo e o) := by
  unfold State.writebackGo
  dsimp only
  split
  · exact h.modTierOp
  · split
    · refine .ite h.modTierOp ?_
      split
      exacts [h.modTierOp, h.cleanSub.modTierOp.request]
    · split
      · exact h.modTierOp
      · refine .ite h.tierPut.add.modTierOp ?_
        split
        exacts [h.tierPut.add.modTierOp, h.tierPut.add.cleanSub.modTierOp.request]

theorem KeepsNext.execClean (h : Keeps s t) :
    KeepsNext s (execClean t) := by
  unfold Machine.execClean
  refine .next ?_
  refine .ringDo h (fun _ _ h1 => ?_)
  split
  · exact h1
  · split
    · exact h1
    · exact h1.foldl (fun _ _ h1 => h1.cleanSub)

theorem KeepsNext.execRelease (h : Keeps s t) :
    KeepsNext s (execRelease t) := by
  unfold Machine.execRelease
  refine .next ?_
  refine .ringDo h (fun _ _ h1 => ?_)
  split
  · exact h1
  · split
    · exact h1
    · split
      · exact h1
      · exact h1.borrowMsg.unborrow.freeBorrow

theorem ReadKeeps.tierPiece {tenant : Nat} {raw : Bool} {a len : Nat} : ReadKeeps (Machine.tierPiece tenant raw a len) := by
  intro s l t h
  unfold Machine.tierPiece
  split
  · dsimp only
    split
    · exact Keeps.hbmRead h
    · exact Keeps.refusedAt h
  · split
    · trivial
    · exact h

theorem ReadKeeps.tierPieces {tenant : Nat} {raw : Bool} {l : List (Nat × Nat)} : ReadKeeps (Machine.tierPieces tenant raw l) := by
  induction l with
  | nil => exact .pure
  | cons x l ih => exact .bind .tierPiece fun _ => .bind ih fun _ => .pure

theorem ReadKeeps.tierRange {tenant : Nat} {raw : Bool} {a len : Nat} : ReadKeeps (Machine.tierRange tenant raw a len) := .tierPieces

theorem ReadKeeps.tierWr {e tenant : Nat} {raw : Bool} {a : Nat} {d : List Byte} {pois : List Bool} :
    ReadKeeps (Machine.tierWr e tenant raw a d pois) := fun _ _ _ h => Keeps.tierPut h

theorem ReadKeeps.writeRun {c : TierCmd} {fails : List Nat} : ReadKeeps (Machine.writeRun c fails) := by
  refine .bind .tierRange fun r => .ite .pure ?_
  intro s l t h
  dsimp only
  split
  · exact Keeps.flashShow h
  · exact (Keeps.placeAll h).objPut.modTiers.flashShow

theorem ReadKeeps.readRun {e : Nat} {c : TierCmd} {uncorr : List Nat} {retried : Nat} : ReadKeeps (Machine.readRun e c uncorr retried) :=
  fun _ _ _ h => (Keeps.readUnits h).flashRetries.flashUncorr.tierPut

theorem ReadKeeps.walkTiles {src : ImgSrc} {put : Nat → RdData → Rd Nat} (hsrc : ∀ o n, ReadKeeps (src o n)) (hput : ∀ o r, ReadKeeps (put o r))
    {g : Seg} {k u x : Nat} : ReadKeeps (Machine.walkTiles src put g k u x) := by
  induction k generalizing u x with
  | zero => exact .pure
  | succ k ih => exact .bind (hsrc _ _) fun _ => .ite .pure (.ite .pure (.bind (hsrc _ _) fun _ => .bind (hput _ _) fun _ => .ite .pure ih))

theorem ReadKeeps.walkUnits {src : ImgSrc} {put : Nat → RdData → Rd Nat} (hsrc : ∀ o n, ReadKeeps (src o n)) (hput : ∀ o r, ReadKeeps (put o r))
    {span : Nat} {g p : Seg} {k u x : Nat} : ReadKeeps (Machine.walkUnits span src put g p k u x) := by
  induction k generalizing u x with
  | zero => exact .pure
  | succ k ih => exact .bind (hsrc _ _) fun _ => .ite .pure (.ite .pure (.bind (hsrc _ _) fun _ => .bind (hput _ _) fun _ => .ite .pure ih))

theorem ReadKeeps.walkSegs {src : ImgSrc} {put : Nat → RdData → Rd Nat} (hsrc : ∀ o n, ReadKeeps (src o n)) (hput : ∀ o r, ReadKeeps (put o r))
    {span : Nat} {prev : Option Seg} {l : List Seg} : ReadKeeps (Machine.walkSegs span src put prev l) := by
  induction l generalizing prev with
  | nil => exact .pure
  | cons g l ih =>
    refine .bind (.ite (.bind (hsrc _ _) fun _ => hput _ _) (.ite (.walkTiles hsrc hput) ?_)) fun _ => .ite .pure ih
    split
    · exact .walkUnits hsrc hput
    · exact .pure

theorem ReadKeeps.walkImage {src : ImgSrc} {put : Nat → RdData → Rd Nat} (hsrc : ∀ o n, ReadKeeps (src o n)) (hput : ∀ o r, ReadKeeps (put o r))
    {limit : Nat} : ReadKeeps (Machine.walkImage limit src put) :=
  .bind (hsrc _ _) fun _ => .ite .pure (.ite .pure (.bind (hsrc _ _) fun _ => .ite .pure (.ite .pure (.walkSegs hsrc hput))))

theorem ReadKeeps.readimgRun {e : Nat} {c : TierCmd} {uncorr : List Nat} {retried : Nat} : ReadKeeps (Machine.readimgRun e c uncorr retried) := by
  refine .bind .get fun _ => .bind (.bind (.mod fun _ _ h => h.modTiers) fun _ => .walkImage (fun _ _ => ?_) fun _ _ => .tierWr) fun _ => ?_
  · exact fun _ _ _ h => (Keeps.readUnits h).modTiers
  · exact fun _ _ _ h => (Keeps.flashRetries h).flashUncorr.modTiers

theorem ReadKeeps.copyimgRun {e : Nat} {c : TierCmd} : ReadKeeps (Machine.copyimgRun e c) :=
  .bind (.walkImage (fun _ _ => .tierRange) fun _ _ => .ite .pure .tierWr) fun _ => .pure

theorem ReadKeeps.tierRun {e : Nat} {o : TierOp} : ReadKeeps (Machine.tierRun e o) := .ite .writeRun (.ite .readRun (.ite .readimgRun .copyimgRun))

theorem Keeps.moveTier {e : Nat} {o : TierOp} (h : Keeps s t) : Keeps s (t.moveTier e o) :=
  .ite h.modTiers.writebackGo (h.runTier .tierRun)

theorem Keeps.tierBegin {nbt : Bool} {a : Nat} {c : TierCmd} {o : TierOp} {st : Nat} (h : Keeps s t) :
    Keeps s (t.tierBegin nbt a c o st) :=
  .ite h.endTier.nextEntry h.nextEntry.moveTier

theorem KeepsNext.execWrite {fails : List Nat} (h : Keeps s t) :
    KeepsNext s (execWrite fails t) :=
  .next (h.ringTake (fun _ _ _ _ h1 => h1.tierBegin))

theorem KeepsNext.execRead {uncorr : List Nat} {retried : Nat} (h : Keeps s t) :
    KeepsNext s (execRead uncorr retried t) :=
  .next (h.ringTake (fun _ _ _ _ h1 => h1.tierBegin))

theorem KeepsNext.execReadimg {uncorr : List Nat} {retried : Nat} (h : Keeps s t) :
    KeepsNext s (execReadimg uncorr retried t) :=
  .next (h.ringTake (fun _ _ _ _ h1 => h1.tierBegin))

theorem KeepsNext.execWriteback (h : Keeps s t) :
    KeepsNext s (execWriteback t) :=
  .next (h.ringTake (fun _ _ _ _ h1 => h1.tierBegin))

theorem KeepsNext.execCopyimg (h : Keeps s t) :
    KeepsNext s (execCopyimg t) :=
  .next (h.ringTake (fun _ _ _ _ h1 => h1.tierBegin))

theorem Keeps.tierGoOn {e : Nat} (h : Keeps s t) :
    Keeps s (t.tierGoOn e) := by
  unfold State.tierGoOn
  split
  · exact h
  · exact .ite h h.moveTier

theorem KeepsNext.execTierCommandDone {nbt : Bool} (h : Keeps s t) : KeepsNext s (Machine.execTierCommandDone nbt t) := by
  unfold Machine.execTierCommandDone
  refine .next ?_
  dsimp only
  split
  · exact h.tierGoOn
  · split
    · exact h.tierGoOn
    · exact .ite h.tierGoOn (.ite h.tierGoOn.modTiers.answerTier h.tierGoOn.modTiers.answerTier.recordTier)

theorem KeepsNext.execTierRingSizeWrite {nbt : Bool} {value : Nat} (h : Keeps s t) :
    KeepsNext s (Machine.execTierRingSizeWrite nbt value t) := by
  cases nbt with
  | true => exact .next (.ite h.set h.set.set.report)
  | false => exact .next (.ite h.set h.set.set.report)

theorem Keeps.leaseIn {type : Nat} {k : Nat → List Byte → State → State} (h : Keeps s t) (hk : ∀ x0 x1 x2, Keeps s x2 → Keeps s (k x0 x1 x2)) :
    Keeps s (t.leaseIn type k) := by
  unfold State.leaseIn
  split
  · exact h
  · exact .ite h.takeIn (hk _ _ _ h.takeIn)

theorem Keeps.lendDone {i : Nat} {status : Nat} (h : Keeps s t) :
    Keeps s (t.lendDone i status) := by
  unfold State.lendDone
  split
  · exact h
  · exact h.modTiers.endTier

theorem KeepsNext.execLeaseOffer (h : Keeps s t) :
    KeepsNext s (execLeaseOffer t) := by
  unfold Machine.execLeaseOffer
  refine .next ?_
  refine .leaseIn h (fun _ _ _ h1 => ?_)
  split
  · exact h1.leaseMsg
  · exact h1.freeBorrow.set.set.set.set.set.set

theorem KeepsNext.execLeaseAccept (h : Keeps s t) :
    KeepsNext s (execLeaseAccept t) := by
  unfold Machine.execLeaseAccept
  refine .next ?_
  refine .leaseIn h (fun _ _ _ h1 => ?_)
  split
  · exact h1
  · split
    · exact h1
    · refine .lendDone ?_
      refine .set ?_
      refine .set ?_
      split
      · exact h1.set.set.set
      · exact h1

theorem KeepsNext.execLeaseDecline (h : Keeps s t) :
    KeepsNext s (execLeaseDecline t) := by
  unfold Machine.execLeaseDecline
  refine .next ?_
  refine .leaseIn h (fun _ _ _ h1 => ?_)
  split
  · exact h1
  · exact .ite h1 h1.lendDone.freeLend

theorem KeepsNext.execLeaseReclaim (h : Keeps s t) :
    KeepsNext s (execLeaseReclaim t) := by
  unfold Machine.execLeaseReclaim
  refine .next ?_
  refine .leaseIn h (fun _ _ _ h1 => ?_)
  split
  · exact h1
  · exact .ite h1 h1.modTiers.set.set

theorem KeepsNext.execLeaseRelease (h : Keeps s t) :
    KeepsNext s (execLeaseRelease t) := by
  unfold Machine.execLeaseRelease
  refine .next ?_
  refine .leaseIn h (fun _ _ _ h1 => ?_)
  split
  · exact h1
  · exact h1.freeLend

theorem KeepsNext.execLeaseRevoke (h : Keeps s t) :
    KeepsNext s (execLeaseRevoke t) := by
  unfold Machine.execLeaseRevoke
  refine .next ?_
  refine .leaseIn h (fun _ _ _ h1 => ?_)
  split
  · exact h1
  · exact .ite h1.freeBorrow h1.loseLease

theorem KeepsNext.execLeaseKeepalive (h : Keeps s t) :
    KeepsNext s (execLeaseKeepalive t) := by
  unfold Machine.execLeaseKeepalive
  dsimp only
  refine .next ?_
  refine .leaseIn h (fun _ _ _ h1 => ?_)
  split
  · refine .modTiers ?_
    split
    · exact h1.modTiers
    · exact h1
  · split
    · exact h1.modTiers
    · exact h1

theorem KeepsNext.execKeepaliveSend (h : Keeps s t) :
    KeepsNext s (execKeepaliveSend t) :=
  .next (.foldl (h.foldl (fun _ _ h => .ite h.borrowMsg.modTiers h)) (fun _ _ h => .ite h.lendMsg.modTiers h))

theorem KeepsNext.execReclaimDeadline {i : Fin 256} (h : Keeps s t) :
    KeepsNext s (execReclaimDeadline i t) :=
  .next (.ite h h.lendMsg.freeLend)

theorem KeepsNext.execKeepaliveMiss {lender : Bool} {i : Fin 256} (h : Keeps s t) :
    KeepsNext s (execKeepaliveMiss lender i t) :=
  .next (.ite h (.ite h.lendMsg.freeLend h.loseLease))

end Sys2Proof.Machine
end

section
/-! PROOF. The functions of Machine/Serving.lean keep the form of memory and the balance of the Ledger. -/
namespace Sys2Proof.Machine
set_option Elab.async false
variable {s t u : State}

theorem Keeps.markSlow (h : Keeps s t) :
    Keeps s (t.markSlow) := h.modSvc

theorem Keeps.reprice (h : Keeps s t) :
    Keeps s (t.reprice) :=
  .foldl (h.set.foldl (fun _ _ h => h.set)) (fun _ _ h => h.set.set)

theorem KeepsNext.execSvcAllowWrite {addr : Nat} {data : List Byte} (h : Keeps s t) :
    KeepsNext s (execSvcAllowWrite addr data t) :=
  .next (.ite h.regPut.reprice h)

theorem Keeps.floorWrite {v : Nat} (h : Keeps s t) :
    Keeps s (t.floorWrite v) :=
  .ite h.set.reprice.markSlow h

theorem KeepsNext.execSvcFloorMhzWrite {value : Nat} (h : Keeps s t) :
    KeepsNext s (execSvcFloorMhzWrite value t) :=
  .next h.floorWrite

theorem Keeps.rqBad (h : Keeps s t) :
    Keeps s (t.rqBad) := h.set.report

theorem KeepsNext.execSvcRqSizeWrite {value : Nat} (h : Keeps s t) :
    KeepsNext s (execSvcRqSizeWrite value t) :=
  .next (.ite h.set h.set.rqBad)

theorem KeepsNext.execSvcCntClr (h : Keeps s t) : KeepsNext s (Machine.execSvcCntClr t) := by
  refine .next (h.clearAll ?_)
  simp only [List.forall_mem_append, List.forall_mem_cons, List.forall_mem_map]
  exact ⟨⟨rfl, rfl, rfl, rfl, rfl, rfl, rfl, rfl, List.forall_mem_nil _⟩, fun _ _ => offLedger_behind rfl⟩

theorem Keeps.raiseBudget (h : Keeps s t) :
    Keeps s (t.raiseBudget) := h.set.set.ledgerShow

theorem KeepsNext.execLdgBudgetMinWrite {value : Nat} (h : Keeps s t) :
    KeepsNext s (execLdgBudgetMinWrite value t) :=
  .next h.set.raiseBudget.set

theorem Keeps.putEvent {tenant : Nat} {mk : Nat → List Byte} (h : Keeps s t) :
    Keeps s (t.putEvent tenant mk) :=
  h.tierPut.set

theorem Keeps.streamRec {x : Nat} {type : Nat} {code : Nat} {bits16 : Nat} {count : Nat} {a : Nat} {b : Nat} (h : Keeps s t) :
    Keeps s (t.streamRec x type code bits16 count a b) := by
  unfold State.streamRec
  exact h.putEvent

theorem strFields_offLedger (x : Nat) : ∀ f ∈ strFields x, f.offLedger = true := by
  simp only [strFields, List.forall_mem_cons]
  and_intros
  all_goals first | exact offLedger_behind rfl | exact List.forall_mem_nil _

theorem Keeps.endStream {x : Nat} {status : Nat} {flags : Nat} (h : Keeps s t) :
    Keeps s (t.endStream x status flags) := by
  unfold State.endStream
  refine .modSvc (.clearAll (.sub (.sub (.sub (.sub (.sub (.add (.sub ?_))))))) (strFields_offLedger x))
  exact .ite h.streamRec.add (.ite h.streamRec.add h.streamRec)

theorem Keeps.noteCause {b : Nat} {mask : Nat} (h : Keeps s t) :
    Keeps s (t.noteCause b mask) :=
  .ite h h.modSvc

theorem Keeps.overrun {x : Nat} {index : Nat} {mask : Nat} {lateness : Nat} {step : Nat} (h : Keeps s t) :
    Keeps s (t.overrun x index mask lateness step) := by
  unfold State.overrun
  exact .add (.add (.add (.set (.streamRec (.ite h.set.report h))) (offLedger_behind rfl)))

theorem Keeps.rqEntry {a : Nat} {r : RdData} (h : Keeps s t) (hu : t.rqEntry = some (a, r, u)) : Keeps s u := by
  unfold State.rqEntry at hu
  dsimp only at hu
  split at hu
  · contradiction
  · have hread : Keeps s (t.devFetch (t.get SVC_RQ_BASE_ADDR + 128 * t.get SVC_RQ_HEAD_HEAD) 128).2 := h.devFetch
    simp only [Option.some.injEq, Prod.mk.injEq] at hu
    exact hu.2.2 ▸ hread

theorem Keeps.rqAnswer {a : Nat} {op : Nat} {status : Nat} {out : List Byte} (h : Keeps s t) :
    Keeps s (t.rqAnswer a op status out) := by
  unfold State.rqAnswer
  refine .set ?_
  split
  · exact h.devWrite.devWrite
  · exact .ite h.devWrite.devWrite.set.set.add h.devWrite.devWrite.set.set

theorem Keeps.rqTake {op : Nat} {opens : Bool} {k : Nat → List Byte → State → State} (h : Keeps s t)
    (hk : ∀ a l u, Keeps s u → Keeps s (k a l u)) : Keeps s (t.rqTake op opens k) := by
  unfold State.rqTake
  split
  · exact h
  next he =>
    have hu := h.rqEntry he
    exact .ite h (.ite h (.ite hu.rqAnswer (hk _ _ _ hu)))

theorem Keeps.cancelNow {x : Nat} (h : Keeps s t) :
    Keeps s (t.cancelNow x) := .ite h h.endStream

theorem KeepsNext.execCancel (h : Keeps s t) :
    KeepsNext s (execCancel t) :=
  .next (h.orWait (fun _ h1 => h1.rqTake (fun _ _ _ h2 => .ite h2.rqAnswer (.ite h2.rqAnswer h2.set.cancelNow.rqAnswer))))

theorem KeepsNext.execEvict (h : Keeps s t) :
    KeepsNext s (execEvict t) :=
  .next (h.orWait (fun _ h1 => h1.rqTake (fun _ _ _ h2 => .ite h2.rqAnswer (.ite h2.rqAnswer h2.set.set.rqAnswer))))

theorem Keeps.boltTo {a : Nat} {b : Nat} {state : Nat} (h : Keeps s t) :
    Keeps s (t.boltTo a b state) := by
  unfold State.boltTo
  split
  · exact h.rqAnswer
  · exact .ite h.rqAnswer (.ite h.rqAnswer (.ite h.rqAnswer h.set.reprice.rqAnswer))

theorem KeepsNext.execBoltOpen (h : Keeps s t) :
    KeepsNext s (execBoltOpen t) :=
  .next (h.orWait (fun _ h1 => h1.rqTake (fun _ _ _ h2 => h2.boltTo)))

theorem KeepsNext.execBoltClose (h : Keeps s t) :
    KeepsNext s (execBoltClose t) :=
  .next (h.orWait (fun _ h1 => h1.rqTake (fun _ _ _ h2 => h2.boltTo)))

theorem Keeps.startLoad {tier : Nat} (h : Keeps s t) : Keeps s (t.startLoad tier) := by
  unfold State.startLoad
  split
  · exact h
  · exact .ite h (.ite h.modTiers (h.runTier .tierRun))

theorem Keeps.dropLoad {x : SlotLoad} (h : Keeps s t) :
    Keeps s (t.dropLoad x) := h.modSvc.modTiers.startLoad

theorem KeepsNext.execVariantLoadDone {i : SlotNo} (h : Keeps s t) :
    KeepsNext s (execVariantLoadDone i t) := by
  unfold Machine.execVariantLoadDone
  dsimp only
  refine .next ?_
  split
  · exact .add (.set (.dropLoad (.ite h.tierGoOn.noteCause h.tierGoOn)))
  · exact h.tierGoOn

theorem KeepsNext.execVariantLoadFail {i : SlotNo} (h : Keeps s t) :
    KeepsNext s (execVariantLoadFail i t) := by
  unfold Machine.execVariantLoadFail
  dsimp only
  refine .next ?_
  split
  · exact .report (.dropLoad (.set (.set (h.tierGoOn.foldl (fun _ _ h => h.endStream)))))
  · exact h.tierGoOn

theorem Keeps.putStream {x : Nat} {l : List Byte} {m : Promise} (h : Keeps s t) : Keeps s (t.putStream x l m) := by
  unfold State.putStream
  refine .add (.add (.add (.sub (.add (.add (.add (.add (.modSvc (.foldlMem h.takeFree fun _ f hf h => h.set ?_)))))))))
  revert f
  simp only [List.forall_mem_cons]
  and_intros
  all_goals first | exact offLedger_behind rfl | exact List.forall_mem_nil _

theorem Keeps.admitStream {a : Nat} {l : List Byte} {v : Option Variant} (h : Keeps s t) :
    Keeps s (t.admitStream a l v) := by
  unfold State.admitStream
  split
  · exact h.rqAnswer
  · refine .rqAnswer ?_
    split
    · exact h.putStream
    · exact h.putStream.set.set.modSvc.startLoad

theorem KeepsNext.execAdmit (h : Keeps s t) : KeepsNext s (Machine.execAdmit t) := by
  refine .next (h.orWait fun t h => h.rqTake fun a l u hu => .ite hu.rqAnswer (.ite hu.admitStream (.ite h ?_)))
  have hout := ReadKeeps.tierRange (tenant := 0) (raw := false) (a := leAt l 56 8) (len := 64) s t.admitOp.got u hu
  split
  next hd =>
    rw [hd] at hout
    exact Keeps.admitStream (Keeps.modTiers hout)
  next => exact h.modTiers.request

end Sys2Proof.Machine
end

section
/-! PROOF. The functions of Machine/Steps.lean keep the form of memory and the balance of the Ledger. -/
namespace Sys2Proof.Machine
set_option Elab.async false
variable {s t u : State}

theorem Keeps.freezePlan {no : Nat} {p : StepPlan} (h : Keeps s t) : Keeps s (t.freezePlan no p) := by
  unfold State.freezePlan
  refine .foldlMem (.set (.set (.set (.modSvc (.foldl h.sub fun _ _ h => .ite h.set h))))) fun _ n hn h => ?_
  have := lt_of_mem_boltLooms hn
  exact h.wakeDomain.modSeq.modSvc

theorem KeepsNext.execStepFreeze {b : BoltNo} (h : Keeps s t) :
    KeepsNext s (execStepFreeze b t) :=
  .next (.ite h (.ite h (.markSlow (h.foldl (fun _ _ h => h.freezePlan)))))

theorem Keeps.boltDown {b : Nat} (h : Keeps s t) :
    Keeps s (t.boltDown b) :=
  .reprice (h.set.foldl (fun _ _ h => h.endStream))

theorem Keeps.dropColl {looms : List Nat} {step : Nat} (h : Keeps s t) :
    Keeps s (t.dropColl looms step) := by
  unfold State.dropColl
  exact h.modFab

theorem Keeps.abortGroup {b : Nat} {cause : Nat} (h : Keeps s t) :
    Keeps s (t.abortGroup b cause) := by
  unfold State.abortGroup
  refine .foldl (.foldlMem (.dropColl (.foldl (.add (.modSvc (.foldl (.foldl h.set.report ?_) ?_))) ?_)) ?_) ?_
  · exact fun _ _ h => h.noteCause
  · exact fun _ _ h => h.foldl fun _ _ h => h.overrun.endStream
  · exact fun _ _ h => h.set
  · intro _ n hn h
    obtain ⟨b, _, hb⟩ := List.mem_flatMap.1 hn
    have := lt_of_mem_boltLooms hb
    exact h.loomReset
  · exact fun _ _ h => .ite h.boltDown h

theorem Keeps.svcWatch (h : Keeps s t) :
    Keeps s (t.svcWatch) := h.foldl (fun _ _ h => .ite h.abortGroup h)

theorem Keeps.benchLoom {n : Nat} {cause : Nat} (h : Keeps s t) (hn : LedgerBalanced s → n < 144 := by exact fun _ => by omega) :
    Keeps s (t.benchLoom n cause) := by
  have hunit : Keeps s (t.benchLoomUnit n cause) := h.benchLoomUnit hn
  unfold State.benchLoom
  refine .ite hunit ?_
  split
  · exact hunit
  · exact .ite hunit.abortGroup hunit.boltDown

theorem Keeps.lagRule {n : Nat} (h : Keeps s t) (hn : n < 144 := by omega) :
    Keeps s (t.lagRule n) :=
  .ite h.modSvc.benchLoom h.modSvc

theorem Keeps.charge {tenant : Nat} {k : Nat} (h : Keeps s t) :
    Keeps s (t.charge tenant k) := h.set

theorem Keeps.deliverTokens {x : Nat} {b : Nat} {step : Nat} {toks : List Nat} (h : Keeps s t) :
    Keeps s (t.deliverTokens x b step toks) := by
  unfold State.deliverTokens
  exact .modSvc (.set (.charge (.add (h.foldl (fun _ _ h => .ite h.tierPut.overrun h.tierPut)))))

theorem Keeps.specUpdate {x : Nat} {a : Nat} (h : Keeps s t) : Keeps s (t.specUpdate x a) := by
  have hset {t : State} {f : Fld} {v : Nat} (h : Keeps s t) (hf : f ∈ strFields x) : Keeps s (t.set f v) := h.set (strFields_offLedger x f hf)
  have hmem : STR_K x ∈ strFields x ∧ STR_COOL x ∈ strFields x ∧ STR_REJECTED x ∈ strFields x ∧ STR_REJ_RUN x ∈ strFields x
      ∧ STR_SPEC_OFF x ∈ strFields x := by simp [strFields]
  obtain ⟨hk, hcool, hrejected, hrun, hoff⟩ := hmem
  have hadd := fun (v w : Nat) => hset (v := w) (hset (v := v) h hk) hrejected
  refine .ite h (.ite (hset (hset h hcool) hk) (.ite ?_ ?_))
  · exact hset (hset (hset (hset (hadd _ _) hk) hcool) hrun) hoff
  · exact hset (hadd _ _) hrun

theorem Keeps.afterTokens {x : Nat} {toks : List Nat} (h : Keeps s t) :
    Keeps s (t.afterTokens x toks) :=
  .ite h.endStream (.ite h.endStream h)

theorem Keeps.outOf {x : Nat} {outs : List SealOut} (h : Keeps s t) :
    Keeps s (t.outOf x outs).2 := by
  unfold State.outOf
  split
  · exact h
  · exact h.takeFree

theorem Keeps.poisonEnd {x : Nat} {b : Nat} {step : Nat} (h : Keeps s t) :
    Keeps s (t.poisonEnd x b step) :=
  h.overrun.endStream

theorem Keeps.sealItem {b : Nat} {step : Nat} {outs : List SealOut} {poisoned : List Nat} {e : Nat × Nat} (h : Keeps s t) :
    Keeps s (t.sealItem b step outs poisoned e) := by
  unfold State.sealItem
  dsimp only
  split
  · exact .ite h.outOf.poisonEnd h.outOf.specUpdate.deliverTokens.afterTokens
  · split
    · exact .ite h.add.charge.endStream h.add.charge
    · split
      · exact h.add.charge.outOf.poisonEnd
      · exact h.add.charge.outOf.set.deliverTokens.afterTokens

theorem Keeps.sealPlan {outs : List SealOut} {poisoned : List Nat} {p : StepPlan} (h : Keeps s t) :
    Keeps s (t.sealPlan outs poisoned p) :=
  .foldl (.add (.set (.set (h.noteCause.modSvc.foldl (fun _ _ h => h.sealItem))))) (fun _ _ h => h.modSeq)

theorem Keeps.trimCauses (h : Keeps s t) :
    Keeps s (t.trimCauses) := by
  unfold State.trimCauses
  exact h.modSvc

theorem Keeps.readFills {looms : List Nat} (h : Keeps s t) :
    Keeps s (t.readFills looms) := by
  unfold State.readFills
  exact .modSvc (h.foldl (fun _ _ h => h.foldl (fun _ _ h1 => .ite h1 h1.report)))

theorem KeepsNext.execStepSeal {b : BoltNo} {outs : List SealOut} {poisoned : List Nat} (h : Keeps s t) :
    KeepsNext s (Machine.execStepSeal b outs poisoned t) := by
  refine .next (.ite h (Keeps.foldlMem ?_ fun _ n hn h => ?_))
  · exact (h.foldl fun _ _ h => h.sealPlan).readFills.trimCauses
  · obtain ⟨p, _, hp⟩ := List.mem_flatMap.1 hn
    have := lt_of_mem_boltLooms hp
    exact h.lagRule

theorem KeepsNext.execStepTimeout {b : BoltNo} (h : Keeps s t) :
    KeepsNext s (execStepTimeout b t) := by
  unfold Machine.execStepTimeout
  refine .next ?_
  split
  · exact h
  · exact .ite h.abortGroup (.ite h.abortGroup h)

theorem Keeps.refill (h : Keeps s t) :
    Keeps s (t.refill) := h.foldl (fun _ _ h => h.set)

theorem KeepsNext.execTokenRefill (h : Keeps s t) :
    KeepsNext s (execTokenRefill t) :=
  .next (.ite h.refill.modSvc h)

end Sys2Proof.Machine
end

section
/-! PROOF. The functions of Machine/Card.lean keep the form of memory and the balance of the Ledger. -/
namespace Sys2Proof.Machine
set_option Elab.async false
variable {s t u : State}

theorem Keeps.draftFetch {e : List Byte} (h : Keeps s t) :
    Keeps s (t.draftFetch e).2.2 := by
  unfold State.draftFetch
  dsimp only
  split
  · exact h
  · exact h.devFetch

theorem Keeps.withDrafts {ds : List (Nat × List Byte)} (h : Keeps s t) :
    Keeps s (t.withDrafts ds) :=
  h.foldl (fun _ _ h => h.memWrite)

theorem Keeps.draftCheck {c : CardSecs} (h : Keeps s t) : Keeps s (t.draftCheck c).2.2 := by
  unfold State.draftCheck
  refine Keeps.foldlSndSnd (a := (none, [], t)) h fun r n h => ?_
  have hfetch : Keeps s (r.2.2.draftFetch (entOf c 4 n)).2.2 := h.draftFetch
  dsimp only
  split_ifs
  exacts [h, h, h, h, hfetch, hfetch]

theorem fieldsAt_offLedger {a : Nat} (ha : 0x210440 ≤ a) : ∀ f ∈ fieldsAt a, f.offLedger = true := by
  unfold fieldsAt
  split
  next hit hf =>
    intro f hmem
    obtain ⟨fa, hfa, rfl⟩ := List.mem_map.1 hmem
    exact hit.offLedger_of_behind hf ha hfa
  next => exact List.forall_mem_nil _

theorem Keeps.putForm {a : Nat} {l : List Byte} (h : Keeps s t) (ha : 0x210440 ≤ a := by omega) : Keeps s (t.putForm a l) :=
  h.foldlMem fun _ f hf h => h.set (fieldsAt_offLedger ha f hf)

/-- Fields that a filter takes out, none of them the Ledger's. -/
theorem Keeps.filterFields {p : Nat × Nat → Bool} (h : Keeps s t) (hp : ∀ k v, InLedger k → p (k, v) = true) :
    Keeps s { t with flds := t.flds.filter p } := by
  have hget (f : Fld) (hf : InLedger f.key) : State.get { t with flds := t.flds.filter p } f = t.get f :=
    congrArg (· % 2 ^ f.width) (tget_filter_of_kept f.reset t.flds fun v => hp _ v hf)
  exact h.trans ⟨id, ledgerBalanced_congr (hget _ inLedger_outstanding) (fun _ hn => hget _ (inLedger_held hn)) rfl rfl⟩

theorem Keeps.clearShuttle {n : Nat} (h : Keeps s t) : Keeps s (t.clearShuttle n) := by
  refine h.filterFields fun k v hk => ?_
  obtain ⟨_, hk⟩ := hk
  have : ¬ lwin n ≤ k / 8 := by simp only [lwin]; omega
  simp [this]

theorem queueReg_behind (e : List Byte) : 0x210440 ≤ (queueReg e).1 := by
  unfold queueReg
  dsimp only
  split
  all_goals
    dsimp only [lwin]
    omega

theorem Keeps.putLooms {c : CardSecs} {looms : List Nat} (h : Keeps s t) : Keeps s (t.putLooms c looms) := by
  unfold State.putLooms
  refine .foldl (.foldl (.foldl (h.foldl fun _ _ h => h.clearShuttle) ?_) ?_) fun _ _ h => h.zeroQueues
  · exact fun _ _ h => h.putForm (queueReg_behind _)
  · exact fun _ _ h => h.foldl fun _ _ h => h.putForm (by simp only [lwin]; omega)

theorem Keeps.powerLoom {c : CardSecs} {n : Nat} (h : Keeps s t) (hn : n < 144 := by omega) : Keeps s (t.powerLoom c n) :=
  .ite (h.set (offLedger_before hn rfl)) h

theorem Keeps.putBolt {c : CardSecs} {b : Nat} (h : Keeps s t) :
    Keeps s (t.putBolt c b) := by
  unfold State.putBolt
  exact h.set.set.clear.clear.clear.clear.clear.set.set.set.modSvc

theorem Keeps.putSlot {c : CardSecs} {ps : List (Nat × RdData)} {i : Nat} (h : Keeps s t) :
    Keeps s (t.putSlot c ps i) := by
  unfold State.putSlot
  exact h.set.set.set.set.set.set.set.set.clear.clear.clear.clear.clear.clear.clear.modSvc

theorem Keeps.openBolt {c : CardSecs} {b : Nat} (h : Keeps s t) :
    Keeps s (t.openBolt c b) :=
  .ite h (.ite h.set h.set)

theorem Keeps.repriceAll (h : Keeps s t) :
    Keeps s (t.repriceAll) := h.raiseBudget.reprice.ledgerShow

theorem Keeps.ethBlocks {p : Nat} {old : Nat} {new : Nat} (h : Keeps s t) : Keeps s (t.ethBlocks p old new) := by
  refine h.foldl fun _ k h => .ite (.set (h.filterFields fun x v hx => ?_)) (.ite h.set h)
  obtain ⟨_, hx⟩ := hx
  have : ¬ 0x7000000 + 0x10000 * (3 * p + k) ≤ x / 8 := by omega
  simp [this]

theorem Keeps.putPers {c : CardSecs} {dimsNew : Bool} {p : Nat} (h : Keeps s t) (hp : p < 6 := by omega) : Keeps s (t.putPers c dimsNew p) := by
  have hd : 156 + p < 164 := by omega
  unfold State.putPers
  extract_lets v old u
  have hu : Keeps s u := h.set.ethBlocks
  clear_value u
  refine .ite hu (.ite hu.dropLink (.ite (.setDomain (.ite hu.dropLink hu) hd) (.setDomain (.ite hu.dropLink hu) hd)))

theorem Keeps.strapBad (h : Keeps s t) :
    Keeps s (t.strapBad) := h.set.set.report

theorem Keeps.putDevice {c : CardSecs} (h : Keeps s t) : Keeps s (t.putDevice c) := by
  unfold State.putDevice
  refine .holdover (.set (.set (.set (.foldlMem ?_ fun _ p hp h => ?_))))
  · have hform := (h.putForm (a := 0x6000010) (l := slice (entOf c 1 0) 0 4)).putForm (a := 0x6000018) (l := slice (entOf c 1 0) 4 4)
    have hparent := (hform.set (f := FAB_SYNC_CTL_PARENT) (v := leAt (entOf c 1 0) 8 1 % 8)).set (f := FAB_SYNC_CTL_ALT_PARENT)
      (v := leAt (entOf c 1 0) 8 1 / 8 % 8)
    exact .ite (.strapBad (.ite hparent.modFab hparent)) (.ite hparent.modFab hparent)
  · have := List.mem_range.1 hp
    exact h.putPers

theorem Keeps.putTenants {c : CardSecs} (h : Keeps s t) :
    Keeps s (t.putTenants c) :=
  h.foldl (fun _ _ h => h.putForm.set.set.set.set.set.set.set.set)

theorem entryReg_behind {k i a : Nat} (h : entryReg k i = some a) : 0x210440 ≤ a := by
  unfold entryReg at h
  split at h <;> simp only [Option.some.injEq, reduceCtorEq] at h <;> omega

theorem Keeps.putTables {c : CardSecs} (h : Keeps s t) : Keeps s (t.putTables c) := by
  unfold State.putTables
  refine h.foldl fun _ _ h => h.foldl fun _ _ h => ?_
  split
  next ha => exact h.putForm (entryReg_behind ha)
  next => exact h

theorem Keeps.commitFull {c : CardSecs} {ps : List (Nat × RdData)} (h : Keeps s t) : Keeps s (t.commitFull c ps) := by
  unfold State.commitFull
  refine .repriceAll (.foldl (.repriceAll (.set (.foldlMem (.foldl (.foldl ?_ fun _ _ h => h.putBolt) fun _ _ h => h.putSlot) fun _ n hn h => ?_)))
      fun _ _ h => h.openBolt)
  · exact h.withCard.putDevice.putTables.putTenants.modSvc.putLooms
  · exact h.powerLoom (List.mem_range.1 hn)

theorem Keeps.commitFunction {c : CardSecs} {mask : Nat} {ps : List (Nat × RdData)} (h : Keeps s t) : Keeps s (t.commitFunction c mask ps) := by
  unfold State.commitFunction
  refine .repriceAll (.foldl (.repriceAll (.foldlMem (.foldl (.foldl ?_ fun _ _ h => h.putBolt) fun _ _ h => h.putSlot) fun _ n hn h => ?_)) fun _ _
      h => h.openBolt)
  · exact h.withCard.putLooms
  · exact h.powerLoom (List.mem_range.1 (List.mem_of_mem_filter hn))

theorem Keeps.cardDone {b : CardBad} (h : Keeps s t) :
    Keeps s (t.cardDone b) := by
  unfold State.cardDone
  split
  · exact h.set.set.set.withCrd.set.modTiers.modMgmt
  · exact h.set.set.set.withCrd.set.modTiers.modMgmt.add.report

theorem Keeps.cardStart {l : CardLoad} (h : Keeps s t) :
    Keeps s (t.cardStart l) :=
  .ite h (.ite h.set.cardDone h.set.withCrd.set)

theorem Keeps.cardCtl {req : Requester} {kind : Nat} (h : Keeps s t) :
    Keeps s (t.cardCtl req kind) :=
  .ite h.set h.set.set

theorem KeepsNext.execCardLoadFull {req : Requester} (h : Keeps s t) :
    KeepsNext s (execCardLoadFull req t) :=
  .next h.cardCtl.cardStart

theorem KeepsNext.execCardLoadFunction {req : Requester} (h : Keeps s t) :
    KeepsNext s (execCardLoadFunction req t) :=
  .next h.cardCtl.cardStart

theorem Keeps.cardRead {l : CardLoad} {flashBad : Bool} (h : Keeps s t) :
    Keeps s (t.cardRead l flashBad).2.2.2 := by
  unfold State.cardRead
  dsimp only
  split
  · exact h
  · split
    · exact h
    · split
      · dsimp only
        exact h.devFetch
      · dsimp only
        exact h.devFetch.devFetch

theorem Keeps.cardChecks {img : List Byte} {len : Nat} {failed : Bool} (h : Keeps s t) : Keeps s (t.cardChecks img len failed).2.2 := by
  have hverify : Keeps s (t.verifyImage .card img (leAt img 20 4)).2 := h.verifyImage
  unfold State.cardChecks
  generalize t.verifyImage .card img (leAt img 20 4) = v at hverify ⊢
  generalize (if failed then 1 else headerStatus img len) = st
  obtain ⟨vst, v⟩ := v
  have hv : Keeps s v := hverify
  have hdrafts : Keeps s (v.draftCheck (secsOf img)).2.2 := hv.draftCheck
  dsimp only
  generalize v.draftCheck (secsOf img) = d at hdrafts ⊢
  split_ifs
  · exact h
  · exact hv
  · exact hv
  · split
    · exact hv
    · exact hdrafts

theorem Keeps.bindCompat (h : Keeps s t) :
    Keeps s (t.bindCompat) := h.foldl (fun _ _ h => h.set)

theorem Keeps.cardFinish {l : CardLoad} {img : List Byte} {ps : List (Nat × RdData)} {ds : List (Nat × List Byte)} (h : Keeps s t) :
    Keeps s (t.cardFinish l img ps ds) := by
  unfold State.cardFinish
  dsimp only
  split
  · exact h.cardDone
  · exact .cardDone (.foldl (.foldl (.add (.set (.set (.set (.bindCompat (.ite h.withDrafts.commitFull h.withDrafts.commitFunction)))))) (fun _ _ h
        => h.mapShow)) (fun _ _ h => h.set))

theorem ReadKeeps.profileReads {c : CardSecs} {l : List Nat} : ReadKeeps (Machine.profileReads c l) := by
  induction l with
  | nil => exact .pure
  | cons i l ih => exact .bind .tierRange fun _ => .bind ih fun _ => .pure

theorem Keeps.cardCommit {l : CardLoad} {flashBad : Bool} (h : Keeps s t) : Keeps s (t.cardCommit l flashBad) := by
  unfold State.cardCommit
  dsimp only
  have hread : Keeps s (t.cardRead l flashBad).2.2.2 := h.cardRead
  have hchecks : Keeps s ((t.cardRead l flashBad).2.2.2.cardChecks (t.cardRead l flashBad).1 (t.cardRead l flashBad).2.1
      (t.cardRead l flashBad).2.2.1).2.2 := hread.cardChecks
  split
  next hc =>
    rw [hc] at hchecks
    exact Keeps.cardDone hchecks
  next u hc =>
    rw [hc] at hchecks
    have hprofiles := ReadKeeps.profileReads (c := secsOf (t.cardRead l flashBad).1)
      (l := (List.range 64).filter (sValid (secsOf (t.cardRead l flashBad).1))) s t.cardOp.got _ hchecks
    split
    next hp =>
      rw [hp] at hprofiles
      exact Keeps.cardFinish hprofiles
    next => exact h.modTiers.request

theorem KeepsNext.execCardCommit {flashBad : Bool} (h : Keeps s t) :
    KeepsNext s (execCardCommit flashBad t) := by
  unfold Machine.execCardCommit
  refine .next ?_
  refine .orWait h (fun _ h1 => ?_)
  split
  · exact h1
  · exact .ite h1 h1.cardCommit

end Sys2Proof.Machine
end

section
/-! PROOF. The functions of Machine/Islands.lean keep the form of memory and the balance of the Ledger. -/
namespace Sys2Proof.Machine
set_option Elab.async false
variable {s t u : State}

/-- What the main domains lose leaves a Ledger that holds nothing, where none of its registers is kept. -/
theorem Keeps.dropMain {keep : Nat → Bool} (h : Keeps s t) (hk : ∀ k, InLedger k → keep k = false) : Keeps s (t.keepRegs keep).dropMain :=
  h.trans ⟨id, fun ⟨_, _, htest⟩ => ledgerBalanced_cleared (fun _ hf => t.keepRegs_get_dropped (hk _ hf)) rfl htest⟩

theorem Keeps.showClock (h : Keeps s t) :
    Keeps s (t.showClock) := h.set

theorem Keeps.mainOff (h : Keeps s t) : Keeps s t.mainOff := by
  have hclock : Keeps s ((t.keepRegs aonKey).dropMain).showClock := (h.dropMain fun _ => aonKey_of_inLedger).showClock
  exact (hclock.ofMemory (u := { ((t.keepRegs aonKey).dropMain).showClock with mem := [], poison := [] }) fun _ => ⟨rfl, rfl⟩).frame

theorem Keeps.stage {k : Nat} (h : Keeps s t) :
    Keeps s (t.stage k) := h.set.slvEvent

theorem Keeps.showMap (h : Keeps s t) : Keeps s t.showMap := by
  unfold State.showMap
  refine .set (.set (.set (h.foldlMem fun _ i hi h => ?_)))
  exact h.set (offLedger_before (List.mem_range.1 hi) rfl)

theorem Keeps.checkIdentity (h : Keeps s t) :
    Keeps s (t.checkIdentity) := .ite h h.set.fatal

theorem Keeps.coldReset {straps : BitVec 15} {recovery : Bool} {clock : Bool} (h : Keeps s t) : Keeps s (t.coldReset straps recovery clock) := by
  unfold State.coldReset
  extract_lets m kept u v w x
  have hu : Keeps s u := h.mainOff.trans ⟨fun g => ⟨g.1, g.2⟩, fun _ =>
    ledgerBalanced_cleared (fun _ hf => t.mainOff.keepRegs_get_dropped (fuseKey_of_inLedger hf)) rfl
      fun x hx => by cases (show (none : Option TestRun) = some x from hx)⟩
  have hv : Keeps s v := hu.showClock
  have hw : Keeps s w := hv.readRec.writeRec
  have hx : Keeps s x := hw.set.showMap.reloadLog.set.checkIdentity
  exact .ite hv.modMgmt (.stage (.ite hx.strapBad hx))

theorem KeepsNext.execColdReset {straps : BitVec 15} {recovery : Bool} {clock : Bool} (h : Keeps s t) :
    KeepsNext s (execColdReset straps recovery t clock) :=
  .next h.coldReset

theorem KeepsNext.execPowerOnDetect {straps : BitVec 15} {recovery : Bool} {clock : Bool} (h : Keeps s t) :
    KeepsNext s (execPowerOnDetect straps recovery t clock) :=
  .next h.coldReset

end Sys2Proof.Machine
end

section
/-! PROOF. The functions of Machine/Ports.lean keep the form of memory and the balance of the Ledger. -/
namespace Sys2Proof.Machine
set_option Elab.async false
variable {s t u : State}

theorem KeepsNext.execLinkTrained {p : PortNo} (h : Keeps s t) :
    KeepsNext s (execLinkTrained p t) :=
  .next (.ite h.set h)

theorem KeepsNext.execTrainFail {p : PortNo} (h : Keeps s t) :
    KeepsNext s (execTrainFail p t) :=
  .next (.ite h.set h)

theorem KeepsNext.execLossOfSignal {p : PortNo} (h : Keeps s t) :
    KeepsNext s (execLossOfSignal p t) :=
  .next (.ite h.dropLink h)

theorem Keeps.retrain {p : Nat} (h : Keeps s t) :
    Keeps s (t.retrain p) := .ite h h.dropLink

theorem KeepsNext.execRetrain {p : PortNo} (h : Keeps s t) :
    KeepsNext s (execRetrain p t) := .next h.retrain

theorem Keeps.setDisable {p : Nat} {value : Bool} (h : Keeps s t) :
    Keeps s (t.setDisable p value) :=
  .ite (.ite h.set h.set.dropLink) (.ite h.set.dropLink h.set)

theorem KeepsNext.execPortDisableWrite {p : PortNo} {value : Bool} (h : Keeps s t) :
    KeepsNext s (execPortDisableWrite p value t) :=
  .next h.setDisable

theorem KeepsNext.execCapSend {p : PortNo} (h : Keeps s t) :
    KeepsNext s (execCapSend p t) :=
  .next (.ite h.linkMsg h)

theorem Keeps.beginAuth {p : Nat} (h : Keeps s t) :
    Keeps s (t.beginAuth p) := by
  unfold State.beginAuth
  exact .ite h.takeFree.set.modPort.linkMsg h.takeFree.set.modPort.quarantine

theorem KeepsNext.execCap {p : PortNo} (h : Keeps s t) :
    KeepsNext s (execCap p t) := by
  unfold Machine.execCap
  dsimp only
  refine .next ?_
  split
  · exact h
  · split
    · exact h.takeIn
    · exact .ite h.takeIn.set.set.quarantine h.takeIn.set.set.set.beginAuth

theorem KeepsNext.execNegotiateTimeout {p : PortNo} (h : Keeps s t) :
    KeepsNext s (execNegotiateTimeout p t) :=
  .next (.ite h.dropLink h)

theorem Keeps.sendProof {p : Nat} {peer : List Byte} (h : Keeps s t) :
    Keeps s (t.sendProof p peer) :=
  .ite h (h.add.foldl (fun _ _ h => h.linkMsg))

theorem KeepsNext.execAuthChal {p : PortNo} (h : Keeps s t) :
    KeepsNext s (execAuthChal p t) := by
  unfold Machine.execAuthChal
  refine .next ?_
  split
  · exact h
  · exact .ite h.takeIn h.takeIn.modPort.sign

theorem Keeps.tryUp {p : Nat} (h : Keeps s t) :
    Keeps s (t.tryUp p) := .ite h.set.holdover h

theorem KeepsNext.execAuthProof {p : PortNo} (h : Keeps s t) :
    KeepsNext s (execAuthProof p t) := by
  unfold Machine.execAuthProof
  dsimp only
  refine .next ?_
  split
  · exact h
  · split
    · exact h.takeIn
    · split
      · exact h.takeIn.modPort
      · split
        · exact h.takeIn.modPort.verify.modPort.linkMsg.tryUp
        · exact h.takeIn.modPort.verify.quarantine.linkMsg

theorem KeepsNext.execAuthResult {p : PortNo} (h : Keeps s t) :
    KeepsNext s (execAuthResult p t) := by
  unfold Machine.execAuthResult
  refine .next ?_
  split
  · exact h
  · exact .ite h.takeIn (.ite h.takeIn.modPort.tryUp h.takeIn.quarantine)

theorem KeepsNext.execAuthTimeout {p : PortNo} (h : Keeps s t) :
    KeepsNext s (execAuthTimeout p t) :=
  .next (.ite h.quarantine h)

theorem KeepsNext.execSyncSend (h : Keeps s t) :
    KeepsNext s (execSyncSend t) := by
  unfold Machine.execSyncSend
  refine .next ?_
  split
  · exact h
  · exact h.syncMsg

theorem KeepsNext.execSync (h : Keeps s t) :
    KeepsNext s (execSync t) := by
  unfold Machine.execSync
  refine .next ?_
  split
  · exact h
  · exact .ite h.takeIn h.takeIn.syncMsg

theorem Keeps.correctEpoch {off : Int} (h : Keeps s t) :
    Keeps s (t.correctEpoch off) :=
  .ite h.modFab.add h.modFab

theorem Keeps.syncDone {parent : Nat} {t1 t2 t3 t4 : Int} (h : Keeps s t) : Keeps s (t.syncDone parent t1 t2 t3 t4) := by
  unfold State.syncDone
  extract_lets off delay u v w
  have hv : Keeps s v := .ite h.set.set.set h.set.set
  have hw : Keeps s w := hv.correctEpoch.modFab
  exact .ite hw.set hw

theorem KeepsNext.execSyncResp (h : Keeps s t) :
    KeepsNext s (execSyncResp t) := by
  unfold Machine.execSyncResp
  refine .next ?_
  split
  · exact h
  · exact .ite h.takeIn.syncDone h.takeIn

theorem KeepsNext.execRefclkLoss (h : Keeps s t) :
    KeepsNext s (execRefclkLoss t) :=
  .next (.ite h.modPower h.modPower.set.set.report)

theorem KeepsNext.execRefclkRestore (h : Keeps s t) :
    KeepsNext s (execRefclkRestore t) :=
  .next h.modPower.set

end Sys2Proof.Machine
end

section
/-! PROOF. The functions of Machine/Ingot.lean keep the form of memory and the balance of the Ledger. -/
namespace Sys2Proof.Machine
set_option Elab.async false
variable {s t u : State}

theorem Keeps.ingotCheck {img : List Byte} (h : Keeps s t) :
    Keeps s (t.ingotCheck img).2 := by
  unfold State.ingotCheck
  split
  · exact h
  · exact h.verifyImage

theorem Keeps.enterRecovery {reason : Nat} {status : Nat} (h : Keeps s t) :
    Keeps s (t.enterRecovery reason status) := by
  unfold State.enterRecovery
  exact h.mainOff.modPower.slvEvent.modMgmt

theorem slvKey_of_inLedger {again : Bool} {k : Nat} (h : InLedger k) : slvKey again k = true := by
  rw [slvKey, keyIn_of_inLedger h (.inl (by decide))]
  rfl

theorem get_keepRegs_slvKey {again : Bool} {f : Fld} (h : InLedger f.key) : (t.keepRegs (slvKey again)).get f = t.get f :=
  congrArg (· % 2 ^ f.width) (tget_filter_of_kept f.reset t.flds fun _ => slvKey_of_inLedger h)

theorem Keeps.keepRegs_slvKey {again : Bool} (h : Keeps s t) : Keeps s (t.keepRegs (slvKey again)) :=
  h.trans ⟨id, ledgerBalanced_congr (get_keepRegs_slvKey inLedger_outstanding) (fun _ hn => get_keepRegs_slvKey (inLedger_held hn)) rfl rfl⟩

theorem Keeps.slvReset {cause : Nat} (h : Keeps s t) : Keeps s (t.slvReset cause) := by
  unfold State.slvReset
  refine .set (.set (.modPower (.readRec (.noTest ?_ fun _ => rfl))))
  exact h.slvEvent.keepRegs_slvKey

theorem KeepsNext.execLockstepMismatch (h : Keeps s t) :
    KeepsNext s (execLockstepMismatch t) :=
  .next (.ite h h.set.report.slvReset)

theorem KeepsNext.execWatchdogExpire (h : Keeps s t) :
    KeepsNext s (execWatchdogExpire t) :=
  .next (.ite h (.ite h.slvReset.modMgmt.enterRecovery h.slvReset.modMgmt))

theorem Keeps.startIngot {img : List Byte} (h : Keeps s t) :
    Keeps s (t.startIngot img) :=
  h.modMgmt.set.set.set

theorem KeepsNext.execBootVerify (h : Keeps s t) : KeepsNext s (Machine.execBootVerify t) := by
  refine .next (.ite h ?_)
  extract_lets resume u img
  have hu : Keeps s u := .ite h.stage h.set
  have hcheck : Keeps s (u.ingotCheck img).2 := hu.ingotCheck
  generalize u.ingotCheck img = p at hcheck ⊢
  obtain ⟨st, v⟩ := p
  have hstart : Keeps s (v.startIngot img) := Keeps.startIngot hcheck
  exact .ite hu.enterRecovery (.ite (Keeps.enterRecovery hcheck) (.ite hstart.stage.modMgmt (.ite hstart.set.modMgmt
    (.modMgmt (.ite hstart.mainOff hstart)))))

end Sys2Proof.Machine
end

section
/-! PROOF. The functions of Machine/Selvedge.lean keep the form of memory and the balance of the Ledger. -/
namespace Sys2Proof.Machine
set_option Elab.async false
variable {s t u : State}

theorem Keeps.emit {x : MgmtMsg} (h : Keeps s t) :
    Keeps s (t.emit x) := h.modMgmt

theorem Keeps.answerPort {h' : MgmtHdr} {op : Nat} {status : Nat} {body : List Byte} (h : Keeps s t) :
    Keeps s (t.answerPort h' op status body) :=
  h.emit

theorem Keeps.slvFinish {c : SlvCmd} {st : Nat} (h : Keeps s t) :
    Keeps s (t.slvFinish c st) := by
  unfold State.slvFinish
  split
  · exact h.set.set.set.modMgmt.modPower.answerPort
  · exact h.set.set.set.modMgmt.modPower

theorem Keeps.slvBegin {c : SlvCmd} (h : Keeps s t) :
    Keeps s (t.slvBegin c) := h.set.modMgmt

theorem Keeps.cmdLost (h : Keeps s t) :
    Keeps s (t.cmdLost) := h.set.report

theorem Keeps.slvIssue {src : CmdSrc} {op : Nat} {run : SlvCmd → State → State} (h : Keeps s t) (hk : ∀ x0 x1, Keeps s x1 → Keeps s (run x0 x1)) :
    Keeps s (t.slvIssue src op run) := by
  unfold State.slvIssue
  split
  · exact .ite h (.ite h.cmdLost (hk _ _ h.slvBegin))
  · split
    · exact h
    · split
      · exact h.answerPort
      · split
        · exact h.answerPort
        · split
          · exact h.answerPort
          · exact .ite h.answerPort (.ite h.slvBegin.slvFinish (hk _ _ h.slvBegin))

theorem Keeps.slvLong {src : CmdSrc} {op : Nat} (h : Keeps s t) :
    Keeps s (t.slvLong src op) :=
  h.slvIssue (fun _ _ h1 => h1)

theorem Keeps.slvRead {a : Nat} {n : Nat} (h : Keeps s t) :
    Keeps s (t.slvRead a n).2.2 := by
  unfold State.slvRead
  dsimp only
  split
  · dsimp only
    exact h.devFetch.readPoison
  · dsimp only
    exact h.devFetch

theorem Keeps.slvImage {a : Nat} {limit : Nat} (h : Keeps s t) : Keeps s (t.slvImage a limit).2 := by
  have hread : Keeps s (t.slvRead a 64).2.2 := h.slvRead
  unfold State.slvImage
  generalize t.slvRead a 64 = r at hread ⊢
  split
  · exact h
  · dsimp only
    split
    · exact hread
    · exact hread.slvRead

theorem Keeps.commitRecord {op : Nat} {st : Nat} {m : List Byte} (h : Keeps s t) :
    Keeps s (t.commitRecord op st m) :=
  h.slvEvent

theorem Keeps.stagePut {a : Nat} {l : List Byte} (h : Keeps s t) :
    Keeps s (t.stagePut a l) := h.modMgmt

theorem Keeps.stageDone {c : SlvCmd} (h : Keeps s t) : Keeps s (t.stageDone c) := by
  unfold State.stageDone
  extract_lets a u
  have hu : Keeps s u := h.modMgmt
  have himage : Keeps s (u.slvImage a 0x800000).2 := hu.slvImage
  dsimp only
  refine .slvFinish (.commitRecord (.ite (.modMgmt (.iteSnd ?_ (.ingotCheck ?_))) (.iteSnd ?_ (.ingotCheck ?_))))
  all_goals
    refine .iteSnd hu (.iteSnd hu ?_)
    split
    next hi =>
      rw [hi] at himage
      exact himage
    next hi =>
      rw [hi] at himage
      exact Keeps.stagePut himage

theorem KeepsNext.execStage {src : CmdSrc} (h : Keeps s t) :
    KeepsNext s (execStage src t) := .next h.slvLong

theorem Keeps.commitBegin {len : Nat} {m : List Byte} (h : Keeps s t) :
    Keeps s (t.commitBegin len m) :=
  h.writeRec.flashErase

theorem Keeps.commitEnd {flashBad : Bool} (h : Keeps s t) :
    Keeps s (t.commitEnd flashBad).2 := by
  unfold State.commitEnd
  dsimp only
  split
  · exact h
  · dsimp only
    exact h.flashWrite.writeRec

theorem KeepsNext.execCommit {src : CmdSrc} (h : Keeps s t) :
    KeepsNext s (execCommit src t) := by
  unfold Machine.execCommit
  refine .next ?_
  refine .slvIssue h (fun _ _ h1 => ?_)
  split
  · exact h1.commitRecord.slvFinish
  · exact h1.commitBegin

theorem Keeps.commitDone {c : SlvCmd} {flashBad : Bool} (h : Keeps s t) :
    Keeps s (t.commitDone c flashBad) :=
  h.commitEnd.commitRecord.slvFinish

theorem Keeps.burnRail (h : Keeps s t) :
    Keeps s (t.burnRail) := h.modPower

theorem KeepsNext.execFuseAdvance {src : CmdSrc} (h : Keeps s t) :
    KeepsNext s (execFuseAdvance src t) :=
  .next (h.slvIssue (fun _ _ h1 => .ite (.ite h1.slvFinish h1.burnRail) h1))

theorem fuseTarget_offLedger (s : State) (c : SlvCmd) : (s.fuseTarget c).1.offLedger = true := by
  unfold State.fuseTarget
  split <;> rfl

theorem Keeps.fuseDone {c : SlvCmd} (h : Keeps s t) : Keeps s (t.fuseDone c) :=
  .ite h.slvFinish (.ite h.slvFinish (.ite h.slvFinish (h.set (fuseTarget_offLedger t c)).slvEvent.slvFinish))

theorem KeepsNext.execCardPersist {src : CmdSrc} (h : Keeps s t) :
    KeepsNext s (execCardPersist src t) := by
  unfold Machine.execCardPersist
  refine .next ?_
  refine .orWait h (fun _ h1 => ?_)
  refine .slvIssue h1 (fun _ _ h2 => ?_)
  split
  · exact h2.commitRecord.slvFinish
  · exact .ite h2.slvImage.commitRecord.slvFinish h2.slvImage.modMgmt

theorem Keeps.persistDone {c : SlvCmd} {flashBad : Bool} (h : Keeps s t) :
    Keeps s (t.persistDone c flashBad) := by
  unfold State.persistDone
  split
  · exact h.modMgmt.flashErase.commitRecord.slvFinish
  · exact h.modMgmt.flashErase.flashWrite.writeRec.commitRecord.slvFinish

theorem Keeps.produce {nonce : List Byte} (h : Keeps s t) :
    Keeps s (t.produce nonce).2 := h.add.slvEvent

theorem KeepsNext.execAssay {src : CmdSrc} (h : Keeps s t) :
    KeepsNext s (execAssay src t) :=
  .next (h.slvIssue (fun _ _ h1 => .ite h1.sign h1.slvFinish))

theorem Keeps.assayDone {c : SlvCmd} (h : Keeps s t) :
    Keeps s (t.assayDone c) :=
  .ite h (.ite h.signDone.slvFinish h.signDone.produce.devWrite.slvFinish)

theorem KeepsNext.execProvision {src : CmdSrc} (h : Keeps s t) :
    KeepsNext s (execProvision src t) := by
  unfold Machine.execProvision
  refine .next ?_
  refine .orWait h (fun _ h1 => ?_)
  refine .slvIssue h1 (fun _ _ h2 => ?_)
  split
  · exact h2.slvFinish
  · exact .ite h2.slvFinish (.ite h2.slvRead.slvFinish h2.slvRead.burnRail.modMgmt)

theorem Keeps.provisionDone {c : SlvCmd} (h : Keeps s t) :
    Keeps s (t.provisionDone c) :=
  .ite h.modMgmt.slvFinish h.modMgmt.set.set.set.slvFinish

theorem Keeps.benchStack {k : Nat} {cause : Nat} (h : Keeps s t) :
    Keeps s (t.benchStack k cause) := by
  unfold State.benchStack
  exact h.set.flushStack.set.benchRecord.writeRec

theorem ethLinks_offLedger (p : Nat) :
    ∀ f ∈ (List.range 3).flatMap fun k => [ETH_STATUS_LINK (3 * p + k), ETH_STATUS_FEC_LOCK (3 * p + k), ETH_STATUS_AN_DONE (3 * p + k)],
      f.offLedger = true := by
  simp only [List.forall_mem_flatMap, List.forall_mem_cons]
  exact fun k _ => ⟨offLedger_behind rfl, offLedger_behind rfl, offLedger_behind rfl, List.forall_mem_nil _⟩

theorem Keeps.benchPort {p : Nat} {cause : Nat} (h : Keeps s t) (hp : LedgerBalanced s → p < 144 := by exact fun _ => by omega) :
    Keeps s (t.benchPort p cause) := by
  unfold State.benchPort
  exact .writeRec (.benchRecord (.ethDomain (.clearAll (.setDisable (.modMgmt h.set)) (ethLinks_offLedger p)) hp))

theorem Keeps.benchChan {c : Nat} {cause : Nat} (h : Keeps s t) :
    Keeps s (t.benchChan c cause) := by
  unfold State.benchChan
  exact h.set.modMgmt.benchRecord.writeRec

theorem Keeps.benchUnit {u cause : Nat} (h : Keeps s t) (hu : LedgerBalanced s → u < 256 * 144 := by exact fun _ => by omega) :
    Keeps s (t.benchUnit u cause) := by
  have hn : LedgerBalanced s → u / 256 < 144 := fun hb => Nat.div_lt_of_lt_mul (hu hb)
  unfold State.benchUnit
  split
  · exact h.benchLoom hn
  · exact h.benchStack
  · exact h.benchPort hn
  · exact h.benchChan
  · exact h

theorem KeepsNext.execBench {why : BenchWhy} (h : Keeps s t) : KeepsNext s (Machine.execBench why t) := by
  unfold Machine.execBench
  refine .next ?_
  split
  · exact h.slvIssue fun c u hu => .iteOf (fun _ => hu.slvFinish) fun hc => (hu.benchUnit fun _ => lt_of_unitOk (by simpa using hc) (by
        decide)).slvFinish
  · exact .ite h.benchLoom h

theorem Keeps.unbenchUnit {u' : Nat} (h : Keeps s t) :
    Keeps s (t.unbenchUnit u') :=
  h.writeRec.showMap.slvEvent

theorem KeepsNext.execUnbench {src : CmdSrc} (h : Keeps s t) :
    KeepsNext s (execUnbench src t) :=
  .next (h.slvIssue (fun _ _ h1 => .ite h1.slvFinish h1.unbenchUnit.slvFinish))

theorem KeepsNext.execSelfReset {src : CmdSrc} (h : Keeps s t) :
    KeepsNext s (execSelfReset src t) :=
  .next (h.slvIssue (fun _ _ h1 => h1.slvFinish.slvReset))

theorem testKinds_le (x : Nat) : ∀ k ∈ testKinds x, k.2 ≤ 144 := by
  unfold testKinds
  split <;> decide

theorem lt_of_mem_testLooms {u x n : Nat} (hu : u < 256 * 144) (h : n ∈ s.testLooms u x) : n < 144 := by
  unfold State.testLooms at h
  split at h
  · exact absurd h List.not_mem_nil
  · split at h
    · rw [List.mem_singleton.1 h]
      omega
    · exact lt_of_mem_boltLooms h

/-- A test begins on a unit and looms that exist. -/
theorem Keeps.beginTest {x : TestRun} (h : Keeps s t) (hu : x.unit < 256 * 144) (hl : ∀ n ∈ x.looms, n < 144) :
    Keeps s (t.modMgmt fun m => { m with test := some x }) :=
  h.trans ⟨id, fun ⟨hsum, hreq, _⟩ => ⟨hsum, hreq, fun _ hx => Option.some.inj hx ▸ ⟨hu, hl⟩⟩⟩

theorem KeepsNext.execTest {src : CmdSrc} (h : Keeps s t) : KeepsNext s (Machine.execTest src t) := by
  refine .next (h.slvIssue fun c t h => .iteOf (fun _ => h.slvFinish) fun hok => .ite h.slvFinish ?_)
  have hu : c.arg 0 < 256 * 144 := lt_of_unitOk (by simpa using hok) (testKinds_le _)
  exact (h.foldl fun _ _ h => h.set).beginTest hu fun n hn => lt_of_mem_testLooms hu hn

theorem Keeps.filterBytes {p : Host.Cell → Bool} (h : Keeps s t) : Keeps s { t with mem := t.mem.filter p } :=
  h.ofMemory fun g => ⟨twf_filter p g.1, g.2⟩

theorem Keeps.reloadDraft {n : Nat} (h : Keeps s t) : Keeps s (t.reloadDraft n) := by
  unfold State.reloadDraft
  refine .ite h.filterBytes ?_
  dsimp only
  split
  · exact h.filterBytes.draftFetch
  · exact h.filterBytes.draftFetch.withDrafts

theorem Keeps.zeroSpad {n : Nat} (h : Keeps s t) : Keeps s (t.zeroSpad n) := h.filterMem

theorem Keeps.bistLoom {n : Nat} (h : Keeps s t) (hn : LedgerBalanced s → n < 144 := by exact fun _ => by omega) : Keeps s (t.bistLoom n) :=
  (h.haltLoom hn).clear.clear.clear.clear.zeroSpad.modArr.withFreeCount.clear.clear.reloadDraft

theorem Keeps.testEnd {x : TestRun} {st : Nat} {fail : Nat × Nat} (h : Keeps s t) : Keeps s (t.testEnd x st fail) := by
  have hend : Keeps s ((x.bolts.foldl (fun s b => if s.get (BLT_STATE b) = 2 then s.set (BLT_STATE b) 1 else s)
      ((((t.set SLV_TEST_STS_STATUS st).set SLV_TEST_STS_TEST x.test).set SLV_TEST_STS_UNIT x.unit).slvEvent 0x0008 (if st = 0 then 0 else 2)
        (le16 x.unit ++ [x.test, st, fail.1, 0] ++ le16 fail.2))).modMgmt fun m => { m with test := none }) :=
    (h.set.set.set.slvEvent.foldl fun _ _ h => .ite h.set h).noTest fun _ => rfl
  unfold State.testEnd
  dsimp only
  split
  · exact hend.slvFinish
  · exact hend

theorem KeepsNext.execTestStart {fail : Option (Nat × Nat)} (h : Keeps s t) : KeepsNext s (Machine.execTestStart fail t) := by
  refine .next (h.orWait fun t h => ?_)
  split
  · exact h
  next x hx =>
    have hbounds : LedgerBalanced s → x.unit < 256 * 144 ∧ ∀ n ∈ x.looms, n < 144 := fun hb => (h.ledger hb).2.2 x hx
    refine .ite h ?_
    have hbist : Keeps s (if x.test = 1 then x.looms.foldl State.bistLoom t else t) :=
      .ite (h.foldlMem fun _ n hn h => h.bistLoom fun hb => (hbounds hb).2 n hn) h
    dsimp only
    split
    · exact hbist.testEnd
    · refine .ite (.iteOf (fun hmem => hbist.testEnd.benchLoom fun hb => (hbounds hb).2 _ (List.contains_iff_mem.1 hmem)) fun _ => hbist.testEnd) ?_
      exact hbist.testEnd.benchUnit fun hb => (hbounds hb).1

theorem KeepsNext.execTestDrainTimeout (h : Keeps s t) :
    KeepsNext s (execTestDrainTimeout t) := by
  unfold Machine.execTestDrainTimeout
  refine .next ?_
  split
  · exact h
  · exact .ite h h.testEnd

theorem KeepsNext.execSlvCommandDone {flashBad : Bool} (h : Keeps s t) :
    KeepsNext s (execSlvCommandDone flashBad t) := by
  unfold Machine.execSlvCommandDone
  refine .next ?_
  refine .orWait h (fun _ h1 => ?_)
  split
  · exact h1
  · split
    · exact h1.stageDone
    · exact h1.commitDone
    · exact h1.fuseDone
    · exact h1.persistDone
    · exact h1.assayDone
    · exact h1.provisionDone
    · exact h1

theorem Keeps.slvReserved {src : CmdSrc} {op : Nat} (h : Keeps s t) :
    Keeps s (t.slvReserved src op) :=
  h.slvIssue (fun _ _ h1 => h1.slvFinish)

theorem Keeps.serve {h' : MgmtHdr} {op : Nat} {rec_ : Bool} {stby : Bool} {k : State → State} (h : Keeps s t) (hk : ∀ x0, Keeps s x0 → Keeps s (k
    x0)) :
    Keeps s (t.serve h' op rec_ stby k) :=
  .ite h (.ite h.answerPort (.ite h.answerPort (hk _ h)))

theorem KeepsNext.execHello (h : Keeps s t) :
    KeepsNext s (execHello t) := by
  unfold Machine.execHello
  refine .next ?_
  split
  · exact h
  · exact h.emit

theorem KeepsNext.execLogRead {h' : MgmtHdr} {first : Nat} {count : Nat} (h : Keeps s t) :
    KeepsNext s (execLogRead h' first count t) :=
  .next (h.serve (fun _ h1 => .ite h1.answerPort h1.answerPort))

theorem KeepsNext.execSensors {h' : MgmtHdr} (h : Keeps s t) :
    KeepsNext s (execSensors h' t) :=
  .next (h.serve (fun _ h1 => h1.answerPort))

theorem Keeps.sendReport {l : List Byte} {q : MgmtHdr × Nat} (h : Keeps s t) :
    Keeps s (t.sendReport l q) :=
  h.answerPort

theorem Keeps.askReport {h' : MgmtHdr} {nonce : List Byte} {off : Nat} (h : Keeps s t) :
    Keeps s (t.askReport h' nonce off) := by
  unfold State.askReport
  split
  · exact .ite h.modMgmt h.answerPort
  · exact .ite h.answerPort h.modMgmt.sign

theorem KeepsNext.execAssayGet {h' : MgmtHdr} {nonce : List Byte} {off : Nat} (h : Keeps s t) :
    KeepsNext s (execAssayGet h' nonce off t) := by
  unfold Machine.execAssayGet
  refine .next ?_
  refine .serve h (fun _ h1 => ?_)
  split
  · exact h1.answerPort
  · split
    · exact h1.answerPort
    · split
      · exact h1.sendReport
      · exact h1.askReport

theorem Keeps.reportMade {nonce : List Byte} (h : Keeps s t) :
    Keeps s (t.reportMade nonce) :=
  h.produce.modMgmt.foldl (fun _ _ h => h.sendReport)

theorem Keeps.signTick (h : Keeps s t) :
    Keeps s (t.signTick) := by
  unfold State.signTick
  split
  · exact h
  · split
    · exact h
    · split
      · exact h.sendProof.signDone
      · exact h.reportMade.signDone
      · exact h

theorem KeepsNext.execAuth {h' : MgmtHdr} {proof : List Byte} (h : Keeps s t) :
    KeepsNext s (execAuth h' proof t) := by
  unfold Machine.execAuth
  dsimp only
  refine .next ?_
  refine .serve h (fun _ h1 => ?_)
  split
  · exact h1.takeFree.modMgmt.answerPort
  · split
    · exact h1.answerPort
    · split
      · exact h1.verify.modMgmt.slvEvent.answerPort
      · exact h1.verify.modMgmt.takeFree.modMgmt.set.slvEvent.answerPort

theorem KeepsNext.execData {h' : MgmtHdr} {off : Nat} {_gap : BitVec 32} {data : List Byte} (h : Keeps s t) :
    KeepsNext s (execData h' off _gap data t) :=
  .next (h.serve (fun _ h1 => .ite h1.answerPort (.ite h1.answerPort h1.stagePut.answerPort)))

theorem KeepsNext.execEndRecovery {h' : MgmtHdr} {len : Nat} {flashBad : Bool} (h : Keeps s t) :
    KeepsNext s (Machine.execEndRecovery h' len flashBad t) := by
  refine .next (h.serve fun t h => .ite h.answerPort ?_)
  have hcheck : Keeps s (if 0x800000 < len then (7, t) else t.ingotCheck (t.stageBytes 0 (min 0x800000 len))).2 := .iteSnd h h.ingotCheck
  have hcommit := fun m => (hcheck.commitBegin (len := len) (m := m)).commitEnd (flashBad := flashBad)
  exact .ite hcheck.answerPort (.ite (hcommit _).commitRecord.answerPort (hcommit _).commitRecord.answerPort.modMgmt.slvReset)

theorem KeepsNext.execSessionTimeout (h : Keeps s t) :
    KeepsNext s (execSessionTimeout t) :=
  .next h.modMgmt.set

theorem KeepsNext.execMgmtLinkFallback (h : Keeps s t) :
    KeepsNext s (execMgmtLinkFallback t) :=
  .next h.modMgmt

end Sys2Proof.Machine
end

section
/-! PROOF. The functions of Machine/Power.lean keep the form of memory and the balance of the Ledger. -/
namespace Sys2Proof.Machine
set_option Elab.async false
variable {s t u : State}

theorem Keeps.putVolt {n : Nat} {row : Nat} (h : Keeps s t) :
    Keeps s (t.putVolt n row) := h.withVoltTo

theorem Keeps.freqNow {n : Nat} {v : Nat} (h : Keeps s t) (hn : n < 256 := by omega) : Keeps s (t.freqNow n v) := by
  unfold State.freqNow
  exact (((h.set (offLedger_before hn rfl)).set (offLedger_before hn rfl)).set (offLedger_before hn rfl)).markSlow

theorem Keeps.slewNow {n : Nat} (h : Keeps s t) (hn : n < 256 := by omega) : Keeps s (t.slewNow n) :=
  (h.set (offLedger_before hn rfl)).set (offLedger_before hn rfl)

theorem Keeps.freqTake {n : Nat} {v : Nat} (h : Keeps s t) (hn : n < 256 := by omega) : Keeps s (t.freqTake n v) :=
  .ite ((h.set (offLedger_before hn rfl)).set (offLedger_before hn rfl)) h.freqNow

theorem Keeps.voltTake {n : Nat} {row : Nat} (h : Keeps s t) (hn : n < 256 := by omega) : Keeps s (t.voltTake n row) :=
  .ite h (.ite (h.putVolt.set (offLedger_before hn rfl)) h.putVolt.slewNow)

/-- A loom that does not exist has a status other than 0. -/
theorem lt_of_dvfsStatus {volt : Bool} {n v : Nat} (h : s.dvfsStatus volt n v = 0) : n < 144 := by
  by_contra hn
  have : s.dvfsStatus volt n v = 1 := if_pos (by simp only [Bool.or_eq_true, decide_eq_true_eq]; omega)
  omega

theorem Keeps.dvfs {volt : Bool} {n v : Nat} (h : Keeps s t) : Keeps s (t.dvfs volt n v) := by
  unfold State.dvfs
  refine .iteOf (fun _ => h.set.set) fun hst => ?_
  have hn : n < 144 := lt_of_dvfsStatus (by simpa using hst)
  exact .wakeDomain (.ite h.set.set.voltTake h.set.set.freqTake)

theorem KeepsNext.execDvfsFreq {loom : Nat} {value : Nat} (h : Keeps s t) :
    KeepsNext s (execDvfsFreq loom value t) :=
  .next h.dvfs

theorem KeepsNext.execDvfsVolt {loom : Nat} {value : Nat} (h : Keeps s t) :
    KeepsNext s (execDvfsVolt loom value t) :=
  .next h.dvfs

theorem Keeps.dvfsPend {n : Nat} (h : Keeps s t) (hn : n < 256 := by omega) : Keeps s (t.dvfsPend n) := .ite h (.ite h.slewNow h.freqNow)

theorem KeepsNext.execDvfsApply {n : LoomNo} (h : Keeps s t) :
    KeepsNext s (execDvfsApply n t) :=
  .next (.ite h.dvfsPend h)

theorem Keeps.steer {n : Nat} (h : Keeps s t) : Keeps s (t.steer n) := by
  unfold State.steer
  refine .ite h ?_
  exact .ite (.dvfs (.ite h.dvfs h)) (.ite (.dvfs (.ite h.dvfs h)) (.ite h.dvfs h))

theorem KeepsNext.execVoltSlewDone {n : LoomNo} (h : Keeps s t) : KeepsNext s (Machine.execVoltSlewDone n t) := by
  have hput : Keeps s (((t.set (PWR_LOOM_OPP_ROW n) (tget 0 t.voltTo n - 1)).set (PWR_LOOM_OPP_SLEWING n) 0).putVolt n 0) :=
    ((h.set (offLedger_before n.isLt rfl)).set (offLedger_before n.isLt rfl)).putVolt
  exact .next (.ite h (.ite hput.steer hput))

theorem Keeps.temperDie {d : Nat} (h : Keeps s t) : Keeps s (t.temperDie d) := by
  have hhot : Keeps s (if t.hot d then t.set (TMP_DIE_HOT d) 1 else if t.cool d then t.set (TMP_DIE_HOT d) 0 else t) := .ite h.set (.ite h.set h)
  exact .ite hhot hhot.set.set.modPower

theorem Keeps.floorWatch (h : Keeps s t) :
    Keeps s (t.floorWatch) := by
  unfold State.floorWatch
  dsimp only
  split
  · exact h.foldl (fun _ _ h => .set (.ite h.set.report h))
  · exact .add (h.foldl (fun _ _ h => .set (.ite h.set.report h)))

theorem Keeps.coreStep (h : Keeps s t) :
    Keeps s (t.coreStep) := .ite h.set (.ite h.set h)

theorem Keeps.setBudget (h : Keeps s t) :
    Keeps s (t.setBudget) := h.set.ledgerShow

theorem KeepsNext.execTemperPeriod (h : Keeps s t) :
    KeepsNext s (execTemperPeriod t) := by
  unfold Machine.execTemperPeriod
  refine .next ?_
  split
  · exact h
  · exact .floorWatch (h.temperDie.temperDie.setBudget.coreStep.set.foldl (fun _ _ h => h.steer))

theorem KeepsNext.execLdgCntClr (h : Keeps s t) :
    KeepsNext s (execLdgCntClr t) := .next h.clear.clear

theorem Keeps.tripDie {d : Nat} (h : Keeps s t) (hd : d < 2 := by omega) : Keeps s (t.tripDie d) := by
  unfold State.tripDie
  refine .markSlow (h.set.set.addHold.report.foldlMem fun _ n hn h => .putVolt (h.clearAll ?_))
  have hn : n < 144 := by
    simp only [List.mem_map, List.mem_range] at hn
    omega
  simp only [List.forall_mem_cons]
  exact ⟨offLedger_before hn rfl, offLedger_before hn rfl, offLedger_before hn rfl, offLedger_before hn rfl, offLedger_before hn rfl,
    List.forall_mem_nil _⟩

theorem Keeps.tripWatch {d : Nat} (h : Keeps s t) (hd : d < 2 := by omega) : Keeps s (t.tripWatch d) :=
  .ite (.ite h h.tripDie) (.ite h.set.set h)

theorem Keeps.stopMain (h : Keeps s t) :
    Keeps s (t.stopMain) := h.mainOff.modPower.modMgmt

theorem Keeps.shutdown (h : Keeps s t) :
    Keeps s (t.shutdown) :=
  .ite h (.modPower (.stopMain (.ite h h.fatal)))

theorem lt_of_sensorDie {i d : Nat} (h : sensorDie i = some d) : d < 2 := by
  unfold sensorDie at h
  split_ifs at h
  all_goals
    rw [← Option.some.inj h]
    decide

theorem Keeps.tempSample {i : Nat} {deg : BitVec 16} (h : Keeps s t) (hi : i < 76 := by omega) : Keeps s (t.tempSample i deg) := by
  have hset : Keeps s (t.set (SLV_TEMP_DEG i) deg.toNat) := h.set (offLedger_before hi rfl)
  unfold State.tempSample
  refine .shutdown ?_
  split
  next hd => exact Keeps.tripWatch (.ite hset hset.set.set) (lt_of_sensorDie hd)
  next => exact .ite hset hset.set.set

theorem Keeps.railSample {r : Nat} {mv : Nat} (h : Keeps s t) (hr : r < 16 := by omega) : Keeps s (t.railSample r mv) := by
  unfold State.railSample
  exact .modPower (h.set (offLedger_before hr rfl))

theorem KeepsNext.execSensorSample {x : Sample} (h : Keeps s t) : KeepsNext s (Machine.execSensorSample x t) := by
  cases x with
  | temp i deg => exact .next h.tempSample
  | rail r mv => exact .next h.railSample
  | icore k amps => exact .next (h.set (offLedger_before k.isLt rfl))

theorem Keeps.railFault {r : Nat} (h : Keeps s t) :
    Keeps s (t.railFault r) := .ite h h.fatal.stopMain

theorem KeepsNext.execRailFault {r : Fin 16} (h : Keeps s t) :
    KeepsNext s (execRailFault r t) :=
  .next (.ite h.railFault h)

theorem KeepsNext.execPmbAlert {r : Fin 16} {fault : Bool} (h : Keeps s t) :
    KeepsNext s (execPmbAlert r fault t) :=
  .next (.ite h.railFault h)

theorem Keeps.voteWake (h : Keeps s t) : Keeps s t.voteWake := by
  refine .ite h (h.foldlMem fun _ d hd h => ?_)
  have hd' : d < 256 := by
    rcases List.mem_append.1 hd with hd | hd
    · have := List.mem_range.1 hd
      omega
    · have := List.mem_singleton.1 hd
      omega
  exact .ite h.wakeDomain h

theorem KeepsNext.execDomainQuietExpire {d : Fin 164} (h : Keeps s t) : KeepsNext s (Machine.execDomainQuietExpire d t) :=
  .next (.ite (h.foldlMem fun _ _ hx h => h.setDomain (lt_of_mem_withDomain d.isLt hx)) h)

theorem KeepsNext.execDomainSaveDone {d : Fin 164} (h : Keeps s t) : KeepsNext s (Machine.execDomainSaveDone d t) := by
  have hsave : Keeps s ((withDomain d).foldl (fun s x => s.set (PWR_DOM_STATE x) 1)
      (if (withDomain d).length = 12 then (List.range 12).foldl State.flushStack t else t)) :=
    .foldlMem (.ite (h.foldl fun _ _ h => h.flushStack) h) fun _ x hx h => h.setDomain (lt_of_mem_withDomain d.isLt hx)
  exact .next (.ite h (.ite hsave.modPower.wakeDomain hsave))

theorem KeepsNext.execSwvotesWrite {d : Fin 164} {value : Nat} (h : Keeps s t) :
    KeepsNext s (Machine.execSwvotesWrite d value t) := by
  have hset : Keeps s (t.set (PWR_DOM_SWVOTES d) value) := h.set (offLedger_before d.isLt rfl)
  exact .next (.ite hset.wakeDomain hset)

theorem Keeps.enterStandby (h : Keeps s t) :
    Keeps s (t.enterStandby) := by
  unfold State.enterStandby
  exact h.logRec.mainOff.modPower

theorem KeepsNext.execStandby (h : Keeps s t) :
    KeepsNext s (execStandby t) :=
  .next (.ite h (.ite h.enterStandby h.set.report))

theorem Keeps.wakeUp {src : Nat} (h : Keeps s t) : Keeps s (t.wakeUp src) := by
  refine .ite h (.modMgmt h.set.modPower.logRec fun m => ?_)
  split
  · rfl
  · rfl

theorem KeepsNext.execWakePattern {p : PortNo} (h : Keeps s t) :
    KeepsNext s (execWakePattern p t) :=
  .next (.ite h.add.wakeUp h.add)

theorem KeepsNext.execEthSignalDetect {e : EthNo} (h : Keeps s t) :
    KeepsNext s (execEthSignalDetect e t) :=
  .next (.ite h.wakeUp h)

theorem KeepsNext.execMgmtWake (h : Keeps s t) :
    KeepsNext s (execMgmtWake t) := .next h.wakeUp

theorem KeepsNext.execBrownOut (h : Keeps s t) :
    KeepsNext s (execBrownOut t) := by
  unfold Machine.execBrownOut
  dsimp only
  refine .next ?_
  split
  · exact h
  · split
    · exact h.addHold.set.report.slvReset.modMgmt.wakeUp
    · exact h.addHold.set.report.slvReset.modMgmt

theorem KeepsNext.execWakeTx {ports : Nat} (h : Keeps s t) :
    KeepsNext s (execWakeTx ports t) :=
  .next h.modPower

end Sys2Proof.Machine
end

section
/-! PROOF. The functions of Machine/Boot.lean keep the form of memory and the balance of the Ledger. -/
namespace Sys2Proof.Machine
set_option Elab.async false
variable {s t u : State}

theorem Keeps.bootStage {k : Nat} {f : State → State} (h : Keeps s t) (hk : ∀ x0, Keeps s x0 → Keeps s (f x0)) :
    Keeps s (t.bootStage k f) :=
  .ite h (hk _ h.stage.modMgmt)

theorem Keeps.bootStop {src : Nat} {inst : Nat} (h : Keeps s t) :
    Keeps s (t.bootStop src inst) :=
  h.fatal.modMgmt.set

theorem Keeps.applyMap (h : Keeps s t) :
    Keeps s (t.applyMap) := by
  unfold State.applyMap
  exact .modMgmt (.foldl (h.foldl (fun _ _ h => h.set)) (fun _ _ h => h.set))

theorem KeepsNext.execBootRails {ok : Bool} (h : Keeps s t) :
    KeepsNext s (execBootRails ok t) := by
  unfold Machine.execBootRails
  refine .next ?_
  split
  · exact h
  · exact h.bootStage (fun _ h1 => .ite h1.applyMap.modPower.bootStop h1.applyMap.modPower.set)

theorem KeepsNext.execBootHbm {fails : Nat} (h : Keeps s t) : KeepsNext s (Machine.execBootHbm fails t) := by
  refine .next (h.bootStage fun t h => h.foldlMem fun _ k hk h => ?_)
  have hd : 144 + k < 164 := by
    have := List.mem_range.1 hk
    omega
  exact .ite (h.setDomain hd) (.ite (h.set.setDomain hd).benchStack (h.set.set.setDomain hd))

theorem KeepsNext.execBootPhy {fails : Nat} (h : Keeps s t) : KeepsNext s (Machine.execBootPhy fails t) :=
  .next (h.bootStage fun _ h => h.foldlMem fun _ p hp h => .ite (h.benchPort fun _ => (List.mem_range.1 hp).trans (by decide)) h)

theorem Keeps.trainChan {c : ChanTrain} (h : Keeps s t) :
    Keeps s (t.trainChan c) := h.modTiers.set.set.set

theorem Keeps.rebuild (h : Keeps s t) :
    Keeps s (t.rebuild) :=
  h.set.flashShow.foldl (fun _ _ h => h.flashShow)

theorem KeepsNext.execBootNand {chans : List ChanTrain} (h : Keeps s t) :
    KeepsNext s (execBootNand chans t) :=
  .next (h.bootStage (fun _ h1 => .rebuild (h1.foldl (fun _ _ h1 => h1.trainChan))))

theorem Keeps.bootLoad {area : Nat} {bad : Bool} (h : Keeps s t) :
    Keeps s (t.bootLoad area bad) := by
  unfold State.bootLoad
  dsimp only
  split
  · exact h.set.set.cardCtl.cardStart
  · split
    · exact h.set.set.cardCtl.cardStart.cardCommit.cardDone
    · exact h.set.set.cardCtl.cardStart.cardCommit

theorem KeepsNext.execBootCard {flashBad : Nat} (h : Keeps s t) :
    KeepsNext s (execBootCard flashBad t) := by
  unfold Machine.execBootCard
  dsimp only
  refine .next ?_
  refine .orWait h (fun _ h1 => ?_)
  refine .bootStage h1 (fun _ h2 => ?_)
  split
  · exact h2.foldl (fun _ _ h2 => .ite h2 (.ite h2.bootLoad.set h2.bootLoad))
  · exact .set (h2.foldl (fun _ _ h2 => .ite h2 (.ite h2.bootLoad.set h2.bootLoad)))

theorem KeepsNext.execBootHost {ok : Bool} (h : Keeps s t) :
    KeepsNext s (execBootHost ok t) :=
  .next (h.bootStage (fun _ h1 => .ite h1.bootStop h1.devWrite.modMgmt.modPower.set))

theorem KeepsNext.execBootRun (h : Keeps s t) :
    KeepsNext s (execBootRun t) :=
  .next (h.bootStage (fun _ h1 => h1.set))

theorem Keeps.resetRefused {st : Nat} (h : Keeps s t) :
    Keeps s (t.resetRefused st) := h.set

theorem Keeps.resetTaken {kind : Nat} (h : Keeps s t) :
    Keeps s (t.resetTaken kind) := h.set.set

theorem Keeps.warmDomains {trained : List Nat} (h : Keeps s t) (ht : ∀ k ∈ trained, k < 12) : Keeps s (t.warmDomains trained) := by
  refine Keeps.foldlMem (h.foldlMem fun _ d hd h => ?_) fun _ k hk h => ?_
  · have hd' : d < 256 := by
      simp only [List.mem_append, List.mem_map, List.mem_range, List.mem_singleton] at hd
      omega
    exact h.set (offLedger_before hd' rfl)
  · have := ht k hk
    exact h.set (offLedger_before (m := 256) (by omega) rfl)

theorem Keeps.warmReset (h : Keeps s t) : Keeps s t.warmReset := by
  unfold State.warmReset
  extract_lets a b l x d f
  have ha : Keeps s a := by
    unfold a
    split
    · exact h.testEnd
    · exact h
  have hb : Keeps s b := ha.deliverAll.foldl fun _ _ h => h.flushStack
  have hd : Keeps s d := hb.dropMain fun _ => warmKey_of_inLedger
  have he : Keeps s { d with voltTo := x } := hd.withVoltTo
  clear_value x d
  have hf : Keeps s f := .modMgmt he.filterMem
  exact .set (.addHold (.resetTaken (hf.showClock.warmDomains fun k hk => List.mem_range.1 (List.mem_of_mem_filter hk))))

theorem KeepsNext.execWarmReset (h : Keeps s t) :
    KeepsNext s (execWarmReset t) :=
  .next (.ite h.resetRefused (.ite h (.ite h.resetRefused h.warmReset)))

theorem Keeps.resetBolt {b : Nat} (h : Keeps s t) : Keeps s (t.resetBolt b) := by
  have hlooms : Keeps s ((t.boltLooms b).foldl (fun s n => (s.clearLoom n).reloadDraft n) t) := h.foldlMem fun _ n hn h => by
    have := lt_of_mem_boltLooms hn
    exact h.clearLoom.reloadDraft
  exact .ite hlooms.clear.clear.clear.set hlooms.clear.clear.clear

theorem KeepsNext.execFunctionReset (h : Keeps s t) :
    KeepsNext s (execFunctionReset t) := by
  unfold Machine.execFunctionReset
  refine .next ?_
  refine .orWait h (fun _ h1 => ?_)
  split
  · exact h1.resetRefused
  · exact .ite h1.resetRefused (.resetTaken (h1.foldl (fun _ _ h1 => h1.resetBolt)))

theorem KeepsNext.execLoomReset {n : LoomNo} (h : Keeps s t) :
    KeepsNext s (execLoomReset n t) :=
  .next (.ite h.resetRefused h.loomReset.resetTaken)

end Sys2Proof.Machine
end

section
/-! PROOF. The functions of Machine/Guard.lean keep the form of memory and the balance of the Ledger. -/
namespace Sys2Proof.Machine
set_option Elab.async false
variable {s t u : State}

theorem Keeps.clearTotals {n : Nat} (h : Keeps s t) :
    Keeps s (t.clearTotals n) :=
  h.modGrd.clear.clear.clear.clear.clear

theorem KeepsNext.execGbegin {n : LoomNo} (h : Keeps s t) :
    KeepsNext s (execGbegin n t) := by
  unfold Machine.execGbegin
  refine .next ?_
  refine .issue h (fun _ => ?_)
  split
  · exact h.engineFault
  · exact .set (.set (.set (.ite h.advance.guardZero.modGrd.clearTotals h.advance.guardZero.modGrd)))

theorem Keeps.castVote {n : Nat} (h : Keeps s t) :
    Keeps s (t.castVote n) := by
  unfold State.castVote
  split
  · split
    · exact .ite h (.set (h.modSeq.add.add.foldl (fun _ _ h => h.set)))
    · exact h
  · exact h

theorem KeepsNext.execGcheck {n : LoomNo} (h : Keeps s t) :
    KeepsNext s (execGcheck n t) :=
  .next (h.issue (fun _ => .ite h.engineFault (.ite h.stopSeq h.advance.beginPause.castVote)))

theorem Keeps.flagRecipe {n : Nat} (h : Keeps s t) :
    Keeps s (t.flagRecipe n) := h.setMapBit.set

theorem Keeps.settleSpan {n : Nat} {v : Bool} {tests : Nat} (h : Keeps s t) :
    Keeps s (t.settleSpan n v tests) := by
  unfold State.settleSpan
  dsimp only
  split
  · exact h.set.add.modSeq.set.modGrd.add.set
  · split
    · exact .set (.add (.add (.setMapBit (.ite h.set.add.modSeq.set.modGrd.flagRecipe h.set.add.modSeq.set.modGrd))))
    · exact h.set.add.modSeq.set.modGrd.flagRecipe.setMapBit.add.add.set

theorem KeepsNext.execGcheckVerdict {n : LoomNo} (h : Keeps s t) :
    KeepsNext s (execGcheckVerdict n t) := by
  unfold Machine.execGcheckVerdict
  dsimp only
  refine .next ?_
  split
  · exact h.foldl (fun _ _ h => h.castVote)
  · exact .foldl (h.foldl (fun _ _ h => h.castVote)) (fun _ _ h => h.settleSpan)

theorem KeepsNext.execGrdCtlWrite {n : LoomNo} {addr : Nat} {data : List Byte} (h : Keeps s t) :
    KeepsNext s (execGrdCtlWrite n addr data t) :=
  .next (.ite h (.ite h.regPut (.ite h.regPut.modGrd h.regPut.clearTotals)))

end Sys2Proof.Machine
end

section
/-! PROOF. The functions of Machine/Registers.lean keep the form of memory and the balance of the Ledger. -/
namespace Sys2Proof.Machine
set_option Elab.async false
variable {s t u : State}

theorem Keeps.plainPut {w : RegW} (h : Keeps s t) :
    Keeps s (t.plainPut w) := h.regPut

theorem Keeps.putLoomCtl {w : RegW} (h : Keeps s t) :
    Keeps s (t.putLoomCtl w) := by
  unfold State.putLoomCtl
  dsimp only
  split
  · exact h
  · split
    · exact .after (.ite (h.after (.execRunStart h)) (h.after (.execRunStop h))) (.execLoomCntClr (.ite (h.after (.execRunStart h)) (h.after
          (.execRunStop h))))
    · exact .ite (h.after (.execRunStart h)) (h.after (.execRunStop h))

theorem Keeps.putAccCtl {w : RegW} (h : Keeps s t) :
    Keeps s (t.putAccCtl w) :=
  .ite (h.plainPut.after (.execAccCntClr h.plainPut)) h.plainPut

theorem Keeps.putAccWin {w : RegW} {set : Fin 2} (h : Keeps s t) :
    Keeps s (t.putAccWin w set) :=
  h.after (.execAccWinWrite h)

theorem Keeps.putLoom {w : RegW} (h : Keeps s t) :
    Keeps s (t.putLoom w) := by
  unfold State.putLoom
  dsimp only
  split
  · exact h.putLoomCtl
  · split
    · exact h.putAccCtl
    · split
      · exact h.putAccWin
      · exact .ite h.putAccWin (.ite (h.after (.execGrdCtlWrite h)) h.plainPut)

theorem Keeps.putRqTail {w : RegW} (h : Keeps s t) :
    Keeps s (t.putRqTail w) :=
  .ite h.plainPut.rqBad h.plainPut

theorem Keeps.putRgnCmd {w : RegW} (h : Keeps s t) :
    Keeps s (t.putRgnCmd w) :=
  .ite h (.ite (h.after (.execRegionClear h)) (h.after (.execRegionWrite h)))

theorem Keeps.putKeyCmd {w : RegW} (h : Keeps s t) :
    Keeps s (t.putKeyCmd w) := by
  unfold State.putKeyCmd
  split
  · exact h.after (.execKeyLoad h)
  · exact h.after (.execKeyZero h)
  · exact h

theorem Keeps.putMscCtl {w : RegW} (h : Keeps s t) :
    Keeps s (t.putMscCtl w) :=
  .ite (h.plainPut.after (.execCacheFlush h.plainPut)) h.plainPut

theorem Keeps.putSvcCtl {w : RegW} (h : Keeps s t) :
    Keeps s (t.putSvcCtl w) :=
  .ite (h.plainPut.after (.execSvcCntClr h.plainPut)) h.plainPut

theorem Keeps.putHub {w : RegW} (h : Keeps s t) : Keeps s (t.putHub w) := by
  unfold State.putHub
  refine .ite h.putSvcCtl (.ite (h.after (.execSvcAllowWrite h)) (.ite (h.after (.execSvcFloorMhzWrite h)) (.ite (h.after (.execSvcRqSizeWrite h))
      ?_)))
  refine .ite h.putRqTail (.ite (h.after (.execHbmLoopWrite h)) (.ite h.putRgnCmd (.ite h.putMscCtl ?_)))
  exact .ite (h.after (.execTierRingSizeWrite h)) (.ite (h.after (.execTierRingSizeWrite h)) (.ite h.set (.ite h.putKeyCmd h.plainPut)))

theorem Keeps.putPortCtl {w : RegW} (h : Keeps s t) :
    Keeps s (t.putPortCtl w) := by
  unfold State.putPortCtl
  split
  · exact h
  · split
    · exact .after (h.after (.execPortDisableWrite h)) (.execRetrain (h.after (.execPortDisableWrite h)))
    · exact h.after (.execPortDisableWrite h)

theorem Keeps.putFabCtl {w : RegW} (h : Keeps s t) :
    Keeps s (t.putFabCtl w) :=
  .ite (h.plainPut.after (.execFabCntClr h.plainPut)) h.plainPut

theorem Keeps.putFabric {w : RegW} (h : Keeps s t) :
    Keeps s (t.putFabric w) := by
  unfold State.putFabric
  dsimp only
  split
  · exact h.putFabCtl
  · split
    · exact h.putPortCtl
    · exact .ite (.ite h (.ite (h.after (.execEthCtlWrite h)) h.plainPut)) h.plainPut

theorem Keeps.putCrdCtl {w : RegW} (h : Keeps s t) : Keeps s (t.putCrdCtl w) := by
  have hsrc : Keeps s (if w.req = .selvedge then t.plainPut w
      else (t.plainPut w).set CRD_CTL_SRC_FLASH (t.get CRD_CTL_SRC_FLASH * (t.plainPut w).get CRD_CTL_SRC_FLASH)) := .ite h.plainPut h.plainPut.set
  exact .ite hsrc (.ite (hsrc.after (.execCardLoadFull hsrc)) (hsrc.after (.execCardLoadFunction hsrc)))

theorem Keeps.putSlvCtl {w : RegW} (h : Keeps s t) :
    Keeps s (t.putSlvCtl w) :=
  .ite (h.plainPut.after (.execLogFlush h.plainPut)) h.plainPut

theorem Keeps.putSlvCmd {w : RegW} (h : Keeps s t) :
    Keeps s (t.putSlvCmd w) := by
  unfold State.putSlvCmd
  split
  · exact h
  · split
    · exact h.after (.execStage h)
    · exact h.after (.execCommit h)
    · exact h.after (.execFuseAdvance h)
    · exact h.after (.execCardPersist h)
    · exact h.after (.execAssay h)
    · exact h.after (.execTest h)
    · exact h.after (.execBench h)
    · exact h.after (.execUnbench h)
    · exact h.after (.execSelfReset h)
    · exact h.after (.execProvision h)
    · exact h.slvReserved

theorem Keeps.putRstCtl {w : RegW} (h : Keeps s t) :
    Keeps s (t.putRstCtl w) := by
  unfold State.putRstCtl
  split
  · exact h.after (.execWarmReset h)
  · exact h.after (.execFunctionReset h)
  · split
    · exact h.after (.execLoomReset h)
    · exact h
  · exact h

theorem Keeps.putDvfs {w : RegW} (h : Keeps s t) :
    Keeps s (t.putDvfs w) :=
  .ite (h.after (.execDvfsVolt h)) (h.after (.execDvfsFreq h))

theorem Keeps.putMgmt {w : RegW} (h : Keeps s t) :
    Keeps s (t.putMgmt w) := by
  unfold State.putMgmt
  dsimp only
  split
  · exact h.putCrdCtl
  · split
    · exact h.putSlvCtl
    · split
      · exact h.putSlvCmd
      · split
        · exact h.putRstCtl
        · split
          · exact .ite (h.after (.execLdgCntClr h)) h
          · split
            · exact h.after (.execLdgBudgetMinWrite h)
            · split
              · exact .ite (h.after (.execStandby h)) h
              · split
                · exact h.putDvfs
                · split
                  · exact h.after (.execWakeTx h)
                  · exact .ite (.ite (h.after (.execSwvotesWrite h)) h) h.plainPut

theorem Keeps.putReg {w : RegW} (h : Keeps s t) :
    Keeps s (t.putReg w) :=
  .ite h.putLoom (.ite h.putFabric (.ite h.putHub h.putMgmt))

theorem Keeps.readSeen {b : Nat} {n : Nat} (h : Keeps s t) :
    Keeps s (t.readSeen b n) :=
  .ite (.takeFree (.ite h.modSeq h)) (.ite h.modMgmt (.ite h.modMgmt h))

end Sys2Proof.Machine
end

section
/-! PROOF. The functions of Machine/Platform.lean keep the form of memory and the balance of the Ledger. -/
namespace Sys2Proof.Machine
set_option Elab.async false
variable {s t u : State}

theorem Keeps.modPlat {f : Plat → Plat} (h : Keeps s t) :
    Keeps s (t.modPlat f) := h.withPlat

theorem Keeps.lookSource {i : Nat} (h : Keeps s t) :
    Keeps s (t.lookSource i) := by
  unfold State.lookSource
  exact h.modPlat

theorem Keeps.msi {core : Nat} {id : Nat} (h : Keeps s t) :
    Keeps s (t.msi core id) := .ite h h.modPlat

theorem Keeps.forwardMsi {i : Nat} (h : Keeps s t) :
    Keeps s (t.forwardMsi i) := .ite h h.modPlat.msi

theorem Keeps.aplicLook (h : Keeps s t) :
    Keeps s (t.aplicLook) := by
  unfold State.aplicLook
  dsimp only
  split
  · exact .foldl (h.foldl (fun _ _ h => h.lookSource)) (fun _ _ h => h.forwardMsi)
  · exact h.foldl (fun _ _ h => h.lookSource)

theorem Keeps.aplicPend {on : Bool} {i : Nat} (h : Keeps s t) :
    Keeps s (t.aplicPend on i) :=
  .ite h h.modPlat

theorem Keeps.aplicEnable {on : Bool} {i : Nat} (h : Keeps s t) :
    Keeps s (t.aplicEnable on i) :=
  .ite h h.modPlat

theorem Keeps.eachBit {k : Nat} {v : Nat} {f : State → Nat → State} (h : Keeps s t) (hk : ∀ x i, Keeps s x → Keeps s (f x i)) :
    Keeps s (t.eachBit k v f) :=
  h.foldl fun _ _ h => hk _ _ h

theorem Keeps.aplicMode {i : Nat} {m : Nat} (h : Keeps s t) :
    Keeps s (t.aplicMode i m) := h.modPlat

theorem Keeps.aplicWrite {o : Nat} {v : Nat} (h : Keeps s t) : Keeps s (t.aplicWrite o v) := by
  unfold State.aplicWrite
  refine .ite h.modPlat (.ite h.aplicMode (.ite h.aplicPend (.ite h.aplicPend (.ite h.aplicPend (.ite h.aplicEnable (.ite h.aplicEnable (.ite h.msi
      (.ite ?_ ?_))))))))
  · exact .ite h h.modPlat
  · split
    · exact h.eachBit fun _ _ h => h.aplicPend
    · exact h.eachBit fun _ _ h => h.aplicPend
    · exact h.eachBit fun _ _ h => h.aplicEnable
    · exact h.eachBit fun _ _ h => h.aplicEnable
    · exact h

theorem Keeps.platWrite {x : Nat} {d : List Byte} (h : Keeps s t) :
    Keeps s (t.platWrite x d) := by
  unfold State.platWrite
  split
  · exact h
  · split
    · exact h.aplicWrite.aplicLook
    · exact .ite h.msi (.ite h.msi h)
    · exact h.modPlat
    · exact h.modPlat
    · exact h

end Sys2Proof.Machine
end

section
/-! PROOF. The functions of Machine/Access.lean keep the form of memory and the balance of the Ledger. -/
namespace Sys2Proof.Machine
set_option Elab.async false
variable {s t u : State}

theorem Keeps.hbmPiece {a : Access} {x : Nat} {n : Nat} {r : AccRes} (h : Keeps s t) :
    Keeps s (t.hbmPiece a x n r).2 := by
  unfold State.hbmPiece
  split
  · exact h.writePiece
  · exact h.readPiece

theorem Keeps.padPiece {a : Access} {x : Nat} {n : Nat} {off : Nat} {len : Nat} {r : AccRes} (h : Keeps s t) :
    Keeps s (t.padPiece a x n off len r).2 := by
  unfold State.padPiece
  dsimp only
  split
  · exact .ite h.set h
  · split
    · exact h.winWrite
    · exact .ite h.countPoison h

theorem Keeps.draftPiece {a : Access} {x : Nat} {n : Nat} {off : Nat} {len : Nat} {r : AccRes} (h : Keeps s t) :
    Keeps s (t.draftPiece a x n off len r).2 := by
  unfold State.draftPiece
  generalize (if t.is (LOOM_STATUS_BENCHED n) then 2 else if !reachesRegs a.req a.tenant || (a.write && t.is (LOOM_STATUS_RUN n)) then 3 else 0) = st
  dsimp only
  split
  · exact h
  · split
    · exact h.memWrite
    · exact h

theorem Keeps.holeWrite {x : Nat} {d : List Byte} (h : Keeps s t) :
    Keeps s (t.holeWrite x d) :=
  .ite h.platWrite h

theorem Keeps.regPiece {a : Access} {x : Nat} {n : Nat} {r : AccRes} (h : Keeps s t) :
    Keeps s (t.regPiece a x n r).2 := by
  unfold State.regPiece
  dsimp only
  split
  · exact h
  · split
    · split
      · exact h.putReg
      · exact h.readSeen
    · split
      · exact h.holeWrite
      · exact h

theorem Keeps.piece {a : Access} {x : Nat} {n : Nat} {r : AccRes} (h : Keeps s t) :
    Keeps s (t.piece a x n r).2 := by
  unfold State.piece
  split
  · exact h.hbmPiece
  · exact h.padPiece
  · exact h.padPiece
  · exact h.draftPiece
  · exact h.regPiece
  · exact h.regPiece
  · exact h

theorem Keeps.performPieces {a : Access} (h : Keeps s t) :
    Keeps s (t.performPieces a).2 :=
  h.foldlSnd (fun _ _ h => h.piece)

theorem Keeps.recordBad {a : Access} {bad : Option (Nat × Nat)} (h : Keeps s t) :
    Keeps s (t.recordBad a bad) := by
  unfold State.recordBad
  split
  · exact h.refusedAt
  · exact h

theorem Keeps.perform {a : Access} (h : Keeps s t) :
    Keeps s (t.perform a).2 := h.performPieces.recordBad

theorem Keeps.performNow {a : Access} (h : Keeps s t) :
    Keeps s (t.performNow a) :=
  .withResp (.ite h.perform h.perform.readPoison)

theorem Keeps.performPads {a : Access} {pads : List Nat} {deferred : Nat} {ecc : List SpadEv} (h : Keeps s t) :
    Keeps s (t.performPads a pads deferred ecc) := by
  unfold State.performPads
  induction pads generalizing t with
  | nil => exact h.performNow
  | cons m pads ih => exact h.throughPort fun _ h => ih h

theorem Keeps.doAccess {a : Access} {free : Nat → Bool} {deferred : Nat} {ecc : List SpadEv} (h : Keeps s t) :
    Keeps s (t.doAccess a free deferred ecc) := by
  unfold State.doAccess
  split
  · exact .ite h.performNow (.ite h.performPads h.enqueue)
  · exact h.performPads

theorem Keeps.accessAfter {a : Access} {deferred : Nat} {ecc : List SpadEv} (h : Keeps s t) : Keeps s (t.accessAfter a deferred ecc) :=
  .ite h.wakeDomains.withHeld h.doAccess

theorem Keeps.access {a : Access} (h : Keeps s t) :
    Keeps s (t.access a) := h.accessAfter

theorem Keeps.serveHeld {ecc : List SpadEv} (h : Keeps s t) :
    Keeps s (t.serveHeld ecc) :=
  h.servePosts.withHeld.foldl (fun _ _ h => .ite h.withHeld h.doAccess)

theorem KeepsNext.execLocalAccess {a : Access} {deferred : Nat} {ecc : List SpadEv} (h : Keeps s t) :
    KeepsNext s (execLocalAccess a t deferred ecc) :=
  .next h.accessAfter

theorem KeepsNext.execAccViewWrite {n : LoomNo} {off : Nat} {data : List Byte} {req : Requester} {tenant : Nat} (h : Keeps s t) :
    KeepsNext s (execAccViewWrite n off data t req tenant) :=
  .next (.ite h h.access)

theorem KeepsNext.execDraftStoreWrite {n : LoomNo} {req : Requester} {off : Nat} {data : List Byte} {tenant : Nat} (h : Keeps s t) :
    KeepsNext s (execDraftStoreWrite n req off data t tenant) :=
  .next (.ite h h.access)

theorem KeepsNext.execNcInboundServe {n : LoomNo} {deferred : Nat} {ecc : List SpadEv} (h : Keeps s t) :
    KeepsNext s (execNcInboundServe n deferred t ecc) := by
  unfold Machine.execNcInboundServe
  refine .next ?_
  split
  · exact h
  · split
    · exact h.serveHeld
    · split
      · exact h.portServes (fun _ h1 => h1.performInbound)
      · exact h.portServes (fun _ h1 => h1.performInbound)
      · exact h.portServes (fun _ h1 => h1.performInbound)
      · exact h.portServes (fun _ h1 => h1.performInbound)
      · exact h.portServes (fun _ h1 => h1.collServe)
      · exact h

theorem KeepsNext.execRegisterWrite {req : Requester} {addr : Nat} {data : List Byte} (h : Keeps s t) :
    KeepsNext s (execRegisterWrite req addr data t) :=
  .next h.access

theorem KeepsNext.execDomainWakeDone {d : Fin 164} (h : Keeps s t) : KeepsNext s (Machine.execDomainWakeDone d t) := by
  have hwake : Keeps s ((withDomain d).foldl (fun s x => if s.get (PWR_DOM_STATE x) = 2 then s.set (PWR_DOM_STATE x) 3 else s) t) :=
    h.foldlMem fun _ x hx h => .ite (h.setDomain (lt_of_mem_withDomain d.isLt hx)) h
  exact .next (.ite h (.serveHeld (.ite hwake.dvfsPend hwake)))

theorem Keeps.packetPad {n : Nat} {off : Nat} {kind : InKind} {len : Nat} {k : Packet} (h : Keeps s t) :
    Keeps s (t.packetPad n off kind len k) :=
  h.enqueue.noteRty

theorem Keeps.takeMem {want : Packet → Bool} {len : Packet → Nat} {kind : State → Nat → Nat → Packet → InKind} {now : State → Packet → Response ×
    State}
    (h : Keeps s t) (hk : ∀ u k, Keeps s u → Keeps s (now u k).2) : Keeps s (t.takeMem want len kind now) := by
  unfold State.takeMem
  split
  · exact h
  next i _ =>
    refine .ite h.wakeDomains ?_
    extract_lets u done
    have hu : Keeps s u := h.takeIn
    have hdone (v : State) (hv : Keeps s v) : Keeps s (done v) := .ite (hk _ _ hv) (.ite (hk _ _ hv).send (hk _ _ hv).send)
    split
    · exact .ite (hdone _ hu) hu.packetPad
    · exact hdone _ hu

theorem KeepsNext.execPacketWrite (h : Keeps s t) : KeepsNext s (Machine.execPacketWrite t) := .next (h.takeMem fun _ _ h => h.perform)

theorem KeepsNext.execPacketRead (h : Keeps s t) : KeepsNext s (Machine.execPacketRead t) := .next (h.takeMem fun _ _ h => h.perform)

theorem Keeps.atomicNow {op : Nat} {k : Packet} (h : Keeps s t) :
    Keeps s (t.atomicNow op k).2 :=
  h.performPieces.performPieces.recordBad

theorem KeepsNext.execFetchAdd (h : Keeps s t) : KeepsNext s (Machine.execFetchAdd t) := .next (h.takeMem fun _ _ h => h.atomicNow)

theorem KeepsNext.execMasked (h : Keeps s t) : KeepsNext s (Machine.execMasked t) := .next (h.takeMem fun _ _ h => h.atomicNow)

end Sys2Proof.Machine
end

section
/-! PROOF. The functions of Machine/Bronze.lean keep the form of memory and the balance of the Ledger. -/
namespace Sys2Proof.Machine
set_option Elab.async false
variable {s t u : State}

theorem Keeps.brzStart {n : Nat} {op : Nat} (h : Keeps s t) :
    Keeps s (t.brzStart n op) := h.set.set

theorem Keeps.brzEnd {n : Nat} (h : Keeps s t) :
    Keeps s (t.brzEnd n) := h.add.set.set

theorem Keeps.brzIssue {n : Nat} {op : Nat} {used : Nat} {nslots : Nat} {fmts : List Nat} {k : DWord → Block → State} (h : Keeps s t) (hk : ∀ x0 x1,
    Keeps s (k x0 x1)) (hn : n < 144 := by omega) :
    Keeps s (t.brzIssue n op used nslots fmts k) :=
  h.issue (fun _ => .ite h.wordFault (hk _ _))

theorem Keeps.drainOne {n : Nat} {b : Block} {p : OutPlan} {scale : Option (List Nat)} {vecPoison : Bool} {psum : Nat} {win : Int} {set : Nat} {i :
    Nat} (h : Keeps s t) :
    Keeps s (t.drainOne n b p scale vecPoison psum win set i) := by
  unfold State.drainOne
  dsimp only
  split
  · exact .ite h.putOut h.putOut.spWrite
  · split
    · exact .spWrite (.ite h.putOut h.putOut.spWrite)
    · exact .markRow (.clearSat (.putRow (.ite h.putOut h.putOut.spWrite)))

theorem KeepsNext.execDrain {n : LoomNo} {evs : CycleEvs} (h : Keeps s t) : KeepsNext s (Machine.execDrain n evs t) :=
  .next (h.withEvents fun _ h => h.brzIssue fun _ _ => .ite h.engineFault (.ite h.engineFault (.ite h.wordFault
    (.set (.brzStart (h.advance.countPoison.foldl fun _ _ h => h.drainOne))))))

theorem KeepsNext.execDrainDone {n : LoomNo} (h : Keeps s t) :
    KeepsNext s (execDrainDone n t) :=
  .next (.ite h h.brzEnd.set.settle)

theorem KeepsNext.execCombine {n : LoomNo} {evs : CycleEvs} (h : Keeps s t) :
    KeepsNext s (execCombine n t evs) := by
  unfold Machine.execCombine
  dsimp only
  refine .next ?_
  refine .withEvents h (fun _ h1 => ?_)
  refine .brzIssue h1 (fun _ _ => ?_)
  split
  · exact h1.wordFault
  · exact .brzStart (h1.advance.countPoison.dataReads.foldl (fun _ _ h2 => h2.putOut.spWrite.countSpecial))

theorem KeepsNext.execDot {n : LoomNo} {evs : CycleEvs} (h : Keeps s t) :
    KeepsNext s (execDot n t evs) := by
  unfold Machine.execDot
  dsimp only
  refine .next ?_
  refine .withEvents h (fun _ h1 => ?_)
  refine .brzIssue h1 (fun _ _ => ?_)
  split
  · exact h1.wordFault
  · exact .brzStart (h1.advance.countPoison.foldl (fun _ _ h2 => h2.putOut))

theorem Keeps.normIssue {n : Nat} {layer : Bool} (h : Keeps s t) (hn : n < 144 := by omega) : Keeps s (t.normIssue n layer) :=
  h.brzIssue fun _ _ => .ite h.wordFault (.ite h (.ite h.wordFault (.brzStart (h.advance.countPoison.foldl fun _ _ h => h.putOut))))

theorem KeepsNext.execNormRms {n : LoomNo} {evs : CycleEvs} (h : Keeps s t) :
    KeepsNext s (execNormRms n t evs) :=
  .next (h.withEvents (fun _ h1 => h1.normIssue))

theorem KeepsNext.execNormLayer {n : LoomNo} {evs : CycleEvs} (h : Keeps s t) :
    KeepsNext s (execNormLayer n t evs) :=
  .next (h.withEvents (fun _ h1 => h1.normIssue))

theorem Keeps.elemIssue {n : Nat} {func : Nat} (h : Keeps s t) (hn : n < 144 := by omega) :
    Keeps s (t.elemIssue n func) := by
  unfold State.elemIssue
  refine .brzIssue h (fun _ _ => ?_)
  split
  · exact h.wordFault
  · exact .ite h (.ite h.wordFault h.advance.countPoison.putOut.brzStart)

theorem KeepsNext.execElemAdd {n : LoomNo} {evs : CycleEvs} (h : Keeps s t) :
    KeepsNext s (execElemAdd n t evs) :=
  .next (h.withEvents (fun _ h1 => h1.elemIssue))

theorem KeepsNext.execElemMul {n : LoomNo} {evs : CycleEvs} (h : Keeps s t) :
    KeepsNext s (execElemMul n t evs) :=
  .next (h.withEvents (fun _ h1 => h1.elemIssue))

theorem KeepsNext.execElemFma {n : LoomNo} {evs : CycleEvs} (h : Keeps s t) :
    KeepsNext s (execElemFma n t evs) :=
  .next (h.withEvents (fun _ h1 => h1.elemIssue))

theorem KeepsNext.execElemDiv {n : LoomNo} {evs : CycleEvs} (h : Keeps s t) :
    KeepsNext s (execElemDiv n t evs) :=
  .next (h.withEvents (fun _ h1 => h1.elemIssue))

theorem KeepsNext.execElemRecip {n : LoomNo} {evs : CycleEvs} (h : Keeps s t) :
    KeepsNext s (execElemRecip n t evs) :=
  .next (h.withEvents (fun _ h1 => h1.elemIssue))

theorem KeepsNext.execElemRsqrt {n : LoomNo} {evs : CycleEvs} (h : Keeps s t) :
    KeepsNext s (execElemRsqrt n t evs) :=
  .next (h.withEvents (fun _ h1 => h1.elemIssue))

theorem KeepsNext.execElemExp2 {n : LoomNo} {evs : CycleEvs} (h : Keeps s t) :
    KeepsNext s (execElemExp2 n t evs) :=
  .next (h.withEvents (fun _ h1 => h1.elemIssue))

theorem KeepsNext.execElemLog2 {n : LoomNo} {evs : CycleEvs} (h : Keeps s t) :
    KeepsNext s (execElemLog2 n t evs) :=
  .next (h.withEvents (fun _ h1 => h1.elemIssue))

theorem Keeps.embedOor {n : Nat} {p : OutPlan} {r : Nat} {width : Nat} (h : Keeps s t) :
    Keeps s (t.embedOor n p r width) :=
  h.putOut.add.set.report

theorem ReadKeeps.embedRow {n : Nat} {b : Block} {p : OutPlan} {r : Nat} : ReadKeeps (Machine.embedRow n b p r) := by
  unfold Machine.embedRow
  exact .bind .get fun _ => .ite (.mod fun _ _ h => h.embedOor) (.bind .rdRange fun _ => .mod fun _ _ h => h.putOut)

theorem ReadKeeps.embedRun {n : Nat} {p : Pend} : ReadKeeps (Machine.embedRun n p) := .each fun _ => .embedRow

theorem KeepsNext.execEmbed {n : LoomNo} {evs : CycleEvs} (h : Keeps s t) : KeepsNext s (Machine.execEmbed n t evs) :=
  .next (h.withEvents fun _ h => h.brzIssue fun _ _ => .ite h.wordFault (h.advance.countPoison.brzStart.runOp .embedRun))

theorem KeepsNext.execBrzOpDone {n : LoomNo} (h : Keeps s t) : KeepsNext s (Machine.execBrzOpDone n t) := by
  refine .next (.ite h ?_)
  extract_lets u v
  have hu : Keeps s u := by
    unfold u
    split
    · exact .ite h (h.runOp .embedRun)
    · exact h
  have hv : Keeps s v := .ite hu.add hu
  exact .ite hu hv.brzEnd.settle

end Sys2Proof.Machine
end

section
/-! PROOF. The functions of Machine/Attention.lean keep the form of memory and the balance of the Ledger. -/
namespace Sys2Proof.Machine
set_option Elab.async false
variable {s t u : State}

theorem Keeps.scorePages {n : Nat} {p : AttParams} {scale : FVal} {i : Nat} {l : List Nat} {rows : List ScoreRow} (h : Keeps s t) :
    Keeps s (t.scorePages n p scale i l rows).1 := by
  induction l generalizing t i rows with
  | nil => exact h
  | cons a l ih =>
    unfold State.scorePages
    extract_lets rd u
    have hu : Keeps s u := h.dataReads
    split
    · exact hu.set.set
    · exact ih hu.add.guardCount

theorem Keeps.attStart {n : Nat} {phase : Nat} (h : Keeps s t) :
    Keeps s (t.attStart n phase) := h.set.set

theorem Keeps.attIssue {n : Nat} {op : Nat} {k : DWord → Block → State} (h : Keeps s t) (hk : ∀ x0 x1, Keeps s (k x0 x1)) (hn : n < 144 := by omega) :
    Keeps s (t.attIssue n op k) :=
  h.issue (fun _ => .ite h.wordFault (hk _ _))

theorem KeepsNext.execScore {n : LoomNo} {evs : CycleEvs} (h : Keeps s t) : KeepsNext s (Machine.execScore n t evs) := by
  refine .next (h.withEvents fun t h => h.attIssue fun w b => .ite h.engineFault (.ite h.engineFault (.ite h.engineFault (.ite h.wordFault ?_))))
  refine .attStart ?_
  split
  · exact h.advance.countPoison.dataReads.set.set.modAtt
  · exact Keeps.modAtt h.advance.countPoison.dataReads.set.set.scorePages

theorem Keeps.pvPages {n : Nat} {a : Att} {owin : Int} {dh i : Nat} {l : List Nat} {rows : List PvRow} (h : Keeps s t) :
    Keeps s (t.pvPages n a owin dh i l rows).1 := by
  induction l generalizing t i rows with
  | nil => exact h
  | cons pg l ih =>
    unfold State.pvPages
    extract_lets rd u
    have hu : Keeps s u := h.dataReads
    split
    · exact hu.set.set
    · exact ih hu

theorem KeepsNext.execPv {n : LoomNo} {evs : CycleEvs} (h : Keeps s t) : KeepsNext s (Machine.execPv n t evs) := by
  refine .next (h.withEvents fun t h => h.attIssue fun w b => .ite h.engineFault (.ite h.engineFault (.ite h.engineFault (.ite h.wordFault ?_))))
  exact .attStart (.ite h.advance.countPoison (.modAtt (.guardCount (.add h.advance.countPoison.pvPages))))

theorem KeepsNext.execAttPhaseDone {n : LoomNo} (h : Keeps s t) :
    KeepsNext s (execAttPhaseDone n t) :=
  .next (.ite h (.settle (.set (.ite h.set h.set))))

theorem KeepsNext.execAdrain {n : LoomNo} {evs : CycleEvs} (h : Keeps s t) :
    KeepsNext s (execAdrain n t evs) := by
  unfold Machine.execAdrain
  dsimp only
  refine .next ?_
  refine .withEvents h (fun _ h1 => ?_)
  refine .issue h1 (fun _ => ?_)
  split
  · exact .ite h1.wordFault h1.engineFault
  · split
    · exact h1.wordFault
    · split
      · exact h1.engineFault
      · split
        · exact h1.wordFault
        · refine .brzStart ?_
          refine .set ?_
          refine .set ?_
          refine .modAtt ?_
          split
          · exact h1.advance.foldl (fun _ _ h2 => h2.putOut.spWrite.countSpecial)
          · exact .report (.add (h1.advance.foldl (fun _ _ h2 => h2.putOut.spWrite.countSpecial)))

end Sys2Proof.Machine
end

section
/-! PROOF. The functions of Machine/Bobbin.lean keep the form of memory and the balance of the Ledger. -/
namespace Sys2Proof.Machine
set_option Elab.async false
variable {s t u : State}

theorem Keeps.putGens {n : Nat} {gens : List Nat} (h : Keeps s t) :
    Keeps s (t.putGens n gens) :=
  h.foldl (fun _ _ h => h.set)

theorem Keeps.bobWrite {n : Nat} {d : BobDesc} {win : Int} {poison : Bool} {rows : List (List Int)} (h : Keeps s t) :
    Keeps s (t.bobWrite n d win poison rows) :=
  h.foldl (fun _ _ h => h.spWrite)

theorem Keeps.bobIssue {n : Nat} {op : Nat} (h : Keeps s t) (hn : n < 144 := by omega) :
    Keeps s (t.bobIssue n op) := by
  unfold State.bobIssue
  dsimp only
  refine .issue h (fun _ => ?_)
  split
  · exact h
  · split
    · exact h.set.engineFault
    · split
      · exact h.advance.countPoison.set.set.putGens.set.set.add.bobWrite
      · refine .bobWrite ?_
        split
        · refine .report ?_
          refine .set ?_
          refine .set ?_
          split
          · refine .modSeq ?_
            refine .guardCount ?_
            split
            · exact h.advance.countPoison.set.set.countPoison.putGens.add.add.modBob.set
            · exact h.advance.countPoison.set.set.countPoison.putGens.add.add.modBob
          · refine .guardCount ?_
            split
            · exact h.advance.countPoison.set.set.countPoison.putGens.add.add.modBob.set
            · exact h.advance.countPoison.set.set.countPoison.putGens.add.add.modBob
        · refine .set ?_
          split
          · refine .modSeq ?_
            refine .guardCount ?_
            split
            · exact h.advance.countPoison.set.set.countPoison.putGens.add.add.modBob.set
            · exact h.advance.countPoison.set.set.countPoison.putGens.add.add.modBob
          · refine .guardCount ?_
            split
            · exact h.advance.countPoison.set.set.countPoison.putGens.add.add.modBob.set
            · exact h.advance.countPoison.set.set.countPoison.putGens.add.add.modBob

theorem KeepsNext.execTdot {n : LoomNo} {evs : CycleEvs} (h : Keeps s t) :
    KeepsNext s (execTdot n t evs) :=
  .next (h.withEvents (fun _ h1 => h1.bobIssue))

theorem KeepsNext.execPred {n : LoomNo} {evs : CycleEvs} (h : Keeps s t) :
    KeepsNext s (execPred n t evs) :=
  .next (h.withEvents (fun _ h1 => h1.bobIssue))

theorem KeepsNext.execSdot {n : LoomNo} {evs : CycleEvs} (h : Keeps s t) :
    KeepsNext s (execSdot n t evs) :=
  .next (h.withEvents (fun _ h1 => h1.bobIssue))

theorem KeepsNext.execBobDone {n : LoomNo} (h : Keeps s t) :
    KeepsNext s (execBobDone n t) :=
  .next (.ite h h.add.set.settle)

end Sys2Proof.Machine
end

section
/-! PROOF. The functions of Machine/Dma.lean keep the form of memory and the balance of the Ledger. -/
namespace Sys2Proof.Machine
set_option Elab.async false
variable {s t u : State}

theorem Keeps.dmaIssue {n : Nat} {op : Nat} {nslots : Nat} {tslot : Nat} {k : DWord → Block → State} (h : Keeps s t) (hk : ∀ x0 x1, Keeps s (k x0
    x1)) (hn : n < 144 := by omega) :
    Keeps s (t.dmaIssue n op nslots tslot k) :=
  h.issue (fun _ => .ite h.wordFault (hk _ _))

theorem KeepsNext.execTload {n : LoomNo} {evs : CycleEvs} (h : Keeps s t) : KeepsNext s (Machine.execTload n t evs) := by
  refine .next (h.withEvents fun t h => h.dmaIssue fun w b => .ite h.wordFault (.ite ?_ (.report (.add ?_))))
  all_goals exact .set (.set (.set (.set (.set (.set (.modDma (.modArr h.advance.dataReads)) (wbufValid_offLedger n _))))))

theorem KeepsNext.execTloadDone {n : LoomNo} (h : Keeps s t) : KeepsNext s (Machine.execTloadDone n t) := by
  refine .next (.ite h ?_)
  split
  · exact h
  · exact (h.modDma.modArr.set.set (wbufValid_offLedger n _)).settle

theorem KeepsNext.execTblload {n : LoomNo} {evs : CycleEvs} (h : Keeps s t) :
    KeepsNext s (execTblload n t evs) :=
  .next (h.withEvents (fun _ h1 => h1.dmaIssue (fun _ _ => .ite h1.wordFault h1.advance.countPoison.modDma)))

theorem KeepsNext.execTblloadDone {n : LoomNo} (h : Keeps s t) :
    KeepsNext s (execTblloadDone n t) := by
  unfold Machine.execTblloadDone
  refine .next ?_
  split
  · exact h
  · split
    · exact h
    · exact h.modDma.set.set.set.set.settle

theorem Keeps.countWords {n : Nat} {ranges : List (Nat × Nat)} (h : Keeps s t) :
    Keeps s (t.countWords n ranges) :=
  h.add

theorem Keeps.spPut {n : Nat} {a : Nat} {d : List Byte} {pois : List Bool} (h : Keeps s t) :
    Keeps s (t.spPut n a d pois) :=
  .ite h.spWrite (h.foldl (fun _ _ h => h.spWrite))

theorem Keeps.engPut {n : Nat} {tenant : Nat} {a : Nat} {d : List Byte} {pois : List Bool} (h : Keeps s t) :
    Keeps s (t.engPut n tenant a d pois) :=
  .ite h.engWrite (h.foldl (fun _ _ h => h.engWrite))

theorem Keeps.moveIssue {n : Nat} {op : Nat} {k : DWord → Block → Desc → State} (h : Keeps s t) (hk : ∀ x0 x1 x2, Keeps s (k x0 x1 x2)) (hn : n <
    144 := by omega) :
    Keeps s (t.moveIssue n op k) := by
  unfold State.moveIssue
  dsimp only
  refine .dmaIssue h (fun _ _ => ?_)
  split
  · exact h.wordFault
  · split
    · exact h.engineFault
    · exact .ite h.engineFault (.ite h.wordFault (.ite h.wakeDomain (hk _ _ _)))

theorem Keeps.noteRefused {n : Nat} {tenant : Nat} {src : Nat} (h : Keeps s t) :
    Keeps s (t.noteRefused n tenant src) :=
  h.set.report

theorem Keeps.refuseUnit {n : Nat} {tenant : Nat} {src : Nat} {dst : Nat} {len : Nat} (h : Keeps s t) :
    Keeps s (t.refuseUnit n tenant src dst len) :=
  h.noteRefused.add.spWrite

theorem Keeps.expand {n : Nat} {dst : Nat} {l : List Byte} {poison : Bool} (h : Keeps s t) :
    Keeps s (t.expand n dst l poison) :=
  h.spWrite.set

theorem Keeps.countStored {n : Nat} {why : Nat} {saved : Nat} (h : Keeps s t) :
    Keeps s (t.countStored n why saved) :=
  .ite h.add.add (.ite h.add (.ite h.add h))

theorem Keeps.storeTileUnit {n : Nat} {d : Desc} {t' : Option CodeTable} {u' : Nat} {src : List Byte × List Bool} (h : Keeps s t) :
    Keeps s (t.storeTileUnit n d t' u' src) :=
  h.engWrite.countStored

theorem Keeps.copyTile {n : Nat} {d : Desc} {t' : Option CodeTable} {u' : Nat} {a : Nat} (h : Keeps s t) :
    Keeps s (t.copyTile n d t' u' a) :=
  .ite h.dataReads.storeTileUnit h.dataReads.engPut

theorem Keeps.storeUnit {n : Nat} {d : Desc} {t' : Option CodeTable} {u' : Nat} {src : List Byte × List Bool} (h : Keeps s t) :
    Keeps s (t.storeUnit n d t' u' src) := by
  unfold State.storeUnit
  dsimp only
  split
  · split
    · split
      · split
        · dsimp only
          exact h.engWrite.countStored
        · dsimp only
          exact h.engPut.countStored
      · dsimp only
        exact h.engPut
    · dsimp only
      exact h.engPut
  · refine .engWrite ?_
    split
    · split
      · split
        · dsimp only
          exact h.engWrite.countStored
        · dsimp only
          exact h.engPut.countStored
      · dsimp only
        exact h.engPut
    · dsimp only
      exact h.engPut

theorem Keeps.storePlane {n : Nat} {d : Desc} {t' : Option CodeTable} {a : Nat} {l : List Byte} {pois : List Bool} (h : Keeps s t) :
    Keeps s (t.storePlane n d t' a l pois).1 := by
  unfold State.storePlane
  split
  · split
    · dsimp only
      exact h.engWrite.countStored
    · dsimp only
      exact h.engPut.countStored
  · dsimp only
    exact h.engPut

theorem Keeps.storePage {n : Nat} {d : Desc} {t' : Option CodeTable} {u' : Nat} {src : List Byte × List Bool} (h : Keeps s t) :
    Keeps s (t.storePage n d t' u' src) :=
  h.storePlane.storePlane.engPut.engPut

theorem Keeps.storeRaw {n : Nat} {d : Desc} {b : Block} {q : Pend} (h : Keeps s t) :
    Keeps s (t.storeRaw n d b q) := by
  unfold State.storeRaw
  split
  · exact h.countWords.engPut
  · exact .ite h.countWords.engWrite h.countWords.engWrite.guardAdd

theorem ReadKeeps.landRead {n dst : Nat} {r : RdData} : ReadKeeps (Machine.landRead n dst r) := .mod fun _ _ h => h.spPut

theorem ReadKeeps.loadTile {n : Nat} {d : Desc} {u dst : Nat} : ReadKeeps (Machine.loadTile n d u dst) :=
  .bind .rdRange fun _ => .bind (.ite .pure .rdRange) fun _ => .landRead

theorem ReadKeeps.loadUnit {n : Nat} {d : Desc} {c : Option CodeTable} {u dst : Nat} : ReadKeeps (Machine.loadUnit n d c u dst) := by
  refine .bind (.ite .pure .rdRange) fun _ => .ite (.mod fun _ _ h => h.refuseUnit) (.ite (.bind .rdRange fun _ => .landRead) (.bind .rdRange fun _
      => ?_))
  cases c with
  | some c => exact .mod fun _ _ h => h.expand
  | none => exact .pure

theorem ReadKeeps.loadPlane {n : Nat} {d : Desc} {c : Option CodeTable} {coded : Bool} {clen a dst : Nat} :
    ReadKeeps (Machine.loadPlane n d c coded clen a dst) := by
  refine .ite (.bind .rdRange fun _ => .landRead) (.bind .rdRange fun _ => ?_)
  cases c with
  | some c => exact .mod fun _ _ h => h.expand
  | none => exact .pure

theorem ReadKeeps.loadPage {n : Nat} {d : Desc} {c : Option CodeTable} {u dst : Nat} : ReadKeeps (Machine.loadPage n d c u dst) :=
  .bind .rdRange fun _ => .ite (.mod fun _ _ h => h.refuseUnit) (.bind .loadPlane fun _ => .bind .loadPlane fun _ => .bind .rdRange fun _ =>
    .bind .landRead fun _ => .mod fun _ _ h => h.spWrite)

theorem ReadKeeps.loadRun {n : Nat} {d : Desc} {c : Option CodeTable} {b : Block} : ReadKeeps (Machine.loadRun n d c b) :=
  .ite (.bind .rdRange fun _ => .landRead) (.each fun _ => .ite .loadTile (.ite .loadUnit .loadPage))

theorem ReadKeeps.slotWrite {n : Nat} {d : Desc} {b : Block} {p : Pend} {page i src : Nat} : ReadKeeps (Machine.slotWrite n d b p page i src) :=
  .bind .rdRange fun _ => .mod fun _ _ h => .ite h.noteRefused (.ite h.set h.countPoison.guardAdd.engPut.engPut.engPut.engPut.engMask)

theorem ReadKeeps.storeRun {n : Nat} {d : Desc} {c : Option CodeTable} {b : Block} {q : Pend} : ReadKeeps (Machine.storeRun n d c b q) :=
  .ite .slotWrite (.ite (.mod fun _ _ h => h.storeRaw) (.mod fun _ _ h => h.foldl fun _ _ h =>
    .ite h.copyTile (.ite h.countWords.storeTileUnit (.ite h.countWords.storeUnit h.countWords.storePage))))

theorem ReadKeeps.moveRun {n : Nat} {p : Pend} : ReadKeeps (t.moveRun n p) := .ite .loadRun .storeRun

theorem Keeps.moveStart {n op : Nat} {w : DWord} {b : Block} {d : Desc} (h : Keeps s t) : Keeps s (t.moveStart n op w b d) :=
  .runOp (.ite h.advance.countPoison.modDma.set h.advance.countPoison.modDma) .moveRun

theorem KeepsNext.execLoad {n : LoomNo} {evs : CycleEvs} (h : Keeps s t) :
    KeepsNext s (execLoad n evs t) :=
  .next (h.withEvents (fun _ h1 => h1.moveIssue (fun _ _ _ => h1.moveStart)))

theorem KeepsNext.execStore {n : LoomNo} {evs : CycleEvs} (h : Keeps s t) :
    KeepsNext s (execStore n t evs) :=
  .next (h.withEvents (fun _ h1 => h1.moveIssue (fun _ _ _ => h1.moveStart)))

theorem KeepsNext.execDmaDone {n : LoomNo} (h : Keeps s t) : KeepsNext s (Machine.execDmaDone n t) := by
  refine .next (.ite h ?_)
  extract_lets u
  have hu : Keeps s u := by
    unfold u
    split
    · exact .ite h (h.runOp .moveRun)
    · exact h
  exact .ite hu hu.modDma.set.set.settle

end Sys2Proof.Machine
end

section
/-! PROOF. The functions of Machine/Tap.lean keep the form of memory and the balance of the Ledger. -/
namespace Sys2Proof.Machine
set_option Elab.async false
variable {s t u : State}

theorem KeepsNext.execTestAccessPort {trst tms tdi : Bool} {pins : Nat} (h : Keeps s t) : KeepsNext s (Machine.execTestAccessPort trst tms tdi pins
    t) :=
  .next (.ite h.withTap h.frame)

end Sys2Proof.Machine
end

section
/-! PROOF. The functions of Machine/Tick.lean keep the form of memory and the balance of the Ledger. -/
namespace Sys2Proof.Machine
set_option Elab.async false
variable {s t u : State}

theorem Keeps.countEpoch (h : Keeps s t) :
    Keeps s (t.countEpoch) := .ite h h.modFab.add

theorem Keeps.idleTick (h : Keeps s t) :
    Keeps s (t.idleTick) := h.foldl (fun _ _ h => .ite h.idleOut h)

theorem Keeps.tick (h : Keeps s t) :
    Keeps s (t.tick) :=
  h.modMgmt.countEpoch.idleTick.signTick.voteWake.svcWatch.aplicLook.serveHeld

end Sys2Proof.Machine
end

section
/-! PROOF. A step keeps the form of memory and the balance of the Ledger. -/
namespace Sys2Proof.Machine
set_option Elab.async false
variable {s t u : State}

/-- What a command makes of a state keeps what the state before it kept. -/
theorem KeepsNext.exec {c : Instr} (h : Keeps s t) : KeepsNext s (Machine.exec c t) := by
  cases c with
  | registerWrite => exact .execRegisterWrite h
  | localAccess => exact .execLocalAccess h
  | ledgerGrant => exact .execLedgerGrant h
  | holdResume => exact .execHoldResume h
  | slackExpire => exact .execSlackExpire h
  | pauseBudgetExpire => exact .execPauseBudgetExpire h
  | accViewWrite => exact .execAccViewWrite h
  | accWinWrite => exact .execAccWinWrite h
  | accCntClr => exact .execAccCntClr h
  | arraySum => exact .execArraySum h
  | arrayMax => exact .execArrayMax h
  | arrayMin => exact .execArrayMin h
  | arrayResultLand => exact .execArrayResultLand h
  | tileBarrier => exact .execTileBarrier h
  | winload => exact .execWinload h
  | swap => exact .execSwap h
  | drain => exact .execDrain h
  | drainDone => exact .execDrainDone h
  | tload => exact .execTload h
  | tloadDone => exact .execTloadDone h
  | tblload => exact .execTblload h
  | tblloadDone => exact .execTblloadDone h
  | load => exact .execLoad h
  | store => exact .execStore h
  | dmaDone => exact .execDmaDone h
  | score => exact .execScore h
  | pv => exact .execPv h
  | adrain => exact .execAdrain h
  | attPhaseDone => exact .execAttPhaseDone h
  | combine => exact .execCombine h
  | dot => exact .execDot h
  | normRms => exact .execNormRms h
  | normLayer => exact .execNormLayer h
  | embed => exact .execEmbed h
  | elemAdd => exact .execElemAdd h
  | elemMul => exact .execElemMul h
  | elemFma => exact .execElemFma h
  | elemDiv => exact .execElemDiv h
  | elemRecip => exact .execElemRecip h
  | elemRsqrt => exact .execElemRsqrt h
  | elemExp2 => exact .execElemExp2 h
  | elemLog2 => exact .execElemLog2 h
  | brzOpDone => exact .execBrzOpDone h
  | gbegin => exact .execGbegin h
  | gcheck => exact .execGcheck h
  | gcheckVerdict => exact .execGcheckVerdict h
  | grdCtlWrite => exact .execGrdCtlWrite h
  | tdot => exact .execTdot h
  | pred => exact .execPred h
  | sdot => exact .execSdot h
  | bobDone => exact .execBobDone h
  | runStart => exact .execRunStart h
  | runStop => exact .execRunStop h
  | loomCntClr => exact .execLoomCntClr h
  | draftStoreWrite => exact .execDraftStoreWrite h
  | nop => exact .execNop h
  | step => exact .execStep h
  | stepLaunch => exact .execStepLaunch h
  | endStep => exact .execEndStep h
  | endReport => exact .execEndReport h
  | loop => exact .execLoop h
  | endloop => exact .execEndloop h
  | skipz => exact .execSkipz h
  | waitTally => exact .execWaitTally h
  | waitColl => exact .execWaitColl h
  | waitWrites => exact .execWaitWrites h
  | tile => exact .execTile h
  | repay => exact .execRepay h
  | peerFaultStop => exact .execPeerFaultStop h
  | scrubLine => exact .execScrubLine h
  | ncInboundServe => exact .execNcInboundServe h
  | route => exact .execRoute h
  | scatter => exact .execScatter h
  | tally => exact .execTally h
  | shtReturn => exact .execShtReturn h
  | maskset => exact .execMaskset h
  | audit => exact .execAudit h
  | exit => exact .execExit h
  | fill => exact .execFill h
  | shtOpDone => exact .execShtOpDone h
  | recordLanding => exact .execRecordLanding h
  | tallyMsg => exact .execTallyMsg h
  | ovfClaim => exact .execOvfClaim h
  | ovfGrant => exact .execOvfGrant h
  | admitRq => exact .execAdmit h
  | cancel => exact .execCancel h
  | evict => exact .execEvict h
  | boltOpen => exact .execBoltOpen h
  | boltClose => exact .execBoltClose h
  | variantLoadDone => exact .execVariantLoadDone h
  | variantLoadFail => exact .execVariantLoadFail h
  | svcAllowWrite => exact .execSvcAllowWrite h
  | svcFloorMhzWrite => exact .execSvcFloorMhzWrite h
  | svcRqSizeWrite => exact .execSvcRqSizeWrite h
  | svcCntClr => exact .execSvcCntClr h
  | stepFreeze => exact .execStepFreeze h
  | stepSeal => exact .execStepSeal h
  | stepTimeout => exact .execStepTimeout h
  | tokenRefill => exact .execTokenRefill h
  | regionWrite => exact .execRegionWrite h
  | regionClear => exact .execRegionClear h
  | hbmAccess => exact .execHbmAccess h
  | cacheFlush => exact .execCacheFlush h
  | cacheFlushDone => exact .execCacheFlushDone h
  | hbmLoopWrite => exact .execHbmLoopWrite h
  | keyLoad => exact .execKeyLoad h
  | keyZero => exact .execKeyZero h
  | create => exact .execCreate h
  | write => exact .execWrite h
  | read => exact .execRead h
  | readimg => exact .execReadimg h
  | delete => exact .execDelete h
  | stat => exact .execStat h
  | readRefresh => exact .execReadRefresh h
  | wearLevel => exact .execWearLevel h
  | lend => exact .execLend h
  | accept => exact .execAccept h
  | decline => exact .execDecline h
  | reclaim => exact .execReclaim h
  | writeback => exact .execWriteback h
  | clean => exact .execClean h
  | release => exact .execRelease h
  | copyimg => exact .execCopyimg h
  | tierRingSizeWrite => exact .execTierRingSizeWrite h
  | leaseOffer => exact .execLeaseOffer h
  | leaseAccept => exact .execLeaseAccept h
  | leaseDecline => exact .execLeaseDecline h
  | leaseReclaim => exact .execLeaseReclaim h
  | leaseRelease => exact .execLeaseRelease h
  | leaseRevoke => exact .execLeaseRevoke h
  | leaseKeepalive => exact .execLeaseKeepalive h
  | keepaliveSend => exact .execKeepaliveSend h
  | reclaimDeadline => exact .execReclaimDeadline h
  | keepaliveMiss => exact .execKeepaliveMiss h
  | linkTrained => exact .execLinkTrained h
  | trainFail => exact .execTrainFail h
  | lossOfSignal => exact .execLossOfSignal h
  | retrain => exact .execRetrain h
  | portDisableWrite => exact .execPortDisableWrite h
  | capSend => exact .execCapSend h
  | cap => exact .execCap h
  | negotiateTimeout => exact .execNegotiateTimeout h
  | authChal => exact .execAuthChal h
  | authProof => exact .execAuthProof h
  | authResult => exact .execAuthResult h
  | authTimeout => exact .execAuthTimeout h
  | flitReceive => exact .execFlitReceive h
  | nak => exact .execNak h
  | packetForward => exact .execPacketForward h
  | packetWrite => exact .execPacketWrite h
  | packetRead => exact .execPacketRead h
  | fetchAdd => exact .execFetchAdd h
  | masked => exact .execMasked h
  | readresp => exact .execReadresp h
  | wrack => exact .execWrack h
  | atomresp => exact .execAtomresp h
  | requestTimeout => exact .execRequestTimeout h
  | syncSend => exact .execSyncSend h
  | sync => exact .execSync h
  | syncResp => exact .execSyncResp h
  | refclkLoss => exact .execRefclkLoss h
  | coll => exact .execColl h
  | hostmsg => exact .execHostmsg h
  | ethPacket => exact .execEthPacket h
  | ethFrameRx => exact .execEthFrameRx h
  | ethFrameTx => exact .execEthFrameTx h
  | fabCntClr => exact .execFabCntClr h
  | cardLoadFull => exact .execCardLoadFull h
  | cardLoadFunction => exact .execCardLoadFunction h
  | cardCommit => exact .execCardCommit h
  | lockstepMismatch => exact .execLockstepMismatch h
  | watchdogExpire => exact .execWatchdogExpire h
  | sensorSample => exact .execSensorSample h
  | railFault => exact .execRailFault h
  | pmbAlert => exact .execPmbAlert h
  | coldReset => exact .execColdReset h
  | powerOnDetect => exact .execPowerOnDetect h
  | bootVerify => exact .execBootVerify h
  | bootRails => exact .execBootRails h
  | bootHbm => exact .execBootHbm h
  | bootPhy => exact .execBootPhy h
  | bootNand => exact .execBootNand h
  | bootCard => exact .execBootCard h
  | bootHost => exact .execBootHost h
  | bootRun => exact .execBootRun h
  | hello => exact .execHello h
  | logRead => exact .execLogRead h
  | sensors => exact .execSensors h
  | assayGet => exact .execAssayGet h
  | auth => exact .execAuth h
  | data _ _ gap => exact .execData (_gap := gap) h
  | endRecovery => exact .execEndRecovery h
  | sessionTimeout => exact .execSessionTimeout h
  | mgmtLinkFallback => exact .execMgmtLinkFallback h
  | stage => exact .execStage h
  | commit => exact .execCommit h
  | fuseAdvance => exact .execFuseAdvance h
  | cardPersist => exact .execCardPersist h
  | assay => exact .execAssay h
  | test => exact .execTest h
  | testStart => exact .execTestStart h
  | testDrainTimeout => exact .execTestDrainTimeout h
  | bench => exact .execBench h
  | unbench => exact .execUnbench h
  | selfReset => exact .execSelfReset h
  | provision => exact .execProvision h
  | errorRecordDeliver => exact .execErrorRecordDeliver h
  | logSuppressWindow => exact .execLogSuppressWindow h
  | logPersist => exact .execLogPersist h
  | logFlush => exact .execLogFlush h
  | temperPeriod => exact .execTemperPeriod h
  | dvfsFreq => exact .execDvfsFreq h
  | dvfsVolt => exact .execDvfsVolt h
  | dvfsApply => exact .execDvfsApply h
  | voltSlewDone => exact .execVoltSlewDone h
  | ldgBudgetMinWrite => exact .execLdgBudgetMinWrite h
  | ldgCntClr => exact .execLdgCntClr h
  | domainQuietExpire => exact .execDomainQuietExpire h
  | domainSaveDone => exact .execDomainSaveDone h
  | domainWakeDone => exact .execDomainWakeDone h
  | swvotesWrite => exact .execSwvotesWrite h
  | standby => exact .execStandby h
  | wakePattern => exact .execWakePattern h
  | ethSignalDetect => exact .execEthSignalDetect h
  | mgmtWake => exact .execMgmtWake h
  | brownOut => exact .execBrownOut h
  | wakeTx => exact .execWakeTx h
  | warmReset => exact .execWarmReset h
  | functionReset => exact .execFunctionReset h
  | loomReset => exact .execLoomReset h
  | slvCommandDone => exact .execSlvCommandDone h
  | tierCommandDone => exact .execTierCommandDone h
  | ethLinkUp => exact .execEthLinkUp h
  | ethLinkLoss => exact .execEthLinkLoss h
  | ethCtlWrite => exact .execEthCtlWrite h
  | refclkRestore => exact .execRefclkRestore h
  | testAccessPort => exact .execTestAccessPort h
  | garbageCollection => exact .execGarbageCollection h

theorem KeepsNext.idle (h : Keeps s t) : KeepsNext s t.idle := by
  unfold State.idle
  split
  · exact .next h.tick
  · split
    · exact .next h.tick
    · exact .exec h.withWaiting

theorem KeepsNext.step (s : State) : KeepsNext s (Machine.step s) := by
  unfold Machine.step
  split
  · exact .idle (.refl s)
  · exact .exec (Keeps.refl s).withPending

/-- Settles O4: every function that a step reaches changes memory by its own operations alone, which keep its form (`Keeps`). -/
theorem stepKeepsMemoryCanonical : Obligations.StepKeepsMemoryCanonical := fun s t h e => (KeepsNext.step s t e).memory h

/-- Settles O31: a step writes the credits and the outstanding count in the Ledger's grants and returns alone, which move both by one number. -/
theorem stepKeepsLedgerBalanced : Obligations.StepKeepsLedgerBalanced := fun s t h e => (KeepsNext.step s t e).ledger h

end Sys2Proof.Machine
end

section
/-! PROOF. RUN and CNT_CLR (R230, R231, R235, R261). -/
namespace Sys2Proof.Machine

theorem State.get_eq_zero_of_is {s : State} {f : Fld} (h : s.is f = false) : s.get f = 0 := by simpa [State.is] using h

theorem LOOM_STATUS_RUN_key_ne_ctl (n : Nat) : (LOOM_STATUS_RUN n).key ≠ (LOOM_CTL_RUN n).key := by
  simp only [LOOM_STATUS_RUN, LOOM_CTL_RUN]
  omega

/-- Clearing registers changes them alone. -/
theorem State.clearAll_onlyFields (s : State) (l : List Fld) : OnlyFields s (s.clearAll l) l := by
  suffices h : ∀ (m : List Fld) (t : State), (∀ f ∈ m, f ∈ l) → OnlyFields s t l → OnlyFields s (m.foldl State.clear t) l from
    h l s (fun _ => id) (.refl s l)
  intro m
  induction m with
  | nil => exact fun _ _ ht => ht
  | cons f m ih => exact fun t hm ht => ih _ (fun g hg => hm g (List.mem_cons_of_mem f hg)) (ht.set f f.reset (hm f List.mem_cons_self))

/-- Registers of reset value 0 read 0 once they are cleared. -/
theorem State.clearAll_get {f : Fld} {l : List Fld} (s : State) (hf : f ∈ l) (h : ∀ g ∈ l, g.reset = 0) : (s.clearAll l).get f = 0 := by
  induction l using List.reverseRecOn with
  | nil => exact absurd hf List.not_mem_nil
  | append_singleton l g ih =>
    have hsplit : s.clearAll (l ++ [g]) = (s.clearAll l).set g 0 := by
      rw [State.clearAll, List.foldl_append, ← h g (by simp)]
      rfl
    rw [hsplit]
    by_cases hg : f.key = g.key
    · simp [State.get, State.set, hg, h f hf, h g (by simp)]
    · have hne : f ≠ g := fun e => hg (congrArg Fld.key e)
      rw [State.get_set_ne _ _ hg]
      exact ih (by simpa [hne] using hf) fun x hx => h x (List.mem_append_left _ hx)

/-- A stopped loom that has not faulted, is not benched and is in a bolt starts, or its header refuses. -/
theorem State.startLoom_eq {s : State} {n : Nat} (hrun : s.is (LOOM_STATUS_RUN n) = false) (hfault : s.is (LOOM_STATUS_FAULT n) = false)
    (hpeer : s.is (LOOM_STATUS_PEER_FAULT n) = false) (hbench : s.is (LOOM_STATUS_BENCHED n) = false) :
    s.startLoom n = if (s.boltOf n).isNone then s.modSeq n fun q => { q with stopReq := false }
      else if s.headerBad n then s.draftFault n 0 0 1
      else ((s.modSeq n fun q => { q with next := s.draftEntry n, loops := [], issued := [], pause := none, atStep := false, launch := none, stopReq := false }).set
        (ACC_STATUS_COMPAT n) (bits (s.draftNat n 0 4) 5 1)).set (LOOM_STATUS_RUN n) 1 := by
  simp only [State.startLoom, hrun, hfault, hpeer, hbench, Bool.false_or]
  rfl

/-- RUN written 1 where the loom sleeps: the domain wakes and the write waits. -/
theorem execRunStart_asleep {n : LoomNo} {s : State} (hrun : s.is (LOOM_STATUS_RUN n) = false) (ha : s.asleep n = true) :
    ∃ t, exec (.runStart n) s = .next t ∧ t.looms = s.looms ∧ SameMemory s t ∧ t.get (LOOM_STATUS_RUN n) = 0
      ∧ t.held = s.held ++ [⟨.host, true, (LOOM_CTL_RUN n).key / 8, 1, [1], 0, false, false⟩] ∧ SameFields s t [PWR_DOM_STATE n] := by
  have hwake : s.wakeDomain n = s.wakeOne n := if_neg (by simp)
  obtain ⟨hframe, hfields⟩ := s.wakeOne_frame n
  have haddr : lwin n + 0xF00008 = (LOOM_CTL_RUN n).key / 8 := by simp only [lwin, LOOM_CTL_RUN]; omega
  refine ⟨{ s.wakeOne n with held := s.held ++ [⟨.host, true, (LOOM_CTL_RUN n).key / 8, 1, [1], 0, false, false⟩] }, ?_, (congrArg State.looms hframe :),
    ⟨fun a => (congrArg (fun x : State => x.byteAt a) hframe :), (congrArg State.poison hframe :)⟩, ?_, rfl, hfields⟩
  · show execRunStart n s = _
    simp only [execRunStart, ha, if_true, hwake, haddr]
  · exact (hfields _ (by simp [LOOM_STATUS_RUN, PWR_DOM_STATE]; omega)).trans (State.get_eq_zero_of_is hrun)

theorem execRunStart_awake {n : LoomNo} {s : State} (ha : s.asleep n = false) : exec (.runStart n) s = .next ((s.startLoom n).set (LOOM_CTL_RUN n) 1) := by
  show execRunStart n s = _
  simp [execRunStart, ha]

theorem runStartsAtEntry : RunStartsAtEntry := by
  intro n s hrun hfault hpeer hbench
  have hstart := State.startLoom_eq hrun hfault hpeer hbench
  have hstays (t : State) : (t.set (LOOM_CTL_RUN n) 1).get (LOOM_STATUS_RUN n) = t.get (LOOM_STATUS_RUN n) :=
    State.get_set_ne _ _ (LOOM_STATUS_RUN_key_ne_ctl n)
  refine ⟨execRunStart_asleep hrun, fun ha hno => ⟨_, execRunStart_awake ha, ?_⟩, fun ha hb hok => ⟨_, execRunStart_awake ha, ?_⟩,
    fun ha hb hbad => ⟨_, execRunStart_awake ha, ?_⟩⟩
  · rw [hstart, hno, Option.isNone_none, if_pos rfl]
    exact ⟨(hstays _).trans (State.get_eq_zero_of_is hrun), by simp,
      (((OnlyFields.refl s _).onlyLoom n).setLm _).set _ _ (List.mem_singleton.2 rfl)⟩
  · rw [hstart, if_neg (by simpa using Option.isSome_iff_ne_none.1 hb), hok, if_neg Bool.false_ne_true]
    refine ⟨(hstays _).trans (State.get_set_same _ _ _), State.get_set_same _ _ _, by simp, by simp, ?_⟩
    exact (((((OnlyFields.refl s _).onlyLoom n).setLm _).set _ _ (by simp)).set _ _ (by simp)).set _ _ (by simp)
  · rw [hstart, if_neg (by simpa using Option.isSome_iff_ne_none.1 hb), hbad, if_pos rfl]
    obtain ⟨hf, hr, hc, _, hp⟩ := s.draftFault_status n 0 0 1
    refine ⟨(hstays _).trans hr, (State.get_set_ne _ _ ?_).trans hf, (State.get_set_ne _ _ ?_).trans hc, (State.get_set_ne _ _ ?_).trans hp⟩
    all_goals
      simp only [LOOM_STATUS_FAULT, LOOM_FAULT_CAUSE, LOOM_FAULT_PC, LOOM_CTL_RUN]
      omega

theorem runStopAndCounterClear : RunStopAndCounterClear := by
  intro n s
  refine ⟨⟨_, rfl, State.get_set_same _ _ _, by simp, State.get_set_ne _ _ (LOOM_STATUS_RUN_key_ne_ctl n), ?_⟩, ⟨_, rfl, fun c hc => ?_, s.clearAll_onlyFields _⟩⟩
  · exact (((OnlyFields.refl s _).onlyLoom n).setLm _).set _ _ (List.mem_singleton.2 rfl)
  · have hzero : ∀ g ∈ (List.range 5).map (LOOM_HOLD_CNT_EVENTS n) ++ (List.range 5).map (LOOM_HOLD_CYC_CYCLES n), g.reset = 0 := by
      intro g hg
      rcases List.mem_append.1 hg with hg | hg
      all_goals
        obtain ⟨_, _, rfl⟩ := List.mem_map.1 hg
        rfl
    exact ⟨s.clearAll_get (List.mem_append_left _ (List.mem_map_of_mem (List.mem_range.2 hc))) hzero,
      s.clearAll_get (List.mem_append_right _ (List.mem_map_of_mem (List.mem_range.2 hc))) hzero⟩

/-- Settles O6, part by part. -/
theorem runControls : Obligations.RunControls := ⟨runStartsAtEntry, runStopAndCounterClear⟩

end Sys2Proof.Machine
end

section
/-! PROOF. Wakes: a wake event touches domain states and the list of wakes held alone (R486). -/
namespace Sys2Proof.Machine

theorem State.foldl_wakeOne_frame (l : List Nat) (s : State) : { l.foldl State.wakeOne s with flds := s.flds, power := s.power } = s := by
  induction l generalizing s with
  | nil => rfl
  | cons d l ih =>
    calc { l.foldl State.wakeOne (s.wakeOne d) with flds := s.flds, power := s.power }
      _ = { ({ l.foldl State.wakeOne (s.wakeOne d) with flds := (s.wakeOne d).flds, power := (s.wakeOne d).power } : State) with
            flds := s.flds, power := s.power } := rfl
      _ = { s.wakeOne d with flds := s.flds, power := s.power } := by rw [ih]
      _ = s := (s.wakeOne_frame d).1

theorem State.wakeDomain_frame (s : State) (d : Nat) : { s.wakeDomain d with flds := s.flds, power := s.power } = s := by
  unfold State.wakeDomain
  split
  · have h := s.foldl_wakeOne_frame ((List.range 12).map (144 + ·))
    rwa [List.foldl_map] at h
  · exact (s.wakeOne_frame d).1

theorem State.wakeDomains_frame (l : List Nat) (s : State) : { l.foldl State.wakeDomain s with flds := s.flds, power := s.power } = s := by
  induction l generalizing s with
  | nil => rfl
  | cons d l ih =>
    calc { l.foldl State.wakeDomain (s.wakeDomain d) with flds := s.flds, power := s.power }
      _ = { ({ l.foldl State.wakeDomain (s.wakeDomain d) with flds := (s.wakeDomain d).flds, power := (s.wakeDomain d).power } : State) with
            flds := s.flds, power := s.power } := rfl
      _ = { s.wakeDomain d with flds := s.flds, power := s.power } := by rw [ih]
      _ = s := s.wakeDomain_frame d

end Sys2Proof.Machine
end

section
/-! PROOF. Accesses to the Draft store (R31 to R33, R232), of any number of pieces. -/
namespace Sys2Proof.Machine

/-- The pieces of an access lie within it. -/
theorem mem_accessCuts {k x n : Nat} {y : Nat × Nat} (h : y ∈ accessCuts k x n) : x ≤ y.1 ∧ y.1 < x + n := by
  induction k generalizing x n with
  | zero => exact absurd h List.not_mem_nil
  | succ k ih =>
    rw [accessCuts] at h
    split at h
    · exact absurd h List.not_mem_nil
    · rcases List.mem_cons.1 h with rfl | h
      · exact ⟨le_rfl, by dsimp only; omega⟩
      · have := ih h
        omega

/-- The first piece begins where the access does. -/
theorem accessCuts_cons {x n : Nat} (h : 0 < n) : ∃ m l, accessCuts n x n = (x, m) :: l := by
  obtain ⟨k, rfl⟩ := Nat.exists_eq_succ_of_ne_zero h.ne'
  exact ⟨_, _, by rw [accessCuts, if_neg (Nat.succ_ne_zero k)]⟩

/-- An address between those of two bytes of a Draft store is one of the store's. -/
theorem eq_draftAddr_of_mem_accessCuts {n off len k : Nat} {y : Nat × Nat} (h : y ∈ accessCuts k (draftAddr n off) len) :
    ∃ o, off ≤ o ∧ o < off + len ∧ y.1 = draftAddr n o := by
  have := mem_accessCuts h
  exact ⟨y.1 - draftAddr n 0, by simp only [draftAddr] at *; omega, by simp only [draftAddr] at *; omega, by simp only [draftAddr] at *; omega⟩

theorem domainAt_draftAddr (n : LoomNo) {off : Nat} (h : off < 0x100000) : domainAt (draftAddr n off) = some n.val := by
  rw [draftAddr, Nat.add_assoc]
  exact domainAt_loom n (by omega)

theorem accDomains_draft {n : LoomNo} {off d : Nat} {a : Access} (ha : a.addr = draftAddr n off) (hoff : off + accSize a ≤ 0x100000)
    (hd : d ∈ accDomains a) : d = n := by
  obtain ⟨y, hy, hyd⟩ := List.mem_filterMap.1 hd
  rw [ha] at hy
  obtain ⟨o, _, ho, hyo⟩ := eq_draftAddr_of_mem_accessCuts hy
  rw [hyo, domainAt_draftAddr n (by omega)] at hyd
  exact (Option.some.inj hyd).symm

theorem mem_accDomains_draft {n : LoomNo} {off : Nat} {a : Access} (ha : a.addr = draftAddr n off) (hoff : off < 0x100000)
    (hn : 0 < accSize a) : n.val ∈ accDomains a := by
  obtain ⟨m, l, hcuts⟩ := accessCuts_cons (x := a.addr) hn
  exact List.mem_filterMap.2 ⟨(a.addr, m), by rw [hcuts]; exact List.mem_cons_self, by rw [ha]; exact domainAt_draftAddr n hoff⟩

theorem padOf_draftAddr {n : LoomNo} {off : Nat} (len : Nat) (hoff : off < 0x100000) : padOf (draftAddr n off) len = none :=
  padOf_of_outsidePads len (.of_place (placeOf_draftAddr n hoff) (by simp))

theorem crossedPads_draftAddr {n : LoomNo} {off len : Nat} (hoff : off + len ≤ 0x100000) (hn : 0 < len) : crossedPads (draftAddr n off) len = [] := by
  rw [crossedPads, padOf_draftAddr len (by omega), Option.isSome_none, if_neg Bool.false_ne_true, List.filterMap_eq_nil_iff]
  intro y hy
  obtain ⟨o, _, ho, hyo⟩ := eq_draftAddr_of_mem_accessCuts hy
  rw [hyo, placeOf_draftAddr n (by omega)]

/-- An access to a Draft store whose loom keeps nothing waiting is performed at once. -/
theorem State.accessAfter_of_draft (s : State) {n : LoomNo} {off : Nat} {a : Access} (deferred : Nat) (ha : a.addr = draftAddr n off)
    (hoff : off + accSize a ≤ 0x100000) (hn : 0 < accSize a) (hon : s.notOn n = false) : s.accessAfter a deferred = s.performNow a := by
  have hcross : crossedPads a.addr (accSize a) = [] := ha ▸ crossedPads_draftAddr hoff hn
  have hpad : padOf a.addr (accSize a) = none := ha ▸ padOf_draftAddr _ (by omega)
  have hdom : (accDomains a).any s.notOn = false := List.any_eq_false.2 fun d hd => by simp [accDomains_draft ha hoff hd, hon]
  have hwait : s.mustWait a = false := by simp [State.mustWait, State.portWaits, hdom, hcross]
  simp [State.accessAfter, hwait, State.doAccess, hpad, hcross, State.performPads]

/-- An access to a Draft store whose loom's domain is not ON is held, and changes no memory and no loom. -/
theorem State.accessAfter_of_draft_notOn (s : State) {n : LoomNo} {off : Nat} {a : Access} (deferred : Nat) (ha : a.addr = draftAddr n off)
    (hoff : off < 0x100000) (hn : 0 < accSize a) (hon : s.notOn n = true) : (s.accessAfter a deferred).held = s.held ++ [a]
      ∧ (s.accessAfter a deferred).mem = s.mem ∧ (s.accessAfter a deferred).poison = s.poison ∧ (s.accessAfter a deferred).looms = s.looms := by
  have hdom : (accDomains a).any s.notOn = true := List.any_eq_true.2 ⟨n, mem_accDomains_draft ha hoff hn, hon⟩
  have hwait : s.mustWait a = true := by simp [State.mustWait, hdom]
  rw [State.accessAfter, if_pos hwait]
  have hframe := s.wakeDomains_frame (accDomains a)
  exact ⟨rfl, (congrArg State.mem hframe :), (congrArg State.poison hframe :), (congrArg State.looms hframe :)⟩

theorem AccRes.put_ok (r : AccRes) (x : Nat) : r.put x 0 [] false = r := by simp [AccRes.put]

/-- A part of data that does not reach beyond it holds its bytes. -/
theorem slice_getD {l : List Byte} {o n i : Nat} (hi : i < n) (h : o + n ≤ l.length) : (slice l o n).getD i 0 = l.getD (o + i) 0 := by
  have hlen : ((l.drop o).take n).length = n := by simp; omega
  have hin : o + i < l.length := by omega
  simp [slice, hlen, List.getD_eq_getElem?_getD, hi, hin]

theorem State.piece_of_draft (s : State) (a : Access) {x n off : Nat} (m : Nat) (r : AccRes) (hp : placeOf x = .draft n off) :
    s.piece a x m r = s.draftPiece a x n off m r := by
  simp [State.piece, hp]

/-- The pieces of a write that the Draft store takes write the data's bytes. -/
theorem State.draftPieces_taken {a : Access} {n : LoomNo} (hw : a.write = true) (hreach : reachesRegs a.req a.tenant = true) :
    ∀ (k off len : Nat) (r : AccRes) (s : State), len ≤ k → off + len ≤ 0x100000 → a.addr ≤ draftAddr n off →
      draftAddr n off + len ≤ a.addr + a.data.length → s.is (LOOM_STATUS_BENCHED n) = false → s.is (LOOM_STATUS_RUN n) = false →
      ∃ t, (accessCuts k (draftAddr n off) len).foldl (fun (q : AccRes × State) x => q.2.piece a x.1 x.2 q.1) (r, s) = (r, t)
        ∧ (∀ x, t.byteAt x = if draftAddr n off ≤ x ∧ x < draftAddr n off + len then a.data.getD (x - a.addr) 0 else s.byteAt x)
        ∧ { t with mem := s.mem, poison := s.poison } = s := by
  intro k
  induction k with
  | zero => exact fun off len r s hk _ _ _ _ _ => ⟨s, rfl, fun x => by rw [if_neg (by omega)], rfl⟩
  | succ k ih =>
    intro off len r s hk hoff hlo hhi hb hrun
    rw [accessCuts]
    split
    · exact ⟨s, rfl, fun x => by rw [if_neg (by omega)], rfl⟩
    · next hne =>
      obtain ⟨m, hm⟩ : ∃ m, m = min len (max 1 (pieceLen (draftAddr n off))) := ⟨_, rfl⟩
      have hpos : 0 < m ∧ m ≤ len := by omega
      have hpiece : s.piece a (draftAddr n off) m r = (r, s.memWrite (draftAddr n off) (accPart a (draftAddr n off) m) false) := by
        rw [s.piece_of_draft a m r (placeOf_draftAddr n (by omega))]
        simp [State.draftPiece, hb, hrun, hreach, hw, AccRes.put_ok]
      have hlen : (accPart a (draftAddr n off) m).length = m := slice_length _ _ _
      have hnext : draftAddr n off + m = draftAddr n (off + m) := by simp only [draftAddr]; omega
      obtain ⟨t, hfold, hbytes, hframe⟩ := ih (off + m) (len - m) r (s.memWrite (draftAddr n off) (accPart a (draftAddr n off) m) false) (by omega)
        (by omega) (by omega) (by omega) hb hrun
      refine ⟨t, ?_, fun x => ?_, ?_⟩
      · rw [← hm, List.foldl_cons, hpiece, hnext]
        exact hfold
      · rw [hbytes, State.byteAt_memWrite, hlen, ← hnext]
        by_cases hin : draftAddr n off ≤ x ∧ x < draftAddr n off + m
        · rw [if_neg (by omega), if_pos hin, if_pos (by omega), accPart, slice_getD (by omega) (by omega)]
          congr 1
          omega
        · rw [if_neg hin]
          exact if_congr (by omega) rfl rfl
      · exact (congrArg (fun u : State => { u with mem := s.mem, poison := s.poison }) hframe :)

/-- The pieces of a write that the Draft store refuses change nothing, and the first one gives the answer. -/
theorem State.draftPieces_refused {a : Access} {n : LoomNo} {st : Nat} {s : State} (hst : st ≠ 0)
    (h : ∀ x off m (r : AccRes), s.draftPiece a x n off m r = (r.put x st [] false, s)) :
    ∀ (k off len : Nat) (r : AccRes), off + len ≤ 0x100000 →
      ∃ b, (accessCuts k (draftAddr n off) len).foldl (fun (q : AccRes × State) x => q.2.piece a x.1 x.2 q.1) (r, s) = (⟨b, r.data, r.poison⟩, s)
        ∧ (statusOf r.bad = st ∨ r.bad = none ∧ 0 < len ∧ 0 < k → statusOf b = st) := by
  intro k
  induction k with
  | zero => exact fun off len r _ => ⟨r.bad, rfl, fun h => h.elim id fun h => absurd h.2.2 (by omega)⟩
  | succ k ih =>
    intro off len r hoff
    rw [accessCuts]
    split
    · exact ⟨r.bad, rfl, fun h => h.elim id fun h => absurd h.2.1 (by omega)⟩
    · next hne =>
      obtain ⟨m, hm⟩ : ∃ m, m = min len (max 1 (pieceLen (draftAddr n off))) := ⟨_, rfl⟩
      have hpos : 0 < m ∧ m ≤ len := by omega
      have hnext : draftAddr n off + m = draftAddr n (off + m) := by simp only [draftAddr]; omega
      obtain ⟨b, hfold, hb⟩ := ih (off + m) (len - m) (r.put (draftAddr n off) st [] false) (by omega)
      refine ⟨b, ?_, fun hr => hb (.inl ?_)⟩
      · rw [← hm, List.foldl_cons, s.piece_of_draft a m r (placeOf_draftAddr n (by omega)), h, hnext, hfold]
        simp [AccRes.put]
      · rcases hr with hr | ⟨hr, _⟩
        · have hsome : r.bad.isNone = false := by
            cases hbad : r.bad with
            | none => exact absurd ((congrArg statusOf hbad).symm.trans hr).symm hst
            | some x => rfl
          simpa [AccRes.put, hsome] using hr
        · simp [AccRes.put, hr, hst, statusOf]

/-- What a write leaves where its pieces leave t: the answer, and an error record. -/
theorem State.performNow_of_pieces (s : State) (a : Access) {r : AccRes} {t : State} (hw : a.write = true) (h : s.performPieces a = (r, t)) :
    s.performNow a = { t.recordBad a r.bad with resp := ⟨statusOf r.bad, r.data, r.poison⟩ } := by
  simp [State.performNow, State.perform, h, hw]

/-- The access that a write of the Draft store makes. -/
def draftWriteAccess (n : LoomNo) (req : Requester) (off : Nat) (data : List Byte) (tenant : Nat) : Access :=
  { req, write := true, addr := draftAddr n off, len := data.length, data, tenant, poison := false }

theorem exec_draftStoreWrite (n : LoomNo) (req : Requester) (tenant : Nat) {off : Nat} {data : List Byte} (s : State) (h : off + data.length ≤ 0x100000) :
    exec (.draftStoreWrite n req off data tenant) s = .next (s.accessAfter (draftWriteAccess n req off data tenant) 0) := by
  show execDraftStoreWrite n req off data s tenant = _
  rw [execDraftStoreWrite, if_neg (by omega)]
  rfl

/-- A write that the Draft store refuses is answered with the status, and changes no memory, no field and no loom. -/
theorem draftStoreWrite_refused {n : LoomNo} {req : Requester} {tenant off st : Nat} {data : List Byte} {s : State} (hoff : off + data.length ≤ 0x100000)
    (hne : data ≠ []) (hon : s.notOn n = false) (hst : st ≠ 0)
    (h : ∀ x o m (r : AccRes), s.draftPiece (draftWriteAccess n req off data tenant) x n o m r = (r.put x st [] false, s)) :
    ∃ t, exec (.draftStoreWrite n req off data tenant) s = .next t ∧ t.resp = ⟨st, [], false⟩ ∧ t.mem = s.mem ∧ t.poison = s.poison
      ∧ t.flds = s.flds ∧ t.looms = s.looms := by
  have hpos : 0 < data.length := List.length_pos_iff.2 hne
  obtain ⟨b, hfold, hb⟩ := State.draftPieces_refused hst h data.length off data.length {} hoff
  have hstatus : statusOf b = st := hb (.inr ⟨rfl, hpos, hpos⟩)
  have hexec := exec_draftStoreWrite n req tenant s hoff
  rw [s.accessAfter_of_draft (a := draftWriteAccess n req off data tenant) 0 rfl hoff hpos hon, s.performNow_of_pieces (draftWriteAccess n req off data tenant) rfl hfold] at hexec
  refine ⟨_, hexec, by rw [← hstatus], ?_, ?_, ?_, ?_⟩
  all_goals
    dsimp only [State.recordBad, State.refusedAt]
    split <;> simp

/-- A write that the Draft store takes stores its bytes and no others. -/
theorem draftStoreWrite_taken {n : LoomNo} {req : Requester} {tenant off : Nat} {data : List Byte} {s : State} (hoff : off + data.length ≤ 0x100000)
    (hne : data ≠ []) (hon : s.notOn n = false) (hb : s.is (LOOM_STATUS_BENCHED n) = false) (hreach : reachesRegs req tenant = true)
    (hrun : s.is (LOOM_STATUS_RUN n) = false) :
    ∃ t, exec (.draftStoreWrite n req off data tenant) s = .next t ∧ (∀ i (h : i < data.length), t.byteAt (draftAddr n off + i) = data[i])
      ∧ SameOutside s t (draftAddr n off) data.length ∧ t.resp = ⟨0, [], false⟩ ∧ t.errs = s.errs ∧ t.flds = s.flds ∧ t.looms = s.looms := by
  have hpos : 0 < data.length := List.length_pos_iff.2 hne
  obtain ⟨t, hfold, hbytes, hframe⟩ := State.draftPieces_taken (a := draftWriteAccess n req off data tenant) rfl hreach data.length off data.length {} s
    le_rfl hoff le_rfl le_rfl hb hrun
  have hexec := exec_draftStoreWrite n req tenant s hoff
  rw [s.accessAfter_of_draft (a := draftWriteAccess n req off data tenant) 0 rfl hoff hpos hon, s.performNow_of_pieces (draftWriteAccess n req off data tenant) rfl hfold] at hexec
  refine ⟨_, hexec, fun i hi => (hbytes _).trans ?_, fun x hx => (hbytes x).trans (if_neg (by omega)), rfl, (congrArg State.errs hframe :),
    (congrArg State.flds hframe :), (congrArg State.looms hframe :)⟩
  rw [if_pos (by omega), draftWriteAccess, Nat.add_sub_cancel_left, List.getD_eq_getElem _ _ hi]

/-- Settles O7: what the one status of all its pieces says, a write of the Draft store does. -/
theorem draftStoreWrites : Obligations.DraftStoreWrites := by
  intro n req tenant off data s hoff hne
  have hpos : 0 < data.length := List.length_pos_iff.2 hne
  refine ⟨fun hb hon => ?_, fun hb => ?_, fun hb hoffDom => ?_, fun len deferred hb hon hlen hgran hend => ?_⟩
  · have hnot := s.notOn_loom n (.inl hon)
    refine ⟨fun hreach hrun => draftStoreWrite_taken hoff hne hnot hb hreach hrun, fun href => draftStoreWrite_refused hoff hne hnot (by decide) fun x o m r => ?_⟩
    have hdenied : (!reachesRegs req tenant || s.is (LOOM_STATUS_RUN n)) = true := by rcases href with h | h <;> simp [h]
    simp [State.draftPiece, hb, draftWriteAccess, hdenied]
  · refine draftStoreWrite_refused hoff hne (s.notOn_loom n (.inr hb)) (by decide) fun x o m r => ?_
    simp [State.draftPiece, hb, draftWriteAccess]
  · have hnot : s.notOn n = true := by simp [State.notOn, hb, hoffDom]
    obtain ⟨hheld, hmem, hpoison, hlooms⟩ := s.accessAfter_of_draft_notOn (a := draftWriteAccess n req off data tenant) 0 rfl (by omega) hpos hnot
    exact ⟨_, exec_draftStoreWrite n req tenant s hoff, by simp [hheld], hmem, hpoison, hlooms⟩
  · have hin : off < 0x100000 := by omega
    obtain ⟨t, hexec, hresp, hflds, hlooms, hmem⟩ := draftStore_read s deferred (placeOf_draftAddr n hin) hlen (draftAddr_granule n hgran)
      (State.notOn_draftAddr hin (s.notOn_loom n (.inl hon))) hb
    exact ⟨t, hexec, hresp, hflds, hmem, hlooms⟩

end Sys2Proof.Machine
end

section
/-! PROOF. The ledger's order, grants and barriers (R36 to R39, R236, R476, R477). -/
namespace Sys2Proof.Machine

/-! ### Words and faults -/

/-- A word that the sequencer finds lawful for a unit's operation is of that unit and operation. -/
theorem State.fetchWord_ok {s : State} {n unit op : Nat} {w : DWord} (h : s.fetchWord n unit op = .ok w) : w.unit = unit ∧ w.op = op := by
  unfold State.fetchWord at h
  dsimp only at h
  split at h
  · exact nomatch h
  split at h
  · exact nomatch h
  split at h
  · exact nomatch h
  split at h
  · exact nomatch h
  next hunit =>
    split at h
    · exact nomatch h
    split at h
    · exact nomatch h
    split at h
    · exact nomatch h
    · obtain rfl := Fetched.ok.inj h
      simpa using hunit

/-- Marking the peers of a loom that faults writes their PEER_FAULT alone. -/
theorem State.peerFaults_frame (l : List Nat) (s : State) :
    { l.foldl (fun s m => s.set (LOOM_STATUS_PEER_FAULT m) 1) s with flds := s.flds } = s := by
  refine List.foldlRecOn (motive := fun t : State => { t with flds := s.flds } = s) l _ rfl fun t ht m _ => ?_
  exact ht

theorem State.peerFaults_get (l : List Nat) (s : State) {f : Fld} (h : ∀ m, f.key ≠ (LOOM_STATUS_PEER_FAULT m).key) :
    (l.foldl (fun s m => s.set (LOOM_STATUS_PEER_FAULT m) 1) s).get f = s.get f :=
  List.foldlRecOn (motive := fun t : State => t.get f = s.get f) l _ rfl fun _ ht m _ => (State.get_set_ne _ _ (h m)).trans ht

/-- A Draft fault leaves the requests that wait. -/
theorem State.draftFault_ledger (s : State) (n pc unit cause : Nat) : (s.draftFault n pc unit cause).ledger = s.ledger := by
  unfold State.draftFault
  have hsettle (u : State) : (u.settle n).ledger = u.ledger := (congrArg State.ledger (u.settle_onlyLoom n).1 :)
  rw [hsettle]
  simp only [State.set_ledger]
  exact (congrArg State.ledger (State.peerFaults_frame _ _) :).trans (State.report_ledger _ _)

/-- The registers of loom n, and those that show the ledger's state, which a Draft fault of the loom writes. -/
def faultFields (n : Nat) : List Fld :=
  [LOOM_STATUS_FAULT n, LOOM_STATUS_RUN n, LOOM_FAULT_CAUSE n, LOOM_FAULT_UNIT n, LOOM_FAULT_PC n,
    LDG_CREDIT_HELD n, LDG_STATUS_OUTSTANDING, LDG_STATUS_FREE, LDG_HEAD_VALID, LDG_HEAD_LOOM, LDG_HEAD_REQ]

/-- A Draft fault leaves the registers but its own and the marks of peers. -/
theorem State.draftFault_get (s : State) (n pc unit cause : Nat) {f : Fld} (hpeer : ∀ m, f.key ≠ (LOOM_STATUS_PEER_FAULT m).key)
    (hf : f.key ∉ (faultFields n).map Fld.key) : (s.draftFault n pc unit cause).get f = s.get f := by
  simp only [faultFields, List.map_cons, List.mem_cons, not_or] at hf
  obtain ⟨h1, h2, h3, h4, h5, hledger⟩ := hf
  unfold State.draftFault
  rw [State.settle_get _ _ (by simpa using hledger), State.get_set_ne _ _ h1, State.get_set_ne _ _ h2, State.get_set_ne _ _ h3,
    State.get_set_ne _ _ h4, State.get_set_ne _ _ h5, State.peerFaults_get _ _ hpeer, State.report_get, State.modSeq_get]

/-! ### The order of arrival -/

theorem joinLedger_joins (r : LdgReq) (l : List LdgReq) : JoinsInOrder r l (joinLedger r l) := by
  induction l with
  | nil => exact ⟨[], [], rfl, rfl, fun _ h => absurd h List.not_mem_nil, fun _ h => nomatch h⟩
  | cons h l ih =>
    rw [joinLedger]
    split
    · next hfirst =>
      obtain ⟨hfresh, hbefore⟩ := Bool.and_eq_true_iff.1 hfirst
      refine ⟨[], h :: l, rfl, rfl, fun _ h => absurd h List.not_mem_nil, fun y hy => ?_⟩
      obtain rfl := Option.some.inj hy
      exact ⟨hfresh, hbefore⟩
    · next hlater =>
      obtain ⟨a, b, rfl, hjoin, hlow, hhead⟩ := ih
      refine ⟨h :: a, b, rfl, congrArg (h :: ·) hjoin, fun x hx hfresh => ?_, hhead⟩
      rcases List.mem_cons.1 hx with rfl | hx
      · simpa [hfresh] using hlater
      · exact hlow x hx hfresh

/-- A TILE word's tile asks for its credits, where they are lawful. -/
theorem State.requestTile_asks {s : State} (t : State) {n : Nat} {w : DWord} (hpos : 0 < s.requestSize n w.lmode)
    (hfits : s.requestSize n w.lmode ≤ s.get LDG_BUDGET_MIN_EFFECTIVE - s.get LDG_RESERVE_RESERVE) :
    ∃ u, s.requestTile t n w = u ∧ u.ledger = joinLedger ⟨n, s.requestSize n w.lmode, t.ledgerClass n, true⟩ t.ledger
      ∧ (u.lm n).seq.pause = some ⟨.grant, 0, w.slack, false⟩
      ∧ (u.lm n).seq.tile = some ⟨w.lmode, s.requestSize n w.lmode, false, w.budget, w.slack, w.layer, w.unit == 1, false⟩
      ∧ SameMemory t u ∧ ∀ m, m ≠ n → u.lm m = t.lm m := by
  unfold State.requestTile
  dsimp only
  rw [if_neg (by omega), if_neg (by omega)]
  obtain ⟨v, hv⟩ : ∃ v : State, v = (t.modSeq n fun q =>
    { q with tile := some ⟨w.lmode, s.requestSize n w.lmode, false, w.budget, w.slack, w.layer, w.unit == 1, false⟩ }).beginPause n .grant 0 w.slack := ⟨_, rfl⟩
  have honly : OnlyLoom t v n [] := hv ▸ (((OnlyFields.refl t _).onlyLoom n).setLm _).setLm _
  have hpause : (v.lm n).seq.pause = some ⟨.grant, 0, w.slack, false⟩ := by simp [hv, State.beginPause]
  have htile : (v.lm n).seq.tile = some ⟨w.lmode, s.requestSize n w.lmode, false, w.budget, w.slack, w.layer, w.unit == 1, false⟩ := by
    simp [hv, State.beginPause]
  have hclass : v.ledgerClass n = t.ledgerClass n := hv ▸ rfl
  have hledger : v.ledger = t.ledger := hv ▸ rfl
  rw [← hv]
  have hshow := ({ v with ledger := joinLedger ⟨n, s.requestSize n w.lmode, v.ledgerClass n, true⟩ v.ledger } : State).ledgerShow_onlyFields
  have hlm (m : Nat) : (({ v with ledger := joinLedger ⟨n, s.requestSize n w.lmode, v.ledgerClass n, true⟩ v.ledger } : State).ledgerShow).lm m = v.lm m :=
    congrArg (fun l => tget Loom.reset l m) hshow.looms
  refine ⟨_, rfl, ?_, by rw [hlm, hpause], by rw [hlm, htile], ?_, fun m hm => (hlm m).trans (honly.2.1 m hm)⟩
  · rw [← hclass, ← hledger]
    exact (congrArg State.ledger hshow.1 :)
  · exact ⟨fun a => (hshow.sameMemory.1 a).trans (honly.sameMemory.1 a), hshow.sameMemory.2.trans honly.sameMemory.2⟩

theorem exec_tile_ok {n : LoomNo} {s : State} {w : DWord} (hw : s.fetchWord n 0 7 = .ok w) :
    exec (.tile n) s = .next (s.requestTile (s.advance n w) n w) := congrArg Host.Outcome.next (State.issue_ok hw)

theorem tileAsksLedger : TileAsksLedger := by
  intro n s w hw
  obtain ⟨hunit, -⟩ := State.fetchWord_ok hw
  refine ⟨fun hpos hfits => ?_, fun hover => ?_⟩
  · obtain ⟨u, hu, hledger, hpause, htile, hmem, hlm⟩ := State.requestTile_asks (s.advance n w) hpos hfits
    have hadv := s.advance_onlyLoom n w
    have hsame : (s.advance n w).ledger = s.ledger := (congrArg State.ledger hadv.1 :)
    refine ⟨u, (exec_tile_ok hw).trans (congrArg _ hu), ?_, hpause, ?_, ⟨fun a => (hmem.1 a).trans (hadv.sameMemory.1 a), hmem.2.trans hadv.sameMemory.2⟩,
      fun m hm => (hlm m hm).trans (hadv.2.1 m hm)⟩
    · rw [hledger, hsame]
      exact joinLedger_joins _ _
    · rw [htile, hunit]
      rfl
  · have hexec : exec (.tile n) s = .next (s.engineFault n w.unit LDG_ERR_OVERSIZE) :=
      (exec_tile_ok hw).trans (congrArg Host.Outcome.next (if_pos hover))
    obtain ⟨hfault, -, hcause, hwhere, -⟩ := (s.set LDG_ERR_OVERSIZE 1).draftFault_status n (s.lm n).seq.next w.unit 4
    refine ⟨_, hexec, ?_, hfault, hcause, hwhere.trans ?_, State.draftFault_ledger _ _ _ _ _⟩
    · refine (State.draftFault_get _ _ _ _ _ (fun m => ?_) ?_).trans (State.get_set_same _ _ _)
      · simp only [LDG_ERR_OVERSIZE, LOOM_STATUS_PEER_FAULT]
        omega
      · simp [faultFields, LDG_ERR_OVERSIZE, LOOM_STATUS_FAULT, LOOM_STATUS_RUN, LOOM_FAULT_CAUSE, LOOM_FAULT_UNIT, LOOM_FAULT_PC, LDG_CREDIT_HELD,
          LDG_STATUS_OUTSTANDING, LDG_STATUS_FREE, LDG_HEAD_VALID, LDG_HEAD_LOOM, LDG_HEAD_REQ]
        omega
    · rw [hunit]
      rfl

/-! ### Grants and barriers -/

/-- The loom of a TILE word that waits for the grant goes on with its tile granted, and its registers stay. -/
theorem State.grantTile_waiting (s : State) {n b sl : Nat} {tl : Tile} (waited : Nat) (hp : (s.lm n).seq.pause = some ⟨.grant, b, sl, false⟩)
    (ht : (s.lm n).seq.tile = some tl) (ha : tl.array = false) :
    OnlyLoom s (s.grantTile n waited) n [] ∧ ((s.grantTile n waited).lm n).seq.pause = none
      ∧ ((s.grantTile n waited).lm n).seq.tile = some { tl with granted := true } := by
  obtain ⟨u, hu⟩ : ∃ u : State, u = ((s.tickLoom n (min waited sl)).endPause n (min waited sl)).modSeq n fun q =>
    { q with tile := q.tile.map fun t => { t with granted := true } } := ⟨_, rfl⟩
  have htile : (u.lm n).seq.tile = some { tl with granted := true } := by simp [hu, State.tickLoom, State.endPause, ht]
  have hgrant : s.grantTile n waited = u := by
    simp only [State.grantTile, hp, Bool.false_eq_true, if_false, State.startTile, ← hu, htile, ha]
  rw [hgrant]
  refine ⟨hu ▸ ((((OnlyFields.refl s _).onlyLoom n).setLm _).setLm _).setLm _, by simp [hu, State.endPause], htile⟩

/-- The credits of a grant are held and outstanding. -/
theorem State.takeCredits_get (s : State) (n k : Nat) :
    (s.takeCredits n k).get (LDG_CREDIT_HELD n) = (s.get (LDG_CREDIT_HELD n) + k) % 2 ^ (LDG_CREDIT_HELD n).width
      ∧ (s.takeCredits n k).get LDG_STATUS_OUTSTANDING = (s.get LDG_STATUS_OUTSTANDING + k) % 2 ^ LDG_STATUS_OUTSTANDING.width := by
  have hne : (LDG_CREDIT_HELD n).key ≠ LDG_STATUS_OUTSTANDING.key := by simp only [LDG_CREDIT_HELD, LDG_STATUS_OUTSTANDING]; omega
  have hshow := ((s.add (LDG_CREDIT_HELD n) k).add LDG_STATUS_OUTSTANDING k).ledgerShow_onlyFields.2
  refine ⟨(hshow _ ?_).trans ?_, (hshow _ ?_).trans ?_⟩
  · simp [LDG_CREDIT_HELD, LDG_STATUS_FREE, LDG_HEAD_VALID, LDG_HEAD_LOOM, LDG_HEAD_REQ]
    omega
  · rw [State.get_add_ne _ _ hne, State.get_add_same]
  · decide
  · rw [State.get_add_same, State.get_add_ne _ _ hne.symm]

/-- The ledger's decision on a request that fits. -/
theorem exec_ledgerGrant_fits {s : State} {r : LdgReq} {rest : List LdgReq} (waited cycles : Nat) (h : s.ledger = r :: rest) (hfits : r.credits ≤ s.poolFree) :
    exec (.ledgerGrant waited cycles) s = .next
      ((((({ s with ledger := aged rest } : State).grantTile r.loom waited).takeCredits r.loom r.credits).add LDG_CNT_WAIT_N cycles).add LDG_CNT_GRANT_N 1) := by
  show execLedgerGrant waited s cycles = _
  simp only [execLedgerGrant, h, if_pos hfits]
  rfl

/-- The ledger's decision on a request that does not fit. -/
theorem exec_ledgerGrant_blocks {s : State} {r : LdgReq} {rest : List LdgReq} (waited cycles : Nat) (h : s.ledger = r :: rest) (hblocks : s.poolFree < r.credits) :
    exec (.ledgerGrant waited cycles) s = .next (({ s with ledger := aged s.ledger } : State).add LDG_CNT_WAIT_N cycles) := by
  show execLedgerGrant waited s cycles = _
  simp only [execLedgerGrant, h, if_neg (Nat.not_le.2 hblocks)]
  rfl

theorem ledgerGrantsInOrder : LedgerGrantsInOrder := by
  intro n s waited cycles k p b sl f rest tl hledger
  refine ⟨fun hfits hpause htile harray => ?_, fun hblocks => ?_⟩
  · obtain ⟨honly, hpause', htile'⟩ := ({ s with ledger := aged rest } : State).grantTile_waiting waited hpause htile harray
    have hexec := exec_ledgerGrant_fits waited cycles hledger hfits
    generalize ({ s with ledger := aged rest } : State).grantTile n waited = u at honly hpause' htile' hexec
    have htake := u.takeCredits_onlyFields n k
    obtain ⟨hheld, hout⟩ := u.takeCredits_get n k
    have hcounts (f : Fld) (hf : f.key ≠ LDG_CNT_WAIT_N.key ∧ f.key ≠ LDG_CNT_GRANT_N.key) :
        (((u.takeCredits n k).add LDG_CNT_WAIT_N cycles).add LDG_CNT_GRANT_N 1).get f = (u.takeCredits n k).get f :=
      (State.get_add_ne _ _ hf.2).trans (State.get_add_ne _ _ hf.1)
    have hlm (m : Nat) : (((u.takeCredits n k).add LDG_CNT_WAIT_N cycles).add LDG_CNT_GRANT_N 1).lm m = u.lm m :=
      congrArg (fun l => tget Loom.reset l m) htake.looms
    have hsame (g : Fld) : u.get g = s.get g := honly.2.2 g List.not_mem_nil
    refine ⟨_, hexec, ?_, ?_, ?_, by rw [hlm, hpause'], by rw [hlm, htile'], ?_, fun m hm => (hlm m).trans (honly.2.1 m hm)⟩
    · exact (congrArg State.ledger htake.1 :).trans (congrArg State.ledger honly.1 :)
    · rw [hcounts _ (by simp only [LDG_CREDIT_HELD, LDG_CNT_WAIT_N, LDG_CNT_GRANT_N]; omega), hheld, hsame]
    · rw [hcounts _ (by decide), hout, hsame]
    · exact ⟨fun a => (htake.sameMemory.1 a).trans (honly.sameMemory.1 a), htake.sameMemory.2.trans honly.sameMemory.2⟩
  · exact ⟨_, exec_ledgerGrant_blocks waited cycles hledger hblocks, rfl, State.get_add_same _ _ _, (OnlyFields.refl _ _).set _ _ (List.mem_singleton.2 rfl)⟩

/-- A barrier's fall closes the loom's tile and returns its credits. -/
theorem State.fallBarrier_onlyLoom (s : State) (n : Nat) : OnlyLoom s (s.fallBarrier n) n
    [LDG_CREDIT_HELD n, LDG_STATUS_OUTSTANDING, LDG_STATUS_FREE, LDG_HEAD_VALID, LDG_HEAD_LOOM, LDG_HEAD_REQ] :=
  (((OnlyFields.refl s _).onlyLoom n).setLm _).trans (State.closeTile_onlyLoom _ n)

theorem State.returnCredits_get (s : State) (n : Nat) : (s.returnCredits n).get (LDG_CREDIT_HELD n) = 0
    ∧ (s.returnCredits n).get LDG_STATUS_OUTSTANDING
      = (s.get LDG_STATUS_OUTSTANDING - s.get (LDG_CREDIT_HELD n)) % 2 ^ LDG_STATUS_OUTSTANDING.width := by
  have hne : (LDG_CREDIT_HELD n).key ≠ LDG_STATUS_OUTSTANDING.key := by simp only [LDG_CREDIT_HELD, LDG_STATUS_OUTSTANDING]; omega
  have hshow := ((s.set LDG_STATUS_OUTSTANDING (s.get LDG_STATUS_OUTSTANDING - s.get (LDG_CREDIT_HELD n))).set (LDG_CREDIT_HELD n) 0).ledgerShow_onlyFields.2
  refine ⟨(hshow _ ?_).trans (State.get_set_same _ _ _), (hshow _ ?_).trans ((State.get_set_ne _ _ hne.symm).trans (State.get_set_same _ _ _))⟩
  · simp [LDG_CREDIT_HELD, LDG_STATUS_FREE, LDG_HEAD_VALID, LDG_HEAD_LOOM, LDG_HEAD_REQ]
    omega
  · decide

theorem exec_tileBarrier_falls {n : LoomNo} {s : State} {tl : Tile} (hf : s.frozen n = false) (ht : (s.lm n).seq.tile = some tl)
    (hg : tl.granted = true) (ha : tl.array = false) : exec (.tileBarrier n) s = .next (s.fallBarrier n) := by
  show execTileBarrier n s = _
  simp [execTileBarrier, hf, ht, hg, ha]

theorem barrierReturnsCredits : BarrierReturnsCredits := by
  intro n s tl hf ht hg ha
  obtain ⟨hheld, hout⟩ := (s.modArr n fun a => { a with ops := (a.ops.map fun o => { o with barrier := true }).filter fun o => !opDone o }).returnCredits_get n
  exact ⟨_, exec_tileBarrier_falls hf ht hg ha, State.closeTile_tile _ n, hheld, hout, s.fallBarrier_onlyLoom n⟩

/-- Settles O10, part by part. -/
theorem ledgerGrants : Obligations.LedgerGrants := ⟨tileAsksLedger, ledgerGrantsInOrder, barrierReturnsCredits⟩

end Sys2Proof.Machine
end

section
/-! PROOF. Windows and the set exchange (R56, R75, R89, R102, R103). -/
namespace Sys2Proof.Machine

/-! ### Windows -/

/-- Of fields that a list of indices sets at different places, one holds the value that its index gives. -/
theorem State.foldl_set_get {fld : Nat → Fld} (v : Nat → Nat) (hinj : ∀ i j, (fld i).key = (fld j).key → i = j) {l : List Nat} {i : Nat} (hi : i ∈ l)
    (s : State) : (l.foldl (fun t r => t.set (fld r) (v r)) s).get (fld i) = v i % 2 ^ (fld i).width := by
  induction l using List.reverseRecOn with
  | nil => exact absurd hi List.not_mem_nil
  | append_singleton l j ih =>
    rw [List.foldl_append]
    by_cases hij : i = j
    · subst hij
      exact State.get_set_same _ _ _
    · exact (State.get_set_ne _ _ fun h => hij (hinj i j h)).trans (ih (by simpa [hij] using hi))

/-- Forgetting what was found in the scratchpad changes no register, no memory and no sequencer. -/
theorem State.eccSeen_frame (s : State) (n : Nat) : OnlyLoom s (s.eccSeen n) n [] := s.setLm_onlyLoom n _

theorem State.eccSeen_get (s : State) (n : Nat) (f : Fld) : (s.eccSeen n).get f = s.get f := rfl

@[simp] theorem State.eccSeen_seq (s : State) (n : Nat) : ((s.eccSeen n).lm n).seq = (s.lm n).seq := by simp [State.eccSeen]

/-- A word that issues without memory events does what the operation says; what it has found in the scratchpad is forgotten. -/
theorem State.withEvents_none {s : State} {n : Nat} {f : State → State} (h : ((f s).lm n).seq.next ≠ (s.lm n).seq.next) :
    s.withEvents n {} f = (f s).eccSeen n := by
  have hseen : (((f s).eccSeen n).lm n).seq.next = ((f s).lm n).seq.next := by rw [State.eccSeen_seq]
  have hevents : s.eccEvents n (CycleEvs.ecc {}).flatten = s := rfl
  rw [State.withEvents, if_neg h, hevents]
  dsimp only
  rw [hseen, if_neg h]
  rfl

theorem State.foldl_set_onlyFields (fld : Nat → Fld) (v : Nat → Nat) (l : List Nat) (s : State) :
    OnlyFields s (l.foldl (fun t r => t.set (fld r) (v r)) s) (l.map fld) := by
  suffices h : ∀ (m : List Nat) (t : State), (∀ r ∈ m, r ∈ l) → OnlyFields s t (l.map fld) →
      OnlyFields s (m.foldl (fun t r => t.set (fld r) (v r)) t) (l.map fld) from h l s (fun _ => id) (.refl s _)
  intro m
  induction m with
  | nil => exact fun _ _ ht => ht
  | cons r m ih =>
    exact fun t hm ht => ih _ (fun x hx => hm x (List.mem_cons_of_mem r hx)) (ht.set _ _ (List.mem_map_of_mem (hm r List.mem_cons_self)))

/-- The window of accumulator row r in a set. -/
def windowField (n set r : Nat) : Fld := if set = 0 then ACC_WIN0_WIN n r else ACC_WIN1_WIN n r

theorem windowField_width (n set r : Nat) : (windowField n set r).width = 9 := by
  unfold windowField
  split <;> rfl

theorem windowField_inj {n set i j : Nat} (h : (windowField n set i).key = (windowField n set j).key) : i = j := by
  unfold windowField at h
  split at h <;> simp only [ACC_WIN0_WIN, ACC_WIN1_WIN] at h <;> omega

/-- The window that a load from address a gives row r. -/
def State.windowLoaded (s : State) (n a r : Nat) : Nat := ofSigned 9 (s.adjustWin n (toSigned 9 (leAt (s.spRead n a 1024) (2 * r) 2 % 512)))

/-- What WINLOAD leaves before the windows change: the word has issued, and the ACC unit is busy for 4 cycles. -/
def State.winloadIssued (s : State) (n : Nat) (w : DWord) (a : Nat) : State :=
  ((s.advance n w).countPoison n [(a, 1024)]).modSeq n fun q => { q with accFree := q.cycles + 4 }

theorem State.countPoison_lm (s : State) (n : Nat) (l : List (Nat × Nat)) (m : Nat) : (s.countPoison n l).lm m = s.lm m := rfl

theorem State.winloadIssued_lm (s : State) (n : Nat) (w : DWord) (a : Nat) : (s.winloadIssued n w a).lm n
    = { (s.advance n w).lm n with seq := { ((s.advance n w).lm n).seq with accFree := ((s.advance n w).lm n).seq.cycles + 4 } } := by
  rw [State.winloadIssued, State.lm_modSeq_same, State.countPoison_lm]

theorem State.winloadIssued_frame (s : State) (n : Nat) (w : DWord) (a : Nat) :
    SameMemory s (s.winloadIssued n w a) ∧ (∀ m, m ≠ n → (s.winloadIssued n w a).lm m = s.lm m)
      ∧ ((s.winloadIssued n w a).lm n).seq.next = (s.lm n).seq.next + 1
      ∧ ((s.winloadIssued n w a).lm n).seq.accFree = (s.lm n).seq.cycles + w.delta + 4 := by
  have honly : OnlyLoom s (s.winloadIssued n w a) n [LOOM_PC_PC n, SPD_CNT_POISON_POISON n] :=
    (((s.advance_onlyLoom n w).mono (by simp)).set _ _ (by simp)).setLm _
  refine ⟨honly.sameMemory, honly.2.1, ?_, ?_⟩
  · rw [State.winloadIssued_lm]
    exact s.advance_next n w
  · rw [State.winloadIssued_lm]
    exact congrArg (· + 4) (s.advance_cycles n w)

/-- What WINLOAD leaves. -/
def State.winloaded (s : State) (n : Nat) (w : DWord) (set a : Nat) : State :=
  (List.range 512).foldl (fun t r => t.set (windowField n set r) (s.windowLoaded n a r)) (s.winloadIssued n w a)

theorem State.winloaded_onlyFields (s : State) (n : Nat) (w : DWord) (set a : Nat) :
    OnlyFields (s.winloadIssued n w a) (s.winloaded n w set a) ((List.range 512).map (windowField n set)) :=
  State.foldl_set_onlyFields _ _ _ _

theorem State.winloaded_lm (s : State) (n : Nat) (w : DWord) (set a m : Nat) : (s.winloaded n w set a).lm m = (s.winloadIssued n w a).lm m :=
  congrArg (fun l => tget Loom.reset l m) (s.winloaded_onlyFields n w set a).looms

/-- The WINLOAD word. -/
def State.winloadWord (s : State) (n : Nat) : State := s.issue n 2 0 fun w =>
  if !inSpad n [(64 * bits w.arg 0 24, 1024)] then s.wordFault n 2 3
  else s.winloaded n w (if bitOf w.arg 24 then 1 - s.activeSet n else s.activeSet n) (64 * bits w.arg 0 24)

theorem exec_winload (n : LoomNo) (s : State) : exec (.winload n {}) s = .next (s.withEvents n {} fun s => s.winloadWord n) := rfl

theorem State.winloadWord_ok {n : Nat} {s : State} {w : DWord} (hw : s.fetchWord n 2 0 = .ok w) (hpad : inSpad n [(64 * bits w.arg 0 24, 1024)] = true) :
    s.winloadWord n = s.winloaded n w (if bitOf w.arg 24 then 1 - s.activeSet n else s.activeSet n) (64 * bits w.arg 0 24) :=
  (State.issue_ok hw).trans (if_neg (by simp [hpad]))

theorem exec_winload_ok {n : LoomNo} {s : State} {w : DWord} (hw : s.fetchWord n 2 0 = .ok w) (hpad : inSpad n [(64 * bits w.arg 0 24, 1024)] = true) :
    exec (.winload n {}) s
      = .next ((s.winloaded n w (if bitOf w.arg 24 then 1 - s.activeSet n else s.activeSet n) (64 * bits w.arg 0 24)).eccSeen n) := by
  have hword := State.winloadWord_ok hw hpad
  have hnext : ((s.winloadWord n).lm n).seq.next = (s.lm n).seq.next + 1 := by
    rw [hword, State.winloaded_lm]
    exact (s.winloadIssued_frame n w _).2.2.1
  have hne : ((s.winloadWord n).lm n).seq.next ≠ (s.lm n).seq.next := by omega
  exact (exec_winload n s).trans (congrArg Host.Outcome.next ((State.withEvents_none (f := fun s => s.winloadWord n) hne).trans (congrArg (fun t : State => t.eccSeen n) hword)))

theorem winloadSetsWindows : WinloadSetsWindows := by
  intro n s w r hw hpad hr
  refine ⟨_, exec_winload_ok hw hpad, ?_⟩
  generalize (if bitOf w.arg 24 then 1 - s.activeSet n else s.activeSet n) = set
  obtain ⟨hmem, hothers, hnext, hfree⟩ := s.winloadIssued_frame n w (64 * bits w.arg 0 24)
  have honly := (s.winloaded_onlyFields n w set (64 * bits w.arg 0 24)).sameMemory
  have hget : (s.winloaded n w set (64 * bits w.arg 0 24)).get (windowField n set r)
      = s.windowLoaded n (64 * bits w.arg 0 24) r % 2 ^ (windowField n set r).width :=
    State.foldl_set_get _ (fun i j => windowField_inj) (List.mem_range.2 hr) _
  rw [windowField_width] at hget
  have hlm := s.winloaded_lm n w set (64 * bits w.arg 0 24)
  have hseen := (s.winloaded n w set (64 * bits w.arg 0 24)).eccSeen_frame n
  refine ⟨?_, ?_, (State.eccSeen_get _ _ _).trans hget, ⟨fun a => (hseen.sameMemory.1 a).trans ((honly.1 a).trans (hmem.1 a)),
    hseen.sameMemory.2.trans (honly.2.trans hmem.2)⟩, fun m hm => (hseen.2.1 m hm).trans ((hlm m).trans (hothers m hm))⟩
  · rw [State.eccSeen_seq, hlm, hnext]
  · rw [State.eccSeen_seq, hlm, hfree]

/-! ### The set exchange -/

theorem swapExchangesSets : SwapExchangesSets := by
  intro n s w hw
  have hissue (t : State) (h : (if s.is (ACC_STATUS_IN_FLIGHT n) || s.is (ACC_STATUS_DRAIN_BUSY n) || s.is (ARR_STATUS_BUSY n)
      then s.engineFault n 2 (ACC_ERR_SWAP_EARLY n) else (s.advance n w).set (ACC_STATUS_ACTIVE_SET n) (1 - s.activeSet n)) = t) :
      exec (.swap n) s = .next t := congrArg Host.Outcome.next ((State.issue_ok hw).trans h)
  refine ⟨fun hflight hdrain hbusy => ?_, fun hearly => ?_⟩
  · refine ⟨_, hissue _ (if_neg (by simp [hflight, hdrain, hbusy])), (State.get_set_same _ _ _).trans ?_, s.advance_next n w,
      ((s.advance_onlyLoom n w).mono (by simp)).set _ _ (by simp)⟩
    exact Nat.mod_eq_of_lt (show _ < 2 ^ 1 by omega)
  · obtain ⟨hfault, -, hcause, hwhere, -⟩ := (s.set (ACC_ERR_SWAP_EARLY n) 1).draftFault_status n (s.lm n).seq.next 2 4
    refine ⟨_, hissue _ (if_pos (by rcases hearly with h | h | h <;> simp [h])), (State.draftFault_get _ _ _ _ _ (fun m => ?_) ?_).trans (State.get_set_same _ _ _),
      hfault, hcause, hwhere, (State.draftFault_get _ _ _ _ _ (fun m => ?_) ?_).trans (State.get_set_ne _ _ ?_)⟩
    all_goals
      simp [faultFields, ACC_ERR_SWAP_EARLY, ACC_STATUS_ACTIVE_SET, LOOM_STATUS_PEER_FAULT, LOOM_STATUS_FAULT, LOOM_STATUS_RUN, LOOM_FAULT_CAUSE,
        LOOM_FAULT_UNIT, LOOM_FAULT_PC, LDG_CREDIT_HELD, LDG_STATUS_OUTSTANDING, LDG_STATUS_FREE, LDG_HEAD_VALID, LDG_HEAD_LOOM, LDG_HEAD_REQ] <;> omega

end Sys2Proof.Machine
end

section
/-! PROOF. Where the statement about the accumulators fails: its frame of a write through the view speaks of every field record, and of every state. -/
namespace Sys2Proof.Machine

/-- Loom 0 is ON and idle, and the table of registers spells out that SPD_CNT_NC_DEFER is 0, its reset value, which the states that steps reach
leave out. -/
def zeroSpelledOut : State :=
  { State.reset.set (PWR_DOM_STATE 0) 3 with flds := ((SPD_CNT_NC_DEFER_DEFER 0).key, 0) :: (State.reset.set (PWR_DOM_STATE 0) 3).flds }

/-- A field record at the place of SPD_CNT_NC_DEFER whose reset value is 1. -/
def resetsToOne : Fld := { SPD_CNT_NC_DEFER_DEFER 0 with reset := 1 }

theorem zeroSpelledOut_serves : zeroSpelledOut.is (LOOM_STATUS_BENCHED 0) = false ∧ zeroSpelledOut.get (PWR_DOM_STATE 0) = 3
    ∧ zeroSpelledOut.portFree 0 = true ∧ zeroSpelledOut.get resetsToOne = 0 := by decide +kernel

/-- What a field record reads after a command. -/
def fieldAfter (f : Fld) (c : Instr) (s : State) : Option Nat :=
  match exec c s with
  | .next t => some (t.get f)
  | _ => none

theorem fieldAfter_eq {f : Fld} {c : Instr} {s t : State} (h : exec c s = .next t) : fieldAfter f c s = some (t.get f) := by
  simp [fieldAfter, h]

/-- Counting the 0 cycles that the write was deferred writes 0 to SPD_CNT_NC_DEFER, which takes the entry out of the table. -/
theorem fieldAfter_accViewWrite : fieldAfter resetsToOne (.accViewWrite 0 0 [1] .host 0) zeroSpelledOut = some 1 := by decide +kernel

/-- Refutes O12, in the clause on a host core's write through the view: its frame `OnlyLoom _ t n []` has every field record, of whatever width
and reset value, read as before. The write counts the 0 cycles that its port deferred it in SPD_CNT_NC_DEFER; in `zeroSpelledOut` that takes the
register's entry out of the table, and `resetsToOne`, a record of no register, reads another value. Of the registers of the map none changes:
the clause lacks SPD_CNT_NC_DEFER in its list, or the hypothesis that the table is one that steps reach. `winloadSetsWindows` and
`swapExchangesSets` are the statement's first two parts, which hold. -/
theorem not_accumulatorsChange : ¬ Obligations.AccumulatorsChange := by
  intro ⟨_, _, hview⟩
  obtain ⟨hbench, hon, hfree, hzero⟩ := zeroSpelledOut_serves
  obtain ⟨hwrites, _⟩ := hview 0 zeroSpelledOut
  obtain ⟨hserves, _⟩ := hwrites 0 0 0 [1] _ (by decide) (by decide) (by decide) (by decide) rfl
  obtain ⟨hnow, _⟩ := hserves hbench hon
  obtain ⟨t, hexec, _, _, _, hfields⟩ := hnow hfree
  have hchanged : t.get resetsToOne = 1 := Option.some.inj ((fieldAfter_eq hexec).symm.trans fieldAfter_accViewWrite)
  have hstays : t.get resetsToOne = 0 := (hfields resetsToOne List.not_mem_nil).trans hzero
  exact absurd (hchanged.symm.trans hstays) (by decide)

end Sys2Proof.Machine
end

section
/-! PROOF. HBM and its caches (R331 to R347, R360, R486). -/
namespace Sys2Proof.Machine

/-! ### What the cache's operations change -/

/-- From s to t only register fields, memory and the cached lines change. -/
def CacheOnly (s t : State) : Prop := { t with flds := s.flds, mem := s.mem, poison := s.poison, cache := s.cache } = s

theorem CacheOnly.refl (s : State) : CacheOnly s s := rfl

theorem CacheOnly.trans {s t u : State} (h : CacheOnly s t) (g : CacheOnly t u) : CacheOnly s u := by
  unfold CacheOnly at *
  exact (congrArg (fun x : State => { x with flds := s.flds, mem := s.mem, poison := s.poison, cache := s.cache }) g).trans h

theorem CacheOnly.looms {s t : State} (h : CacheOnly s t) : t.looms = s.looms := (congrArg State.looms h :)

theorem CacheOnly.add {s t : State} (h : CacheOnly s t) (f : Fld) (k : Nat) : CacheOnly s (t.add f k) := h.trans rfl

theorem State.keptBy_only (s : State) (st : Nat) (c : CLine) (up : Bool) : CacheOnly s (s.keptBy st c up) := by
  unfold State.keptBy
  split <;> rfl

theorem State.keptBy_cache (s : State) (st : Nat) (c : CLine) (up : Bool) : (s.keptBy st c up).cache = s.cache := by
  unfold State.keptBy
  split <;> rfl

theorem State.dropLine_only (s : State) (c : CLine) (wb : Bool) : CacheOnly s (s.dropLine c wb) := by
  have hput : CacheOnly s (s.putSet c.line ((tget [] s.cache (setKey c.line)).filter fun x => x.line != c.line)) := rfl
  have hkept := hput.trans (State.keptBy_only _ (stackOf c.line) c false)
  unfold State.dropLine
  split
  · exact hkept.trans rfl
  · exact hkept

/-- A line that is dropped leaves its set. -/
theorem State.dropLine_cache (s : State) (c : CLine) (wb : Bool) :
    (s.dropLine c wb).cache = tput [] s.cache (setKey c.line) ((tget [] s.cache (setKey c.line)).filter fun x => x.line != c.line) := by
  unfold State.dropLine
  split
  · exact State.keptBy_cache _ _ _ _
  · exact State.keptBy_cache _ _ _ _

theorem State.allocLine_only (s : State) (l tenant : Nat) (dirty : Bool) (data : List Byte) (mask : Nat) : CacheOnly s (s.allocLine l tenant dirty data mask) := by
  have hroom (u : State) (hu : CacheOnly s u) (ls : List CLine) : CacheOnly s (if ls.length < 16 then u
      else match u.victim ls with
        | some v => u.dropLine v true
        | none => match ls.getLast? with | some v => u.dropLine v true | none => u) := by
    split
    · exact hu
    · split
      · exact hu.trans (u.dropLine_only _ _)
      · split
        · exact hu.trans (u.dropLine_only _ _)
        · exact hu
  unfold State.allocLine
  extract_lets st ls mark u v c
  have hu : CacheOnly s u := by
    unfold u
    split
    · exact .refl s
    · exact (CacheOnly.refl s).add _ _
  have hv : CacheOnly s v := hroom u hu ls
  have hput : CacheOnly v (v.putSet l (c :: tget [] v.cache (setKey l))) := rfl
  exact (hv.trans hput).trans (State.keptBy_only _ _ _ _)

/-- A line that is allocated is the one of its address. -/
theorem State.allocLine_cached (s : State) (l tenant : Nat) (dirty : Bool) (data : List Byte) (mask : Nat) :
    ∃ c, (s.allocLine l tenant dirty data mask).cached l = some c ∧ c.data = data := by
  unfold State.allocLine
  extract_lets st ls mark u v c
  refine ⟨c, ?_, rfl⟩
  rw [State.cached, State.keptBy_cache, State.putSet, tget_tput_same]
  exact List.find?_cons_of_pos (by simp [c])

/-! ### Writes and reads of a line -/

/-- Where a line's data are written in its set, the set holds it with those data. -/
theorem find?_map_line {ls : List CLine} {l mask : Nat} {data : List Byte} {c : CLine} (h : ls.find? (fun x => x.line == l) = some c) :
    (ls.map fun x => if x.line == l then { x with dirty := true, data, mask } else x).find? (fun x => x.line == l) = some { c with dirty := true, data, mask } := by
  induction ls with
  | nil => exact nomatch h
  | cons x ls ih =>
    rw [List.map_cons]
    cases hx : x.line == l with
    | true =>
      rw [List.find?_cons_of_pos (p := fun x : CLine => x.line == l) hx] at h
      obtain rfl := Option.some.inj h
      exact List.find?_cons_of_pos (by simpa using hx)
    | false =>
      rw [List.find?_cons_of_neg (p := fun x : CLine => x.line == l) (by simp [hx])] at h
      rw [if_neg Bool.false_ne_true, List.find?_cons_of_neg (p := fun x : CLine => x.line == l) (by simp [hx])]
      exact ih h

/-- What a line's bytes are after they are written. -/
theorem State.cacheWrite_lineNow (s : State) (l tenant hint : Nat) {data : List Byte} (mask : Nat) (hlen : s.cached l = none → data.length = 256) :
    ((s.cacheWrite l tenant hint data mask).lineNow l).1 = data ∧ CacheOnly s (s.cacheWrite l tenant hint data mask) := by
  have hmiss : (s.add (MSC_CNT_MISS_MISS (stackOf l)) 1).cached l = s.cached l := rfl
  unfold State.cacheWrite
  dsimp only
  split
  next c hc =>
    refine ⟨?_, rfl⟩
    have hline : (c.line == l) = true := List.find?_some (p := fun x : CLine => x.line == l) hc
    rw [State.lineNow, State.cached, State.putSet, tget_tput_same, find?_map_line (data := data) (mask := mask) hc]
  next hc =>
    split
    · obtain ⟨c, hcached, hdata⟩ := (s.add (MSC_CNT_MISS_MISS (stackOf l)) 1).allocLine_cached l tenant true data mask
      refine ⟨?_, ((CacheOnly.refl s).add _ _).trans (State.allocLine_only _ _ _ _ _ _)⟩
      rw [State.lineNow, hcached]
      exact hdata
    · refine ⟨?_, rfl⟩
      have hnone : ((s.add (MSC_CNT_MISS_MISS (stackOf l)) 1).putDram l data mask).cached l = none := hc
      rw [State.lineNow, hnone]
      have hbytes := (s.add (MSC_CNT_MISS_MISS (stackOf l)) 1).bytesAt_memWrite_same l data false
      rw [hlen hc] at hbytes
      exact hbytes

theorem State.cacheRead_spec (s : State) (l tenant hint : Nat) : (s.cacheRead l tenant hint).1.1 = (s.lineNow l).1
    ∧ CacheOnly s (s.cacheRead l tenant hint).2 := by
  have hcount (f : Fld) : CacheOnly s (s.add f 1) := rfl
  unfold State.cacheRead
  dsimp only
  split
  next c hc =>
    refine ⟨by rw [State.lineNow, hc], ?_⟩
    dsimp only
    split
    · rfl
    · split
      · split
        · exact ((hcount _).trans (State.dropLine_only _ _ _)).add _ _
        · exact (hcount _).trans (State.dropLine_only _ _ _)
      · exact hcount _
  next hc =>
    refine ⟨by rw [State.lineNow, hc]; rfl, ?_⟩
    dsimp only
    split
    · exact (hcount _).trans (State.allocLine_only _ _ _ _ _ _)
    · exact hcount _

/-! ### Accesses of one line -/

theorem linePieces_one {k a n : Nat} (hn : 0 < n) (h : a % 256 + n ≤ 256) : linePieces (k + 2) a n = [(a, n)] := by
  have hm : min n (256 - a % 256) = n := by omega
  rw [linePieces, if_neg (by omega), hm]
  dsimp only
  rw [Nat.sub_self, linePieces, if_pos rfl]

theorem State.wakeStack_of_awake {s : State} {a : Nat} (h : s.asleep (144 + stackOf a) = false) : s.wakeStack a = s := by
  rw [State.wakeStack, h, if_neg Bool.false_ne_true]

/-- A line's bytes with those of d from offset o. -/
theorem State.lineNow_length {s : State} {l : Nat} (h : s.cached l = none) : (s.lineNow l).1.length = 256 := by
  rw [State.lineNow, h]
  simp [State.dramLine, State.bytesAt]

theorem State.writePiece_plain {s : State} {a tenant : Nat} {d : List Byte} (pois : List Bool) (h : a % 256 + d.length ≤ 256)
    (hawake : s.asleep (144 + stackOf a) = false) (hdec : s.hbmDecide .host tenant false a = (0, none)) :
    ∃ t, s.writePiece .host tenant false a d pois = (0, t) ∧ CacheOnly s t
      ∧ (t.lineNow (a - a % 256)).1 = (s.lineNow (a - a % 256)).1.take (a % 256) ++ d ++ (s.lineNow (a - a % 256)).1.drop (a % 256 + d.length) := by
  unfold State.writePiece
  rw [hdec]
  dsimp only [State.cryptLine]
  rw [State.wakeStack_of_awake hawake]
  obtain ⟨hline, honly⟩ := s.cacheWrite_lineNow (a - a % 256) tenant (s.hintOf a none) (data := (s.lineNow (a - a % 256)).1.take (a % 256) ++ d
    ++ (s.lineNow (a - a % 256)).1.drop (a % 256 + d.length)) _ fun hc => by
      have hl := State.lineNow_length hc
      simp [hl]
      omega
  exact ⟨_, rfl, honly, hline⟩

theorem State.writePiece_refused {s : State} {a tenant : Nat} {rg : Option Nat} (d : List Byte) (pois : List Bool)
    (hdec : s.hbmDecide .host tenant false a = (3, rg)) : s.writePiece .host tenant false a d pois = (3, s) := by
  rw [State.writePiece, hdec]
  rfl

theorem State.readPiece_plain {s : State} {a tenant n : Nat} (hawake : s.asleep (144 + stackOf a) = false)
    (hdec : s.hbmDecide .host tenant false a = (0, none)) :
    ∃ t p, s.readPiece .host tenant false a n [] = (⟨0, slice (s.lineNow (a - a % 256)).1 (a % 256) n, p⟩, t) ∧ CacheOnly s t := by
  obtain ⟨hdata, honly⟩ := s.cacheRead_spec (a - a % 256) tenant (s.hintOf a none)
  rw [← hdata]
  unfold State.readPiece
  rw [hdec]
  dsimp only [State.cryptLine]
  rw [State.wakeStack_of_awake hawake]
  exact ⟨_, _, rfl, honly.add _ _⟩

/-- The write of bytes within one line is one piece. -/
theorem State.hbmPut_piece {s t : State} {a tenant st : Nat} {d : List Byte} (h : a % 256 + d.length ≤ 256) (hd : 0 < d.length)
    (hawake : s.asleep (144 + stackOf a) = false) (hpiece : s.writePiece .host tenant false a d (d.map fun _ => false) = (st, t)) :
    s.hbmPut .host tenant false a d false = (st, if st = 0 then t else t.hbmRefused .host tenant a st) := by
  have hpieces : linePieces (d.length / 256 + 2) a d.length = [(a, d.length)] := linePieces_one hd h
  have htake : (d.map fun _ => false).take d.length = d.map fun _ => false := List.take_of_length_le (by simp)
  unfold State.hbmPut State.hbmWrite State.hbmStore
  simp only [hpieces, List.foldl_cons, List.foldl_nil, Nat.sub_self, List.drop_zero, List.take_length, htake, State.wakeStack_of_awake hawake, hpiece]
  by_cases hst : st = 0 <;> simp [hst]

theorem State.hbmRead_piece {s t : State} {a tenant n : Nat} {r : RdData} (h : a % 256 + n ≤ 256) (hn : 0 < n)
    (hawake : s.asleep (144 + stackOf a) = false) (hpiece : s.readPiece .host tenant false a n [] = (r, t)) (hr : r.status = 0) :
    s.hbmRead .host tenant false a n [] = (r, t) := by
  have hpieces : linePieces (n / 256 + 2) a n = [(a, n)] := linePieces_one hn h
  unfold State.hbmRead State.hbmScan
  simp only [hpieces, List.foldl_cons, List.foldl_nil, State.wakeStack_of_awake hawake, hpiece]
  simp only [hr, List.nil_append, Option.isSome_none, Bool.false_or, decide_true, if_true]
  exact congrArg (Prod.mk · t) (hr ▸ rfl)

/-! ### The commands -/

theorem exec_hbmAccess_write {s : State} {a tenant : Nat} {d : List Byte} (hlo : hbmBase ≤ a) (hhi : a + d.length ≤ hbmEnd)
    (hawake : s.asleep (144 + stackOf a) = false) : exec (.hbmAccess ⟨.host, true, a, d.length, d, tenant, false, false⟩ []) s
      = .next { (s.hbmPut .host tenant false a d false).2 with resp := ⟨(s.hbmPut .host tenant false a d false).1, [], false⟩ } := by
  show execHbmAccess _ [] s = _
  have hin : ¬(a < hbmBase ∨ hbmEnd < a + d.length) := by omega
  simp [execHbmAccess, hin, hawake, State.eccHits]

theorem exec_hbmAccess_read {s : State} {a tenant n : Nat} (hlo : hbmBase ≤ a) (hhi : a + n ≤ hbmEnd)
    (hawake : s.asleep (144 + stackOf a) = false) {r : RdData} {t : State} (hread : s.hbmRead .host tenant false a n [] = (r, t)) :
    exec (.hbmAccess ⟨.host, false, a, n, [], tenant, false, false⟩ []) s
      = .next { t.readPoison .host false a (r.pois.any id) with resp := ⟨r.status, r.data, r.pois.any id⟩ } := by
  show execHbmAccess _ [] s = _
  have hin : ¬(a < hbmBase ∨ hbmEnd < a + n) := by omega
  simp [execHbmAccess, hin, hawake, State.eccHits, hread]

theorem hbmHoldsWrites : HbmHoldsWrites := by
  intro s a tenant d hlo hhi hd hone hawake hdec
  refine ⟨?_, ?_⟩
  · obtain ⟨t, hpiece, honly, hline⟩ := State.writePiece_plain (d.map fun _ => false) hone hawake hdec
    have hexec := exec_hbmAccess_write (tenant := tenant) hlo hhi hawake
    rw [State.hbmPut_piece hone hd hawake hpiece, if_pos rfl] at hexec
    exact ⟨_, hexec, rfl, hline, honly.looms⟩
  · obtain ⟨t, p, hpiece, honly⟩ := State.readPiece_plain (n := d.length) hawake hdec
    exact ⟨_, exec_hbmAccess_read hlo hhi hawake (State.hbmRead_piece hone hd hawake hpiece rfl), rfl, rfl, honly.looms⟩

theorem hbmRefuses : HbmRefuses := by
  intro s a tenant d rg hlo hhi hd hone hawake hdec
  have hexec := exec_hbmAccess_write (tenant := tenant) hlo hhi hawake
  rw [State.hbmPut_piece hone hd hawake (State.writePiece_refused d _ hdec), if_neg (by decide)] at hexec
  refine ⟨_, hexec, rfl, ⟨fun x => State.report_byteAt _ _ x, State.report_poison _ _⟩, State.report_cache _ _, State.report_flds _ _, State.report_looms _ _, ?_⟩
  rintro r rfl hnew hroom
  show (s.report _).errs = _
  rw [State.report, hnew, if_neg Bool.false_ne_true, if_neg (by exact Nat.not_le.2 hroom)]

/-! ### Sleepers -/

/-- Waking stacks of HBM moves those that are LOW, and no other register. -/
theorem State.wakeStacks_get (l : List Nat) (s : State) : SameFields s (l.foldl (fun s k => s.wakeOne (144 + k)) s) (l.map fun k => PWR_DOM_STATE (144 + k))
    ∧ ∀ k ∈ l, l.Nodup → (l.foldl (fun s k => s.wakeOne (144 + k)) s).get (PWR_DOM_STATE (144 + k))
      = if s.get (PWR_DOM_STATE (144 + k)) = 1 then 2 else s.get (PWR_DOM_STATE (144 + k)) := by
  have hkey {j k : Nat} (h : (PWR_DOM_STATE (144 + j)).key = (PWR_DOM_STATE (144 + k)).key) : j = k := by
    simp only [PWR_DOM_STATE] at h
    omega
  have hone (s : State) (k : Nat) : (s.wakeOne (144 + k)).get (PWR_DOM_STATE (144 + k))
      = if s.get (PWR_DOM_STATE (144 + k)) = 1 then 2 else s.get (PWR_DOM_STATE (144 + k)) := by
    unfold State.wakeOne
    split
    next h => rw [h, State.get_set_same]; rfl
    next h => rw [h]; exact h
    next h _ => rw [if_neg h]
  induction l generalizing s with
  | nil => exact ⟨.refl _ _, fun k hk => absurd hk List.not_mem_nil⟩
  | cons j l ih =>
    obtain ⟨hrest, hall⟩ := ih (s.wakeOne (144 + j))
    have hfirst := (s.wakeOne_frame (144 + j)).2
    refine ⟨(hfirst.mono (by simp)).trans (hrest.mono (by simp)), fun k hk hnodup => ?_⟩
    obtain ⟨hnot, hnodup⟩ := List.nodup_cons.1 hnodup
    rw [List.foldl_cons]
    rcases List.mem_cons.1 hk with rfl | hk
    · refine (hrest _ fun h => ?_).trans (hone s k)
      rw [List.map_map] at h
      obtain ⟨i, hi, he⟩ := List.mem_map.1 h
      exact hnot (hkey he ▸ hi)
    · have hne : (PWR_DOM_STATE (144 + k)).key ∉ [PWR_DOM_STATE (144 + j)].map Fld.key := fun h => hnot (hkey (List.mem_singleton.1 h) ▸ hk)
      rw [hall k hk hnodup, hfirst _ hne]

theorem exec_hbmAccess_asleep {s : State} {a : Access} (evs : List HbmEv) (hlo : hbmBase ≤ a.addr)
    (hhi : a.addr + (if a.write then a.data.length else a.len) ≤ hbmEnd) (hasleep : s.asleep (144 + stackOf a.addr) = true) :
    exec (.hbmAccess a evs) s = .next { (List.range 12).foldl (fun s k => s.wakeOne (144 + k)) s with held := s.held ++ [a] } := by
  have hstack : stackOf a.addr < 12 := Nat.mod_lt _ (by decide)
  have hwake : s.wakeStack a.addr = (List.range 12).foldl (fun s k => s.wakeOne (144 + k)) s := by
    rw [State.wakeStack, hasleep, if_pos rfl, State.wakeDomain, if_pos (by simp; omega)]
  show execHbmAccess a evs s = _
  unfold execHbmAccess
  dsimp only
  rw [if_neg (by simp; omega), hasleep, if_pos rfl, hwake]

theorem State.wakeStacks_frame (l : List Nat) (s : State) :
    { l.foldl (fun s k => s.wakeOne (144 + k)) s with flds := s.flds, power := s.power } = s := by
  have h := s.foldl_wakeOne_frame (l.map (144 + ·))
  rwa [List.foldl_map] at h

theorem sleepersWait : SleepersWait := by
  intro s a evs hlo hhi hasleep
  have hexec := exec_hbmAccess_asleep evs hlo hhi hasleep
  obtain ⟨hfields, hdomains⟩ := State.wakeStacks_get (List.range 12) s
  have hframe := State.wakeStacks_frame (List.range 12) s
  generalize (List.range 12).foldl (fun s k => s.wakeOne (144 + k)) s = u at hexec hfields hdomains hframe
  exact ⟨_, hexec, rfl, fun k hk => hdomains k (List.mem_range.2 hk) List.nodup_range, hfields,
    ⟨fun x => (congrArg (fun t : State => t.byteAt x) hframe :), (congrArg State.poison hframe :)⟩, (congrArg State.looms hframe :)⟩

/-! ### CACHE_FLUSH and LOOP -/

/-- A line dropped is no longer cached, and no line becomes cached. -/
theorem State.mem_set_dropLine {s : State} {c x : CLine} {wb : Bool} {k : Nat} (h : x ∈ tget [] (s.dropLine c wb).cache k) :
    x ∈ tget [] s.cache k ∧ (k = setKey c.line → x.line ≠ c.line) := by
  rw [State.dropLine_cache] at h
  by_cases hk : k = setKey c.line
  · subst hk
    rw [tget_tput_same] at h
    obtain ⟨hmem, hne⟩ := List.mem_filter.1 h
    exact ⟨hmem, fun _ => by simpa using hne⟩
  · rw [tget_tput_ne _ _ _ _ hk] at h
    exact ⟨h, fun e => absurd e hk⟩

theorem State.mem_set_dropLines (l : List CLine) {s : State} {x : CLine} {k : Nat} (h : x ∈ tget [] (l.foldl (fun s c => s.dropLine c true) s).cache k) :
    x ∈ tget [] s.cache k ∧ ∀ c ∈ l, k = setKey c.line → x.line ≠ c.line := by
  induction l generalizing s with
  | nil => exact ⟨h, fun c hc => absurd hc List.not_mem_nil⟩
  | cons c l ih =>
    obtain ⟨hdrop, hrest⟩ := ih h
    obtain ⟨hmem, hne⟩ := State.mem_set_dropLine hdrop
    exact ⟨hmem, List.forall_mem_cons.2 ⟨hne, hrest⟩⟩

theorem State.dropLines_only (l : List CLine) (s : State) : CacheOnly s (l.foldl (fun s c => s.dropLine c true) s) :=
  List.foldlRecOn (motive := CacheOnly s) l _ (.refl s) fun t ht c _ => ht.trans (t.dropLine_only c true)

theorem mem_of_mem_tget {m : List (Nat × List CLine)} {k : Nat} {x : CLine} (h : x ∈ tget [] m k) : ∃ e ∈ m, e.1 = k ∧ x ∈ e.2 := by
  induction m with
  | nil => exact absurd h List.not_mem_nil
  | cons e m ih =>
    rw [tget] at h
    split at h
    next hk => exact ⟨e, List.mem_cons_self, hk, h⟩
    next =>
      obtain ⟨e', he', hk, hx⟩ := ih h
      exact ⟨e', List.mem_cons_of_mem e he', hk, hx⟩

/-- A flushed stack caches no line. -/
theorem State.flushStack_cached (s : State) {k l : Nat} (h : stackOf l = k) : (s.flushStack k).cached l = none := by
  rw [State.cached, List.find?_eq_none]
  intro x hx hline
  have hxl : x.line = l := by simpa using hline
  obtain ⟨hmem, hgone⟩ := State.mem_set_dropLines _ hx
  obtain ⟨e, he, hek, hxe⟩ := mem_of_mem_tget hmem
  have hset : setKey l / 8192 = k := by
    rw [setKey, h]
    omega
  exact hgone x (List.mem_flatMap.2 ⟨e, List.mem_filter.2 ⟨he, by simp [hek, hset]⟩, hxe⟩) (by rw [hxl]) rfl

theorem cacheAndLoopCommands : CacheAndLoopCommands := by
  intro k value s
  refine ⟨⟨_, rfl, State.get_set_same _ _ _, (OnlyFields.refl s _).set _ _ (List.mem_singleton.2 rfl)⟩, fun hbusy => ?_, fun hval hidle => ?_, fun hno => ?_⟩
  · refine ⟨(s.flushStack k).set (MSC_STATUS_FLUSH_BUSY k) 0, ?_, State.get_set_same _ _ _, fun l hl => s.flushStack_cached hl,
      (State.dropLines_only _ s).looms⟩
    show execCacheFlushDone k s = _
    rw [execCacheFlushDone, hbusy, if_pos rfl]
  · refine ⟨s.set (HBM_PHY_CTL_LOOP k) (value % 4), ?_, (State.get_set_same _ _ _).trans (Nat.mod_mod _ _), (OnlyFields.refl s _).set _ _ (List.mem_singleton.2 rfl)⟩
    show execHbmLoopWrite k value s = _
    refine congrArg Host.Outcome.next (if_neg ?_)
    rcases hidle with h | h | h <;> simp [hval, h]
  · show execHbmLoopWrite k value s = _
    refine congrArg Host.Outcome.next (if_pos ?_)
    rcases hno with h | ⟨h0, hb, ht⟩
    · simp [h]
    · simp [h0, hb, ht]

/-- Settles O25, part by part. -/
theorem hbmAndCachesServe : Obligations.HbmAndCachesServe := ⟨hbmHoldsWrites, hbmRefuses, sleepersWait, cacheAndLoopCommands⟩

end Sys2Proof.Machine
end

section
/-! PROOF. The bounds of accumulators and loops (R55, R190, R238), loom by loom. They speak of the looms alone, and of each loom through
three of its parts. -/
namespace Sys2Proof.Machine
set_option Elab.async false
variable {s t u : State}

/-- A value that an accumulator may hold (R55). -/
def AccVal (a : Int) : Prop := -(2 ^ 39 - 1) ≤ a ∧ a ≤ 2 ^ 39 - 1

/-- A table of accumulator rows that holds such values alone. -/
def AccRows (m : List (Nat × List Int)) : Prop := ∀ k, ∀ a ∈ tget (List.replicate 512 0) m k, AccVal a

/-- What the bounds ask of one loom. -/
structure Loom.Bounded (l : Loom) : Prop where
  acc : AccRows l.arr.acc
  loops : l.seq.loops.length ≤ 4
  gloops : l.grd.gloops.length ≤ 4

/-- Every loom is within the bounds. -/
def Bounded (s : State) : Prop := ∀ n, (s.lm n).Bounded

theorem withinBounds_iff : WithinBounds s ↔ Bounded s := by
  refine ⟨fun ⟨hacc, hloops⟩ n => ⟨fun k a ha => hacc n 0 k a ?_, (hloops n).1, (hloops n).2⟩,
    fun h => ⟨fun n set row => (h n).acc (rowKey set row), fun n => ⟨(h n).loops, (h n).gloops⟩⟩⟩
  rwa [State.accRow, rowKey, Nat.zero_mul, Nat.zero_add]

theorem accVal_zero : AccVal 0 := ⟨by decide, by decide⟩

theorem accRows_nil : AccRows [] := fun _ _ ha => List.eq_of_mem_replicate ha ▸ accVal_zero

/-- A row of values that accumulators may hold takes its place in a table of such rows. -/
theorem AccRows.tput {m : List (Nat × List Int)} {r : List Int} {k : Nat} (h : AccRows m) (hr : ∀ a ∈ r, AccVal a) :
    AccRows (tput (List.replicate 512 0) m k r) := by
  intro j
  by_cases hj : j = k
  · rwa [hj, tget_tput_same]
  · rw [tget_tput_ne _ _ _ _ hj]
    exact h j

namespace Bounded

/-- What leaves the looms as they are keeps the bounds. -/
theorem frame (h : Bounded t) (e : u.looms = t.looms := by rfl) : Bounded u := by
  intro n
  rw [State.lm, e]
  exact h n

theorem setLm {n : Nat} {l : Loom} (h : Bounded t) (hl : l.Bounded) : Bounded (t.setLm n l) := by
  intro m
  by_cases hm : m = n
  · rwa [hm, State.lm_setLm_same]
  · rw [State.lm_setLm_ne _ _ hm]
    exact h m

/-- The sequencer goes on with loops that are no more than four. -/
theorem modLoops {n : Nat} {f : Seq → Seq} (h : Bounded t) (hf : (f (t.lm n).seq).loops.length ≤ 4) : Bounded (t.modSeq n f) :=
  have ⟨hacc, _, hgloops⟩ := h n
  h.setLm ⟨hacc, hf, hgloops⟩

theorem modSeq {n : Nat} {f : Seq → Seq} (h : Bounded t)
    (hf : ∀ q : Seq, q.loops.length ≤ 4 → (f q).loops.length ≤ 4 := by exact fun _ h => h) : Bounded (t.modSeq n f) :=
  h.modLoops (hf _ (h n).loops)

theorem modArr {n : Nat} {f : Arr → Arr} (h : Bounded t)
    (hf : ∀ a : Arr, AccRows a.acc → AccRows (f a).acc := by exact fun _ h => h) : Bounded (t.modArr n f) :=
  have ⟨hacc, hloops, hgloops⟩ := h n
  h.setLm ⟨hf _ hacc, hloops, hgloops⟩

/-- The guard's place to go back to is no more than four loops deep. -/
theorem modGloops {n : Nat} {f : Grd → Grd} (h : Bounded t) (hf : (f (t.lm n).grd).gloops.length ≤ 4) : Bounded (t.modGrd n f) :=
  have ⟨hacc, hloops, _⟩ := h n
  h.setLm ⟨hacc, hloops, hf⟩

theorem modGrd {n : Nat} {f : Grd → Grd} (h : Bounded t)
    (hf : ∀ g : Grd, g.gloops.length ≤ 4 → (f g).gloops.length ≤ 4 := by exact fun _ h => h) : Bounded (t.modGrd n f) :=
  h.modGloops (hf _ (h n).gloops)

/-- A change of a loom's parts that the bounds do not speak of. -/
theorem setParts {n : Nat} {l : Loom} (h : Bounded t) (ha : l.arr = (t.lm n).arr := by rfl) (hs : l.seq = (t.lm n).seq := by rfl)
    (hg : l.grd = (t.lm n).grd := by rfl) : Bounded (t.setLm n l) :=
  have ⟨hacc, hloops, hgloops⟩ := h n
  h.setLm ⟨ha ▸ hacc, hs ▸ hloops, hg ▸ hgloops⟩

theorem modDma {n : Nat} {f : Dma → Dma} (h : Bounded t) : Bounded (t.modDma n f) := h.setParts
theorem modAtt {n : Nat} {f : Att → Att} (h : Bounded t) : Bounded (t.modAtt n f) := h.setParts
theorem modBob {n : Nat} {f : Bob → Bob} (h : Bounded t) : Bounded (t.modBob n f) := h.setParts
theorem modSht {n : Nat} {f : Sht → Sht} (h : Bounded t) : Bounded (t.modSht n f) := h.setParts
theorem modPend {n : Nat} {f : List Pend → List Pend} (h : Bounded t) : Bounded (t.modPend n f) := h.setParts
theorem modSpd {n : Nat} {f : Spd → Spd} (h : Bounded t) : Bounded (t.modSpd n f) := h.setParts

/-! ### Choices and folds -/

theorem ite {c : Prop} [Decidable c] {a b : State} (ha : Bounded a) (hb : Bounded b) : Bounded (if c then a else b) := by
  split
  · exact ha
  · exact hb

theorem iteOf {c : Prop} [Decidable c] {a b : State} (ha : c → Bounded a) (hb : ¬c → Bounded b) :
    Bounded (if c then a else b) := by
  split
  · exact ha ‹_›
  · exact hb ‹_›

theorem iteSnd {α : Type} {c : Prop} [Decidable c] {a b : α × State} (ha : Bounded a.2) (hb : Bounded b.2) :
    Bounded (if c then a else b).2 := by
  split
  · exact ha
  · exact hb

theorem foldl {β : Type} {l : List β} {f : State → β → State} (h : Bounded t) (hf : ∀ t x, Bounded t → Bounded (f t x)) :
    Bounded (l.foldl f t) :=
  List.foldlRecOn l f h fun t ht x _ => hf t x ht

theorem foldlSnd {α β : Type} {l : List β} {f : α × State → β → α × State} {a : α × State} (h : Bounded a.2)
    (hf : ∀ p x, Bounded p.2 → Bounded (f p x).2) : Bounded (l.foldl f a).2 :=
  List.foldlRecOn (motive := fun p : α × State => Bounded p.2) l f h fun p hp x _ => hf p x hp

theorem foldlSndSnd {α β γ : Type} {l : List γ} {f : α × β × State → γ → α × β × State} {a : α × β × State} (h : Bounded a.2.2)
    (hf : ∀ p x, Bounded p.2.2 → Bounded (f p x).2.2) : Bounded (l.foldl f a).2.2 :=
  List.foldlRecOn (motive := fun p : α × β × State => Bounded p.2.2) l f h fun p hp x _ => hf p x hp

end Bounded

/-! ### Outcomes and computations that read -/

/-- The outcome of a command, where it is a state, is within the bounds. -/
def BoundedNext (o : Host.Outcome State Fault Refusal) : Prop := ∀ t, o = .next t → Bounded t

theorem BoundedNext.next (h : Bounded t) : BoundedNext (.next t) := fun _ e => Host.Outcome.next.inj e ▸ h

theorem Bounded.after {o : Host.Outcome State Fault Refusal} (h : Bounded t) (ho : BoundedNext o) : Bounded (t.after o) := by
  unfold State.after
  split
  · exact ho _ rfl
  · exact h

/-- Where a computation that reads is done, its state is within the bounds. -/
def RdOut.Bounded {α : Type} : RdOut α → Prop
  | .done _ _ u => Machine.Bounded u
  | .need _ _ => True

theorem RdOut.Bounded.ite {α : Type} {c : Prop} [Decidable c] {a b : RdOut α} (ha : a.Bounded) (hb : b.Bounded) :
    RdOut.Bounded (if c then a else b) := by
  split
  · exact ha
  · exact hb

/-- A computation that reads keeps a state within the bounds. -/
def ReadBounded {α : Type} (f : Rd α) : Prop := ∀ l t, Bounded t → (f l t).Bounded

namespace ReadBounded
variable {α β : Type}

theorem pure {a : α} : ReadBounded (rdPure a) := fun _ _ h => h

theorem get {f : State → α} : ReadBounded (rdGet f) := fun _ _ h => h

theorem mod {f : State → State} (hf : ∀ t, Bounded t → Bounded (f t)) : ReadBounded (rdMod f) := fun _ _ h => hf _ h

theorem bind {x : Rd α} {f : α → Rd β} (hx : ReadBounded x) (hf : ∀ a, ReadBounded (f a)) : ReadBounded (rdBind x f) := by
  intro l t h
  have hdone := hx l t h
  unfold rdBind
  split
  next hout =>
    rw [hout] at hdone
    exact hf _ _ _ hdone
  next => trivial

theorem ite {c : Prop} [Decidable c] {f g : Rd α} (hf : ReadBounded f) (hg : ReadBounded g) : ReadBounded (if c then f else g) := by
  split
  · exact hf
  · exact hg

theorem each {f : α → Rd Unit} {l : List α} (hf : ∀ a, ReadBounded (f a)) : ReadBounded (rdEach f l) := by
  induction l with
  | nil => exact pure
  | cons a l ih => exact bind (hf a) fun _ => ih

end ReadBounded

end Sys2Proof.Machine
end
section
namespace Sys2Proof.Machine
set_option Elab.async false
namespace Bounded
variable {t : State}
theorem set {f : Fld} {v : Nat} (h : Bounded t) : Bounded (t.set f v) := h
theorem add {f : Fld} {k : Nat} (h : Bounded t) : Bounded (t.add f k) := h
theorem addHold {f : Fld} {k : Nat} (h : Bounded t) : Bounded (t.addHold f k) := h
theorem clear {f : Fld} (h : Bounded t) : Bounded (t.clear f) := h
theorem clearAll {l : List Fld} (h : Bounded t) : Bounded (t.clearAll l) := h.foldl fun _ _ h => h.clear
theorem sub {f : Fld} {k : Nat} (h : Bounded t) : Bounded (t.sub f k) := h
theorem setMapBit {w : Nat → Fld} {j : Nat} (h : Bounded t) : Bounded (t.setMapBit w j) := h
theorem withVoltTo {x} (h : Bounded t) : Bounded { t with voltTo := x } := h.frame
theorem withCache {x} (h : Bounded t) : Bounded { t with cache := x } := h.frame
theorem withKeys {x} (h : Bounded t) : Bounded { t with keys := x } := h.frame
theorem withErrs {x} (h : Bounded t) : Bounded { t with errs := x } := h.frame
theorem withErrDropped {x} (h : Bounded t) : Bounded { t with errDropped := x } := h.frame
theorem withCard {x} (h : Bounded t) : Bounded { t with card := x } := h.frame
theorem withFab {x} (h : Bounded t) : Bounded { t with fab := x } := h.frame
theorem withTiers {x} (h : Bounded t) : Bounded { t with tiers := x } := h.frame
theorem withSvc {x} (h : Bounded t) : Bounded { t with svc := x } := h.frame
theorem withCrd {x} (h : Bounded t) : Bounded { t with crd := x } := h.frame
theorem withPower {x} (h : Bounded t) : Bounded { t with power := x } := h.frame
theorem withTap {x} (h : Bounded t) : Bounded { t with tap := x } := h.frame
theorem withPfc {x} (h : Bounded t) : Bounded { t with pfc := x } := h.frame
theorem withHeld {x} (h : Bounded t) : Bounded { t with held := x } := h.frame
theorem withPosts {x} (h : Bounded t) : Bounded { t with posts := x } := h.frame
theorem withWaiting {x} (h : Bounded t) : Bounded { t with waiting := x } := h.frame
theorem withStalled {x} (h : Bounded t) : Bounded { t with stalled := x } := h.frame
theorem withPlat {x} (h : Bounded t) : Bounded { t with plat := x } := h.frame
theorem withCoreExc {x} (h : Bounded t) : Bounded { t with coreExc := x } := h.frame
theorem withResp {x} (h : Bounded t) : Bounded { t with resp := x } := h.frame
theorem withFreeCount {x} (h : Bounded t) : Bounded { t with freeCount := x } := h.frame
theorem withPending {x} (h : Bounded t) : Bounded { t with pending := x } := h.frame
theorem setLedger {x} (h : Bounded t) : Bounded { t with ledger := x } := h.frame
theorem modMgmt {f : Mgmt → Mgmt} (h : Bounded t) : Bounded (t.modMgmt f) := h.frame
theorem memWrite {a : Nat} {l : List Byte} {p : Bool} (h : Bounded t) : Bounded (t.memWrite a l p) := h.frame
theorem spWrite {n a : Nat} {l : List Byte} {p : Bool} (h : Bounded t) : Bounded (t.spWrite n a l p) := h.memWrite
theorem putPoison {a v : Nat} (h : Bounded t) : Bounded { t with poison := tput 0 t.poison a v } := h.frame
end Bounded
end Sys2Proof.Machine
end
section
/-! PROOF. The values that array cycles, view writes and the self-test leave in accumulators (R56, R79, R96, R97, R182, R465). -/
namespace Sys2Proof.Machine
set_option Elab.async false
variable {s t u : State}

theorem satAcc_accVal (v : Int) : AccVal (satAcc v).1 := by
  unfold AccVal satAcc accMax
  split_ifs <;> dsimp only <;> omega

theorem AccVal.ite {c : Prop} [Decidable c] {a b : Int} (ha : AccVal a) (hb : AccVal b) : AccVal (if c then a else b) := by
  split
  · exact ha
  · exact hb

/-- V and I of a MAX or MIN accumulator fill an accumulator and no more (R96). -/
theorem selPack_accVal {v : Int} {i : Nat} (hlo : -(2 ^ 23 - 1) ≤ v) (hhi : v ≤ 2 ^ 23 - 1) (hi : i < 65536) : AccVal (selPack v i) := by
  unfold AccVal selPack
  omega

theorem initAcc_accVal (reduce : Nat) : AccVal (initAcc reduce) := by
  unfold initAcc
  split_ifs
  · exact ⟨by decide, by decide⟩
  · exact selPack_accVal (by decide) (by decide) (by decide)
  · exact selPack_accVal (by decide) (by decide) (by decide)

theorem selStep_accVal {reduce kbase k : Nat} {a x0 sh : Int} (h : AccVal a) : AccVal (selStep reduce kbase a x0 sh k).1 :=
  .ite (selPack_accVal (le_max_left _ _) (max_le (by decide) (min_le_left _ _)) (Nat.mod_lt _ (by decide))) h

theorem selColumn_accVal {reduce kbase : Nat} {sh : Int} {lanes ws : List Int} {k : Nat} {a : Int} {c : Counts} (h : AccVal a) :
    AccVal (selColumn reduce kbase sh k lanes ws a c).1 := by
  induction lanes generalizing k ws a c with
  | nil => simpa [selColumn] using h
  | cons x lanes ih =>
    cases ws with
    | nil => simpa [selColumn] using h
    | cons w ws =>
      unfold selColumn
      split
      · exact ih h
      · exact ih (selStep_accVal h)

/-- A row made cell by cell from two lists holds accumulator values where each cell does. -/
theorem accVal_of_mem_zipWith {α β γ : Type} {f : α → β → Int × γ} {l : List α} {m : List β} (h : ∀ x ∈ l, ∀ y, AccVal (f x y).1) :
    ∀ a ∈ (List.zipWith f l m).map Prod.fst, AccVal a := by
  intro a ha
  rw [← List.map_uncurry_zip_eq_zipWith, List.map_map] at ha
  obtain ⟨⟨x, y⟩, hxy, rfl⟩ := List.mem_map.1 ha
  exact h x (List.of_mem_zip hxy).1 y

/-- A cycle leaves a row of accumulator values where it finds one. -/
theorem itemUpdate_accVal {o : ArrOp} {b : WBuf} {w : Int} {row : List Int} {it : ArrItem} (h : ∀ a ∈ row, AccVal a) :
    ∀ a ∈ (itemUpdate o b w row it).row, AccVal a := by
  unfold itemUpdate
  split
  · exact accVal_of_mem_zipWith fun _ _ _ => satAcc_accVal _
  · exact accVal_of_mem_zipWith fun x hx _ => selColumn_accVal (h x hx)
  · dsimp only
    split
    · exact h
    · exact accVal_of_mem_zipWith fun _ _ _ => satAcc_accVal _

theorem State.bistAcc_accRows (s : State) : AccRows s.bistAcc := by
  refine List.foldlRecOn (motive := AccRows) _ _ accRows_nil fun m hm k _ => hm.tput fun a ha => ?_
  obtain ⟨j, _, rfl⟩ := List.mem_map.1 ha
  unfold AccVal
  omega

end Sys2Proof.Machine
end

section
/-! PROOF. The loops after a word's issue, and the mode that no count changes. -/
namespace Sys2Proof.Machine
set_option Elab.async false

@[simp] theorem State.advance_loops (s : State) (n : Nat) (w : DWord) : ((s.advance n w).lm n).seq.loops = (s.lm n).seq.loops := by
  simp [State.advance]

theorem State.countPoison_compat (s : State) (n : Nat) (l : List (Nat × Nat)) : (s.countPoison n l).compat n = s.compat n := by
  have hkey : (ACC_STATUS_COMPAT n).key ≠ (SPD_CNT_POISON_POISON n).key := by
    simp only [ACC_STATUS_COMPAT, SPD_CNT_POISON_POISON]
    omega
  simp only [State.compat, State.is, State.countPoison, State.add, State.get_set_ne _ _ hkey]

end Sys2Proof.Machine
end
section
/-! PROOF. The functions of Machine/Ops.lean keep the bounds. -/
namespace Sys2Proof.Machine
set_option Elab.async false
variable {t u : State}

theorem Bounded.takeFree (h : Bounded t) : Bounded (t.takeFree) := h.withFreeCount

theorem Bounded.modTiers {f : Tiers → Tiers} (h : Bounded t) : Bounded (t.modTiers f) := h.withTiers

theorem Bounded.modTierOp {e : Nat} {f : TierOp → TierOp} (h : Bounded t) : Bounded (t.modTierOp e f) := h.frame

theorem Bounded.countPoison {n : Nat} {ranges : List (Nat × Nat)} (h : Bounded t) : Bounded (t.countPoison n ranges) := h.frame

theorem Bounded.report {r : ErrRec} (h : Bounded t) : Bounded (t.report r) := .ite h.withErrs (.ite h.withErrDropped h.withErrs)

theorem Bounded.refuseStruct {src n a : Nat} {fabric : Bool} (h : Bounded t) : Bounded (t.refuseStruct src n a fabric) := h.report

theorem Bounded.dataReads {n unit : Nat} {ranges : List (Nat × Nat)} (h : Bounded t) : Bounded (t.dataReads n unit ranges) :=
  h.countPoison.foldl (fun _ _ h => h.report)

theorem Bounded.answer {status : Nat} {data : List Byte} {poison : Bool} (h : Bounded t) : Bounded (t.answer status data poison) := h.frame

theorem Bounded.wakeOne {d : Nat} (h : Bounded t) : Bounded (t.wakeOne d) := by
  unfold State.wakeOne
  split
  · exact h.set
  · exact h.withPower
  · exact h

theorem Bounded.wakeDomain {d : Nat} (h : Bounded t) : Bounded (t.wakeDomain d) := .ite (h.foldl fun _ _ h => h.wakeOne) h.wakeOne

theorem Bounded.wakeDomains {a : Access} (h : Bounded t) : Bounded ((accDomains a).foldl State.wakeDomain t) := h.foldl fun _ _ h => h.wakeDomain

end Sys2Proof.Machine
end

section
/-! PROOF. The functions of Machine/Sequencer.lean keep the bounds. -/
namespace Sys2Proof.Machine
set_option Elab.async false
variable {t u : State}

theorem Bounded.ledgerShow (h : Bounded t) : Bounded (t.ledgerShow) := by
  unfold State.ledgerShow
  dsimp only
  split
  · exact h.frame
  · exact h.frame

theorem Bounded.takeCredits {n k : Nat} (h : Bounded t) : Bounded (t.takeCredits n k) := h.add.add.ledgerShow

theorem Bounded.returnCredits {n : Nat} (h : Bounded t) : Bounded (t.returnCredits n) := h.set.set.ledgerShow

theorem Bounded.closeTile {n : Nat} (h : Bounded t) : Bounded (t.closeTile n) := h.returnCredits.modSeq

theorem Bounded.settle {n : Nat} (h : Bounded t) : Bounded (t.settle n) := .ite h.closeTile h

theorem Bounded.draftFault {n pc unit cause : Nat} (h : Bounded t) : Bounded (t.draftFault n pc unit cause) :=
  .settle (.set (.set (.set (.set (.set (h.modSeq.report.foldl (fun _ _ h => h.set)))))))

theorem Bounded.wordFault {n unit cause : Nat} (h : Bounded t) : Bounded (t.wordFault n unit cause) := h.draftFault

theorem Bounded.engineFault {n unit : Nat} {bit : Fld} (h : Bounded t) : Bounded (t.engineFault n unit bit) := h.set.wordFault

theorem Bounded.showHold {n : Nat} (h : Bounded t) : Bounded (t.showHold n) := by
  unfold State.showHold
  split
  · exact h.set
  · exact h.frame

theorem Bounded.addHolds {n : Nat} {l : List Hold} (h : Bounded t) : Bounded (t.addHolds n l) := .ite h (.ite h.modSeq h.modSeq.showHold)

theorem Bounded.addSlip {n k : Nat} (h : Bounded t) : Bounded (t.addSlip n k) := .ite h h.modSeq.add.set

theorem Bounded.tickLoom {n k : Nat} (h : Bounded t) : Bounded (t.tickLoom n k) := h.modSeq

theorem Bounded.eccLasting {n a : Nat} (h : Bounded t) : Bounded (t.eccLasting n a) := by
  unfold State.eccLasting
  dsimp only
  split
  · exact h.add.report.set.set
  · split
    · exact h.add.report.set.set.modSpd.addHold.set
    · exact h.add.report.set.set.modSpd.addHold

theorem Bounded.eccEvent {n : Nat} {e : SpadEv} (h : Bounded t) : Bounded (t.eccEvent n e) := by
  refine .ite h ?_
  split
  · exact h.add.add
  · exact h.add.eccLasting
  · exact h.add
  · exact h.putPoison.modSpd.add.report.set.set

theorem Bounded.eccEvents {n : Nat} {l : List SpadEv} (h : Bounded t) : Bounded (t.eccEvents n l) := h.foldl (fun _ _ h => h.eccEvent)

theorem Bounded.eccSeen {n : Nat} (h : Bounded t) : Bounded (t.eccSeen n) := h.modSpd

theorem Bounded.conflict {n : Nat} {l : List PortAccess} (h : Bounded t) : Bounded (t.conflict n l) := by
  unfold State.conflict
  split
  · exact h
  · exact .set (.set (.set (.set (.ite h.add h.add.modSeq.report))))

theorem Bounded.landFirst {n : Nat} {l : List PortAccess} {a : PortAccess} (h : Bounded t) : Bounded (t.landFirst n l a) :=
  h.foldl (fun _ _ h => .ite h.spWrite h)

theorem Bounded.landTogether {n : Nat} {l : List PortAccess} (h : Bounded t) : Bounded (t.landTogether n l) := h.foldl (fun _ _ h => h.landFirst)

theorem Bounded.withEvents {n : Nat} {ev : CycleEvs} {f : State → State} (h : Bounded t) (hk : ∀ x0, Bounded x0 → Bounded (f x0)) :
    Bounded (t.withEvents n ev f) := by
  unfold State.withEvents
  dsimp only
  split
  · exact hk _ h
  · split
    · exact .eccSeen (hk _ h.eccEvents)
    · exact .addHolds (.foldl (.eccSeen (hk _ h.eccEvents)) (fun _ _ h => h.landTogether.conflict))

theorem Bounded.spanUnit {n u' : Nat} (h : Bounded t) : Bounded (t.spanUnit n u') := h.modGrd

theorem Bounded.advance {n : Nat} {w : DWord} (h : Bounded t) : Bounded (t.advance n w) := h.spanUnit.modSeq.set

theorem Bounded.busyBit {n unit op cause : Nat} (h : Bounded t) : Bounded (t.busyBit n unit op cause) := .ite h (.ite h.set (.ite h.set h))

theorem Bounded.issue {n unit op : Nat} {k : DWord → State} (h : Bounded t) (hk : ∀ x0, Bounded (k x0)) : Bounded (t.issue n unit op k) := by
  unfold State.issue
  split
  · exact h
  · exact h.busyBit.draftFault
  · exact hk _

theorem Bounded.beginPause {n : Nat} {k : PauseKind} {budget slack : Nat} (h : Bounded t) : Bounded (t.beginPause n k budget slack) := h.modSeq

theorem Bounded.endPause {n k : Nat} (h : Bounded t) : Bounded (t.endPause n k) := h.modSeq

theorem Bounded.stopSeq {n : Nat} (h : Bounded t) : Bounded (t.stopSeq n) := h.modSeq.set

end Sys2Proof.Machine
end

section
/-! PROOF. The functions of Machine/Flags.lean keep the bounds. -/
namespace Sys2Proof.Machine
set_option Elab.async false
variable {t u : State}

theorem Bounded.guardAdd {n : Nat} {span : Bool} {c : Counts} (h : Bounded t) : Bounded (t.guardAdd n span c) := .ite h.frame h.add.add

theorem Bounded.guardCount {n : Nat} {c : Counts} (h : Bounded t) : Bounded (t.guardCount n c) := h.guardAdd

theorem Bounded.guardZero {n : Nat} (h : Bounded t) : Bounded (t.guardZero n) := h.frame

theorem Bounded.setSat {n set row : Nat} (h : Bounded t) : Bounded (t.setSat n set row) := h.setMapBit

theorem Bounded.clearSat {n set row : Nat} (h : Bounded t) : Bounded (t.clearSat n set row) := .ite h.set h

end Sys2Proof.Machine
end

section
/-! PROOF. The functions of Machine/Array.lean keep the bounds. -/
namespace Sys2Proof.Machine
set_option Elab.async false
variable {t u : State}

theorem Bounded.putRow {n set row : Nat} {r : List Int} (h : Bounded t) (hr : ∀ a ∈ r, AccVal a) : Bounded (t.putRow n set row r) :=
  h.modArr fun _ ha => ha.tput hr

theorem Bounded.markRow {n set row : Nat} {p : Bool} (h : Bounded t) : Bounded (t.markRow n set row p) := h.modArr

theorem Bounded.noteKind {n set row k : Nat} (h : Bounded t) : Bounded (t.noteKind n set row k) := h.modArr

theorem Bounded.outlierRefused {n : Nat} {o : ArrOp} (h : Bounded t) : Bounded (t.outlierRefused n o) := by
  unfold State.outlierRefused
  split
  · exact h
  · exact h.foldl (fun _ _ h => h.foldl (fun _ _ h1 => .ite h1 h1.refuseStruct))

theorem Bounded.startTile {n k : Nat} (h : Bounded t) : Bounded (t.startTile n k) := by
  unfold State.startTile
  dsimp only
  split
  · split
    · split
      · refine .set ?_
        refine .set ?_
        refine .set ?_
        refine .set ?_
        refine .set ?_
        split
        · exact h.endPause.modSeq.modSpd.countPoison.eccSeen.outlierRefused.modArr
        · exact h.endPause.modSeq.modSpd.countPoison.eccSeen.outlierRefused.modArr.set
      · exact h.endPause.modSeq
    · exact h.endPause.modSeq
  · exact h.endPause.modSeq

theorem Bounded.requestTile {n : Nat} {w : DWord} (h : Bounded t) (h1 : Bounded u) : Bounded (t.requestTile u n w) := by
  unfold State.requestTile
  extract_lets c v x
  have hv : Bounded v := h1.modSeq
  have hx : Bounded x := hv.beginPause
  exact .ite h.engineFault (.ite hv.startTile hx.setLedger.ledgerShow)

theorem Bounded.arrayIssue {n reduce : Nat} (h : Bounded t) : Bounded (t.arrayIssue n reduce) := by
  refine h.issue fun w => .ite h.wordFault (.ite h (.ite ?_ (.ite h.wordFault ?_)))
  · extract_lets u v x y
    have hu : Bounded u := .ite h.set h
    have hv : Bounded v := .ite hu.set hu
    have hx : Bounded x := .ite hv.set hv
    have hy : Bounded y := .ite hx.set hx
    exact hy.wordFault
  · exact h.requestTile (.ite h.advance.modArr.modSeq h.advance.modArr)

theorem Bounded.landItem {n : Nat} {o : ArrOp} {it : ArrItem} (h : Bounded t) : Bounded (t.landItem n o it) := by
  unfold State.landItem
  extract_lets b row set start poison u counted held cleared placed marked landed sat nan guarded done
  have hcounted : Bounded counted := .ite h.countPoison h
  have hcompat : counted.compat n = t.compat n := by
    unfold counted
    split
    · exact t.countPoison_compat n _
    · rfl
  have hcleared : Bounded cleared := .ite hcounted.clearSat.markRow hcounted
  have hlanded : Bounded landed := by
    refine .iteOf (fun _ => hcounted.spWrite) fun hc => ?_
    have hrow : ∀ a ∈ u.row, AccVal a := by
      unfold u
      rw [if_neg (hcompat ▸ hc)]
      refine itemUpdate_accVal ?_
      split
      · intro a ha
        exact List.eq_of_mem_replicate ha ▸ initAcc_accVal _
      · exact (h n).acc _
    have hplaced : Bounded placed := (hcleared.putRow hrow).noteKind
    have hmarked : Bounded marked := .ite hplaced.markRow hplaced
    exact .ite hmarked hmarked.setSat
  have hsat : Bounded sat := .ite hlanded hlanded.set
  have hnan : Bounded nan := .ite hsat.set hsat
  have hguarded : Bounded guarded := .ite hnan hnan.guardAdd
  have hdone : Bounded done := by
    unfold done
    split
    · exact .ite hguarded.add hguarded
    · exact hguarded.add
  exact hdone.frame

theorem Bounded.arrShow {n : Nat} (h : Bounded t) : Bounded (t.arrShow n) := .ite h.frame h.frame

theorem BoundedNext.execArrayResultLand {n : LoomNo} (h : Bounded t) : BoundedNext (execArrayResultLand n t) := by
  refine .next ?_
  split
  · exact h
  · split
    · exact h
    · split
      · exact h
      · exact .settle (.arrShow (.ite h.landItem.modArr.add h.landItem.modArr))

theorem BoundedNext.execArraySum {n : LoomNo} {evs : CycleEvs} (h : Bounded t) : BoundedNext (execArraySum n evs t) :=
  .next (h.withEvents (fun _ h1 => h1.arrayIssue))

theorem BoundedNext.execArrayMax {n : LoomNo} {evs : CycleEvs} (h : Bounded t) : BoundedNext (execArrayMax n t evs) :=
  .next (h.withEvents (fun _ h1 => h1.arrayIssue))

theorem BoundedNext.execArrayMin {n : LoomNo} {evs : CycleEvs} (h : Bounded t) : BoundedNext (execArrayMin n t evs) :=
  .next (h.withEvents (fun _ h1 => h1.arrayIssue))

theorem Bounded.fallBarrier {n : Nat} (h : Bounded t) : Bounded (t.fallBarrier n) := h.modArr.closeTile

theorem BoundedNext.execTileBarrier {n : LoomNo} (h : Bounded t) : BoundedNext (execTileBarrier n t) := by
  refine .next ?_
  split
  · exact h
  · split
    · exact h
    · exact .ite h (.ite h.fallBarrier h.modSeq.addSlip.addHolds)

theorem BoundedNext.execWinload {n : LoomNo} {evs : CycleEvs} (h : Bounded t) : BoundedNext (Machine.execWinload n t evs) :=
  .next (h.withEvents fun _ h => h.issue fun _ => .ite h.wordFault (h.advance.countPoison.modSeq.foldl fun _ _ h => h.set))

theorem BoundedNext.execSwap {n : LoomNo} (h : Bounded t) : BoundedNext (execSwap n t) := .next (h.issue (fun _ => .ite h.engineFault h.advance.set))

theorem Bounded.viewWrite {n off : Nat} {l : List Byte} (h : Bounded t) : Bounded (t.viewWrite n off l) := by
  refine .ite h (h.foldl fun u _ hu => hu.putRow fun a ha => ?_)
  rcases List.mem_or_eq_of_mem_set ha with ha | rfl
  · exact (hu n).acc _ a ha
  · exact satAcc_accVal _

theorem BoundedNext.execAccWinWrite {n : LoomNo} {set : Fin 2} {row : Fin 512} {value : Nat} (h : Bounded t) :
    BoundedNext (Machine.execAccWinWrite n set row value t) := .next h.set

theorem BoundedNext.execAccCntClr {n : LoomNo} (h : Bounded t) : BoundedNext (execAccCntClr n t) := .next h.set.set

end Sys2Proof.Machine
end

section
/-! PROOF. The functions of Machine/Draft.lean keep the bounds. -/
namespace Sys2Proof.Machine
set_option Elab.async false
variable {t u : State}

theorem Bounded.startLoom {n : Nat} (h : Bounded t) : Bounded (t.startLoom n) :=
  .ite h.modSeq (.ite h.draftFault ((h.modLoops (by exact Nat.zero_le 4)).set.set))

theorem BoundedNext.execRunStart {n : LoomNo} (h : Bounded t) : BoundedNext (execRunStart n t) := .next (.ite h.wakeDomain.withHeld h.startLoom.set)

theorem BoundedNext.execRunStop {n : LoomNo} (h : Bounded t) : BoundedNext (execRunStop n t) := .next h.modSeq.set

theorem BoundedNext.execLoomCntClr {n : LoomNo} (h : Bounded t) : BoundedNext (Machine.execLoomCntClr n t) := .next h.clearAll

theorem BoundedNext.execNop {n : LoomNo} (h : Bounded t) : BoundedNext (execNop n t) := .next (h.issue (fun _ => h.advance))

theorem BoundedNext.execStep {n : LoomNo} (h : Bounded t) : BoundedNext (execStep n t) := .next (h.issue (fun _ => h.advance.modSeq))

theorem BoundedNext.execStepLaunch {n : LoomNo} (h : Bounded t) : BoundedNext (Machine.execStepLaunch n t) := by
  refine .next ?_
  split
  · exact h
  · exact .ite h (.set (.set (.clearAll h.modSeq.modSht)))

theorem BoundedNext.execEndStep {n : LoomNo} (h : Bounded t) : BoundedNext (execEndStep n t) :=
  .next (h.issue (fun _ => .ite h.stopSeq h.advance.beginPause))

theorem Bounded.modHalf {n q step : Nat} {f : QHalf → QHalf} (h : Bounded t) : Bounded (t.modHalf n q step f) := h.modSht

theorem Bounded.resetHalves {n step : Nat} (h : Bounded t) : Bounded (t.resetHalves n step) := h.modSht

theorem BoundedNext.execEndReport {n : LoomNo} {cycles : Nat} (h : Bounded t) : BoundedNext (Machine.execEndReport n cycles t) := by
  refine .next ?_
  split
  · split
    · exact h
    · extract_lets q total inStep stop u v
      have hu : Bounded u := h.endPause.modLoops (by exact Nat.zero_le 4)
      have hv : Bounded v := hu.resetHalves
      exact .set (.set (.ite hv.set hv))
  · exact h

theorem BoundedNext.execLoop {n : LoomNo} (h : Bounded t) : BoundedNext (Machine.execLoop n t) := by
  refine .next (h.issue fun w => .iteOf (fun _ => h.wordFault) fun hc => h.advance.modLoops ?_)
  simp only [Bool.or_eq_true, decide_eq_true_eq, not_or, not_le] at hc
  rw [State.advance_loops]
  exact hc.2

theorem BoundedNext.execEndloop {n : LoomNo} (h : Bounded t) : BoundedNext (Machine.execEndloop n t) := by
  refine .next (h.issue fun w => ?_)
  split
  · exact h.wordFault
  next first k outer hloops =>
    have hle : (outer.length + 1) ≤ 4 := by simpa [hloops] using (h n).loops
    refine h.advance.modLoops ?_
    split
    · exact hle
    · exact Nat.le_of_succ_le hle

theorem BoundedNext.execSkipz {n : LoomNo} (h : Bounded t) : BoundedNext (execSkipz n t) :=
  .next (h.issue (fun _ => .ite h.wordFault (.ite h.advance.modSeq h.advance)))

theorem Bounded.xferFault {n unit : Nat} (h : Bounded t) : Bounded (t.xferFault n unit) := h.engineFault

theorem BoundedNext.execWaitTally {n : LoomNo} (h : Bounded t) : BoundedNext (execWaitTally n t) :=
  .next (h.issue (fun _ => .ite h (.ite h.xferFault (.ite h.stopSeq h.advance.beginPause))))

theorem BoundedNext.execWaitWrites {n : LoomNo} (h : Bounded t) : BoundedNext (execWaitWrites n t) :=
  .next (h.issue (fun _ => .ite h (.ite h.stopSeq h.advance.beginPause)))

theorem BoundedNext.execTile {n : LoomNo} (h : Bounded t) : BoundedNext (execTile n t) := .next (h.issue (fun _ => h.requestTile h.advance))

theorem BoundedNext.execRepay {n : LoomNo} (h : Bounded t) : BoundedNext (execRepay n t) := .next (h.issue (fun _ => h.advance.modSeq))

theorem BoundedNext.execPeerFaultStop {n : LoomNo} (h : Bounded t) : BoundedNext (execPeerFaultStop n t) :=
  .next (.ite h (.set (.ite h.stopSeq.modSeq.set h)))

theorem Bounded.resumePause {n : Nat} {p : Pause} {k : Nat} (h : Bounded t) : Bounded (t.resumePause n p k) := by
  unfold State.resumePause
  split
  · exact h.endPause.modSeq fun _ _ => (h n).gloops
  · exact h.startTile
  · exact h.endPause

theorem BoundedNext.execSlackExpire {n : LoomNo} {cycles : Nat} (h : Bounded t) : BoundedNext (execSlackExpire n t cycles) := by
  refine .next ?_
  split
  · exact h
  · exact .ite h h.modSeq.tickLoom.addHolds

theorem BoundedNext.execPauseBudgetExpire {n : LoomNo} {cycles : Nat} (h : Bounded t) : BoundedNext (execPauseBudgetExpire n cycles t) := by
  refine .next ?_
  split
  · exact h
  · exact .ite h h.tickLoom.resumePause

theorem BoundedNext.execHoldResume {n : LoomNo} {cycles : Nat} (h : Bounded t) : BoundedNext (execHoldResume n cycles t) := by
  unfold Machine.execHoldResume
  dsimp only
  refine .next ?_
  split
  · exact h.modSeq.showHold.set
  · split
    · exact h
    · split
      · exact h
      · refine .add ?_
        refine .add ?_
        refine .showHold ?_
        split
        · exact h.modSeq.resumePause
        · exact h.modSeq

theorem Bounded.grantTile {n waited : Nat} (h : Bounded t) : Bounded (t.grantTile n waited) := by
  unfold State.grantTile
  split
  · exact .ite h.modSeq h.tickLoom.startTile
  · exact h

theorem BoundedNext.execLedgerGrant {waited cycles : Nat} (h : Bounded t) : BoundedNext (Machine.execLedgerGrant waited t cycles) := by
  refine .next ?_
  split
  · exact h
  · exact .ite h.setLedger.grantTile.takeCredits.add.add h.setLedger.add

theorem BoundedNext.execScrubLine {n : LoomNo} {bank : Fin 48} {evs : List SpadEv} (h : Bounded t) : BoundedNext (execScrubLine n bank evs t) :=
  .next (.ite h (.ite h.eccEvents.eccSeen.modSpd.add h.eccEvents.eccSeen.modSpd))

end Sys2Proof.Machine
end

section
/-! PROOF. The functions of Machine/Hbm.lean keep the bounds. -/
namespace Sys2Proof.Machine
set_option Elab.async false
variable {t u : State}

theorem Bounded.putDram {l : Nat} {data : List Byte} {mask : Nat} (h : Bounded t) : Bounded (t.putDram l data mask) := h.frame

theorem Bounded.putSet {l : Nat} {ls : List CLine} (h : Bounded t) : Bounded (t.putSet l ls) := h.withCache

theorem Bounded.keptBy {st : Nat} {c : CLine} {up : Bool} (h : Bounded t) : Bounded (t.keptBy st c up) := .ite h h.set

theorem Bounded.dropLine {c : CLine} {wb : Bool} (h : Bounded t) : Bounded (t.dropLine c wb) := .ite h.putSet.keptBy.putDram.add h.putSet.keptBy

theorem Bounded.allocLine {l tenant : Nat} {dirty : Bool} {data : List Byte} {mask : Nat} (h : Bounded t) :
    Bounded (t.allocLine l tenant dirty data mask) := by
  refine .keptBy ?_
  refine .putSet ?_
  split
  · exact .ite h h.add
  · split
    · exact .dropLine (.ite h h.add)
    · split
      · exact .dropLine (.ite h h.add)
      · exact .ite h h.add

theorem Bounded.cacheRead {l tenant hint : Nat} (h : Bounded t) : Bounded (t.cacheRead l tenant hint).2 := by
  unfold State.cacheRead
  split
  · exact .ite h.add.putSet (.ite (.ite h.add.dropLine.add h.add.dropLine) h.add)
  · exact .ite h.add.allocLine h.add

theorem Bounded.cacheWrite {l tenant hint : Nat} {data : List Byte} {mask : Nat} (h : Bounded t) :
    Bounded (t.cacheWrite l tenant hint data mask) := by
  unfold State.cacheWrite
  split
  · exact h.add.putSet
  · exact .ite h.add.allocLine h.add.putDram

theorem Bounded.wakeStack {a : Nat} (h : Bounded t) : Bounded (t.wakeStack a) := .ite h.wakeDomain h

theorem Bounded.readPiece {req : Requester} {tenant : Nat} {raw : Bool} {a n : Nat} {fresh : List Nat} (h : Bounded t) :
    Bounded (t.readPiece req tenant raw a n fresh).2 := by
  unfold State.readPiece
  split
  · exact h.wakeStack.cacheRead.add
  · exact h

theorem Bounded.writePiece {req : Requester} {tenant : Nat} {raw : Bool} {a : Nat} {d : List Byte} {pois : List Bool} (h : Bounded t) :
    Bounded (t.writePiece req tenant raw a d pois).2 := by
  unfold State.writePiece
  split
  · exact h.wakeStack.cacheWrite
  · exact h

theorem Bounded.hbmRefused {req : Requester} {tenant a status : Nat} (h : Bounded t) : Bounded (t.hbmRefused req tenant a status) := h.report

theorem Bounded.hbmScan {req : Requester} {tenant : Nat} {raw : Bool} {a n : Nat} {fresh : List Nat} (h : Bounded t) :
    Bounded (t.hbmScan req tenant raw a n fresh).2.2 := h.wakeStack.foldlSndSnd fun _ _ h => h.readPiece

theorem Bounded.hbmRead {req : Requester} {tenant : Nat} {raw : Bool} {a n : Nat} {fresh : List Nat} (h : Bounded t) :
    Bounded (t.hbmRead req tenant raw a n fresh).2 := by
  unfold State.hbmRead
  dsimp only
  split
  · exact h.hbmScan.hbmRefused
  · exact h.hbmScan

theorem Bounded.hbmStore {req : Requester} {tenant : Nat} {raw : Bool} {a : Nat} {d : List Byte} {pois : List Bool} (h : Bounded t) :
    Bounded (t.hbmStore req tenant raw a d pois).2.2 := h.wakeStack.foldlSndSnd fun _ _ h => h.writePiece

theorem Bounded.hbmWrite {req : Requester} {tenant : Nat} {raw : Bool} {a : Nat} {d : List Byte} {pois : List Bool} (h : Bounded t) :
    Bounded (t.hbmWrite req tenant raw a d pois).2 := by
  unfold State.hbmWrite
  dsimp only
  split
  · exact h.hbmStore.hbmRefused
  · exact h.hbmStore

theorem Bounded.hbmPut {req : Requester} {tenant : Nat} {raw : Bool} {a : Nat} {d : List Byte} {p : Bool} (h : Bounded t) :
    Bounded (t.hbmPut req tenant raw a d p).2 := h.hbmWrite

theorem Bounded.refusedAt {req : Requester} {tenant a status : Nat} (h : Bounded t) : Bounded (t.refusedAt req tenant a status) := h.report

theorem Bounded.hbmPosted {req : Requester} {tenant : Nat} {raw : Bool} {a : Nat} {d : List Byte} {pois : List Bool} (h : Bounded t) :
    Bounded (t.hbmPosted req tenant raw a d pois).2.2 := by
  unfold State.hbmPosted
  split
  · exact h.wakeDomain.withPosts
  · exact h.hbmStore

theorem Bounded.hbmPost {req : Requester} {tenant : Nat} {raw : Bool} {a : Nat} {d : List Byte} {pois : List Bool} (h : Bounded t) :
    Bounded (t.hbmPost req tenant raw a d pois).2 := by
  unfold State.hbmPost
  dsimp only
  split
  · exact h.hbmPosted.hbmRefused
  · exact h.hbmPosted

theorem Bounded.servePosts (h : Bounded t) : Bounded (t.servePosts) := .ite h (h.withPosts.foldl (fun _ _ h => h.hbmWrite))

theorem Bounded.devRead {a n : Nat} (h : Bounded t) : Bounded (t.devRead a n).2 := by
  unfold State.devRead
  dsimp only
  split
  · split
    · exact h
    · exact h.hbmScan
  · refine .refusedAt ?_
    split
    · exact h
    · exact h.hbmScan

theorem Bounded.devFetch {a n : Nat} (h : Bounded t) : Bounded (t.devFetch a n).2 := .ite h.devRead.withStalled h.devRead

theorem Bounded.orWait {c : Instr} {k : State → State} (h : Bounded t) (hk : ∀ x0, Bounded x0 → Bounded (k x0)) : Bounded (t.orWait c k) :=
  .ite h.wakeDomain.withWaiting (hk _ h)

theorem Bounded.devWrite {a : Nat} {d : List Byte} {p : Bool} (h : Bounded t) : Bounded (t.devWrite a d p) := by
  unfold State.devWrite
  dsimp only
  split
  · split
    · exact h
    · exact h.hbmPosted
  · refine .refusedAt ?_
    split
    · exact h
    · exact h.hbmPosted

theorem Bounded.hbmEcc {tenant : Nat} {merge : Bool} {e : HbmEv} (h : Bounded t) : Bounded (t.hbmEcc tenant merge e) := by
  unfold State.hbmEcc
  split
  · exact .ite h.add h.add.add
  · exact .ite h.add h.add.add.report.set.set
  · exact h.add
  · exact h.putPoison.add.report.set.set

theorem Bounded.readPoison {req : Requester} {fetch : Bool} {a : Nat} {poison : Bool} (h : Bounded t) :
    Bounded (t.readPoison req fetch a poison) := by
  unfold State.readPoison
  split
  · exact .ite h.report h
  · exact h.withCoreExc
  · exact h

theorem BoundedNext.execHbmAccess {a : Access} {ecc : List HbmEv} (h : Bounded t) : BoundedNext (Machine.execHbmAccess a ecc t) := by
  refine .next (.ite h (.ite h.wakeStack.withHeld ?_))
  have hecc : Bounded ((t.eccHits a ecc).foldl (fun s e => s.hbmEcc a.tenant e.2 e.1) t) := h.foldl fun _ _ h => h.hbmEcc
  exact .ite hecc.hbmPut.withResp hecc.hbmRead.readPoison.withResp

theorem BoundedNext.execCacheFlush {k : StackNo} (h : Bounded t) : BoundedNext (execCacheFlush k t) := .next h.set

theorem Bounded.flushStack {k : Nat} (h : Bounded t) : Bounded (t.flushStack k) := h.foldl (fun _ _ h => h.dropLine)

theorem BoundedNext.execCacheFlushDone {k : StackNo} (h : Bounded t) : BoundedNext (execCacheFlushDone k t) := .next (.ite h.flushStack.set h)

theorem BoundedNext.execHbmLoopWrite {k : StackNo} {value : Nat} (h : Bounded t) : BoundedNext (execHbmLoopWrite k value t) := .next (.ite h h.set)

theorem Bounded.regionDone {i st tenant : Nat} (h : Bounded t) : Bounded (t.regionDone i st tenant) := .ite h.set.set h.set.set.report

theorem Bounded.commitRegion {i v : Nat} (h : Bounded t) : Bounded (t.commitRegion i v) := h.frame

theorem BoundedNext.execRegionWrite {idx : Fin 4096} (h : Bounded t) : BoundedNext (execRegionWrite idx t) :=
  .next (.regionDone (.ite h.commitRegion h))

theorem BoundedNext.execRegionClear {idx : Fin 4096} (h : Bounded t) : BoundedNext (execRegionClear idx t) :=
  .next (.regionDone (.ite h.commitRegion h))

theorem BoundedNext.execKeyLoad {slot : Fin 1024} (h : Bounded t) : BoundedNext (Machine.execKeyLoad slot t) :=
  .next (.ite h.set (.set (.setMapBit h.withKeys)))

theorem Bounded.zeroKey {k : Nat} (h : Bounded t) : Bounded (t.zeroKey k) := h.frame

theorem BoundedNext.execKeyZero {slot : Fin 1024} (h : Bounded t) : BoundedNext (execKeyZero slot t) := .next h.zeroKey.set

end Sys2Proof.Machine
end

section
/-! PROOF. The functions of Machine/Log.lean keep the bounds. -/
namespace Sys2Proof.Machine
set_option Elab.async false
variable {t u : State}

theorem Bounded.modSvc {f : Svc → Svc} (h : Bounded t) : Bounded (t.modSvc f) := h.withSvc

theorem Bounded.modPower {f : Power → Power} (h : Bounded t) : Bounded (t.modPower f) := h.withPower

theorem Bounded.flashWrite {a : Nat} {l : List Byte} (h : Bounded t) : Bounded (t.flashWrite a l) := h.modMgmt

theorem Bounded.flashErase {a n : Nat} (h : Bounded t) : Bounded (t.flashErase a n) := h.modMgmt

theorem Bounded.writeRec {f : StateRec → StateRec} (h : Bounded t) : Bounded (t.writeRec f) :=
  .modMgmt (.flashWrite (.ite h.flashErase h))

theorem Bounded.readRec (h : Bounded t) : Bounded t.readRec := h.frame

theorem Bounded.toErq {sev : Nat} {l : List Byte} (h : Bounded t) : Bounded (t.toErq sev l) := .ite h (.ite h.addHold h.devWrite.set)

theorem Bounded.logPut {sev src inst code : Nat} {data : List Byte} (h : Bounded t) : Bounded (t.logPut sev src inst code data) :=
  .toErq (.set (.modMgmt (.ite h h.frame)))

theorem Bounded.logRec {sev src inst code : Nat} {data : List Byte} (h : Bounded t) : Bounded (t.logRec sev src inst code data) :=
  .ite h.modMgmt h.modMgmt.logPut

theorem Bounded.fatal {src inst code : Nat} (h : Bounded t) : Bounded (t.fatal src inst code) := h.logRec

theorem Bounded.slvEvent {code sev : Nat} {data : List Nat} (h : Bounded t) : Bounded (t.slvEvent code sev data) := h.logRec

theorem Bounded.deliver (h : Bounded t) : Bounded (t.deliver) := by
  unfold State.deliver
  split
  · exact h
  · exact h.withErrs.logRec

theorem Bounded.deliverN {k : Nat} (h : Bounded t) : Bounded (t.deliverN k) := by
  induction k generalizing t with
  | zero => exact h
  | succ k ih => exact ih h.deliver

theorem BoundedNext.execErrorRecordDeliver (h : Bounded t) : BoundedNext (execErrorRecordDeliver t) := .next h.deliver

theorem Bounded.suppressed {src inst code count : Nat} (h : Bounded t) : Bounded (t.suppressed src inst code count) := h.logPut

theorem BoundedNext.execLogSuppressWindow (h : Bounded t) : BoundedNext (execLogSuppressWindow t) :=
  .next (.foldl (h.withErrDropped.modMgmt.foldl (fun _ _ h => h.suppressed)) (fun _ _ h => h.suppressed))

theorem Bounded.persistOne (h : Bounded t) : Bounded (t.persistOne) := .set (.modMgmt (.flashWrite (.ite h.flashErase h)))

theorem Bounded.persistN {k : Nat} (h : Bounded t) : Bounded (t.persistN k) := by
  induction k generalizing t with
  | zero => exact h
  | succ k ih => exact ih h.persistOne

theorem Bounded.persistAll (h : Bounded t) : Bounded (t.persistAll) := .ite h (.persistN (.ite h h.modMgmt.logPut))

theorem BoundedNext.execLogPersist (h : Bounded t) : BoundedNext (execLogPersist t) := .next h.persistAll

theorem BoundedNext.execLogFlush (h : Bounded t) : BoundedNext (execLogFlush t) := .next h.persistAll

theorem Bounded.reloadLog (h : Bounded t) : Bounded (t.reloadLog) := h.frame.foldl (fun _ _ h => h.logPut)

end Sys2Proof.Machine
end

section
/-! PROOF. The functions of Machine/Fabric.lean keep the bounds. -/
namespace Sys2Proof.Machine
set_option Elab.async false
variable {t u : State}

theorem Bounded.modPort {p : Nat} {f : PortSt → PortSt} (h : Bounded t) : Bounded (t.modPort p f) := h.withFab

theorem Bounded.modFab {f : Fab → Fab} (h : Bounded t) : Bounded (t.modFab f) := h.withFab

theorem Bounded.wireOut {p ftype : Nat} {f : TxFlit} (h : Bounded t) : Bounded (t.wireOut p ftype f) := h.frame

theorem Bounded.idleOut {p : Nat} (h : Bounded t) : Bounded (t.idleOut p) := .ite h.wireOut h

theorem Bounded.portRecord {p code cls : Nat} (h : Bounded t) : Bounded (t.portRecord p code cls) := h.report

theorem Bounded.holdover (h : Bounded t) : Bounded (t.holdover) := h.set

theorem Bounded.dropQueued {p : Nat} (h : Bounded t) : Bounded (t.dropQueued p) := .ite h.modFab h

theorem Bounded.cutOff {q ovc : Nat} (h : Bounded t) : Bounded (t.cutOff q ovc) := h.modPort

theorem Bounded.cutAll {p : Nat} (h : Bounded t) : Bounded (t.cutAll p) := by
  refine .foldl h (fun _ _ h => ?_)
  split
  · exact h.modPort.cutOff
  · exact h

theorem Bounded.dropLink {p k : Nat} (h : Bounded t) : Bounded (t.dropLink p k) := h.dropQueued.cutAll.modPort.set.set.set.holdover

theorem Bounded.quarantine {p cause : Nat} (h : Bounded t) : Bounded (t.quarantine p cause) :=
  h.dropQueued.cutAll.modPort.set.set.holdover.set.portRecord

theorem Bounded.portDown {p : Nat} (h : Bounded t) : Bounded (t.portDown p) := h.portRecord.dropLink.set.addHold

theorem Bounded.sendFlits {p : Nat} {l : List TxFlit} (h : Bounded t) : Bounded (t.sendFlits p l) := .add (h.modPort.foldl (fun _ _ h => h.wireOut))

theorem Bounded.transmitPart {p vc n : Nat} {k : Packet} (h : Bounded t) : Bounded (t.transmitPart p vc n k) := h.modPort.sendFlits

theorem Bounded.transmit {p vc : Nat} {k : Packet} (h : Bounded t) : Bounded (t.transmit p vc k) := h.transmitPart

theorem Bounded.pumpN {p k : Nat} (h : Bounded t) : Bounded (t.pumpN p k) := by
  induction k generalizing t with
  | zero => exact h
  | succ k ih =>
    unfold State.pumpN
    split
    · exact h
    · exact .ite (ih h.transmit.modPort) h

theorem Bounded.pump {p : Nat} (h : Bounded t) : Bounded (t.pump p) := h.pumpN

theorem Bounded.sendOn {p : Nat} {k : Packet} (h : Bounded t) : Bounded (t.sendOn p k) := h.modPort.pump

theorem Bounded.linkMsg {p msgtype : Nat} {body : List Byte} (h : Bounded t) : Bounded (t.linkMsg p msgtype body) := h.sendOn

theorem Bounded.malPacket {p r : Nat} (h : Bounded t) : Bounded (t.malPacket p r) := .ite h.add (.ite h.add.modPort.quarantine h.add.modPort)

theorem Bounded.packetIn {p vc : Nat} {part : RxPart} {l : List Byte} (h : Bounded t) : Bounded (t.packetIn p vc part l) := by
  unfold State.packetIn
  dsimp only
  split
  · split
    · exact h.modFab.malPacket
    · exact .ite h.modFab.modFab h.modFab.modFab
  · split
    · exact .ite h.modFab.modFab h.modFab.add
    · split
      · exact h.modFab.malPacket
      · exact .ite h.modFab.modFab h.modFab

theorem Bounded.cutFlit {q ovc : Nat} {eop : Bool} {vlen : Nat} {data : List Byte} (h : Bounded t) : Bounded (t.cutFlit q ovc eop vlen data) :=
  .ite h (.ite h.modPort.sendFlits.cutOff h.modPort.sendFlits)

theorem Bounded.cutThrough {p vc q ovc : Nat} {part : RxPart} {eop : Bool} {vlen : Nat} {data : List Byte} (h : Bounded t) :
    Bounded (t.cutThrough p vc q ovc part eop vlen data) := by
  unfold State.cutThrough
  dsimp only
  split
  · exact h.cutFlit.modPort
  · split
    · exact h.cutFlit.modPort.malPacket
    · exact h.cutFlit.modPort

theorem Bounded.dataFlit {p vc : Nat} {sop eop : Bool} {vlen : Nat} {data : List Byte} {rty : Nat} (h : Bounded t) :
    Bounded (t.dataFlit p vc sop eop vlen data rty) := by
  unfold State.dataFlit
  dsimp only
  split
  · refine .cutThrough ?_
    split
    · exact .cutOff (.ite h.modPort.malPacket h.modPort)
    · exact .ite h.modPort.malPacket h.modPort
  · split
    · refine .modPort ?_
      split
      · exact .cutOff (.ite h.modPort.malPacket h.modPort)
      · exact .ite h.modPort.malPacket h.modPort
    · refine .packetIn ?_
      refine .modPort ?_
      split
      · exact .cutOff (.ite h.modPort.malPacket h.modPort)
      · exact .ite h.modPort.malPacket h.modPort

theorem Bounded.takeAck {p ack : Nat} (h : Bounded t) : Bounded (t.takeAck p ack) := by
  unfold State.takeAck
  dsimp only
  split
  · exact .ite h.modPort h.modPort.add
  · exact h.modPort

theorem Bounded.takeNak {p ack : Nat} (h : Bounded t) : Bounded (t.takeNak p ack) := by
  have hack : Bounded (t.takeAck p ack) := h.takeAck
  unfold State.takeNak
  generalize t.takeAck p ack = u at hack ⊢
  dsimp only
  split
  · exact hack
  · exact .ite hack.add.modPort.portDown (hack.add.modPort.foldl fun _ _ h => h.wireOut).add

theorem Bounded.discardFlit {p : Nat} {seq : Option Nat} (h : Bounded t) : Bounded (t.discardFlit p seq) := by
  unfold State.discardFlit
  split
  · exact h.modPort.wireOut
  · exact h.modPort

theorem Bounded.takeData {p h' : Nat} {data : List Byte} (h : Bounded t) : Bounded (t.takeData p h' data) := .ite h.discardFlit h.add.modPort.dataFlit

theorem BoundedNext.execFlitReceive {p : PortNo} {flit : List Byte} {fecCorr : Nat} {fecBad : Bool} (h : Bounded t) :
    BoundedNext (Machine.execFlitReceive p flit fecCorr fecBad t) := by
  refine .next (.ite h ?_)
  extract_lets u hd v w x k y
  have hv : Bounded v := .ite h.add.modPort h.add
  have hw : Bounded w := .ite hv.takeNak hv.takeAck
  have hx : Bounded x := .ite hw.takeData hw
  exact .ite h.add.add.discardFlit (.ite h.add.add.discardFlit (.ite hx.pump.idleOut hx.pump))

theorem BoundedNext.execNak {p : PortNo} {ack : Nat} (h : Bounded t) : BoundedNext (execNak p ack t) := .next (.ite h.takeNak.pump h)

theorem Bounded.send {k : Packet} (h : Bounded t) : Bounded (t.send k) := h.frame

theorem Bounded.request {by_ : ReqBy} {k : Packet} (h : Bounded t) : Bounded (t.request by_ k) := h.modFab.send

theorem Bounded.completeReq {tag status : Nat} {data : List Byte} {poison : Bool} (h : Bounded t) :
    Bounded (t.completeReq tag status data poison) := by
  unfold State.completeReq
  dsimp only
  split
  · exact h
  · split
    · exact .modPend (.ite h.modFab h.modFab.report)
    · exact .modSeq (.ite h.modFab h.modFab.report)
    · exact .modTierOp (.ite h.modFab h.modFab.report)
    · exact .modTierOp (.ite h.modFab h.modFab.report)

theorem Bounded.noteUnroutable (h : Bounded t) : Bounded (t.noteUnroutable) := h.add.set

theorem Bounded.syncMsg {p msgtype : Nat} {body : List Byte} (h : Bounded t) : Bounded (t.syncMsg p msgtype body) := .ite h.linkMsg h.noteUnroutable

theorem Bounded.unroutable {i : InPkt} (h : Bounded t) : Bounded (t.unroutable i) := by
  unfold State.unroutable
  split
  · exact h.noteUnroutable
  · exact .ite h.noteUnroutable.completeReq h.noteUnroutable.send

theorem Bounded.hasServed {q j ovc n : Nat} {ready : List (Nat × Nat × InPkt)} (h1 : Bounded u) :
    Bounded (t.hasServed q j ovc n ready u) :=
  h1.modPort

theorem Bounded.cutStart {src vc q ovc : Nat} {i : InPkt} (h : Bounded t) : Bounded (t.cutStart src vc q ovc i) := h.modPort.transmitPart

theorem BoundedNext.execPacketForward {src : Fin 7} {vc : Fin 8} (h : Bounded t) : BoundedNext (execPacketForward src vc t) := by
  refine .next ?_
  split
  · split
    · exact h.modFab.unroutable
    · exact .ite h (.hasServed h.modFab.transmit)
  · split
    · exact h
    · split
      · exact h
      · exact .ite h (.hasServed h.cutStart)

theorem Bounded.takeIn {i : InPkt} (h : Bounded t) : Bounded (t.takeIn i) := h.modFab

theorem Bounded.takeResponse {ptype : Nat} (h : Bounded t) : Bounded (t.takeResponse ptype) := by
  unfold State.takeResponse
  split
  · exact h
  · exact h.takeIn.completeReq

theorem BoundedNext.execReadresp (h : Bounded t) : BoundedNext (execReadresp t) := .next h.takeResponse

theorem BoundedNext.execWrack (h : Bounded t) : BoundedNext (execWrack t) := .next h.takeResponse

theorem BoundedNext.execAtomresp (h : Bounded t) : BoundedNext (execAtomresp t) := .next h.takeResponse

theorem BoundedNext.execRequestTimeout {tag : Fin 65536} (h : Bounded t) : BoundedNext (execRequestTimeout tag t) :=
  .next (.ite h.add.set.completeReq h)

theorem BoundedNext.execFabCntClr (h : Bounded t) : BoundedNext (execFabCntClr t) := .next h.frame

end Sys2Proof.Machine
end

section
/-! PROOF. The functions of Machine/Transfer.lean keep the bounds. -/
namespace Sys2Proof.Machine
set_option Elab.async false
variable {t u : State}

theorem Bounded.markSub {i sub : Nat} (h : Bounded t) : Bounded (t.markSub i sub) := .ite h.devRead h.devRead.devWrite.add

theorem Bounded.dirtyMark {i a n : Nat} (h : Bounded t) : Bounded (t.dirtyMark i a n) := h.foldl (fun _ _ h => h.markSub)

theorem Bounded.leaseRefused {n unit tenant a : Nat} (h : Bounded t) : Bounded (t.leaseRefused n unit tenant a) := h.report

theorem Bounded.enqueue {m : Nat} {i : Inbound} (h : Bounded t) : Bounded (t.enqueue m i) := h.modSpd

theorem Bounded.noteRty {n rty : Nat} (h : Bounded t) : Bounded (t.noteRty n rty) := h.withSvc

theorem Bounded.inwinDeny {n : Nat} {req : Requester} {tenant off : Nat} (h : Bounded t) : Bounded (t.inwinDeny n req tenant off) := h.set.refusedAt

theorem Bounded.answerInbound {i : Inbound} {status : Nat} {data : List Byte} {poison : Bool} (h : Bounded t) :
    Bounded (t.answerInbound i status data poison) := by
  unfold State.answerInbound
  split
  · exact .ite h.answer (.ite h.modPend h.modSeq)
  · split
    · exact h
    · exact h.send
  · exact h.answer

theorem Bounded.winWrite {n off : Nat} {d : List Byte} {p : Bool} (h : Bounded t) : Bounded (t.winWrite n off d p) := .ite h.spWrite h.viewWrite

theorem Bounded.resultIn {n c : Nat} (h : Bounded t) : Bounded (t.resultIn n c) := by
  refine h.modSeq fun q hq => ?_
  split
  · split
    · exact hq
    · exact hq
  · exact hq

theorem Bounded.beyondView {n : Nat} {i : Inbound} {len : Nat} (h : Bounded t) : Bounded (t.beyondView n i len).2 := by
  unfold State.beyondView
  dsimp only
  split
  · exact h
  · exact h.refusedAt

theorem Bounded.performInbound {n : Nat} {i : Inbound} (h : Bounded t) : Bounded (t.performInbound n i) := by
  have hview : Bounded (t.beyondView n i i.len).2 := h.beyondView
  unfold State.performInbound
  refine .ite h.inwinDeny.answerInbound ?_
  generalize t.beyondView n i i.len = v at hview ⊢
  obtain ⟨st, u⟩ := v
  have hu : Bounded u := hview
  dsimp only
  split
  · exact Bounded.answerInbound (.readPoison (.ite hu.countPoison hu))
  · exact Bounded.answerInbound (.winWrite (.ite hu.countPoison hu))
  · exact .ite hu.winWrite.resultIn hu.winWrite
  · exact hu.winWrite.answerInbound

theorem Bounded.popFifo {n : Nat} (h : Bounded t) : Bounded (t.popFifo n) := h.modSpd

theorem Bounded.throughPort {n deferred : Nat} {ecc : List SpadEv} {f : State → State} (h : Bounded t) (hk : ∀ x0, Bounded x0 → Bounded (f x0)) :
    Bounded (t.throughPort n deferred ecc f) := .eccSeen (hk _ h.add.eccEvents)

theorem Bounded.portServes {n deferred : Nat} {ecc : List SpadEv} {f : State → State} (h : Bounded t) (hk : ∀ x0, Bounded x0 → Bounded (f x0)) :
    Bounded (t.portServes n deferred ecc f) := h.popFifo.throughPort (fun _ h1 => hk _ h1)

theorem Bounded.localPut {n unit tenant a : Nat} {kind : InKind} {d : List Byte} {p : Bool} (h : Bounded t) :
    Bounded (t.localPut n unit tenant a kind d p) := by
  unfold State.localPut
  dsimp only
  split
  · exact h.hbmPost
  · exact .ite h.refusedAt h.enqueue.modSeq
  · exact .ite h.refusedAt h.enqueue.modSeq
  · exact h.refusedAt

theorem Bounded.remotePut {n unit cls tenant a tag : Nat} {d : List Byte} {p : Bool} (h : Bounded t) :
    Bounded (t.remotePut n unit cls tenant a tag d p) := by
  unfold State.remotePut
  split
  · exact h.request.modSeq
  · exact .ite h.leaseRefused h.dirtyMark.request.modSeq

theorem Bounded.engWrite {n unit cls tenant a : Nat} {d : List Byte} {p : Bool} (h : Bounded t) : Bounded (t.engWrite n unit cls tenant a d p) :=
  h.foldl (fun _ _ h => .ite h.localPut h.remotePut)

theorem Bounded.engMask {n unit cls tenant a value mask : Nat} (h : Bounded t) : Bounded (t.engMask n unit cls tenant a value mask) := by
  unfold State.engMask
  dsimp only
  split
  · split
    · exact .ite h.hbmRead h.hbmRead.hbmPut
    · exact h.localPut
  · split
    · exact h.request.modSeq
    · exact .ite h.leaseRefused h.dirtyMark.request.modSeq

theorem ReadBounded.rdPiece {n unit tenant a len : Nat} : ReadBounded (Machine.rdPiece n unit tenant a len) := by
  intro l t h
  have houtside : RdOut.Bounded (match l with
      | [] => .need a len
      | r :: l => .done (⟨r.status, slice r.data 0 len, List.replicate len (r.poison || r.status == 5)⟩ : RdData) l t) := by
    split
    · trivial
    · exact h
  unfold Machine.rdPiece
  refine .ite ?_ houtside
  dsimp only
  split
  · exact Bounded.hbmRead h
  · exact .ite houtside (Bounded.refusedAt h)

theorem ReadBounded.rdPieces {n unit tenant : Nat} {l : List (Nat × Nat)} : ReadBounded (Machine.rdPieces n unit tenant l) := by
  induction l with
  | nil => exact .pure
  | cons x l ih => exact .bind .rdPiece fun _ => .bind ih fun _ => .pure

theorem ReadBounded.rdRange {n unit tenant a len : Nat} : ReadBounded (Machine.rdRange n unit tenant a len) := .rdPieces

theorem Bounded.sendRead {n unit cls tenant a len : Nat} (h : Bounded t) : Bounded (t.sendRead n unit cls tenant a len) := by
  unfold State.sendRead
  dsimp only
  split
  · split
    · exact .ite h.refusedAt.modPend h.enqueue
    · exact .ite h.refusedAt.modPend h.enqueue
    · exact h
  · exact h.request

theorem Bounded.runOp {n cls tenant : Nat} {p : Pend} {f : Rd Unit} (h : Bounded t) (hf : ReadBounded f) : Bounded (t.runOp n cls tenant p f) := by
  have hout := hf p.got t h
  unfold State.runOp
  split
  next hdone =>
    rw [hdone] at hout
    exact Bounded.modPend hout
  next => exact h.modPend.sendRead

end Sys2Proof.Machine
end

section
/-! PROOF. The functions of Machine/Collective.lean keep the bounds. -/
namespace Sys2Proof.Machine
set_option Elab.async false
variable {t u : State}

theorem Bounded.collSend {c step phase part port : Nat} {data : List Byte} {poison : Bool} (h : Bounded t) :
    Bounded (t.collSend c step phase part port data poison) := h.foldl (fun _ _ h => h.send)

theorem Bounded.putColl {c : Nat} {e : CollStep} (h : Bounded t) : Bounded (t.putColl c e) := h.modFab

theorem Bounded.dropStep {c step : Nat} (h : Bounded t) : Bounded (t.dropStep c step) := h.modFab

theorem Bounded.collRecord {n off len : Nat} (h : Bounded t) : Bounded (t.collRecord n off len) := by
  unfold State.collRecord
  split
  · exact h.refusedAt
  · exact h

theorem Bounded.collWrite {c n : Nat} {l : List (List Byte × Bool)} (h : Bounded t) : Bounded (t.collWrite c n l) := by
  unfold State.collWrite
  dsimp only
  split
  · exact .resultIn (h.foldl (fun _ _ h => h.collRecord))
  · exact .foldl (h.foldl (fun _ _ h => h.collRecord)) (fun _ _ h => h.enqueue)

theorem Bounded.collTrunc {c : Nat} {l : List (List Byte × Bool)} (h : Bounded t) : Bounded (t.collTrunc c l) := .ite h.set.report h

theorem Bounded.collDone {c step : Nat} {result : Nat → List (List Byte × Bool)} (h : Bounded t) : Bounded (t.collDone c step result) :=
  .dropStep (h.foldl (fun _ _ h => h.collWrite.collTrunc))

theorem Bounded.tryReduce {c step : Nat} (h : Bounded t) : Bounded (t.tryReduce c step) := by
  unfold State.tryReduce
  extract_lets e dtype red own kids own' kids' lists poison r u
  have hu : Bounded u := .ite h.set h
  exact .ite h (.ite (hu.foldl fun _ _ h => h.collSend).collDone hu.putColl.collSend)

theorem Bounded.tryGather {c step : Nat} (h : Bounded t) : Bounded (t.tryGather c step) := by
  unfold State.tryGather
  dsimp only
  split
  · exact h
  · exact .collDone (h.foldl (fun _ _ h => h.foldl (fun _ _ h1 => h1.collSend)))

theorem Bounded.contribute {c step n : Nat} {data : List Byte} {poison : Bool} (h : Bounded t) : Bounded (t.contribute c step n data poison) :=
  .ite h.putColl.tryReduce (.ite h.putColl.tryGather h.putColl.collSend)

theorem Bounded.collServe {n c step : Nat} {i : Inbound} (h : Bounded t) : Bounded (t.collServe n c step i) :=
  .ite h h.collRecord.countPoison.contribute

theorem BoundedNext.execWaitColl {n : LoomNo} (h : Bounded t) : BoundedNext (execWaitColl n t) := by
  refine .next (h.issue fun _ => ?_)
  split
  · exact h
  · split
    · exact h.xferFault
    · exact .ite h.stopSeq (.ite h.advance.beginPause h.advance.beginPause.enqueue)

theorem BoundedNext.execColl (h : Bounded t) : BoundedNext (execColl t) := by
  unfold Machine.execColl
  dsimp only
  refine .next ?_
  split
  · exact h
  · split
    · exact .report (h.takeIn.foldl (fun _ _ h => h.noteRty))
    · split
      · exact .add (h.takeIn.foldl (fun _ _ h => h.noteRty))
      · split
        · split
          · exact .tryReduce (.putColl (h.takeIn.foldl (fun _ _ h => h.noteRty)))
          · split
            · exact .collDone (.foldl (.putColl (h.takeIn.foldl (fun _ _ h => h.noteRty))) (fun _ _ h => h.send))
            · exact .foldl (.putColl (h.takeIn.foldl (fun _ _ h => h.noteRty))) (fun _ _ h => h.send)
        · split
          · split
            · exact .tryGather (.putColl (h.takeIn.foldl (fun _ _ h => h.noteRty)))
            · exact .send (h.takeIn.foldl (fun _ _ h => h.noteRty))
          · split
            · exact .foldl (.putColl (h.takeIn.foldl (fun _ _ h => h.noteRty))) (fun _ _ h => h.send)
            · exact .collDone (.foldl (.putColl (h.takeIn.foldl (fun _ _ h => h.noteRty))) (fun _ _ h => h.send))

end Sys2Proof.Machine
end

section
/-! PROOF. The functions of Machine/Ethernet.lean keep the bounds. -/
namespace Sys2Proof.Machine
set_option Elab.async false
variable {t u : State}

theorem BoundedNext.execHostmsg (h : Bounded t) : BoundedNext (execHostmsg t) := by
  unfold Machine.execHostmsg
  dsimp only
  refine .next ?_
  split
  · exact h
  · split
    · exact .ite h.frame h.takeIn.add
    · exact .ite h.takeIn.devWrite.set.send h.takeIn.devWrite.set

theorem Bounded.ethDomain {p : Nat} (h : Bounded t) : Bounded (t.ethDomain p) := .ite h h.set

theorem Bounded.ethCtl {e v : Nat} (h : Bounded t) : Bounded (t.ethCtl e v) :=
  .ite h (.ethDomain (.ite h.frame h.frame))

theorem BoundedNext.execEthCtlWrite {e : EthNo} {value : Nat} (h : Bounded t) : BoundedNext (execEthCtlWrite e value t) := .next h.ethCtl

theorem BoundedNext.execEthLinkUp {e : EthNo} (h : Bounded t) : BoundedNext (execEthLinkUp e t) := .next (.ite h h.frame)

theorem BoundedNext.execEthLinkLoss {e : EthNo} (h : Bounded t) : BoundedNext (execEthLinkLoss e t) := .next h.clear.clear

theorem Bounded.descDone {a len flags : Nat} {time : Option Nat} (h : Bounded t) : Bounded (t.descDone a len flags time) := by
  refine .devWrite ?_
  split
  · exact h.devWrite.devWrite
  · exact h.devWrite

theorem Bounded.ethDeliver {e : Nat} {frame : List Byte} {time k : Nat} (h : Bounded t) : Bounded (t.ethDeliver e frame time k) := by
  induction k generalizing t with
  | zero => exact h
  | succ k ih =>
    unfold State.ethDeliver
    refine .ite h.add ?_
    exact .ite (ih h.devFetch.set.descDone) h.devFetch.set.devWrite.descDone

theorem Bounded.ethSend {e : Nat} {l : List Byte} (h : Bounded t) : Bounded (t.ethSend e l) := h.add.modFab

theorem Bounded.pfcSend {e : Nat} (h : Bounded t) : Bounded (t.pfcSend e) := .ite h (.ite h.takeFree.ethSend h.takeFree)

theorem BoundedNext.execEthFrameRx {e : EthNo} {frame : List Byte} {fecCorr fecBad : Nat} (h : Bounded t) :
    BoundedNext (execEthFrameRx e frame fecCorr fecBad t) := by
  unfold Machine.execEthFrameRx
  dsimp only
  refine .next (h.orWait fun _ h1 => ?_)
  split
  · exact h1
  · split
    · exact h1.add.add
    · split
      · exact h1.frame
      · split
        · exact h1.frame
        · split
          · exact .ite h1.frame h1.frame
          · split
            · split
              · exact h1.frame.ethDeliver.pfcSend
              · exact .ite h1.frame h1.frame
            · exact h1.frame.ethDeliver.pfcSend

theorem BoundedNext.execEthFrameTx {e : EthNo} (h : Bounded t) : BoundedNext (execEthFrameTx e t) := by
  unfold Machine.execEthFrameTx
  dsimp only
  refine .next (h.orWait fun _ h1 => ?_)
  split
  · exact h1
  · split
    · exact h1.devFetch.set.descDone
    · split
      · exact h1
      · split
        · exact h1.devFetch.set.devFetch.descDone
        · exact h1.devFetch.set.devFetch.ethSend.descDone

theorem BoundedNext.execEthPacket (h : Bounded t) : BoundedNext (execEthPacket t) := by
  refine .next ?_
  split
  · exact h
  · exact .ite h.takeIn (.ite h.takeIn.add (.ite h h.takeIn.ethSend))

end Sys2Proof.Machine
end

section
/-! PROOF. The functions of Machine/Cert.lean keep the bounds. -/
namespace Sys2Proof.Machine
set_option Elab.async false
variable {t u : State}

theorem Bounded.verify {u' : Usage} {chain m rsa slh : List Byte} (h : Bounded t) : Bounded (t.verify u' chain m rsa slh).2 := .ite h.add h.add.add

theorem Bounded.verifyImage {u' : Usage} {img : List Byte} {sigOff : Nat} (h : Bounded t) : Bounded (t.verifyImage u' img sigOff).2 := h.verify

theorem Bounded.signNext (h : Bounded t) : Bounded (t.signNext) := by
  unfold State.signNext
  split
  · exact h
  · split
    · exact h
    · exact h.modMgmt

theorem Bounded.sign {j : SignJob} (h : Bounded t) : Bounded (t.sign j) := h.modMgmt.signNext

theorem Bounded.signDone (h : Bounded t) : Bounded (t.signDone) := h.modMgmt.signNext

end Sys2Proof.Machine
end

section
/-! PROOF. The functions of Machine/Operands.lean keep the bounds. -/
namespace Sys2Proof.Machine
set_option Elab.async false
variable {t u : State}

theorem Bounded.countSpecial {n : Nat} {l : List Nat} (h : Bounded t) : Bounded (t.countSpecial n l) := h.frame

theorem Bounded.putOut {n : Nat} {p : OutPlan} {r : Nat} {vals : List FVal} {poison : Bool} (h : Bounded t) :
    Bounded (t.putOut n p r vals poison) := by
  unfold State.putOut
  split
  · exact h.spWrite.countSpecial
  · split
    · exact h.spWrite.countSpecial
    · split
      · exact h.spWrite.spWrite.foldl (fun _ _ h => h.spWrite)
      · exact .guardAdd (h.spWrite.spWrite.foldl (fun _ _ h => h.spWrite))

end Sys2Proof.Machine
end

section
/-! PROOF. The functions of Machine/Shuttle.lean keep the bounds. -/
namespace Sys2Proof.Machine
set_option Elab.async false
variable {t u : State}

theorem Bounded.shtStart {n op : Nat} (h : Bounded t) : Bounded (t.shtStart n op) := h.set.set

theorem Bounded.shtRange {n : Nat} (h : Bounded t) : Bounded (t.shtRange n) := h.engineFault

theorem Bounded.shtIssue {n op nslots : Nat} {ok : Block → Bool} {ranges : Block → List (Nat × Nat)} {k : DWord → Block → State}
    (h : Bounded t) (hk : ∀ x0 x1, Bounded (k x0 x1)) :
    Bounded (t.shtIssue n op nslots ok ranges k) := by
  unfold State.shtIssue
  dsimp only
  refine .issue h (fun _ => ?_)
  split
  · exact h.wordFault
  · exact .ite h.xferFault (.ite h.shtRange (.ite h.wordFault (hk _ _)))

theorem BoundedNext.execRoute {n : LoomNo} {evs : CycleEvs} (h : Bounded t) : BoundedNext (execRoute n t evs) := by
  refine .next (h.withEvents fun _ h1 => ?_)
  refine .shtIssue h1 (fun _ _ => ?_)
  refine .shtStart ?_
  refine .modSht ?_
  split
  · exact .add (.add (.add (h1.advance.countPoison.foldl (fun _ _ h2 => h2.spWrite))))
  · exact .set (.add (.add (.add (h1.advance.countPoison.foldl (fun _ _ h2 => h2.spWrite)))))

theorem Bounded.sendRecord {n m : Nat} {ovf : Bool} {choice gate stream slot : Nat} {body : List Byte} {poison : Bool} (h : Bounded t) :
    Bounded (t.sendRecord n m ovf choice gate stream slot body poison) :=
  .modSht (h.foldl (fun _ _ h => .ite h.localPut (h.foldl (fun _ _ h1 => h1.remotePut))))

theorem Bounded.zeroReturn {n at_ len : Nat} (h : Bounded t) : Bounded (t.zeroReturn n at_ len) := h.engWrite

theorem Bounded.sendClaim {n : Nat} {c : Claim} (h : Bounded t) : Bounded (t.sendClaim n c) := .ite h.modSht.enqueue h.modSht.send

theorem BoundedNext.execScatter {n : LoomNo} {evs : CycleEvs} (h : Bounded t) : BoundedNext (execScatter n t evs) :=
  .next (h.withEvents (fun _ h1 => h1.shtIssue (fun _ _ => .shtStart (.foldl (h1.advance.countPoison.foldl (fun _ _ h2 => .ite h2.sendRecord (.ite
      h2 h2.zeroReturn))) (fun _ _ h2 => h2.sendClaim)))))

theorem Bounded.sendTally {n chip loom : Nat} {l : List Byte} (h : Bounded t) : Bounded (t.sendTally n chip loom l) := .ite (.ite h h.enqueue) h.send

theorem BoundedNext.execTally {n : LoomNo} {evs : CycleEvs} (h : Bounded t) : BoundedNext (execTally n t evs) :=
  .next (h.withEvents (fun _ h1 => h1.shtIssue (fun _ _ => .shtStart (h1.advance.foldl (fun _ _ h2 => h2.foldl (fun _ _ h3 => h3.sendTally))))))

theorem Bounded.sendReturn {n e q off : Nat} {l : List Byte} {poison : Bool} (h : Bounded t) : Bounded (t.sendReturn n e q off l poison) :=
  .ite h.localPut (h.foldl (fun _ _ h => h.remotePut))

theorem BoundedNext.execShtReturn {n : LoomNo} {evs : CycleEvs} (h : Bounded t) : BoundedNext (execShtReturn n t evs) :=
  .next (h.withEvents (fun _ h1 => h1.shtIssue (fun _ _ => .shtStart (.foldl (h1.advance.foldl (fun _ _ h2 => h2.countPoison.sendReturn.engWrite))
      (fun _ _ h2 => h2.sendTally)))))

theorem BoundedNext.execMaskset {n : LoomNo} {evs : CycleEvs} (h : Bounded t) : BoundedNext (execMaskset n t evs) :=
  .next (h.withEvents (fun _ h1 => h1.shtIssue (fun _ _ => .shtStart (h1.advance.countPoison.foldl (fun _ _ h2 => .set (.set (.ite h2
      h2.takeFree)))))))

theorem Bounded.auditPair {n : Nat} {miss : Bool} (h : Bounded t) : Bounded (t.auditPair n miss) := .ite h.add.add (.ite h.frame h.frame)

theorem BoundedNext.execAudit {n : LoomNo} {evs : CycleEvs} (h : Bounded t) : BoundedNext (execAudit n t evs) := by
  refine .next (h.withEvents fun _ h1 => ?_)
  refine .shtIssue h1 (fun _ _ => ?_)
  refine .shtStart ?_
  split
  · exact h1.advance
  · exact h1.advance.countPoison.foldl (fun _ _ h2 => h2.foldl (fun _ _ h3 => .ite h3 h3.auditPair))

theorem ReadBounded.markPending {n dh pos entry : Nat} : ReadBounded (Machine.markPending n dh pos entry) :=
  .bind .rdRange fun _ => .bind .rdRange fun _ => .ite .pure (.ite (.mod fun _ h => h.refuseStruct) (.ite .pure (.mod fun _ h => h.engMask)))

theorem ReadBounded.exitRow {n : Nat} {b : Block} {block : List Byte} {p : ExitPar} {r : Nat} : ReadBounded (Machine.exitRow n b block p r) := by
  refine .bind .get fun _ => .ite .pure (.ite (.mod fun _ h => h.refuseStruct) (.ite (.mod fun _ h => h.add) ?_))
  refine .bind (.mod fun _ h => ?_) fun _ => .bind (.each fun _ => .markPending) fun _ => .mod fun _ h => h.spWrite.spWrite
  exact (h.setMapBit.add.modSht.countPoison.spWrite).spWrite

theorem ReadBounded.exitRun {n : Nat} {block : List Byte} : ReadBounded (Machine.exitRun n block) :=
  .bind (.each fun _ => .exitRow) fun _ => .mod fun _ h => h.set

theorem BoundedNext.execExit {n : LoomNo} {evs : CycleEvs} (h : Bounded t) : BoundedNext (Machine.execExit n t evs) :=
  .next (h.withEvents fun _ h => h.shtIssue fun _ _ => h.advance.countPoison.shtStart.runOp .exitRun)

theorem ReadBounded.fillOne {n : Nat} {b : Block} {nl nkv hsz e : Nat} {lh : Nat × Nat} : ReadBounded (Machine.fillOne n b nl nkv hsz e lh) := by
  unfold Machine.fillOne
  refine .bind .get fun _ => .bind .rdRange fun _ => .bind .rdRange fun _ => .ite (.mod fun _ h => ?_) (.mod fun _ h => ?_)
  · exact .add (.ite h.refuseStruct h)
  · exact h.dataReads.engWrite.engWrite.engWrite.engWrite.engMask

theorem ReadBounded.fillRun {n : Nat} {block : List Byte} : ReadBounded (Machine.fillRun n block) := by
  unfold Machine.fillRun
  exact .bind .get fun _ => .ite (.mod fun _ h => h.refuseStruct)
    (.each fun _ => .bind (.mod fun _ h => h.dataReads) fun _ => .each fun _ => .fillOne)

theorem BoundedNext.execFill {n : LoomNo} {evs : CycleEvs} (h : Bounded t) : BoundedNext (Machine.execFill n t evs) :=
  .next (h.withEvents fun _ h => h.shtIssue fun _ _ => h.advance.countPoison.shtStart.runOp .fillRun)

theorem ReadBounded.shtRun {n : Nat} {p : Pend} : ReadBounded (Machine.shtRun n p) := .ite .exitRun .fillRun

theorem BoundedNext.execShtOpDone {n : LoomNo} (h : Bounded t) : BoundedNext (Machine.execShtOpDone n t) := by
  refine .next (.ite h ?_)
  extract_lets u
  have hu : Bounded u := by
    unfold u
    split
    · exact .ite h (h.runOp .shtRun)
    · exact h
  exact .ite hu hu.set.set.settle

theorem Bounded.landBad {n off : Nat} (h : Bounded t) : Bounded (t.landBad n off) := h.add.set.report

theorem Bounded.landOk {n q step : Nat} {slot : Option Nat} {i : Inbound} (h : Bounded t) : Bounded (t.landOk n q step slot i) :=
  h.winWrite.modHalf.add

theorem Bounded.expectRest {n q src half : Nat} {i : Inbound} {ok : Bool} (h : Bounded t) : Bounded (t.expectRest n q src half i ok) :=
  h.modSht

theorem Bounded.landRest {n q : Nat} {i : Inbound} (h : Bounded t) : Bounded (t.landRest n q i) := by
  unfold State.landRest
  split
  · exact h.landBad
  · exact .expectRest (.ite h.winWrite h)

theorem Bounded.landRecord {n q : Nat} {i : Inbound} (h : Bounded t) : Bounded (t.landRecord n q i) := by
  unfold State.landRecord
  split
  · exact h.landRest
  · split
    · exact h.landOk.expectRest
    · exact h.landBad.expectRest

theorem Bounded.landRow {n q step src : Nat} {i : Inbound} (h : Bounded t) : Bounded (t.landRow n q step src i) := by
  refine .modSht ?_
  split
  · exact .ite h.landOk h.landBad
  · exact .ite h (.ite h.winWrite h.landBad)

theorem Bounded.landIf {n : Nat} {i : Inbound} {f : State → State} (h : Bounded t) (hk : ∀ x0, Bounded x0 → Bounded (f x0)) :
    Bounded (t.landIf n i f) := .ite (.answerInbound (hk _ h.beyondView)) h.inwinDeny.answerInbound

theorem BoundedNext.execRecordLanding {n : LoomNo} {deferred : Nat} {ecc : List SpadEv} (h : Bounded t) :
    BoundedNext (execRecordLanding n t deferred ecc) := by
  refine .next ?_
  split
  · exact h
  · split
    · exact h
    · split
      · exact h.portServes (fun _ h1 => h1.landIf (fun _ h2 => h2.landRecord))
      · exact h.portServes (fun _ h1 => h1.landIf (fun _ h2 => h2.landRow))
      · exact h

theorem Bounded.takeTally {n : Nat} {l : List Byte} (h : Bounded t) : Bounded (t.takeTally n l) := .ite h.set.add h.modHalf

theorem Bounded.shtPacket {n msgtype : Nat} {loomOf : Packet → Nat} {kindOf : Packet → InKind} (h : Bounded t) :
    Bounded (t.shtPacket n msgtype loomOf kindOf) := by
  unfold State.shtPacket
  split
  · exact h
  · exact .ite h.takeIn (.ite h h.takeIn.noteRty.enqueue)

theorem Bounded.takeHead {n : Nat} {f : Inbound → Option (State → State)} (h : Bounded t) (hk : ∀ i g u, f i = some g → Bounded u → Bounded (g u)) :
    Bounded (t.takeHead n f) := by
  refine .ite h ?_
  split
  · exact h
  · split
    next hg => exact hk _ _ _ hg h.popFifo
    next => exact h

theorem BoundedNext.execTallyMsg {n : LoomNo} (h : Bounded t) : BoundedNext (Machine.execTallyMsg n t) := by
  refine .next (h.shtPacket.takeHead fun i g u hg hu => ?_)
  split at hg
  · cases hg
    exact hu.takeTally
  · contradiction

theorem Bounded.takeClaim {n q half src choice repl chip loom : Nat} (h : Bounded t) : Bounded (t.takeClaim n q half src choice repl chip loom) := by
  unfold State.takeClaim
  extract_lets k ok slot u v
  have hu : Bounded u := h.modHalf
  have hv : Bounded v := .ite (hu.foldl fun _ _ h => h.modHalf) hu
  exact .ite hv.enqueue hv.send

theorem BoundedNext.execOvfClaim {n : LoomNo} (h : Bounded t) : BoundedNext (Machine.execOvfClaim n t) := by
  refine .next (h.shtPacket.takeHead fun i g u hg hu => ?_)
  split at hg
  · cases hg
    exact hu.takeClaim
  · contradiction

theorem Bounded.takeGrant {n choice slot : Nat} (h : Bounded t) : Bounded (t.takeGrant n choice slot) := by
  unfold State.takeGrant
  split
  · exact h
  · exact .ite h.modSht.add.zeroReturn h.modSht.add.add.sendRecord

theorem BoundedNext.execOvfGrant {n : LoomNo} (h : Bounded t) : BoundedNext (Machine.execOvfGrant n t) := by
  refine .next (h.shtPacket.takeHead fun i g u hg hu => ?_)
  split at hg
  · cases hg
    exact hu.takeGrant
  · contradiction

end Sys2Proof.Machine
end

section
/-! PROOF. The functions of Machine/LoomReset.lean keep the bounds. -/
namespace Sys2Proof.Machine
set_option Elab.async false
variable {t u : State}

theorem Bounded.zeroQueues {n : Nat} (h : Bounded t) : Bounded (t.zeroQueues n) := h.foldl (fun _ _ h => h.spWrite)

theorem Bounded.forgetWaits {n : Nat} (h : Bounded t) : Bounded (t.forgetWaits n) := by
  unfold State.forgetWaits
  extract_lets mine u v
  have hu : Bounded u := h.foldl fun _ _ h => h.modSpd
  exact hu.setLedger.modFab.ledgerShow

theorem Bounded.haltLoom {n : Nat} (h : Bounded t) : Bounded (t.haltLoom n) :=
  h.forgetWaits.returnCredits.setLm ⟨accRows_nil, by exact Nat.zero_le 4, by exact Nat.zero_le 4⟩

theorem Bounded.clearLoom {n : Nat} (h : Bounded t) : Bounded (t.clearLoom n) :=
  (h.forgetWaits.returnCredits.setLm ⟨accRows_nil, by exact Nat.zero_le 4, by exact Nat.zero_le 4⟩).clearAll.zeroQueues

theorem Bounded.loomReset {n : Nat} (h : Bounded t) : Bounded (t.loomReset n) := by
  unfold State.loomReset
  exact .ite h.clearLoom.startLoom h.clearLoom

theorem Bounded.benchRecord {kind index cause : Nat} (h : Bounded t) : Bounded (t.benchRecord kind index cause) := h.slvEvent

theorem Bounded.benchLoomUnit {n cause : Nat} (h : Bounded t) : Bounded (t.benchLoomUnit n cause) := by
  unfold State.benchLoomUnit
  exact h.setMapBit.haltLoom.clear.clear.clear.set.set.benchRecord.writeRec

end Sys2Proof.Machine
end

section
/-! PROOF. The functions of Machine/RegAccess.lean keep the bounds. -/
namespace Sys2Proof.Machine
set_option Elab.async false
variable {t u : State}

theorem Bounded.writeField {a : Nat} {b : Byte} {fa : Fld × Acc} (h : Bounded t) : Bounded (t.writeField a b fa) := by
  obtain ⟨f, acc⟩ := fa
  unfold State.writeField
  split
  · exact h
  · cases acc with
    | rw => exact h.set
    | rws => exact h.set
    | w1c => exact h.set
    | ro => exact h
    | wo => exact h

theorem Bounded.regPutByte {a : Nat} {b : Byte} (h : Bounded t) : Bounded (t.regPutByte a b) := by
  unfold State.regPutByte
  split
  · exact h
  · exact h.foldl fun _ _ h => h.writeField

theorem Bounded.regPut {a : Nat} {l : List Byte} (h : Bounded t) : Bounded (t.regPut a l) := by
  induction l generalizing a t with
  | nil => exact h
  | cons b l ih => exact ih h.regPutByte

end Sys2Proof.Machine
end

section
/-! PROOF. The functions of Machine/Tiers.lean keep the bounds. -/
namespace Sys2Proof.Machine
set_option Elab.async false
variable {t u : State}

theorem Bounded.tierPutPiece {e tenant : Nat} {raw : Bool} {a : Nat} {d : List Byte} {pois : List Bool} (h : Bounded t) :
    Bounded (t.tierPutPiece e tenant raw a d pois).2 := by
  unfold State.tierPutPiece
  dsimp only
  split
  · split
    · exact h.hbmPost
    · dsimp only
      exact h.refusedAt
  · split
    · dsimp only
      exact h.request.modTierOp
    · split
      · dsimp only
        exact h.report
      · dsimp only
        exact h.dirtyMark.request.modTierOp

theorem Bounded.tierPut {e tenant : Nat} {raw : Bool} {a : Nat} {d : List Byte} {pois : List Bool} (h : Bounded t) :
    Bounded (t.tierPut e tenant raw a d pois).2 := h.foldlSnd (fun _ _ h => h.tierPutPiece)

theorem Bounded.ringEntry {nbt : Bool} {a : Nat} {r : RdData} (h : Bounded t) (hu : t.ringEntry nbt = some (a, r, u)) : Bounded u := by
  unfold State.ringEntry at hu
  dsimp only at hu
  split at hu
  · contradiction
  · have hread : Bounded (t.devRead (t.get (ringBase nbt) + 64 * t.get (ringHead nbt)) 64).2 := h.devRead
    simp only [Option.some.injEq, Prod.mk.injEq] at hu
    exact hu.2.2 ▸ hread

theorem Bounded.answerTier {entry status result : Nat} (h : Bounded t) : Bounded (t.answerTier entry status result) := h.devWrite.devWrite

theorem Bounded.recordTier {nbt : Bool} {status tenant id : Nat} (h : Bounded t) : Bounded (t.recordTier nbt status tenant id) := .ite h h.report

theorem Bounded.endTier {nbt : Bool} {entry status result tenant id : Nat} (h : Bounded t) : Bounded (t.endTier nbt entry status result tenant id) :=
  h.answerTier.recordTier

theorem Bounded.nextEntry {nbt : Bool} (h : Bounded t) : Bounded (t.nextEntry nbt) := h.frame

theorem Bounded.ringTake {nbt : Bool} {op : Nat} {k : Nat → TierCmd → List Byte → State → State}
    (h : Bounded t) (hk : ∀ a c l u, Bounded u → Bounded (k a c l u)) :
    Bounded (t.ringTake nbt op k) := by
  unfold State.ringTake
  split
  · exact h
  next he =>
    have hu := h.ringEntry he
    exact .ite hu (.ite h (.ite hu.endTier.nextEntry (.ite h (hk _ _ _ _ hu))))

theorem Bounded.ringDo {nbt : Bool} {op : Nat} {k : TierCmd → State → Nat × Nat × State}
    (h : Bounded t) (hk : ∀ x0 x1, Bounded x1 → Bounded (k x0 x1).2.2) :
    Bounded (t.ringDo nbt op k) := h.ringTake (fun _ _ _ _ h1 => .nextEntry (.endTier (hk _ _ h1)))

theorem Bounded.runTier {e : Nat} {o : TierOp} {f : Rd (Nat × Nat)} (h : Bounded t) (hf : ReadBounded f) : Bounded (t.runTier e o f) := by
  have hops : Bounded (t.modTiers fun x => { x with ops := x.ops.filter (fun y => y.1 != e) ++ [(e, o)] }) := h.modTiers
  have hout := hf o.got _ hops
  unfold State.runTier
  dsimp only
  split
  next hdone =>
    rw [hdone] at hout
    exact Bounded.modTierOp hout
  next => exact hops.modTierOp.request

theorem Bounded.modBlk {k : Nat} {f : FlashBlk → FlashBlk} (h : Bounded t) : Bounded (t.modBlk k f) := h.frame

theorem Bounded.flashShow {tenant : Nat} (h : Bounded t) : Bounded (t.flashShow tenant) := h.frame

theorem Bounded.mapShow {key : Nat} (h : Bounded t) : Bounded (t.mapShow key) := by
  unfold State.mapShow
  split
  · exact h
  · exact .ite h h.memWrite

theorem Bounded.progUnit {key blk : Nat} (h : Bounded t) : Bounded (t.progUnit key blk) := h.modTiers.mapShow.modBlk.add

theorem Bounded.readUnit {blk : Nat} (h : Bounded t) : Bounded (t.readUnit blk) := h.modBlk.add

theorem Bounded.condemn {blk id : Nat} (h : Bounded t) : Bounded (t.condemn blk id) := h.frame.report.flashShow

theorem Bounded.placeUnits {fails : List Nat} {avoid : Nat → Bool} {k : Nat} {l : List (Nat × Bool)} (h : Bounded t) :
    Bounded (State.placeUnits fails avoid k l t) := by
  induction k generalizing l t with
  | zero => exact h
  | succ k ih =>
    match l with
    | [] => exact h
    | (key, move) :: l =>
      unfold State.placeUnits
      split
      · exact ih h
      · refine .ite (ih h.condemn) (ih (.progUnit (.ite h.readUnit h)))

theorem Bounded.place {fails : List Nat} {avoid : Nat → Bool} {l : List (Nat × Bool)} (h : Bounded t) : Bounded (t.place fails avoid l) :=
  h.placeUnits

theorem Bounded.relocate {fails : List Nat} {blk : Nat} (h : Bounded t) : Bounded (t.relocate fails blk) := h.place

theorem Bounded.eraseBlk {fails : List Nat} {blk : Nat} (h : Bounded t) : Bounded (t.eraseBlk fails blk) := .ite h (.ite h.add.condemn h.add.modBlk)

theorem Bounded.collect {fails : List Nat} (h : Bounded t) : Bounded (t.collect fails) := by
  unfold State.collect
  split
  · exact h
  · exact h.relocate.eraseBlk

theorem Bounded.makeRoom {fails : List Nat} {k : Nat} (h : Bounded t) : Bounded (State.makeRoom fails k t) := by
  induction k generalizing t with
  | zero => exact h
  | succ k ih => exact .ite h (ih h.collect)

theorem Bounded.keepReserve {fails : List Nat} (h : Bounded t) : Bounded (t.keepReserve fails) := h.makeRoom

theorem BoundedNext.execGarbageCollection {fails : List Nat} (h : Bounded t) : BoundedNext (execGarbageCollection t fails) := .next h.collect

theorem BoundedNext.execReadRefresh {block : Nat} {fails : List Nat} (h : Bounded t) : BoundedNext (execReadRefresh block t fails) :=
  .next (.ite h.keepReserve.relocate.eraseBlk.add h)

theorem BoundedNext.execWearLevel {fails : List Nat} (h : Bounded t) : BoundedNext (execWearLevel t fails) := by
  unfold Machine.execWearLevel
  dsimp only
  refine .next ?_
  split
  · exact h
  · split
    · exact h.keepReserve.relocate.eraseBlk
    · exact h.keepReserve

theorem Bounded.placeUnit {fails : List Nat} {key : Nat} (h : Bounded t) (hu : t.placeUnit fails key = some u) : Bounded u := by
  unfold State.placeUnit at hu
  dsimp only at hu
  split at hu
  · contradiction
  · exact Option.some.inj hu ▸ h.modTiers.keepReserve.place

theorem Bounded.placeAll {fails l : List Nat} (h : Bounded t) : Bounded (State.placeAll fails l t).2 := by
  induction l generalizing t with
  | nil => exact h
  | cons k l ih =>
    unfold State.placeAll
    split
    next hu => exact ih (h.placeUnit hu)
    next => exact h

theorem Bounded.objPut {id o : Nat} {d : List Byte} {pois : List Bool} (h : Bounded t) : Bounded (t.objPut id o d pois) := h.frame

theorem BoundedNext.execCreate (h : Bounded t) : BoundedNext (execCreate t) := by
  refine .next ?_
  refine .ringDo h (fun _ _ h1 => ?_)
  split
  · exact h1
  · split
    · exact h1
    · dsimp only
      exact h1.modTiers

theorem BoundedNext.execDelete (h : Bounded t) : BoundedNext (execDelete t) := by
  refine .next ?_
  refine .ringDo h (fun _ _ h1 => ?_)
  split
  · exact h1
  · split
    · exact h1
    · exact .flashShow (h1.modTiers.foldl (fun _ _ h1 => h1.mapShow))

theorem BoundedNext.execStat (h : Bounded t) : BoundedNext (execStat t) := by
  refine .next ?_
  refine .ringDo h (fun _ _ h1 => ?_)
  split
  · exact h1
  · split
    · exact h1
    · exact h1

theorem Bounded.flashUncorr {id : Nat} {cws : List Nat} {tenant : Nat} {uncorr : List Nat} (h : Bounded t) :
    Bounded (t.flashUncorr id cws tenant uncorr) := h.foldl (fun _ _ h => h.add.set.report)

theorem Bounded.flashRetries {l uncorr : List Nat} {retried : Nat} (h : Bounded t) : Bounded (t.flashRetries l uncorr retried) := h.frame

theorem Bounded.readUnits {id o n : Nat} (h : Bounded t) : Bounded (t.readUnits id o n) := h.foldl (fun _ _ h => .ite h h.readUnit)

theorem Bounded.leaseMsg {dst type lease tenant base pages dl : Nat} (h : Bounded t) : Bounded (t.leaseMsg dst type lease tenant base pages dl) :=
  h.frame

theorem Bounded.lendMsg {i type dl : Nat} (h : Bounded t) : Bounded (t.lendMsg i type dl) := h.frame

theorem Bounded.borrowMsg {i type : Nat} (h : Bounded t) : Bounded (t.borrowMsg i type) := h.leaseMsg

theorem Bounded.forget {k : Nat} (h : Bounded t) : Bounded (t.forget k) := h.modTiers

theorem Bounded.freeBorrow {i : Nat} (h : Bounded t) : Bounded (t.freeBorrow i) := (h.clearAll).forget

theorem Bounded.freeLend {i : Nat} (h : Bounded t) : Bounded (t.freeLend i) := by
  refine .forget (.clearAll ?_)
  split
  · exact .ite h h.set.set
  · exact h

theorem Bounded.loseLease {i : Nat} (h : Bounded t) : Bounded (t.loseLease i) := h.frame.report

theorem BoundedNext.execLend (h : Bounded t) : BoundedNext (execLend t) := by
  unfold Machine.execLend
  dsimp only
  refine .next ?_
  refine .ringTake h (fun _ _ _ _ h1 => ?_)
  split
  · split
    · exact h1.endTier.nextEntry
    · split
      · exact h1.endTier.nextEntry
      · exact h1.frame
  · exact h1.endTier.nextEntry

theorem BoundedNext.execAccept (h : Bounded t) : BoundedNext (execAccept t) := by
  unfold Machine.execAccept
  dsimp only
  refine .next ?_
  refine .ringDo h (fun _ _ h1 => ?_)
  split
  · exact h1
  · split
    · exact h1
    · split
      · exact h1
      · split
        · exact h1
        · exact h1.frame

theorem BoundedNext.execDecline (h : Bounded t) : BoundedNext (execDecline t) := by
  refine .next ?_
  refine .ringDo h (fun _ _ h1 => ?_)
  split
  · exact h1
  · exact h1.borrowMsg.freeBorrow

theorem BoundedNext.execReclaim (h : Bounded t) : BoundedNext (execReclaim t) := by
  refine .next ?_
  refine .ringDo h (fun _ _ h1 => ?_)
  split
  · exact h1
  · split
    · exact h1
    · split
      · exact h1
      · split
        · exact h1
        · exact h1.frame

theorem Bounded.cleanSub {i sub : Nat} (h : Bounded t) : Bounded (t.cleanSub i sub) := h.devRead.devWrite

theorem Bounded.writebackGo {e : Nat} {o : TierOp} (h : Bounded t) : Bounded (t.writebackGo e o) := by
  unfold State.writebackGo
  dsimp only
  split
  · exact h.modTierOp
  · split
    · refine .ite h.modTierOp ?_
      split
      exacts [h.modTierOp, h.cleanSub.modTierOp.request]
    · split
      · exact h.modTierOp
      · refine .ite h.tierPut.add.modTierOp ?_
        split
        exacts [h.tierPut.add.modTierOp, h.tierPut.add.cleanSub.modTierOp.request]

theorem BoundedNext.execClean (h : Bounded t) : BoundedNext (execClean t) := by
  refine .next ?_
  refine .ringDo h (fun _ _ h1 => ?_)
  split
  · exact h1
  · split
    · exact h1
    · exact h1.foldl (fun _ _ h1 => h1.cleanSub)

theorem BoundedNext.execRelease (h : Bounded t) : BoundedNext (execRelease t) := by
  refine .next ?_
  refine .ringDo h (fun _ _ h1 => ?_)
  split
  · exact h1
  · split
    · exact h1
    · split
      · exact h1
      · exact h1.frame

theorem ReadBounded.tierPiece {tenant : Nat} {raw : Bool} {a len : Nat} : ReadBounded (Machine.tierPiece tenant raw a len) := by
  intro l t h
  unfold Machine.tierPiece
  split
  · dsimp only
    split
    · exact Bounded.hbmRead h
    · exact Bounded.refusedAt h
  · split
    · trivial
    · exact h

theorem ReadBounded.tierPieces {tenant : Nat} {raw : Bool} {l : List (Nat × Nat)} : ReadBounded (Machine.tierPieces tenant raw l) := by
  induction l with
  | nil => exact .pure
  | cons x l ih => exact .bind .tierPiece fun _ => .bind ih fun _ => .pure

theorem ReadBounded.tierRange {tenant : Nat} {raw : Bool} {a len : Nat} : ReadBounded (Machine.tierRange tenant raw a len) := .tierPieces

theorem ReadBounded.tierWr {e tenant : Nat} {raw : Bool} {a : Nat} {d : List Byte} {pois : List Bool} :
    ReadBounded (Machine.tierWr e tenant raw a d pois) := fun _ _ h => Bounded.tierPut h

theorem ReadBounded.writeRun {c : TierCmd} {fails : List Nat} : ReadBounded (Machine.writeRun c fails) := by
  refine .bind .tierRange fun r => .ite .pure ?_
  intro l t h
  dsimp only
  split
  · exact Bounded.flashShow h
  · exact (Bounded.placeAll h).objPut.modTiers.flashShow

theorem ReadBounded.readRun {e : Nat} {c : TierCmd} {uncorr : List Nat} {retried : Nat} : ReadBounded (Machine.readRun e c uncorr retried) :=
  fun _ _ h => (Bounded.readUnits h).flashRetries.flashUncorr.tierPut

theorem ReadBounded.walkTiles {src : ImgSrc} {put : Nat → RdData → Rd Nat}
    (hsrc : ∀ o n, ReadBounded (src o n)) (hput : ∀ o r, ReadBounded (put o r)) {g : Seg} {k u x : Nat} :
    ReadBounded (Machine.walkTiles src put g k u x) := by
  induction k generalizing u x with
  | zero => exact .pure
  | succ k ih => exact .bind (hsrc _ _) fun _ => .ite .pure (.ite .pure (.bind (hsrc _ _) fun _ => .bind (hput _ _) fun _ => .ite .pure ih))

theorem ReadBounded.walkUnits {src : ImgSrc} {put : Nat → RdData → Rd Nat}
    (hsrc : ∀ o n, ReadBounded (src o n)) (hput : ∀ o r, ReadBounded (put o r)) {span : Nat} {g p : Seg} {k u x : Nat} :
    ReadBounded (Machine.walkUnits span src put g p k u x) := by
  induction k generalizing u x with
  | zero => exact .pure
  | succ k ih => exact .bind (hsrc _ _) fun _ => .ite .pure (.ite .pure (.bind (hsrc _ _) fun _ => .bind (hput _ _) fun _ => .ite .pure ih))

theorem ReadBounded.walkSegs {src : ImgSrc} {put : Nat → RdData → Rd Nat}
    (hsrc : ∀ o n, ReadBounded (src o n)) (hput : ∀ o r, ReadBounded (put o r)) {span : Nat} {prev : Option Seg} {l : List Seg} :
    ReadBounded (Machine.walkSegs span src put prev l) := by
  induction l generalizing prev with
  | nil => exact .pure
  | cons g l ih =>
    refine .bind (.ite (.bind (hsrc _ _) fun _ => hput _ _) (.ite (.walkTiles hsrc hput) ?_)) fun _ => .ite .pure ih
    split
    · exact .walkUnits hsrc hput
    · exact .pure

theorem ReadBounded.walkImage {src : ImgSrc} {put : Nat → RdData → Rd Nat}
    (hsrc : ∀ o n, ReadBounded (src o n)) (hput : ∀ o r, ReadBounded (put o r)) {limit : Nat} :
    ReadBounded (Machine.walkImage limit src put) :=
  .bind (hsrc _ _) fun _ => .ite .pure (.ite .pure (.bind (hsrc _ _) fun _ => .ite .pure (.ite .pure (.walkSegs hsrc hput))))

theorem ReadBounded.readimgRun {e : Nat} {c : TierCmd} {uncorr : List Nat} {retried : Nat} : ReadBounded (Machine.readimgRun e c uncorr retried) := by
  refine .bind .get fun _ => .bind (.bind (.mod fun _ h => h.modTiers) fun _ => .walkImage (fun _ _ => ?_) fun _ _ => .tierWr) fun _ => ?_
  · exact fun _ _ h => (Bounded.readUnits h).modTiers
  · exact fun _ _ h => (Bounded.flashRetries h).flashUncorr.modTiers

theorem ReadBounded.copyimgRun {e : Nat} {c : TierCmd} : ReadBounded (Machine.copyimgRun e c) :=
  .bind (.walkImage (fun _ _ => .tierRange) fun _ _ => .ite .pure .tierWr) fun _ => .pure

theorem ReadBounded.tierRun {e : Nat} {o : TierOp} : ReadBounded (Machine.tierRun e o) :=
  .ite .writeRun (.ite .readRun (.ite .readimgRun .copyimgRun))

theorem Bounded.moveTier {e : Nat} {o : TierOp} (h : Bounded t) : Bounded (t.moveTier e o) := .ite h.modTiers.writebackGo (h.runTier .tierRun)

theorem Bounded.tierBegin {nbt : Bool} {a : Nat} {c : TierCmd} {o : TierOp} {st : Nat} (h : Bounded t) : Bounded (t.tierBegin nbt a c o st) :=
  .ite h.endTier.nextEntry h.nextEntry.moveTier

theorem BoundedNext.execWrite {fails : List Nat} (h : Bounded t) : BoundedNext (execWrite fails t) :=
  .next (h.ringTake (fun _ _ _ _ h1 => h1.tierBegin))

theorem BoundedNext.execRead {uncorr : List Nat} {retried : Nat} (h : Bounded t) : BoundedNext (execRead uncorr retried t) :=
  .next (h.ringTake (fun _ _ _ _ h1 => h1.tierBegin))

theorem BoundedNext.execReadimg {uncorr : List Nat} {retried : Nat} (h : Bounded t) : BoundedNext (execReadimg uncorr retried t) :=
  .next (h.ringTake (fun _ _ _ _ h1 => h1.tierBegin))

theorem BoundedNext.execWriteback (h : Bounded t) : BoundedNext (execWriteback t) := .next (h.ringTake (fun _ _ _ _ h1 => h1.tierBegin))

theorem BoundedNext.execCopyimg (h : Bounded t) : BoundedNext (execCopyimg t) := .next (h.ringTake (fun _ _ _ _ h1 => h1.tierBegin))

theorem Bounded.tierGoOn {e : Nat} (h : Bounded t) : Bounded (t.tierGoOn e) := by
  unfold State.tierGoOn
  split
  · exact h
  · exact .ite h h.moveTier

theorem BoundedNext.execTierCommandDone {nbt : Bool} (h : Bounded t) : BoundedNext (Machine.execTierCommandDone nbt t) := by
  refine .next ?_
  dsimp only
  split
  · exact h.tierGoOn
  · split
    · exact h.tierGoOn
    · exact .ite h.tierGoOn (.ite h.tierGoOn.modTiers.answerTier h.tierGoOn.modTiers.answerTier.recordTier)

theorem BoundedNext.execTierRingSizeWrite {nbt : Bool} {value : Nat} (h : Bounded t) : BoundedNext (Machine.execTierRingSizeWrite nbt value t) := by
  cases nbt with
  | true => exact .next (.ite h.set h.set.set.report)
  | false => exact .next (.ite h.set h.set.set.report)

theorem Bounded.leaseIn {type : Nat} {k : Nat → List Byte → State → State} (h : Bounded t) (hk : ∀ x0 x1 x2, Bounded x2 → Bounded (k x0 x1 x2)) :
    Bounded (t.leaseIn type k) := by
  unfold State.leaseIn
  split
  · exact h
  · exact .ite h.takeIn (hk _ _ _ h.takeIn)

theorem Bounded.lendDone {i status : Nat} (h : Bounded t) : Bounded (t.lendDone i status) := by
  unfold State.lendDone
  split
  · exact h
  · exact h.modTiers.endTier

theorem BoundedNext.execLeaseOffer (h : Bounded t) : BoundedNext (execLeaseOffer t) := by
  refine .next ?_
  refine .leaseIn h (fun _ _ _ h1 => ?_)
  split
  · exact h1.leaseMsg
  · exact h1.frame

theorem BoundedNext.execLeaseAccept (h : Bounded t) : BoundedNext (execLeaseAccept t) := by
  refine .next ?_
  refine .leaseIn h (fun _ _ _ h1 => ?_)
  split
  · exact h1
  · split
    · exact h1
    · refine .lendDone ?_
      refine .set ?_
      refine .set ?_
      split
      · exact h1.frame
      · exact h1

theorem BoundedNext.execLeaseDecline (h : Bounded t) : BoundedNext (execLeaseDecline t) := by
  refine .next ?_
  refine .leaseIn h (fun _ _ _ h1 => ?_)
  split
  · exact h1
  · exact .ite h1 h1.lendDone.freeLend

theorem BoundedNext.execLeaseReclaim (h : Bounded t) : BoundedNext (execLeaseReclaim t) := by
  refine .next ?_
  refine .leaseIn h (fun _ _ _ h1 => ?_)
  split
  · exact h1
  · exact .ite h1 h1.frame

theorem BoundedNext.execLeaseRelease (h : Bounded t) : BoundedNext (execLeaseRelease t) := by
  refine .next ?_
  refine .leaseIn h (fun _ _ _ h1 => ?_)
  split
  · exact h1
  · exact h1.freeLend

theorem BoundedNext.execLeaseRevoke (h : Bounded t) : BoundedNext (execLeaseRevoke t) := by
  refine .next ?_
  refine .leaseIn h (fun _ _ _ h1 => ?_)
  split
  · exact h1
  · exact .ite h1.freeBorrow h1.loseLease

theorem BoundedNext.execLeaseKeepalive (h : Bounded t) : BoundedNext (execLeaseKeepalive t) := by
  unfold Machine.execLeaseKeepalive
  dsimp only
  refine .next ?_
  refine .leaseIn h (fun _ _ _ h1 => ?_)
  split
  · refine .modTiers ?_
    split
    · exact h1.modTiers
    · exact h1
  · split
    · exact h1.modTiers
    · exact h1

theorem BoundedNext.execKeepaliveSend (h : Bounded t) : BoundedNext (execKeepaliveSend t) :=
  .next (.foldl (h.foldl (fun _ _ h => .ite h.borrowMsg.modTiers h)) (fun _ _ h => .ite h.lendMsg.modTiers h))

theorem BoundedNext.execReclaimDeadline {i : Fin 256} (h : Bounded t) : BoundedNext (execReclaimDeadline i t) := .next (.ite h h.lendMsg.freeLend)

theorem BoundedNext.execKeepaliveMiss {lender : Bool} {i : Fin 256} (h : Bounded t) : BoundedNext (execKeepaliveMiss lender i t) :=
  .next (.ite h (.ite h.lendMsg.freeLend h.loseLease))

end Sys2Proof.Machine
end

section
/-! PROOF. The functions of Machine/Serving.lean keep the bounds. -/
namespace Sys2Proof.Machine
set_option Elab.async false
variable {t u : State}

theorem Bounded.markSlow (h : Bounded t) : Bounded (t.markSlow) := h.modSvc

theorem Bounded.reprice (h : Bounded t) : Bounded (t.reprice) := .foldl (h.set.foldl (fun _ _ h => h.set)) (fun _ _ h => h.set.set)

theorem BoundedNext.execSvcAllowWrite {addr : Nat} {data : List Byte} (h : Bounded t) : BoundedNext (execSvcAllowWrite addr data t) :=
  .next (.ite h.regPut.reprice h)

theorem Bounded.floorWrite {v : Nat} (h : Bounded t) : Bounded (t.floorWrite v) := .ite h.set.reprice.markSlow h

theorem BoundedNext.execSvcFloorMhzWrite {value : Nat} (h : Bounded t) : BoundedNext (execSvcFloorMhzWrite value t) := .next h.floorWrite

theorem Bounded.rqBad (h : Bounded t) : Bounded (t.rqBad) := h.set.report

theorem BoundedNext.execSvcRqSizeWrite {value : Nat} (h : Bounded t) : BoundedNext (execSvcRqSizeWrite value t) := .next (.ite h.set h.set.rqBad)

theorem BoundedNext.execSvcCntClr (h : Bounded t) : BoundedNext (Machine.execSvcCntClr t) := .next h.clearAll

theorem Bounded.raiseBudget (h : Bounded t) : Bounded (t.raiseBudget) := h.set.set.ledgerShow

theorem BoundedNext.execLdgBudgetMinWrite {value : Nat} (h : Bounded t) : BoundedNext (execLdgBudgetMinWrite value t) := .next h.set.raiseBudget.set

theorem Bounded.putEvent {tenant : Nat} {mk : Nat → List Byte} (h : Bounded t) : Bounded (t.putEvent tenant mk) := h.tierPut.set

theorem Bounded.streamRec {x type code bits16 count a b : Nat} (h : Bounded t) : Bounded (t.streamRec x type code bits16 count a b) := by
  unfold State.streamRec
  exact h.putEvent

theorem Bounded.endStream {x status flags : Nat} (h : Bounded t) : Bounded (t.endStream x status flags) := by
  refine .modSvc (.clearAll (.sub (.sub (.sub (.sub (.sub (.add (.sub ?_))))))))
  exact .ite h.streamRec.add (.ite h.streamRec.add h.streamRec)

theorem Bounded.noteCause {b mask : Nat} (h : Bounded t) : Bounded (t.noteCause b mask) := .ite h h.modSvc

theorem Bounded.overrun {x index mask lateness step : Nat} (h : Bounded t) : Bounded (t.overrun x index mask lateness step) :=
  .add (.add (.add (.set (.streamRec (.ite h.set.report h)))))

theorem Bounded.rqEntry {a : Nat} {r : RdData} (h : Bounded t) (hu : t.rqEntry = some (a, r, u)) : Bounded u := by
  unfold State.rqEntry at hu
  dsimp only at hu
  split at hu
  · contradiction
  · have hread : Bounded (t.devFetch (t.get SVC_RQ_BASE_ADDR + 128 * t.get SVC_RQ_HEAD_HEAD) 128).2 := h.devFetch
    simp only [Option.some.injEq, Prod.mk.injEq] at hu
    exact hu.2.2 ▸ hread

theorem Bounded.rqAnswer {a op status : Nat} {out : List Byte} (h : Bounded t) : Bounded (t.rqAnswer a op status out) := by
  refine .set ?_
  split
  · exact h.devWrite.devWrite
  · exact .ite h.devWrite.devWrite.set.set.add h.devWrite.devWrite.set.set

theorem Bounded.rqTake {op : Nat} {opens : Bool} {k : Nat → List Byte → State → State} (h : Bounded t) (hk : ∀ a l u, Bounded u → Bounded (k a l u)) :
    Bounded (t.rqTake op opens k) := by
  unfold State.rqTake
  split
  · exact h
  next he =>
    have hu := h.rqEntry he
    exact .ite h (.ite h (.ite hu.rqAnswer (hk _ _ _ hu)))

theorem Bounded.cancelNow {x : Nat} (h : Bounded t) : Bounded (t.cancelNow x) := .ite h h.endStream

theorem BoundedNext.execCancel (h : Bounded t) : BoundedNext (execCancel t) :=
  .next (h.orWait (fun _ h1 => h1.rqTake (fun _ _ _ h2 => .ite h2.rqAnswer (.ite h2.rqAnswer h2.set.cancelNow.rqAnswer))))

theorem BoundedNext.execEvict (h : Bounded t) : BoundedNext (execEvict t) :=
  .next (h.orWait (fun _ h1 => h1.rqTake (fun _ _ _ h2 => .ite h2.rqAnswer (.ite h2.rqAnswer h2.set.set.rqAnswer))))

theorem Bounded.boltTo {a b state : Nat} (h : Bounded t) : Bounded (t.boltTo a b state) := by
  unfold State.boltTo
  split
  · exact h.rqAnswer
  · exact .ite h.rqAnswer (.ite h.rqAnswer (.ite h.rqAnswer h.set.reprice.rqAnswer))

theorem BoundedNext.execBoltOpen (h : Bounded t) : BoundedNext (execBoltOpen t) :=
  .next (h.orWait (fun _ h1 => h1.rqTake (fun _ _ _ h2 => h2.boltTo)))

theorem BoundedNext.execBoltClose (h : Bounded t) : BoundedNext (execBoltClose t) :=
  .next (h.orWait (fun _ h1 => h1.rqTake (fun _ _ _ h2 => h2.boltTo)))

theorem Bounded.startLoad {tier : Nat} (h : Bounded t) : Bounded (t.startLoad tier) := by
  unfold State.startLoad
  split
  · exact h
  · exact .ite h (.ite h.modTiers (h.runTier .tierRun))

theorem Bounded.dropLoad {x : SlotLoad} (h : Bounded t) : Bounded (t.dropLoad x) := h.modSvc.modTiers.startLoad

theorem BoundedNext.execVariantLoadDone {i : SlotNo} (h : Bounded t) : BoundedNext (execVariantLoadDone i t) := by
  unfold Machine.execVariantLoadDone
  dsimp only
  refine .next ?_
  split
  · exact .add (.set (.dropLoad (.ite h.tierGoOn.noteCause h.tierGoOn)))
  · exact h.tierGoOn

theorem BoundedNext.execVariantLoadFail {i : SlotNo} (h : Bounded t) : BoundedNext (execVariantLoadFail i t) := by
  unfold Machine.execVariantLoadFail
  dsimp only
  refine .next ?_
  split
  · exact .report (.dropLoad (.set (.set (h.tierGoOn.foldl (fun _ _ h => h.endStream)))))
  · exact h.tierGoOn

theorem Bounded.putStream {x : Nat} {l : List Byte} {m : Promise} (h : Bounded t) : Bounded (t.putStream x l m) :=
  .add (.add (.add (.sub (.add (.add (.add (.add (.modSvc (.foldl h.takeFree fun _ _ h => h.set)))))))))

theorem Bounded.admitStream {a : Nat} {l : List Byte} {v : Option Variant} (h : Bounded t) : Bounded (t.admitStream a l v) := by
  unfold State.admitStream
  split
  · exact h.rqAnswer
  · refine .rqAnswer ?_
    split
    · exact h.putStream
    · exact h.putStream.set.set.modSvc.startLoad

theorem BoundedNext.execAdmit (h : Bounded t) : BoundedNext (Machine.execAdmit t) := by
  refine .next (h.orWait fun t h => h.rqTake fun a l u hu => .ite hu.rqAnswer (.ite hu.admitStream (.ite h ?_)))
  have hout := ReadBounded.tierRange (tenant := 0) (raw := false) (a := leAt l 56 8) (len := 64) t.admitOp.got u hu
  split
  next hd =>
    rw [hd] at hout
    exact Bounded.admitStream (Bounded.modTiers hout)
  next => exact h.modTiers.request

end Sys2Proof.Machine
end

section
/-! PROOF. The functions of Machine/Steps.lean keep the bounds. -/
namespace Sys2Proof.Machine
set_option Elab.async false
variable {t u : State}

theorem Bounded.freezePlan {no : Nat} {p : StepPlan} (h : Bounded t) : Bounded (t.freezePlan no p) :=
  .foldl (.set (.set (.set (.modSvc (.foldl h.sub fun _ _ h => .ite h.set h))))) fun _ _ h => h.wakeDomain.modSeq.modSvc

theorem BoundedNext.execStepFreeze {b : BoltNo} (h : Bounded t) : BoundedNext (execStepFreeze b t) :=
  .next (.ite h (.ite h (.markSlow (h.foldl (fun _ _ h => h.freezePlan)))))

theorem Bounded.boltDown {b : Nat} (h : Bounded t) : Bounded (t.boltDown b) := .reprice (h.set.foldl (fun _ _ h => h.endStream))

theorem Bounded.dropColl {looms : List Nat} {step : Nat} (h : Bounded t) : Bounded (t.dropColl looms step) := h.frame

theorem Bounded.abortGroup {b cause : Nat} (h : Bounded t) : Bounded (t.abortGroup b cause) := by
  refine .foldl (.foldl (.dropColl (.foldl (.add (.modSvc (.foldl (.foldl h.set.report ?_) ?_))) ?_)) ?_) ?_
  · exact fun _ _ h => h.noteCause
  · exact fun _ _ h => h.foldl fun _ _ h => h.overrun.endStream
  · exact fun _ _ h => h.set
  · exact fun _ _ h => h.loomReset
  · exact fun _ _ h => .ite h.boltDown h

theorem Bounded.svcWatch (h : Bounded t) : Bounded (t.svcWatch) := h.foldl (fun _ _ h => .ite h.abortGroup h)

theorem Bounded.benchLoom {n cause : Nat} (h : Bounded t) : Bounded (t.benchLoom n cause) := by
  have hunit : Bounded (t.benchLoomUnit n cause) := h.benchLoomUnit
  refine .ite hunit ?_
  split
  · exact hunit
  · exact .ite hunit.abortGroup hunit.boltDown

theorem Bounded.lagRule {n : Nat} (h : Bounded t) : Bounded (t.lagRule n) := .ite h.modSvc.benchLoom h.modSvc

theorem Bounded.charge {tenant k : Nat} (h : Bounded t) : Bounded (t.charge tenant k) := h.set

theorem Bounded.deliverTokens {x b step : Nat} {toks : List Nat} (h : Bounded t) : Bounded (t.deliverTokens x b step toks) :=
  .modSvc (.set (.charge (.add (h.foldl (fun _ _ h => .ite h.tierPut.overrun h.tierPut)))))

theorem Bounded.specUpdate {x a : Nat} (h : Bounded t) : Bounded (t.specUpdate x a) := by
  have hcounts {v w : Nat} := (h.set (f := STR_K x) (v := v)).set (f := STR_REJECTED x) (v := w)
  refine .ite h (.ite h.set.set (.ite ?_ ?_))
  · exact hcounts.set.set.set.set
  · exact hcounts.set

theorem Bounded.afterTokens {x : Nat} {toks : List Nat} (h : Bounded t) : Bounded (t.afterTokens x toks) := .ite h.endStream (.ite h.endStream h)

theorem Bounded.outOf {x : Nat} {outs : List SealOut} (h : Bounded t) : Bounded (t.outOf x outs).2 := by
  unfold State.outOf
  split
  · exact h
  · exact h.takeFree

theorem Bounded.poisonEnd {x b step : Nat} (h : Bounded t) : Bounded (t.poisonEnd x b step) := h.overrun.endStream

theorem Bounded.sealItem {b step : Nat} {outs : List SealOut} {poisoned : List Nat} {e : Nat × Nat} (h : Bounded t) :
    Bounded (t.sealItem b step outs poisoned e) := by
  unfold State.sealItem
  dsimp only
  split
  · exact .ite h.outOf.poisonEnd h.outOf.specUpdate.deliverTokens.afterTokens
  · split
    · exact .ite h.add.charge.endStream h.add.charge
    · split
      · exact h.add.charge.outOf.poisonEnd
      · exact h.add.charge.outOf.set.deliverTokens.afterTokens

theorem Bounded.sealPlan {outs : List SealOut} {poisoned : List Nat} {p : StepPlan} (h : Bounded t) : Bounded (t.sealPlan outs poisoned p) :=
  .foldl (.add (.set (.set (h.noteCause.modSvc.foldl (fun _ _ h => h.sealItem))))) (fun _ _ h => h.modSeq)

theorem Bounded.trimCauses (h : Bounded t) : Bounded (t.trimCauses) := h.frame

theorem Bounded.readFills {looms : List Nat} (h : Bounded t) : Bounded (t.readFills looms) :=
  .modSvc (h.foldl (fun _ _ h => h.foldl (fun _ _ h1 => .ite h1 h1.report)))

theorem BoundedNext.execStepSeal {b : BoltNo} {outs : List SealOut} {poisoned : List Nat} (h : Bounded t) :
    BoundedNext (Machine.execStepSeal b outs poisoned t) :=
  .next (.ite h (Bounded.foldl (h.foldl fun _ _ h => h.sealPlan).readFills.trimCauses fun _ _ h => h.lagRule))

theorem BoundedNext.execStepTimeout {b : BoltNo} (h : Bounded t) : BoundedNext (execStepTimeout b t) := by
  refine .next ?_
  split
  · exact h
  · exact .ite h.abortGroup (.ite h.abortGroup h)

theorem Bounded.refill (h : Bounded t) : Bounded (t.refill) := h.foldl (fun _ _ h => h.set)

theorem BoundedNext.execTokenRefill (h : Bounded t) : BoundedNext (execTokenRefill t) := .next (.ite h.refill.modSvc h)

end Sys2Proof.Machine
end

section
/-! PROOF. The functions of Machine/Card.lean keep the bounds. -/
namespace Sys2Proof.Machine
set_option Elab.async false
variable {t u : State}

theorem Bounded.draftFetch {e : List Byte} (h : Bounded t) : Bounded (t.draftFetch e).2.2 := by
  unfold State.draftFetch
  dsimp only
  split
  · exact h
  · exact h.devFetch

theorem Bounded.withDrafts {ds : List (Nat × List Byte)} (h : Bounded t) : Bounded (t.withDrafts ds) := h.foldl (fun _ _ h => h.memWrite)

theorem Bounded.draftCheck {c : CardSecs} (h : Bounded t) : Bounded (t.draftCheck c).2.2 := by
  unfold State.draftCheck
  refine Bounded.foldlSndSnd (a := (none, [], t)) h fun r n h => ?_
  have hfetch : Bounded (r.2.2.draftFetch (entOf c 4 n)).2.2 := h.draftFetch
  dsimp only
  split_ifs
  exacts [h, h, h, h, hfetch, hfetch]

theorem Bounded.putForm {a : Nat} {l : List Byte} (h : Bounded t) : Bounded (t.putForm a l) := h.foldl fun _ _ h => h.set

theorem Bounded.clearShuttle {n : Nat} (h : Bounded t) : Bounded (t.clearShuttle n) := h.frame

theorem Bounded.putLooms {c : CardSecs} {looms : List Nat} (h : Bounded t) : Bounded (t.putLooms c looms) := by
  refine .foldl (.foldl (.foldl (h.foldl fun _ _ h => h.clearShuttle) ?_) ?_) fun _ _ h => h.zeroQueues
  · exact fun _ _ h => h.putForm
  · exact fun _ _ h => h.foldl fun _ _ h => h.putForm

theorem Bounded.powerLoom {c : CardSecs} {n : Nat} (h : Bounded t) : Bounded (t.powerLoom c n) := .ite (h.set) h

theorem Bounded.putBolt {c : CardSecs} {b : Nat} (h : Bounded t) : Bounded (t.putBolt c b) := h.frame

theorem Bounded.putSlot {c : CardSecs} {ps : List (Nat × RdData)} {i : Nat} (h : Bounded t) : Bounded (t.putSlot c ps i) := h.frame

theorem Bounded.openBolt {c : CardSecs} {b : Nat} (h : Bounded t) : Bounded (t.openBolt c b) := .ite h (.ite h.set h.set)

theorem Bounded.repriceAll (h : Bounded t) : Bounded (t.repriceAll) := h.raiseBudget.reprice.ledgerShow

theorem Bounded.ethBlocks {p old new : Nat} (h : Bounded t) : Bounded (t.ethBlocks p old new) := h.foldl fun _ _ h => .ite h.frame (.ite h.set h)

theorem Bounded.putPers {c : CardSecs} {dimsNew : Bool} {p : Nat} (h : Bounded t) : Bounded (t.putPers c dimsNew p) := by
  unfold State.putPers
  extract_lets v old u x
  have hu : Bounded u := h.set.ethBlocks
  have hx : Bounded x := .ite hu.dropLink hu
  exact .ite hu (.ite hu.dropLink (.ite hx.set hx.set))

theorem Bounded.strapBad (h : Bounded t) : Bounded (t.strapBad) := h.set.set.report

theorem Bounded.putDevice {c : CardSecs} (h : Bounded t) : Bounded (t.putDevice c) := by
  refine .holdover (.set (.set (.set (.foldl ?_ fun _ _ h => h.putPers))))
  have hparent := ((h.putForm (a := 0x6000010) (l := slice (entOf c 1 0) 0 4)).putForm (a := 0x6000018) (l := slice (entOf c 1 0) 4 4)).set
    (f := FAB_SYNC_CTL_PARENT) (v := leAt (entOf c 1 0) 8 1 % 8) |>.set (f := FAB_SYNC_CTL_ALT_PARENT) (v := leAt (entOf c 1 0) 8 1 / 8 % 8)
  exact .ite (.strapBad (.ite hparent.modFab hparent)) (.ite hparent.modFab hparent)

theorem Bounded.putTenants {c : CardSecs} (h : Bounded t) : Bounded (t.putTenants c) :=
  h.foldl (fun _ _ h => h.putForm.set.set.set.set.set.set.set.set)

theorem Bounded.putTables {c : CardSecs} (h : Bounded t) : Bounded (t.putTables c) := by
  refine h.foldl fun _ _ h => h.foldl fun _ _ h => ?_
  split
  · exact h.putForm
  · exact h

theorem Bounded.commitFull {c : CardSecs} {ps : List (Nat × RdData)} (h : Bounded t) : Bounded (t.commitFull c ps) := by
  refine .repriceAll (.foldl (.repriceAll (.set (.foldl (.foldl (.foldl ?_ fun _ _ h => h.putBolt) fun _ _ h => h.putSlot) fun _ _ h => ?_)))
      fun _ _ h => h.openBolt)
  · exact h.withCard.putDevice.putTables.putTenants.modSvc.putLooms
  · exact h.powerLoom

theorem Bounded.commitFunction {c : CardSecs} {mask : Nat} {ps : List (Nat × RdData)} (h : Bounded t) : Bounded (t.commitFunction c mask ps) := by
  refine .repriceAll (.foldl (.repriceAll (.foldl (.foldl (.foldl ?_ fun _ _ h => h.putBolt) fun _ _ h => h.putSlot) fun _ _ h => ?_)) fun _ _
      h => h.openBolt)
  · exact h.withCard.putLooms
  · exact h.powerLoom

theorem Bounded.cardDone {b : CardBad} (h : Bounded t) : Bounded (t.cardDone b) := by
  unfold State.cardDone
  split
  · exact h.frame
  · exact h.frame.report

theorem Bounded.cardStart {l : CardLoad} (h : Bounded t) : Bounded (t.cardStart l) := .ite h (.ite h.set.cardDone h.frame)

theorem Bounded.cardCtl {req : Requester} {kind : Nat} (h : Bounded t) : Bounded (t.cardCtl req kind) := .ite h.set h.set.set

theorem BoundedNext.execCardLoadFull {req : Requester} (h : Bounded t) : BoundedNext (execCardLoadFull req t) := .next h.cardCtl.cardStart

theorem BoundedNext.execCardLoadFunction {req : Requester} (h : Bounded t) : BoundedNext (execCardLoadFunction req t) := .next h.cardCtl.cardStart

theorem Bounded.cardRead {l : CardLoad} {flashBad : Bool} (h : Bounded t) : Bounded (t.cardRead l flashBad).2.2.2 := by
  unfold State.cardRead
  dsimp only
  split
  · exact h
  · split
    · exact h
    · split
      · dsimp only
        exact h.devFetch
      · dsimp only
        exact h.devFetch.devFetch

theorem Bounded.cardChecks {img : List Byte} {len : Nat} {failed : Bool} (h : Bounded t) : Bounded (t.cardChecks img len failed).2.2 := by
  have hverify : Bounded (t.verifyImage .card img (leAt img 20 4)).2 := h.verifyImage
  unfold State.cardChecks
  generalize t.verifyImage .card img (leAt img 20 4) = v at hverify ⊢
  generalize (if failed then 1 else headerStatus img len) = st
  obtain ⟨vst, v⟩ := v
  have hv : Bounded v := hverify
  have hdrafts : Bounded (v.draftCheck (secsOf img)).2.2 := hv.draftCheck
  dsimp only
  generalize v.draftCheck (secsOf img) = d at hdrafts ⊢
  split_ifs
  · exact h
  · exact hv
  · exact hv
  · split
    · exact hv
    · exact hdrafts

theorem Bounded.bindCompat (h : Bounded t) : Bounded (t.bindCompat) := h.foldl (fun _ _ h => h.set)

theorem Bounded.cardFinish {l : CardLoad} {img : List Byte} {ps : List (Nat × RdData)} {ds : List (Nat × List Byte)} (h : Bounded t) :
    Bounded (t.cardFinish l img ps ds) := by
  unfold State.cardFinish
  dsimp only
  split
  · exact h.cardDone
  · exact .cardDone (.foldl (.foldl (.add (.set (.set (.set (.bindCompat (.ite h.withDrafts.commitFull h.withDrafts.commitFunction)))))) (fun _ _ h
        => h.mapShow)) (fun _ _ h => h.set))

theorem ReadBounded.profileReads {c : CardSecs} {l : List Nat} : ReadBounded (Machine.profileReads c l) := by
  induction l with
  | nil => exact .pure
  | cons i l ih => exact .bind .tierRange fun _ => .bind ih fun _ => .pure

theorem Bounded.cardCommit {l : CardLoad} {flashBad : Bool} (h : Bounded t) : Bounded (t.cardCommit l flashBad) := by
  unfold State.cardCommit
  dsimp only
  have hread : Bounded (t.cardRead l flashBad).2.2.2 := h.cardRead
  have hchecks : Bounded ((t.cardRead l flashBad).2.2.2.cardChecks (t.cardRead l flashBad).1 (t.cardRead l flashBad).2.1
      (t.cardRead l flashBad).2.2.1).2.2 := hread.cardChecks
  split
  next hc =>
    rw [hc] at hchecks
    exact Bounded.cardDone hchecks
  next u hc =>
    rw [hc] at hchecks
    have hprofiles := ReadBounded.profileReads (c := secsOf (t.cardRead l flashBad).1)
      (l := (List.range 64).filter (sValid (secsOf (t.cardRead l flashBad).1))) t.cardOp.got _ hchecks
    split
    next hp =>
      rw [hp] at hprofiles
      exact Bounded.cardFinish hprofiles
    next => exact h.modTiers.request

theorem BoundedNext.execCardCommit {flashBad : Bool} (h : Bounded t) : BoundedNext (execCardCommit flashBad t) := by
  refine .next (h.orWait fun _ h1 => ?_)
  split
  · exact h1
  · exact .ite h1 h1.cardCommit

end Sys2Proof.Machine
end

section
/-! PROOF. The functions of Machine/Islands.lean keep the bounds. -/
namespace Sys2Proof.Machine
set_option Elab.async false
variable {t u : State}

/-- No loom holds anything once the main domains have lost their contents. -/
theorem Bounded.dropMain : Bounded t.dropMain := fun _ => ⟨accRows_nil, Nat.zero_le 4, Nat.zero_le 4⟩

theorem Bounded.showClock (h : Bounded t) : Bounded (t.showClock) := h.set

theorem Bounded.mainOff : Bounded t.mainOff := (Bounded.dropMain (t := t.keepRegs aonKey)).frame

theorem Bounded.stage {k : Nat} (h : Bounded t) : Bounded (t.stage k) := h.set.slvEvent

theorem Bounded.showMap (h : Bounded t) : Bounded t.showMap := h.frame

theorem Bounded.checkIdentity (h : Bounded t) : Bounded (t.checkIdentity) := .ite h h.set.fatal

theorem Bounded.coldReset {straps : BitVec 15} {recovery clock : Bool} : Bounded (t.coldReset straps recovery clock) := by
  unfold State.coldReset
  extract_lets m kept u v w x
  have hv : Bounded v := (Bounded.mainOff (t := t)).frame
  have hw : Bounded w := hv.readRec.writeRec
  have hx : Bounded x := hw.set.showMap.reloadLog.set.checkIdentity
  exact .ite hv.modMgmt (.stage (.ite hx.strapBad hx))

theorem BoundedNext.execColdReset {straps : BitVec 15} {recovery clock : Bool} : BoundedNext (Machine.execColdReset straps recovery t clock) :=
  .next Bounded.coldReset

theorem BoundedNext.execPowerOnDetect {straps : BitVec 15} {recovery clock : Bool} :
    BoundedNext (Machine.execPowerOnDetect straps recovery t clock) := .next Bounded.coldReset

end Sys2Proof.Machine
end

section
/-! PROOF. The functions of Machine/Ports.lean keep the bounds. -/
namespace Sys2Proof.Machine
set_option Elab.async false
variable {t u : State}

theorem BoundedNext.execLinkTrained {p : PortNo} (h : Bounded t) : BoundedNext (execLinkTrained p t) := .next (.ite h.set h)

theorem BoundedNext.execTrainFail {p : PortNo} (h : Bounded t) : BoundedNext (execTrainFail p t) := .next (.ite h.set h)

theorem BoundedNext.execLossOfSignal {p : PortNo} (h : Bounded t) : BoundedNext (execLossOfSignal p t) := .next (.ite h.dropLink h)

theorem Bounded.retrain {p : Nat} (h : Bounded t) : Bounded (t.retrain p) := .ite h h.dropLink

theorem BoundedNext.execRetrain {p : PortNo} (h : Bounded t) : BoundedNext (execRetrain p t) := .next h.retrain

theorem Bounded.setDisable {p : Nat} {value : Bool} (h : Bounded t) : Bounded (t.setDisable p value) :=
  .ite (.ite h.set h.set.dropLink) (.ite h.set.dropLink h.set)

theorem BoundedNext.execPortDisableWrite {p : PortNo} {value : Bool} (h : Bounded t) : BoundedNext (execPortDisableWrite p value t) :=
  .next h.setDisable

theorem BoundedNext.execCapSend {p : PortNo} (h : Bounded t) : BoundedNext (execCapSend p t) := .next (.ite h.linkMsg h)

theorem Bounded.beginAuth {p : Nat} (h : Bounded t) : Bounded (t.beginAuth p) := by
  unfold State.beginAuth
  exact .ite h.frame.linkMsg h.frame.quarantine

theorem BoundedNext.execCap {p : PortNo} (h : Bounded t) : BoundedNext (execCap p t) := by
  unfold Machine.execCap
  dsimp only
  refine .next ?_
  split
  · exact h
  · split
    · exact h.takeIn
    · exact .ite h.frame.quarantine h.frame.beginAuth

theorem BoundedNext.execNegotiateTimeout {p : PortNo} (h : Bounded t) : BoundedNext (execNegotiateTimeout p t) := .next (.ite h.dropLink h)

theorem Bounded.sendProof {p : Nat} {peer : List Byte} (h : Bounded t) : Bounded (t.sendProof p peer) := .ite h (h.add.foldl (fun _ _ h => h.linkMsg))

theorem BoundedNext.execAuthChal {p : PortNo} (h : Bounded t) : BoundedNext (execAuthChal p t) := by
  refine .next ?_
  split
  · exact h
  · exact .ite h.takeIn h.takeIn.modPort.sign

theorem Bounded.tryUp {p : Nat} (h : Bounded t) : Bounded (t.tryUp p) := .ite h.set.holdover h

theorem BoundedNext.execAuthProof {p : PortNo} (h : Bounded t) : BoundedNext (execAuthProof p t) := by
  unfold Machine.execAuthProof
  dsimp only
  refine .next ?_
  split
  · exact h
  · split
    · exact h.takeIn
    · split
      · exact h.takeIn.modPort
      · split
        · exact h.takeIn.modPort.verify.modPort.linkMsg.tryUp
        · exact h.takeIn.modPort.verify.quarantine.linkMsg

theorem BoundedNext.execAuthResult {p : PortNo} (h : Bounded t) : BoundedNext (execAuthResult p t) := by
  refine .next ?_
  split
  · exact h
  · exact .ite h.takeIn (.ite h.takeIn.modPort.tryUp h.takeIn.quarantine)

theorem BoundedNext.execAuthTimeout {p : PortNo} (h : Bounded t) : BoundedNext (execAuthTimeout p t) := .next (.ite h.quarantine h)

theorem BoundedNext.execSyncSend (h : Bounded t) : BoundedNext (execSyncSend t) := by
  refine .next ?_
  split
  · exact h
  · exact h.syncMsg

theorem BoundedNext.execSync (h : Bounded t) : BoundedNext (execSync t) := by
  refine .next ?_
  split
  · exact h
  · exact .ite h.takeIn h.takeIn.syncMsg

theorem Bounded.correctEpoch {off : Int} (h : Bounded t) : Bounded (t.correctEpoch off) := .ite h.modFab.add h.modFab

theorem Bounded.syncDone {parent : Nat} {t1 t2 t3 t4 : Int} (h : Bounded t) : Bounded (t.syncDone parent t1 t2 t3 t4) := by
  unfold State.syncDone
  extract_lets off delay u v w
  have hv : Bounded v := .ite h.frame h.set.set
  have hw : Bounded w := hv.correctEpoch.modFab
  exact .ite hw.set hw

theorem BoundedNext.execSyncResp (h : Bounded t) : BoundedNext (execSyncResp t) := by
  refine .next ?_
  split
  · exact h
  · exact .ite h.takeIn.syncDone h.takeIn

theorem BoundedNext.execRefclkLoss (h : Bounded t) : BoundedNext (execRefclkLoss t) := .next (.ite h.modPower h.frame.report)

theorem BoundedNext.execRefclkRestore (h : Bounded t) : BoundedNext (execRefclkRestore t) := .next h.modPower.set

end Sys2Proof.Machine
end

section
/-! PROOF. The functions of Machine/Ingot.lean keep the bounds. -/
namespace Sys2Proof.Machine
set_option Elab.async false
variable {t u : State}

theorem Bounded.ingotCheck {img : List Byte} (h : Bounded t) : Bounded (t.ingotCheck img).2 := by
  unfold State.ingotCheck
  split
  · exact h
  · exact h.verifyImage

theorem Bounded.enterRecovery {reason status : Nat} : Bounded (t.enterRecovery reason status) :=
  Bounded.mainOff.modPower.slvEvent.modMgmt

theorem Bounded.slvReset {cause : Nat} (h : Bounded t) : Bounded (t.slvReset cause) := h.slvEvent.frame

theorem BoundedNext.execLockstepMismatch (h : Bounded t) : BoundedNext (execLockstepMismatch t) := .next (.ite h h.set.report.slvReset)

theorem BoundedNext.execWatchdogExpire (h : Bounded t) : BoundedNext (Machine.execWatchdogExpire t) :=
  .next (.ite h (.ite .enterRecovery h.slvReset.modMgmt))

theorem Bounded.startIngot {img : List Byte} (h : Bounded t) : Bounded (t.startIngot img) := h.frame

theorem BoundedNext.execBootVerify (h : Bounded t) : BoundedNext (Machine.execBootVerify t) := by
  refine .next (.ite h ?_)
  extract_lets resume u img
  have hu : Bounded u := .ite h.stage h.set
  have hcheck : Bounded (u.ingotCheck img).2 := hu.ingotCheck
  generalize u.ingotCheck img = p at hcheck ⊢
  obtain ⟨st, v⟩ := p
  have hstart : Bounded (v.startIngot img) := Bounded.startIngot hcheck
  exact .ite .enterRecovery (.ite .enterRecovery (.ite hstart.stage.modMgmt (.ite hstart.set.modMgmt
    (.modMgmt (.ite .mainOff hstart)))))

end Sys2Proof.Machine
end

section
/-! PROOF. The functions of Machine/Selvedge.lean keep the bounds. -/
namespace Sys2Proof.Machine
set_option Elab.async false
variable {t u : State}

theorem Bounded.emit {x : MgmtMsg} (h : Bounded t) : Bounded (t.emit x) := h.modMgmt

theorem Bounded.answerPort {h' : MgmtHdr} {op status : Nat} {body : List Byte} (h : Bounded t) : Bounded (t.answerPort h' op status body) := h.frame

theorem Bounded.slvFinish {c : SlvCmd} {st : Nat} (h : Bounded t) : Bounded (t.slvFinish c st) := by
  unfold State.slvFinish
  split
  · exact h.frame
  · exact h.frame

theorem Bounded.slvBegin {c : SlvCmd} (h : Bounded t) : Bounded (t.slvBegin c) := h.set.modMgmt

theorem Bounded.cmdLost (h : Bounded t) : Bounded (t.cmdLost) := h.set.report

theorem Bounded.slvIssue {src : CmdSrc} {op : Nat} {run : SlvCmd → State → State} (h : Bounded t) (hk : ∀ x0 x1, Bounded x1 → Bounded (run x0 x1)) :
    Bounded (t.slvIssue src op run) := by
  unfold State.slvIssue
  split
  · exact .ite h (.ite h.cmdLost (hk _ _ h.slvBegin))
  · split
    · exact h
    · split
      · exact h.answerPort
      · split
        · exact h.answerPort
        · split
          · exact h.answerPort
          · exact .ite h.answerPort (.ite h.slvBegin.slvFinish (hk _ _ h.slvBegin))

theorem Bounded.slvLong {src : CmdSrc} {op : Nat} (h : Bounded t) : Bounded (t.slvLong src op) := h.slvIssue (fun _ _ h1 => h1)

theorem Bounded.slvRead {a n : Nat} (h : Bounded t) : Bounded (t.slvRead a n).2.2 := by
  unfold State.slvRead
  dsimp only
  split
  · dsimp only
    exact h.devFetch.readPoison
  · dsimp only
    exact h.devFetch

theorem Bounded.slvImage {a limit : Nat} (h : Bounded t) : Bounded (t.slvImage a limit).2 := by
  have hread : Bounded (t.slvRead a 64).2.2 := h.slvRead
  unfold State.slvImage
  generalize t.slvRead a 64 = r at hread ⊢
  split
  · exact h
  · dsimp only
    split
    · exact hread
    · exact hread.slvRead

theorem Bounded.commitRecord {op st : Nat} {m : List Byte} (h : Bounded t) : Bounded (t.commitRecord op st m) := h.slvEvent

theorem Bounded.stagePut {a : Nat} {l : List Byte} (h : Bounded t) : Bounded (t.stagePut a l) := h.modMgmt

theorem Bounded.stageDone {c : SlvCmd} (h : Bounded t) : Bounded (t.stageDone c) := by
  unfold State.stageDone
  extract_lets a u
  have hu : Bounded u := h.modMgmt
  have himage : Bounded (u.slvImage a 0x800000).2 := hu.slvImage
  refine .slvFinish (.commitRecord (.ite (.modMgmt (.iteSnd ?_ (.ingotCheck ?_))) (.iteSnd ?_ (.ingotCheck ?_))))
  all_goals
    refine .iteSnd hu (.iteSnd hu ?_)
    split
    next hi =>
      rw [hi] at himage
      exact himage
    next hi =>
      rw [hi] at himage
      exact Bounded.stagePut himage

theorem BoundedNext.execStage {src : CmdSrc} (h : Bounded t) : BoundedNext (execStage src t) := .next h.slvLong

theorem Bounded.commitBegin {len : Nat} {m : List Byte} (h : Bounded t) : Bounded (t.commitBegin len m) := h.writeRec.flashErase

theorem Bounded.commitEnd {flashBad : Bool} (h : Bounded t) : Bounded (t.commitEnd flashBad).2 := by
  unfold State.commitEnd
  dsimp only
  split
  · exact h
  · dsimp only
    exact h.flashWrite.writeRec

theorem BoundedNext.execCommit {src : CmdSrc} (h : Bounded t) : BoundedNext (execCommit src t) := by
  refine .next (h.slvIssue fun _ _ h1 => ?_)
  split
  · exact h1.commitRecord.slvFinish
  · exact h1.commitBegin

theorem Bounded.commitDone {c : SlvCmd} {flashBad : Bool} (h : Bounded t) : Bounded (t.commitDone c flashBad) := h.commitEnd.commitRecord.slvFinish

theorem Bounded.burnRail (h : Bounded t) : Bounded (t.burnRail) := h.modPower

theorem BoundedNext.execFuseAdvance {src : CmdSrc} (h : Bounded t) : BoundedNext (execFuseAdvance src t) :=
  .next (h.slvIssue (fun _ _ h1 => .ite (.ite h1.slvFinish h1.burnRail) h1))

theorem Bounded.fuseDone {c : SlvCmd} (h : Bounded t) : Bounded (t.fuseDone c) :=
  .ite h.slvFinish (.ite h.slvFinish (.ite h.slvFinish (h.set).slvEvent.slvFinish))

theorem BoundedNext.execCardPersist {src : CmdSrc} (h : Bounded t) : BoundedNext (execCardPersist src t) := by
  refine .next (h.orWait fun _ h1 => ?_)
  refine .slvIssue h1 (fun _ _ h2 => ?_)
  split
  · exact h2.commitRecord.slvFinish
  · exact .ite h2.slvImage.commitRecord.slvFinish h2.slvImage.modMgmt

theorem Bounded.persistDone {c : SlvCmd} {flashBad : Bool} (h : Bounded t) : Bounded (t.persistDone c flashBad) := by
  unfold State.persistDone
  split
  · exact h.modMgmt.flashErase.commitRecord.slvFinish
  · exact h.frame.writeRec.commitRecord.slvFinish

theorem Bounded.produce {nonce : List Byte} (h : Bounded t) : Bounded (t.produce nonce).2 := h.add.slvEvent

theorem BoundedNext.execAssay {src : CmdSrc} (h : Bounded t) : BoundedNext (execAssay src t) :=
  .next (h.slvIssue (fun _ _ h1 => .ite h1.sign h1.slvFinish))

theorem Bounded.assayDone {c : SlvCmd} (h : Bounded t) : Bounded (t.assayDone c) :=
  .ite h (.ite h.signDone.slvFinish h.signDone.produce.devWrite.slvFinish)

theorem BoundedNext.execProvision {src : CmdSrc} (h : Bounded t) : BoundedNext (execProvision src t) := by
  refine .next (h.orWait fun _ h1 => ?_)
  refine .slvIssue h1 (fun _ _ h2 => ?_)
  split
  · exact h2.slvFinish
  · exact .ite h2.slvFinish (.ite h2.slvRead.slvFinish h2.slvRead.burnRail.modMgmt)

theorem Bounded.provisionDone {c : SlvCmd} (h : Bounded t) : Bounded (t.provisionDone c) := .ite h.modMgmt.slvFinish h.frame.slvFinish

theorem Bounded.benchStack {k cause : Nat} (h : Bounded t) : Bounded (t.benchStack k cause) := by
  unfold State.benchStack
  exact h.set.flushStack.set.benchRecord.writeRec

theorem Bounded.benchPort {p cause : Nat} (h : Bounded t) : Bounded (t.benchPort p cause) := by
  unfold State.benchPort
  exact .writeRec (.benchRecord (.ethDomain (.clearAll (.setDisable (.modMgmt h.set)))))

theorem Bounded.benchChan {c cause : Nat} (h : Bounded t) : Bounded (t.benchChan c cause) := by
  unfold State.benchChan
  exact h.set.modMgmt.benchRecord.writeRec

theorem Bounded.benchUnit {u cause : Nat} (h : Bounded t) : Bounded (t.benchUnit u cause) := by
  unfold State.benchUnit
  split
  · exact h.benchLoom
  · exact h.benchStack
  · exact h.benchPort
  · exact h.benchChan
  · exact h

theorem BoundedNext.execBench {why : BenchWhy} (h : Bounded t) : BoundedNext (Machine.execBench why t) := by
  refine .next ?_
  split
  · exact h.slvIssue fun _ _ hu => .ite hu.slvFinish hu.benchUnit.slvFinish
  · exact .ite h.benchLoom h

theorem Bounded.unbenchUnit {u' : Nat} (h : Bounded t) : Bounded (t.unbenchUnit u') := h.writeRec.showMap.slvEvent

theorem BoundedNext.execUnbench {src : CmdSrc} (h : Bounded t) : BoundedNext (execUnbench src t) :=
  .next (h.slvIssue (fun _ _ h1 => .ite h1.slvFinish h1.unbenchUnit.slvFinish))

theorem BoundedNext.execSelfReset {src : CmdSrc} (h : Bounded t) : BoundedNext (execSelfReset src t) :=
  .next (h.slvIssue (fun _ _ h1 => h1.slvFinish.slvReset))

theorem BoundedNext.execTest {src : CmdSrc} (h : Bounded t) : BoundedNext (Machine.execTest src t) :=
  .next (h.slvIssue fun _ _ h => .ite h.slvFinish (.ite h.slvFinish (h.foldl fun _ _ h => h.set).modMgmt))

theorem Bounded.reloadDraft {n : Nat} (h : Bounded t) : Bounded (t.reloadDraft n) := by
  refine .ite h.frame ?_
  dsimp only
  split
  · exact h.frame.draftFetch
  · exact h.frame.draftFetch.withDrafts

theorem Bounded.zeroSpad {n : Nat} (h : Bounded t) : Bounded (t.zeroSpad n) := h.frame

theorem Bounded.bistLoom {n : Nat} (h : Bounded t) : Bounded (t.bistLoom n) := by
  unfold State.bistLoom
  extract_lets u v
  have hhalt : Bounded (t.haltLoom n) := h.haltLoom
  have hu : Bounded u := hhalt.clearAll.zeroSpad
  have hv : Bounded v := hu.modArr fun _ _ => by
    dsimp only
    exact u.bistAcc_accRows
  exact hv.withFreeCount.clearAll.reloadDraft

theorem Bounded.testEnd {x : TestRun} {st : Nat} {fail : Nat × Nat} (h : Bounded t) : Bounded (t.testEnd x st fail) := by
  unfold State.testEnd
  extract_lets u v w y
  have hw : Bounded w := h.frame.slvEvent.foldl fun _ _ h => .ite h.set h
  have hy : Bounded y := hw.frame
  split
  · exact hy.slvFinish
  · exact hy

theorem BoundedNext.execTestStart {fail : Option (Nat × Nat)} (h : Bounded t) : BoundedNext (Machine.execTestStart fail t) := by
  refine .next (h.orWait fun t h => ?_)
  split
  · exact h
  · refine .ite h ?_
    extract_lets u
    have hu : Bounded u := .ite (h.foldl fun _ _ h => h.bistLoom) h
    split
    · exact hu.testEnd
    · exact .ite (.ite hu.testEnd.benchLoom hu.testEnd) hu.testEnd.benchUnit

theorem BoundedNext.execTestDrainTimeout (h : Bounded t) : BoundedNext (execTestDrainTimeout t) := by
  refine .next ?_
  split
  · exact h
  · exact .ite h h.testEnd

theorem BoundedNext.execSlvCommandDone {flashBad : Bool} (h : Bounded t) : BoundedNext (execSlvCommandDone flashBad t) := by
  refine .next (h.orWait fun _ h1 => ?_)
  split
  · exact h1
  · split
    · exact h1.stageDone
    · exact h1.commitDone
    · exact h1.fuseDone
    · exact h1.persistDone
    · exact h1.assayDone
    · exact h1.provisionDone
    · exact h1

theorem Bounded.slvReserved {src : CmdSrc} {op : Nat} (h : Bounded t) : Bounded (t.slvReserved src op) := h.slvIssue (fun _ _ h1 => h1.slvFinish)

theorem Bounded.serve {h' : MgmtHdr} {op : Nat} {rec_ stby : Bool} {k : State → State} (h : Bounded t) (hk : ∀ x0, Bounded x0 → Bounded (k x0)) :
    Bounded (t.serve h' op rec_ stby k) := .ite h (.ite h.answerPort (.ite h.answerPort (hk _ h)))

theorem BoundedNext.execHello (h : Bounded t) : BoundedNext (execHello t) := by
  refine .next ?_
  split
  · exact h
  · exact h.emit

theorem BoundedNext.execLogRead {h' : MgmtHdr} {first count : Nat} (h : Bounded t) : BoundedNext (execLogRead h' first count t) :=
  .next (h.serve (fun _ h1 => .ite h1.answerPort h1.answerPort))

theorem BoundedNext.execSensors {h' : MgmtHdr} (h : Bounded t) : BoundedNext (execSensors h' t) := .next (h.serve (fun _ h1 => h1.answerPort))

theorem Bounded.sendReport {l : List Byte} {q : MgmtHdr × Nat} (h : Bounded t) : Bounded (t.sendReport l q) := h.frame

theorem Bounded.askReport {h' : MgmtHdr} {nonce : List Byte} {off : Nat} (h : Bounded t) : Bounded (t.askReport h' nonce off) := by
  unfold State.askReport
  split
  · exact .ite h.modMgmt h.answerPort
  · exact .ite h.answerPort h.modMgmt.sign

theorem BoundedNext.execAssayGet {h' : MgmtHdr} {nonce : List Byte} {off : Nat} (h : Bounded t) : BoundedNext (execAssayGet h' nonce off t) := by
  refine .next ?_
  refine .serve h (fun _ h1 => ?_)
  split
  · exact h1.answerPort
  · split
    · exact h1.answerPort
    · split
      · exact h1.sendReport
      · exact h1.askReport

theorem Bounded.reportMade {nonce : List Byte} (h : Bounded t) : Bounded (t.reportMade nonce) := h.produce.modMgmt.foldl (fun _ _ h => h.sendReport)

theorem Bounded.signTick (h : Bounded t) : Bounded (t.signTick) := by
  unfold State.signTick
  split
  · exact h
  · split
    · exact h
    · split
      · exact h.sendProof.signDone
      · exact h.reportMade.signDone
      · exact h

theorem BoundedNext.execAuth {h' : MgmtHdr} {proof : List Byte} (h : Bounded t) : BoundedNext (execAuth h' proof t) := by
  unfold Machine.execAuth
  dsimp only
  refine .next ?_
  refine .serve h (fun _ h1 => ?_)
  split
  · exact h1.frame
  · split
    · exact h1.answerPort
    · split
      · exact h1.verify.modMgmt.slvEvent.answerPort
      · exact h1.verify.modMgmt.takeFree.modMgmt.set.slvEvent.answerPort

theorem BoundedNext.execData {h' : MgmtHdr} {off : Nat} {_gap : BitVec 32} {data : List Byte} (h : Bounded t) :
    BoundedNext (execData h' off _gap data t) := .next (h.serve (fun _ h1 => .ite h1.answerPort (.ite h1.answerPort h1.stagePut.answerPort)))

theorem BoundedNext.execEndRecovery {h' : MgmtHdr} {len : Nat} {flashBad : Bool} (h : Bounded t) :
    BoundedNext (Machine.execEndRecovery h' len flashBad t) := by
  refine .next (h.serve fun t h => .ite h.answerPort ?_)
  have hcheck : Bounded (if 0x800000 < len then (7, t) else t.ingotCheck (t.stageBytes 0 (min 0x800000 len))).2 := .iteSnd h h.ingotCheck
  have hcommit := fun m => (hcheck.commitBegin (len := len) (m := m)).commitEnd (flashBad := flashBad)
  exact .ite hcheck.answerPort (.ite (hcommit _).commitRecord.answerPort (hcommit _).commitRecord.answerPort.modMgmt.slvReset)

theorem BoundedNext.execSessionTimeout (h : Bounded t) : BoundedNext (execSessionTimeout t) := .next h.modMgmt.set

theorem BoundedNext.execMgmtLinkFallback (h : Bounded t) : BoundedNext (execMgmtLinkFallback t) := .next h.modMgmt

end Sys2Proof.Machine
end

section
/-! PROOF. The functions of Machine/Power.lean keep the bounds. -/
namespace Sys2Proof.Machine
set_option Elab.async false
variable {t u : State}

theorem Bounded.putVolt {n row : Nat} (h : Bounded t) : Bounded (t.putVolt n row) := h.withVoltTo

theorem Bounded.freqNow {n v : Nat} (h : Bounded t) : Bounded (t.freqNow n v) := h.frame

theorem Bounded.slewNow {n : Nat} (h : Bounded t) : Bounded (t.slewNow n) := h.frame

theorem Bounded.freqTake {n v : Nat} (h : Bounded t) : Bounded (t.freqTake n v) := .ite ((h.set).set) h.freqNow

theorem Bounded.voltTake {n row : Nat} (h : Bounded t) : Bounded (t.voltTake n row) := .ite h (.ite (h.putVolt.set) h.putVolt.slewNow)

theorem Bounded.dvfs {volt : Bool} {n v : Nat} (h : Bounded t) : Bounded (t.dvfs volt n v) :=
  .ite h.set.set (.wakeDomain (.ite h.set.set.voltTake h.set.set.freqTake))

theorem BoundedNext.execDvfsFreq {loom value : Nat} (h : Bounded t) : BoundedNext (execDvfsFreq loom value t) := .next h.dvfs

theorem BoundedNext.execDvfsVolt {loom value : Nat} (h : Bounded t) : BoundedNext (execDvfsVolt loom value t) := .next h.dvfs

theorem Bounded.dvfsPend {n : Nat} (h : Bounded t) : Bounded (t.dvfsPend n) := .ite h (.ite h.slewNow h.freqNow)

theorem BoundedNext.execDvfsApply {n : LoomNo} (h : Bounded t) : BoundedNext (execDvfsApply n t) := .next (.ite h.dvfsPend h)

theorem Bounded.steer {n : Nat} (h : Bounded t) : Bounded (t.steer n) := by
  refine .ite h ?_
  exact .ite (.dvfs (.ite h.dvfs h)) (.ite (.dvfs (.ite h.dvfs h)) (.ite h.dvfs h))

theorem BoundedNext.execVoltSlewDone {n : LoomNo} (h : Bounded t) : BoundedNext (Machine.execVoltSlewDone n t) := by
  have hput : Bounded (((t.set (PWR_LOOM_OPP_ROW n) (tget 0 t.voltTo n - 1)).set (PWR_LOOM_OPP_SLEWING n) 0).putVolt n 0) :=
    ((h.set).set).putVolt
  exact .next (.ite h (.ite hput.steer hput))

theorem Bounded.temperDie {d : Nat} (h : Bounded t) : Bounded (t.temperDie d) := by
  have hhot : Bounded (if t.hot d then t.set (TMP_DIE_HOT d) 1 else if t.cool d then t.set (TMP_DIE_HOT d) 0 else t) := .ite h.set (.ite h.set h)
  exact .ite hhot hhot.frame

theorem Bounded.floorWatch (h : Bounded t) : Bounded (t.floorWatch) := by
  unfold State.floorWatch
  dsimp only
  split
  · exact h.foldl (fun _ _ h => .set (.ite h.set.report h))
  · exact .add (h.foldl (fun _ _ h => .set (.ite h.set.report h)))

theorem Bounded.coreStep (h : Bounded t) : Bounded (t.coreStep) := .ite h.set (.ite h.set h)

theorem Bounded.setBudget (h : Bounded t) : Bounded (t.setBudget) := h.set.ledgerShow

theorem BoundedNext.execTemperPeriod (h : Bounded t) : BoundedNext (execTemperPeriod t) := by
  refine .next ?_
  split
  · exact h
  · exact .floorWatch (h.temperDie.temperDie.setBudget.coreStep.set.foldl (fun _ _ h => h.steer))

theorem BoundedNext.execLdgCntClr (h : Bounded t) : BoundedNext (execLdgCntClr t) := .next h.clear.clear

theorem Bounded.tripDie {d : Nat} (h : Bounded t) : Bounded (t.tripDie d) :=
  .markSlow (h.frame.report.foldl fun _ _ h => .putVolt h.clearAll)

theorem Bounded.tripWatch {d : Nat} (h : Bounded t) : Bounded (t.tripWatch d) := .ite (.ite h h.tripDie) (.ite h.set.set h)

theorem Bounded.stopMain : Bounded t.stopMain := Bounded.mainOff.modPower.modMgmt

theorem Bounded.shutdown (h : Bounded t) : Bounded (t.shutdown) := .ite h (Bounded.stopMain.modPower)

theorem Bounded.tempSample {i : Nat} {deg : BitVec 16} (h : Bounded t) : Bounded (t.tempSample i deg) := by
  have hset : Bounded (t.set (SLV_TEMP_DEG i) deg.toNat) := h.set
  refine .shutdown ?_
  split
  · exact Bounded.tripWatch (.ite hset hset.set.set)
  · exact .ite hset hset.set.set

theorem Bounded.railSample {r mv : Nat} (h : Bounded t) : Bounded (t.railSample r mv) := h.frame

theorem BoundedNext.execSensorSample {x : Sample} (h : Bounded t) : BoundedNext (Machine.execSensorSample x t) := by
  cases x with
  | temp i deg => exact .next h.tempSample
  | rail r mv => exact .next h.railSample
  | icore k amps => exact .next h.set

theorem Bounded.railFault {r : Nat} (h : Bounded t) : Bounded (t.railFault r) := .ite h .stopMain

theorem BoundedNext.execRailFault {r : Fin 16} (h : Bounded t) : BoundedNext (execRailFault r t) := .next (.ite h.railFault h)

theorem BoundedNext.execPmbAlert {r : Fin 16} {fault : Bool} (h : Bounded t) : BoundedNext (execPmbAlert r fault t) := .next (.ite h.railFault h)

theorem Bounded.voteWake (h : Bounded t) : Bounded t.voteWake := .ite h (h.foldl fun _ _ h => .ite h.wakeDomain h)

theorem BoundedNext.execDomainQuietExpire {d : Fin 164} (h : Bounded t) : BoundedNext (Machine.execDomainQuietExpire d t) :=
  .next (.ite (h.foldl fun _ _ h => h.set) h)

theorem BoundedNext.execDomainSaveDone {d : Fin 164} (h : Bounded t) : BoundedNext (Machine.execDomainSaveDone d t) := by
  have hsave : Bounded ((withDomain d).foldl (fun s x => s.set (PWR_DOM_STATE x) 1)
      (if (withDomain d).length = 12 then (List.range 12).foldl State.flushStack t else t)) :=
    .foldl (.ite (h.foldl fun _ _ h => h.flushStack) h) fun _ _ h => h.set
  exact .next (.ite h (.ite hsave.modPower.wakeDomain hsave))

theorem BoundedNext.execSwvotesWrite {d : Fin 164} {value : Nat} (h : Bounded t) : BoundedNext (Machine.execSwvotesWrite d value t) := by
  have hset : Bounded (t.set (PWR_DOM_SWVOTES d) value) := h.set
  exact .next (.ite hset.wakeDomain hset)

theorem Bounded.enterStandby : Bounded t.enterStandby :=
  Bounded.mainOff.modPower

theorem BoundedNext.execStandby (h : Bounded t) : BoundedNext (execStandby t) := .next (.ite h (.ite .enterStandby h.set.report))

theorem Bounded.wakeUp {src : Nat} (h : Bounded t) : Bounded (t.wakeUp src) := .ite h h.set.modPower.logRec.modMgmt

theorem BoundedNext.execWakePattern {p : PortNo} (h : Bounded t) : BoundedNext (execWakePattern p t) := .next (.ite h.add.wakeUp h.add)

theorem BoundedNext.execEthSignalDetect {e : EthNo} (h : Bounded t) : BoundedNext (execEthSignalDetect e t) := .next (.ite h.wakeUp h)

theorem BoundedNext.execMgmtWake (h : Bounded t) : BoundedNext (execMgmtWake t) := .next h.wakeUp

theorem BoundedNext.execBrownOut (h : Bounded t) : BoundedNext (execBrownOut t) := by
  unfold Machine.execBrownOut
  dsimp only
  refine .next ?_
  split
  · exact h
  · split
    · exact h.addHold.set.report.slvReset.modMgmt.wakeUp
    · exact h.addHold.set.report.slvReset.modMgmt

theorem BoundedNext.execWakeTx {ports : Nat} (h : Bounded t) : BoundedNext (execWakeTx ports t) := .next h.modPower

end Sys2Proof.Machine
end

section
/-! PROOF. The functions of Machine/Boot.lean keep the bounds. -/
namespace Sys2Proof.Machine
set_option Elab.async false
variable {t u : State}

theorem Bounded.bootStage {k : Nat} {f : State → State} (h : Bounded t) (hk : ∀ x0, Bounded x0 → Bounded (f x0)) : Bounded (t.bootStage k f) :=
  .ite h (hk _ h.stage.modMgmt)

theorem Bounded.bootStop {src inst : Nat} (h : Bounded t) : Bounded (t.bootStop src inst) := h.fatal.modMgmt.set

theorem Bounded.applyMap (h : Bounded t) : Bounded (t.applyMap) :=
  .modMgmt (.foldl (h.foldl (fun _ _ h => h.set)) (fun _ _ h => h.set))

theorem BoundedNext.execBootRails {ok : Bool} (h : Bounded t) : BoundedNext (execBootRails ok t) := by
  refine .next ?_
  split
  · exact h
  · exact h.bootStage (fun _ h1 => .ite h1.applyMap.modPower.bootStop h1.applyMap.modPower.set)

theorem BoundedNext.execBootHbm {fails : Nat} (h : Bounded t) : BoundedNext (Machine.execBootHbm fails t) :=
  .next (h.bootStage fun _ h => h.foldl fun _ _ h => .ite h.set (.ite h.set.set.benchStack h.frame))

theorem BoundedNext.execBootPhy {fails : Nat} (h : Bounded t) : BoundedNext (Machine.execBootPhy fails t) :=
  .next (h.bootStage fun _ h => h.foldl fun _ _ h => .ite h.benchPort h)

theorem Bounded.trainChan {c : ChanTrain} (h : Bounded t) : Bounded (t.trainChan c) := h.frame

theorem Bounded.rebuild (h : Bounded t) : Bounded (t.rebuild) := h.set.flashShow.foldl (fun _ _ h => h.flashShow)

theorem BoundedNext.execBootNand {chans : List ChanTrain} (h : Bounded t) : BoundedNext (execBootNand chans t) :=
  .next (h.bootStage (fun _ h1 => .rebuild (h1.foldl (fun _ _ h1 => h1.trainChan))))

theorem Bounded.bootLoad {area : Nat} {bad : Bool} (h : Bounded t) : Bounded (t.bootLoad area bad) := by
  unfold State.bootLoad
  dsimp only
  split
  · exact h.set.set.cardCtl.cardStart
  · split
    · exact h.set.set.cardCtl.cardStart.cardCommit.cardDone
    · exact h.set.set.cardCtl.cardStart.cardCommit

theorem BoundedNext.execBootCard {flashBad : Nat} (h : Bounded t) : BoundedNext (execBootCard flashBad t) := by
  unfold Machine.execBootCard
  dsimp only
  refine .next (h.orWait fun _ h1 => ?_)
  refine .bootStage h1 (fun _ h2 => ?_)
  split
  · exact h2.foldl (fun _ _ h2 => .ite h2 (.ite h2.bootLoad.set h2.bootLoad))
  · exact .set (h2.foldl (fun _ _ h2 => .ite h2 (.ite h2.bootLoad.set h2.bootLoad)))

theorem BoundedNext.execBootHost {ok : Bool} (h : Bounded t) : BoundedNext (execBootHost ok t) :=
  .next (h.bootStage (fun _ h1 => .ite h1.bootStop h1.devWrite.modMgmt.modPower.set))

theorem BoundedNext.execBootRun (h : Bounded t) : BoundedNext (execBootRun t) := .next (h.bootStage (fun _ h1 => h1.set))

theorem Bounded.resetRefused {st : Nat} (h : Bounded t) : Bounded (t.resetRefused st) := h.set

theorem Bounded.resetTaken {kind : Nat} (h : Bounded t) : Bounded (t.resetTaken kind) := h.set.set

theorem Bounded.warmDomains {trained : List Nat} (h : Bounded t) : Bounded (t.warmDomains trained) :=
  Bounded.foldl (h.foldl fun _ _ h => h.set) fun _ _ h => h.set

theorem Bounded.warmReset : Bounded t.warmReset := by
  unfold State.warmReset
  extract_lets a b l x d f
  have hd : Bounded d := Bounded.dropMain
  have hf : Bounded f := hd.frame
  exact hf.showClock.warmDomains.resetTaken.addHold.set

theorem BoundedNext.execWarmReset (h : Bounded t) : BoundedNext (execWarmReset t) :=
  .next (.ite h.resetRefused (.ite h (.ite h.resetRefused .warmReset)))

theorem Bounded.resetBolt {b : Nat} (h : Bounded t) : Bounded (t.resetBolt b) := by
  have hlooms : Bounded ((t.boltLooms b).foldl (fun s n => (s.clearLoom n).reloadDraft n) t) := h.foldl fun _ _ h => h.clearLoom.reloadDraft
  exact .ite hlooms.frame hlooms.frame

theorem BoundedNext.execFunctionReset (h : Bounded t) : BoundedNext (execFunctionReset t) := by
  refine .next (h.orWait fun _ h1 => ?_)
  split
  · exact h1.resetRefused
  · exact .ite h1.resetRefused (.resetTaken (h1.foldl (fun _ _ h1 => h1.resetBolt)))

theorem BoundedNext.execLoomReset {n : LoomNo} (h : Bounded t) : BoundedNext (execLoomReset n t) := .next (.ite h.resetRefused h.loomReset.resetTaken)

end Sys2Proof.Machine
end

section
/-! PROOF. The functions of Machine/Guard.lean keep the bounds. -/
namespace Sys2Proof.Machine
set_option Elab.async false
variable {t u : State}

theorem Bounded.clearTotals {n : Nat} (h : Bounded t) : Bounded (t.clearTotals n) := h.modGrd.clear.clear.clear.clear.clear

theorem BoundedNext.execGbegin {n : LoomNo} (h : Bounded t) : BoundedNext (Machine.execGbegin n t) := by
  refine .next (h.issue fun w => .ite h.engineFault ?_)
  extract_lets k pc loops normal u v
  have hu : Bounded u := h.advance.guardZero.modGrd fun _ _ => (h n).loops
  have hv : Bounded v := .ite hu.clearTotals hu
  exact hv.frame

theorem Bounded.castVote {n : Nat} (h : Bounded t) : Bounded (t.castVote n) := by
  unfold State.castVote
  split
  · split
    · exact .ite h (.set (h.modSeq.add.add.foldl (fun _ _ h => h.set)))
    · exact h
  · exact h

theorem BoundedNext.execGcheck {n : LoomNo} (h : Bounded t) : BoundedNext (execGcheck n t) :=
  .next (h.issue (fun _ => .ite h.engineFault (.ite h.stopSeq h.advance.beginPause.castVote)))

theorem Bounded.flagRecipe {n : Nat} (h : Bounded t) : Bounded (t.flagRecipe n) := h.setMapBit.set

theorem Bounded.settleSpan {n : Nat} {v : Bool} {tests : Nat} (h : Bounded t) : Bounded (t.settleSpan n v tests) := by
  unfold State.settleSpan
  dsimp only
  split
  · exact h.set.add.modSeq.set.modGrd.add.set
  · split
    · exact .set (.add (.add (.setMapBit (.ite h.set.add.modSeq.set.modGrd.flagRecipe h.set.add.modSeq.set.modGrd))))
    · exact h.set.add.modSeq.set.modGrd.flagRecipe.setMapBit.add.add.set

theorem BoundedNext.execGcheckVerdict {n : LoomNo} (h : Bounded t) : BoundedNext (execGcheckVerdict n t) := by
  unfold Machine.execGcheckVerdict
  dsimp only
  refine .next ?_
  split
  · exact h.foldl (fun _ _ h => h.castVote)
  · exact .foldl (h.foldl (fun _ _ h => h.castVote)) (fun _ _ h => h.settleSpan)

theorem BoundedNext.execGrdCtlWrite {n : LoomNo} {addr : Nat} {data : List Byte} (h : Bounded t) : BoundedNext (execGrdCtlWrite n addr data t) :=
  .next (.ite h (.ite h.regPut (.ite h.regPut.modGrd h.regPut.clearTotals)))

end Sys2Proof.Machine
end

section
/-! PROOF. The functions of Machine/Registers.lean keep the bounds. -/
namespace Sys2Proof.Machine
set_option Elab.async false
variable {t u : State}

theorem Bounded.plainPut {w : RegW} (h : Bounded t) : Bounded (t.plainPut w) := h.regPut

theorem Bounded.putLoomCtl {w : RegW} (h : Bounded t) : Bounded (t.putLoomCtl w) := by
  unfold State.putLoomCtl
  dsimp only
  split
  · exact h
  · split
    · exact .after (.ite (h.after (.execRunStart h)) (h.after (.execRunStop h))) (.execLoomCntClr (.ite (h.after (.execRunStart h)) (h.after
          (.execRunStop h))))
    · exact .ite (h.after (.execRunStart h)) (h.after (.execRunStop h))

theorem Bounded.putAccCtl {w : RegW} (h : Bounded t) : Bounded (t.putAccCtl w) := .ite (h.plainPut.after (.execAccCntClr h.plainPut)) h.plainPut

theorem Bounded.putAccWin {w : RegW} {set : Fin 2} (h : Bounded t) : Bounded (t.putAccWin w set) := h.frame

theorem Bounded.putLoom {w : RegW} (h : Bounded t) : Bounded (t.putLoom w) := by
  unfold State.putLoom
  dsimp only
  split
  · exact h.putLoomCtl
  · split
    · exact h.putAccCtl
    · split
      · exact h.putAccWin
      · exact .ite h.putAccWin (.ite (h.after (.execGrdCtlWrite h)) h.plainPut)

theorem Bounded.putRqTail {w : RegW} (h : Bounded t) : Bounded (t.putRqTail w) := .ite h.plainPut.rqBad h.plainPut

theorem Bounded.putRgnCmd {w : RegW} (h : Bounded t) : Bounded (t.putRgnCmd w) :=
  .ite h (.ite (h.after (.execRegionClear h)) (h.after (.execRegionWrite h)))

theorem Bounded.putKeyCmd {w : RegW} (h : Bounded t) : Bounded (t.putKeyCmd w) := by
  unfold State.putKeyCmd
  split
  · exact h.after (.execKeyLoad h)
  · exact h.after (.execKeyZero h)
  · exact h

theorem Bounded.putMscCtl {w : RegW} (h : Bounded t) : Bounded (t.putMscCtl w) := .ite (h.plainPut.after (.execCacheFlush h.plainPut)) h.plainPut

theorem Bounded.putSvcCtl {w : RegW} (h : Bounded t) : Bounded (t.putSvcCtl w) := .ite (h.plainPut.after (.execSvcCntClr h.plainPut)) h.plainPut

theorem Bounded.putHub {w : RegW} (h : Bounded t) : Bounded (t.putHub w) := by
  refine .ite h.putSvcCtl (.ite (h.after (.execSvcAllowWrite h)) (.ite (h.after (.execSvcFloorMhzWrite h)) (.ite (h.after (.execSvcRqSizeWrite h))
      ?_)))
  refine .ite h.putRqTail (.ite (h.after (.execHbmLoopWrite h)) (.ite h.putRgnCmd (.ite h.putMscCtl ?_)))
  exact .ite (h.after (.execTierRingSizeWrite h)) (.ite (h.after (.execTierRingSizeWrite h)) (.ite h.set (.ite h.putKeyCmd h.plainPut)))

theorem Bounded.putPortCtl {w : RegW} (h : Bounded t) : Bounded (t.putPortCtl w) := by
  unfold State.putPortCtl
  split
  · exact h
  · split
    · exact .after (h.after (.execPortDisableWrite h)) (.execRetrain (h.after (.execPortDisableWrite h)))
    · exact h.after (.execPortDisableWrite h)

theorem Bounded.putFabCtl {w : RegW} (h : Bounded t) : Bounded (t.putFabCtl w) := .ite (h.plainPut.after (.execFabCntClr h.plainPut)) h.plainPut

theorem Bounded.putFabric {w : RegW} (h : Bounded t) : Bounded (t.putFabric w) := by
  unfold State.putFabric
  dsimp only
  split
  · exact h.putFabCtl
  · split
    · exact h.putPortCtl
    · exact .ite (.ite h (.ite (h.after (.execEthCtlWrite h)) h.plainPut)) h.plainPut

theorem Bounded.putCrdCtl {w : RegW} (h : Bounded t) : Bounded (t.putCrdCtl w) := by
  have hsrc : Bounded (if w.req = .selvedge then t.plainPut w
      else (t.plainPut w).set CRD_CTL_SRC_FLASH (t.get CRD_CTL_SRC_FLASH * (t.plainPut w).get CRD_CTL_SRC_FLASH)) := .ite h.plainPut h.plainPut.set
  exact .ite hsrc (.ite (hsrc.after (.execCardLoadFull hsrc)) (hsrc.after (.execCardLoadFunction hsrc)))

theorem Bounded.putSlvCtl {w : RegW} (h : Bounded t) : Bounded (t.putSlvCtl w) := .ite (h.plainPut.after (.execLogFlush h.plainPut)) h.plainPut

theorem Bounded.putSlvCmd {w : RegW} (h : Bounded t) : Bounded (t.putSlvCmd w) := by
  unfold State.putSlvCmd
  split
  · exact h
  · split
    · exact h.after (.execStage h)
    · exact h.after (.execCommit h)
    · exact h.after (.execFuseAdvance h)
    · exact h.after (.execCardPersist h)
    · exact h.after (.execAssay h)
    · exact h.after (.execTest h)
    · exact h.after (.execBench h)
    · exact h.after (.execUnbench h)
    · exact h.after (.execSelfReset h)
    · exact h.after (.execProvision h)
    · exact h.slvReserved

theorem Bounded.putRstCtl {w : RegW} (h : Bounded t) : Bounded (t.putRstCtl w) := by
  unfold State.putRstCtl
  split
  · exact h.after (.execWarmReset h)
  · exact h.after (.execFunctionReset h)
  · split
    · exact h.after (.execLoomReset h)
    · exact h
  · exact h

theorem Bounded.putDvfs {w : RegW} (h : Bounded t) : Bounded (t.putDvfs w) := .ite (h.after (.execDvfsVolt h)) (h.after (.execDvfsFreq h))

theorem Bounded.putMgmt {w : RegW} (h : Bounded t) : Bounded (t.putMgmt w) := by
  unfold State.putMgmt
  dsimp only
  split
  · exact h.putCrdCtl
  · split
    · exact h.putSlvCtl
    · split
      · exact h.putSlvCmd
      · split
        · exact h.putRstCtl
        · split
          · exact .ite (h.after (.execLdgCntClr h)) h
          · split
            · exact h.after (.execLdgBudgetMinWrite h)
            · split
              · exact .ite (h.after (.execStandby h)) h
              · split
                · exact h.putDvfs
                · split
                  · exact h.after (.execWakeTx h)
                  · exact .ite (.ite (h.after (.execSwvotesWrite h)) h) h.plainPut

theorem Bounded.putReg {w : RegW} (h : Bounded t) : Bounded (t.putReg w) := .ite h.putLoom (.ite h.putFabric (.ite h.putHub h.putMgmt))

theorem Bounded.readSeen {b n : Nat} (h : Bounded t) : Bounded (t.readSeen b n) :=
  .ite (.takeFree (.ite h.modSeq h)) (.ite h.modMgmt (.ite h.modMgmt h))

end Sys2Proof.Machine
end

section
/-! PROOF. The functions of Machine/Platform.lean keep the bounds. -/
namespace Sys2Proof.Machine
set_option Elab.async false
variable {t u : State}

theorem Bounded.modPlat {f : Plat → Plat} (h : Bounded t) : Bounded (t.modPlat f) := h.withPlat

theorem Bounded.lookSource {i : Nat} (h : Bounded t) : Bounded (t.lookSource i) := h.frame

theorem Bounded.msi {core id : Nat} (h : Bounded t) : Bounded (t.msi core id) := .ite h h.modPlat

theorem Bounded.forwardMsi {i : Nat} (h : Bounded t) : Bounded (t.forwardMsi i) := .ite h h.modPlat.msi

theorem Bounded.aplicLook (h : Bounded t) : Bounded (t.aplicLook) := by
  unfold State.aplicLook
  dsimp only
  split
  · exact .foldl (h.foldl (fun _ _ h => h.lookSource)) (fun _ _ h => h.forwardMsi)
  · exact h.foldl (fun _ _ h => h.lookSource)

theorem Bounded.aplicPend {on : Bool} {i : Nat} (h : Bounded t) : Bounded (t.aplicPend on i) := .ite h h.modPlat

theorem Bounded.aplicEnable {on : Bool} {i : Nat} (h : Bounded t) : Bounded (t.aplicEnable on i) := .ite h h.modPlat

theorem Bounded.eachBit {k v : Nat} {f : State → Nat → State} (h : Bounded t) (hk : ∀ x i, Bounded x → Bounded (f x i)) : Bounded (t.eachBit k v f) :=
  h.foldl fun _ _ h => hk _ _ h

theorem Bounded.aplicMode {i m : Nat} (h : Bounded t) : Bounded (t.aplicMode i m) := h.modPlat

theorem Bounded.aplicWrite {o v : Nat} (h : Bounded t) : Bounded (t.aplicWrite o v) := by
  refine .ite h.modPlat (.ite h.aplicMode (.ite h.aplicPend (.ite h.aplicPend (.ite h.aplicPend (.ite h.aplicEnable (.ite h.aplicEnable (.ite h.msi
      (.ite ?_ ?_))))))))
  · exact .ite h h.modPlat
  · split
    · exact h.eachBit fun _ _ h => h.aplicPend
    · exact h.eachBit fun _ _ h => h.aplicPend
    · exact h.eachBit fun _ _ h => h.aplicEnable
    · exact h.eachBit fun _ _ h => h.aplicEnable
    · exact h

theorem Bounded.platWrite {x : Nat} {d : List Byte} (h : Bounded t) : Bounded (t.platWrite x d) := by
  unfold State.platWrite
  split
  · exact h
  · split
    · exact h.aplicWrite.aplicLook
    · exact .ite h.msi (.ite h.msi h)
    · exact h.modPlat
    · exact h.modPlat
    · exact h

end Sys2Proof.Machine
end

section
/-! PROOF. The functions of Machine/Access.lean keep the bounds. -/
namespace Sys2Proof.Machine
set_option Elab.async false
variable {t u : State}

theorem Bounded.hbmPiece {a : Access} {x n : Nat} {r : AccRes} (h : Bounded t) : Bounded (t.hbmPiece a x n r).2 := by
  unfold State.hbmPiece
  split
  · exact h.writePiece
  · exact h.readPiece

theorem Bounded.padPiece {a : Access} {x n off len : Nat} {r : AccRes} (h : Bounded t) : Bounded (t.padPiece a x n off len r).2 := by
  unfold State.padPiece
  dsimp only
  split
  · exact .ite h.set h
  · split
    · exact h.winWrite
    · exact .ite h.countPoison h

theorem Bounded.draftPiece {a : Access} {x n off len : Nat} {r : AccRes} (h : Bounded t) : Bounded (t.draftPiece a x n off len r).2 := by
  unfold State.draftPiece
  generalize (if t.is (LOOM_STATUS_BENCHED n) then 2 else if !reachesRegs a.req a.tenant || (a.write && t.is (LOOM_STATUS_RUN n)) then 3 else 0) = st
  dsimp only
  split
  · exact h
  · split
    · exact h.memWrite
    · exact h

theorem Bounded.holeWrite {x : Nat} {d : List Byte} (h : Bounded t) : Bounded (t.holeWrite x d) := .ite h.platWrite h

theorem Bounded.regPiece {a : Access} {x n : Nat} {r : AccRes} (h : Bounded t) : Bounded (t.regPiece a x n r).2 := by
  unfold State.regPiece
  dsimp only
  split
  · exact h
  · split
    · split
      · exact h.putReg
      · exact h.readSeen
    · split
      · exact h.holeWrite
      · exact h

theorem Bounded.piece {a : Access} {x n : Nat} {r : AccRes} (h : Bounded t) : Bounded (t.piece a x n r).2 := by
  unfold State.piece
  split
  · exact h.hbmPiece
  · exact h.padPiece
  · exact h.padPiece
  · exact h.draftPiece
  · exact h.regPiece
  · exact h.regPiece
  · exact h

theorem Bounded.performPieces {a : Access} (h : Bounded t) : Bounded (t.performPieces a).2 := h.foldlSnd (fun _ _ h => h.piece)

theorem Bounded.recordBad {a : Access} {bad : Option (Nat × Nat)} (h : Bounded t) : Bounded (t.recordBad a bad) := by
  unfold State.recordBad
  split
  · exact h.refusedAt
  · exact h

theorem Bounded.perform {a : Access} (h : Bounded t) : Bounded (t.perform a).2 := h.performPieces.recordBad

theorem Bounded.performNow {a : Access} (h : Bounded t) : Bounded (t.performNow a) := .withResp (.ite h.perform h.perform.readPoison)

theorem Bounded.performPads {a : Access} {pads : List Nat} {deferred : Nat} {ecc : List SpadEv} (h : Bounded t) :
    Bounded (t.performPads a pads deferred ecc) := by
  induction pads generalizing t with
  | nil => exact h.performNow
  | cons m pads ih => exact h.throughPort fun _ h => ih h

theorem Bounded.doAccess {a : Access} {free : Nat → Bool} {deferred : Nat} {ecc : List SpadEv} (h : Bounded t) :
    Bounded (t.doAccess a free deferred ecc) := by
  unfold State.doAccess
  split
  · exact .ite h.performNow (.ite h.performPads h.enqueue)
  · exact h.performPads

theorem Bounded.accessAfter {a : Access} {deferred : Nat} {ecc : List SpadEv} (h : Bounded t) : Bounded (t.accessAfter a deferred ecc) :=
  .ite h.wakeDomains.withHeld h.doAccess

theorem Bounded.access {a : Access} (h : Bounded t) : Bounded (t.access a) := h.accessAfter

theorem Bounded.serveHeld {ecc : List SpadEv} (h : Bounded t) : Bounded (t.serveHeld ecc) :=
  h.servePosts.withHeld.foldl (fun _ _ h => .ite h.withHeld h.doAccess)

theorem BoundedNext.execLocalAccess {a : Access} {deferred : Nat} {ecc : List SpadEv} (h : Bounded t) :
    BoundedNext (execLocalAccess a t deferred ecc) := .next h.accessAfter

theorem BoundedNext.execAccViewWrite {n : LoomNo} {off : Nat} {data : List Byte} {req : Requester} {tenant : Nat} (h : Bounded t) :
    BoundedNext (execAccViewWrite n off data t req tenant) := .next (.ite h h.access)

theorem BoundedNext.execDraftStoreWrite {n : LoomNo} {req : Requester} {off : Nat} {data : List Byte} {tenant : Nat} (h : Bounded t) :
    BoundedNext (execDraftStoreWrite n req off data t tenant) := .next (.ite h h.access)

theorem BoundedNext.execNcInboundServe {n : LoomNo} {deferred : Nat} {ecc : List SpadEv} (h : Bounded t) :
    BoundedNext (execNcInboundServe n deferred t ecc) := by
  refine .next ?_
  split
  · exact h
  · split
    · exact h.serveHeld
    · split
      · exact h.portServes (fun _ h1 => h1.performInbound)
      · exact h.portServes (fun _ h1 => h1.performInbound)
      · exact h.portServes (fun _ h1 => h1.performInbound)
      · exact h.portServes (fun _ h1 => h1.performInbound)
      · exact h.portServes (fun _ h1 => h1.collServe)
      · exact h

theorem BoundedNext.execRegisterWrite {req : Requester} {addr : Nat} {data : List Byte} (h : Bounded t) :
    BoundedNext (execRegisterWrite req addr data t) := .next h.access

theorem BoundedNext.execDomainWakeDone {d : Fin 164} (h : Bounded t) : BoundedNext (Machine.execDomainWakeDone d t) := by
  have hwake : Bounded ((withDomain d).foldl (fun s x => if s.get (PWR_DOM_STATE x) = 2 then s.set (PWR_DOM_STATE x) 3 else s) t) :=
    h.foldl fun _ _ h => .ite h.set h
  exact .next (.ite h (.serveHeld (.ite hwake.dvfsPend hwake)))

theorem Bounded.packetPad {n off : Nat} {kind : InKind} {len : Nat} {k : Packet} (h : Bounded t) : Bounded (t.packetPad n off kind len k) :=
  h.enqueue.noteRty

theorem Bounded.takeMem {want : Packet → Bool} {len : Packet → Nat} {kind : State → Nat → Nat → Packet → InKind}
    {now : State → Packet → Response × State} (h : Bounded t) (hk : ∀ u k, Bounded u → Bounded (now u k).2) :
    Bounded (t.takeMem want len kind now) := by
  unfold State.takeMem
  split
  · exact h
  next i _ =>
    refine .ite h.wakeDomains ?_
    extract_lets u done
    have hu : Bounded u := h.takeIn
    have hdone (v : State) (hv : Bounded v) : Bounded (done v) := .ite (hk _ _ hv) (.ite (hk _ _ hv).send (hk _ _ hv).send)
    split
    · exact .ite (hdone _ hu) hu.packetPad
    · exact hdone _ hu

theorem BoundedNext.execPacketWrite (h : Bounded t) : BoundedNext (Machine.execPacketWrite t) := .next (h.takeMem fun _ _ h => h.perform)

theorem BoundedNext.execPacketRead (h : Bounded t) : BoundedNext (Machine.execPacketRead t) := .next (h.takeMem fun _ _ h => h.perform)

theorem Bounded.atomicNow {op : Nat} {k : Packet} (h : Bounded t) : Bounded (t.atomicNow op k).2 := h.performPieces.performPieces.recordBad

theorem BoundedNext.execFetchAdd (h : Bounded t) : BoundedNext (Machine.execFetchAdd t) := .next (h.takeMem fun _ _ h => h.atomicNow)

theorem BoundedNext.execMasked (h : Bounded t) : BoundedNext (Machine.execMasked t) := .next (h.takeMem fun _ _ h => h.atomicNow)

end Sys2Proof.Machine
end

section
/-! PROOF. The functions of Machine/Bronze.lean keep the bounds. -/
namespace Sys2Proof.Machine
set_option Elab.async false
variable {t u : State}

theorem Bounded.brzStart {n op : Nat} (h : Bounded t) : Bounded (t.brzStart n op) := h.set.set

theorem Bounded.brzEnd {n : Nat} (h : Bounded t) : Bounded (t.brzEnd n) := h.frame

theorem Bounded.brzIssue {n op used nslots : Nat} {fmts : List Nat} {k : DWord → Block → State} (h : Bounded t) (hk : ∀ x0 x1, Bounded (k x0 x1)) :
    Bounded (t.brzIssue n op used nslots fmts k) := h.issue (fun _ => .ite h.wordFault (hk _ _))

theorem Bounded.drainOne {n : Nat} {b : Block} {p : OutPlan} {scale : Option (List Nat)} {vecPoison : Bool} {psum : Nat} {win : Int} {set i : Nat}
    (h : Bounded t) :
    Bounded (t.drainOne n b p scale vecPoison psum win set i) := by
  unfold State.drainOne
  extract_lets row compat kind r W poison u v
  have hv : Bounded v := .ite h.putOut h.putOut.spWrite
  refine .ite hv (.ite hv.spWrite (.markRow (.clearSat (hv.putRow fun a ha => ?_))))
  exact List.eq_of_mem_replicate ha ▸ accVal_zero

theorem BoundedNext.execDrain {n : LoomNo} {evs : CycleEvs} (h : Bounded t) : BoundedNext (Machine.execDrain n evs t) :=
  .next (h.withEvents fun _ h => h.brzIssue fun _ _ => .ite h.engineFault (.ite h.engineFault (.ite h.wordFault
    (.set (.brzStart (h.advance.countPoison.foldl fun _ _ h => h.drainOne))))))

theorem BoundedNext.execDrainDone {n : LoomNo} (h : Bounded t) : BoundedNext (execDrainDone n t) := .next (.ite h h.brzEnd.set.settle)

theorem BoundedNext.execCombine {n : LoomNo} {evs : CycleEvs} (h : Bounded t) : BoundedNext (execCombine n t evs) := by
  unfold Machine.execCombine
  dsimp only
  refine .next (h.withEvents fun _ h1 => ?_)
  refine .brzIssue h1 (fun _ _ => ?_)
  split
  · exact h1.wordFault
  · exact .brzStart (h1.advance.countPoison.dataReads.foldl (fun _ _ h2 => h2.putOut.spWrite.countSpecial))

theorem BoundedNext.execDot {n : LoomNo} {evs : CycleEvs} (h : Bounded t) : BoundedNext (execDot n t evs) := by
  unfold Machine.execDot
  dsimp only
  refine .next (h.withEvents fun _ h1 => ?_)
  refine .brzIssue h1 (fun _ _ => ?_)
  split
  · exact h1.wordFault
  · exact .brzStart (h1.advance.countPoison.foldl (fun _ _ h2 => h2.putOut))

theorem Bounded.normIssue {n : Nat} {layer : Bool} (h : Bounded t) : Bounded (t.normIssue n layer) :=
  h.brzIssue fun _ _ => .ite h.wordFault (.ite h (.ite h.wordFault (.brzStart (h.advance.countPoison.foldl fun _ _ h => h.putOut))))

theorem BoundedNext.execNormRms {n : LoomNo} {evs : CycleEvs} (h : Bounded t) : BoundedNext (execNormRms n t evs) :=
  .next (h.withEvents (fun _ h1 => h1.normIssue))

theorem BoundedNext.execNormLayer {n : LoomNo} {evs : CycleEvs} (h : Bounded t) : BoundedNext (execNormLayer n t evs) :=
  .next (h.withEvents (fun _ h1 => h1.normIssue))

theorem Bounded.elemIssue {n func : Nat} (h : Bounded t) : Bounded (t.elemIssue n func) := by
  refine .brzIssue h (fun _ _ => ?_)
  split
  · exact h.wordFault
  · exact .ite h (.ite h.wordFault h.advance.countPoison.putOut.brzStart)

theorem BoundedNext.execElemAdd {n : LoomNo} {evs : CycleEvs} (h : Bounded t) : BoundedNext (execElemAdd n t evs) :=
  .next (h.withEvents (fun _ h1 => h1.elemIssue))

theorem BoundedNext.execElemMul {n : LoomNo} {evs : CycleEvs} (h : Bounded t) : BoundedNext (execElemMul n t evs) :=
  .next (h.withEvents (fun _ h1 => h1.elemIssue))

theorem BoundedNext.execElemFma {n : LoomNo} {evs : CycleEvs} (h : Bounded t) : BoundedNext (execElemFma n t evs) :=
  .next (h.withEvents (fun _ h1 => h1.elemIssue))

theorem BoundedNext.execElemDiv {n : LoomNo} {evs : CycleEvs} (h : Bounded t) : BoundedNext (execElemDiv n t evs) :=
  .next (h.withEvents (fun _ h1 => h1.elemIssue))

theorem BoundedNext.execElemRecip {n : LoomNo} {evs : CycleEvs} (h : Bounded t) : BoundedNext (execElemRecip n t evs) :=
  .next (h.withEvents (fun _ h1 => h1.elemIssue))

theorem BoundedNext.execElemRsqrt {n : LoomNo} {evs : CycleEvs} (h : Bounded t) : BoundedNext (execElemRsqrt n t evs) :=
  .next (h.withEvents (fun _ h1 => h1.elemIssue))

theorem BoundedNext.execElemExp2 {n : LoomNo} {evs : CycleEvs} (h : Bounded t) : BoundedNext (execElemExp2 n t evs) :=
  .next (h.withEvents (fun _ h1 => h1.elemIssue))

theorem BoundedNext.execElemLog2 {n : LoomNo} {evs : CycleEvs} (h : Bounded t) : BoundedNext (execElemLog2 n t evs) :=
  .next (h.withEvents (fun _ h1 => h1.elemIssue))

theorem Bounded.embedOor {n : Nat} {p : OutPlan} {r width : Nat} (h : Bounded t) : Bounded (t.embedOor n p r width) := h.putOut.add.set.report

theorem ReadBounded.embedRow {n : Nat} {b : Block} {p : OutPlan} {r : Nat} : ReadBounded (Machine.embedRow n b p r) := by
  unfold Machine.embedRow
  exact .bind .get fun _ => .ite (.mod fun _ h => h.embedOor) (.bind .rdRange fun _ => .mod fun _ h => h.putOut)

theorem ReadBounded.embedRun {n : Nat} {p : Pend} : ReadBounded (Machine.embedRun n p) := .each fun _ => .embedRow

theorem BoundedNext.execEmbed {n : LoomNo} {evs : CycleEvs} (h : Bounded t) : BoundedNext (Machine.execEmbed n t evs) :=
  .next (h.withEvents fun _ h => h.brzIssue fun _ _ => .ite h.wordFault (h.advance.countPoison.brzStart.runOp .embedRun))

theorem BoundedNext.execBrzOpDone {n : LoomNo} (h : Bounded t) : BoundedNext (Machine.execBrzOpDone n t) := by
  refine .next (.ite h ?_)
  extract_lets u v
  have hu : Bounded u := by
    unfold u
    split
    · exact .ite h (h.runOp .embedRun)
    · exact h
  have hv : Bounded v := .ite hu.add hu
  exact .ite hu hv.brzEnd.settle

end Sys2Proof.Machine
end

section
/-! PROOF. The functions of Machine/Attention.lean keep the bounds. -/
namespace Sys2Proof.Machine
set_option Elab.async false
variable {t u : State}

theorem Bounded.scorePages {n : Nat} {p : AttParams} {scale : FVal} {i : Nat} {l : List Nat} {rows : List ScoreRow} (h : Bounded t) :
    Bounded (t.scorePages n p scale i l rows).1 := by
  induction l generalizing t i rows with
  | nil => exact h
  | cons a l ih =>
    unfold State.scorePages
    extract_lets rd u
    have hu : Bounded u := h.dataReads
    split
    · exact hu.set.set
    · exact ih hu.add.guardCount

theorem Bounded.attStart {n phase : Nat} (h : Bounded t) : Bounded (t.attStart n phase) := h.set.set

theorem Bounded.attIssue {n op : Nat} {k : DWord → Block → State} (h : Bounded t) (hk : ∀ x0 x1, Bounded (k x0 x1)) : Bounded (t.attIssue n op k) :=
  h.issue (fun _ => .ite h.wordFault (hk _ _))

theorem BoundedNext.execScore {n : LoomNo} {evs : CycleEvs} (h : Bounded t) : BoundedNext (Machine.execScore n t evs) := by
  refine .next (h.withEvents fun t h => h.attIssue fun w b => .ite h.engineFault (.ite h.engineFault (.ite h.engineFault (.ite h.wordFault ?_))))
  refine .attStart ?_
  split
  · exact h.advance.countPoison.dataReads.set.set.modAtt
  · exact Bounded.modAtt h.advance.countPoison.dataReads.set.set.scorePages

theorem Bounded.pvPages {n : Nat} {a : Att} {owin : Int} {dh i : Nat} {l : List Nat} {rows : List PvRow} (h : Bounded t) :
    Bounded (t.pvPages n a owin dh i l rows).1 := by
  induction l generalizing t i rows with
  | nil => exact h
  | cons pg l ih =>
    unfold State.pvPages
    extract_lets rd u
    have hu : Bounded u := h.dataReads
    split
    · exact hu.set.set
    · exact ih hu

theorem BoundedNext.execPv {n : LoomNo} {evs : CycleEvs} (h : Bounded t) : BoundedNext (Machine.execPv n t evs) := by
  refine .next (h.withEvents fun t h => h.attIssue fun w b => .ite h.engineFault (.ite h.engineFault (.ite h.engineFault (.ite h.wordFault ?_))))
  exact .attStart (.ite h.advance.countPoison (.modAtt (.guardCount (.add h.advance.countPoison.pvPages))))

theorem BoundedNext.execAttPhaseDone {n : LoomNo} (h : Bounded t) : BoundedNext (execAttPhaseDone n t) :=
  .next (.ite h (.settle (.set (.ite h.set h.set))))

theorem BoundedNext.execAdrain {n : LoomNo} {evs : CycleEvs} (h : Bounded t) : BoundedNext (execAdrain n t evs) := by
  unfold Machine.execAdrain
  dsimp only
  refine .next (h.withEvents fun _ h1 => ?_)
  refine .issue h1 (fun _ => ?_)
  split
  · exact .ite h1.wordFault h1.engineFault
  · split
    · exact h1.wordFault
    · split
      · exact h1.engineFault
      · split
        · exact h1.wordFault
        · refine .brzStart ?_
          refine .set ?_
          refine .set ?_
          refine .modAtt ?_
          split
          · exact h1.advance.foldl (fun _ _ h2 => h2.putOut.spWrite.countSpecial)
          · exact .report (.add (h1.advance.foldl (fun _ _ h2 => h2.putOut.spWrite.countSpecial)))

end Sys2Proof.Machine
end

section
/-! PROOF. The functions of Machine/Bobbin.lean keep the bounds. -/
namespace Sys2Proof.Machine
set_option Elab.async false
variable {t u : State}

theorem Bounded.putGens {n : Nat} {gens : List Nat} (h : Bounded t) : Bounded (t.putGens n gens) := h.foldl (fun _ _ h => h.set)

theorem Bounded.bobWrite {n : Nat} {d : BobDesc} {win : Int} {poison : Bool} {rows : List (List Int)} (h : Bounded t) :
    Bounded (t.bobWrite n d win poison rows) := h.foldl (fun _ _ h => h.spWrite)

theorem Bounded.bobIssue {n op : Nat} (h : Bounded t) : Bounded (t.bobIssue n op) := by
  unfold State.bobIssue
  dsimp only
  refine .issue h (fun _ => ?_)
  split
  · exact h
  · split
    · exact h.set.engineFault
    · split
      · exact h.advance.countPoison.set.set.putGens.set.set.add.bobWrite
      · refine .bobWrite ?_
        split
        · refine .report ?_
          refine .set ?_
          refine .set ?_
          split
          · refine .modSeq ?_
            refine .guardCount ?_
            split
            · exact h.advance.countPoison.set.set.countPoison.putGens.add.add.modBob.set
            · exact h.advance.countPoison.set.set.countPoison.putGens.add.add.modBob
          · refine .guardCount ?_
            split
            · exact h.advance.countPoison.set.set.countPoison.putGens.add.add.modBob.set
            · exact h.advance.countPoison.set.set.countPoison.putGens.add.add.modBob
        · refine .set ?_
          split
          · refine .modSeq ?_
            refine .guardCount ?_
            split
            · exact h.advance.countPoison.set.set.countPoison.putGens.add.add.modBob.set
            · exact h.advance.countPoison.set.set.countPoison.putGens.add.add.modBob
          · refine .guardCount ?_
            split
            · exact h.advance.countPoison.set.set.countPoison.putGens.add.add.modBob.set
            · exact h.advance.countPoison.set.set.countPoison.putGens.add.add.modBob

theorem BoundedNext.execTdot {n : LoomNo} {evs : CycleEvs} (h : Bounded t) : BoundedNext (execTdot n t evs) :=
  .next (h.withEvents (fun _ h1 => h1.bobIssue))

theorem BoundedNext.execPred {n : LoomNo} {evs : CycleEvs} (h : Bounded t) : BoundedNext (execPred n t evs) :=
  .next (h.withEvents (fun _ h1 => h1.bobIssue))

theorem BoundedNext.execSdot {n : LoomNo} {evs : CycleEvs} (h : Bounded t) : BoundedNext (execSdot n t evs) :=
  .next (h.withEvents (fun _ h1 => h1.bobIssue))

theorem BoundedNext.execBobDone {n : LoomNo} (h : Bounded t) : BoundedNext (execBobDone n t) := .next (.ite h h.add.set.settle)

end Sys2Proof.Machine
end

section
/-! PROOF. The functions of Machine/Dma.lean keep the bounds. -/
namespace Sys2Proof.Machine
set_option Elab.async false
variable {t u : State}

theorem Bounded.dmaIssue {n op nslots tslot : Nat} {k : DWord → Block → State} (h : Bounded t) (hk : ∀ x0 x1, Bounded (k x0 x1)) :
    Bounded (t.dmaIssue n op nslots tslot k) := h.issue (fun _ => .ite h.wordFault (hk _ _))

theorem BoundedNext.execTload {n : LoomNo} {evs : CycleEvs} (h : Bounded t) : BoundedNext (Machine.execTload n t evs) := by
  refine .next (h.withEvents fun t h => h.dmaIssue fun w b => .ite h.wordFault (.ite ?_ (.report (.add ?_))))
  all_goals exact .set (.set (.set (.set (.set (.set (.modDma (.modArr h.advance.dataReads)))))))

theorem BoundedNext.execTloadDone {n : LoomNo} (h : Bounded t) : BoundedNext (Machine.execTloadDone n t) := by
  refine .next (.ite h ?_)
  split
  · exact h
  · exact (h.modDma.modArr.set.set).settle

theorem BoundedNext.execTblload {n : LoomNo} {evs : CycleEvs} (h : Bounded t) : BoundedNext (execTblload n t evs) :=
  .next (h.withEvents (fun _ h1 => h1.dmaIssue (fun _ _ => .ite h1.wordFault h1.advance.countPoison.modDma)))

theorem BoundedNext.execTblloadDone {n : LoomNo} (h : Bounded t) : BoundedNext (execTblloadDone n t) := by
  refine .next ?_
  split
  · exact h
  · split
    · exact h
    · exact h.modDma.set.set.set.set.settle

theorem Bounded.countWords {n : Nat} {ranges : List (Nat × Nat)} (h : Bounded t) : Bounded (t.countWords n ranges) := h.frame

theorem Bounded.spPut {n a : Nat} {d : List Byte} {pois : List Bool} (h : Bounded t) : Bounded (t.spPut n a d pois) :=
  .ite h.spWrite (h.foldl (fun _ _ h => h.spWrite))

theorem Bounded.engPut {n tenant a : Nat} {d : List Byte} {pois : List Bool} (h : Bounded t) : Bounded (t.engPut n tenant a d pois) :=
  .ite h.engWrite (h.foldl (fun _ _ h => h.engWrite))

theorem Bounded.moveIssue {n op : Nat} {k : DWord → Block → Desc → State} (h : Bounded t) (hk : ∀ x0 x1 x2, Bounded (k x0 x1 x2)) :
    Bounded (t.moveIssue n op k) := by
  unfold State.moveIssue
  dsimp only
  refine .dmaIssue h (fun _ _ => ?_)
  split
  · exact h.wordFault
  · split
    · exact h.engineFault
    · exact .ite h.engineFault (.ite h.wordFault (.ite h.wakeDomain (hk _ _ _)))

theorem Bounded.noteRefused {n tenant src : Nat} (h : Bounded t) : Bounded (t.noteRefused n tenant src) := h.set.report

theorem Bounded.refuseUnit {n tenant src dst len : Nat} (h : Bounded t) : Bounded (t.refuseUnit n tenant src dst len) := h.noteRefused.add.spWrite

theorem Bounded.expand {n dst : Nat} {l : List Byte} {poison : Bool} (h : Bounded t) : Bounded (t.expand n dst l poison) := h.frame

theorem Bounded.countStored {n why saved : Nat} (h : Bounded t) : Bounded (t.countStored n why saved) := .ite h.add.add (.ite h.add (.ite h.add h))

theorem Bounded.storeTileUnit {n : Nat} {d : Desc} {t' : Option CodeTable} {u' : Nat} {src : List Byte × List Bool} (h : Bounded t) :
    Bounded (t.storeTileUnit n d t' u' src) := h.engWrite.countStored

theorem Bounded.copyTile {n : Nat} {d : Desc} {t' : Option CodeTable} {u' a : Nat} (h : Bounded t) : Bounded (t.copyTile n d t' u' a) :=
  .ite h.dataReads.storeTileUnit h.dataReads.engPut

theorem Bounded.storeUnit {n : Nat} {d : Desc} {t' : Option CodeTable} {u' : Nat} {src : List Byte × List Bool} (h : Bounded t) :
    Bounded (t.storeUnit n d t' u' src) := by
  unfold State.storeUnit
  dsimp only
  split
  · split
    · split
      · split
        · dsimp only
          exact h.engWrite.countStored
        · dsimp only
          exact h.engPut.countStored
      · dsimp only
        exact h.engPut
    · dsimp only
      exact h.engPut
  · refine .engWrite ?_
    split
    · split
      · split
        · dsimp only
          exact h.engWrite.countStored
        · dsimp only
          exact h.engPut.countStored
      · dsimp only
        exact h.engPut
    · dsimp only
      exact h.engPut

theorem Bounded.storePlane {n : Nat} {d : Desc} {t' : Option CodeTable} {a : Nat} {l : List Byte} {pois : List Bool} (h : Bounded t) :
    Bounded (t.storePlane n d t' a l pois).1 := by
  unfold State.storePlane
  split
  · split
    · dsimp only
      exact h.engWrite.countStored
    · dsimp only
      exact h.engPut.countStored
  · dsimp only
    exact h.engPut

theorem Bounded.storePage {n : Nat} {d : Desc} {t' : Option CodeTable} {u' : Nat} {src : List Byte × List Bool} (h : Bounded t) :
    Bounded (t.storePage n d t' u' src) := h.storePlane.storePlane.engPut.engPut

theorem Bounded.storeRaw {n : Nat} {d : Desc} {b : Block} {q : Pend} (h : Bounded t) : Bounded (t.storeRaw n d b q) := by
  unfold State.storeRaw
  split
  · exact h.countWords.engPut
  · exact .ite h.countWords.engWrite h.countWords.engWrite.guardAdd

theorem ReadBounded.landRead {n dst : Nat} {r : RdData} : ReadBounded (Machine.landRead n dst r) := .mod fun _ h => h.spPut

theorem ReadBounded.loadTile {n : Nat} {d : Desc} {u dst : Nat} : ReadBounded (Machine.loadTile n d u dst) :=
  .bind .rdRange fun _ => .bind (.ite .pure .rdRange) fun _ => .landRead

theorem ReadBounded.loadUnit {n : Nat} {d : Desc} {c : Option CodeTable} {u dst : Nat} : ReadBounded (Machine.loadUnit n d c u dst) := by
  refine .bind (.ite .pure .rdRange) fun _ => .ite (.mod fun _ h => h.refuseUnit) (.ite (.bind .rdRange fun _ => .landRead) (.bind .rdRange fun _
      => ?_))
  cases c with
  | some c => exact .mod fun _ h => h.expand
  | none => exact .pure

theorem ReadBounded.loadPlane {n : Nat} {d : Desc} {c : Option CodeTable} {coded : Bool} {clen a dst : Nat} :
    ReadBounded (Machine.loadPlane n d c coded clen a dst) := by
  refine .ite (.bind .rdRange fun _ => .landRead) (.bind .rdRange fun _ => ?_)
  cases c with
  | some c => exact .mod fun _ h => h.expand
  | none => exact .pure

theorem ReadBounded.loadPage {n : Nat} {d : Desc} {c : Option CodeTable} {u dst : Nat} : ReadBounded (Machine.loadPage n d c u dst) :=
  .bind .rdRange fun _ => .ite (.mod fun _ h => h.refuseUnit) (.bind .loadPlane fun _ => .bind .loadPlane fun _ => .bind .rdRange fun _ =>
    .bind .landRead fun _ => .mod fun _ h => h.spWrite)

theorem ReadBounded.loadRun {n : Nat} {d : Desc} {c : Option CodeTable} {b : Block} : ReadBounded (Machine.loadRun n d c b) :=
  .ite (.bind .rdRange fun _ => .landRead) (.each fun _ => .ite .loadTile (.ite .loadUnit .loadPage))

theorem ReadBounded.slotWrite {n : Nat} {d : Desc} {b : Block} {p : Pend} {page i src : Nat} : ReadBounded (Machine.slotWrite n d b p page i src) :=
  .bind .rdRange fun _ => .mod fun _ h => .ite h.noteRefused (.ite h.set h.countPoison.guardAdd.engPut.engPut.engPut.engPut.engMask)

theorem ReadBounded.storeRun {n : Nat} {d : Desc} {c : Option CodeTable} {b : Block} {q : Pend} : ReadBounded (Machine.storeRun n d c b q) :=
  .ite .slotWrite (.ite (.mod fun _ h => h.storeRaw) (.mod fun _ h => h.foldl fun _ _ h =>
    .ite h.copyTile (.ite h.countWords.storeTileUnit (.ite h.countWords.storeUnit h.countWords.storePage))))

theorem ReadBounded.moveRun {n : Nat} {p : Pend} : ReadBounded (t.moveRun n p) := .ite .loadRun .storeRun

theorem Bounded.moveStart {n op : Nat} {w : DWord} {b : Block} {d : Desc} (h : Bounded t) : Bounded (t.moveStart n op w b d) :=
  .runOp (.ite h.advance.countPoison.modDma.set h.advance.countPoison.modDma) .moveRun

theorem BoundedNext.execLoad {n : LoomNo} {evs : CycleEvs} (h : Bounded t) : BoundedNext (execLoad n evs t) :=
  .next (h.withEvents (fun _ h1 => h1.moveIssue (fun _ _ _ => h1.moveStart)))

theorem BoundedNext.execStore {n : LoomNo} {evs : CycleEvs} (h : Bounded t) : BoundedNext (execStore n t evs) :=
  .next (h.withEvents (fun _ h1 => h1.moveIssue (fun _ _ _ => h1.moveStart)))

theorem BoundedNext.execDmaDone {n : LoomNo} (h : Bounded t) : BoundedNext (Machine.execDmaDone n t) := by
  refine .next (.ite h ?_)
  extract_lets u
  have hu : Bounded u := by
    unfold u
    split
    · exact .ite h (h.runOp .moveRun)
    · exact h
  exact .ite hu hu.modDma.set.set.settle

end Sys2Proof.Machine
end

section
/-! PROOF. The functions of Machine/Tap.lean keep the bounds. -/
namespace Sys2Proof.Machine
set_option Elab.async false
variable {t u : State}

theorem BoundedNext.execTestAccessPort {trst tms tdi : Bool} {pins : Nat} (h : Bounded t) :
    BoundedNext (Machine.execTestAccessPort trst tms tdi pins t) := .next (.ite h.withTap h.frame)

end Sys2Proof.Machine
end

section
/-! PROOF. The functions of Machine/Tick.lean keep the bounds. -/
namespace Sys2Proof.Machine
set_option Elab.async false
variable {t u : State}

theorem Bounded.countEpoch (h : Bounded t) : Bounded (t.countEpoch) := .ite h h.modFab.add

theorem Bounded.idleTick (h : Bounded t) : Bounded (t.idleTick) := h.foldl (fun _ _ h => .ite h.idleOut h)

theorem Bounded.tick (h : Bounded t) : Bounded (t.tick) := h.modMgmt.countEpoch.idleTick.signTick.voteWake.svcWatch.aplicLook.serveHeld

end Sys2Proof.Machine
end

section
/-! PROOF. Every command, and so every step, keeps the bounds. -/
namespace Sys2Proof.Machine
set_option Elab.async false
variable {t u : State}

theorem BoundedNext.exec {c : Instr} (h : Bounded t) : BoundedNext (Machine.exec c t) := by
  cases c with
  | registerWrite => exact .execRegisterWrite h
  | localAccess => exact .execLocalAccess h
  | ledgerGrant => exact .execLedgerGrant h
  | holdResume => exact .execHoldResume h
  | slackExpire => exact .execSlackExpire h
  | pauseBudgetExpire => exact .execPauseBudgetExpire h
  | accViewWrite => exact .execAccViewWrite h
  | accWinWrite => exact .execAccWinWrite h
  | accCntClr => exact .execAccCntClr h
  | arraySum => exact .execArraySum h
  | arrayMax => exact .execArrayMax h
  | arrayMin => exact .execArrayMin h
  | arrayResultLand => exact .execArrayResultLand h
  | tileBarrier => exact .execTileBarrier h
  | winload => exact .execWinload h
  | swap => exact .execSwap h
  | drain => exact .execDrain h
  | drainDone => exact .execDrainDone h
  | tload => exact .execTload h
  | tloadDone => exact .execTloadDone h
  | tblload => exact .execTblload h
  | tblloadDone => exact .execTblloadDone h
  | load => exact .execLoad h
  | store => exact .execStore h
  | dmaDone => exact .execDmaDone h
  | score => exact .execScore h
  | pv => exact .execPv h
  | adrain => exact .execAdrain h
  | attPhaseDone => exact .execAttPhaseDone h
  | combine => exact .execCombine h
  | dot => exact .execDot h
  | normRms => exact .execNormRms h
  | normLayer => exact .execNormLayer h
  | embed => exact .execEmbed h
  | elemAdd => exact .execElemAdd h
  | elemMul => exact .execElemMul h
  | elemFma => exact .execElemFma h
  | elemDiv => exact .execElemDiv h
  | elemRecip => exact .execElemRecip h
  | elemRsqrt => exact .execElemRsqrt h
  | elemExp2 => exact .execElemExp2 h
  | elemLog2 => exact .execElemLog2 h
  | brzOpDone => exact .execBrzOpDone h
  | gbegin => exact .execGbegin h
  | gcheck => exact .execGcheck h
  | gcheckVerdict => exact .execGcheckVerdict h
  | grdCtlWrite => exact .execGrdCtlWrite h
  | tdot => exact .execTdot h
  | pred => exact .execPred h
  | sdot => exact .execSdot h
  | bobDone => exact .execBobDone h
  | runStart => exact .execRunStart h
  | runStop => exact .execRunStop h
  | loomCntClr => exact .execLoomCntClr h
  | draftStoreWrite => exact .execDraftStoreWrite h
  | nop => exact .execNop h
  | step => exact .execStep h
  | stepLaunch => exact .execStepLaunch h
  | endStep => exact .execEndStep h
  | endReport => exact .execEndReport h
  | loop => exact .execLoop h
  | endloop => exact .execEndloop h
  | skipz => exact .execSkipz h
  | waitTally => exact .execWaitTally h
  | waitColl => exact .execWaitColl h
  | waitWrites => exact .execWaitWrites h
  | tile => exact .execTile h
  | repay => exact .execRepay h
  | peerFaultStop => exact .execPeerFaultStop h
  | scrubLine => exact .execScrubLine h
  | ncInboundServe => exact .execNcInboundServe h
  | route => exact .execRoute h
  | scatter => exact .execScatter h
  | tally => exact .execTally h
  | shtReturn => exact .execShtReturn h
  | maskset => exact .execMaskset h
  | audit => exact .execAudit h
  | exit => exact .execExit h
  | fill => exact .execFill h
  | shtOpDone => exact .execShtOpDone h
  | recordLanding => exact .execRecordLanding h
  | tallyMsg => exact .execTallyMsg h
  | ovfClaim => exact .execOvfClaim h
  | ovfGrant => exact .execOvfGrant h
  | admitRq => exact .execAdmit h
  | cancel => exact .execCancel h
  | evict => exact .execEvict h
  | boltOpen => exact .execBoltOpen h
  | boltClose => exact .execBoltClose h
  | variantLoadDone => exact .execVariantLoadDone h
  | variantLoadFail => exact .execVariantLoadFail h
  | svcAllowWrite => exact .execSvcAllowWrite h
  | svcFloorMhzWrite => exact .execSvcFloorMhzWrite h
  | svcRqSizeWrite => exact .execSvcRqSizeWrite h
  | svcCntClr => exact .execSvcCntClr h
  | stepFreeze => exact .execStepFreeze h
  | stepSeal => exact .execStepSeal h
  | stepTimeout => exact .execStepTimeout h
  | tokenRefill => exact .execTokenRefill h
  | regionWrite => exact .execRegionWrite h
  | regionClear => exact .execRegionClear h
  | hbmAccess => exact .execHbmAccess h
  | cacheFlush => exact .execCacheFlush h
  | cacheFlushDone => exact .execCacheFlushDone h
  | hbmLoopWrite => exact .execHbmLoopWrite h
  | keyLoad => exact .execKeyLoad h
  | keyZero => exact .execKeyZero h
  | create => exact .execCreate h
  | write => exact .execWrite h
  | read => exact .execRead h
  | readimg => exact .execReadimg h
  | delete => exact .execDelete h
  | stat => exact .execStat h
  | readRefresh => exact .execReadRefresh h
  | wearLevel => exact .execWearLevel h
  | lend => exact .execLend h
  | accept => exact .execAccept h
  | decline => exact .execDecline h
  | reclaim => exact .execReclaim h
  | writeback => exact .execWriteback h
  | clean => exact .execClean h
  | release => exact .execRelease h
  | copyimg => exact .execCopyimg h
  | tierRingSizeWrite => exact .execTierRingSizeWrite h
  | leaseOffer => exact .execLeaseOffer h
  | leaseAccept => exact .execLeaseAccept h
  | leaseDecline => exact .execLeaseDecline h
  | leaseReclaim => exact .execLeaseReclaim h
  | leaseRelease => exact .execLeaseRelease h
  | leaseRevoke => exact .execLeaseRevoke h
  | leaseKeepalive => exact .execLeaseKeepalive h
  | keepaliveSend => exact .execKeepaliveSend h
  | reclaimDeadline => exact .execReclaimDeadline h
  | keepaliveMiss => exact .execKeepaliveMiss h
  | linkTrained => exact .execLinkTrained h
  | trainFail => exact .execTrainFail h
  | lossOfSignal => exact .execLossOfSignal h
  | retrain => exact .execRetrain h
  | portDisableWrite => exact .execPortDisableWrite h
  | capSend => exact .execCapSend h
  | cap => exact .execCap h
  | negotiateTimeout => exact .execNegotiateTimeout h
  | authChal => exact .execAuthChal h
  | authProof => exact .execAuthProof h
  | authResult => exact .execAuthResult h
  | authTimeout => exact .execAuthTimeout h
  | flitReceive => exact .execFlitReceive h
  | nak => exact .execNak h
  | packetForward => exact .execPacketForward h
  | packetWrite => exact .execPacketWrite h
  | packetRead => exact .execPacketRead h
  | fetchAdd => exact .execFetchAdd h
  | masked => exact .execMasked h
  | readresp => exact .execReadresp h
  | wrack => exact .execWrack h
  | atomresp => exact .execAtomresp h
  | requestTimeout => exact .execRequestTimeout h
  | syncSend => exact .execSyncSend h
  | sync => exact .execSync h
  | syncResp => exact .execSyncResp h
  | refclkLoss => exact .execRefclkLoss h
  | coll => exact .execColl h
  | hostmsg => exact .execHostmsg h
  | ethPacket => exact .execEthPacket h
  | ethFrameRx => exact .execEthFrameRx h
  | ethFrameTx => exact .execEthFrameTx h
  | fabCntClr => exact .execFabCntClr h
  | cardLoadFull => exact .execCardLoadFull h
  | cardLoadFunction => exact .execCardLoadFunction h
  | cardCommit => exact .execCardCommit h
  | lockstepMismatch => exact .execLockstepMismatch h
  | watchdogExpire => exact .execWatchdogExpire h
  | sensorSample => exact .execSensorSample h
  | railFault => exact .execRailFault h
  | pmbAlert => exact .execPmbAlert h
  | coldReset => exact .execColdReset
  | powerOnDetect => exact .execPowerOnDetect
  | bootVerify => exact .execBootVerify h
  | bootRails => exact .execBootRails h
  | bootHbm => exact .execBootHbm h
  | bootPhy => exact .execBootPhy h
  | bootNand => exact .execBootNand h
  | bootCard => exact .execBootCard h
  | bootHost => exact .execBootHost h
  | bootRun => exact .execBootRun h
  | hello => exact .execHello h
  | logRead => exact .execLogRead h
  | sensors => exact .execSensors h
  | assayGet => exact .execAssayGet h
  | auth => exact .execAuth h
  | data _ _ gap => exact .execData (_gap := gap) h
  | endRecovery => exact .execEndRecovery h
  | sessionTimeout => exact .execSessionTimeout h
  | mgmtLinkFallback => exact .execMgmtLinkFallback h
  | stage => exact .execStage h
  | commit => exact .execCommit h
  | fuseAdvance => exact .execFuseAdvance h
  | cardPersist => exact .execCardPersist h
  | assay => exact .execAssay h
  | test => exact .execTest h
  | testStart => exact .execTestStart h
  | testDrainTimeout => exact .execTestDrainTimeout h
  | bench => exact .execBench h
  | unbench => exact .execUnbench h
  | selfReset => exact .execSelfReset h
  | provision => exact .execProvision h
  | errorRecordDeliver => exact .execErrorRecordDeliver h
  | logSuppressWindow => exact .execLogSuppressWindow h
  | logPersist => exact .execLogPersist h
  | logFlush => exact .execLogFlush h
  | temperPeriod => exact .execTemperPeriod h
  | dvfsFreq => exact .execDvfsFreq h
  | dvfsVolt => exact .execDvfsVolt h
  | dvfsApply => exact .execDvfsApply h
  | voltSlewDone => exact .execVoltSlewDone h
  | ldgBudgetMinWrite => exact .execLdgBudgetMinWrite h
  | ldgCntClr => exact .execLdgCntClr h
  | domainQuietExpire => exact .execDomainQuietExpire h
  | domainSaveDone => exact .execDomainSaveDone h
  | domainWakeDone => exact .execDomainWakeDone h
  | swvotesWrite => exact .execSwvotesWrite h
  | standby => exact .execStandby h
  | wakePattern => exact .execWakePattern h
  | ethSignalDetect => exact .execEthSignalDetect h
  | mgmtWake => exact .execMgmtWake h
  | brownOut => exact .execBrownOut h
  | wakeTx => exact .execWakeTx h
  | warmReset => exact .execWarmReset h
  | functionReset => exact .execFunctionReset h
  | loomReset => exact .execLoomReset h
  | slvCommandDone => exact .execSlvCommandDone h
  | tierCommandDone => exact .execTierCommandDone h
  | ethLinkUp => exact .execEthLinkUp h
  | ethLinkLoss => exact .execEthLinkLoss h
  | ethCtlWrite => exact .execEthCtlWrite h
  | refclkRestore => exact .execRefclkRestore h
  | testAccessPort => exact .execTestAccessPort h
  | garbageCollection => exact .execGarbageCollection h

theorem BoundedNext.idle (h : Bounded t) : BoundedNext t.idle := by
  unfold State.idle
  split
  · exact .next h.tick
  · split
    · exact .next h.tick
    · exact .exec h.withWaiting

theorem BoundedNext.step (h : Bounded t) : BoundedNext (Machine.step t) := by
  unfold Machine.step
  split
  · exact .idle h
  · exact .exec h.withPending


/-- Settles O17: the looms change by their own operations alone, and those that touch accumulators or loops keep them within their bounds
(`Bounded`). -/
theorem stepKeepsBounds : Obligations.StepKeepsBounds := fun _ _ h e =>
  withinBounds_iff.2 (BoundedNext.step (withinBounds_iff.1 h) _ e)

end Sys2Proof.Machine
end

section
/-! PROOF. Packed trits (R58, R59): what R59 says holds of the model, and where the statement says something else. -/
namespace Sys2Proof.Machine

/-- A trit. -/
def IsTrit (x : Int) : Prop := x = -1 ∨ x = 0 ∨ x = 1

theorem digit_le {l : List Int} (h : ∀ x ∈ l, IsTrit x) (i : Nat) : (l.getD i 0 + 1).toNat ≤ 2 := by
  rw [List.getD_eq_getElem?_getD]
  cases hi : l[i]? with
  | none => decide
  | some x =>
    have hx : IsTrit x := h x (List.mem_of_getElem? hi)
    unfold IsTrit at hx
    simp only [Option.getD_some]
    omega

theorem pack5_le {l : List Int} (h : ∀ x ∈ l, IsTrit x) : pack5 l ≤ 242 := by
  have h0 := digit_le h 0
  have h1 := digit_le h 1
  have h2 := digit_le h 2
  have h3 := digit_le h 3
  have h4 := digit_le h 4
  unfold pack5
  dsimp only
  omega

/-- The bytes that the DMA writes are 0 to 242 (R59). -/
theorem packTrits_le {fuel : Nat} {l : List Int} (h : ∀ x ∈ l, IsTrit x) : ∀ b ∈ packTrits fuel l, b.toNat ≤ 242 := by
  induction fuel generalizing l with
  | zero => exact List.forall_mem_nil _
  | succ fuel ih =>
    rw [packTrits]
    split
    · exact List.forall_mem_nil _
    · refine List.forall_mem_cons.2 ⟨?_, ih fun x hx => h x (List.mem_of_mem_drop hx)⟩
      rw [BitVec.toNat_ofNat]
      exact (Nat.mod_le _ _).trans (pack5_le fun x hx => h x (List.mem_of_mem_take hx))

/-- 243 is the weight of a sixth digit, which five trits do not show (R58). -/
theorem unpack5_sub_243 {b : Nat} (hlo : 243 ≤ b) (hhi : b < 256) : unpack5 b = unpack5 (b - 243) := by
  refine List.map_congr_left fun p hp => ?_
  simp only [List.mem_cons, List.not_mem_nil, or_false] at hp
  rcases hp with rfl | rfl | rfl | rfl | rfl <;> omega

/-- The trit at place i is the digit of weight 3 ^ i, less 1 as an integer (R58). -/
theorem unpack5_getElem? (b : Nat) (i : Fin 5) : (unpack5 b)[i.val]? = some (((b / 3 ^ i.val % 3 : Nat) : Int) - 1) := by
  have hweights : [1, 3, 9, 27, 81] = (List.range 5).map (3 ^ ·) := rfl
  rw [unpack5, hweights, List.map_map, List.getElem?_map, List.getElem?_range i.isLt]
  rfl

/-- A load's status is that of its header and table, whatever the payload. -/
theorem State.tloadResult_status_congr {s t : State} {n : LoomNo} {slot a : Nat} (hread : s.spRead n a 16 = t.spRead n a 16)
    (htable : s.tableAt n slot = t.tableAt n slot) : (s.tloadResult n slot a).1 = (t.tloadResult n slot a).1 := by
  unfold State.tloadResult
  dsimp only
  rw [hread, htable]

/-- R59 of the model, with the digit less 1 an integer as in R58: what `Obligations.TritBytesDecode` says but for its truncated
subtraction. -/
theorem tritBytesDecode_of_integers :
    (∀ (fuel : Nat) (l : List Int), (∀ x ∈ l, IsTrit x) → ∀ b ∈ packTrits fuel l, b.toNat ≤ 242)
    ∧ (∀ b : Byte, 243 ≤ b.toNat → unpack5 b.toNat = unpack5 (b.toNat - 243)
        ∧ ∀ i : Fin 5, (unpack5 b.toNat)[i.val]? = some (((b.toNat / 3 ^ i.val % 3 : Nat) : Int) - 1))
    ∧ (∀ (s t : State) (n : LoomNo) (slot a : Nat), s.spRead n a 16 = t.spRead n a 16 → s.tableAt n slot = t.tableAt n slot →
        (s.tloadResult n slot a).1 = (t.tloadResult n slot a).1) :=
  ⟨fun _ _ => packTrits_le, fun b hb => ⟨unpack5_sub_243 hb b.isLt, unpack5_getElem? _⟩,
    fun _ _ _ _ _ => State.tloadResult_status_congr⟩

/-- Refutes O57, in the clause on each trit of a byte: its Lean text takes 1 from the digit as a natural number, before the digit becomes an
integer, so that a digit of 0 would be the trit 0. The first trit of the byte 243 is -1, as R58 says. That clause with an integer
subtraction, and the others, hold (`tritBytesDecode_of_integers`). -/
theorem not_tritBytesDecode : ¬ Obligations.TritBytesDecode := by
  intro ⟨_, hdecode, _⟩
  obtain ⟨_, htrits⟩ := hdecode 243#8 (by decide)
  have hfirst : (unpack5 243)[0]? = some 0 := htrits 0
  exact absurd hfirst (by decide)

end Sys2Proof.Machine
end

section
/-! PROOF. What every word that issues, or that is a Draft fault, leaves as it was (R235, R248, R252). -/
namespace Sys2Proof.Machine

/-- A Draft fault leaves memory and its poison marks. -/
theorem State.draftFault_memory (s : State) (n pc unit cause : Nat) :
    (s.draftFault n pc unit cause).mem = s.mem ∧ (s.draftFault n pc unit cause).poison = s.poison := by
  have hsettle (u : State) : (u.settle n).mem = u.mem ∧ (u.settle n).poison = u.poison :=
    have h := (u.settle_onlyLoom n).1
    ⟨(congrArg State.mem h :), (congrArg State.poison h :)⟩
  have hpeers (l : List Nat) (u : State) : (l.foldl (fun s m => s.set (LOOM_STATUS_PEER_FAULT m) 1) u).mem = u.mem
      ∧ (l.foldl (fun s m => s.set (LOOM_STATUS_PEER_FAULT m) 1) u).poison = u.poison :=
    have h := State.peerFaults_frame l u
    ⟨(congrArg State.mem h :), (congrArg State.poison h :)⟩
  unfold State.draftFault
  simp [hsettle, hpeers]

theorem State.draftFault_sameMemory (s : State) (n pc unit cause : Nat) : SameMemory s (s.draftFault n pc unit cause) :=
  ⟨fun a => congrArg (fun m => tget 0 m a) (s.draftFault_memory n pc unit cause).1, (s.draftFault_memory n pc unit cause).2⟩

@[simp] theorem State.closeTile_next (s : State) (n : Nat) : ((s.closeTile n).lm n).seq.next = (s.lm n).seq.next := by
  have hlooms : (s.returnCredits n).looms = s.looms := (s.returnCredits_onlyFields n).looms
  simp [State.closeTile, State.lm, hlooms, State.modSeq, State.setLm]

@[simp] theorem State.settle_next (s : State) (n : Nat) : ((s.settle n).lm n).seq.next = (s.lm n).seq.next := by
  unfold State.settle
  split
  · exact s.closeTile_next n
  · rfl

/-- A Draft fault leaves the sequencer at the word at fault. -/
theorem State.draftFault_next (s : State) (n pc unit cause : Nat) : ((s.draftFault n pc unit cause).lm n).seq.next = (s.lm n).seq.next := by
  have hpeers (l : List Nat) (u : State) : (l.foldl (fun s m => s.set (LOOM_STATUS_PEER_FAULT m) 1) u).looms = u.looms :=
    (congrArg State.looms (State.peerFaults_frame l u) :)
  unfold State.draftFault
  rw [State.settle_next]
  simp [State.lm, hpeers, State.modSeq, State.setLm]

/-- A word that does not issue meets no memory events. -/
theorem State.withEvents_stays {s : State} {n : Nat} {ev : CycleEvs} {f : State → State} (h : ((f s).lm n).seq.next = (s.lm n).seq.next) :
    s.withEvents n ev f = f s := if_pos h

/-- A register of one of loom n's engines is none that a Draft fault writes besides the engine's own. -/
theorem engineField_offFault {f : Fld} {n : Nat} (hlo : 8 * (lwin n + 0xF10000) ≤ f.key) (hhi : f.key < 8 * (lwin n + 0x1000000)) :
    f.key ∉ (faultFields n).map Fld.key ∧ ∀ m, f.key ≠ (LOOM_STATUS_PEER_FAULT m).key := by
  simp only [lwin] at hlo hhi
  constructor
  · simp only [faultFields, List.map_cons, List.map_nil, List.mem_cons, List.not_mem_nil, or_false, not_or, LOOM_STATUS_FAULT, LOOM_STATUS_RUN,
      LOOM_FAULT_CAUSE, LOOM_FAULT_UNIT, LOOM_FAULT_PC, LDG_CREDIT_HELD, LDG_STATUS_OUTSTANDING, LDG_STATUS_FREE, LDG_HEAD_VALID, LDG_HEAD_LOOM,
      LDG_HEAD_REQ]
    omega
  · intro m
    simp only [LOOM_STATUS_PEER_FAULT]
    omega

theorem State.draftFault_engineField (s : State) (n pc unit cause : Nat) {f : Fld} (hlo : 8 * (lwin n + 0xF10000) ≤ f.key)
    (hhi : f.key < 8 * (lwin n + 0x1000000)) : (s.draftFault n pc unit cause).get f = s.get f :=
  have h := engineField_offFault hlo hhi
  State.draftFault_get _ _ _ _ _ h.2 h.1

/-- An engine's fault sets the engine's own error bit and stops the Draft there (R248, R249). -/
theorem State.engineFault_spec (s : State) (n unit : Nat) {bit : Fld} (hlo : 8 * (lwin n + 0xF10000) ≤ bit.key)
    (hhi : bit.key < 8 * (lwin n + 0x1000000)) (hbit : bit.width = 1) (hunit : unit < 16) :
    (s.engineFault n unit bit).get bit = 1 ∧ (s.engineFault n unit bit).get (LOOM_STATUS_FAULT n) = 1
      ∧ (s.engineFault n unit bit).get (LOOM_FAULT_CAUSE n) = 4 ∧ (s.engineFault n unit bit).get (LOOM_FAULT_UNIT n) = unit
      ∧ SameMemory s (s.engineFault n unit bit) ∧ ((s.engineFault n unit bit).lm n).seq.next = (s.lm n).seq.next := by
  obtain ⟨hfault, -, hcause, hwhere, -⟩ := (s.set bit 1).draftFault_status n (s.lm n).seq.next unit 4
  refine ⟨(State.draftFault_engineField _ _ _ _ _ hlo hhi).trans ?_, hfault, hcause, hwhere.trans (Nat.mod_eq_of_lt hunit),
    (s.set bit 1).draftFault_sameMemory _ _ _ _, State.draftFault_next _ _ _ _ _⟩
  rw [State.get_set_same, hbit]
  rfl

end Sys2Proof.Machine
end

section
/-! PROOF. ARRAY words at issue: what the operation asks of the ledger, and the refusal of rows beyond the accumulator memory (R73, R74, R239). -/
namespace Sys2Proof.Machine

theorem exec_array {n : LoomNo} {evs : CycleEvs} {r : Nat} {c : Instr} (h : (r, c) ∈ arrayCommands n evs) (s : State) :
    exec c s = .next (s.withEvents n evs fun s => s.arrayIssue n r) := by
  simp only [arrayCommands, List.mem_cons, Prod.mk.injEq, List.not_mem_nil, or_false] at h
  rcases h with ⟨rfl, rfl⟩ | ⟨rfl, rfl⟩ | ⟨rfl, rfl⟩ <;> rfl

/-- The operation as it issues: it has not read its operands yet. -/
def State.arrOpIssued (s : State) (n : Nat) (l : List Byte) : ArrOp :=
  { arrOpOf l with span := s.is (GRD_STATUS_SPAN_OPEN n), found := (s.lm n).spd.fresh }

/-- The ARRAY word of operation o has issued, and asks the ledger next. -/
def State.arrayStarted (s : State) (n : Nat) (w : DWord) (o : ArrOp) : State :=
  let t := (s.advance n w).modArr n fun a => { a with ops := a.ops ++ [o] }
  if o.chainFirst then t.modSeq n fun q => { q with pool := o.oslack, slipped := 0 } else t

theorem State.arrayStarted_spec (s : State) (n : Nat) (w : DWord) (o : ArrOp) :
    OnlyLoom s (s.arrayStarted n w o) n [LOOM_PC_PC n] ∧ ((s.arrayStarted n w o).lm n).arr.ops = (s.lm n).arr.ops ++ [o]
      ∧ ((s.arrayStarted n w o).lm n).seq.next = (s.lm n).seq.next + 1 := by
  have hadvance : ((s.advance n w).lm n).arr = (s.lm n).arr := by simp [State.advance, State.spanUnit]
  have honly : OnlyLoom s ((s.advance n w).modArr n fun a => { a with ops := a.ops ++ [o] }) n [LOOM_PC_PC n] := (s.advance_onlyLoom n w).setLm _
  unfold State.arrayStarted
  dsimp only
  split
  · exact ⟨honly.setLm _, by simp [hadvance], by simp⟩
  · exact ⟨honly, by simp [hadvance], by simp⟩

/-- An ARRAY word that no check refuses asks the ledger for its tile. -/
theorem State.arrayIssue_ok {s : State} {n : Nat} {w : DWord} {l : List Byte} (hw : s.fetchWord n 1 0 = .ok w) (hl : s.blockBytes n w.arg = l)
    (hplace : s.blockMisplaced n w.arg = false) (hblock : arrBlockBad n l = false) (hrows : rowsBad (arrOpOf l) = false)
    (hfmt : s.fmtBad n (arrOpOf l) = false) (hbuf : s.bufEmpty n (arrOpOf l) = false) (hpsum : s.psumBad n (arrOpOf l) = false)
    (hpad : inSpad n (s.arrRanges n (arrOpOf l)) = true) :
    s.arrayIssue n (arrOpOf l).reduce = s.requestTile (s.arrayStarted n w (s.arrOpIssued n l)) n w := by
  refine (State.issue_ok hw).trans ?_
  simp only [hl, hplace, hblock, hrows, hfmt, hbuf, hpsum, hpad, bne_self_eq_false, Bool.or_self, Bool.false_and, Bool.not_true,
    Bool.false_eq_true, if_false]
  rfl

/-- A tile request that waits leaves the array, the place in the Draft and memory. -/
theorem State.requestTile_keeps {s : State} (t : State) {n : Nat} {w : DWord} (hpos : 0 < s.requestSize n w.lmode)
    (hfits : s.requestSize n w.lmode ≤ s.get LDG_BUDGET_MIN_EFFECTIVE - s.get LDG_RESERVE_RESERVE) :
    ((s.requestTile t n w).lm n).arr = (t.lm n).arr ∧ ((s.requestTile t n w).lm n).seq.next = (t.lm n).seq.next
      ∧ (s.requestTile t n w).mem = t.mem := by
  have hwait (u : State) (l : List LdgReq) : (({ u with ledger := l } : State).ledgerShow).lm n = u.lm n
      ∧ (({ u with ledger := l } : State).ledgerShow).mem = u.mem :=
    have h := ({ u with ledger := l } : State).ledgerShow_onlyFields
    ⟨congrArg (fun m => tget Loom.reset m n) h.looms, (congrArg State.mem h.1 :)⟩
  unfold State.requestTile
  dsimp only
  rw [if_neg (by omega), if_neg (by omega), (hwait _ _).1, (hwait _ _).2]
  simp [State.beginPause]

/-- An ARRAY word whose operation R74 refuses sets the bit of each refusal (R91, R101). -/
def State.arrayRefused (s : State) (n : Nat) (o : ArrOp) : State :=
  let s := if rowsBad o then s.set (ACC_ERR_ROW_RANGE n) 1 else s
  let s := if s.fmtBad n o then s.set (ARR_ERR_FMT_REFUSED n) 1 else s
  let s := if s.bufEmpty n o then s.set (ARR_ERR_WBUF_EMPTY n) 1 else s
  if s.psumBad n o then s.set (ACC_ERR_PSUM_RANGE n) 1 else s

theorem State.arrayIssue_rowsBad {s : State} {n : Nat} {w : DWord} {l : List Byte} (hw : s.fetchWord n 1 0 = .ok w) (hl : s.blockBytes n w.arg = l)
    (hplace : s.blockMisplaced n w.arg = false) (hblock : arrBlockBad n l = false) (hrows : rowsBad (arrOpOf l) = true) :
    s.arrayIssue n (arrOpOf l).reduce = (s.arrayRefused n (arrOpOf l)).wordFault n 1 4 := by
  refine (State.issue_ok hw).trans ?_
  simp only [hl, hplace, hblock, hrows, bne_self_eq_false, Bool.or_self, Bool.false_and, Bool.true_or, Bool.false_eq_true, if_false, if_true,
    State.arrayRefused]

/-- A choice between a state and one with one more register set changes no more than that register. -/
theorem OnlyFields.iteSet {s t : State} {fs : List Fld} (h : OnlyFields s t fs) (c : Bool) (f : Fld) (v : Nat) (hf : f ∈ fs) :
    OnlyFields s (if c then t.set f v else t) fs := by
  split
  · exact h.set f v hf
  · exact h

/-- With rows beyond the accumulator memory ROW_RANGE is set, and at most the bits of the other refusals. -/
theorem State.arrayRefused_rowsBad (s : State) (n : Nat) {o : ArrOp} (hrows : rowsBad o = true) :
    OnlyFields (s.set (ACC_ERR_ROW_RANGE n) 1) (s.arrayRefused n o) [ARR_ERR_FMT_REFUSED n, ARR_ERR_WBUF_EMPTY n, ACC_ERR_PSUM_RANGE n] := by
  unfold State.arrayRefused
  rw [hrows]
  exact (((OnlyFields.refl _ _).iteSet _ _ _ (by simp)).iteSet _ _ _ (by simp)).iteSet _ _ _ (by simp)

theorem arrayWordsStart : ArrayWordsStart := by
  intro n evs s w c c0 r hc hc0 hw hplace hblock hreduce
  subst hreduce
  refine ⟨fun hrows hfmt hbuf hpsum hpad hpos hfits => ?_, fun hrows => ?_⟩
  · have hissue := State.arrayIssue_ok hw rfl hplace hblock hrows hfmt hbuf hpsum hpad
    obtain ⟨honly, hops, hnext⟩ := s.arrayStarted_spec n w (s.arrOpIssued n (s.blockBytes n w.arg))
    have hledger := (congrArg State.ledger honly.1 :)
    have hmem := (congrArg State.mem honly.1 :)
    have hcard := (congrArg State.card honly.1 :)
    generalize s.arrayStarted n w (s.arrOpIssued n (s.blockBytes n w.arg)) = t at hissue honly hops hnext hledger hmem hcard
    have hclass : t.ledgerClass n = s.ledgerClass n := by
      have hbolt : t.card = s.card := hcard
      simp only [State.ledgerClass, State.boltOf, State.inBolt, State.boltValid, State.boltEntry, hbolt]
    obtain ⟨harr, hplaced, hsame⟩ := State.requestTile_keeps t hpos hfits
    obtain ⟨u, hu, hjoin, hpause, -, -, hothers⟩ := State.requestTile_asks t hpos hfits
    rw [hu] at harr hplaced hsame hissue
    have hnext' : ((s.arrayIssue n (arrOpOf (s.blockBytes n w.arg)).reduce).lm n).seq.next = (s.lm n).seq.next + 1 := by
      rw [hissue, hplaced, hnext]
    have hrun := State.withEvents_none (s := s) (n := n) (f := fun s => s.arrayIssue n (arrOpOf (s.blockBytes n w.arg)).reduce) (by omega)
    rw [hissue] at hrun
    refine ⟨u.eccSeen n, (exec_array hc0 s).trans (congrArg Host.Outcome.next hrun), ?_, ?_, ?_, ?_, hsame.trans hmem, fun m hm => ?_⟩
    · simp [State.eccSeen, harr, hops, State.arrOpIssued]
    · show JoinsInOrder _ _ u.ledger
      rw [hjoin, hclass, hledger]
      exact joinLedger_joins _ _
    · rw [State.eccSeen_seq, hplaced, hnext]
    · rw [State.eccSeen_seq, hpause]
    · exact ((u.eccSeen_frame n).2.1 m hm).trans ((hothers m hm).trans (honly.2.1 m hm))
  · have hissue := State.arrayIssue_rowsBad hw rfl hplace hblock hrows
    have hrefused := s.arrayRefused_rowsBad n hrows
    generalize s.arrayRefused n (arrOpOf (s.blockBytes n w.arg)) = v at hissue hrefused
    have hlm : v.lm n = s.lm n := congrArg (fun l => tget Loom.reset l n) hrefused.looms
    have hstays : ((s.arrayIssue n (arrOpOf (s.blockBytes n w.arg)).reduce).lm n).seq.next = (s.lm n).seq.next := by
      rw [hissue, ← hlm]
      exact State.draftFault_next _ _ _ _ _
    obtain ⟨hfault, -, hcause, -⟩ := v.draftFault_status n (v.lm n).seq.next 1 4
    refine ⟨_, (exec_array hc s).trans (congrArg Host.Outcome.next ((State.withEvents_stays hstays).trans hissue)), ?_, hfault, hcause,
      (State.draftFault_ledger _ _ _ _ _).trans (congrArg State.ledger hrefused.1 :),
      (State.draftFault_memory _ _ _ _ _).1.trans (congrArg State.mem hrefused.1 :)⟩
    refine (State.draftFault_engineField _ _ _ _ _ ?_ ?_).trans ((hrefused.2 _ ?_).trans (State.get_set_same _ _ _))
    · simp only [ACC_ERR_ROW_RANGE, lwin]
      omega
    · simp only [ACC_ERR_ROW_RANGE, lwin]
      omega
    · simp [ACC_ERR_ROW_RANGE, ARR_ERR_FMT_REFUSED, ARR_ERR_WBUF_EMPTY, ACC_ERR_PSUM_RANGE]
      omega

end Sys2Proof.Machine
end

section
/-! PROOF. What a cycle in flight leaves where it lands: its row of accumulators, the operations, and the registers (R79, R81, R89, R97, R183). -/
namespace Sys2Proof.Machine

/-- What a landing cycle makes of its row, which INIT begins anew (R73, R79, R97, R183). -/
def State.landed (s : State) (n : Nat) (o : ArrOp) (it : ArrItem) : RowUpd :=
  itemUpdate o o.buf (s.window n (s.activeSet n) (o.row0 + itemRow it))
    (if o.init && firstOfRow it then List.replicate 512 (initAcc o.reduce) else s.accRow n (s.activeSet n) (o.row0 + itemRow it)) it

/-- The accumulator memory takes the row of a landing cycle, with its marks and its SAT bit. -/
def State.landInRow (s : State) (n : Nat) (o : ArrOp) (it : ArrItem) : State :=
  let row := o.row0 + itemRow it
  let set := s.activeSet n
  let u := s.landed n o it
  let poison := itemPoison it || o.buf.poison
  let s := if o.init && firstOfRow it then (s.clearSat n set row).markRow n set row false else s
  let s := (s.putRow n set row u.row).noteKind n set row o.reduce
  let s := if poison then s.markRow n set row true else s
  if u.sats = 0 then s else s.setSat n set row

/-- The registers of a landing cycle after SAT_ANY. -/
def State.landCounts (s : State) (n : Nat) (o : ArrOp) (it : ArrItem) (u : RowUpd) : State :=
  let s := if u.nan then s.set (ARR_ERR_SCALE_NAN n) 1 else s
  let s := if itemPoison it || o.buf.poison then s else s.guardAdd n o.span u.counts
  let s := match it with
    | .outlier _ _ v _ => if (outlierInt v 0).isSome then s.add (BRZ_CNT_OUTLIER_OUTLIER n) 1 else s
    | _ => s.add (ARR_CNT_ROWCYC_ROWCYC n) 1
  ((s.addHold (ACC_CNT_SAT_SAT n) u.sats).addHold (ACC_CNT_ZERO_ZERO n) u.counts.czero).add (ARR_CNT_MAC_MAC n) u.mac

/-- A landing in the accumulator memory: the row, SAT_ANY, and the other registers. -/
theorem State.landItem_eq {s : State} {n : Nat} (hcompat : s.compat n = false) (o : ArrOp) (it : ArrItem) :
    s.landItem n o it = (if (s.landed n o it).sats = 0 then s.landInRow n o it
      else (s.landInRow n o it).set (ACC_STATUS_SAT_ANY n) 1).landCounts n o it (s.landed n o it) := by
  unfold State.landItem
  simp only [hcompat, Bool.false_eq_true, if_false, Bool.false_and, Bool.or_false]
  rfl

/-- From s to t only register fields and loom n change, of whose array part the operations stay and the accumulators are as given. -/
structure Lands (s : State) (n : Nat) (acc : List (Nat × List Int)) (t : State) : Prop where
  rest : { t with flds := s.flds, looms := s.looms } = s
  others : ∀ m, m ≠ n → t.lm m = s.lm m
  acc : (t.lm n).arr.acc = acc
  ops : (t.lm n).arr.ops = (s.lm n).arr.ops

namespace Lands
variable {s t : State} {n : Nat} {acc : List (Nat × List Int)}

theorem set (h : Lands s n acc t) (f : Fld) (v : Nat) : Lands s n acc (t.set f v) := ⟨h.rest, h.others, h.acc, h.ops⟩

theorem modArr (h : Lands s n acc t) {f : Arr → Arr} {acc' : List (Nat × List Int)} (hacc : (f (t.lm n).arr).acc = acc')
    (hops : (f (t.lm n).arr).ops = (t.lm n).arr.ops) : Lands s n acc' (t.modArr n f) where
  rest := h.rest
  others m hm := (State.lm_modArr_ne t f hm).trans (h.others m hm)
  acc := by rw [State.lm_modArr_same, hacc]
  ops := by rw [State.lm_modArr_same, hops, h.ops]

theorem markRow (h : Lands s n acc t) (set row : Nat) (p : Bool) : Lands s n acc (t.markRow n set row p) := h.modArr h.acc rfl

theorem noteKind (h : Lands s n acc t) (set row k : Nat) : Lands s n acc (t.noteKind n set row k) := h.modArr h.acc rfl

theorem putRow (h : Lands s n acc t) (set row : Nat) (r : List Int) :
    Lands s n (tput (List.replicate 512 0) acc (rowKey set row) r) (t.putRow n set row r) :=
  h.modArr (congrArg (fun m => tput (List.replicate 512 0) m (rowKey set row) r) h.acc) rfl

theorem ite {c : Prop} [Decidable c] {u : State} (ht : Lands s n acc t) (hu : Lands s n acc u) : Lands s n acc (if c then t else u) := by
  split
  · exact ht
  · exact hu

end Lands

theorem State.landInRow_lands (s : State) (n : Nat) (o : ArrOp) (it : ArrItem) :
    Lands s n (tput (List.replicate 512 0) (s.lm n).arr.acc (rowKey (s.activeSet n) (o.row0 + itemRow it)) (s.landed n o it).row)
      (s.landInRow n o it) := by
  have hs : Lands s n (s.lm n).arr.acc s := ⟨rfl, fun _ _ => rfl, rfl, rfl⟩
  have hclear : Lands s n (s.lm n).arr.acc (s.clearSat n (s.activeSet n) (o.row0 + itemRow it)) := .ite (hs.set _ _) hs
  have hstart : Lands s n (s.lm n).arr.acc (if o.init && firstOfRow it then
      (s.clearSat n (s.activeSet n) (o.row0 + itemRow it)).markRow n (s.activeSet n) (o.row0 + itemRow it) false else s) :=
    .ite (hclear.markRow _ _ _) hs
  unfold State.landInRow
  extract_lets row set u poison v x y
  have hv : Lands s n (s.lm n).arr.acc v := hstart
  have hx : Lands s n (tput (List.replicate 512 0) (s.lm n).arr.acc (rowKey set row) u.row) x :=
    (hv.putRow set row u.row).noteKind set row o.reduce
  have hy : Lands s n (tput (List.replicate 512 0) (s.lm n).arr.acc (rowKey set row) u.row) y := .ite (hx.markRow _ _ _) hx
  exact .ite hy (hy.set _ _)

/-- The registers that a landing counts in. -/
def landFields (n : LoomNo) : List Fld :=
  [ARR_ERR_SCALE_NAN n, BRZ_CNT_OUTLIER_OUTLIER n, ARR_CNT_ROWCYC_ROWCYC n, ACC_CNT_SAT_SAT n, ACC_CNT_ZERO_ZERO n, ARR_CNT_MAC_MAC n] ++ guardFields n

theorem State.guardAdd_onlyFields (s : State) (n : LoomNo) (span : Bool) (c : Counts) : OnlyFields s (s.guardAdd n span c) (guardFields n) := by
  unfold State.guardAdd guardFields
  split
  · exact ((((((OnlyFields.refl s _).set _ _ (by simp)).set _ _ (by simp)).set _ _ (by simp)).set _ _ (by simp)).set _ _ (by simp)).set _ _ (by simp)
  · exact ((OnlyFields.refl s _).set _ _ (by simp)).set _ _ (by simp)

theorem State.landCounts_onlyFields (s : State) (n : LoomNo) (o : ArrOp) (it : ArrItem) (u : RowUpd) :
    OnlyFields s (s.landCounts n o it u) (landFields n) := by
  unfold State.landCounts
  extract_lets v x y
  have hv : OnlyFields s v (landFields n) := (OnlyFields.refl s _).iteSet _ _ _ (by simp [landFields])
  have hx : OnlyFields s x (landFields n) := by
    unfold x
    split
    · exact hv
    · exact hv.trans ((v.guardAdd_onlyFields n o.span u.counts).mono (List.subset_append_right _ _))
  have hy : OnlyFields s y (landFields n) := by
    unfold y
    split
    · exact hx.iteSet _ _ _ (by simp [landFields])
    · exact hx.set _ _ (by simp [landFields])
  exact ((hy.set _ _ (by simp [landFields])).set _ _ (by simp [landFields])).set _ _ (by simp [landFields])

@[simp] theorem State.settle_arr (s : State) (n : Nat) : ((s.settle n).lm n).arr = (s.lm n).arr := by
  have hlooms : (s.returnCredits n).looms = s.looms := (s.returnCredits_onlyFields n).looms
  unfold State.settle
  split
  · simp [State.closeTile, State.lm, hlooms, State.modSeq, State.setLm]
  · rfl

/-- The status registers of the array, and what it shares with the ledger when the loom has faulted. -/
def showFields (n : Nat) : List Fld :=
  [ARR_CNT_TILES_TILES n, BRZ_STATUS_OUTLIER n, ARR_STATUS_BUSY n, ACC_STATUS_IN_FLIGHT n, ARR_STATUS_MODE8 n,
    LDG_CREDIT_HELD n, LDG_STATUS_OUTSTANDING, LDG_STATUS_FREE, LDG_HEAD_VALID, LDG_HEAD_LOOM, LDG_HEAD_REQ]

theorem State.arrShow_onlyFields (s : State) (n : Nat) : OnlyFields s (s.arrShow n) (showFields n) := by
  have h : OnlyFields s (((s.set (BRZ_STATUS_OUTLIER n) (b2n ((s.lm n).arr.ops.any fun o => o.items.any fun i =>
      match i with | .outlier .. => true | _ => false))).set (ARR_STATUS_BUSY n) (b2n ((s.lm n).arr.ops.any fun o => !o.items.isEmpty))).set
      (ACC_STATUS_IN_FLIGHT n) (b2n ((s.lm n).arr.ops.any fun o => !o.items.isEmpty))) (showFields n) :=
    (((OnlyFields.refl s _).set _ _ (by simp [showFields])).set _ _ (by simp [showFields])).set _ _ (by simp [showFields])
  unfold State.arrShow
  dsimp only
  split
  · exact h
  · exact h.set _ _ (by simp [showFields])

/-- What follows a landing: the cycle leaves its operation, and the array's status is shown. -/
def State.landEnd (s : State) (n : Nat) (last : Bool) : State :=
  let s := s.modArr n fun a => { a with ops := dropFirstItem a.ops }
  let s := if last then s.add (ARR_CNT_TILES_TILES n) 1 else s
  (s.arrShow n).settle n

theorem State.landEnd_spec (s : State) (n : Nat) (last : Bool) :
    OnlyLoom s (s.landEnd n last) n (showFields n) ∧ ((s.landEnd n last).lm n).arr = { (s.lm n).arr with ops := dropFirstItem (s.lm n).arr.ops } := by
  obtain ⟨v, hv⟩ : ∃ v : State, v = s.modArr n fun a => { a with ops := dropFirstItem a.ops } := ⟨_, rfl⟩
  have honly : OnlyLoom s v n (showFields n) := hv ▸ ((OnlyFields.refl s _).onlyLoom n).setLm _
  have hcount : OnlyFields v (if last then v.add (ARR_CNT_TILES_TILES n) 1 else v) (showFields n) :=
    (OnlyFields.refl v _).iteSet _ _ _ (by simp [showFields])
  have hshow := hcount.trans (State.arrShow_onlyFields _ n)
  unfold State.landEnd
  dsimp only
  rw [← hv]
  refine ⟨honly.trans ((hshow.onlyLoom n).trans ((State.settle_onlyLoom _ n).mono (by simp [showFields]))), ?_⟩
  have hlm := congrArg (fun l => (tget Loom.reset l n).arr) hshow.looms
  rw [State.settle_arr]
  exact hlm.trans (by rw [hv]; simp [State.lm, State.modArr, State.setLm])

theorem exec_arrayResultLand {n : LoomNo} {s : State} {o : ArrOp} {rest : List ArrOp} {it : ArrItem} {its : List ArrItem}
    (hstill : s.arrStill n = false) (hops : (s.lm n).arr.ops = o :: rest) (hitems : o.items = it :: its) :
    exec (.arrayResultLand n) s = .next ((s.landItem n o it).landEnd n its.isEmpty) := by
  show execArrayResultLand n s = _
  simp [execArrayResultLand, hstill, hops, hitems, State.landEnd]

/-- A landing in the accumulator memory, whole. -/
theorem State.landing_spec {s : State} {n : LoomNo} (hcompat : s.compat n = false) (o : ArrOp) (it : ArrItem) (last : Bool) {t : State}
    (ht : (s.landItem n o it).landEnd n last = t) :
    t.accRow n (s.activeSet n) (o.row0 + itemRow it) = (s.landed n o it).row ∧ (t.lm n).arr.ops = dropFirstItem (s.lm n).arr.ops
      ∧ SameMemory s t ∧ (∀ m, m ≠ n.val → t.lm m = s.lm m) ∧ ((s.landed n o it).sats ≠ 0 → t.get (ACC_STATUS_SAT_ANY n) = 1) := by
  rw [State.landItem_eq hcompat] at ht
  have hrow := s.landInRow_lands n o it
  obtain ⟨x, hx⟩ : ∃ x, x = if (s.landed n o it).sats = 0 then s.landInRow n o it else (s.landInRow n o it).set (ACC_STATUS_SAT_ANY n) 1 := ⟨_, rfl⟩
  have hlands := hrow.ite (c := (s.landed n o it).sats = 0) (hrow.set (ACC_STATUS_SAT_ANY n) 1)
  have hcounts := x.landCounts_onlyFields n o it (s.landed n o it)
  rw [← hx] at hlands ht
  generalize x.landCounts n o it (s.landed n o it) = y at hcounts ht
  obtain ⟨honly, harr⟩ := y.landEnd_spec n last
  rw [ht] at honly harr
  have hlm (m : Nat) : y.lm m = x.lm m := congrArg (fun l => tget Loom.reset l m) hcounts.looms
  rw [hlm] at harr
  refine ⟨?_, ?_, ?_, fun m hm => (honly.2.1 m hm).trans ((hlm m).trans (hlands.others m hm)), fun hsats => ?_⟩
  · rw [State.accRow, harr, hlands.acc, tget_tput_same]
  · rw [harr, hlands.ops]
  · have hmem : x.mem = s.mem := (congrArg State.mem hlands.rest :)
    have hpoison : x.poison = s.poison := (congrArg State.poison hlands.rest :)
    exact ⟨fun a => (honly.sameMemory.1 a).trans ((hcounts.sameMemory.1 a).trans (congrArg (fun m => tget 0 m a) hmem)),
      honly.sameMemory.2.trans (hcounts.sameMemory.2.trans hpoison)⟩
  · have hset : x.get (ACC_STATUS_SAT_ANY n) = 1 := by
      rw [hx, if_neg hsats]
      exact State.get_set_same _ _ _
    refine (honly.2.2 _ ?_).trans ((hcounts.2 _ ?_).trans hset)
    · simp [showFields, ACC_STATUS_SAT_ANY, ARR_CNT_TILES_TILES, BRZ_STATUS_OUTLIER, ARR_STATUS_BUSY, ACC_STATUS_IN_FLIGHT, ARR_STATUS_MODE8,
        LDG_CREDIT_HELD, LDG_STATUS_OUTSTANDING, LDG_STATUS_FREE, LDG_HEAD_VALID, LDG_HEAD_LOOM, LDG_HEAD_REQ]
      omega
    · simp [landFields, guardFields, ACC_STATUS_SAT_ANY, ARR_ERR_SCALE_NAN, BRZ_CNT_OUTLIER_OUTLIER, ARR_CNT_ROWCYC_ROWCYC, ACC_CNT_SAT_SAT,
        ACC_CNT_ZERO_ZERO, ARR_CNT_MAC_MAC, GRD_CNT_ASAT_ASAT, GRD_CNT_AZERO_AZERO, GRD_CNT_AVALS_AVALS, GRD_CNT_CSAT_CSAT, GRD_CNT_CZERO_CZERO,
        GRD_CNT_CTERMS_CTERMS, GRD_TOT_ASAT_ASAT, GRD_TOT_CSAT_CSAT]
      omega

theorem arrayCyclesLand : ArrayCyclesLand := by
  intro n s o rest it its hstill hcompat hops hitems
  obtain ⟨hrow, hdrop, hmem, hothers, -⟩ := State.landing_spec hcompat o it its.isEmpty rfl
  exact ⟨_, exec_arrayResultLand hstill hops hitems, hrow, hops ▸ hdrop, hmem, hothers⟩

end Sys2Proof.Machine
end

section
/-! PROOF. The sum that a row cycle adds to each accumulator of its row (R76 to R81). -/
namespace Sys2Proof.Machine

/-- An aligned term is the block sum times the power of two of its shift, cut toward minus infinity (R78, R79). -/
theorem alignTerm_fst (S sh : Int) : (alignTerm S sh).1 = aligned S sh := by
  unfold alignTerm shiftFloor aligned pow2
  split
  · push_cast
    rfl
  · push_cast
    exact Int.fdiv_eq_ediv_of_nonneg _ (by positivity)

theorem satAcc_fst (v : Int) : (satAcc v).1 = max (-(2 ^ 39 - 1)) (min (2 ^ 39 - 1) v) := by
  unfold satAcc accMax
  split_ifs <;> omega

/-- An update saturates where its exact value leaves the accumulator's range (R81). -/
theorem satAcc_snd {v : Int} (h : 2 ^ 39 - 1 < v ∨ v < -(2 ^ 39 - 1)) : (satAcc v).2 = true := by
  unfold satAcc accMax
  split_ifs with hhi hlo
  · rfl
  · rfl
  · omega

/-- Lists by block group, of the 512 columns each, are lists by column. -/
theorem byColumn_getElem? {α : Type} {gs : List (List α)} (h : ∀ g ∈ gs, g.length = 512) {c : Nat} (hc : c < 512) :
    ∃ l, (byColumn gs)[c]? = some l ∧ l.map some = gs.map fun g => g[c]? := by
  induction gs with
  | nil => exact ⟨[], List.getElem?_replicate_of_lt hc, rfl⟩
  | cons g gs ih =>
    obtain ⟨l, hl, hmap⟩ := ih fun x hx => h x (List.mem_cons_of_mem g hx)
    obtain ⟨x, hx⟩ : ∃ x, g[c]? = some x := ⟨_, List.getElem?_eq_getElem (by have := h g List.mem_cons_self; omega)⟩
    exact ⟨x :: l, by simp only [byColumn, List.getElem?_zipWith, hx, hl], by simp [hmap, hx]⟩

theorem groupTerms_length (keep : Nat) (lanes : List Int) (E : Nat) (W : Int) (pass : Nat) (cols : List (List Int)) :
    (groupTerms keep lanes E W pass cols).length = cols.length := by
  unfold groupTerms
  split <;> simp

/-- What a block group adds to column c of a dense tile. -/
def groupAdds (lanes : List Int) (E : Nat) (W : Int) (pass : Nat) (col : List Int) : Int :=
  if E = 255 then 0 else aligned (List.zipWith (· * ·) lanes col).sum ((E : Int) - 127 - 1 - W - (if pass = 2 then 4 else 0))

theorem groupTerms_getElem? (lanes : List Int) (E : Nat) (W : Int) (pass : Nat) {cols : List (List Int)} {c : Nat} (hc : c < cols.length) :
    ((groupTerms 0 lanes E W pass cols)[c]?).map Prod.fst = some (groupAdds lanes E W pass (cols.getD c [])) := by
  unfold groupTerms groupAdds
  split
  · simp [hc]
  · simp [hc, alignTerm_fst, blockSum, takenWeights, blockShift, List.sum_eq_foldl]

/-- The aligned sums of every column in a row cycle of a dense tile, by block group. -/
def cycleTerms (b : WBuf) (pass : Nat) (lanes : List (List Int)) (scales : List Nat) (W : Int) : List (List (Int × Bool)) :=
  (List.range lanes.length).map fun g => groupTerms 0 (lanes.getD g []) (scales.getD g 0) W pass (b.trits.getD g [])

theorem cycleTerms_sum {b : WBuf} {pass : Nat} {lanes : List (List Int)} {scales : List Nat} {W : Int} {c : Nat}
    (hcols : ∀ g, g < lanes.length → (b.trits.getD g []).length = 512) (hc : c < 512) :
    ∃ l, (byColumn (cycleTerms b pass lanes scales W))[c]? = some l ∧ (l.map Prod.fst).foldl (· + ·) 0 = cycleSum b pass lanes scales W c := by
  have hlength : ∀ g ∈ cycleTerms b pass lanes scales W, g.length = 512 := by
    intro g hg
    obtain ⟨i, hi, rfl⟩ := List.mem_map.1 hg
    rw [groupTerms_length, hcols i (List.mem_range.1 hi)]
  obtain ⟨l, hl, hmap⟩ := byColumn_getElem? hlength hc
  refine ⟨l, hl, ?_⟩
  have hterms : l.map Prod.fst = (List.range lanes.length).map fun g =>
      groupAdds (lanes.getD g []) (scales.getD g 0) W pass ((b.trits.getD g []).getD c []) := by
    apply List.map_injective_iff.2 (Option.some_injective Int)
    calc (l.map Prod.fst).map some = (l.map some).map (Option.map Prod.fst) := by simp
      _ = _ := by
        rw [hmap, cycleTerms, List.map_map, List.map_map, List.map_map]
        refine List.map_congr_left fun g hg => ?_
        exact groupTerms_getElem? _ _ _ _ (by rw [hcols g (List.mem_range.1 hg)]; exact hc)
  rw [hterms, ← List.sum_eq_foldl]
  rfl

/-- Column c of a row cycle on a dense tile: the exact sum, saturated once; where it saturates the cycle counts it. -/
theorem rowCycle_column {o : ArrOp} {b : WBuf} {W : Int} {row : List Int} {r pass : Nat} {lanes : List (List Int)} {scales : List Nat} {p : Bool} {c : Nat}
    (hkeep : o.keep = 0) (hcols : ∀ g, g < lanes.length → (b.trits.getD g []).length = 512) (hrow : row.length = 512) (hc : c < 512) :
    (itemUpdate o b W row (.row r pass lanes scales p)).row.getD c 0 = (satAcc (row.getD c 0 + cycleSum b pass lanes scales W c)).1
      ∧ ((satAcc (row.getD c 0 + cycleSum b pass lanes scales W c)).2 = true → (itemUpdate o b W row (.row r pass lanes scales p)).sats ≠ 0) := by
  obtain ⟨l, hl, hsum⟩ := cycleTerms_sum (W := W) (pass := pass) (scales := scales) hcols hc
  obtain ⟨a, ha⟩ : ∃ a, row[c]? = some a := ⟨_, List.getElem?_eq_getElem (by omega)⟩
  have hnew : (rowUpdate row (byColumn (cycleTerms b pass lanes scales W)))[c]? = some (satAcc (a + cycleSum b pass lanes scales W c)) := by
    simp only [rowUpdate, List.getElem?_zipWith, ha, hl, accUpdate, hsum]
  have hitem : (itemUpdate o b W row (.row r pass lanes scales p)).row = (rowUpdate row (byColumn (cycleTerms b pass lanes scales W))).map Prod.fst
      ∧ (itemUpdate o b W row (.row r pass lanes scales p)).sats
        = ((rowUpdate row (byColumn (cycleTerms b pass lanes scales W))).filter (·.2)).length := by
    simp only [itemUpdate, hkeep]
    exact ⟨rfl, rfl⟩
  rw [hitem.1, hitem.2]
  simp only [List.getD_eq_getElem?_getD, List.getElem?_map, hnew, ha, Option.map_some, Option.getD_some, true_and]
  intro hsat hnone
  have hmem := List.mem_filter.2 ⟨List.mem_of_getElem? hnew, hsat⟩
  rw [List.length_eq_zero_iff.1 hnone] at hmem
  exact absurd hmem List.not_mem_nil

theorem rowCyclesAdd : RowCyclesAdd := by
  intro n s o rest its r pass c lanes scales p a v hstill hcompat hops hitems hkeep hreduce hcols hlength hc ha hv
  obtain ⟨hrow, -, -, -, hsat⟩ := State.landing_spec hcompat o (.row r pass lanes scales p) its.isEmpty rfl
  obtain ⟨row, hrowDef⟩ : ∃ row, row = if o.init && decide (pass ≤ 1) then List.replicate 512 (initAcc 0)
    else s.accRow n (s.activeSet n) (o.row0 + r) := ⟨_, rfl⟩
  have hstart : row.length = 512 ∧ row.getD c 0 = a := by
    rw [hrowDef, ha]
    split
    · exact ⟨List.length_replicate, List.getD_replicate _ hc⟩
    · exact ⟨hlength, rfl⟩
  have hcolumn := rowCycle_column (o := o) (b := o.buf) (W := s.window n (s.activeSet n) (o.row0 + r)) (r := r) (pass := pass) (scales := scales) (p := p)
    hkeep hcols hstart.1 hc
  rw [hstart.2, ← hv] at hcolumn
  have hlanded : s.landed n o (.row r pass lanes scales p)
      = itemUpdate o o.buf (s.window n (s.activeSet n) (o.row0 + r)) row (.row r pass lanes scales p) := by
    rw [hrowDef, ← hreduce]
    rfl
  rw [hlanded] at hrow hsat
  refine ⟨_, exec_arrayResultLand hstill hops hitems, ?_, fun hover => hsat (hcolumn.2 (satAcc_snd hover))⟩
  exact (congrArg (·.getD c 0) hrow).trans (hcolumn.1.trans (satAcc_fst v))

/-- Settles O11, part by part: what an ARRAY word asks for or is refused, the sums of its row cycles, and where a cycle lands. -/
theorem arrayRuns : Obligations.ArrayRuns := ⟨arrayWordsStart, rowCyclesAdd, arrayCyclesLand⟩

end Sys2Proof.Machine
end

section
/-! PROOF. What a read of HBM leaves: all but registers of the stacks and their caches, memory, wakes and records (R335 to R337, R486). -/
namespace Sys2Proof.Machine

/-- A register that no read of HBM writes: none of a power domain's, of a stack's or of a cache's. -/
def Fld.offHbm (f : Fld) : Prop := 8 * 0x300000 ≤ f.key ∧ (f.key < 8 * 0x2000000 ∨ 8 * 0x4000000 ≤ f.key)

/-- t, with what a read of HBM may change as s has it. -/
def State.asHbm (s t : State) : State :=
  { t with flds := s.flds, mem := s.mem, poison := s.poison, cache := s.cache, power := s.power, errs := s.errs, errDropped := s.errDropped,
           stalled := s.stalled }

/-- From s to t no more changes than reads of HBM may change. -/
structure HbmOnly (s t : State) : Prop where
  frame : s.asHbm t = s
  get : ∀ f : Fld, f.offHbm → t.get f = s.get f

namespace HbmOnly
variable {s t u : State}

theorem refl (s : State) : HbmOnly s s := ⟨rfl, fun _ _ => rfl⟩

theorem trans (h : HbmOnly s t) (g : HbmOnly t u) : HbmOnly s u :=
  ⟨(congrArg s.asHbm g.frame :).trans h.frame, fun f hf => (g.get f hf).trans (h.get f hf)⟩

theorem looms (h : HbmOnly s t) : t.looms = s.looms := (congrArg State.looms h.frame :)
theorem card (h : HbmOnly s t) : t.card = s.card := (congrArg State.card h.frame :)

theorem ite {c : Prop} [Decidable c] {a b : State} (ha : HbmOnly s a) (hb : HbmOnly s b) : HbmOnly s (if c then a else b) := by
  split
  · exact ha
  · exact hb

theorem set {f : Fld} {v : Nat} (h : HbmOnly s t) (hf : ∀ g : Fld, g.offHbm → g.key ≠ f.key) : HbmOnly s (t.set f v) :=
  h.trans ⟨rfl, fun _ hg => State.get_set_ne _ _ (hf _ hg)⟩

/-- A change that leaves the registers. -/
theorem keepFields (h : HbmOnly s t) (hf : u.flds = t.flds) (hu : t.asHbm u = t) : HbmOnly s u :=
  h.trans ⟨hu, fun f _ => by rw [State.get, State.get, hf]⟩

/-- A count of a stack or of its cache. -/
theorem add {a st w r k : Nat} (h : HbmOnly s t) (hst : st < 12) (ha : 0x2000000 ≤ a ∧ a < 0x3100000 := by decide) :
    HbmOnly s (t.add ⟨8 * (a + 0x100000 * st) + 0, w, r⟩ k) :=
  h.set fun g hg => by
    obtain ⟨_, _⟩ := hg
    dsimp only
    omega

/-! ### The cache -/

theorem putSet {l : Nat} {ls : List CLine} (h : HbmOnly s t) : HbmOnly s (t.putSet l ls) := h.keepFields rfl rfl
theorem putDram {l mask : Nat} {data : List Byte} (h : HbmOnly s t) : HbmOnly s (t.putDram l data mask) := h.keepFields rfl rfl

theorem keptBy {st : Nat} {c : CLine} {up : Bool} (h : HbmOnly s t) (hst : st < 12) : HbmOnly s (t.keptBy st c up) :=
  .ite h (h.set fun g hg => by
    obtain ⟨_, _⟩ := hg
    simp only [MSC_KEPT_LINES]
    omega)

theorem dropLine {c : CLine} {wb : Bool} (h : HbmOnly s t) : HbmOnly s (t.dropLine c wb) :=
  have hkept := h.putSet.keptBy (c := c) (up := false) (stackOf_lt c.line)
  .ite (hkept.putDram.add (stackOf_lt c.line)) hkept

theorem allocLine {l tenant mask : Nat} {dirty : Bool} {data : List Byte} (h : HbmOnly s t) : HbmOnly s (t.allocLine l tenant dirty data mask) := by
  unfold State.allocLine
  refine .keptBy (.putSet ?_) (stackOf_lt l)
  split
  · exact .ite h (h.add (stackOf_lt l))
  · split
    · exact .dropLine (.ite h (h.add (stackOf_lt l)))
    · split
      · exact .dropLine (.ite h (h.add (stackOf_lt l)))
      · exact .ite h (h.add (stackOf_lt l))

theorem cacheRead {l tenant hint : Nat} (h : HbmOnly s t) : HbmOnly s (t.cacheRead l tenant hint).2 := by
  have hst := stackOf_lt l
  unfold State.cacheRead
  split
  · have hhit := h.add (a := 0x3000018) (w := 64) (r := 0) (k := 1) hst
    exact .ite hhit.putSet (.ite (.ite (hhit.dropLine.add hst) hhit.dropLine) hhit)
  · have hmiss := h.add (a := 0x3000020) (w := 64) (r := 0) (k := 1) hst
    exact .ite hmiss.allocLine hmiss

/-! ### Records and wakes -/

theorem report {r : ErrRec} (h : HbmOnly s t) : HbmOnly s (t.report r) :=
  h.trans ⟨(congrArg t.asHbm (t.report_frame r) :), fun f _ => t.report_get r f⟩

theorem refusedAt {req : Requester} {tenant a status : Nat} (h : HbmOnly s t) : HbmOnly s (t.refusedAt req tenant a status) := h.report

theorem wakeOne {d : Nat} (h : HbmOnly s t) (hd : d < 164) : HbmOnly s (t.wakeOne d) := by
  obtain ⟨hframe, hfields⟩ := t.wakeOne_frame d
  refine h.trans ⟨(congrArg t.asHbm hframe :), fun f hf => hfields f fun hmem => ?_⟩
  have hkey := List.mem_singleton.1 hmem
  obtain ⟨_, _⟩ := hf
  simp only [PWR_DOM_STATE] at hkey
  omega

theorem foldl {β : Type} {l : List β} {f : State → β → State} (h : HbmOnly s t) (hf : ∀ u, ∀ x ∈ l, HbmOnly s u → HbmOnly s (f u x)) :
    HbmOnly s (l.foldl f t) := List.foldlRecOn (motive := HbmOnly s) _ _ h fun u hu x hx => hf u x hx hu

theorem wakeDomain {d : Nat} (h : HbmOnly s t) (hd : d < 164) : HbmOnly s (t.wakeDomain d) :=
  .ite (h.foldl fun _ k hk hu => hu.wakeOne (by have := List.mem_range.1 hk; omega)) (h.wakeOne hd)

theorem wakeStack {a : Nat} (h : HbmOnly s t) : HbmOnly s (t.wakeStack a) := by
  have ha := stackOf_lt a
  exact .ite (h.wakeDomain (by omega)) h

/-! ### Accesses -/

theorem readPiece {req : Requester} {tenant a n : Nat} {raw : Bool} {fresh : List Nat} (h : HbmOnly s t) :
    HbmOnly s (t.readPiece req tenant raw a n fresh).2 := by
  unfold State.readPiece
  split
  · exact h.wakeStack.cacheRead.add (stackOf_lt a)
  · exact h

theorem hbmScan {req : Requester} {tenant a n : Nat} {raw : Bool} {fresh : List Nat} (h : HbmOnly s t) :
    HbmOnly s (t.hbmScan req tenant raw a n fresh).2.2 :=
  List.foldlRecOn (motive := fun x : RdData × Option Nat × State => HbmOnly s x.2.2) _ _ h.wakeStack fun _ hu _ _ => hu.readPiece

theorem hbmRead {req : Requester} {tenant a n : Nat} {raw : Bool} {fresh : List Nat} (h : HbmOnly s t) :
    HbmOnly s (t.hbmRead req tenant raw a n fresh).2 := by
  unfold State.hbmRead
  dsimp only
  split
  · exact h.hbmScan.report
  · exact h.hbmScan

end HbmOnly
end Sys2Proof.Machine
end

section
/-! PROOF. What the rows that a Bronze operation writes may change: memory and its marks, and the unit's and the guard's counts (R92, R178). -/
namespace Sys2Proof.Machine

/-- From s to t only memory, its marks and the register fields of the list change. -/
structure OnlyStores (s t : State) (fs : List Fld) : Prop where
  frame : { t with flds := s.flds, mem := s.mem, poison := s.poison } = s
  fields : SameFields s t fs

namespace OnlyStores
variable {s t u : State} {fs : List Fld}

theorem refl (s : State) (fs : List Fld) : OnlyStores s s fs := ⟨rfl, fun _ _ => rfl⟩

theorem trans (h : OnlyStores s t fs) (g : OnlyStores t u fs) : OnlyStores s u fs :=
  ⟨(congrArg (fun x : State => { x with flds := s.flds, mem := s.mem, poison := s.poison }) g.frame :).trans h.frame,
    fun f hf => (g.fields f hf).trans (h.fields f hf)⟩

theorem looms (h : OnlyStores s t fs) : t.looms = s.looms := (congrArg State.looms h.frame :)

theorem set (h : OnlyStores s t fs) (f : Fld) (v : Nat) (hf : f ∈ fs) : OnlyStores s (t.set f v) fs :=
  h.trans ⟨rfl, t.set_sameFields f v fs hf⟩

theorem spWrite (h : OnlyStores s t fs) (n a : Nat) (l : List Byte) (p : Bool) : OnlyStores s (t.spWrite n a l p) fs := h.trans ⟨rfl, fun _ _ => rfl⟩

theorem ofFields (h : OnlyFields s t fs) : OnlyStores s t fs :=
  ⟨(congrArg (fun x : State => { x with mem := s.mem, poison := s.poison }) h.1 :), h.2⟩

end OnlyStores

/-- The registers that the results of a Bronze operation count in. -/
def outFields (n : LoomNo) : List Fld := [BRZ_CNT_NAN_NAN n, BRZ_CNT_INF_INF n] ++ guardFields n

theorem OnlyStores.countSpecial {s t : State} {n : LoomNo} (h : OnlyStores s t (outFields n)) (l : List Nat) :
    OnlyStores s (t.countSpecial n l) (outFields n) :=
  (h.set _ _ (by simp [outFields])).set _ _ (by simp [outFields])

/-- A row of an output stores and counts, and changes nothing else. -/
theorem State.putOut_onlyStores (s : State) (n : LoomNo) (p : OutPlan) (r : Nat) (vals : List FVal) (poison : Bool) :
    OnlyStores s (s.putOut n p r vals poison) (outFields n) := by
  have hs := OnlyStores.refl s (outFields n)
  unfold State.putOut
  dsimp only
  split
  · exact (hs.spWrite _ _ _ _).countSpecial _
  · split
    · exact (hs.spWrite _ _ _ _).countSpecial _
    · have hlists (l : List (Nat × List Byte)) {t : State} (ht : OnlyStores s t (outFields n)) :
          OnlyStores s (l.foldl (fun t e => t.spWrite n (p.olist + r * p.olStride + 576 * e.1) e.2 poison) t) (outFields n) :=
        List.foldlRecOn (motive := fun t => OnlyStores s t (outFields n)) _ _ ht fun _ h _ _ => h.spWrite _ _ _ _
      have hrow := hlists ((List.range (quantRow p.fmt p.ex p.thr vals).lists.length).zip (quantRow p.fmt p.ex p.thr vals).lists)
        ((hs.spWrite n (p.elem + r * p.eStride) (quantRow p.fmt p.ex p.thr vals).elems poison).spWrite n (p.scale + r * p.sStride)
          (quantRow p.fmt p.ex p.thr vals).scales poison)
      split
      · exact hrow
      · exact hrow.trans (.ofFields ((State.guardAdd_onlyFields _ n _ _).mono (List.subset_append_right _ _)))

theorem outFields_key {n : LoomNo} {k : Nat} (h : k ∈ (outFields n).map Fld.key) : 8 * (lwin n + 0xF60018) ≤ k ∧ k < 8 * (lwin n + 0xF90000) := by
  simp only [outFields, guardFields, List.map_append, List.map_cons, List.map_nil, List.mem_append, List.mem_cons, List.not_mem_nil, or_false,
    BRZ_CNT_NAN_NAN, BRZ_CNT_INF_INF, GRD_CNT_ASAT_ASAT, GRD_CNT_AZERO_AZERO, GRD_CNT_AVALS_AVALS, GRD_CNT_CSAT_CSAT, GRD_CNT_CZERO_CZERO,
    GRD_CNT_CTERMS_CTERMS, GRD_TOT_ASAT_ASAT, GRD_TOT_CSAT_CSAT] at h
  simp only [lwin]
  omega

/-- A register of the loom below the counts of its Bronze unit stays. -/
theorem OnlyStores.get {s t : State} {n : LoomNo} (h : OnlyStores s t (outFields n)) {f : Fld} (hf : f.key < 8 * (lwin n + 0xF60018)) :
    t.get f = s.get f :=
  h.fields f fun hmem => absurd (outFields_key hmem).1 (by omega)

end Sys2Proof.Machine
end

section
/-! PROOF. A computation that reads, where what it has done so far holds to a property (R32). -/
namespace Sys2Proof.Machine
variable {α β : Type} {P : State → Prop}

/-- Where the computation is done, its state has the property. -/
def RdOut.Ends (P : State → Prop) : RdOut α → Prop
  | .done _ _ t => P t
  | .need _ _ => True

theorem RdOut.Ends.ite {c : Prop} [Decidable c] {a b : RdOut α} (ha : a.Ends P) (hb : b.Ends P) : RdOut.Ends P (if c then a else b) := by
  split
  · exact ha
  · exact hb

/-- A computation that reads keeps a property of the state. -/
def ReadHolds (P : State → Prop) (f : Rd α) : Prop := ∀ l t, P t → (f l t).Ends P

namespace ReadHolds

theorem pure {a : α} : ReadHolds P (rdPure a) := fun _ _ h => h

theorem get {f : State → α} : ReadHolds P (rdGet f) := fun _ _ h => h

theorem mod {f : State → State} (hf : ∀ t, P t → P (f t)) : ReadHolds P (rdMod f) := fun _ _ h => hf _ h

theorem bind {x : Rd α} {f : α → Rd β} (hx : ReadHolds P x) (hf : ∀ a, ReadHolds P (f a)) : ReadHolds P (rdBind x f) := by
  intro l t h
  have hdone := hx l t h
  unfold rdBind
  split
  next hout =>
    rw [hout] at hdone
    exact hf _ _ _ hdone
  next => trivial

theorem ite {c : Prop} [Decidable c] {f g : Rd α} (hf : ReadHolds P f) (hg : ReadHolds P g) : ReadHolds P (if c then f else g) := by
  split
  · exact hf
  · exact hg

theorem each {f : α → Rd Unit} (hf : ∀ a, ReadHolds P (f a)) : (l : List α) → ReadHolds P (rdEach f l)
  | [] => pure
  | a :: l => bind (hf a) fun _ => each hf l

/-- What reads of HBM keep, a loom's engine keeps that reads. -/
theorem rdRange {n unit tenant a len : Nat} (hP : ∀ t u, HbmOnly t u → P t → P u) : ReadHolds P (rdRange n unit tenant a len) := by
  have hpiece (x : Nat × Nat) : ReadHolds P (rdPiece n unit tenant x.1 x.2) := by
    intro l t h
    have houtside : RdOut.Ends P (match l with
        | [] => .need x.1 x.2
        | r :: rest => .done (⟨r.status, slice r.data 0 x.2, List.replicate x.2 (r.poison || r.status == 5)⟩ : RdData) rest t) := by
      split
      · trivial
      · exact h
    unfold rdPiece
    dsimp only
    split
    · split
      · exact hP _ _ (HbmOnly.refl t).hbmRead h
      · exact .ite houtside (hP _ _ (HbmOnly.refl t).refusedAt h)
    · exact houtside
  have hpieces : ∀ l : List (Nat × Nat), ReadHolds P (rdPieces n unit tenant l) := by
    intro l
    induction l with
    | nil => exact pure
    | cons x l ih => exact bind (hpiece x) fun _ => bind ih fun _ => pure
  exact hpieces _

end ReadHolds
end Sys2Proof.Machine
end

section
/-! PROOF. EMBED at issue: its operation starts, whatever its reads meet (R180, R186). -/
namespace Sys2Proof.Machine

/-- From s to t the place of loom n in its Draft and what its Bronze unit shows stay, and so do every loom's sequencer and array. -/
structure StaysBusy (n : LoomNo) (s t : State) : Prop where
  get : ∀ f ∈ [LOOM_PC_PC n, BRZ_STATUS_BUSY n, BRZ_STATUS_OP n], t.get f = s.get f
  loom : ∀ m, (t.lm m).seq = (s.lm m).seq ∧ (t.lm m).arr = (s.lm m).arr

namespace StaysBusy
variable {n : LoomNo} {s t u : State}

theorem refl (n : LoomNo) (s : State) : StaysBusy n s s := ⟨fun _ _ => rfl, fun _ => ⟨rfl, rfl⟩⟩

theorem trans (h : StaysBusy n s t) (g : StaysBusy n t u) : StaysBusy n s u :=
  ⟨fun f hf => (g.get f hf).trans (h.get f hf), fun m => ⟨(g.loom m).1.trans (h.loom m).1, (g.loom m).2.trans (h.loom m).2⟩⟩

theorem key {f : Fld} (hf : f ∈ [LOOM_PC_PC n, BRZ_STATUS_BUSY n, BRZ_STATUS_OP n]) : 8 * lwin n ≤ f.key ∧ f.key < 8 * (lwin n + 0xF60018) := by
  simp only [List.mem_cons, List.not_mem_nil, or_false] at hf
  rcases hf with rfl | rfl | rfl <;> simp only [LOOM_PC_PC, BRZ_STATUS_BUSY, BRZ_STATUS_OP, lwin] <;> omega

theorem set {f : Fld} {v : Nat} (h : StaysBusy n s t) (hf : 8 * (lwin n + 0xF60018) ≤ f.key) : StaysBusy n s (t.set f v) :=
  h.trans ⟨fun g hg => State.get_set_ne _ _ (by have := (key hg).2; omega), fun _ => ⟨rfl, rfl⟩⟩

theorem hbm (h : StaysBusy n s t) (g : HbmOnly t u) : StaysBusy n s u := by
  have hlm (m : Nat) : u.lm m = t.lm m := congrArg (fun l => tget Loom.reset l m) g.looms
  refine h.trans ⟨fun f hf => g.get f ?_, fun m => by rw [hlm]; exact ⟨rfl, rfl⟩⟩
  have hkey := (key hf).1
  simp only [lwin] at hkey
  exact ⟨by omega, .inr (by omega)⟩

theorem stores (h : StaysBusy n s t) (g : OnlyStores t u (outFields n)) : StaysBusy n s u := by
  have hlm (m : Nat) : u.lm m = t.lm m := congrArg (fun l => tget Loom.reset l m) g.looms
  exact h.trans ⟨fun f hf => g.get (key hf).2, fun m => by rw [hlm]; exact ⟨rfl, rfl⟩⟩

/-- A loom's operations that wait, or its scratchpad's queue, change. -/
theorem setLm {m : Nat} {l : Loom} (h : StaysBusy n s t) (hseq : l.seq = (t.lm m).seq) (harr : l.arr = (t.lm m).arr) :
    StaysBusy n s (t.setLm m l) := by
  refine h.trans ⟨fun _ _ => rfl, fun k => ?_⟩
  rcases eq_or_ne k m with rfl | hk
  · rw [State.lm_setLm_same]
    exact ⟨hseq, harr⟩
  · rw [State.lm_setLm_ne _ _ hk]
    exact ⟨rfl, rfl⟩

theorem sendRead {unit cls tenant a len : Nat} {k : Nat} (h : StaysBusy n s t) : StaysBusy n s (t.sendRead k unit cls tenant a len) := by
  unfold State.sendRead
  split
  · have hport {m : Nat} {v : State} (hv : HbmOnly t v) {i : Inbound} {f : List Pend → List Pend} :
        StaysBusy n s (if t.is (LOOM_STATUS_BENCHED m) then v.modPend k f else t.enqueue m i) := by
      split
      · exact (h.hbm hv).setLm rfl rfl
      · exact h.setLm rfl rfl
    dsimp only
    split
    · exact hport (HbmOnly.refl t).refusedAt
    · exact hport (HbmOnly.refl t).refusedAt
    · exact h
  · exact h.trans ⟨fun _ _ => rfl, fun _ => ⟨rfl, rfl⟩⟩

theorem runOp {k cls tenant : Nat} {p : Pend} {f : Rd Unit} (h : StaysBusy n s t) (hf : ReadHolds (StaysBusy n s) f) :
    StaysBusy n s (t.runOp k cls tenant p f) := by
  have hdone := hf p.got t h
  unfold State.runOp
  dsimp only
  split
  next hout =>
    rw [hout] at hdone
    exact StaysBusy.setLm (t := _) hdone rfl rfl
  next => exact .sendRead (h.setLm rfl rfl)

theorem embedRow {b : Block} {p : OutPlan} {r : Nat} : ReadHolds (StaysBusy n s) (embedRow n b p r) := by
  have hhbm (t u : State) (g : HbmOnly t u) (h : StaysBusy n s t) : StaysBusy n s u := h.hbm g
  unfold Machine.embedRow
  refine .bind .get fun tok => .ite (.mod fun t h => ?_) (.bind (.rdRange hhbm) fun _ => .mod fun t h => ?_)
  · refine .hbm (.set (.set (h.stores (t.putOut_onlyStores n p r _ true)) ?_) ?_) (HbmOnly.refl _).report
    · simp only [BRZ_CNT_EMBED_OOR_OOR, lwin]
      omega
    · simp only [BRZ_ERR_EMBED_OOR, lwin]
      omega
  · exact h.stores (t.putOut_onlyStores n p r _ _)

theorem embedRun {p : Pend} : ReadHolds (StaysBusy n s) (embedRun n p) := .each (fun _ => embedRow) _

end StaysBusy
end Sys2Proof.Machine
end

section
/-! PROOF. EMBED and DRAIN at issue (R92 to R94, R180, R186, R240). -/
namespace Sys2Proof.Machine

/-- A Bronze word whose block is lawful, with a format that the word accepts, is what the operation makes of it. -/
theorem State.brzIssue_ok {s : State} {n : LoomNo} {op used nslots : Nat} {fmts : List Nat} {k : DWord → Block → State} {w : DWord}
    (hw : s.fetchWord n 5 op = .ok w) (hblock : LawfulBlock s n w used nslots) (hfmt : bits (blockOf (s.blockBytes n w.arg)).hdr 4 4 ∈ fmts) :
    s.brzIssue n op used nslots fmts k = k w (blockOf (s.blockBytes n w.arg)) := by
  refine (State.issue_ok hw).trans ?_
  simp [hblock.1, hblock.2, hfmt]

theorem brzStart_shows (s : State) (n : LoomNo) (op : Nat) (hop : op < 8) :
    (s.brzStart n op).get (BRZ_STATUS_BUSY n) = 1 ∧ (s.brzStart n op).get (BRZ_STATUS_OP n) = op
      ∧ OnlyFields s (s.brzStart n op) [BRZ_STATUS_BUSY n, BRZ_STATUS_OP n] := by
  have hne : (BRZ_STATUS_OP n).key ≠ (BRZ_STATUS_BUSY n).key := by
    simp only [BRZ_STATUS_OP, BRZ_STATUS_BUSY]
    omega
  refine ⟨State.get_set_same _ _ _, ?_, ((OnlyFields.refl s _).set _ _ (by simp)).set _ _ (by simp)⟩
  rw [State.brzStart, State.get_set_ne _ _ hne, State.get_set_same]
  exact Nat.mod_eq_of_lt hop

/-- Loom n's word has issued and counted the poison of what it reads. -/
theorem issued_counted (s : State) (n : LoomNo) (w : DWord) (l : List (Nat × Nat)) :
    OnlyLoom s ((s.advance n w).countPoison n l) n [LOOM_PC_PC n, SPD_CNT_POISON_POISON n] ∧ Issued s ((s.advance n w).countPoison n l) n := by
  refine ⟨((s.advance_onlyLoom n w).mono (by simp)).set _ _ (by simp), s.advance_next n w, ?_⟩
  refine (State.get_set_ne _ _ ?_).trans (s.advance_pc n w)
  simp only [LOOM_PC_PC, SPD_CNT_POISON_POISON]
  omega

/-- The EMBED word as it issues: its operation has started and its table is not read yet. -/
def State.embedIssued (s : State) (n : LoomNo) (w : DWord) (b : Block) : State :=
  ((s.advance n w).countPoison n [(b.slot 1, 4 * b.slot 0)]).brzStart n 5

theorem State.embedIssued_spec (s : State) (n : LoomNo) (w : DWord) (b : Block) :
    Issued s (s.embedIssued n w b) n ∧ (s.embedIssued n w b).get (BRZ_STATUS_BUSY n) = 1 ∧ (s.embedIssued n w b).get (BRZ_STATUS_OP n) = 5
      ∧ OtherLooms s (s.embedIssued n w b) n := by
  obtain ⟨honly, hnext, hpc⟩ := issued_counted s n w [(b.slot 1, 4 * b.slot 0)]
  unfold State.embedIssued
  generalize (s.advance n w).countPoison n [(b.slot 1, 4 * b.slot 0)] = v at honly hnext hpc
  obtain ⟨hbusy, hop, hfields⟩ := brzStart_shows v n 5 (by decide)
  have hlm (m : Nat) : (v.brzStart n 5).lm m = v.lm m := congrArg (fun l => tget Loom.reset l m) hfields.looms
  refine ⟨⟨(congrArg (fun l : Loom => l.seq.next) (hlm n)).trans hnext, (hfields.2 _ ?_).trans hpc⟩, hbusy, hop,
    fun m hm => (hlm m).trans (honly.2.1 m hm)⟩
  simp [LOOM_PC_PC, BRZ_STATUS_BUSY, BRZ_STATUS_OP]
  omega

/-- What an EMBED word keeps until its reads have come. -/
def State.embedPend (s : State) (n : LoomNo) (w : DWord) : Pend :=
  { unit := 5, op := 5, arg := w.arg, block := s.blockBytes n w.arg, got := [], waiting := false, span := s.spanOpen n,
    mode := s.get (GRD_STATUS_MODE n) }

theorem exec_embed {s : State} {n : LoomNo} {w : DWord} {b : Block} (hw : s.fetchWord n 5 5 = .ok w) (hb : b = blockOf (s.blockBytes n w.arg))
    (hblock : LawfulBlock s n w 0x0CF0 12) (hfmt : bits b.hdr 4 4 ∈ [1, 4, 5])
    (hpad : inSpad n ((b.slot 1, 4 * b.slot 0) :: (embedPlan (s.get (GRD_STATUS_MODE n)) (s.spanOpen n) b).ranges (b.slot 0) (b.slot 5)) = true) :
    ∃ f : State → State, exec (.embed n {}) s = .next (s.withEvents n {} f)
      ∧ f s = (s.embedIssued n w b).runOp n 2 0 (s.embedPend n w) (embedRun n (s.embedPend n w)) := by
  subst hb
  refine ⟨_, rfl, (State.brzIssue_ok hw hblock hfmt).trans (if_neg ?_)⟩
  simp [hpad]

theorem embedStarts : EmbedStarts := by
  intro n s w b hw hb hblock hfmt hpad
  obtain ⟨f, hexec, hf⟩ := exec_embed hw hb hblock hfmt hpad
  obtain ⟨⟨hnext, hpc⟩, hbusy, hop, hothers⟩ := s.embedIssued_spec n w b
  have hstays := (StaysBusy.refl n (s.embedIssued n w b)).runOp (k := n) (cls := 2) (tenant := 0) (p := s.embedPend n w)
    (StaysBusy.embedRun (n := n) (p := s.embedPend n w))
  rw [← hf] at hstays
  have hissued : ((f s).lm n).seq.next = (s.lm n).seq.next + 1 := (congrArg Seq.next (hstays.loom n).1).trans hnext
  refine ⟨(f s).eccSeen n, hexec.trans (congrArg Host.Outcome.next (State.withEvents_none (by omega))), ⟨?_, ?_⟩, ?_, ?_, fun m hm => ?_⟩
  · rw [State.eccSeen_seq, hissued]
  · exact (hstays.get _ (by simp)).trans hpc
  · exact (hstays.get _ (by simp)).trans hbusy
  · exact (hstays.get _ (by simp)).trans hop
  · have hlm : ((f s).eccSeen n).lm m = (f s).lm m := ((f s).eccSeen_frame n).2.1 m hm
    rw [hlm, (hstays.loom m).1, (hstays.loom m).2, hothers m hm]
    exact ⟨rfl, rfl⟩

end Sys2Proof.Machine
end

section
/-! PROOF. DRAIN: the rows it empties, and its refusals (R92 to R94, R99). -/
namespace Sys2Proof.Machine

/-- From s to t loom n keeps its place in the Draft and its kind of Draft and has the accumulators given; the other looms stay. -/
structure DrainKeeps (n : LoomNo) (s : State) (acc : List (Nat × List Int)) (t : State) : Prop where
  get : ∀ f ∈ [LOOM_PC_PC n, ACC_STATUS_COMPAT n], t.get f = s.get f
  others : ∀ m, m ≠ n.val → t.lm m = s.lm m
  seq : (t.lm n).seq = (s.lm n).seq
  acc : (t.lm n).arr.acc = acc

namespace DrainKeeps
variable {n : LoomNo} {s t u : State} {acc : List (Nat × List Int)}

theorem refl (n : LoomNo) (s : State) : DrainKeeps n s (s.lm n).arr.acc s := ⟨fun _ _ => rfl, fun _ _ => rfl, rfl, rfl⟩

theorem trans {acc' : List (Nat × List Int)} (h : DrainKeeps n s acc t) (g : DrainKeeps n t acc' u) : DrainKeeps n s acc' u :=
  ⟨fun f hf => (g.get f hf).trans (h.get f hf), fun m hm => (g.others m hm).trans (h.others m hm), g.seq.trans h.seq, g.acc⟩

theorem key {f : Fld} (hf : f ∈ [LOOM_PC_PC n, ACC_STATUS_COMPAT n]) : f.key < 8 * (0x80F20018 + 0x1000000 * n) := by
  simp only [List.mem_cons, List.not_mem_nil, or_false] at hf
  rcases hf with rfl | rfl <;> simp only [LOOM_PC_PC, ACC_STATUS_COMPAT] <;> omega

theorem stores (h : DrainKeeps n s acc t) (g : OnlyStores t u (outFields n)) : DrainKeeps n s acc u := by
  have hlm (m : Nat) : u.lm m = t.lm m := congrArg (fun l => tget Loom.reset l m) g.looms
  refine ⟨fun f hf => (g.get ?_).trans (h.get f hf), fun m hm => (hlm m).trans (h.others m hm), ?_, ?_⟩
  · have := key hf
    simp only [lwin]
    omega
  · rw [hlm, h.seq]
  · rw [hlm, h.acc]

theorem set {f : Fld} {v : Nat} (h : DrainKeeps n s acc t) (hf : 8 * (0x80F20018 + 0x1000000 * n) ≤ f.key) : DrainKeeps n s acc (t.set f v) :=
  ⟨fun g hg => (State.get_set_ne _ _ (by have := key hg; omega)).trans (h.get g hg), h.others, h.seq, h.acc⟩

theorem modArr {f : Arr → Arr} {acc' : List (Nat × List Int)} (h : DrainKeeps n s acc t) (hacc : (f (t.lm n).arr).acc = acc') :
    DrainKeeps n s acc' (t.modArr n f) where
  get := h.get
  others m hm := (State.lm_modArr_ne t f hm).trans (h.others m hm)
  seq := by rw [State.lm_modArr_same, h.seq]
  acc := by rw [State.lm_modArr_same, hacc]

theorem putRow {set row : Nat} {r : List Int} (h : DrainKeeps n s acc t) :
    DrainKeeps n s (tput (List.replicate 512 0) acc (rowKey set row) r) (t.putRow n set row r) :=
  h.modArr (congrArg (fun m => tput (List.replicate 512 0) m (rowKey set row) r) h.acc)

theorem clearSat {set row : Nat} (h : DrainKeeps n s acc t) : DrainKeeps n s acc (t.clearSat n set row) := by
  have hkey : 8 * (0x80F20018 + 0x1000000 * n) ≤ (if set = 0 then ACC_SAT_ROWS0_SAT n (row / 32) else ACC_SAT_ROWS1_SAT n (row / 32)).key := by
    split <;> simp only [ACC_SAT_ROWS0_SAT, ACC_SAT_ROWS1_SAT] <;> omega
  unfold State.clearSat
  extract_lets f v
  split
  · exact h.set hkey
  · exact h

theorem markRow {set row : Nat} {p : Bool} (h : DrainKeeps n s acc t) : DrainKeeps n s acc (t.markRow n set row p) := h.modArr h.acc

end DrainKeeps

/-- What one row of a drain makes of the accumulators: ZERO empties a row of the accumulator memory. -/
theorem State.drainOne_keeps (t : State) (n : LoomNo) (b : Block) (p : OutPlan) (scale : Option (List Nat)) (vp : Bool) (psum : Nat) (win : Int)
    (set i : Nat) : DrainKeeps n t (if bitOf b.hdr 9 && !t.compat n then
        tput (List.replicate 512 0) (t.lm n).arr.acc (rowKey set (b.slot 0 + i)) (List.replicate 512 0) else (t.lm n).arr.acc)
      (t.drainOne n b p scale vp psum win set i) := by
  have hout (vals : List FVal) (poison : Bool) (c : Prop) [Decidable c] (a : Nat) (l : List Byte) (q : Bool) :
      DrainKeeps n t (t.lm n).arr.acc (if c then t.putOut n p i vals poison else (t.putOut n p i vals poison).spWrite n a l q) := by
    have hrow := t.putOut_onlyStores n p i vals poison
    split
    · exact (DrainKeeps.refl n t).stores hrow
    · exact (DrainKeeps.refl n t).stores (hrow.spWrite _ _ _ _)
  unfold State.drainOne
  extract_lets row compat kind r W poison u v
  have hv : DrainKeeps n t (t.lm n).arr.acc v := hout _ _ _ _ _ _
  have hcompat : t.compat n = compat := rfl
  rw [hcompat]
  cases bitOf b.hdr 9
  · exact hv
  · cases compat
    · rw [if_pos (by rfl)]
      exact hv.putRow.clearSat.markRow
    · exact hv.stores ((OnlyStores.refl v _).spWrite _ _ _ _)

/-- The accumulators after k rows of a set from row0 on have taken the row r. -/
def rowsFilled (r : List Int) (set row0 k : Nat) (acc : List (Nat × List Int)) : List (Nat × List Int) :=
  (List.range k).foldl (fun acc i => tput (List.replicate 512 0) acc (rowKey set (row0 + i)) r) acc

theorem rowsFilled_succ (r : List Int) (set row0 k : Nat) (acc : List (Nat × List Int)) : rowsFilled r set row0 (k + 1) acc
    = tput (List.replicate 512 0) (rowsFilled r set row0 k acc) (rowKey set (row0 + k)) r := by
  rw [rowsFilled, List.range_succ, List.foldl_append]
  rfl

theorem tget_rowsFilled_of_ne {r : List Int} {set row0 k x : Nat} {acc : List (Nat × List Int)} (h : ∀ i, i < k → x ≠ rowKey set (row0 + i)) :
    tget (List.replicate 512 0) (rowsFilled r set row0 k acc) x = tget (List.replicate 512 0) acc x := by
  induction k with
  | zero => rfl
  | succ k ih =>
    rw [rowsFilled_succ, tget_tput_ne _ _ _ _ (h k (Nat.lt_succ_self k))]
    exact ih fun i hi => h i (Nat.lt_succ_of_lt hi)

theorem tget_rowsFilled {r : List Int} {set row0 k i : Nat} {acc : List (Nat × List Int)} (h : i < k) :
    tget (List.replicate 512 0) (rowsFilled r set row0 k acc) (rowKey set (row0 + i)) = r := by
  induction k with
  | zero => exact absurd h (Nat.not_lt_zero i)
  | succ k ih =>
    rw [rowsFilled_succ]
    rcases Nat.lt_succ_iff_lt_or_eq.1 h with hlt | rfl
    · rw [tget_tput_ne _ _ _ _ (by simp only [rowKey]; omega), ih hlt]
    · exact tget_tput_same _ _ _ _

/-- A drain of k rows: with ZERO every one of them is emptied in the accumulator memory, and no other row changes. -/
theorem State.drainRows_keeps (s : State) (n : LoomNo) (b : Block) (p : OutPlan) (scale : Option (List Nat)) (vp : Bool) (psum : Nat) (win : Int)
    (set k : Nat) : DrainKeeps n s (if bitOf b.hdr 9 && !s.compat n then rowsFilled (List.replicate 512 0) set (b.slot 0) k (s.lm n).arr.acc
        else (s.lm n).arr.acc)
      ((List.range k).foldl (fun t i => t.drainOne n b p scale vp psum win set i) s) := by
  induction k with
  | zero => exact (ite_self (c := (bitOf b.hdr 9 && !s.compat n) = true) _).symm ▸ DrainKeeps.refl n s
  | succ k ih =>
    rw [List.range_succ, List.foldl_append]
    obtain ⟨t, ht⟩ : ∃ t, t = (List.range k).foldl (fun t i => t.drainOne n b p scale vp psum win set i) s := ⟨_, rfl⟩
    rw [← ht] at ih ⊢
    have hcompat : t.compat n = s.compat n := congrArg (· != 0) (ih.get (ACC_STATUS_COMPAT n) (by simp))
    have hrow := ih.trans (t.drainOne_keeps n b p scale vp psum win set k)
    rw [hcompat, ih.acc] at hrow
    rw [rowsFilled_succ, List.foldl_cons, List.foldl_nil]
    cases hzero : bitOf b.hdr 9 && !s.compat n
    all_goals
      simp only [hzero, Bool.false_eq_true, if_true, if_false] at hrow ⊢
      exact hrow

theorem inSpad_append (n : Nat) (a b : List (Nat × Nat)) : inSpad n (a ++ b) = (inSpad n a && inSpad n b) := List.all_append

/-- Ranges that an access reaches only where a condition holds lie in the scratchpad. -/
theorem inSpad_ite {n : Nat} {c : Bool} {l : List (Nat × Nat)} (h : c = true → inSpad n l = true) : inSpad n (if c then l else []) = true := by
  cases c
  · rfl
  · exact h rfl

/-- The partial rows that a drain of an IAL-1 Draft reads (R98). -/
def State.drainPartials (s : State) (n : Nat) (w : DWord) (b : Block) : List (Nat × Nat) :=
  if s.compat n then [(Config.ial1Psum (s.blockBytes n w.arg) % 2 ^ 24 + b.slot 0 * 4096, b.slot 1 * 4096)] else []

section
variable {s : State} {n : LoomNo} {w : DWord} {b : Block} (hw : s.fetchWord n 5 0 = .ok w) (hb : b = blockOf (s.blockBytes n w.arg))
  (hblock : LawfulBlock s n w 0x2FF0 13) (hfmt : bits b.hdr 4 4 ∈ [1, 2, 3, 4, 5])
include hw hb hblock hfmt

/-- A DRAIN of rows that lie in the accumulator memory, with ranges in the scratchpad, issues and drains its rows. -/
theorem exec_drain {sel : Bool}
    (hsel : sel = (!s.compat n && (List.range (b.slot 1)).any fun i => tget 0 (s.lm n).arr.kinds (rowKey (1 - s.activeSet n) (b.slot 0 + i)) != 0))
    (hrows : 0 < b.slot 1) (hend : b.slot 0 + b.slot 1 ≤ 512) (holist : b.slot 10 % 64 = 0)
    (hout : inSpad n ((s.drainPlan n b).ranges (b.slot 1) 512) = true) (hscale : bitOf b.hdr 8 = true → inSpad n [(b.slot 6, 1024)] = true)
    (hpsum : inSpad n (s.drainPartials n w b) = true)
    (hview : if sel then inSpad n [rowsRange (b.slot 11) (b.slot 12) (b.slot 1) 1024] = true else b.slot 11 = 0 ∧ b.slot 12 = 0) :
    ∃ (f : State → State) (p : OutPlan) (scale : Option (List Nat)) (vp : Bool) (psum : Nat) (win : Int) (reads : List (Nat × Nat)),
      exec (.drain n {}) s = .next (s.withEvents n {} f)
        ∧ f s = (((List.range (b.slot 1)).foldl (fun t i => t.drainOne n b p scale vp psum win (1 - s.activeSet n) i)
            ((s.advance n w).countPoison n reads)).brzStart n 1).set (ACC_STATUS_DRAIN_BUSY n) 1 := by
  subst hb
  refine ⟨_, _, _, _, _, _, _, rfl, (State.brzIssue_ok hw hblock hfmt).trans ((if_neg ?_).trans ((if_neg ?_).trans (if_neg ?_)))⟩
  · simp
    omega
  · exact fun h => absurd (h.symm.trans (congrArg not hpsum)) Bool.noConfusion
  · rw [Nat.min_eq_left (by omega), ← hsel, inSpad_append, inSpad_append, inSpad_append, hout, inSpad_ite hscale,
      show (s.drainPlan n (blockOf (s.blockBytes n w.arg))).olStride = (blockOf (s.blockBytes n w.arg)).slot 10 from rfl, holist]
    have hparts : inSpad n (if s.compat n = true then [(Config.ial1Psum (s.blockBytes n w.arg) % 2 ^ 24
        + (blockOf (s.blockBytes n w.arg)).slot 0 * 4096, (blockOf (s.blockBytes n w.arg)).slot 1 * 4096)] else []) = true := hpsum
    rw [hparts]
    cases sel
    · obtain ⟨hbase, hstride⟩ := hview
      simp [hbase, hstride, inSpad]
    · have hrange : inSpad n [rowsRange ((blockOf (s.blockBytes n w.arg)).slot 11) ((blockOf (s.blockBytes n w.arg)).slot 12)
          ((blockOf (s.blockBytes n w.arg)).slot 1) 1024] = true := hview
      simp [hrange]

/-- Rows beyond the accumulator memory are a Draft fault (R92). -/
theorem exec_drain_rowRange (evs : CycleEvs) (hend : 512 < b.slot 0 + b.slot 1) :
    ∃ f : State → State, exec (.drain n evs) s = .next (s.withEvents n evs f) ∧ f s = s.engineFault n 5 (ACC_ERR_ROW_RANGE n) := by
  subst hb
  refine ⟨_, rfl, (State.brzIssue_ok hw hblock hfmt).trans (if_pos ?_)⟩
  simp [hend]

/-- Partial rows beyond the scratchpad are a Draft fault (R99). -/
theorem exec_drain_psumRange (evs : CycleEvs) (hrows : 0 < b.slot 1) (hend : b.slot 0 + b.slot 1 ≤ 512)
    (hpsum : inSpad n (s.drainPartials n w b) = false) :
    ∃ f : State → State, exec (.drain n evs) s = .next (s.withEvents n evs f) ∧ f s = s.engineFault n 5 (ACC_ERR_PSUM_RANGE n) := by
  subst hb
  refine ⟨_, rfl, (State.brzIssue_ok hw hblock hfmt).trans ((if_neg ?_).trans (if_pos (congrArg not hpsum)))⟩
  simp
  omega

end

/-- A word that an engine faults leaves its status, and memory as it was. -/
theorem exec_engineFault {c : Instr} {s : State} {n : LoomNo} {ev : CycleEvs} {f : State → State} {bit : Fld}
    (hexec : exec c s = .next (s.withEvents n ev f)) (hf : f s = s.engineFault n 5 bit) (hlo : 8 * (lwin n + 0xF10000) ≤ bit.key)
    (hhi : bit.key < 8 * (lwin n + 0x1000000)) (hbit : bit.width = 1) :
    ∃ t, exec c s = .next t ∧ t.get bit = 1 ∧ t.get (LOOM_STATUS_FAULT n) = 1 ∧ t.get (LOOM_FAULT_CAUSE n) = 4
      ∧ t.get (LOOM_FAULT_UNIT n) = 5 ∧ SameMemory s t := by
  obtain ⟨hset, hfault, hcause, hunit, hmem, hnext⟩ := s.engineFault_spec n 5 hlo hhi hbit (by decide)
  rw [← hf] at hset hfault hcause hunit hmem hnext
  exact ⟨f s, hexec.trans (congrArg Host.Outcome.next (State.withEvents_stays hnext)), hset, hfault, hcause, hunit, hmem⟩

/-- The drain's rows have drained, and its operation is under way. -/
theorem drainBusy_spec {n : LoomNo} {s v : State} {acc : List (Nat × List Int)} (h : DrainKeeps n s acc v) :
    DrainKeeps n s acc ((v.brzStart n 1).set (ACC_STATUS_DRAIN_BUSY n) 1)
      ∧ ((v.brzStart n 1).set (ACC_STATUS_DRAIN_BUSY n) 1).get (BRZ_STATUS_BUSY n) = 1
      ∧ ((v.brzStart n 1).set (ACC_STATUS_DRAIN_BUSY n) 1).get (BRZ_STATUS_OP n) = 1
      ∧ ((v.brzStart n 1).set (ACC_STATUS_DRAIN_BUSY n) 1).get (ACC_STATUS_DRAIN_BUSY n) = 1 := by
  obtain ⟨hbusy, hop, -⟩ := brzStart_shows v n 1 (by decide)
  have hstays {g : Fld} (hg : 8 * (0x80F60010 + 0x1000000 * n) ≤ g.key) :
      ((v.brzStart n 1).set (ACC_STATUS_DRAIN_BUSY n) 1).get g = (v.brzStart n 1).get g :=
    State.get_set_ne _ _ (by simp only [ACC_STATUS_DRAIN_BUSY]; omega)
  have hbrz {t : State} (f : Fld) (k : Nat) (ht : DrainKeeps n s acc t) (hf : 8 * (0x80F60010 + 0x1000000 * n) ≤ f.key) :
      DrainKeeps n s acc (t.set f k) := ht.set (by omega)
  refine ⟨?_, (hstays ?_).trans hbusy, (hstays ?_).trans hop, State.get_set_same _ _ _⟩
  · have hstart : DrainKeeps n s acc (v.brzStart n 1) := hbrz _ _ (hbrz _ _ h (by simp only [BRZ_STATUS_OP]; omega)) (by simp only [BRZ_STATUS_BUSY]; omega)
    refine ⟨fun g hg => (State.get_set_ne _ _ ?_).trans (hstart.get g hg), hstart.others, hstart.seq, hstart.acc⟩
    simp only [List.mem_cons, List.not_mem_nil, or_false] at hg
    rcases hg with rfl | rfl
    · simp only [LOOM_PC_PC, ACC_STATUS_DRAIN_BUSY]
      omega
    · simp only [ACC_STATUS_COMPAT, ACC_STATUS_DRAIN_BUSY]
      omega
  · simp only [BRZ_STATUS_BUSY]
    omega
  · simp only [BRZ_STATUS_OP]
    omega

theorem drainEmptiesRows : DrainEmptiesRows := by
  intro n evs s w b sel hw hb hblock hfmt hsel
  refine ⟨fun hrows hend holist hout hscale hpsum hview => ?_, fun hend => ?_, fun hrows hend hcompat hpsum => ?_⟩
  · obtain ⟨f, p, scale, vp, psum, win, reads, hexec, hf⟩ := exec_drain hw hb hblock hfmt hsel hrows hend holist hout hscale
      (inSpad_ite hpsum) hview
    obtain ⟨honly, hnext, hpc⟩ := issued_counted s n w reads
    have harr : (((s.advance n w).countPoison n reads).lm n).arr = (s.lm n).arr := by
      rw [State.countPoison_lm]
      simp [State.advance, State.spanUnit]
    have hcompat : ((s.advance n w).countPoison n reads).compat n = s.compat n :=
      congrArg (· != 0) (honly.2.2 (ACC_STATUS_COMPAT n) (by simp [ACC_STATUS_COMPAT, LOOM_PC_PC, SPD_CNT_POISON_POISON]; omega))
    generalize (s.advance n w).countPoison n reads = v at hf honly hnext hpc harr hcompat
    obtain ⟨hkeeps, hbusy, hop, hdrain⟩ := drainBusy_spec
      (v.drainRows_keeps n b p scale vp psum win (1 - s.activeSet n) (b.slot 1))
    rw [← hf, hcompat, harr] at hkeeps
    rw [← hf] at hbusy hop hdrain
    have hissued : ((f s).lm n).seq.next = (s.lm n).seq.next + 1 := (congrArg Seq.next hkeeps.seq).trans hnext
    have hacc : ((((f s).eccSeen n).lm n).arr.acc) = ((f s).lm n).arr.acc := by simp [State.eccSeen]
    have hset : s.activeSet n < 2 := Nat.mod_lt _ (Nat.two_pow_pos 1)
    refine ⟨(f s).eccSeen n, hexec.trans (congrArg Host.Outcome.next (State.withEvents_none (by omega))), ⟨?_, ?_⟩, hbusy, hop, hdrain,
      fun m hm => ?_, fun hc hzero i hi => ?_, fun row hrow => ?_⟩
    · rw [State.eccSeen_seq, hissued]
    · exact (hkeeps.get _ (by simp)).trans hpc
    · exact ((f s).eccSeen_frame n).2.1 m hm |>.trans ((hkeeps.others m hm).trans (honly.2.1 m hm))
    · rw [State.accRow, hacc, hkeeps.acc, hc, hzero]
      exact tget_rowsFilled hi
    · rw [State.accRow, hacc, hkeeps.acc, State.accRow]
      split
      · refine tget_rowsFilled_of_ne fun i hi => ?_
        simp only [rowKey]
        omega
      · rfl
  · obtain ⟨f, hexec, hf⟩ := exec_drain_rowRange hw hb hblock hfmt evs hend
    refine exec_engineFault hexec hf ?_ ?_ rfl
    · simp only [ACC_ERR_ROW_RANGE, lwin]
      omega
    · simp only [ACC_ERR_ROW_RANGE, lwin]
      omega
  · obtain ⟨f, hexec, hf⟩ := exec_drain_psumRange hw hb hblock hfmt evs hrows hend (by rw [State.drainPartials, if_pos hcompat, hpsum])
    refine exec_engineFault hexec hf ?_ ?_ rfl
    · simp only [ACC_ERR_PSUM_RANGE, lwin]
      omega
    · simp only [ACC_ERR_PSUM_RANGE, lwin]
      omega

/-- Settles O18, part by part. -/
theorem rowsEnterAndLeave : Obligations.RowsEnterAndLeave := ⟨embedStarts, drainEmptiesRows⟩

end Sys2Proof.Machine
end

section
/-! PROOF. The Stream Table's entries, which lie apart from the Card loader's registers (R312, R424). -/
namespace Sys2Proof.Machine
variable {α β : Type} {f : Nat × β → Option α} {a : Nat}

theorem filterMap_tdel (h : ∀ v, f (a, v) = none) (m : List (Nat × β)) : (tdel m a).filterMap f = m.filterMap f := by
  induction m with
  | nil => rfl
  | cons e m ih =>
    obtain ⟨k, v⟩ := e
    unfold tdel
    split
    · next hk => rw [ih, List.filterMap_cons_none (hk ▸ h v)]
    · rw [List.filterMap_cons, List.filterMap_cons, ih]

theorem filterMap_tins (h : ∀ v, f (a, v) = none) (v : β) (m : List (Nat × β)) : (tins a v m).filterMap f = m.filterMap f := by
  induction m with
  | nil => exact List.filterMap_cons_none (h v)
  | cons e m ih =>
    obtain ⟨k, w⟩ := e
    unfold tins
    split
    · exact List.filterMap_cons_none (h v)
    · split
      · next hk => rw [List.filterMap_cons_none (h v), List.filterMap_cons_none (hk ▸ h w)]
      · rw [List.filterMap_cons, List.filterMap_cons, ih]

/-- What a choice of entries gives stays where it chooses none at the key that is put. -/
theorem filterMap_tput [DecidableEq β] (h : ∀ v, f (a, v) = none) (d v : β) (m : List (Nat × β)) : (tput d m a v).filterMap f = m.filterMap f := by
  unfold tput
  split
  · exact filterMap_tdel h m
  · exact filterMap_tins h v m

/-- A register below the Stream Table is no stream's. -/
theorem State.validStreams_set (s : State) (g : Fld) (v : Nat) (hg : g.key < (STR_STATE 0).key) : (s.set g v).validStreams = s.validStreams :=
  filterMap_tput (fun _ => by simp [Nat.not_le.2 hg]) _ _ _

end Sys2Proof.Machine
end

section
/-! PROOF. A Card load begins, or its preconditions do not hold (R424, R425). -/
namespace Sys2Proof.Machine

/-- The preconditions of a load. -/
def State.loadReady (s : State) (l : CardLoad) : Bool := if l.full then s.fullReady else s.functionReady [] l.mask

/-- The registers of CRD_CTL and CRD_STATUS that a load changes before its preconditions are looked at. -/
def loadCtlFields : List Fld := [CRD_CTL_KIND, CRD_CTL_SRC_FLASH, CRD_STATUS_OPEN_DEFER]

/-- From s to t a load may have been asked for: CRD_CTL and OPEN_DEFER alone have changed. -/
structure LoadAsked (s t : State) : Prop where
  fields : OnlyFields s t loadCtlFields
  streams : t.validStreams = s.validStreams

namespace LoadAsked
variable {s t : State}

theorem refl (s : State) : LoadAsked s s := ⟨.refl s _, rfl⟩

theorem set (h : LoadAsked s t) (f : Fld) (v : Nat) (hf : f ∈ loadCtlFields) : LoadAsked s (t.set f v) := by
  refine ⟨h.fields.set f v hf, (t.validStreams_set f v ?_).trans h.streams⟩
  simp only [loadCtlFields, List.mem_cons, List.not_mem_nil, or_false] at hf
  rcases hf with rfl | rfl | rfl <;> decide

theorem get (h : LoadAsked s t) {f : Fld} (hf : f.key < 8 * 0x300008 ∨ 8 * 0x300008 + 2 < f.key ∧ f.key ≠ 8 * 0x300020 + 2) : t.get f = s.get f := by
  refine h.fields.2 f ?_
  simp only [loadCtlFields, List.map_cons, List.map_nil, List.mem_cons, List.not_mem_nil, or_false, CRD_CTL_KIND, CRD_CTL_SRC_FLASH, CRD_STATUS_OPEN_DEFER]
  omega

/-- A register behind the Card loader's. -/
theorem behind (h : LoadAsked s t) {f : Fld} (hf : 8 * 0x301000 ≤ f.key) : t.get f = s.get f := h.get (.inr (by omega))

/-- Asking for a load leaves its preconditions. -/
theorem loadReady (h : LoadAsked s t) (l : CardLoad) : t.loadReady l = s.loadReady l := by
  have hbolt (b : Nat) : t.get (BLT_STATE b) = s.get (BLT_STATE b) := h.behind (by simp only [BLT_STATE]; omega)
  have hrun (n : Nat) : t.get (LOOM_STATUS_RUN n) = s.get (LOOM_STATUS_RUN n) := h.behind (by simp only [LOOM_STATUS_RUN]; omega)
  have hborrow (i : Nat) : t.get (NBT_BORROW_STATE i) = s.get (NBT_BORROW_STATE i) := h.behind (by simp only [NBT_BORROW_STATE]; omega)
  have hlend (i : Nat) : t.get (NBT_LEND_STATE i) = s.get (NBT_LEND_STATE i) := h.behind (by simp only [NBT_LEND_STATE]; omega)
  have hvalid (i : Nat) : t.get (RES_VALID i) = s.get (RES_VALID i) := h.behind (by simp only [RES_VALID]; omega)
  have hwbolt (i : Nat) : t.get (RES_WBOLT i) = s.get (RES_WBOLT i) := h.behind (by simp only [RES_WBOLT]; omega)
  have hdbolt (i : Nat) : t.get (RES_DBOLT i) = s.get (RES_DBOLT i) := h.behind (by simp only [RES_DBOLT]; omega)
  have hslot (x : Nat) : t.get (STR_SLOT x) = s.get (STR_SLOT x) := h.behind (by simp only [STR_SLOT]; omega)
  have hloaded : t.get CRD_STATUS_LOADED = s.get CRD_STATUS_LOADED := h.get (by simp only [CRD_STATUS_LOADED]; omega)
  have hcard : t.card = s.card := (congrArg State.card h.fields.1 :)
  have htiers : t.tiers = s.tiers := (congrArg State.tiers h.fields.1 :)
  have hidle : t.boltIdle = s.boltIdle := funext fun b => by simp only [State.boltIdle, hbolt]
  have hstopped : t.stopped = s.stopped := funext fun n => by simp only [State.stopped, State.is, hrun]
  have hleases : t.leasesOver = s.leasesOver := by simp only [State.leasesOver, hborrow, hlend]
  have hmasked (mask : Nat) : t.slotMasked [] mask = s.slotMasked [] mask := funext fun i => by simp only [State.slotMasked, State.is, hvalid, hwbolt, hdbolt]
  have hlooms (mask : Nat) : t.maskLooms [] mask = s.maskLooms [] mask := by
    simp only [State.maskLooms, State.boltOf, State.inBolt, State.boltValid, State.boltEntry, hcard]
  simp only [State.loadReady, State.fullReady, State.functionReady, State.tiersIdle, State.is, hidle, hstopped, hleases, hmasked, hlooms, hslot,
    hloaded, h.streams, htiers]

theorem cardCtl (s : State) (req : Requester) (kind : Nat) : LoadAsked s (s.cardCtl req kind) := by
  have hkind := (LoadAsked.refl s).set CRD_CTL_KIND kind (by simp [loadCtlFields])
  unfold State.cardCtl
  dsimp only
  split
  · exact hkind
  · exact hkind.set _ _ (by simp [loadCtlFields])

end LoadAsked

theorem State.cardCtl_kind (s : State) (req : Requester) {kind : Nat} (hk : kind < 2) : (s.cardCtl req kind).get CRD_CTL_KIND = kind := by
  have hset : (s.set CRD_CTL_KIND kind).get CRD_CTL_KIND = kind := (State.get_set_same _ _ _).trans (Nat.mod_eq_of_lt hk)
  unfold State.cardCtl
  dsimp only
  split
  · exact hset
  · exact (State.get_set_ne _ _ (by decide)).trans hset

/-- Only Selvedge has a load read flash (R424). -/
theorem State.cardCtl_cardSrc (s : State) (req : Requester) (kind : Nat) :
    (s.cardCtl req kind).cardSrc = if req = .selvedge then s.cardSrc else none := by
  unfold State.cardCtl
  dsimp only
  split
  · have hflash : (s.set CRD_CTL_KIND kind).is CRD_CTL_SRC_FLASH = s.is CRD_CTL_SRC_FLASH := congrArg (· != 0) (State.get_set_ne _ _ (by decide))
    have harea : (s.set CRD_CTL_KIND kind).get CRD_CTL_AREA = s.get CRD_CTL_AREA := State.get_set_ne _ _ (by decide)
    simp only [State.cardSrc, hflash, harea]
  · have hnone : ((s.set CRD_CTL_KIND kind).set CRD_CTL_SRC_FLASH 0).is CRD_CTL_SRC_FLASH = false := by
      simp [State.is]
    exact if_neg (by simp [hnone])

/-- The registers that the end of a load shows. -/
def loadEndFields : List Fld := [CRD_LOAD_STS_STS, CRD_LOAD_STS_SECT, CRD_LOAD_STS_INDEX, CRD_STATUS_BUSY]

/-- The registers show the end of a load. -/
def State.loadShown (s : State) (b : CardBad) : State :=
  (((s.set CRD_LOAD_STS_STS b.1).set CRD_LOAD_STS_SECT b.2.1).set CRD_LOAD_STS_INDEX (min 0xFFFF b.2.2)).set CRD_STATUS_BUSY 0

theorem State.loadShown_spec (s : State) (b : CardBad) : OnlyFields s (s.loadShown b) loadEndFields
    ∧ (s.loadShown b).get CRD_STATUS_BUSY = 0 ∧ (s.loadShown b).get CRD_LOAD_STS_STS = b.1 % 2 ^ CRD_LOAD_STS_STS.width := by
  refine ⟨((((OnlyFields.refl s _).set _ _ ?_).set _ _ ?_).set _ _ ?_).set _ _ ?_, State.get_set_same _ _ _, ?_⟩
  · simp [loadEndFields]
  · simp [loadEndFields]
  · simp [loadEndFields]
  · simp [loadEndFields]
  · rw [State.loadShown, State.get_set_ne (f := CRD_STATUS_BUSY) _ _ (by decide), State.get_set_ne (f := CRD_LOAD_STS_INDEX) _ _ (by decide),
      State.get_set_ne (f := CRD_LOAD_STS_SECT) _ _ (by decide), State.get_set_same]

/-- The end of a load, refused or not (R426). -/
theorem State.cardDone_spec (s : State) (b : CardBad) :
    (s.cardDone b).crd = none ∧ (s.cardDone b).get CRD_STATUS_BUSY = 0
      ∧ (s.cardDone b).get CRD_LOAD_STS_STS = b.1 % 2 ^ CRD_LOAD_STS_STS.width
      ∧ (b.1 ≠ 0 → (s.cardDone b).get CRD_CNT_REFUSED_N = (s.get CRD_CNT_REFUSED_N + 1) % 2 ^ 64)
      ∧ SameFields s (s.cardDone b) (loadEndFields ++ if b.1 = 0 then [] else [CRD_CNT_REFUSED_N])
      ∧ (s.cardDone b).looms = s.looms ∧ (s.cardDone b).card = s.card ∧ (s.cardDone b).mem = s.mem ∧ (s.cardDone b).poison = s.poison := by
  obtain ⟨v, hv⟩ : ∃ v : State, v = { s.loadShown b with
      crd := none, tiers := { s.tiers with ops := s.tiers.ops.filter fun o => o.1 != 68 }, mgmt := { s.mgmt with cardUnread := true } } := ⟨_, rfl⟩
  have hget (g : Fld) : v.get g = (s.loadShown b).get g := hv ▸ rfl
  obtain ⟨hshown, hbusy', hsts'⟩ := s.loadShown_spec b
  have hfields : SameFields s v loadEndFields := fun g hg => (hget g).trans (hshown.2 g hg)
  have hbusy : v.get CRD_STATUS_BUSY = 0 := (hget _).trans hbusy'
  have hsts : v.get CRD_LOAD_STS_STS = b.1 % 2 ^ CRD_LOAD_STS_STS.width := (hget _).trans hsts'
  have hrest : v.crd = none ∧ v.looms = s.looms ∧ v.card = s.card ∧ v.mem = s.mem ∧ v.poison = s.poison := by
    subst hv
    exact ⟨rfl, rfl, rfl, rfl, rfl⟩
  have hdone : s.cardDone b = if b.1 = 0 then v else (v.add CRD_CNT_REFUSED_N 1).report (mkRec 17 0 (0x200 + b.1) 2 none 0 0 []) := hv ▸ rfl
  obtain ⟨hcrd, hlooms, hcard, hmem, hpoison⟩ := hrest
  rw [hdone]
  by_cases hb : b.1 = 0
  · rw [if_pos hb, if_pos hb, List.append_nil]
    exact ⟨hcrd, hbusy, hsts, fun h => absurd hb h, hfields, hlooms, hcard, hmem, hpoison⟩
  · rw [if_neg hb, if_neg hb]
    have hcount {g : Fld} (hg : g.key ≠ CRD_CNT_REFUSED_N.key) :
        ((v.add CRD_CNT_REFUSED_N 1).report (mkRec 17 0 (0x200 + b.1) 2 none 0 0 [])).get g = v.get g := by
      rw [State.report_get]
      exact State.get_set_ne _ _ hg
    refine ⟨?_, (hcount (by decide)).trans hbusy, (hcount (by decide)).trans hsts, fun _ => ?_, fun g hg => ?_, ?_, ?_, ?_, ?_⟩
    · rw [State.report_crd]
      exact hcrd
    · rw [State.report_get, State.add, State.get_set_same, hfields CRD_CNT_REFUSED_N (by decide)]
      rfl
    · simp only [List.map_append, List.map_cons, List.map_nil, List.mem_append, List.mem_singleton, not_or] at hg
      exact (hcount hg.2).trans (hfields g hg.1)
    · rw [State.report_looms]
      exact hlooms
    · rw [State.report_card]
      exact hcard
    · rw [State.report_mem]
      exact hmem
    · rw [State.report_poison]
      exact hpoison

/-- A load whose preconditions hold is under way. -/
theorem State.cardStart_ready {s : State} {l : CardLoad} (hcrd : s.crd = none) (hready : s.loadReady l = true) :
    s.cardStart l = ({ s.set CRD_STATUS_OPEN_DEFER 0 with crd := some l } : State).set CRD_STATUS_BUSY 1 := by
  have hdefer := (((LoadAsked.refl s).set CRD_STATUS_OPEN_DEFER 0 (by simp [loadCtlFields])).loadReady l).trans hready
  rw [State.loadReady] at hdefer
  simp [State.cardStart, hcrd, hdefer]

theorem State.cardStart_notReady {s : State} {l : CardLoad} (hcrd : s.crd = none) (hready : s.loadReady l = false) :
    s.cardStart l = (s.set CRD_STATUS_OPEN_DEFER 0).cardDone (0x11, 0, 0) := by
  have hdefer := (((LoadAsked.refl s).set CRD_STATUS_OPEN_DEFER 0 (by simp [loadCtlFields])).loadReady l).trans hready
  rw [State.loadReady] at hdefer
  simp [State.cardStart, hcrd, hdefer]

/-- A load of a kind that is asked for begins where its preconditions hold. -/
theorem loadBegun {s : State} {l : CardLoad} (req : Requester) {kind : Nat} (hkind : kind < 2) (hcrd : s.crd = none) (hready : s.loadReady l = true) :
    LoadBegun s ((s.cardCtl req kind).cardStart l) kind l := by
  have hasked := LoadAsked.cardCtl s req kind
  have hnone : (s.cardCtl req kind).crd = none := (congrArg State.crd hasked.fields.1 :).trans hcrd
  have hctl := s.cardCtl_kind req hkind
  rw [State.cardStart_ready hnone ((hasked.loadReady l).trans hready)]
  have hbegun := (hasked.fields.mono (gs := loadCtlFields ++ [CRD_STATUS_BUSY]) (by simp)).trans
    (((OnlyFields.refl _ _).set CRD_STATUS_OPEN_DEFER 0 (by simp [loadCtlFields])).set CRD_STATUS_BUSY 1 (by simp))
  refine ⟨State.get_set_same _ _ _, ?_, rfl, hbegun.2, hbegun.sameMemory, hbegun.looms⟩
  show (((s.cardCtl req kind).set CRD_STATUS_OPEN_DEFER 0).set CRD_STATUS_BUSY 1).get CRD_CTL_KIND = kind
  exact (State.get_set_ne (f := CRD_STATUS_BUSY) (g := CRD_CTL_KIND) _ _ (by decide)).trans
    ((State.get_set_ne (f := CRD_STATUS_OPEN_DEFER) (g := CRD_CTL_KIND) _ _ (by decide)).trans hctl)

/-- A load whose preconditions do not hold is refused at once. -/
theorem loadNotReady {s : State} {l : CardLoad} (req : Requester) (kind : Nat) (hcrd : s.crd = none) (hready : s.loadReady l = false) :
    LoadNotReady s ((s.cardCtl req kind).cardStart l) := by
  have hasked := LoadAsked.cardCtl s req kind
  have hnone : (s.cardCtl req kind).crd = none := (congrArg State.crd hasked.fields.1 :).trans hcrd
  have hdefer := hasked.set CRD_STATUS_OPEN_DEFER 0 (by simp [loadCtlFields])
  rw [State.cardStart_notReady hnone ((hasked.loadReady l).trans hready)]
  generalize (s.cardCtl req kind).set CRD_STATUS_OPEN_DEFER 0 = v at hdefer
  obtain ⟨hcrd', -, hsts, hcount, hfields, hlooms, -, hmem, hpoison⟩ := v.cardDone_spec (0x11, 0, 0)
  have hsame := hdefer.fields.sameMemory
  refine ⟨hsts, ?_, hcrd', fun g hg => ?_, ⟨fun a => ?_, hpoison.trans hsame.2⟩, hlooms.trans hdefer.fields.looms⟩
  · rw [hcount (by decide), hdefer.get (by simp only [CRD_CNT_REFUSED_N]; omega)]
  · refine (hfields g fun h => hg ?_).trans (hdefer.fields.2 g fun h => hg ?_)
    · simp [loadEndFields] at h ⊢
      tauto
    · simp [loadCtlFields] at h ⊢
      tauto
  · rw [State.byteAt, hmem]
    exact hsame.1 a

theorem cardLoadsBegin : CardLoadsBegin := by
  intro s req hcrd
  have hasked (k : Nat) := LoadAsked.cardCtl s req k
  have haddr (k : Nat) : (s.cardCtl req k).get CRD_SRC_ADDR = s.get CRD_SRC_ADDR := (hasked k).get (by simp only [CRD_SRC_ADDR]; omega)
  have hmask (k : Nat) : (s.cardCtl req k).get CRD_FUNC_BOLTS_MASK = s.get CRD_FUNC_BOLTS_MASK :=
    (hasked k).get (by simp only [CRD_FUNC_BOLTS_MASK]; omega)
  have hfull : exec (.cardLoadFull req) s = .next ((s.cardCtl req 0).cardStart
      { full := true, mask := 0, addr := s.get CRD_SRC_ADDR, flash := if req = .selvedge then s.cardSrc else none }) := by
    rw [← haddr 0, ← s.cardCtl_cardSrc req 0]
    rfl
  have hfunction : exec (.cardLoadFunction req) s = .next ((s.cardCtl req 1).cardStart
      { full := false, mask := s.get CRD_FUNC_BOLTS_MASK, addr := s.get CRD_SRC_ADDR, flash := if req = .selvedge then s.cardSrc else none }) := by
    rw [← haddr 1, ← hmask 1, ← s.cardCtl_cardSrc req 1]
    rfl
  exact ⟨fun h => ⟨_, hfull, loadBegun req (by decide) hcrd h⟩, fun h => ⟨_, hfull, loadNotReady req 0 hcrd h⟩,
    fun h => ⟨_, hfunction, loadBegun req (by decide) hcrd h⟩, fun h => ⟨_, hfunction, loadNotReady req 1 hcrd h⟩⟩

end Sys2Proof.Machine
end

section
/-! PROOF. What the reads and the checks of a Card load leave (R424, R426). -/
namespace Sys2Proof.Machine

namespace HbmOnly
variable {s t : State}

theorem devRead {a n : Nat} (h : HbmOnly s t) : HbmOnly s (t.devRead a n).2 := by
  unfold State.devRead
  dsimp only
  split
  · split
    · exact h
    · exact h.hbmScan
  · refine .refusedAt ?_
    split
    · exact h
    · exact h.hbmScan

theorem devFetch {a n : Nat} (h : HbmOnly s t) : HbmOnly s (t.devFetch a n).2 := .ite (h.devRead.keepFields rfl rfl) h.devRead

end HbmOnly

/-- A tier engine's read keeps what reads of HBM keep. -/
theorem ReadHolds.tierRange {P : State → Prop} {tenant a len : Nat} {raw : Bool} (hP : ∀ t u, HbmOnly t u → P t → P u) :
    ReadHolds P (tierRange tenant raw a len) := by
  have hpiece (x : Nat × Nat) : ReadHolds P (tierPiece tenant raw x.1 x.2) := by
    intro l t h
    unfold tierPiece
    split
    · dsimp only
      split
      · exact hP _ _ (HbmOnly.refl t).hbmRead h
      · exact hP _ _ (HbmOnly.refl t).refusedAt h
    · split
      · trivial
      · exact h
  have hpieces : ∀ l : List (Nat × Nat), ReadHolds P (tierPieces tenant raw l) := by
    intro l
    induction l with
    | nil => exact pure
    | cons x l ih => exact bind (hpiece x) fun _ => bind ih fun _ => pure
  exact hpieces _

/-- From s to t a load has at most read and checked: the image in force, the looms and what the loader counts stay. -/
structure CardReads (s t : State) : Prop where
  get : ∀ f ∈ [CRD_STATUS_LOADED, CRD_CNT_LOADS_N, CRD_CNT_REFUSED_N], t.get f = s.get f
  card : t.card = s.card
  looms : t.looms = s.looms

namespace CardReads
variable {s t u : State}

theorem refl (s : State) : CardReads s s := ⟨fun _ _ => rfl, rfl, rfl⟩

theorem hbm (h : CardReads s t) (g : HbmOnly t u) : CardReads s u := by
  refine ⟨fun f hf => (g.get f ?_).trans (h.get f hf), g.card.trans h.card, g.looms.trans h.looms⟩
  simp only [List.mem_cons, List.not_mem_nil, or_false] at hf
  rcases hf with rfl | rfl | rfl <;> exact ⟨by decide, .inl (by decide)⟩

theorem devFetch {a n : Nat} (h : CardReads s t) : CardReads s (t.devFetch a n).2 := h.hbm (HbmOnly.refl t).devFetch

theorem cardRead {l : CardLoad} {flashBad : Bool} (h : CardReads s t) : CardReads s (t.cardRead l flashBad).2.2.2 := by
  unfold State.cardRead
  split
  · exact h
  · split
    · exact h
    · have hhead : CardReads s (t.devFetch l.addr 64).2 := h.devFetch
      dsimp only
      split
      · dsimp only
        exact hhead
      · dsimp only
        exact hhead.devFetch

theorem verifyImage {use : Usage} {img : List Byte} {sig : Nat} (h : CardReads s t) : CardReads s (t.verifyImage use img sig).2 := by
  have hcount {u : State} {f : Fld} (hf : f.key < 8 * 0x300000) (hu : CardReads s u) : CardReads s (u.add f 1) := by
    refine ⟨fun g hg => (State.get_set_ne _ _ ?_).trans (hu.get g hg), hu.card, hu.looms⟩
    simp only [List.mem_cons, List.not_mem_nil, or_false] at hg
    rcases hg with rfl | rfl | rfl
    · simp only [CRD_STATUS_LOADED]
      omega
    · simp only [CRD_CNT_LOADS_N]
      omega
    · simp only [CRD_CNT_REFUSED_N]
      omega
  have hverify := hcount (f := SEC_CNT_VERIFY_N) (by decide) h
  unfold State.verifyImage State.verify
  dsimp only
  split
  · exact hverify
  · exact hcount (f := SEC_CNT_VFAIL_N) (by decide) hverify

theorem draftFetch {e : List Byte} (h : CardReads s t) : CardReads s (t.draftFetch e).2.2 := by
  unfold State.draftFetch
  dsimp only
  split
  · exact h
  · exact h.devFetch

theorem draftCheck {c : CardSecs} (h : CardReads s t) : CardReads s (t.draftCheck c).2.2 := by
  unfold State.draftCheck
  refine List.foldlRecOn (motive := fun r : Option CardBad × List (Nat × List Byte) × State => CardReads s r.2.2) _ _ h fun r hr n _ => ?_
  have hfetch : CardReads s (r.2.2.draftFetch (entOf c 4 n)).2.2 := hr.draftFetch
  dsimp only
  split_ifs
  exacts [hr, hr, hr, hr, hfetch, hfetch]

theorem cardChecks {img : List Byte} {len : Nat} {failed : Bool} (h : CardReads s t) : CardReads s (t.cardChecks img len failed).2.2 := by
  have hverify : CardReads s (t.verifyImage .card img (leAt img 20 4)).2 := h.verifyImage
  unfold State.cardChecks
  generalize t.verifyImage .card img (leAt img 20 4) = v at hverify ⊢
  generalize (if failed then 1 else headerStatus img len) = st
  obtain ⟨vst, v⟩ := v
  have hdrafts : CardReads s (v.draftCheck (secsOf img)).2.2 := draftCheck (t := v) hverify
  dsimp only
  generalize v.draftCheck (secsOf img) = d at hdrafts ⊢
  split
  · exact h
  · split
    · exact hverify
    · split
      · exact hverify
      · split
        · exact hverify
        · exact hdrafts

theorem profileReads {c : CardSecs} : (l : List Nat) → ReadHolds (CardReads s) (profileReads c l)
  | [] => .pure
  | _ :: l => .bind (.tierRange fun _ _ g h => h.hbm g) fun _ => .bind (profileReads l) fun _ => .pure

/-- A load that is refused after it has read and checked. -/
theorem refused (h : CardReads s t) (b : CardBad) : LoadRefused s (t.cardDone b) b := by
  obtain ⟨hcrd, hbusy, hsts, hcount, hfields, hlooms, hcard, -, -⟩ := t.cardDone_spec b
  refine ⟨hcrd, hbusy, hsts, fun hb => ?_, ?_, ?_, hcard.trans h.card, hlooms.trans h.looms⟩
  · rw [hcount hb, h.get _ (by simp)]
  · refine (hfields _ ?_).trans (h.get _ (by simp))
    split <;> decide
  · refine (hfields _ ?_).trans (h.get _ (by simp))
    split <;> decide

end CardReads

/-! ### The branches of a load's end -/

/-- The command that ends a load does so where the stacks are awake and the load waits for no read. -/
theorem exec_cardCommit {s : State} {l : CardLoad} (flashBad : Bool) (hcrd : s.crd = some l) (hwait : s.cardOp.waiting = false)
    (hawake : s.stacksAsleep = false) : exec (.cardCommit flashBad) s = .next (s.cardCommit l flashBad) := by
  show execCardCommit flashBad s = _
  simp [execCardCommit, State.orWait, hawake, hcrd, hwait]

section
variable {s r u : State} {l : CardLoad} {flashBad failed : Bool} {img : List Byte} {len : Nat} {ds : List (Nat × List Byte)}
  (hread : s.cardRead l flashBad = (img, len, failed, r))
include hread

theorem CardReads.ofRead : CardReads s r := by
  have h := (CardReads.refl s).cardRead (l := l) (flashBad := flashBad)
  rwa [hread] at h

theorem cardCommit_refused {b : CardBad} (hchecks : r.cardChecks img len failed = (some b, ds, u)) : s.cardCommit l flashBad = u.cardDone b := by
  simp only [State.cardCommit, hread, hchecks]

theorem CardReads.ofChecks {o : Option CardBad} (hchecks : r.cardChecks img len failed = (o, ds, u)) : CardReads s u := by
  have h := (CardReads.ofRead hread).cardChecks (img := img) (len := len) (failed := failed)
  rwa [hchecks] at h

theorem cardCommit_done {ps : List (Nat × RdData)} {rest : List ReadRes} {v : State} (hchecks : r.cardChecks img len failed = (none, ds, u))
    (hprofiles : profileReads (secsOf img) ((List.range 64).filter (sValid (secsOf img))) s.cardOp.got u = .done ps rest v) :
    s.cardCommit l flashBad = v.cardFinish l img ps ds := by
  simp only [State.cardCommit, hread, hchecks, hprofiles]

theorem CardReads.ofProfiles {ps : List (Nat × RdData)} {rest : List ReadRes} {v : State} (hchecks : r.cardChecks img len failed = (none, ds, u))
    (hprofiles : Machine.profileReads (secsOf img) ((List.range 64).filter (sValid (secsOf img))) s.cardOp.got u = .done ps rest v) : CardReads s v := by
  have hkeeps : ReadHolds (CardReads s) _ := CardReads.profileReads (c := secsOf img) ((List.range 64).filter (sValid (secsOf img)))
  have h := hkeeps s.cardOp.got u (CardReads.ofChecks hread hchecks)
  rwa [hprofiles] at h

end

/-- One read from flash in vain is refused with FORMAT (R426). -/
theorem cardCommit_flashBad {s : State} {l : CardLoad} {area : Nat} (hflash : l.flash = some area) : s.cardCommit l true = s.cardDone (1, 0, 0) := by
  simp [State.cardCommit, State.cardRead, hflash, State.cardChecks]

/-- A load that waits for a profile of another device has asked for it. -/
theorem cardCommit_need {s r u : State} {l : CardLoad} {flashBad failed : Bool} {img : List Byte} {len a n : Nat} {ds : List (Nat × List Byte)}
    (hcrd : s.crd = some l) (hread : s.cardRead l flashBad = (img, len, failed, r)) (hchecks : r.cardChecks img len failed = (none, ds, u))
    (hprofiles : profileReads (secsOf img) ((List.range 64).filter (sValid (secsOf img))) s.cardOp.got u = .need a n) :
    (s.cardCommit l flashBad).crd = some l ∧ (s.cardCommit l flashBad).cardOp.waiting = true ∧ (s.cardCommit l flashBad).card = s.card
      ∧ (s.cardCommit l flashBad).looms = s.looms ∧ (s.cardCommit l flashBad).flds = s.flds ∧ SameMemory s (s.cardCommit l flashBad) := by
  have hwait {o : TierOp} {ops : List (Nat × TierOp)} :
      (ops.filter (fun e : Nat × TierOp => e.1 != 68) ++ [(68, o)]).find? (fun e => e.1 == 68) = some (68, o) := by
    rw [List.find?_append, List.find?_eq_none.2 (by simp)]
    rfl
  obtain ⟨v, hv⟩ : ∃ v : State, v = s.modTiers fun x =>
      { x with ops := x.ops.filter (fun e => e.1 != 68) ++ [(68, { s.cardOp with waiting := true })] } := ⟨_, rfl⟩
  have hcommit : ∃ k, s.cardCommit l flashBad = v.request (.tierRead 68) k := ⟨_, by simp only [State.cardCommit, hread, hchecks, hprofiles, hv]; rfl⟩
  obtain ⟨k, hk⟩ := hcommit
  rw [hk]
  have hop : (v.request (.tierRead 68) k).cardOp = v.cardOp := rfl
  refine ⟨?_, ?_, hv ▸ rfl, hv ▸ rfl, hv ▸ rfl, ⟨fun _ => hv ▸ rfl, hv ▸ rfl⟩⟩
  · rw [← hcrd, hv]
    rfl
  · rw [hop, State.cardOp, hv, State.modTiers, hwait]
    rfl

end Sys2Proof.Machine
end

section
/-! PROOF. The registers that sections of an image write lie past the Card loader's (R422, R427). -/
namespace Sys2Proof.Machine

/-- A register at an address past the Card loader's has its fields there. -/
theorem pastCard_at {x lo w r : Nat} (h : 0x301000 ≤ x) : 8 * 0x301000 ≤ (⟨8 * x + lo, w, r⟩ : Fld).key := by
  dsimp only
  omega

/-- The first field of every register lies past the Card loader's registers, or the register lies before 0x1000000. -/
def RegShape.pastCard (r : RegShape) : Prop :=
  ∀ n i, n < r.icount → i < r.count → ∀ fa ∈ (r.flds n i).head?,
    8 * 0x301000 ≤ fa.1.key ∨ r.base + n * r.istride + i * r.stride + r.bytes ≤ 0x1000000

theorem regMapMgmt_pastCard : ∀ r ∈ regMapMgmt0 ++ regMapMgmt1 ++ regMapMgmt2 ++ regMapMgmt3, r.pastCard := by
  simp only [regMapMgmt0, regMapMgmt1, regMapMgmt2, regMapMgmt3, List.forall_mem_append, List.forall_mem_cons,
    List.not_mem_nil, IsEmpty.forall_iff, implies_true, and_true]
  and_intros
  all_goals
    intro n i hn hi fa hfa
    dsimp only at hn hi ⊢
    omega

theorem regMapLoom_pastCard : ∀ r ∈ regMapLoom0 ++ regMapLoom1 ++ regMapLoom2 ++ regMapLoom3 ++ regMapLoom4 ++ regMapLoom5, r.pastCard := by
  simp only [regMapLoom0, regMapLoom1, regMapLoom2, regMapLoom3, regMapLoom4, regMapLoom5, List.forall_mem_append, List.forall_mem_cons,
    List.not_mem_nil, IsEmpty.forall_iff, implies_true, and_true]
  and_intros
  all_goals
    intro n i hn hi fa hfa
    cases hfa
    exact .inl (pastCard_at (by omega))

theorem regMapHub_pastCard : ∀ r ∈ regMapHub0 ++ regMapHub1 ++ regMapHub2 ++ regMapHub3 ++ regMapFabric0 ++ regMapFabric1 ++ regMapFabric2,
    r.pastCard := by
  simp only [regMapHub0, regMapHub1, regMapHub2, regMapHub3, regMapFabric0, regMapFabric1, regMapFabric2, List.forall_mem_append,
      List.forall_mem_cons, List.not_mem_nil, IsEmpty.forall_iff, implies_true, and_true]
  and_intros
  all_goals
    intro n i hn hi fa hfa
    cases hfa
    exact .inl (pastCard_at (by omega))

theorem regMap_pastCard : ∀ r ∈ regMap, r.pastCard := by
  have hloom := regMapLoom_pastCard
  have hhub := regMapHub_pastCard
  have hmgmt := regMapMgmt_pastCard
  simp only [regMap, List.forall_mem_append] at hloom hhub hmgmt ⊢
  tauto

/-- The first of the fields of a register lies before the others. -/
theorem key_le_of_pairwise {fa : Fld × Acc} {l : List (Fld × Acc)} (h : (fa :: l).Pairwise Above) {x : Fld × Acc} (hx : x ∈ fa :: l) :
    fa.1.key ≤ x.1.key := by
  rcases List.mem_cons.1 hx with rfl | hx
  · exact le_rfl
  · have := ((List.pairwise_cons.1 h).1 x hx).1
    omega

theorem fieldsAt_pastCard {a : Nat} (ha : 0x1000000 ≤ a) : ∀ f ∈ fieldsAt a, 8 * 0x301000 ≤ f.key := by
  unfold fieldsAt
  split
  next hit hf =>
    intro f hmem
    obtain ⟨x, hx, rfl⟩ := List.mem_map.1 hmem
    obtain ⟨hinst, hidx, hlt⟩ := findIn_bounds hf
    have hpast := regMap_pastCard hit.shape (findIn_shape_mem hf) _ _ hinst hidx
    have hpair : (hit.shape.flds hit.inst hit.idx).Pairwise Above := RegHit.fields_pairwise hf
    have hmem' : x ∈ hit.shape.flds hit.inst hit.idx := hx
    cases hfields : hit.shape.flds hit.inst hit.idx with
    | nil => exact absurd (hfields ▸ hmem') List.not_mem_nil
    | cons fa l =>
      rw [hfields] at hpast hpair hmem'
      rcases hpast fa rfl with hkey | hend
      · exact hkey.trans (key_le_of_pairwise hpair hmem')
      · omega
  next => exact List.forall_mem_nil _

end Sys2Proof.Machine
end

section
/-! PROOF. What a commit keeps: the loader's counts, the image in force and the map of the flash (R427, R428). -/
namespace Sys2Proof.Machine

/-- A field that is none of the loader's counts. -/
def Fld.offCounts (f : Fld) : Prop := f.key < 8 * 0x300040 ∨ 8 * 0x300050 ≤ f.key

/-- A register that lies elsewhere than the loader's counts. -/
theorem offCounts_at {x lo w r : Nat} (h : x < 0x210800 ∧ lo < 64 ∨ 0x301000 ≤ x) : Fld.offCounts ⟨8 * x + lo, w, r⟩ := by
  unfold Fld.offCounts
  dsimp only
  omega

/-- From s to t the loader's counts, the image in force and the map of the flash stay. -/
structure KeepsCard (s t : State) : Prop where
  get : ∀ f ∈ [CRD_CNT_LOADS_N, CRD_CNT_REFUSED_N], t.get f = s.get f
  card : t.card = s.card
  map : t.tiers.map = s.tiers.map

namespace KeepsCard
variable {s t u : State}

theorem refl (s : State) : KeepsCard s s := ⟨fun _ _ => rfl, rfl, rfl⟩

theorem trans (h : KeepsCard s t) (g : KeepsCard t u) : KeepsCard s u :=
  ⟨fun f hf => (g.get f hf).trans (h.get f hf), g.card.trans h.card, g.map.trans h.map⟩

theorem frame (h : KeepsCard s t) (hf : u.flds = t.flds := by rfl) (hc : u.card = t.card := by rfl) (hm : u.tiers.map = t.tiers.map := by rfl) :
    KeepsCard s u :=
  h.trans ⟨fun f _ => by rw [State.get, State.get, hf], hc, hm⟩

theorem ite {c : Prop} [Decidable c] {a b : State} (ha : KeepsCard s a) (hb : KeepsCard s b) : KeepsCard s (if c then a else b) := by
  split
  · exact ha
  · exact hb

theorem foldl {β : Type} {l : List β} {f : State → β → State} (h : KeepsCard s t) (hf : ∀ u, ∀ x ∈ l, KeepsCard s u → KeepsCard s (f u x)) :
    KeepsCard s (l.foldl f t) := List.foldlRecOn (motive := KeepsCard s) _ _ h fun u hu x hx => hf u x hx hu

theorem counts_key {g : Fld} (hg : g ∈ [CRD_CNT_LOADS_N, CRD_CNT_REFUSED_N]) : 8 * 0x300040 ≤ g.key ∧ g.key < 8 * 0x300050 := by
  simp only [List.mem_cons, List.not_mem_nil, or_false] at hg
  rcases hg with rfl | rfl <;> decide

theorem setOff {f : Fld} {v : Nat} (h : KeepsCard s t) (hf : f.offCounts) : KeepsCard s (t.set f v) := by
  refine h.trans ⟨fun g hg => State.get_set_ne _ _ fun he => ?_, rfl, rfl⟩
  have := counts_key hg
  unfold Fld.offCounts at hf
  omega

theorem set {x lo w r v : Nat} (h : KeepsCard s t) (hx : x < 0x210800 ∧ lo < 64 ∨ 0x301000 ≤ x := by omega) :
    KeepsCard s (t.set ⟨8 * x + lo, w, r⟩ v) := h.setOff (offCounts_at hx)

theorem clear {x lo w r : Nat} (h : KeepsCard s t) (hx : x < 0x210800 ∧ lo < 64 ∨ 0x301000 ≤ x := by omega) :
    KeepsCard s (t.clear ⟨8 * x + lo, w, r⟩) := h.set hx

theorem filterFields {p : Nat × Nat → Bool} (h : KeepsCard s t) (hp : ∀ k v, 8 * 0x300040 ≤ k → k < 8 * 0x300050 → p (k, v) = true) :
    KeepsCard s { t with flds := t.flds.filter p } :=
  h.trans ⟨fun f hf => congrArg (· % 2 ^ f.width) (tget_filter_of_kept f.reset t.flds fun v => hp _ v (counts_key hf).1 (counts_key hf).2), rfl, rfl⟩

theorem report {r : ErrRec} (h : KeepsCard s t) : KeepsCard s (t.report r) :=
  h.frame (State.report_flds _ _) (State.report_card _ _) (by rw [State.report_tiers])

theorem modSvc {f : Svc → Svc} (h : KeepsCard s t) : KeepsCard s (t.modSvc f) := h.frame
theorem modFab {f : Fab → Fab} (h : KeepsCard s t) : KeepsCard s (t.modFab f) := h.frame
theorem modPort {p : Nat} {f : PortSt → PortSt} (h : KeepsCard s t) : KeepsCard s (t.modPort p f) := h.frame
theorem memWrite {a : Nat} {l : List Byte} {p : Bool} (h : KeepsCard s t) : KeepsCard s (t.memWrite a l p) := h.frame

/-! ### Ports, prices and queues -/

theorem cutAll {p : Nat} (h : KeepsCard s t) : KeepsCard s (t.cutAll p) := by
  refine h.foldl fun u e _ hu => ?_
  split
  · exact hu.modPort.modPort
  · exact hu

theorem holdover (h : KeepsCard s t) : KeepsCard s t.holdover := h.set

theorem dropLink {p k : Nat} (h : KeepsCard s t) : KeepsCard s (t.dropLink p k) := by
  have hqueued : KeepsCard s (t.dropQueued p) := .ite h.modFab h
  exact hqueued.cutAll.modPort.set.set.set.holdover

theorem ledgerShow (h : KeepsCard s t) : KeepsCard s t.ledgerShow := by
  unfold State.ledgerShow
  dsimp only
  split
  · exact h.set.set.set.set
  · exact h.set.set.set.set

theorem reprice (h : KeepsCard s t) : KeepsCard s t.reprice :=
  .foldl (.foldl h.set fun _ _ _ h => h.set) fun _ _ _ h => h.set.set

theorem repriceAll (h : KeepsCard s t) : KeepsCard s t.repriceAll := h.set.set.ledgerShow.reprice.ledgerShow

theorem zeroQueues {n : Nat} (h : KeepsCard s t) : KeepsCard s (t.zeroQueues n) := h.foldl fun _ _ _ h => h.memWrite

/-! ### The tables of the image -/

theorem withDrafts {ds : List (Nat × List Byte)} (h : KeepsCard s t) : KeepsCard s (t.withDrafts ds) := h.foldl fun _ _ _ h => h.memWrite

theorem putForm {a : Nat} {l : List Byte} (h : KeepsCard s t) (ha : 0x1000000 ≤ a) : KeepsCard s (t.putForm a l) :=
  h.foldl fun _ f hf h => h.setOff (.inr (by have := fieldsAt_pastCard ha f hf; omega))

theorem clearShuttle {n : Nat} (h : KeepsCard s t) : KeepsCard s (t.clearShuttle n) := by
  refine h.filterFields fun k v hlo hhi => ?_
  have : ¬ lwin n ≤ k / 8 := by
    simp only [lwin]
    omega
  simp [this]

theorem putLooms {c : CardSecs} {looms : List Nat} (h : KeepsCard s t) : KeepsCard s (t.putLooms c looms) := by
  have hqueue (e : List Byte) : 0x1000000 ≤ (queueReg e).1 := by
    unfold queueReg
    dsimp only
    split <;> simp only [lwin] <;> omega
  unfold State.putLooms
  refine .foldl (.foldl (.foldl (h.foldl fun _ _ _ h => h.clearShuttle) fun _ _ _ h => h.putForm (hqueue _)) fun _ n _ h => ?_) fun _ _ _ h => h.zeroQueues
  refine h.foldl fun _ w _ h => h.putForm ?_
  simp only [lwin]
  omega

theorem powerLoom {c : CardSecs} {n : Nat} (h : KeepsCard s t) (hn : n < 144) : KeepsCard s (t.powerLoom c n) := .ite h.set h

theorem putBolt {c : CardSecs} {b : Nat} (h : KeepsCard s t) : KeepsCard s (t.putBolt c b) := by
  unfold State.putBolt
  exact h.set.set.clear.clear.clear.clear.clear.set.set.set.modSvc

theorem putSlot {c : CardSecs} {ps : List (Nat × RdData)} {i : Nat} (h : KeepsCard s t) : KeepsCard s (t.putSlot c ps i) := by
  unfold State.putSlot
  exact h.set.set.set.set.set.set.set.set.clear.clear.clear.clear.clear.clear.clear.modSvc

theorem openBolt {c : CardSecs} {b : Nat} (h : KeepsCard s t) : KeepsCard s (t.openBolt c b) := .ite h (.ite (h.setOff (.inl (by decide))) h.set)

theorem ethBlocks {p old new : Nat} (h : KeepsCard s t) : KeepsCard s (t.ethBlocks p old new) := by
  refine h.foldl fun _ k _ h => .ite (.set (h.filterFields fun x v hlo hhi => ?_)) (.ite h.set h)
  have : ¬ 0x7000000 + 0x10000 * (3 * p + k) ≤ x / 8 := by omega
  simp [this]

theorem putPers {c : CardSecs} {dimsNew : Bool} {p : Nat} (h : KeepsCard s t) (hp : p < 6) : KeepsCard s (t.putPers c dimsNew p) := by
  unfold State.putPers
  extract_lets v old u
  have hu : KeepsCard s u := h.set.ethBlocks
  clear_value u
  exact .ite hu (.ite hu.dropLink (.ite (.set (.ite hu.dropLink hu)) (.set (.ite hu.dropLink hu))))

theorem strapBad (h : KeepsCard s t) : KeepsCard s t.strapBad := h.set.set.report

theorem putDevice {c : CardSecs} (h : KeepsCard s t) : KeepsCard s (t.putDevice c) := by
  have hform := (h.putForm (a := 0x6000010) (l := slice (entOf c 1 0) 0 4) (by decide)).putForm (a := 0x6000018) (l := slice (entOf c 1 0) 4 4) (by decide)
  have hparent {v w : Nat} := (hform.setOff (f := FAB_SYNC_CTL_PARENT) (v := v) (.inr (by decide))).setOff (f := FAB_SYNC_CTL_ALT_PARENT) (v := w)
    (.inr (by decide))
  unfold State.putDevice
  refine .holdover (.set (.set (.set (.foldl ?_ fun _ p hp h => h.putPers (List.mem_range.1 hp)))))
  exact .ite (.strapBad (.ite hparent.modFab hparent)) (.ite hparent.modFab hparent)

theorem putTenants {c : CardSecs} (h : KeepsCard s t) : KeepsCard s (t.putTenants c) :=
  h.foldl fun _ t _ h => (h.putForm (by omega)).set.set.set.set.set.set.set.set

theorem putTables {c : CardSecs} (h : KeepsCard s t) : KeepsCard s (t.putTables c) := by
  unfold State.putTables
  refine h.foldl fun _ x _ h => h.foldl fun _ i _ h => ?_
  split
  next a ha =>
    refine h.putForm ?_
    unfold entryReg at ha
    split at ha <;> simp only [Option.some.injEq, reduceCtorEq] at ha <;> omega
  next => exact h

/-! ### The commit -/

/-- A FULL load's image is in force. -/
theorem commitFull {c : CardSecs} {ps : List (Nat × RdData)} : KeepsCard { t with card := c } (t.commitFull c ps) := by
  unfold State.commitFull
  refine .repriceAll (.foldl (.repriceAll (.set (.foldl (.foldl (.foldl ?_ fun _ _ _ h => h.putBolt) fun _ _ _ h => h.putSlot) fun _ n hn h => ?_)))
    fun _ _ _ h => h.openBolt)
  · exact (refl { t with card := c }).putDevice.putTables.putTenants.modSvc.putLooms
  · exact h.powerLoom (List.mem_range.1 hn)

/-- A FUNCTION load's image is in force. -/
theorem commitFunction {c : CardSecs} {mask : Nat} {ps : List (Nat × RdData)} : KeepsCard { t with card := c } (t.commitFunction c mask ps) := by
  unfold State.commitFunction
  refine .repriceAll (.foldl (.repriceAll (.foldl (.foldl (.foldl ?_ fun _ _ _ h => h.putBolt) fun _ _ _ h => h.putSlot) fun _ n hn h => ?_))
    fun _ _ _ h => h.openBolt)
  · exact (refl { t with card := c }).putLooms
  · exact h.powerLoom (List.mem_range.1 (List.mem_of_mem_filter hn))

end KeepsCard
end Sys2Proof.Machine
end

section
/-! PROOF. A load commits (R99, R420, R427). -/
namespace Sys2Proof.Machine

/-- A number of n bytes fits n bytes. -/
theorem leNat_lt (l : List Byte) : leNat l < 256 ^ l.length := by
  induction l with
  | nil => exact Nat.one_pos
  | cons b l ih =>
    have hb := b.isLt
    rw [leNat, List.length_cons, Nat.pow_succ]
    omega

theorem leAt_mod (l : List Byte) (o n : Nat) : leAt l o n % 256 ^ n = leAt l o n :=
  Nat.mod_eq_of_lt (Nat.lt_of_lt_of_le (leNat_lt _) (Nat.pow_le_pow_right (by decide) (List.length_take_le _ _)))

/-! ### ACC_STATUS.COMPAT -/

/-- What COMPAT of loom n follows: the Draft that the image in force binds to it. -/
def State.boundCompat (s : State) (n : Nat) : Nat := if (s.boltOf n).isSome then bits (s.draftNat n 0 4) 5 1 else 0

theorem State.boltOf_of_card {s t : State} (h : t.card = s.card) (n : Nat) : t.boltOf n = s.boltOf n := by
  simp only [State.boltOf, State.inBolt, State.boltValid, State.boltEntry, h]

theorem State.draftNat_of_mem {s t : State} (h : t.mem = s.mem) (n off len : Nat) : t.draftNat n off len = s.draftNat n off len := by
  simp only [State.draftNat, State.bytesAt, State.byteAt, h]

theorem State.bindCompat_eq (s : State) :
    s.bindCompat = (List.range 144).foldl (fun t n => t.set (ACC_STATUS_COMPAT n) (s.boundCompat n)) s := by
  suffices h : ∀ (l : List Nat) (t : State), t.card = s.card → t.mem = s.mem →
      l.foldl (fun t n => t.set (ACC_STATUS_COMPAT n) (t.boundCompat n)) t
        = l.foldl (fun t n => t.set (ACC_STATUS_COMPAT n) (s.boundCompat n)) t from h _ s rfl rfl
  intro l
  induction l with
  | nil => exact fun _ _ _ => rfl
  | cons n l ih =>
    intro t hcard hmem
    have hvalue : t.boundCompat n = s.boundCompat n := by
      rw [State.boundCompat, State.boltOf_of_card hcard, State.draftNat_of_mem hmem]
      rfl
    rw [List.foldl_cons, List.foldl_cons, hvalue]
    exact ih _ hcard hmem

theorem State.bindCompat_spec (s : State) :
    OnlyFields s s.bindCompat ((List.range 144).map ACC_STATUS_COMPAT)
      ∧ ∀ n, n < 144 → s.bindCompat.get (ACC_STATUS_COMPAT n) = s.boundCompat n := by
  have hinj (i j : Nat) (h : (ACC_STATUS_COMPAT i).key = (ACC_STATUS_COMPAT j).key) : i = j := by
    simp only [ACC_STATUS_COMPAT] at h
    omega
  rw [s.bindCompat_eq]
  refine ⟨State.foldl_set_onlyFields _ _ _ s, fun n hn => (State.foldl_set_get _ hinj (List.mem_range.2 hn) s).trans ?_⟩
  unfold State.boundCompat
  split
  · exact Nat.mod_mod _ _
  · rfl

/-! ### What a commit shows -/

/-- The registers that show the image in force. -/
def activeFields : List Fld :=
  [CRD_ACTIVE_ID_ID, CRD_ACTIVE_SVN_SVN, CRD_STATUS_LOADED, CRD_CNT_LOADS_N] ++ (List.range 6).map CRD_ACTIVE_DIGEST_DIGEST

/-- The registers show an image, and count its load. -/
def State.showImage (s : State) (img : List Byte) : State :=
  (((s.set CRD_ACTIVE_ID_ID (leAt img 8 8)).set CRD_ACTIVE_SVN_SVN (leAt img 28 4)).set CRD_STATUS_LOADED 1).add CRD_CNT_LOADS_N 1

theorem State.showImage_spec (s : State) (img : List Byte) :
    OnlyFields s (s.showImage img) activeFields ∧ (s.showImage img).get CRD_STATUS_LOADED = 1
      ∧ (s.showImage img).get CRD_ACTIVE_ID_ID = leAt img 8 8 ∧ (s.showImage img).get CRD_ACTIVE_SVN_SVN = leAt img 28 4
      ∧ (s.showImage img).get CRD_CNT_LOADS_N = (s.get CRD_CNT_LOADS_N + 1) % 2 ^ 64 := by
  unfold State.showImage State.add
  refine ⟨((((OnlyFields.refl s _).set _ _ ?_).set _ _ ?_).set _ _ ?_).set _ _ ?_, ?_, ?_, ?_, ?_⟩
  · simp [activeFields]
  · simp [activeFields]
  · simp [activeFields]
  · simp [activeFields]
  · rw [State.get_set_ne (f := CRD_CNT_LOADS_N) _ _ (by decide), State.get_set_same]
    rfl
  · rw [State.get_set_ne (f := CRD_CNT_LOADS_N) _ _ (by decide), State.get_set_ne (f := CRD_STATUS_LOADED) _ _ (by decide),
      State.get_set_ne (f := CRD_ACTIVE_SVN_SVN) _ _ (by decide), State.get_set_same]
    exact leAt_mod img 8 8
  · rw [State.get_set_ne (f := CRD_CNT_LOADS_N) _ _ (by decide), State.get_set_ne (f := CRD_STATUS_LOADED) _ _ (by decide), State.get_set_same]
    exact leAt_mod img 28 4
  · rw [State.get_set_same, State.get_set_ne (f := CRD_STATUS_LOADED) _ _ (by decide), State.get_set_ne (f := CRD_ACTIVE_SVN_SVN) _ _ (by decide),
      State.get_set_ne (f := CRD_ACTIVE_ID_ID) _ _ (by decide)]
    rfl

/-- The registers show the image that a commit has put in force, and the flash's map follows. -/
def State.showActive (s : State) (img : List Byte) : State :=
  let m := sha384 (img.take (leAt img 20 4))
  let s := s.showImage img
  let s := (s.tiers.map.map Prod.fst).foldl (fun s k => s.mapShow k) s
  (List.range 6).foldl (fun s i => s.set (CRD_ACTIVE_DIGEST_DIGEST i) (leAt m (8 * i) 8)) s

/-- The map's entries that follow go to memory alone, and with no entry nothing does. -/
theorem State.mapShows_onlyStores (l : List Nat) (s : State) : OnlyStores s (l.foldl (fun s k => s.mapShow k) s) [] := by
  refine List.foldlRecOn (motive := fun t => OnlyStores s t []) _ _ (.refl s []) fun t ht k _ => ?_
  unfold State.mapShow
  split
  · exact ht
  · dsimp only
    split
    · exact ht
    · exact ht.trans ⟨rfl, fun _ _ => rfl⟩

/-- What the registers show of an image besides its digest stays as its digest is shown. -/
theorem State.showDigest_spec (s : State) (m : List Byte) {t : State}
    (ht : (List.range 6).foldl (fun s i => s.set (CRD_ACTIVE_DIGEST_DIGEST i) (leAt m (8 * i) 8)) s = t) :
    OnlyFields s t ((List.range 6).map CRD_ACTIVE_DIGEST_DIGEST) ∧ (∀ f : Fld, f.key < 8 * 0x300100 → t.get f = s.get f)
      ∧ ∀ i, i < 6 → t.get (CRD_ACTIVE_DIGEST_DIGEST i) = leAt m (8 * i) 8 := by
  subst ht
  have honly := State.foldl_set_onlyFields CRD_ACTIVE_DIGEST_DIGEST (fun i => leAt m (8 * i) 8) (List.range 6) s
  have hinj (i j : Nat) (h : (CRD_ACTIVE_DIGEST_DIGEST i).key = (CRD_ACTIVE_DIGEST_DIGEST j).key) : i = j := by
    simp only [CRD_ACTIVE_DIGEST_DIGEST] at h
    omega
  refine ⟨honly, fun f hf => honly.2 f fun h => ?_, fun i hi => ?_⟩
  · obtain ⟨g, hg, hkey⟩ := List.mem_map.1 h
    obtain ⟨i, -, rfl⟩ := List.mem_map.1 hg
    simp only [CRD_ACTIVE_DIGEST_DIGEST] at hkey
    omega
  · exact (State.foldl_set_get (fun i => leAt m (8 * i) 8) hinj (List.mem_range.2 hi) s).trans (leAt_mod m (8 * i) 8)

theorem State.showActive_spec (s : State) (img : List Byte) {t : State} (ht : s.showActive img = t) :
    SameFields s t activeFields ∧ t.card = s.card ∧ (s.tiers.map = [] → t.mem = s.mem) ∧ t.get CRD_STATUS_LOADED = 1
      ∧ t.get CRD_ACTIVE_ID_ID = leAt img 8 8 ∧ t.get CRD_ACTIVE_SVN_SVN = leAt img 28 4
      ∧ (∀ i, i < 6 → t.get (CRD_ACTIVE_DIGEST_DIGEST i) = leAt (sha384 (img.take (leAt img 20 4))) (8 * i) 8)
      ∧ t.get CRD_CNT_LOADS_N = (s.get CRD_CNT_LOADS_N + 1) % 2 ^ 64 := by
  subst ht
  obtain ⟨himage, hloaded, hid, hsvn, hloads⟩ := s.showImage_spec img
  unfold State.showActive
  extract_lets m u v
  have hmap : u.tiers.map = s.tiers.map := (congrArg (fun x : State => x.tiers.map) himage.1 :)
  have hstores : OnlyStores u v [] := State.mapShows_onlyStores _ _
  have hnomap : s.tiers.map = [] → v = u := fun h => by
    unfold v
    rw [hmap, h]
    rfl
  obtain ⟨t, ht⟩ : ∃ t, (List.range 6).foldl (fun s i => s.set (CRD_ACTIVE_DIGEST_DIGEST i) (leAt m (8 * i) 8)) v = t := ⟨_, rfl⟩
  rw [ht]
  obtain ⟨hdigests, hbelow, hdigest⟩ := v.showDigest_spec m ht
  have hget {f : Fld} (hf : f.key < 8 * 0x300100) : t.get f = u.get f := (hbelow f hf).trans (hstores.fields f List.not_mem_nil)
  refine ⟨fun f hf => ?_, ?_, fun hnone => ?_, (hget (by decide)).trans hloaded, (hget (by decide)).trans hid, (hget (by decide)).trans hsvn, hdigest,
    (hget (by decide)).trans hloads⟩
  · refine (hdigests.2 f fun h => hf ?_).trans ((hstores.fields f List.not_mem_nil).trans (himage.2 f hf))
    rw [activeFields, List.map_append]
    exact List.mem_append_right _ h
  · exact (congrArg State.card hdigests.1 :).trans ((congrArg State.card hstores.frame :).trans (congrArg State.card himage.1 :))
  · exact (congrArg State.mem hdigests.1 :).trans ((congrArg State.mem (hnomap hnone)).trans (congrArg State.mem himage.1 :))

/-! ### The commit -/

/-- The state in which an image that passes its last checks is in force, before COMPAT follows it. -/
def State.committed (s : State) (l : CardLoad) (img : List Byte) (ps : List (Nat × RdData)) (ds : List (Nat × List Byte)) : State :=
  let s := s.withDrafts (if l.full then ds else ds.filter fun d => (s.maskLooms (secsOf img) l.mask).contains d.1)
  if l.full then s.commitFull (secsOf img) ps else s.commitFunction (secsOf img) l.mask ps

theorem State.cardFinish_refused {s : State} {l : CardLoad} {img : List Byte} {ps : List (Nat × RdData)} {ds : List (Nat × List Byte)} {b : CardBad}
    (h : s.cardLate l (secsOf img) ps = some b) : s.cardFinish l img ps ds = s.cardDone b := by
  simp only [State.cardFinish, h]

theorem State.cardFinish_passed {s : State} {l : CardLoad} {img : List Byte} {ps : List (Nat × RdData)} {ds : List (Nat × List Byte)}
    (h : s.cardLate l (secsOf img) ps = none) :
    s.cardFinish l img ps ds = (((s.committed l img ps ds).bindCompat).showActive img).cardDone (0, 0, 0) := by
  simp only [State.cardFinish, h]
  rfl

theorem State.committed_keeps (s : State) (l : CardLoad) (img : List Byte) (ps : List (Nat × RdData)) (ds : List (Nat × List Byte)) :
    (s.committed l img ps ds).card = secsOf img ∧ (s.committed l img ps ds).tiers.map = s.tiers.map
      ∧ ∀ f ∈ [CRD_CNT_LOADS_N, CRD_CNT_REFUSED_N], (s.committed l img ps ds).get f = s.get f := by
  have hdrafts : KeepsCard s (s.withDrafts (if l.full then ds else ds.filter fun d => (s.maskLooms (secsOf img) l.mask).contains d.1)) :=
    (KeepsCard.refl s).withDrafts
  unfold State.committed
  dsimp only
  generalize s.withDrafts _ = v at hdrafts ⊢
  have hcommit : KeepsCard { v with card := secsOf img }
      (if l.full then v.commitFull (secsOf img) ps else v.commitFunction (secsOf img) l.mask ps) := .ite .commitFull .commitFunction
  generalize (if l.full then v.commitFull (secsOf img) ps else v.commitFunction (secsOf img) l.mask ps) = w at hcommit ⊢
  exact ⟨hcommit.card, hcommit.map.trans hdrafts.map, fun f hf => (hcommit.get f hf).trans (hdrafts.get f hf)⟩

theorem activeFields_key : ∀ f ∈ activeFields, f.key < 8 * 0x301000 := by decide

theorem compat_offActive (n : Nat) : (ACC_STATUS_COMPAT n).key ∉ activeFields.map Fld.key := fun h => by
  obtain ⟨f, hf, hkey⟩ := List.mem_map.1 h
  have := activeFields_key f hf
  simp only [ACC_STATUS_COMPAT] at hkey
  omega

theorem refused_offActive : CRD_CNT_REFUSED_N.key ∉ activeFields.map Fld.key := by decide

theorem compat_offLoadEnd (n : Nat) : (ACC_STATUS_COMPAT n).key ∉ loadEndFields.map Fld.key := by
  simp only [loadEndFields, List.map_cons, List.map_nil, List.mem_cons, List.not_mem_nil, or_false, ACC_STATUS_COMPAT, CRD_LOAD_STS_STS,
    CRD_LOAD_STS_SECT, CRD_LOAD_STS_INDEX, CRD_STATUS_BUSY]
  omega

theorem count_offCompat : ∀ f ∈ [CRD_CNT_LOADS_N, CRD_CNT_REFUSED_N], f.key ∉ ((List.range 144).map ACC_STATUS_COMPAT).map Fld.key := by
  intro f hf h
  have hlow := (KeepsCard.counts_key hf).2
  obtain ⟨g, hg, hkey⟩ := List.mem_map.1 h
  obtain ⟨n, -, rfl⟩ := List.mem_map.1 hg
  simp only [ACC_STATUS_COMPAT] at hkey
  omega

/-- What a load that commits leaves, from the state w in which its sections are in force. -/
theorem committed_shows {w t : State} {img : List Byte} (ht : (w.bindCompat.showActive img).cardDone (0, 0, 0) = t) :
    t.crd = none ∧ t.get CRD_STATUS_BUSY = 0 ∧ t.get CRD_LOAD_STS_STS = 0 ∧ t.get CRD_STATUS_LOADED = 1 ∧ t.card = w.card
      ∧ t.get CRD_ACTIVE_ID_ID = leAt img 8 8 ∧ t.get CRD_ACTIVE_SVN_SVN = leAt img 28 4
      ∧ (∀ i, i < 6 → t.get (CRD_ACTIVE_DIGEST_DIGEST i) = leAt (sha384 (img.take (leAt img 20 4))) (8 * i) 8)
      ∧ t.get CRD_CNT_LOADS_N = (w.get CRD_CNT_LOADS_N + 1) % 2 ^ 64 ∧ t.get CRD_CNT_REFUSED_N = w.get CRD_CNT_REFUSED_N
      ∧ (∀ n, n < 144 → t.get (ACC_STATUS_COMPAT n) = w.boundCompat n) ∧ (w.tiers.map = [] → t.mem = w.mem) := by
  obtain ⟨hbind, hcompat⟩ := w.bindCompat_spec
  generalize w.bindCompat = y at ht hbind hcompat
  have hmap : y.tiers.map = w.tiers.map := (congrArg (fun x : State => x.tiers.map) hbind.1 :)
  have hcard : y.card = w.card := (congrArg State.card hbind.1 :)
  have hmem : y.mem = w.mem := (congrArg State.mem hbind.1 :)
  obtain ⟨hactive, hcard', hmem', hloaded, hid, hsvn, hdigest, hloads⟩ := y.showActive_spec img rfl
  generalize y.showActive img = z at ht hactive hcard' hmem' hloaded hid hsvn hdigest hloads
  obtain ⟨hnone, hbusy, hsts, -, hend, -, hcard'', hmem'', -⟩ := z.cardDone_spec (0, 0, 0)
  rw [if_pos rfl, List.append_nil] at hend
  rw [ht] at hnone hbusy hsts hend hcard'' hmem''
  refine ⟨hnone, hbusy, hsts, (hend _ (by decide)).trans hloaded, hcard''.trans (hcard'.trans hcard), (hend _ (by decide)).trans hid,
    (hend _ (by decide)).trans hsvn, fun i hi => (hend _ ?_).trans (hdigest i hi), ?_, ?_, fun n hn => ?_, fun hno => ?_⟩
  · simp only [loadEndFields, List.map_cons, List.map_nil, List.mem_cons, List.not_mem_nil, or_false, CRD_ACTIVE_DIGEST_DIGEST, CRD_LOAD_STS_STS,
      CRD_LOAD_STS_SECT, CRD_LOAD_STS_INDEX, CRD_STATUS_BUSY]
    omega
  · rw [hend _ (by decide), hloads, hbind.2 _ (count_offCompat _ (by simp))]
  · rw [hend _ (by decide), hactive _ refused_offActive, hbind.2 _ (count_offCompat _ (by simp))]
  · rw [hend _ (compat_offLoadEnd n), hactive _ (compat_offActive n), hcompat n hn]
  · exact hmem''.trans ((hmem' (hmap.trans hno)).trans hmem)

theorem cardLoadsEnd : CardLoadsEnd := by
  intro s r u l flashBad failed img len ds hcrd hwait hawake hread
  have hexec := exec_cardCommit flashBad hcrd hwait hawake
  refine ⟨fun area hflash hbad => ⟨_, hexec, ?_⟩, fun b hchecks => ⟨_, hexec, ?_⟩, fun hchecks => ⟨fun a n hneed => ⟨_, hexec, ?_⟩,
    fun ps rest v hdone => ⟨fun b hlate => ⟨_, hexec, ?_⟩, fun hlate => ⟨_, hexec, ?_⟩⟩⟩⟩
  · rw [hbad, cardCommit_flashBad hflash]
    exact (CardReads.refl s).refused _
  · rw [cardCommit_refused hread hchecks]
    exact (CardReads.ofChecks hread hchecks).refused b
  · exact cardCommit_need hcrd hread hchecks hneed
  · rw [cardCommit_done hread hchecks hdone, State.cardFinish_refused hlate]
    exact (CardReads.ofProfiles hread hchecks hdone).refused b
  · have hv := CardReads.ofProfiles hread hchecks hdone
    rw [cardCommit_done hread hchecks hdone, State.cardFinish_passed hlate]
    obtain ⟨hcard, hmap, hcounts⟩ := v.committed_keeps l img ps ds
    generalize v.committed l img ps ds = w at hcard hmap hcounts
    obtain ⟨t, ht⟩ : ∃ t, (w.bindCompat.showActive img).cardDone (0, 0, 0) = t := ⟨_, rfl⟩
    obtain ⟨hnone, hbusy, hsts, hloaded, hcard', hid, hsvn, hdigest, hloads, hrefused, hcompat, hmem⟩ := committed_shows ht
    rw [ht]
    refine ⟨hnone, hbusy, hsts, hloaded, hcard'.trans hcard, hid, hsvn, hdigest, ?_, ?_, fun n hn hbolt => ?_, fun hno n hn hbolt => ?_⟩
    · rw [hloads, hcounts _ (by simp), hv.get _ (by simp)]
    · rw [hrefused, hcounts _ (by simp), hv.get _ (by simp)]
    · rw [hcompat n hn, State.boundCompat, ← State.boltOf_of_card hcard', hbolt]
      rfl
    · rw [hcompat n hn, State.boundCompat, ← State.boltOf_of_card hcard', if_pos (Option.isSome_iff_ne_none.2 hbolt),
        State.draftNat_of_mem (hmem (hmap.trans hno))]

/-- Settles O42: a load's begin or refusal at once, and its end, refused, waiting or whole. -/
theorem cardLoadsRun : Obligations.CardLoadsRun := ⟨cardLoadsBegin, cardLoadsEnd⟩

end Sys2Proof.Machine
end

section
/-! PROOF. The check word of a tile header, and what the check reads of a load (R107, R108). -/
namespace Sys2Proof.Machine

/-- A header that passes the checks before the check word fails there exactly where its eight words do not sum to 0xFFFF. -/
theorem hdrStatus_ne_five_iff {kind h : Nat} {table : Option CodeTable} (hbefore : hdrStatus kind table h ∉ [1, 2, 3, 4]) :
    hdrStatus kind table h ≠ 5 ↔ (hdrWords h).sum % 65536 = 0xFFFF := by
  unfold hdrStatus at hbefore ⊢
  dsimp only at hbefore ⊢
  split_ifs at hbefore ⊢ with _ _ _ _ hsum
  iterate 4 exact absurd (by simp) hbefore
  all_goals simpa using hsum

/-- The eight words of a header are the seven that its check word covers, and the check word. -/
theorem hdrWords_sum (h : Nat) : (hdrWords h).sum = ((List.range 7).map fun i => bits h (16 * i) 16).sum + bits h 112 16 := by
  rw [hdrWords, List.range_succ, List.map_append, List.sum_append]
  rfl

/-- The check word is the complement of the other words' sum exactly where all eight sum to 0xFFFF. -/
theorem checkWord_eq_iff (h : Nat) : bits h 112 16 = 65535 - ((List.range 7).map fun i => bits h (16 * i) 16).sum % 65536
    ↔ (hdrWords h).sum % 65536 = 0xFFFF := by
  have hword : bits h 112 16 < 65536 := Nat.mod_lt _ (by decide)
  rw [hdrWords_sum]
  omega

/-- Settles O58: the sum of the header's eight words decides the check, whatever the payload. -/
theorem headerCheckWord : Obligations.HeaderCheckWord :=
  ⟨fun _ h _ hbefore => (hdrStatus_ne_five_iff hbefore).trans (checkWord_eq_iff h).symm, checkWord_eq_iff,
    fun _ _ _ _ _ => State.tloadResult_status_congr⟩

end Sys2Proof.Machine
end

section
/-! PROOF. What the loads of the loom DMA share: records, a settled loom's engines, and bits of a field that is replaced in part (R114, R131, R248). -/
namespace Sys2Proof.Machine

/-! ### Records -/

/-- From s to t only the waiting error records and their counts change. -/
def OnlyRecords (s t : State) : Prop := { t with errs := s.errs, errDropped := s.errDropped } = s

namespace OnlyRecords
variable {s t : State}

theorem refl (s : State) : OnlyRecords s s := rfl

theorem report (h : OnlyRecords s t) (r : ErrRec) : OnlyRecords s (t.report r) :=
  (congrArg (fun u : State => { u with errs := s.errs, errDropped := s.errDropped }) (t.report_frame r) :).trans h

theorem lm (h : OnlyRecords s t) (m : Nat) : t.lm m = s.lm m := (congrArg (fun u : State => u.lm m) h :)
theorem get (h : OnlyRecords s t) (f : Fld) : t.get f = s.get f := (congrArg (fun u : State => u.get f) h :)
theorem sameMemory (h : OnlyRecords s t) : SameMemory s t := 
  ⟨fun a => (congrArg (fun u : State => u.byteAt a) h :), (congrArg State.poison h :)⟩

end OnlyRecords

/-- An engine's reads count the poison they meet and record what lies beyond the scratchpad (R259, R533). -/
theorem State.dataReads_onlyRecords (s : State) (n unit : Nat) (ranges : List (Nat × Nat)) :
    OnlyRecords (s.countPoison n ranges) (s.dataReads n unit ranges) :=
  List.foldlRecOn (motive := OnlyRecords _) _ _ (.refl _) fun _ h _ _ => h.report _

theorem SameMemory.trans {s t u : State} (h : SameMemory s t) (g : SameMemory t u) : SameMemory s u :=
  ⟨fun a => (g.1 a).trans (h.1 a), g.2.trans h.2⟩

/-! ### A loom that settles -/

/-- Of its own loom, settling changes the sequencer alone. -/
theorem State.settle_lm (s : State) (n : Nat) : { (s.settle n).lm n with seq := (s.lm n).seq } = s.lm n := by
  have hlooms : (s.returnCredits n).lm n = s.lm n := congrArg (fun l => tget Loom.reset l n) (s.returnCredits_onlyFields n).looms
  unfold State.settle
  split
  · rw [State.closeTile, State.lm_modSeq_same, hlooms]
  · rfl

@[simp] theorem State.settle_dma (s : State) (n : Nat) : ((s.settle n).lm n).dma = (s.lm n).dma := (congrArg Loom.dma (s.settle_lm n) :)

/-- A register of a loom's window is none that settling writes. -/
theorem State.settle_get_loom (s : State) (n : LoomNo) {f : Fld} (hf : 8 * lwin 0 ≤ f.key) : (s.settle n).get f = s.get f := by
  refine s.settle_get n ?_
  simp only [lwin] at hf
  simp only [List.map_cons, List.map_nil, List.mem_cons, List.not_mem_nil, or_false, LDG_CREDIT_HELD, LDG_STATUS_OUTSTANDING, LDG_STATUS_FREE,
    LDG_HEAD_VALID, LDG_HEAD_LOOM, LDG_HEAD_REQ]
  omega

/-! ### Bits -/

theorem bits_putBits (v lo w x : Nat) : bits (putBits v lo w x) lo w = x % 2 ^ w := by
  refine Nat.eq_of_testBit_eq fun j => ?_
  rw [testBit_bits, testBit_putBits, Nat.testBit_mod_two_pow]
  by_cases hj : j < w
  · simp [hj]
  · simp [hj]

theorem bits_mod_two_pow {v lo w m : Nat} (h : lo + w ≤ m) : bits (v % 2 ^ m) lo w = bits v lo w := by
  refine Nat.eq_of_testBit_eq fun j => ?_
  rw [testBit_bits, testBit_bits, Nat.testBit_mod_two_pow]
  by_cases hj : j < w
  · simp [show lo + j < m by omega]
  · simp [hj]

/-- A register whose bits from lo on were replaced shows there what they were replaced by. -/
theorem State.bits_get_set_putBits (s : State) {f : Fld} {lo w x : Nat} (v : Nat) (hwidth : lo + w ≤ f.width) (hx : x < 2 ^ w) :
    bits ((s.set f (putBits v lo w x)).get f) lo w = x := by
  rw [State.get_set_same, bits_mod_two_pow hwidth, bits_putBits, Nat.mod_eq_of_lt hx]

theorem b2n_lt_two (b : Bool) : b2n b < 2 := by cases b <;> decide

end Sys2Proof.Machine
end

section
/-! PROOF. TLOAD and TBLLOAD at issue (R108, R114, R131, R153). -/
namespace Sys2Proof.Machine

/-- A DMA word whose block is lawful and names a table slot is what the operation makes of it. -/
theorem State.dmaIssue_ok {s : State} {n : LoomNo} {op nslots tslot : Nat} {k : DWord → Block → State} {w : DWord}
    (hw : s.fetchWord n 3 op = .ok w) (hblock : LawfulBlock s n w 0xCF0 nslots) (hslot : (blockOf (s.blockBytes n w.arg)).slot tslot ≤ 3) :
    s.dmaIssue n op nslots tslot k = k w (blockOf (s.blockBytes n w.arg)) := by
  refine (State.issue_ok hw).trans (if_neg ?_)
  simp [hblock.1, hblock.2, hslot]

@[simp] theorem State.advance_arr (s : State) (n : Nat) (w : DWord) : ((s.advance n w).lm n).arr = (s.lm n).arr := by
  simp [State.advance, State.spanUnit]

@[simp] theorem State.advance_dma (s : State) (n : Nat) (w : DWord) : ((s.advance n w).lm n).dma = (s.lm n).dma := by
  simp [State.advance, State.spanUnit]

/-- A word that issues without memory events has issued once what its reads found is forgotten. -/
theorem issued_eccSeen {s t : State} {n : LoomNo} (h : Issued s t n) : Issued s (t.eccSeen n) n := by
  obtain ⟨hnext, hpc⟩ := h
  exact ⟨(congrArg Seq.next (t.eccSeen_seq n)).trans hnext, hpc⟩

theorem State.withEvents_issued {s : State} {n : LoomNo} {f : State → State} (h : Issued s (f s) n) : s.withEvents n {} f = (f s).eccSeen n :=
  State.withEvents_none (by have := h.1; omega)

@[simp] theorem State.eccSeen_dma (s : State) (n : Nat) : ((s.eccSeen n).lm n).dma = (s.lm n).dma := by simp [State.eccSeen]
@[simp] theorem State.eccSeen_arr (s : State) (n : Nat) : ((s.eccSeen n).lm n).arr = (s.lm n).arr := by simp [State.eccSeen]

/-- The VALID bit of a weight buffer. -/
def wbufValid (n wb : Nat) : Fld := if wb = 0 then ARR_STATUS_WBUF0_VALID n else ARR_STATUS_WBUF1_VALID n

theorem wbufValid_width (n wb : Nat) : (wbufValid n wb).width = 1 := by
  unfold wbufValid
  split <;> rfl

theorem wbufValid_inLoom (n wb : Nat) : 8 * lwin 0 ≤ (wbufValid n wb).key := by
  unfold wbufValid
  split <;> simp only [lwin, ARR_STATUS_WBUF0_VALID, ARR_STATUS_WBUF1_VALID] <;> omega

/-- The load of a tile into a buffer begins: the buffer is not valid, and the registers show the header and its status. -/
def State.beginTile (s : State) (n wb tslot : Nat) (r : Nat × TileHdr × Option WBuf) : State :=
  let u := (s.modArr n fun a => { a with bufs := a.bufs.set wb none }).modDma n fun d => { d with tload := some (wb, r.2.2, tslot) }
  let u := ((u.set (wbufValid n wb) 0).set (DMA_STATUS_TILE_BUSY n) 1).set (DMA_LOAD_STS_STS n) r.1
  ((u.set (DMA_LOAD_STS_WBUF n) wb).set (DMA_LOAD_STS_FORM n) r.2.1.form).set (DMA_LOAD_STS_DECODE_CYCLES n) r.2.1.decode

theorem State.beginTile_onlyLoom (s : State) (n wb tslot : Nat) (r : Nat × TileHdr × Option WBuf) : OnlyLoom s (s.beginTile n wb tslot r) n
    [wbufValid n wb, DMA_STATUS_TILE_BUSY n, DMA_LOAD_STS_STS n, DMA_LOAD_STS_WBUF n, DMA_LOAD_STS_FORM n, DMA_LOAD_STS_DECODE_CYCLES n] :=
  have hloom := ((((OnlyFields.refl s _).onlyLoom n).setLm _).setLm _)
  (((((hloom.set _ _ (by simp)).set _ _ (by simp)).set _ _ (by simp)).set _ _ (by simp)).set _ _ (by simp)).set _ _ (by simp)

theorem State.beginTile_spec (s : State) (n wb tslot : Nat) (r : Nat × TileHdr × Option WBuf) :
    ((s.beginTile n wb tslot r).lm n).seq = (s.lm n).seq
      ∧ ((s.beginTile n wb tslot r).lm n).dma.tload = some (wb, r.2.2, tslot)
      ∧ ((s.beginTile n wb tslot r).lm n).arr.bufs = (s.lm n).arr.bufs.set wb none
      ∧ (s.beginTile n wb tslot r).get (DMA_STATUS_TILE_BUSY n) = 1
      ∧ (s.beginTile n wb tslot r).get (DMA_LOAD_STS_STS n) = r.1 % 2 ^ (DMA_LOAD_STS_STS n).width := by
  have hkeys : (DMA_STATUS_TILE_BUSY n).key < (DMA_LOAD_STS_STS n).key ∧ (DMA_LOAD_STS_STS n).key < (DMA_LOAD_STS_WBUF n).key
      ∧ (DMA_LOAD_STS_WBUF n).key < (DMA_LOAD_STS_FORM n).key ∧ (DMA_LOAD_STS_FORM n).key < (DMA_LOAD_STS_DECODE_CYCLES n).key := by
    simp only [DMA_STATUS_TILE_BUSY, DMA_LOAD_STS_STS, DMA_LOAD_STS_WBUF, DMA_LOAD_STS_FORM, DMA_LOAD_STS_DECODE_CYCLES]
    omega
  refine ⟨by simp [State.beginTile], by simp [State.beginTile], by simp [State.beginTile], ?_, ?_⟩
  · rw [State.beginTile, State.get_set_ne _ _ (by omega), State.get_set_ne _ _ (by omega), State.get_set_ne _ _ (by omega),
      State.get_set_ne _ _ (by omega), State.get_set_same]
    rfl
  · rw [State.beginTile, State.get_set_ne _ _ (by omega), State.get_set_ne _ _ (by omega), State.get_set_ne _ _ (by omega), State.get_set_same]

theorem State.beginTile_pc (s : State) (n wb tslot : Nat) (r : Nat × TileHdr × Option WBuf) :
    (s.beginTile n wb tslot r).get (LOOM_PC_PC n) = s.get (LOOM_PC_PC n) := by
  obtain ⟨-, -, hfields⟩ := s.beginTile_onlyLoom n wb tslot r
  refine hfields _ ?_
  have hvalid : (LOOM_PC_PC n).key ≠ (wbufValid n wb).key := by
    unfold wbufValid
    split <;> simp only [LOOM_PC_PC, ARR_STATUS_WBUF0_VALID, ARR_STATUS_WBUF1_VALID] <;> omega
  simp only [List.map_cons, List.map_nil, List.mem_cons, List.not_mem_nil, or_false, hvalid, false_or]
  simp only [LOOM_PC_PC, DMA_STATUS_TILE_BUSY, DMA_LOAD_STS_STS, DMA_LOAD_STS_WBUF, DMA_LOAD_STS_FORM, DMA_LOAD_STS_DECODE_CYCLES]
  omega

/-- A header that was refused is counted and recorded; one that passed is not. -/
def State.tileRefusal (s : State) (n : Nat) (st : Nat) (r : ErrRec) : State :=
  if st = 0 then s else (s.add (DMA_CNT_REFUSED_REFUSED n) 1).report r

theorem State.tileRefusal_keeps (s : State) (n st : Nat) (r : ErrRec) : SameMemory s (s.tileRefusal n st r)
    ∧ (∀ m, (s.tileRefusal n st r).lm m = s.lm m)
    ∧ ∀ f : Fld, f.key ≠ (DMA_CNT_REFUSED_REFUSED n).key → (s.tileRefusal n st r).get f = s.get f := by
  unfold State.tileRefusal
  split
  · exact ⟨⟨fun _ => rfl, rfl⟩, fun _ => rfl, fun _ _ => rfl⟩
  · have hrec := (OnlyRecords.refl (s.add (DMA_CNT_REFUSED_REFUSED n) 1)).report r
    exact ⟨hrec.sameMemory, hrec.lm, fun f hf => (hrec.get f).trans (State.get_add_ne s 1 hf)⟩


/-- A TLOAD word whose block is lawful begins the load, and notes the refusal of a header that fails a check. -/
theorem exec_tload {s : State} {n : LoomNo} {w : DWord} {b : Block} {r : Nat × TileHdr × Option WBuf} (hw : s.fetchWord n 3 0 = .ok w)
    (hblock : LawfulBlock s n w 0xCF0 3) (hb : b = blockOf (s.blockBytes n w.arg)) (htable : b.slot 1 ≤ 3) (hbuf : b.slot 0 ≤ 1)
    (hpad : inSpad n [(b.slot 2, 16)] = true) (hr : r = s.tloadResult n (b.slot 1) (b.slot 2)) :
    ∃ (f : State → State) (reads : List (Nat × Nat)) (e : ErrRec), exec (.tload n {}) s = .next (s.withEvents n {} f)
      ∧ f s = (((s.advance n w).dataReads n 3 reads).beginTile n (b.slot 0) (b.slot 1) r).tileRefusal n r.1 e := by
  refine ⟨_, [(b.slot 2, if r.1 = 0 then 16 + r.2.1.len else 16)],
    mkRec 4 n (0x200 + r.1) 2 (some (lwin n + b.slot 2)) (s.stepOf n) 0 [], rfl, ?_⟩
  subst hb
  refine (State.dmaIssue_ok hw hblock htable).trans ((if_neg ?_).trans ?_)
  · simp [hpad, hbuf]
  · rw [← hr]
    rfl

theorem tileLoadStarts : TileLoadStarts := by
  intro n s w hw hblock htable hbuf hpad
  generalize hb : blockOf (s.blockBytes n w.arg) = b at htable hbuf hpad ⊢
  generalize hr : s.tloadResult n (b.slot 1) (b.slot 2) = r
  obtain ⟨f, reads, e, hexec, hf⟩ := exec_tload hw hblock hb.symm htable hbuf hpad hr.symm
  obtain ⟨honly, hnext, hpc⟩ := issued_counted s n w reads
  have harr : (((s.advance n w).countPoison n reads).lm n).arr = (s.lm n).arr := by
    rw [State.countPoison_lm, State.advance_arr]
  have hreads := (s.advance n w).dataReads_onlyRecords n 3 reads
  generalize (s.advance n w).countPoison n reads = u at honly hnext hpc harr hreads
  generalize (s.advance n w).dataReads n 3 reads = v at hf hreads
  have hbegun := v.beginTile_onlyLoom n (b.slot 0) (b.slot 1) r
  have hpcBegun := v.beginTile_pc n (b.slot 0) (b.slot 1) r
  obtain ⟨hseq, htload, hbufs, hbusy, hsts⟩ := v.beginTile_spec n (b.slot 0) (b.slot 1) r
  generalize v.beginTile n (b.slot 0) (b.slot 1) r = x at hf hbegun hpcBegun hseq htload hbufs hbusy hsts
  obtain ⟨hmem, hlm, hget⟩ := x.tileRefusal_keeps n r.1 e
  rw [← hf] at hmem hlm hget
  have hissued : Issued s (f s) n := by
    refine ⟨?_, (hget _ ?_).trans (hpcBegun.trans ((hreads.get _).trans hpc))⟩
    · rw [hlm, hseq, hreads.lm, hnext]
    · simp only [LOOM_PC_PC, DMA_CNT_REFUSED_REFUSED]
      omega
  have hseen := (f s).eccSeen_frame n
  refine ⟨_, hexec.trans (congrArg Host.Outcome.next (State.withEvents_issued hissued)), issued_eccSeen hissued, ?_, ?_,
    (hget _ ?_).trans hbusy, (hget _ ?_).trans hsts, ?_, fun m hm => ?_⟩
  · rw [State.eccSeen_dma, hlm, htload]
  · rw [State.eccSeen_arr, hlm, hbufs, hreads.lm, harr]
  · simp only [DMA_STATUS_TILE_BUSY, DMA_CNT_REFUSED_REFUSED]
    omega
  · simp only [DMA_LOAD_STS_STS, DMA_CNT_REFUSED_REFUSED]
    omega
  · exact honly.sameMemory.trans (hreads.sameMemory.trans (hbegun.sameMemory.trans (hmem.trans hseen.sameMemory)))
  · obtain ⟨-, hothers, -⟩ := hbegun
    obtain ⟨-, hissuedOthers, -⟩ := honly
    calc ((f s).eccSeen n).lm m = (f s).lm m := State.lm_modSpd_ne _ _ hm
      _ = x.lm m := hlm m
      _ = v.lm m := hothers m hm
      _ = u.lm m := hreads.lm m
      _ = s.lm m := hissuedOthers m hm

theorem exec_tblload {s : State} {n : LoomNo} {w : DWord} {b : Block} {st : Nat} (hw : s.fetchWord n 3 3 = .ok w)
    (hblock : LawfulBlock s n w 0xCF0 2) (hb : b = blockOf (s.blockBytes n w.arg)) (hslot : b.slot 0 ≤ 3)
    (hpad : inSpad n [(b.slot 1, 128)] = true) (hst : st = tableStatus (s.spRead n (b.slot 1) 128) (s.spPoisoned n (b.slot 1) 128)) :
    ∃ f : State → State, exec (.tblload n {}) s = .next (s.withEvents n {} f)
      ∧ f s = ((s.advance n w).countPoison n [(b.slot 1, 128)]).modDma n fun d =>
          { d with tbl := some (b.slot 0, st, if st = 0 then some (tableOf (s.spRead n (b.slot 1) 128)) else none) } := by
  subst hb hst
  refine ⟨_, rfl, (State.dmaIssue_ok hw hblock hslot).trans (if_neg ?_)⟩
  simp [hpad]

theorem tableLoadStarts : TableLoadStarts := by
  intro n s w b l st hw hblock hb hslot hpad hl hst
  subst hl
  obtain ⟨f, hexec, hf⟩ := exec_tblload hw hblock hb hslot hpad hst
  obtain ⟨honly, hcounted⟩ := issued_counted s n w [(b.slot 1, 128)]
  have hdma : (((s.advance n w).countPoison n [(b.slot 1, 128)]).lm n).dma = (s.lm n).dma := by
    rw [State.countPoison_lm, State.advance_dma]
  generalize (s.advance n w).countPoison n [(b.slot 1, 128)] = u at hf honly hcounted hdma
  have hissued : Issued s (f s) n := by
    obtain ⟨hnext, hpc⟩ := hcounted
    rw [hf]
    exact ⟨by rw [State.lm_modDma_same, hnext], hpc⟩
  refine ⟨_, hexec.trans (congrArg Host.Outcome.next (State.withEvents_issued hissued)), issued_eccSeen hissued, ?_, ?_, ?_⟩
  · rw [State.eccSeen_dma, hf, State.lm_modDma_same]
  · rw [State.eccSeen_dma, hf, State.lm_modDma_same, hdma]
  · rw [hf]
    exact (honly.setLm _).setLm _

end Sys2Proof.Machine
end

section
/-! PROOF. The ends of the loads of the loom DMA: the buffer and the table slot, and the statement of the loads together (R114, R131, R153). -/
namespace Sys2Proof.Machine

/-- The load of a buffer has ended: the buffer holds what the load found. -/
def State.endTile (s : State) (n wb : Nat) (buf : Option WBuf) : State :=
  let u := (s.modDma n fun d => { d with tload := none }).modArr n fun a => { a with bufs := a.bufs.set wb buf }
  (u.set (DMA_STATUS_TILE_BUSY n) 0).set (wbufValid n wb) (b2n buf.isSome)

theorem exec_tloadDone {s : State} {n : LoomNo} {wb k : Nat} {buf : Option WBuf} (hrun : s.frozen n = false)
    (hload : (s.lm n).dma.tload = some (wb, buf, k)) : exec (.tloadDone n) s = .next ((s.endTile n wb buf).settle n) := by
  refine congrArg Host.Outcome.next ((if_neg (by simp [State.still, hrun])).trans ?_)
  rw [hload]
  rfl

theorem State.endTile_spec (s : State) (n wb : Nat) (buf : Option WBuf) :
    ((s.endTile n wb buf).lm n).dma.tload = none ∧ ((s.endTile n wb buf).lm n).arr.bufs = (s.lm n).arr.bufs.set wb buf
      ∧ (s.endTile n wb buf).get (DMA_STATUS_TILE_BUSY n) = 0 ∧ (s.endTile n wb buf).get (wbufValid n wb) = b2n buf.isSome
      ∧ OnlyLoom s (s.endTile n wb buf) n [DMA_STATUS_TILE_BUSY n, wbufValid n wb] := by
  have hvalid : (DMA_STATUS_TILE_BUSY n).key ≠ (wbufValid n wb).key := by
    unfold wbufValid
    split <;> simp only [DMA_STATUS_TILE_BUSY, ARR_STATUS_WBUF0_VALID, ARR_STATUS_WBUF1_VALID] <;> omega
  have hbit : b2n buf.isSome % 2 ^ (wbufValid n wb).width = b2n buf.isSome := by
    rw [wbufValid_width]
    exact Nat.mod_eq_of_lt (b2n_lt_two _)
  refine ⟨by simp [State.endTile], by simp [State.endTile], ?_, (State.get_set_same _ _ _).trans hbit,
    (((((OnlyFields.refl s _).onlyLoom n).setLm _).setLm _).set _ _ (by simp)).set _ _ (by simp)⟩
  rw [State.endTile, State.get_set_ne _ _ hvalid, State.get_set_same]
  exact Nat.zero_mod _

/-- The load of a table slot has ended: the slot holds what the load found. -/
def State.endTable (s : State) (n k st : Nat) (tab : Option CodeTable) : State :=
  let u := s.modDma n fun d => { d with tbl := none, tables := d.tables.set k tab }
  let u := u.set (DMA_TBL_STS_STS n) (putBits (s.get (DMA_TBL_STS_STS n)) (4 * k) 4 st)
  let u := u.set (DMA_STATUS_TBL_VALID n) (putBits (s.get (DMA_STATUS_TBL_VALID n)) k 1 (b2n tab.isSome))
  (u.set (DMA_TBL_INFO_TAG n k) ((tab.map CodeTable.tag).getD 0)).set (DMA_TBL_INFO_ALPHABET n k) ((tab.map CodeTable.alphabet).getD 0)

theorem exec_tblloadDone {s : State} {n : LoomNo} {k st : Nat} {tab : Option CodeTable} (hrun : s.frozen n = false)
    (hload : (s.lm n).dma.tbl = some (k, st, tab)) : exec (.tblloadDone n) s = .next ((s.endTable n k st tab).settle n) := by
  refine congrArg Host.Outcome.next ((if_neg (by simp [State.still, hrun])).trans ?_)
  rw [hload]
  rfl

theorem State.endTable_spec (s : State) (n : Nat) {k st : Nat} (tab : Option CodeTable) (hk : k < 4) (hst : st < 16) :
    ((s.endTable n k st tab).lm n).dma.tbl = none ∧ ((s.endTable n k st tab).lm n).dma.tables = (s.lm n).dma.tables.set k tab
      ∧ bits ((s.endTable n k st tab).get (DMA_TBL_STS_STS n)) (4 * k) 4 = st
      ∧ bits ((s.endTable n k st tab).get (DMA_STATUS_TBL_VALID n)) k 1 = b2n tab.isSome
      ∧ OnlyLoom s (s.endTable n k st tab) n
          [DMA_TBL_STS_STS n, DMA_STATUS_TBL_VALID n, DMA_TBL_INFO_TAG n k, DMA_TBL_INFO_ALPHABET n k] := by
  have hkeys : (DMA_TBL_STS_STS n).key ≠ (DMA_TBL_INFO_ALPHABET n k).key ∧ (DMA_TBL_STS_STS n).key ≠ (DMA_TBL_INFO_TAG n k).key
      ∧ (DMA_TBL_STS_STS n).key ≠ (DMA_STATUS_TBL_VALID n).key ∧ (DMA_STATUS_TBL_VALID n).key ≠ (DMA_TBL_INFO_ALPHABET n k).key
      ∧ (DMA_STATUS_TBL_VALID n).key ≠ (DMA_TBL_INFO_TAG n k).key := by
    simp only [DMA_TBL_STS_STS, DMA_STATUS_TBL_VALID, DMA_TBL_INFO_TAG, DMA_TBL_INFO_ALPHABET]
    omega
  obtain ⟨hstsAlphabet, hstsTag, hstsValid, hvalidAlphabet, hvalidTag⟩ := hkeys
  refine ⟨by simp [State.endTable], by simp [State.endTable], ?_, ?_,
    (((((OnlyFields.refl s _).onlyLoom n).setLm _).set _ _ (by simp)).set _ _ (by simp)).set _ _ (by simp) |>.set _ _ (by simp)⟩
  · rw [State.endTable, State.get_set_ne _ _ hstsAlphabet, State.get_set_ne _ _ hstsTag, State.get_set_ne _ _ hstsValid]
    exact State.bits_get_set_putBits _ _ (by simp only [DMA_TBL_STS_STS]; omega) hst
  · rw [State.endTable, State.get_set_ne _ _ hvalidAlphabet, State.get_set_ne _ _ hvalidTag]
    exact State.bits_get_set_putBits _ _ (by simp only [DMA_STATUS_TBL_VALID]; omega) (b2n_lt_two _)

/-- What a loom has changed, with what its settling changes. -/
theorem OnlyLoom.settle {s t : State} {n : LoomNo} {fs : List Fld} (h : OnlyLoom s t n fs) : OnlyLoom s (t.settle n) n (fs ++ ledgerFields n) :=
  (h.mono (List.subset_append_left _ _)).trans ((t.settle_onlyLoom n).mono (List.subset_append_right fs _))

theorem loadsEnd : LoadsEnd := by
  refine fun n s hrun => ⟨fun wb buf k hload _ => ?_, fun k st tab hload hk hst => ?_⟩
  · obtain ⟨htload, hbufs, hbusy, hvalid, honly⟩ := s.endTile_spec n wb buf
    refine ⟨_, exec_tloadDone hrun hload, ?_, ?_, (State.settle_get_loom _ n ?_).trans hbusy,
      (State.settle_get_loom _ n (wbufValid_inLoom n wb)).trans hvalid, honly.settle⟩
    · rw [State.settle_dma, htload]
    · rw [State.settle_arr, hbufs]
    · simp only [lwin, DMA_STATUS_TILE_BUSY]
      omega
  · obtain ⟨htbl, htables, hsts, hvalid, honly⟩ := s.endTable_spec n tab hk hst
    refine ⟨_, exec_tblloadDone hrun hload, ?_, ?_, ?_, ?_, honly.settle⟩
    · rw [State.settle_dma, htbl]
    · rw [State.settle_dma, htables]
    · rw [State.settle_get_loom _ n (by simp only [lwin, DMA_TBL_STS_STS]; omega), hsts]
    · rw [State.settle_get_loom _ n (by simp only [lwin, DMA_STATUS_TBL_VALID]; omega), hvalid]

/-- Settles O13, part by part. -/
theorem weightsAndTablesLoad : Obligations.WeightsAndTablesLoad := ⟨tileLoadStarts, tableLoadStarts, loadsEnd⟩

end Sys2Proof.Machine
end
